-- ==== Sys2Proof/Word.lean ====
section
/-! DEFINITION. The word types of the block: bytes, and the index types of its units (R5, Table 0.3). -/
namespace Sys2Proof

/-- One byte of host data, XLB data or flit contents. -/
abbrev Byte := BitVec 8
/-- Stall die 0 to 7 (R5). -/
abbrev SDieIx := Fin 8
/-- Stall group 0 to 55 (R5). -/
abbrev GroupIx := Fin 56
/-- Stall lane 0 to 895 (R5). -/
abbrev SLaneIx := Fin 896
/-- Stall link 0 to 223 (R5). -/
abbrev LinkIx := Fin 224
/-- Tether die 0 to 3 (R5). -/
abbrev TDieIx := Fin 4
/-- Tether port 0 to 63 (R5). -/
abbrev PortIx := Fin 64
/-- Tether lane 0 to 511 (R5). -/
abbrev TLaneIx := Fin 512
/-- Shuttle 0 to 135 (R5). -/
abbrev ShutIx := Fin 136
/-- Loom port 0 to 32 (R5). -/
abbrev LoomIx := Fin 33
/-- Module-wide function number 0 to 511 (R5). -/
abbrev FnIx := Fin 512
/-- Queue 0 to 31 within a function (R5). -/
abbrev QIx := Fin 32
/-- Interrupt source 0 to 15 within a function (R5, R174). -/
abbrev SrcIx := Fin 16

end Sys2Proof
end

