-- ==== Sys2Proof/Syntax.lean ====
section
/-! DEFINITION. The commands of the block: one constructor of `Instr` per row of spec/opcode_table.json, with
operands of the model's choosing (the table gives none, log entry 1), and the types those operands need. -/
namespace Sys2Proof

/-- The strap levels sampled at cold reset (R333, Table 14.1). -/
structure Straps where
  img : BitVec 2
  haltId : BitVec 6
  safe : Bool
  refsel : Bool
  vinclass : Bool
  test : Bool
deriving DecidableEq, Repr

/-- A function record of the image (R75, Table 3.1). -/
structure FnRec where
  f : Nat
  vf : Bool
  parent : Nat
  pfIndex : Nat
  link : Nat
  standby : Option Nat
  port : Nat
  privileged : Bool
  table : Bool
  modes : Nat
  vendorId : Nat
  deviceId : Nat
  classCode : Nat
  ssvid : Nat
  ssid : Nat
  bar2 : Nat
  bar4 : Nat
  rom : Nat
  prefA : Bool
  prefB : Bool
  vectors : Nat
  intPin : Nat
  totalVfs : Nat
deriving DecidableEq, Repr

/-- One sub-window of a function (R102, R105, R106): window B when `winB`, number `s`. -/
structure SubWin where
  f : Nat
  winB : Bool
  s : Nat
  off : Nat
  size : Nat
  base : Nat
  attr : Nat
  name : List Byte
deriving DecidableEq, Repr

/-- One page override of the image (R107). -/
structure Override where
  f : Nat
  n : Nat
  winB : Bool
  page : Nat
  attr : Nat
  valid : Bool
deriving DecidableEq, Repr

/-- One assigned outbound window of a port (R127). -/
structure ObWin where
  port : Nat
  m : Nat
  owner : Nat
  base : Nat
  size : Nat
deriving DecidableEq, Repr

/-- One QUEUES record with the defaults of SHT_QCFG and SHT_QCOAL_TIME (R94, R133). -/
structure QueueRec where
  f : Nat
  n : Nat
  kmin : Nat
  kmax : Nat
  weave : Bool
  log2 : Nat
  msixEn : Bool
  vec : Nat
  coalCount : Nat
  coalTime : Nat
  name : List Byte
deriving DecidableEq, Repr

/-- Priority and targets of one source (R176, Table 7.5); `targets` lists (vector, enabled) from target 0. -/
structure SrcRec where
  f : Nat
  src : Nat
  prio : Nat
  targets : List (Nat × Bool)
  name : List Byte
deriving DecidableEq, Repr

/-- A named rein line of a function (R94). -/
structure ReinName where
  f : Nat
  out : Bool
  line : Nat
  name : List Byte
deriving DecidableEq, Repr

/-- One Weave program assigned to a slot (R166): the 64 bytes as one number, byte 0 lowest. -/
structure WeaveRec where
  f : Nat
  slot : Nat
  program : Nat
deriving DecidableEq, Repr

/-- The settings of one stall group, its group-wide ones from the STALL_GROUPS section (Table 9.8, R275). -/
structure GroupRec where
  g : Nat
  form : Nat
  clocking : Nat
  maxrate : Nat
  l0pEn : Bool
  aspmIdle : Nat
  economy : Bool
  tPowerOnUs : Nat
  ltrSnoop : Nat
  ltrNoSnoop : Nat
deriving DecidableEq, Repr

/-- The settings of one Stall die (Tables 8.5, 9.7, 12.13). -/
structure SDieRec where
  d : Nat
  fomTarget : Nat
  fomRetire : Nat
  presets : Nat
  bypass : Bool
  flrBound : Nat
  detectUs : Nat
deriving DecidableEq, Repr

/-- The settings of one Tether port and its slot (Tables 2.19 to 2.21, 10.15, 13.8). -/
structure PortRec where
  p : Nat
  maxver : Nat
  retryLimit : Nat
  retryGap : Nat
  timeoutUs : Nat
  fenceCount : Nat
  fenceWindow : Nat
  maxrate : Nat
  maxwidth : Nat
  keepalive : Nat
  replayLimit : Nat
  dozeEn : Bool
  idleNs : Nat
  ecoIdleNs : Nat
  economy : Bool
  slotOwner : Option Nat
  autoOn : Bool
  autoOff : Bool
  pwrgdMs : Nat
  prstDelay : Nat
  atnInd : Nat
  pwrInd : Nat
deriving DecidableEq, Repr

/-- The settings of one Tether die (Table 10.14). -/
structure TDieRec where
  t : Nat
  fomTarget : Nat
  fomRetire : Nat
  presets : Nat
deriving DecidableEq, Repr

/-- Threshold and window of one fault class (Table 12.2). -/
structure FaultRec where
  c : Nat
  threshold : Nat
  windowMs : Nat
deriving DecidableEq, Repr

/-- The POWER section (Table 13.7, R320). -/
structure PowerRec where
  slew : Nat
  droopMax : Nat
  droopEn : Bool
  vinMv : Nat
  ilim : Nat
  stlWidth : Nat
  tthWidth : Nat
  throttleC : Nat
  hystC : Nat
  standEn : Bool
  upPct : Nat
  downPct : Nat
  gaitMin : Nat
  gaitMax : Nat
deriving DecidableEq, Repr

/-- The FIRMWARE envelope (R340), with the outcome of its checks against the boot ROM's key hash. -/
structure FwEnvelope where
  keyOk : Bool
  ecdsaOk : Bool
  hssOk : Bool
  svn : Nat
  digest : List Byte
deriving DecidableEq, Repr

/-- Per-function values of the QUEUE_DEFAULTS, SPUR and MODULE sections that no other record holds. -/
structure FnExtra where
  f : Nat
  evLog2 : Nat
  reinsPeriod : Nat
  pfHold : Nat
  atsMin : Nat
  rom : List Byte
  name : List Byte
deriving DecidableEq, Repr

/-- The body of a configuration image (Tables 14.3 and 14.4): its sections, decoded. -/
structure Image where
  buildId : Nat
  svn : Nat
  fmtMin : Nat
  spareCount : Nat
  parkIdleUs : Nat
  vstbyFitted : Bool
  auxCurrent : Nat
  fetchUs : Nat
  telemMs : Nat
  shedDepth : Nat
  vdmEn : Bool
  smbSpeed : Nat
  groups : List GroupRec
  sdies : List SDieRec
  ports : List PortRec
  tdies : List TDieRec
  fns : List FnRec
  extras : List FnExtra
  subwins : List SubWin
  overrides : List Override
  obwins : List ObWin
  queues : List QueueRec
  sources : List SrcRec
  reins : List ReinName
  weave : List WeaveRec
  faults : List FaultRec
  power : Option PowerRec
  fw : FwEnvelope
  bodyDigest : List Byte
deriving DecidableEq, Repr

/-- A copy of an image as a fetch returns it: the outcome of the checks that only the bytes decide
(R335, R336, R338), and the decoded body. -/
structure ImageCopy where
  flashOk : Bool
  flashMode : Nat
  flashClk : Nat
  headerOk : Bool
  keyHash : Nat
  ecdsaOk : Bool
  hssOk : Bool
  unknownCritical : Bool
  body : Image
deriving DecidableEq, Repr

/-- Where an image copy comes from (R334, R372). -/
inductive ImgSrc where
  | spiA | spiB | halter | recovery
deriving DecidableEq, Repr

/-- A host memory request TLP as the Stall die receives it: link, address of the first byte position, byte
enables from there, data (one byte per position for a write), the host's own label of the request, EP, and
the T bit of IDE (R353). A zero-length request has no byte enabled. -/
structure HReq where
  link : LinkIx
  addr : Nat
  en : List Bool
  data : List Byte
  req : Nat
  ep : Bool
  t : Bool
  /-- Stream ID of the IDE stream it came on (R235), none without IDE. -/
  stream : Option Nat := none
deriving DecidableEq, Repr

/-- Kind of AtomicOp, with the encoding of ATMOP (R38, R42). -/
inductive AtmOp where
  | fetchAdd | swap | cas
deriving DecidableEq, Repr

/-- Status of a completion (Table 2.6, R80). -/
inductive CplSt where
  | sc | ur | ca | crs
deriving DecidableEq, Repr

/-- A request of the design with its raw fields (R38). `data` and `mask` are as on the wire: BEATS × W bytes
and bits from beat 0 on (for ATM the packed operands). -/
structure LmHdr where
  tag : BitVec 12
  addr : BitVec 64
  len : Nat
  spec : Bool
  masked : Bool
  pvec : BitVec 64
  data : List Byte
  mask : List Bool
deriving DecidableEq, Repr

/-- A CAPS message (R68); `bad` when it holds a reserved encoding (step 5 of R69). -/
structure CapsMsg where
  vmax : Nat
  vmaj : Nat
  vmin : Nat
  seq : Nat
  widths : BitVec 5
  halfDuplex : Bool
  atm : Bool
  maxout : Nat
  crReqh : Nat
  crReqd : Nat
  crRsph : Nat
  crRspd : Nat
  crMsgs : Nat
  timeoutUs : Nat
  ident : Nat
  idrev : Nat
  bad : Bool
deriving DecidableEq, Repr

/-- A training block (R256, Table 10.6); of one received, `good` when SYNC and CRC match, `inverted` when SYNC arrived inverted. -/
structure TrainBlk where
  role : Nat
  lane : Nat
  rates : BitVec 4
  step : Nat
  fom : Nat
  txreq : Nat
  flags : BitVec 2
  good : Bool
  inverted : Bool
deriving DecidableEq, Repr

/-- A unit that stumbles, by fault class (R286, Table 12.1). -/
inductive UnitRef where
  | stallLane (i : SLaneIx)
  | tetherLane (i : TLaneIx)
  | loomSlice (i : Fin 9)
  | shuttle (i : ShutIx)
  | core (i : Fin 3)
  | phase (i : Fin 22)
deriving DecidableEq, Repr

/-- A unit that R28 gates. -/
inductive GateRef where
  | group (g : GroupIx)
  | port (p : PortIx)
  | shuttle (i : ShutIx)
  | slice (i : Fin 9)
deriving DecidableEq, Repr

/-- A Stall lane or a Tether lane whose FOM the receiver watches (R224, R260). -/
inductive LaneRef where
  | stall (i : SLaneIx)
  | tether (i : TLaneIx)
deriving DecidableEq, Repr

/-- Transport of a management request (R360, R349). -/
inductive Transport where
  | smbus | halter | vdm (l : LinkIx) | doe (f : FnIx)
deriving DecidableEq, Repr

/-- Traffic class on the Loom (R20). -/
inductive LoomClass where
  | posted | nonPosted | completion
deriving DecidableEq, Repr

/-- A slot request comes from a function's FCP_SLOT_CTRL, or from board firmware through the Groom (R330). -/
inductive SlotVia where
  | fn (f : FnIx)
  | groom (p : PortIx)
deriving DecidableEq, Repr

/-- One eye as a receiver measures it (R221): inner height and width with their nominal values. -/
structure Eye where
  height : Nat
  heightNom : Nat
  width : Nat
  widthNom : Nat
deriving DecidableEq, Repr

/-- One equalisation (R222, R223): its rate; the eyes that each logical lane measures with the partner's preset 0, 1 and so on; the
coefficient requests of Phase 3 for the own transmitter (logical lane, C(-1), C(0), C(+1)); whether it reached L0. -/
structure EqRun where
  rate : Nat
  presets : List (List (List Eye))
  coefs : List (Nat × Nat × Nat × Nat)
  ok : Bool
deriving DecidableEq, Repr

/-- What the receivers of a link have seen in an interval (R221, Table 9.9): the eyes of each logical lane, flits corrected by FEC,
flits failing CRC (TLPs failing LCRC outside Flit mode). -/
structure LinkObs where
  eyes : List (List Eye)
  fecCorr : Nat
  crcFail : Nat
deriving DecidableEq, Repr

/-- What a Stall link reaches DL_Active with (Table 9.9), `bypass` when the partner offers equalisation bypass, and the equalisations
on the way. -/
structure LinkUp where
  flit : Bool
  rate : Nat
  width : Nat
  reversed : Bool
  polarity : BitVec 16
  partnerL0p : Bool
  bypass : Bool
  eqs : List EqRun
deriving DecidableEq, Repr

/-- A frame on the Halter ring (R368); `ok` when its CRC and its code are good. -/
structure HFrame where
  ver : Nat
  dst : Nat
  src : Nat
  ty : Nat
  seq : Nat
  payload : List Byte
  ok : Bool
deriving DecidableEq, Repr

/-- A BAR of a function (Table 3.6). -/
inductive BarIx where
  | bar0 | bar2 | bar4 | rom
deriving DecidableEq, Repr

/-- A Translation Completion (R210, R211): range, its size in bytes, permissions and attributes. -/
structure XlDone where
  status : CplSt
  translated : Nat
  size : Nat
  rd : Bool
  wr : Bool
  noSnoop : Bool
  global : Bool
  stream : Option Nat := none
deriving DecidableEq, Repr

/-- An alignment marker received on a physical lane of a Tether port (R251), with the eyes its receiver measures (R259). -/
structure LaneMark where
  lane : Fin 8
  bytes : List Byte
  eyes : List Eye
deriving DecidableEq, Repr

/-- The commands: the operations and events of spec/opcode_table.json, in the table's order. -/
inductive Instr where
  | vinPowerUp (straps : Straps) (vstbyOk : Bool)
  | vstbyPowerUp (straps : Straps)
  | vinUvloFall
  | vinOvloRise
  | vinReturn
  | vstbyLoss
  | brownoutEntry (vinMv : Nat) (iin : Nat)
  | brownoutExit
  | droopWindowOpen
  | droopWindowClose
  | droopMaxExpiry
  | droopEarlyRelease (p : PortIx)
  | gaitTargetWrite (target : BitVec 3)
  | gaitUpshiftStep
  | gaitOccupancyWindow (gbps : Nat)
  | thermalThrottleStep (tj : Nat)
  | thermalRaise (tj : Nat)
  | thermalTrip
  | thermalTripEnd
  | thermalShutdown
  | thermalRestart
  | standEntry
  | pmeTurnOff (l : LinkIx)
  | slotPowerOnRequest (via : SlotVia) (v : BitVec 32)
  | slotPowerOffRequest (via : SlotVia) (v : BitVec 32)
  | slotReset (via : SlotVia) (v : BitVec 32)
  | slotPowerEnable (p : PortIx)
  | tthPwrgdRise (p : PortIx)
  | pwrgdMsExpiry (p : PortIx)
  | prstDelayExpiry (p : PortIx)
  | slotPowerOffDelayExpiry (p : PortIx)
  | poweringOffDone (p : PortIx)
  | tthPrsntInsertion (p : PortIx)
  | tthPrsntRemoval (p : PortIx)
  | tthPwrgdFall (p : PortIx)
  | tthAtnbtnPress (p : PortIx)
  | tthPrstNLow (p : PortIx)
  | tetherResetRelease (p : PortIx)
  | portReset (p : PortIx)
  | retrain (p : PortIx)
  | stlPerstNAssert (g : GroupIx)
  | stlPerstNDeassert (g : GroupIx)
  | stlRefclkLoss (d : SDieIx)
  | tthRefclkLoss (t : TDieIx)
  | coreRefclkLoss (t : TDieIx)
  | bootRomStart (good : BitVec 4 := 15)
  | linkDlUp (l : LinkIx) (u : LinkUp)
  | linkLoss (l : LinkIx)
  | hotReset (l : LinkIx)
  | linkDisable (l : LinkIx)
  | stumble (u : UnitRef) (atOnce : Bool) (selfTestFailed : Bool) (also : List UnitRef := [])
  | fomRetireWindowExpiry (r : LaneRef) (also : List LaneRef := [])
  | l0pPartnerRequest (l : LinkIx) (w : Nat)
  | l0pAcceptance (l : LinkIx)
  | l0pOccupancyInterval (l : LinkIx) (tx : Nat) (rx : Nat) (waited : Bool) (obs : LinkObs := ⟨[], 0, 0⟩)
  | aspmIdleExpiry (l : LinkIx)
  | clkreqAssert (g : GroupIx)
  | marginingCommand (l : LinkIx) (lane : Nat) (ty : BitVec 3) (payload : BitVec 8)
  | ideCheckFail (l : LinkIx) (stream : Nat)
  | pairedDetectExpiry (l : LinkIx)
  | failoverSwitch (l : LinkIx)
  | configRead (l : LinkIx) (fno : Nat) (off : Nat) (req : Nat) (stream : Option Nat := none)
  | configWrite (l : LinkIx) (fno : Nat) (off : Nat) (en : BitVec 4) (v : BitVec 32) (bus : Nat) (req : Nat) (stream : Option Nat := none)
  | busMasterEnableWrite (f : FnIx) (alt : Bool) (v : Bool)
  | bmeClearEffect (f : FnIx)
  | bmeSetEffect (f : FnIx)
  | initiateFunctionLevelReset (f : FnIx) (alt : Bool)
  | flrDrainEnd (f : FnIx)
  | flrBoundExpiry (f : FnIx)
  | vfEnableClear (f : FnIx) (alt : Bool)
  | vfEnableSet (f : FnIx) (alt : Bool)
  | numvfsWrite (f : FnIx) (alt : Bool) (v : BitVec 16)
  | barWrite (f : FnIx) (alt : Bool) (b : BarIx) (v : BitVec 64)
  | atsEnableClear (f : FnIx) (alt : Bool)
  | pasidEnableClear (f : FnIx) (alt : Bool)
  | stuWrite (f : FnIx) (alt : Bool) (v : BitVec 5)
  | ltrMechanismEnableSet (l : LinkIx)
  | d3hotEntry (f : FnIx)
  | d0Return (f : FnIx)
  | deliveryFormChange (f : FnIx) (alt : Bool) (msixEn : Bool) (msiEn : Bool)
  | interruptDisableWrite (f : FnIx) (alt : Bool) (v : Bool)
  | hostWindowRead (r : HReq)
  | hostWindowWrite (r : HReq)
  | hostWindowAtomic (r : HReq) (op : AtmOp)
  | hostRomRead (r : HReq)
  | fcpRead (r : HReq)
  | registerWrite (r : HReq)
  | fcpErrConsWrite (f : FnIx) (v : BitVec 32)
  | prefetchAgeExpiry (f : FnIx) (e : Nat)
  | prefetchHoldExpiry (f : FnIx) (e : Nat)
  | forget (f : FnIx)
  | pgoWrite (f : FnIx) (off : Nat) (v : BitVec 32)
  | reinsOutWrite (f : FnIx) (v : BitVec 32)
  | reinsSend (p : PortIx)
  | interruptFenceRelease (p : PortIx)
  | hostAck (l : LinkIx) (n : Nat)
  | hostCompletion (l : LinkIx) (f : FnIx) (tag : Nat) (st : CplSt) (data : List Byte) (ep : Bool) (stream : Option Nat := none)
  | completionTimeout (f : FnIx) (tag : Nat)
  | hostTagQuarantineExpiry (f : FnIx) (tag : Nat)
  | translationCompletion (f : FnIx) (tag : Nat) (d : XlDone)
  | invalidateRequest (f : FnIx) (itag : Nat) (addr : Nat) (size : Nat) (pasid : Option Nat) (global : Bool) (stream : Option Nat := none)
  | invalidateCompletion (f : FnIx)
  | localMasterRd (p : PortIx) (h : LmHdr) (kind : BitVec 4)
  | localMasterWr (p : PortIx) (h : LmHdr)
  | localMasterWrf (p : PortIx) (h : LmHdr)
  | localMasterAtm (p : PortIx) (h : LmHdr) (op : BitVec 2) (sz : BitVec 2)
  | localMasterFlush (p : PortIx) (h : LmHdr)
  | localMasterNop (p : PortIx) (h : LmHdr)
  | flushAnswer (p : PortIx)
  | rspDone (p : PortIx) (tag : BitVec 12) (code : BitVec 4) (cause : BitVec 8) (pvec : BitVec 64) (data : List Byte)
  | rspDonePoison (p : PortIx) (tag : BitVec 12) (cause : BitVec 8) (pvec : BitVec 64) (data : List Byte)
  | rspFault (p : PortIx) (tag : BitVec 12) (cause : BitVec 8)
  | rspNotarget (p : PortIx) (tag : BitVec 12) (cause : BitVec 8)
  | rspSidefx (p : PortIx) (tag : BitVec 12) (cause : BitVec 8)
  | rspRetry (p : PortIx) (tag : BitVec 12) (cause : BitVec 8)
  | rspSize (p : PortIx) (tag : BitVec 12) (cause : BitVec 8)
  | rspSidefxDone (p : PortIx) (tag : BitVec 12) (cause : BitVec 8) (pvec : BitVec 64) (data : List Byte)
  | xlbRequestTimeout (p : PortIx) (rid : Nat)
  | retryGapExpiry (p : PortIx) (tag : BitVec 12)
  | xlbTagQuarantineExpiry (p : PortIx) (tag : BitVec 12)
  | lines (p : PortIx) (kind : BitVec 4) (fn : FnIx) (level : BitVec 8)
  | reins (p : PortIx) (fn : FnIx) (value : BitVec 32)
  | event (p : PortIx) (fn : FnIx) (code : BitVec 16) (payload : List Byte)
  | vendor (p : PortIx) (fn : FnIx) (vid : BitVec 16) (code : BitVec 16) (payload : List Byte)
  | caps (p : PortIx) (c : CapsMsg)
  | credit (p : PortIx) (kind : BitVec 4) (cls : BitVec 8) (fn : FnIx) (count : BitVec 16)
  | pad (p : PortIx)
  | release (f : FnIx)
  | capsAbandon (p : PortIx)
  | tetherReceiverDetect (p : PortIx) (found : BitVec 8)
  | trainingBlock (p : PortIx) (lane : Fin 8) (bytes : List Byte) (eyes : List Eye := [])
  | adaptPresetDwellExpiry (p : PortIx) (lane : Fin 8) (eyes : List Eye)
  | tetherStateLimitExpiry (p : PortIx)
  | symbolLock (p : PortIx)
  | deskewDone (p : PortIx)
  | capsResend (p : PortIx)
  | trainBackoffExpiry (p : PortIx)
  | flit (p : PortIx) (bytes : List Byte)
  | nakHoldoffExpiry (p : PortIx)
  | replay (p : PortIx) (seq : BitVec 12)
  | skipFlit (p : PortIx)
  | skipFlitSend (p : PortIx)
  | alignmentMarker (p : PortIx) (marks : List LaneMark)
  | alignmentMarkerSend (p : PortIx)
  | narrowReq (p : PortIx) (mask : BitVec 8)
  | narrow (p : PortIx) (mask : BitVec 8) (f : BitVec 16)
  | narrowSwitch (p : PortIx) (tx : Bool)
  | doze (p : PortIx)
  | dozeIdleExpiry (p : PortIx)
  | nudgeBurst (p : PortIx)
  | nudgeCheckExpiry (p : PortIx)
  | tetherKeepaliveExpiry (p : PortIx)
  | loomTransfer (out : LoomIx) (offers : List (LoomIx × LoomClass)) (crcFail : Bool) (credits : List LoomClass := [.posted, .nonPosted, .completion])
  | loomSliceResume
  | loomNarrow
  | loomWiden
  | unitPowerGate (u : GateRef)
  | doorbell (f : FnIx) (n : QIx) (hint : Option (BitVec 32))
  | producerIndex (f : FnIx) (n : QIx)
  | descriptorFetchData (f : FnIx) (n : QIx)
  | fragmentTableData (f : FnIx) (n : QIx)
  | chunkReadIssue (f : FnIx) (n : QIx)
  | chunkReadData (f : FnIx) (n : QIx)
  | chunkWriteDone (f : FnIx) (n : QIx)
  | coalTimerExpiry (f : FnIx) (n : QIx)
  | headWritebackAccepted (f : FnIx) (n : QIx)
  | qcmdEnable (f : FnIx) (n : QIx)
  | qcmdDisable (f : FnIx) (n : QIx)
  | qcmdPause (f : FnIx) (n : QIx)
  | qcmdResume (f : FnIx) (n : QIx)
  | qcmdReset (f : FnIx) (n : QIx)
  | queueResetDone (f : FnIx) (n : QIx)
  | queuePaused (f : FnIx) (n : QIx)
  | queueDrainEnd (f : FnIx) (n : QIx)
  | shtQheadWrite (f : FnIx) (n : QIx) (v : BitVec 32)
  | queueContextWrite (f : FnIx) (n : QIx) (off : Nat) (v : BitVec 32)
  | fetchTimeout (f : FnIx) (tag : Nat)
  | shuttleMoveDone (i : ShutIx)
  | shuttlePark (i : ShutIx)
  | evtCtrlWrite (f : FnIx) (v : BitVec 32)
  | evtConsWrite (f : FnIx) (v : BitVec 32)
  | weaveLoad (f : FnIx) (slot : Fin 8)
  | weaveClear (f : FnIx) (slot : Fin 8)
  | weaveCmdDone (f : FnIx)
  | spurSelect (f : FnIx)
  | spurIssueCommit (f : FnIx)
  | spurMaskSet (f : FnIx) (v : BitVec 32)
  | spurMaskClr (f : FnIx) (v : BitVec 32)
  | spurPendSet (f : FnIx) (v : BitVec 32)
  | spurPendClr (f : FnIx) (v : BitVec 32)
  | spurEoi (f : FnIx) (v : BitVec 32)
  | spurResample (f : FnIx) (src : SrcIx)
  | spurSrcCfgWrite (f : FnIx) (off : Nat) (v : BitVec 32)
  | intxSpacingExpiry (l : LinkIx) (pin : Fin 4)
  | reinsPeriodExpiry (f : FnIx)
  | lockstepMismatch (core0Ok : Bool) (core1Ok : Bool)
  | groomWatchdogExpiry (core0Ok : Bool) (core1Ok : Bool)
  | groomTakeoverDone
  | groomFrame (pt : Nat) (fh : Nat) (be : Nat) (oldestUs : Nat)
  | telemetryPeriodExpiry (vinMv : Nat) (iin : Nat) (temps : List Nat)
  | stallGroupsSectionArrival (groups : List GroupRec) (sdies : List SDieRec)
  | imageCopyCheck (src : ImgSrc) (c : ImageCopy)
  | imageReady
  | imageNotReadyTimeout (g : GroupIx)
  | svnCommit
  | imageActivation (copyB : Bool)
  | pldmTransfer (tr : Transport) (copyB : Bool) (bytes : Nat) (last : Option ImageCopy)
  | pldmUpdateIdleExpiry
  | deferredModuleReset
  | lmsTreeReady
  | getVersion (tr : Transport)
  | getCertificate (tr : Transport) (slot : Nat) (off : Nat) (len : Nat)
  | challenge (tr : Transport) (slot : Nat)
  | getMeasurements (tr : Transport) (index : Nat)
  | keyExchange (tr : Transport) (slot : Nat)
  | endSession (tr : Transport) (session : Nat)
  | countersign (tr : Transport)
  | getHssChain (tr : Transport) (off : Nat) (len : Nat)
  | getHssState (tr : Transport)
  | query (tr : Transport) (session : Nat) (l : LinkIx)
  | keyProg (tr : Transport) (session : Nat) (l : LinkIx) (stream : Nat) (sub : Fin 3) (tx : Bool) (keySet : Bool)
  | kSetGo (tr : Transport) (session : Nat) (l : LinkIx) (stream : Nat) (sub : Fin 3) (tx : Bool) (keySet : Bool)
  | kSetStop (tr : Transport) (session : Nat) (l : LinkIx) (stream : Nat) (sub : Fin 3) (tx : Bool) (keySet : Bool)
  | lockInterfaceRequest (tr : Transport) (session : Nat) (f : FnIx)
  | startInterfaceRequest (tr : Transport) (session : Nat) (f : FnIx)
  | stopInterfaceRequest (tr : Transport) (session : Nat) (f : FnIx)
  | getDeviceInterfaceReport (tr : Transport) (session : Nat) (f : FnIx)
  | doeRequest (f : FnIx) (obj : Nat)
  | setEndpointId (tr : Transport) (eid : Nat)
  | registerAccessRead (tr : Transport) (addr : Nat) (count : Nat)
  | registerAccessWrite (tr : Transport) (addr : Nat) (dwords : List (BitVec 32))
  | moduleReset (tr : Transport)
  | pldmSensorRead (tr : Transport) (sensor : Nat)
  | halterFrameForward (fr : HFrame)
  | discover (bmcMax : Nat)
  | status
  | mctp (tr : Transport) (ty : Nat)
  | wake
  | imageData (off : Nat) (data : List Byte)
  | imageReqTimeout
  | bypass (v : Bool)
  | halterRejoin
  | debugUnlock (signatureOk : Bool)
  | jtagBypass
  | jtagIdcode
  | jtagSamplePreload (load : Option (List Bool))
  | jtagExtest
  | jtagClamp
  | jtagHighz
  | jtagExtestPulse
  | jtagExtestTrain
  | stlRefclkReturn (d : SDieIx)
  | linkRecovery (l : LinkIx)
  | linkReturnToL0 (l : LinkIx) (rate : Nat) (eqs : List EqRun := [])
  | nudgeArrival (p : PortIx)
  | partnerWake (p : PortIx)
  | electricalIdleAfterMarker (p : PortIx)
  | ackWaitExpiry (p : PortIx)
  | vstbyRangeChange (ok : Bool)
  | vectorControlMaskClear (f : FnIx) (vec : Option (Fin 64))
  | jtagTrstNAssert
  | finish (tr : Transport) (session : Nat)
  | keyUpdate (tr : Transport) (session : Nat)
  | heartbeat (tr : Transport) (session : Nat)
  | getCapabilities (tr : Transport)
  | negotiateAlgorithms (tr : Transport)
  | getDigests (tr : Transport)
  | chunkSend (tr : Transport) (last : Bool)
  | chunkGet (tr : Transport)
deriving DecidableEq, Repr

end Sys2Proof
end

