-- ==== Sys2Proof/WellFormed.lean ====
section
/-! DEFINITION. The operands that a sender can put on the wire: what makes a command of the interface. A command with other operands
runs as well: its meaning cuts them to size or fills them with free values (log entry 9), so that no operand ends a run. -/
namespace Sys2Proof

/-- The configuration offset is that of a dword below 4 KiB (R79). -/
def cfgOffOk (off : Nat) : Bool := off % 4 == 0 && decide (off < 4096)

/-- A host request has at least one byte position and at most 4,096 of them. -/
def hreqOk (r : HReq) : Bool := decide (1 ≤ r.en.length) && decide (r.en.length ≤ 4096)

/-- A write carries one byte of data per position. -/
def hwriteOk (r : HReq) : Bool := hreqOk r && r.data.length == r.en.length

/-- Sizes of AtomicOps (R42, R124): an aligned operand with every byte enabled, its data once, for compare-and-swap twice. -/
def hatomicOk (r : HReq) (op : AtmOp) : Bool :=
  let n := r.en.length
  (n == 4 || n == 8 || (n == 16 && op == .cas)) && r.addr % n == 0 && r.en.all (fun e => e) &&
    r.data.length == (if op == .cas then 2 * n else n)

/-- A flit has 192 bytes (Table 9.5). -/
def flitOk (bytes : List Byte) : Bool := bytes.length == 192

/-- A training block has 32 bytes (Table 10.6). -/
def blockOk (bytes : List Byte) : Bool := bytes.length == 32

/-- A marker has 8 bytes on each lane (R251). -/
def markOk (bytes : List Byte) : Bool := bytes.length == 8

/-- PLEN of an EVENT or VENDOR message is at most 48 (Table 2.9). -/
def payloadOk (payload : List Byte) : Bool := decide (payload.length ≤ 48)

/-- The command is one of the interface. -/
def Instr.wf : Instr → Bool
  | .configRead _ _ off _ _ => cfgOffOk off
  | .configWrite _ _ off _ _ _ _ _ => cfgOffOk off
  | .hostWindowRead r => hreqOk r
  | .hostWindowWrite r => hwriteOk r
  | .hostWindowAtomic r op => hatomicOk r op
  | .hostRomRead r => hreqOk r
  | .fcpRead r => hreqOk r
  | .registerWrite r => hwriteOk r
  | .flit _ bytes => flitOk bytes
  | .trainingBlock _ _ bytes _ => blockOk bytes
  | .alignmentMarker _ marks => marks.all (fun m => markOk m.bytes)
  | .event _ _ _ payload => payloadOk payload
  | .vendor _ _ _ _ payload => payloadOk payload
  | _ => true

end Sys2Proof
end

