-- ==== Sys2Proof/Decode.lean ====
section
/-! DEFINITION. The words of the command table: no row of spec/opcode_table.json gives its command any bits, so no word
spells a command (log entry 1). -/
namespace Sys2Proof

/-- The command that a word spells by the table's bits: none, for the table gives no row a bit. -/
def decodeTableWord (_nbits _w : Nat) : Option Instr := none

end Sys2Proof
end

