-- ==== Sys2Proof/Config.lean ====
section
/-! DEFINITION. What an implementation fixes and what the manual leaves open. Every constant here is
opaque: a free value, of which nothing can be evaluated or proved. Each is applied to plain data: the
counter `State.freeCtr`, which a use advances, or the operands the value depends on. -/
namespace Sys2Proof

/-- R7: what the RsvdP bits of a register read as is unspecified; one fresh 64-bit value per read. -/
opaque Config.rsvdBits : Nat → Nat
/-- R48: which free XLB tag a request takes is left open; where the search for one starts. -/
opaque Config.xlbTagStart : Nat → Nat
/-- R200: which free host tag a request takes is left open; where the search for one starts. -/
opaque Config.hostTagStart : Nat → Nat
/-- R83: a capability field the manual does not name takes the reset value of the PCI Express Base
Specification, which is no part of this manual: one value per function, configuration offset of the dword. -/
opaque Config.baseSpecDword : Nat → Nat → Nat
/-- R4: Aelfort's manufacturer code, published in the boundary-scan description file only. -/
opaque Config.manufacturerCode : BitVec 11
/-- R348, R349, R351: a signature, certificate, digest or key-exchange value that the cited cryptographic
standards fix and the manual does not: the bytes made for a request, by the counter. -/
opaque Config.cryptoBytes : Nat → List Byte
/-- R350: the digest SHA-384 of the given bytes (FIPS 180-4, outside the manual). -/
opaque Config.sha384 : List Byte → List Byte
/-- R232: the error count that a margining step reports is a measurement. -/
opaque Config.marginErrors : Nat → Nat
/-- R350: the boot ROM whose digest is measurement 1. -/
opaque Config.bootRomDigest : List Byte
/-- R375: the boundary-scan register's order and captured land levels (boundary-scan description file). -/
opaque Config.scanCapture : Nat → List Bool
/-- R142, R172: the bytes read where the manual states no value (a missing beat of a short answer). -/
opaque Config.freeByte : Nat → Byte


/-- R328: a junction temperature that no command gives, when the thermal trip ends. -/
opaque Config.junctionTemp : Nat → Nat

/-- R349: how many bytes of a large response one CHUNK_GET returns is a matter of the SPDM exchange. -/
opaque Config.chunkSize : Nat → Nat

/-- R103, R290: the TLP header that the AER Header Log records for a host request, by its label and address; its layout
is the Base Specification's. -/
opaque Config.tlpHeader : Nat → Nat → Nat

/-- R347, R349: the P-384 certificate chain of slot 0, by the number of the leaf signing key in force. -/
opaque Config.certChain : Nat → List Byte
/-- R347, R351: the DER chain of the HSS identity in the one-time-programmable store. -/
opaque Config.hssChain : List Byte

end Sys2Proof
end

