-- ==== Sys2Proof/Machine/State.lean ====
section
/-! DEFINITION. The state of the PX896 as plain data: the register fields, the dynamic records of its units, what it
has sent, and the queue of waiting commands; the state after reset. -/
namespace Sys2Proof.Machine

/-- The unit a register field belongs to; it says what the first sub-index of the field counts (R5). -/
inductive UnitK where
  | fn | queue | port | tlane | tdie | sdie | group | link | slane | mod
deriving DecidableEq, Repr

/-- Access types that the register tables use (R7, Table 0.4). HwInit behaves as RO. -/
inductive Acc where
  | rw | ro | rc | w1c | wo
deriving DecidableEq, Repr

/-- Kind of reset entry (R13): a value, the image's value, or a field computed from other state. -/
inductive RstK where
  | val (n : Nat) | image | der
deriving DecidableEq, Repr

/-- The narrowest reset that restores a field (R11, R12). -/
inductive Lvl where
  | cold | module | stallGroup | link | function | queue | tether
deriving DecidableEq, Repr

/-- Attributes of a field. -/
structure FldAttr where
  unit : UnitK
  width : Nat
  acc : Acc
  rst : RstK
  lvl : Lvl
deriving DecidableEq, Repr

/-- The fields of the register tables and of configuration space, each named after its register and field; the
model keeps one value per field, unit and sub-index (R7, R11 to R14). -/
inductive Fld where
  | xlbMaxver | xlbRetryLimit | xlbRetryGap | xlbTimeoutUs | xlbFenceCount | xlbFenceWindowUs
  | xlbVersion | xlbWidth | xlbHalfDuplex | xlbAtm | xlbActive | xlbFenced
  | xlbCapsFail | xlbCapsFailWhy | xlbPxOut | xlbLocalOut | xlbCntTimeouts | xlbCntLate
  | xlbCntProtocol | xlbCntFences | verMinor | verMajor | verStepping | verGrade
  | identFunc | identVf | identPrivileged | identPfIndex | identDisc | identAriFn
  | bindLink | bindStandbyLink | bindPort | bindShared | modesModes | modesLoopback
  | didIdent | drevIdrev | drevXlbMinor | drevWidth | drevHalfDuplex | fstPortActive
  | fstFenced | fstCapsSeen | ffenceRelease | ffenceFenced | ffenceWhy | swOffset
  | swSize | swXlbBase | swaEn | swaWclass | swaOrder | swaSizes
  | swaAtomics | swaWmode | swaPrefetch | swaSep | pgoWin | pgoPage
  | pgoValid | pfHoldUs | pfForget | pfDisable | pfCntLearned | pfCntHeld
  | pfCntLost | pfCntUnexpected | obLocalBase | obSize | obHostBase | obEn
  | obTranslated | obPasidEn | obNoSnoop | obAtomics | obOwned | obPasid
  | qRingBase | qPidxAddr | qHidxAddr | qLog2 | qMsixEn | qMsixVec
  | qCoalCount | qCoalTimeUs | qcmdEnable | qcmdDisable | qcmdPause | qcmdResume
  | qcmdReset | qState | qArmPending | qPauseDrv | qPauseBme | qRefetch
  | qResetBusy | qAvailable | qShuttle | qHead | qProd | qCurDesc
  | qCurFrag | qCurOffset | qStaged | qHaltCause | qHaltDetail | qHaltDesc
  | qHaltFrag | qCntDone | qCntPoisoned | evtBase | evtPidxAddr | evtEn
  | evtLog2 | evtFull | evtEvtFull | evtProd | evtCons | wvStageProgram
  | wvCmdSlot | wvCmdOp | wvBusy | wvLastSlot | wvResult | wvLoaded
  | wvFree | wvFmtMax | wvuUnit | wvuHalfRate | wvSlotProgram | spMode
  | spSelected | spSelValid | spRotate | spLines | spInternal | spPend
  | spMask | spInservice | spMaskSet | spMaskClr | spPendSet | spPendClr
  | spEoi | spQpend | spCntPreempt | spCntStrayEoi | srcPrio | srcState
  | srcLatch | srcKind | srcNextTgt | srcLastVec | reinsInValue | reinsInChg
  | reinsOutValue | reinsOutSent | reinsPeriodUs | reinsOutPending | flrBoundUs | seqFomTarget
  | seqFomRetire | seqPresets | seqBypass | grpForm | grpClocking | grpMaxrate
  | grpL0pEn | grpAspmIdleUs | gstPerst | gstClkreq | gstRefclkOk | gstGated
  | gstMode | gstSynth | lnkPresent | lnkDlActive | lnkFlit | lnkRate
  | lnkWidthNeg | lnkWidthAct | lnkReversed | lnkLtssm | lnkL1sub | lnkRetired
  | lnkPolarity | lnkEq64Done | lnkEq128Done | lnkEq64Fail | lnkEq128Fail | lnkFomEnd
  | lnkCntFecCorr | lnkCntCrcFail | lnkCntRecovery | lnkCntL0pChg | lnkCntLinkDown | lnkCntRetire
  | slaneFom | slaneErrs | slaneTxpreset | slaneLame | teqFomTarget | teqFomRetire
  | teqPresets | pcMaxrate | pcMaxwidth | pcLoopback | pcRetrain | pcReset
  | tlcKeepaliveUs | tlcReplayLimit | dozeEn | dozeIdleNs | dozeEcoIdleNs | psState
  | psRate | psWidthNeg | psWidthRx | psWidthTx | psReversed | psTxDoze
  | psRxDoze | psPresent | psPwrgd | plRxRetired | plTxRetired | plRxmask
  | plTxmask | tlaneFom | tlaneErrs | tlaneTxpreset | tlaneLame | pcntFecCorr
  | pcntCrcFail | pcntReplay | pcntLinkDown | pcntRetire | pcntTrainFail | stumThreshold
  | stumWindowMs | stumLame | errProd | errCons | errOverflow | recActiveLink
  | recFailovers | recMoves | recStandbyReady | ehCode | ehDetail | ehPort
  | ehWin | ehQueue | ehQvalid | ehSeq | ehCause | ehAddr
  | ehLen | ehAux | ehTimeUs | shtFetchUs | pairDetectUs | pwrSlew
  | pwrDroopMaxUs | pwrDroopEn | broVinMv | broIlimA | broStlWidth | broTthWidth
  | gaitTarget | gaitCurrent | gaitCap | gaitFrozen | gaitForcedWalk | gaitStandEn
  | gaitThermLimit | pstVinOk | pstVstbyOk | pstBrownout | pstDroop | pstThrottle
  | pstHwTrip | pstPhases | pstLastOff | pstThermOff | telVinMv | telIin
  | thmThrottleC | thmHystC | thmTjMax | pwrCntBrownouts | pwrCntDroops | pwrCntThrottles
  | pwrCntSlewExceed | slotCapOwner | slotCapAutoOn | slotCapAutoOff | slotCapPwrgdMs | slotCapPrstDelay
  | slotPwrReq | slotSlotReset | slotAtnInd | slotPwrInd | slotPresent | slotPwrgd
  | slotPwrState | slotPresenceChg | slotButton | slotPowerFault | slotSeqDone | slotLinkChg
  | bootStage | bootCopy | bootSource | bootFallback | bootResultA | bootResultB
  | bootFmtMin | strapImg | strapHaltId | strapSafe | strapRefsel | strapVinclass
  | strapTest | bootCtlNext | bootCtlSvnCommit | gimgSvn | gimgFwSvn | gimgBuildId
  | svnImageCnt | svnFwCnt | lmsTreesUsed | lmsReady | lmsIndex | flashModeA
  | flashClkA | flashModeB | flashClkB | coreInPair | coreFailed | coreServices
  | coreTakeovers | loadPtPct | loadFhPct | loadBePct | loadShed | svcTelemMs
  | svcShedDepth | svcVdmEn | svcSmbSpeed | svcCntBusy | svcCntSheds | svcCntWdt
  | svcCntRefused | haltId | haltInRing | haltDupId | haltVersion | haltBypass
  | haltCntCrcFail | haltCntDrop | haltCntBypasses | pgoaEn | pgoaWclass | pgoaOrder
  | pgoaSizes | pgoaAtomics | pgoaWmode | pgoaPrefetch | pgoaSep | tgtVec
  | tgtEn | xlbIdent | xlbIdrev | msixAddr | msixData | msixVmask
  | msixPend | cfgMse | cfgBme | cfgBmeEff | cfgPer | cfgSerr
  | cfgIntDis | cfgStatus | cfgCacheLine | cfgIntLine | cfgBar0 | cfgBar2
  | cfgBar4 | cfgRomBar | cfgRomEn | cfgPmState | cfgPmeEn | cfgPmeSts
  | cfgMsiEn | cfgMsiMme | cfgMsiAddr | cfgMsiData | cfgMsiMask | cfgMsiPend
  | cfgDevErrEn | cfgRoEn | cfgMps | cfgExtTag | cfgNoSnoopEn | cfgMrrs
  | cfgDevSta | cfgAspm | cfgRcb | cfgLnkCtl | cfgCtoVal | cfgCtoDis
  | cfgAtomEn | cfgLtrEn | cfgTag10En | cfgTag14En | cfgMsixEn | cfgMsixFmask
  | aerUncSts | aerUncMask | aerUncSev | aerCorSts | aerCorMask | aerCtl
  | aerHdr | cfgAcsCtl | vfEnable | vfMse | vfNum | vfSysPage
  | vfBar0 | vfBar2 | vfBar4 | atsEnable | atsStu | pasidEnable
  | cfgL1pm1 | cfgL1pm2 | ideDw | cfgLtrSnoop | cfgLtrNoSnoop | tdiState
  | tdiIdent | tdiIdrev | selSrc | selTgt | lastRein | reinWait
  | qLastWb | selVec
deriving DecidableEq, Repr
/-- The registers of the manual, by name. -/
inductive Reg where
  | tthXlbCtrl | tthXlbTimeout | tthXlbFencecfg | tthXlbStatus | tthXlbOutstanding | tthXlbCounts
  | fcpVersion | fcpIdent | fcpBinding | fcpModes | fcpDesignId | fcpDesignRev
  | fcpStatus | fcpFence | fcpSwOffset | fcpSwSize | fcpSwXlbBase | fcpSwAttr
  | fcpPgoPage | fcpPgoCtrl | fcpPrefetchHold | fcpPrefetchCtrl | fcpPrefetchCounts | fcpObLocal
  | fcpObSize | fcpObHost | fcpObCtrl | shtQringBase | shtQpidxAddr | shtQhidxAddr
  | shtQcfg | shtQcoalTime | shtQcmd | shtQstatus | shtQhead | shtQprod
  | shtQcurDesc | shtQcurFrag | shtQcurOffset | shtQstaged | shtQhalt | shtQhaltDesc
  | shtQhaltFrag | shtQcounts | fcpEvtBase | fcpEvtPidxAddr | fcpEvtCtrl | fcpEvtProd
  | fcpEvtCons | weaveStage | weaveCmd | weaveStatus | weaveUnit | weaveProg
  | spurStatus | spurLevel | spurPend | spurMask | spurInservice | spurMaskSet
  | spurMaskClr | spurPendSet | spurPendClr | spurEoi | spurQpend | spurCounts
  | spurSrcCfg | spurSrcState | fcpReinsIn | fcpReinsInChg | fcpReinsOut | fcpReinsOutSent
  | fcpReinsCtrl | stlFlrCfg | stlEqCfg | stlGrpCfg | stlGrpStatus | stlLnkStatus
  | stlLnkLanes | stlLnkEq | stlLnkCounts0 | stlLnkCounts1 | stlLaneFom | tthEqCfg
  | tthPortCtrl | tthLinkCfg | tthDozeCfg | tthPortStatus | tthPortLanes | tthLaneFom
  | tthPortCounts0 | tthPortCounts1 | grmStumbleThr | grmStumbleWin | grmStumbleLame | fcpErrProd
  | fcpErrCons | fcpErrCounts | fcpRecovery | fcpErrHdr | fcpErrInfo | fcpErrAddr
  | fcpErrLen | fcpErrAux | fcpErrTime | shtFetchCfg | stlPairCfg | pwrCtrl
  | pwrBrownout | pwrGait | pwrStatus | pwrTelem | pwrTherm | pwrCounts
  | fcpSlotCap | fcpSlotCtrl | fcpSlotStatus | grmBootStatus | grmStraps | grmBootCtrl
  | grmImage | grmBuild | grmSvn | grmLms | grmFlash | grmCoreStatus
  | grmLoad | grmSvcCfg | grmSvcCounts | haltStatus | haltCtrl | haltCounts
  | fcpPgoAttr | spurSrcTgtLo | spurSrcTgtHi
deriving DecidableEq, Repr

/-- A field of a register: its place, and the target number of a Spur target register (8: none). -/
structure Piece where
  fld : Fld
  lo : Nat
  t : Nat
deriving DecidableEq, Repr

/-- Key of one stored field value: the field, its unit, and a sub-index (queue, slot, window, source, class ...). -/
structure RKey where
  fld : Fld
  i : Nat
  j : Nat
deriving DecidableEq, Repr

/-- Who made an XLB request of the PX896 (Table 2.14): a host read, AtomicOp or zero-length read (job and piece), a
host posted write, a speculative read into a prefetch entry (its record number), or a Shuttle (module queue, chunk, read or write). -/
inductive XOrig where
  | host (job piece : Nat)
  | posted
  | spec (e : Nat)
  | shuttle (q cid : Nat) (wr : Bool) (off : Nat)
deriving DecidableEq, Repr

/-- State of an XLB request of the PX896: waiting unsent, outstanding, or held in the gap after RETRY (R62). -/
inductive XSt where
  | waiting | sent | gap
deriving DecidableEq, Repr

/-- The settings of TTH_XLB_CTRL, TTH_XLB_TIMEOUT and TTH_XLB_FENCECFG in force when a request arrived: a change of them takes
effect for requests that arrive after the write (R74). -/
structure XCfg where
  limit : Nat
  tmo : Nat
  fcount : Nat
  fwin : Nat
deriving DecidableEq, Repr

/-- One XLB request of the PX896 on a port (R38, R48, R61). `op` is KIND of Table 2.3; `cells` holds the covered bytes of
a write, each with its enable and poison mark, or the packed operands of an ATM. `grp` names the host write in FLUSH mode whose
piece it is (0: none, R112); `atLoom`: it waits in the input stage of a Loom that stands still (R21, R298). -/
structure XReq where
  rid : Nat
  f : Nat
  orig : XOrig
  op : Nat
  addr : Nat
  len : Nat
  cells : List (Byte × Bool × Bool)
  aop : Nat
  asz : Nat
  st : XSt
  tag : Nat
  retries : Nat
  t0 : Nat
  grp : Nat
  /-- Its place in the order of arrival; the parts of a request that a narrower width splits share it. -/
  ord : Nat
  cfg : XCfg
  atLoom : Bool
deriving DecidableEq, Repr

/-- A quarantined XLB tag with the function of its request (R63, R66): until a late answer or `due`, or, when
`fenced`, until the fence lifts. -/
structure XQuar where
  tag : Nat
  f : Nat
  fenced : Bool
  due : Nat
  /-- Bytes of data that a DONE answer to the request carries, by which a late response is measured. -/
  ans : Nat
  /-- The queue of its request. -/
  q : Option Nat
  /-- Opcode of its request, and whether that was speculative, by which a late response code is judged (R73). -/
  op : Nat
  spec : Bool
deriving DecidableEq, Repr

/-- How far a local-master request has come: before a Loom that stands still (R21), decoded and waiting for its turn behind an
earlier write of its link (R115), waiting for its translation (R209), issued, or ended early with the response code and cause it
will be answered when its sent TLPs are done (Table 8.1). -/
inductive LmPh where
  | arrived | queued | xlate | issued | failing (code cause : Nat)
deriving DecidableEq, Repr

/-- One local-master request taken into the buffers (R53, R127, R128). `a` is the XLB address, `host` the host
address, `w` the agreed width in bytes, `got` the bytes and poison marks of a RD by offset, `zlr` the state of the
zero-length read of a WRF (0 none, 1 to come, 2 waiting or outstanding, 3 completed). -/
structure LmReq where
  arr : Nat
  tag : Nat
  op : Nat
  f : Nat
  link : Nat
  a : Nat
  host : Nat
  len : Nat
  w : Nat
  data : List Byte
  mask : List Bool
  pvec : Nat
  aop : Nat
  asz : Nat
  xl : Bool
  pasid : Option Nat
  ns : Bool
  ph : LmPh
  left : Nat
  got : List (Nat × List (Byte × Bool))
  zlr : Nat
  /-- A FLUSH: functions whose zero-length read is still to complete. -/
  zfns : List Nat
deriving DecidableEq, Repr

/-- An answered local-master write, kept for the FLUSH that covers it (R55): arrival, function, response code, cause. -/
structure LmWr where
  arr : Nat
  f : Nat
  code : Nat
  cause : Nat
deriving DecidableEq, Repr

/-- A message of the design held in the interrupt fence (R116): KIND of Table 2.8, function, the level or code word,
and the payload. -/
structure FMsg where
  arr : Nat
  kind : Nat
  f : Nat
  v : Nat
  vid : Nat
  payload : List Byte
deriving DecidableEq, Repr

/-- A response to the design that waits for RSP credit (R50). -/
structure RspOut where
  tag : Nat
  code : Nat
  cause : Nat
  pvec : Nat
  data : List Byte
deriving DecidableEq, Repr

/-- The XLB transaction state of one port toward its design (chapter 02). Credits are those the PX896 holds toward
the design by class 0 to 4 (65,535: unlimited, R51) and those the design still holds (REQ header, REQ data, MSG
state; class 5 by function). -/
structure XlbDyn where
  reqs : List XReq := []
  quar : List XQuar := []
  cr : List Nat := [0, 0, 0, 0, 0]
  maxout : Nat := 0
  remUp : Bool := false
  dReqh : Nat := 0
  dReqd : Nat := 0
  dMsgs : Nat := 0
  dRec : List (Nat × Nat) := []
  lms : List LmReq := []
  arr : Nat := 0
  wrs : List LmWr := []
  fenceQ : List FMsg := []
  rspQ : List RspOut := []
  capsSent : Bool := false
  capsRel : Bool := false
  capsSeq : Nat := 0
  reinNext : Nat := 0
  reinHold : Option Nat := none
  tmos : List Nat := []
  gen : Nat := 0
  /-- VMAX of the CAPS last sent (R69). -/
  vmax : Nat := 0
  /-- REQ header and REQ data credits withheld while the Loom holds traffic of the port (R21). -/
  oweH : Nat := 0
  oweD : Nat := 0
deriving DecidableEq, Repr

/-- Owner of a posted write on a Stall link: a local-master write, a Shuttle chunk, a head write-back, an event
record, the event producer index, or an interrupt message (vector, MSI-X or MSI). -/
inductive PwOwner where
  | lm (p arr : Nat)
  | chunk (q cid : Nat)
  | head (q : Nat)
  | event (f : Nat)
  | evProd (f : Nat)
  | irq (f vec : Nat)
deriving DecidableEq, Repr

/-- A posted Memory Write on a Stall link: waiting (`sent` false) or on the lanes and not yet acknowledged (R54).
`data` is the data from `addr` on, each byte with its enable; `ent` the translation entry it was formed from (R213). -/
structure PWr where
  own : PwOwner
  f : Nat
  addr : Nat
  data : List (Byte × Bool)
  ep : Bool
  ent : Option Nat
  xl : Bool
  pasid : Option Nat
  ns : Bool
  sent : Bool
  /-- It waits in the input stage of a Loom that stands still (R21). -/
  atLoom : Bool
deriving DecidableEq, Repr

/-- Purpose of a non-posted request of a function on its link (R200). -/
inductive HOwner where
  | lmRd (p arr off : Nat)
  | lmAtm (p arr : Nat)
  | lmZlr (p arr : Nat)
  | flushZlr (p arr : Nat)
  | qIndex (q : Nat)
  /-- `keep`: how many of its descriptors lie before the producer index accepted since (R138). -/
  | qDesc (q start keep : Nat)
  | qFrag (q dix first : Nat)
  | qData (q cid off : Nat)
  | xlate (rid : Nat)
deriving DecidableEq, Repr

/-- State of a host tag: not yet sent (no tag taken), outstanding, outstanding with its completion to be discarded in
silence (Table 8.4), quarantined after a reported expiry, or quarantined in silence. -/
inductive HSt where
  | waiting | sent | silent | quar | quarSilent
deriving DecidableEq, Repr

/-- A non-posted request of a function with its tag (R197 to R201). `cto` is the timeout in µs at the sending, none
when disabled; `got` what has arrived. -/
structure HTag where
  id : Nat
  own : HOwner
  st : HSt
  tag : Nat
  addr : Nat
  len : Nat
  ent : Option Nat
  xl : Bool
  pasid : Option Nat
  ns : Bool
  ops : List Byte
  aop : Nat
  t0 : Nat
  cto : Option Nat
  got : List (Byte × Bool)
  /-- It waits in the input stage of a Loom that stands still (R21). -/
  atLoom : Bool
deriving DecidableEq, Repr

/-- State of a prefetch entry in use (Table 4.9). -/
inductive PfSt where
  | pending | stale | valid | held
deriving DecidableEq, Repr

/-- A prefetch entry (R118 to R120): range in XLB space, the sub-window it was issued through, its bytes with poison,
the consumed marks, and the reads that wait on it (job and piece). -/
structure PfEnt where
  e : Nat
  st : PfSt
  port : Nat
  lo : Nat
  len : Nat
  winB : Bool
  sub : Nat
  data : List (Byte × Bool)
  used : List Bool
  waits : List (Nat × Nat)
  /-- Its record number, by which the answer to its read finds it (R119). -/
  born : Nat
  /-- SEP and the swap group of the sub-window it was issued through (R111, R121). -/
  sep : Nat
  g : Nat
  /-- A function reset has discarded it: nothing of it is recorded (R119). -/
  mute : Bool
deriving DecidableEq, Repr

/-- Who waits on a translation (R209). -/
inductive XlWait where
  | lm (p arr : Nat)
  | seg (q cid : Nat)
deriving DecidableEq, Repr

/-- An outstanding Translation Request (R209): range, PASID, the ranges of the Invalidate Requests for its PASID that came after it
was sent (R214). -/
structure XlReq where
  rid : Nat
  lo : Nat
  size : Nat
  pasid : Option Nat
  invs : List (Nat × Nat)
  waits : List XlWait
deriving DecidableEq, Repr

/-- An Invalidate Request in progress (R213): its ITag and the cache entries it marked. -/
structure Inval where
  itag : Nat
  ents : List Nat
deriving DecidableEq, Repr

/-- A record for the event ring (Table 5.11): code, origin, INFO as a number, payload. -/
structure EvRec where
  code : Nat
  origin : Nat
  info : Nat
  payload : List Byte
deriving DecidableEq, Repr

/-- A pending device event (R157): one per event code and queue, with the latest INFO. -/
structure DevEv where
  code : Nat
  q : Nat
  info : Nat
deriving DecidableEq, Repr

/-- Progress of a function reset (R202 to R206): when it started, whether it came from a link reset, whether it sends
Function Readiness Status at its end, and the virtual functions whose drains must end first. -/
structure FlrSt where
  t0 : Nat
  frs : Bool
  vfs : List Nat
deriving DecidableEq, Repr

/-- The dynamic state of one function. -/
structure FnDyn where
  np : List HTag := []
  pf : List PfEnt := []
  learned : List (Nat × Nat) := []
  xreqs : List XlReq := []
  invs : List Inval := []
  recs : List EvRec := []
  devs : List DevEv := []
  flr : Option FlrSt := none
  frsWait : Bool := false
  reinMark : Nat := 0
  pmeWait : Bool := false
  wvCmd : Option (Nat × Nat × Nat) := none
  /-- Place of its Weave command in the order of arrival at the Loom (R169). -/
  wvSeq : Nat := 0
  doe : List Nat := []
  eoiWait : List (Nat × Nat) := []
  bmeQ : List (Bool × Bool) := []
  /-- A STOP_INTERFACE_REQUEST to answer when the drain ends (Table 14.10). -/
  stopRsp : Option Transport := none
  /-- The stall group, of the two of a paired function, that has been reset since both last were (R10). -/
  halfRst : Option Nat := none
  /-- DOE: its interrupt is enabled; a response object is ready. -/
  doeIe : Bool := false
  doeRdy : Bool := false
deriving DecidableEq, Repr

/-- An entry of the translation cache (R211). `id` names it; `stamp` orders use. -/
structure AtsEnt where
  id : Nat
  f : Nat
  pasid : Option Nat
  lo : Nat
  size : Nat
  xlo : Nat
  rd : Bool
  wr : Bool
  ns : Bool
  global : Bool
  valid : Bool
  stamp : Nat
deriving DecidableEq, Repr

/-- One contiguous range of a chunk on one side (R142, R170): local or host, translated or not, address, length and
its offset in the chunk's source or destination data. -/
structure Seg where
  loc : Bool
  addr : Nat
  len : Nat
  off : Nat
  xl : Bool
  pasid : Option Nat
  ns : Bool
deriving DecidableEq, Repr

/-- State of a chunk: its reads outstanding, all its read data arrived, its data staged, its writes issued, or its
write done. -/
inductive ChSt where
  | reading | arrived | staged | writing | done
deriving DecidableEq, Repr

/-- One chunk of a COPY (R142, R143, R170): the descriptor, its packed-side offset and length, the fragment at its
start, its source and destination ranges, the parts read so far, its staged data (by destination offset) and the
number of its requests unanswered. -/
structure Chunk where
  cid : Nat
  dix : Nat
  off : Nat
  len : Nat
  frag : Nat
  srcs : List Seg
  dsts : List Seg
  parts : List (Nat × List (Byte × Bool))
  data : List (Byte × Bool)
  rdOut : Nat
  wrOut : Nat
  flush : Bool
  xlWait : Bool
  st : ChSt
deriving DecidableEq, Repr

/-- A descriptor (Table 5.4). -/
structure Desc where
  ix : Nat
  opcode : Nat
  frag : Bool
  fragDst : Bool
  weave : Bool
  fence : Bool
  wrf : Bool
  page : Bool
  noRepeat : Bool
  noSnoop : Bool
  spaces : Nat
  wslot : Nat
  len : Nat
  src : Nat
  dst : Nat
  fragAddr : Nat
  fragCount : Nat
  coal : Nat
  pasid : Option Nat
deriving DecidableEq, Repr

/-- An accepted descriptor in progress: the Weave program it is bound to (R166), the fragment entries known (address,
length, No Snoop) with the index of the next to read, whether a fragment read is outstanding, the bytes for which
chunks have been cut, the bytes committed, whether it wrote a poisoned granule, and the poisoned granules of writes issued that other
chunks may share (R145). -/
structure DescRun where
  d : Desc
  prog : Option Nat
  frags : List (Nat × Nat × Bool)
  fragNext : Nat
  fragOut : Bool
  cut : Nat
  commit : Nat
  poisoned : Bool
  pgran : List Nat
deriving DecidableEq, Repr

/-- A fetched block that waits to be processed (R138): the first descriptor or entry in it, of a fragment table its
descriptor, status 0 good, 1 UR, 2 CA, 3 timeout. -/
structure FetchIn where
  start : Nat
  dix : Nat
  st : Nat
  data : List (Byte × Bool)
deriving DecidableEq, Repr

/-- An access to a queue held while its context moves to another Shuttle (R34, R154): a doorbell with its hint, a
write to SHT_QCMD, to a configuration register (offset, value) or to SHT_QHEAD, or a host read of the page. -/
inductive Held where
  | bell (hint : Option Nat)
  | cmd (v : Nat)
  | ctx (off v : Nat)
  | head (v : Nat)
  | rd (r : HReq) (off : Nat)
deriving DecidableEq, Repr

/-- The dynamic state of one queue beside its context registers. -/
structure QDyn where
  idxOut : Bool := false
  idxIn : Option FetchIn := none
  hint : Option Nat := none
  cursor : Nat := 0
  descOut : Nat := 0
  descIn : List FetchIn := []
  fragIn : List FetchIn := []
  descs : List DescRun := []
  chunks : List Chunk := []
  nextCid : Nat := 0
  coalN : Nat := 0
  coalT : Option Nat := none
  wbWait : Bool := false
  wbOut : Nat := 0
  moving : Bool := false
  held : List Held := []
deriving DecidableEq, Repr

/-- Kind of a host request to a window (R110, R124). -/
inductive HKind where
  | read | atomic | zero
deriving DecidableEq, Repr

/-- One piece of a host window request: its XLB range, and its answer when it has one. -/
structure HPiece where
  lo : Nat
  len : Nat
  ans : Option CplSt
  data : List (Byte × Bool)
deriving DecidableEq, Repr

/-- A host read, AtomicOp or zero-length read of a window in progress. `l0` is the linear XLB address of its first byte
position, `g` the swap group (R111); `next` counts the completions sent; `dead`: no completion is sent any more. -/
structure HJob where
  id : Nat
  kind : HKind
  f : Nat
  link : Nat
  req : Nat
  n : Nat
  en : List Bool
  l0 : Nat
  g : Nat
  pieces : List HPiece
  next : Nat
  dead : Bool
  /-- Window (0 A, 1 B) and window offset of its first byte position. -/
  win : Nat
  off : Nat
  /-- The IDE stream of the request, on which its completions go (R235). -/
  stream : Option Nat
deriving DecidableEq, Repr

/-- A key set of an IDE stream: sub-stream, transmit direction, K bit; programmed, and in use (R234, R235, R352). -/
structure IdeKey where
  sub : Nat
  tx : Bool
  k : Bool
  go : Bool
deriving DecidableEq, Repr

/-- An IDE stream of a link that has keys or is Secure: Stream ID, its key sets, whether it is in the Secure state,
and whether it fell from it (R236). -/
structure IdeStr where
  id : Nat
  keys : List IdeKey
  secure : Bool
  fell : Bool := false
deriving DecidableEq, Repr

/-- The dynamic state of one Stall link: its posted writes in order, the captured bus number (R79), for INTA to INTD
the level last sent and whether the spacing of R188 still runs, an L0p request in progress (width, reason: 0 retirement,
1 ECONOMY, 2 brownout), whether the partner supports L0p, quiet intervals of R278, a widening demand kept back (R279), the wish
to release STL_CLKREQ_N, a narrowing through Recovery (width, reversed), lanes being margined (lane, type, payload), IDE streams,
the PAIRED detection time running, and a failed active link that waits for the switch (R304). -/
structure LinkDyn where
  posted : List PWr := []
  bus : Nat := 0
  intxLast : List Bool := [false, false, false, false]
  intxBusy : List Bool := [false, false, false, false]
  l0p : Option (Nat × Nat) := none
  partnerL0p : Bool := false
  econLow : Nat := 0
  want : Bool := false
  l1ask : Bool := false
  narrowTo : Option (Nat × Bool) := none
  margin : List (Nat × Nat × Nat) := []
  ide : List IdeStr := []
  detect : Bool := false
  failed : Bool := false
  /-- Virtual functions enabled in the old set when the active link failed (Table 12.14). -/
  vfs : List Nat := []
  /-- Equalisation bypass accepted (R222), per rate the partner presets that the logical lanes have chosen, and per logical lane the
  coefficients applied to the own transmitter. -/
  bypass : Bool := false
  eqTab : List (Nat × List Nat) := []
  coefs : List (Nat × Nat × Nat × Nat) := []
deriving DecidableEq, Repr

/-- A message on a Stall link (other than memory requests and completions). -/
inductive LMsg where
  | assertIntx (pin : Nat)
  | deassertIntx (pin : Nat)
  | frs (f reason : Nat)
  | pmPme (f : Nat)
  | err (f severity : Nat)
  | invalDone (f itag : Nat)
  | ltr (snoop noSnoop : Nat)
  | l0pReq (w : Nat)
  | l0pAns (ok : Bool)
  | enterL1
  | pmeAck
  | margin (lane ty payload : Nat)
deriving DecidableEq, Repr

/-- An XLB message the PX896 sends on a port. -/
inductive XMsg where
  | req (r : XReq)
  | rsp (r : RspOut)
  | reins (f v : Nat)
  | caps (c : CapsMsg)
  | credit (cls f count : Nat)
deriving DecidableEq, Repr

/-- What the transmitter of a Tether port sends beside XLB messages: training blocks with a STEP or a preset asked for on a
lane, the records of Table 10.4, SKIP flits, markers with their status, nudge bursts and wake bursts. -/
inductive TOut where
  | step (s : Nat)
  | txreq (lane preset : Nat)
  | replay (seq n : Nat)
  | narrowReq (mask : Nat)
  | narrow (mask f : Nat)
  | doze
  | wake
  | nudge
  | skip
  | marker (count status : Nat)
deriving DecidableEq, Repr

/-- SPDM and vendor-defined responses of the module (R349 to R353). Signatures, certificates and digests are byte strings that
the cited standards fix (free values). -/
inductive SpdmRsp where
  | version (vs : List Nat)
  | capabilities
  | algorithms
  | digests (d : List Byte)
  | certificate (data : List Byte) (left : Nat)
  | challengeAuth (sig : List Byte)
  | measurements (count : Nat) (vals : List (Nat × List Byte)) (sig : List Byte)
  | keyExchangeRsp (session : Nat) (sig : List Byte)
  | finishRsp
  | heartbeatAck
  | keyUpdateAck
  | endSessionAck
  | chunkSendAck (last : Bool)
  | chunkResponse (data : List Byte)
  | countersigned (status : Nat) (digest : List Byte) (tree : Nat) (sig : List Byte)
  | hssChain (total : Nat) (data : List Byte)
  | hssState (trees ready : Nat)
  | ideQuery (ids : List (Nat × Bool))
  | ideAck (ok : Bool)
  | tdispAck (ok : Bool)
  | report (ranges : List (Nat × Nat)) (info : List Nat)
  | doeDiscovery (object : Nat)
  | error (code : Nat)
deriving DecidableEq, Repr

/-- Answers of the Groom's services. `busy` is the answer of Table 15.2 for the request. -/
inductive Ans where
  | busy
  | spdm (r : SpdmRsp)
  | reg (status : Nat) (dwords : List Nat)
  | eid (e : Nat)
  | sensor (v : Nat)
  | pldm (ok : Bool)
deriving DecidableEq, Repr

/-- What the PX896 sends to its surroundings, as the commands make it. -/
inductive Out where
  /-- Completion of a host memory request: link, request label, status, data, EP, IDE stream. -/
  | cpl (l req : Nat) (st : CplSt) (data : List Byte) (ep : Bool) (ide : Option Nat)
  /-- Completion of a configuration request. -/
  | cfg (l req : Nat) (st : CplSt) (v : Nat) (ide : Option Nat)
  /-- A Memory Write of a function, with its IDE stream. -/
  | mwr (l : Nat) (w : PWr) (ide : Option Nat)
  /-- A Memory Read, zero-length read, AtomicOp or Translation Request of a function, with its IDE stream. -/
  | mrd (l f : Nat) (t : HTag) (ide : Option Nat)
  | msg (l : Nat) (m : LMsg)
  | xlb (p : Nat) (m : XMsg)
  | tth (p : Nat) (m : TOut)
  /-- An answer of the Groom on a management transport. -/
  | mgmt (tr : Transport) (a : Ans)
  /-- A frame on the Halter output. -/
  | halt (fr : HFrame)
  /-- What JTAG_TDO shifts out after an instruction. -/
  | tdo (bits : List Bool)
deriving DecidableEq, Repr

/-- What the transmitter of a Tether port puts on its lanes: a flit (its 192 bytes, and per physical lane the symbols sent, R248),
a SKIP flit, a marker and a training block (physical lane and bytes). -/
inductive WireTx where
  | flit (p : Nat) (bytes : List Byte) (lanes : List (Nat × List Nat))
  | skip (p : Nat) (lanes : List (Nat × List Nat))
  | marker (p lane : Nat) (bytes : List Byte)
  | block (p lane : Nat) (bytes : List Byte)
deriving DecidableEq, Repr

/-- The slot sideband of a port (Table 10.12): the filtered inputs, and the levels the PX896 drives. These stay through
every reset but what chapter 13 does to them. -/
structure PortPins where
  prsnt : Bool := false
  pwrgd : Bool := false
  pwren : Bool := false
  prstLow : Bool := true
deriving DecidableEq, Repr

/-- The fuses (R3, R333, R340, R341, R348): grade (which one the part is the spec leaves to the part sold: State.reset is a
PX896-CLA, DESIGN CHOICE, log entry 38), the key hash of the owner (none: blank), and the counts of blown bits. -/
structure Fuses where
  clx : Bool := false
  keyHash : Option Nat := none
  imgSvn : Nat := 0
  fwSvn : Nat := 0
  trees : Nat := 0
deriving DecidableEq, Repr

/-- What training has found on one lane (R255 to R258): consecutive good blocks of the base step, the partner's lane
number, inverted SYNC, the partner's STEP and FOM, the preset asked for, the best preset so far with its FOM, and whether the
search on the lane has ended. -/
structure LaneTrn where
  n : Nat := 0
  plane : Nat := 0
  rates : Nat := 0
  inv : Bool := false
  pstep : Nat := 0
  pfom : Nat := 0
  preset : Nat := 0
  best : Option (Nat × Nat) := none
  done : Bool := false
deriving DecidableEq, Repr

/-- A message in the replay buffer of a Tether port: the number of its first flit, how many flits it takes, the width in bytes by
which it was laid out, and the message. -/
structure TxMsg where
  first : Nat
  n : Nat
  w : Nat
  m : XMsg
deriving DecidableEq, Repr

/-- The dynamic state of a Tether port beneath XLB (chapter 10): training, replay, flit counts, narrowing and DOZE.
`trained` is the lane mask of the last training. Sequence numbers and positions count without wrap; the wire carries them modulo 4,096 and 65,536. `buf` is the replay buffer:
the messages handed over. `txPos` counts the flit positions sent since DESKEW, `sinceSkip` and `sinceMark` the flits since the last
SKIP flit and marker (R246, R251), `scr` the bytes each lane has sent since the last marker (R248), `good` the consecutive good
flits of DESKEW (Table 10.5), `portCfg` the MAXRATE, MAXWIDTH and LOOPBACK that stay in force until the next entry to DETECT when
TTH_PORT_CTRL has been written since the last one (R274). -/
structure TthDyn where
  found : Nat := 0
  step : Nat := 0
  common : Nat := 0
  lanes : List LaneTrn := []
  trained : Nat := 0
  polarity : Nat := 0
  txPreset : List Nat := []
  lock : Bool := false
  desk : Bool := false
  pStatus : Nat := 0
  fails : Nat := 0
  backoff : Bool := false
  txSeq : Nat := 0
  txOut : Nat := 0
  txAck : Nat := 0
  buf : List TxMsg := []
  hold : Option Nat := none
  nakOn : Option Nat := none
  replays : List (Nat × Nat) := []
  rxNext : Nat := 0
  rxCur : Nat := 0
  rxNak : Bool := false
  rxPos : Nat := 0
  rxUnack : Nat := 0
  rxSlots : List (List Byte) := []
  markCnt : Nat := 0
  askMask : Option Nat := none
  askF : Option (Nat × Nat) := none
  again : Bool := false
  giveF : Option (Nat × Nat) := none
  giveNext : Option Nat := none
  held : Bool := false
  txPos : Nat := 0
  sinceSkip : Nat := 0
  sinceMark : Nat := 0
  scr : Nat := 0
  good : Nat := 0
  portCfg : Option (Nat × Nat × Nat) := none
deriving DecidableEq, Repr

/-- The dynamic state of one stall group: STL_WAKE_N held low (R325), STL_CLKREQ_N asserted by the PX896 (R230), a wait for
the image after STL_PERST_N has been deasserted (R345). -/
structure GrpDyn where
  wakeLow : Bool := false
  ourReq : Bool := false
  waits : Bool := false
  /-- Its links were returned to Detect until an image is ready (R345). -/
  barred : Bool := false
  /-- The form in force (R216): that of STL_GRP_CFG when the section arrived or at the last stall-group reset. -/
  form : Nat := 0
deriving DecidableEq, Repr

/-- The dynamic state of one slot (R331, R332): a power-on that waits for the assertion of TTH_PWREN, a kept power-on request, the held part of ON with the insertion seen since, a release of TTH_PRST_N still to come
with whether it ends a power-on or a hold, the start of the 100 µs of a tether reset, and a power-off that waits for them. -/
structure SlotDyn where
  onWait : Bool := false
  kept : Bool := false
  held : Bool := false
  lost : Bool := false
  inserted : Bool := false
  relDone : Bool := false
  rstT0 : Option Nat := none
  offWait : Bool := false
deriving DecidableEq, Repr

/-- Whether the module has power (R308 to R311, R326, R329): off, on, in VSTBY hold, in Stand, off after a thermal shutdown, or
off until cold reset. -/
inductive PwrSt where
  | off | on | hold | stand | thermOff | dead
deriving DecidableEq, Repr

/-- An action of its own that a droop window holds back (R315), in the order in which they fell due. -/
inductive HeldAct where
  | upshift
  | loomWiden
  | l1exit (l : Nat)
  | clkreq (g : Nat)
  | l0pWiden (l : Nat)
  | brownoutWiden
  | doze (p : Nat)
  | slotOn (p : Nat)
  | standExit
deriving DecidableEq, Repr

/-- The dynamic state of the power-control die and of the Groom's gait and throttle loops. `ramp`: the input current has not
yet settled after an increase (R314); `bar`: a window closed by DROOP_MAX_US may not open again yet, and `highAt` since when
DROOP_ALERT_N has been high (R316); `epoch`: the time before the last module reset, which restarts the timebase; `offs`: times of
thermal shutdowns, counted on from the first; `narrow`: bits 0 brownout, 1 thermal trip, 2 Groom throttle hold the narrowing of
R313; `lowWins`: quiet windows of R320; `lamePhases`: first-stage phases shed. -/
structure PowerDyn where
  st : PwrSt := .off
  ramp : Bool := false
  held : List HeldAct := []
  bar : Bool := false
  highAt : Option Nat := none
  epoch : Nat := 0
  offs : List Nat := []
  narrow : Nat := 0
  /-- R313: after a brownout the gait stays at Walk until the Groom raises it. -/
  walkHold : Bool := false
  lowWins : Nat := 0
  lamePhases : List Nat := []
deriving DecidableEq, Repr

/-- One crossing of the Loom (R17, R20, Table 1.4): input and output port (none: a unit on the Loom die itself), class 0 posted,
1 non-posted or 2 completion, and bytes of payload. -/
structure Xing where
  i : Option Nat
  o : Option Nat
  cls : Nat
  bytes : Nat
deriving DecidableEq, Repr

/-- An answer held in the input stage of a Loom that stands still (R21): of the design to a request of the PX896 (port, request,
code, cause, data), the end of a host request, good with its data or bad with its status, an acknowledged Memory Write, or the
response to a request of the design of port p. -/
inductive LoomBack where
  | xlb (p : Nat) (r : XReq) (code cause : Nat) (cells : List (Byte × Bool))
  | good (f : Nat) (t : HTag) (cells : List (Byte × Bool))
  | bad (f : Nat) (t : HTag) (st : Nat)
  | acked (w : PWr)
  | lm (p link tag code cause pvec : Nat) (data : List Byte)
deriving DecidableEq, Repr

/-- The Loom (R18 to R23, R298, R281): slices declared lame, granting stopped, the substitution in progress (slice and start),
narrowed for ECONOMY, the pointer of each output port, the offers that wait (output, input, class 0 posted, 1 non-posted,
2 completion), oldest first. -/
structure LoomDyn where
  lame : List Nat := []
  stopped : Bool := false
  sub : Option (Nat × Nat) := none
  narrow : Bool := false
  ptr : List (Nat × Nat) := []
  waits : List (Nat × Nat × Nat) := []
deriving DecidableEq, Repr

/-- A stumble counter (R285): its unit, the start of its window and its count. -/
structure Stum where
  u : UnitRef
  start : Nat
  count : Nat
deriving DecidableEq, Repr
/-- An SPDM session (R349): its connection, number, whether FINISH has completed it, and key updates so far. -/
structure Sess where
  tr : Transport
  id : Nat
  est : Bool
  gen : Nat
deriving DecidableEq, Repr

/-- An SPDM connection (R349, R351): versions, capabilities and algorithms settled, the digest of the last signed response, its
stored countersignature (tree, signature), chunks of a large request taken, and what is left of a large response. -/
structure Conn where
  tr : Transport
  stage : Nat := 0
  signed : Option (List Byte) := none
  stored : Option (Nat × List Byte) := none
  chunks : Nat := 0
  rest : List Byte := []
deriving DecidableEq, Repr

/-- A firmware update in progress (R365): its transport, the copy written, the bytes written. -/
structure Upd where
  tr : Transport
  copyB : Bool
  bytes : Nat
deriving DecidableEq, Repr

/-- An IMAGE_REQ outstanding on the Halter ring (R372): offset, bytes wanted, repeats. -/
structure ImgReq where
  off : Nat
  len : Nat
  reps : Nat
deriving DecidableEq, Repr

/-- The dynamic state of the boot (R334 to R346): the boot ROM runs, the image that passed with its copy B flag, the copies read,
and the fetch over the ring: outstanding requests, next offset, bytes of the whole image once its header has come. -/
structure BootDyn where
  run : Bool := false
  passed : Option (Image × Bool) := none
  read : List ImgSrc := []
  reqs : List ImgReq := []
  next : Nat := 0
  total : Option Nat := none
deriving DecidableEq, Repr

/-- The dynamic state of the Groom (R299, R355 to R366): the pair is stopped, results of the self-test, a stop that made the pair
lame, no two good cores are left, the best-effort queue, requests taken before the stop, endpoint IDs, SPDM connections and
sessions, shares of the last frames, telemetry, the sensor values of the last period, an update, a deferred module reset, the
number of the leaf signing key, and a lower HSS tree being generated (R348). -/
structure GroomDyn where
  stopped : Bool := false
  okCores : List Nat := []
  lamePair : Bool := false
  dead : Bool := false
  queue : List Transport := []
  cut : List Transport := []
  eids : List (Transport × Nat) := []
  conns : List Conn := []
  sess : List Sess := []
  frames : List (Nat × Nat × Nat) := []
  telemMul : Nat := 1
  sensed : List Nat := []
  upd : Option Upd := none
  deferred : Bool := false
  leafKey : Nat := 0
  treeGen : Bool := false
deriving DecidableEq, Repr

/-- The Halter port (R367 to R374): a STATUS is owed, a DISCOVER has been taken, frames sent. -/
structure HaltDyn where
  owed : Bool := false
  disc : Bool := false
  seq : Nat := 0
deriving DecidableEq, Repr

/-- JTAG instructions (R375); `reset`: the TAP is held in reset. -/
inductive TapIns where
  | reset | bypass | idcode | samplePreload | extest | clamp | highz | extestPulse | extestTrain
deriving DecidableEq, Repr

/-- The TAP (R375): its instruction, the boundary-scan register as last loaded, access beyond boundary scan, and whether the boot ROM
has enabled the Halter and JTAG ports since they were last without power (R373, R376). -/
structure TapDyn where
  ins : TapIns := .reset
  bsr : List Bool := []
  debug : Bool := false
  portOn : Bool := false
deriving DecidableEq, Repr

/-- Reference clocks (R27, R245): TTH_REFCLK inputs out of tolerance, Tether dies on the synthesised reference, and the input the
core PLLs use. -/
structure RefDyn where
  bad : List Nat := []
  synth : List Nat := []
  core : Option Nat := some 0
deriving DecidableEq, Repr


/-- A substitution of a lame Shuttle in progress (R154): the lame one, its spare (none: its buckets were spread), and the
module queues that move, each with the descriptor and fragment of a NO_REPEAT descriptor of which it loses work. -/
structure MoveRec where
  t0 : Nat
  lame : Nat
  spare : Option Nat
  qs : List (Nat × Option (Nat × Nat))
deriving DecidableEq, Repr

/-- The block: everything but the queue of waiting commands. `regs` holds every register field that differs from its
reset value; the other tables hold the records that differ from their defaults, by unit number. `out` is what has been
sent, newest first, and `wire` what the Tether transmitters have put on their lanes, newest first; `freeCtr` numbers the free values taken (the model's own field), `nextId` the records made. -/
structure Block where
  regs : List (RKey × Nat) := []
  time : Nat := 0
  freeCtr : Nat := 0
  nextId : Nat := 0
  straps : Straps := ⟨0, 0, false, false, false, false⟩
  img : Option Image := none
  sg : List GroupRec × List SDieRec := ([], [])
  xlb : List (Nat × XlbDyn) := []
  tth : List (Nat × TthDyn) := []
  links : List (Nat × LinkDyn) := []
  fns : List (Nat × FnDyn) := []
  queues : List (Nat × QDyn) := []
  pins : List (Nat × PortPins) := []
  groups : List (Nat × GrpDyn) := []
  slots : List (Nat × SlotDyn) := []
  pow : PowerDyn := {}
  loom : LoomDyn := {}
  stums : List Stum := []
  fuses : Fuses := {}
  jobs : List HJob := []
  ats : List AtsEnt := []
  buckets : List Nat := []
  parked : List Nat := []
  gated : List GateRef := []
  lameSh : List Nat := []
  moves : List MoveRec := []
  /-- Per Shuttle the module queue it served last (R132). -/
  shutRot : List (Nat × Nat) := []
  boot : BootDyn := {}
  grm : GroomDyn := {}
  halt : HaltDyn := {}
  tap : TapDyn := {}
  refs : RefDyn := {}
  out : List Out := []
  wire : List WireTx := []
  /-- The answers that a stopped Loom holds, oldest first (R21, R298). -/
  loomBack : List LoomBack := []
  /-- The crossings of the Loom, newest first (R18, R22, R23). -/
  xings : List Xing := []
deriving DecidableEq, Repr

/-- The machine's state: the block, and the commands that wait, first in first out. -/
structure State where
  blk : Block
  pending : List Instr
deriving DecidableEq, Repr

/-- Why the model stops. -/
inductive Fault where
  /-- Raised by no meaning: the name kept for a command whose operands no sender can put on the wire (WellFormed.lean); such a
  command runs, with its operands cut to size or filled with free values (log entry 9). Safe. -/
  | illFormed
deriving DecidableEq, Repr

/-- Why the model refuses a command. -/
inductive Refusal where
  /-- Raised by Dispatch for a command that has no meaning yet. Safe: nothing is claimed of it. -/
  | notModelled (mnemonic : String)
deriving DecidableEq, Repr

/-- The state right after reset: the Paddock domain is without power, every register field has its reset value, no
image is loaded, nothing is outstanding and no command waits. -/
def State.reset : State := { blk := {}, pending := [] }

end Sys2Proof.Machine
end

