-- ==== Sys2Proof/Machine/RegTable.lean ====
section
/-! DEFINITION. The register tables of the manual as data: attributes of every field, layout of every register,
reserved encodings, image values, and the operations that read and write a field. -/
namespace Sys2Proof.Machine

/-- The attributes of a field: unit, width, access, reset entry and the narrowest reset that restores it
(the tables named in the specification by register; R12, R13). -/
def Fld.attr : Fld → FldAttr
  | .xlbMaxver => ⟨.port, 4, .rw, .image, .module⟩
  | .xlbRetryLimit => ⟨.port, 8, .rw, .image, .module⟩
  | .xlbRetryGap => ⟨.port, 8, .rw, .image, .module⟩
  | .xlbTimeoutUs => ⟨.port, 20, .rw, .image, .module⟩
  | .xlbFenceCount => ⟨.port, 8, .rw, .image, .module⟩
  | .xlbFenceWindowUs => ⟨.port, 24, .rw, .image, .module⟩
  | .xlbVersion => ⟨.port, 4, .ro, (.val 0), .tether⟩
  | .xlbWidth => ⟨.port, 3, .ro, (.val 0), .tether⟩
  | .xlbHalfDuplex => ⟨.port, 1, .ro, (.val 0), .tether⟩
  | .xlbAtm => ⟨.port, 1, .ro, (.val 0), .tether⟩
  | .xlbActive => ⟨.port, 1, .ro, (.val 0), .tether⟩
  | .xlbFenced => ⟨.port, 1, .ro, (.val 0), .module⟩
  | .xlbCapsFail => ⟨.port, 1, .ro, (.val 0), .tether⟩
  | .xlbCapsFailWhy => ⟨.port, 4, .ro, (.val 0), .tether⟩
  | .xlbPxOut => ⟨.port, 11, .ro, .der, .tether⟩
  | .xlbLocalOut => ⟨.port, 11, .ro, .der, .tether⟩
  | .xlbCntTimeouts => ⟨.port, 8, .rc, (.val 0), .module⟩
  | .xlbCntLate => ⟨.port, 8, .rc, (.val 0), .module⟩
  | .xlbCntProtocol => ⟨.port, 8, .rc, (.val 0), .module⟩
  | .xlbCntFences => ⟨.port, 8, .rc, (.val 0), .module⟩
  | .verMinor => ⟨.fn, 8, .ro, .der, .module⟩
  | .verMajor => ⟨.fn, 8, .ro, .der, .module⟩
  | .verStepping => ⟨.fn, 8, .ro, .der, .cold⟩
  | .verGrade => ⟨.fn, 1, .ro, .der, .cold⟩
  | .identFunc => ⟨.fn, 9, .ro, .der, .module⟩
  | .identVf => ⟨.fn, 1, .ro, .der, .module⟩
  | .identPrivileged => ⟨.fn, 1, .ro, .der, .module⟩
  | .identPfIndex => ⟨.fn, 3, .ro, .der, .module⟩
  | .identDisc => ⟨.fn, 2, .ro, .der, .module⟩
  | .identAriFn => ⟨.fn, 8, .ro, .der, .module⟩
  | .bindLink => ⟨.fn, 8, .ro, .der, .module⟩
  | .bindStandbyLink => ⟨.fn, 8, .ro, .der, .module⟩
  | .bindPort => ⟨.fn, 6, .ro, .der, .module⟩
  | .bindShared => ⟨.fn, 1, .ro, .der, .module⟩
  | .modesModes => ⟨.fn, 11, .ro, .der, .module⟩
  | .modesLoopback => ⟨.port, 1, .ro, .der, .tether⟩
  | .didIdent => ⟨.port, 32, .ro, .der, .tether⟩
  | .drevIdrev => ⟨.port, 16, .ro, .der, .tether⟩
  | .drevXlbMinor => ⟨.port, 4, .ro, .der, .tether⟩
  | .drevWidth => ⟨.port, 3, .ro, .der, .tether⟩
  | .drevHalfDuplex => ⟨.port, 1, .ro, .der, .tether⟩
  | .fstPortActive => ⟨.port, 1, .ro, .der, .tether⟩
  | .fstFenced => ⟨.port, 1, .ro, .der, .module⟩
  | .fstCapsSeen => ⟨.fn, 1, .w1c, (.val 0), .function⟩
  | .ffenceRelease => ⟨.fn, 1, .wo, (.val 0), .function⟩
  | .ffenceFenced => ⟨.port, 1, .ro, .der, .module⟩
  | .ffenceWhy => ⟨.port, 2, .ro, (.val 0), .module⟩
  | .swOffset => ⟨.fn, 36, .ro, .der, .module⟩
  | .swSize => ⟨.fn, 37, .ro, .der, .module⟩
  | .swXlbBase => ⟨.fn, 52, .ro, .der, .module⟩
  | .swaEn => ⟨.fn, 1, .ro, .der, .module⟩
  | .swaWclass => ⟨.fn, 3, .ro, .der, .module⟩
  | .swaOrder => ⟨.fn, 2, .ro, .der, .module⟩
  | .swaSizes => ⟨.fn, 8, .ro, .der, .module⟩
  | .swaAtomics => ⟨.fn, 1, .ro, .der, .module⟩
  | .swaWmode => ⟨.fn, 1, .ro, .der, .module⟩
  | .swaPrefetch => ⟨.fn, 2, .ro, .der, .module⟩
  | .swaSep => ⟨.fn, 2, .ro, .der, .module⟩
  | .pgoWin => ⟨.fn, 1, .rw, .image, .function⟩
  | .pgoPage => ⟨.fn, 36, .rw, .image, .function⟩
  | .pgoValid => ⟨.fn, 1, .rw, .image, .function⟩
  | .pfHoldUs => ⟨.fn, 14, .rw, .image, .function⟩
  | .pfForget => ⟨.fn, 1, .wo, (.val 0), .function⟩
  | .pfDisable => ⟨.fn, 1, .rw, (.val 0), .function⟩
  | .pfCntLearned => ⟨.fn, 8, .rc, (.val 0), .function⟩
  | .pfCntHeld => ⟨.fn, 8, .rc, (.val 0), .function⟩
  | .pfCntLost => ⟨.fn, 8, .rc, (.val 0), .function⟩
  | .pfCntUnexpected => ⟨.fn, 8, .rc, (.val 0), .function⟩
  | .obLocalBase => ⟨.fn, 52, .ro, .der, .module⟩
  | .obSize => ⟨.fn, 37, .ro, .der, .module⟩
  | .obHostBase => ⟨.fn, 52, .rw, (.val 0), .function⟩
  | .obEn => ⟨.fn, 1, .rw, (.val 0), .function⟩
  | .obTranslated => ⟨.fn, 1, .rw, (.val 0), .function⟩
  | .obPasidEn => ⟨.fn, 1, .rw, (.val 0), .function⟩
  | .obNoSnoop => ⟨.fn, 1, .rw, (.val 0), .function⟩
  | .obAtomics => ⟨.fn, 1, .rw, (.val 0), .function⟩
  | .obOwned => ⟨.fn, 1, .ro, .der, .module⟩
  | .obPasid => ⟨.fn, 20, .rw, (.val 0), .function⟩
  | .qRingBase => ⟨.queue, 52, .rw, (.val 0), .function⟩
  | .qPidxAddr => ⟨.queue, 62, .rw, (.val 0), .function⟩
  | .qHidxAddr => ⟨.queue, 62, .rw, (.val 0), .function⟩
  | .qLog2 => ⟨.queue, 5, .rw, .image, .function⟩
  | .qMsixEn => ⟨.queue, 1, .rw, .image, .function⟩
  | .qMsixVec => ⟨.queue, 6, .rw, .image, .function⟩
  | .qCoalCount => ⟨.queue, 16, .rw, .image, .function⟩
  | .qCoalTimeUs => ⟨.queue, 11, .rw, .image, .function⟩
  | .qcmdEnable => ⟨.queue, 1, .wo, (.val 0), .queue⟩
  | .qcmdDisable => ⟨.queue, 1, .wo, (.val 0), .queue⟩
  | .qcmdPause => ⟨.queue, 1, .wo, (.val 0), .queue⟩
  | .qcmdResume => ⟨.queue, 1, .wo, (.val 0), .queue⟩
  | .qcmdReset => ⟨.queue, 1, .wo, (.val 0), .queue⟩
  | .qState => ⟨.queue, 3, .ro, (.val 0), .queue⟩
  | .qArmPending => ⟨.queue, 1, .ro, (.val 0), .queue⟩
  | .qPauseDrv => ⟨.queue, 1, .ro, (.val 0), .queue⟩
  | .qPauseBme => ⟨.queue, 1, .ro, (.val 0), .queue⟩
  | .qRefetch => ⟨.queue, 1, .ro, (.val 0), .queue⟩
  | .qResetBusy => ⟨.queue, 1, .ro, (.val 0), .queue⟩
  | .qAvailable => ⟨.queue, 1, .ro, .der, .module⟩
  | .qShuttle => ⟨.queue, 8, .ro, .der, .module⟩
  | .qHead => ⟨.queue, 32, .rw, (.val 0), .queue⟩
  | .qProd => ⟨.queue, 32, .ro, (.val 0), .queue⟩
  | .qCurDesc => ⟨.queue, 32, .ro, (.val 0), .queue⟩
  | .qCurFrag => ⟨.queue, 12, .ro, (.val 0), .queue⟩
  | .qCurOffset => ⟨.queue, 32, .ro, (.val 0), .queue⟩
  | .qStaged => ⟨.queue, 19, .ro, .der, .queue⟩
  | .qHaltCause => ⟨.queue, 8, .ro, (.val 0), .queue⟩
  | .qHaltDetail => ⟨.queue, 8, .ro, (.val 0), .queue⟩
  | .qHaltDesc => ⟨.queue, 32, .ro, (.val 0), .queue⟩
  | .qHaltFrag => ⟨.queue, 12, .ro, (.val 0), .queue⟩
  | .qCntDone => ⟨.queue, 16, .rc, (.val 0), .queue⟩
  | .qCntPoisoned => ⟨.queue, 16, .rc, (.val 0), .queue⟩
  | .evtBase => ⟨.fn, 52, .rw, (.val 0), .function⟩
  | .evtPidxAddr => ⟨.fn, 62, .rw, (.val 0), .function⟩
  | .evtEn => ⟨.fn, 1, .rw, (.val 0), .function⟩
  | .evtLog2 => ⟨.fn, 5, .rw, .image, .function⟩
  | .evtFull => ⟨.fn, 1, .ro, .der, .function⟩
  | .evtEvtFull => ⟨.fn, 1, .w1c, (.val 0), .function⟩
  | .evtProd => ⟨.fn, 32, .ro, (.val 0), .function⟩
  | .evtCons => ⟨.fn, 32, .rw, (.val 0), .function⟩
  | .wvStageProgram => ⟨.fn, 512, .rw, (.val 0), .function⟩
  | .wvCmdSlot => ⟨.fn, 3, .wo, (.val 0), .function⟩
  | .wvCmdOp => ⟨.fn, 2, .wo, (.val 0), .function⟩
  | .wvBusy => ⟨.fn, 1, .ro, (.val 0), .function⟩
  | .wvLastSlot => ⟨.fn, 3, .ro, (.val 0), .function⟩
  | .wvResult => ⟨.fn, 4, .ro, (.val 0), .function⟩
  | .wvLoaded => ⟨.fn, 8, .ro, .der, .function⟩
  | .wvFree => ⟨.fn, 9, .ro, .der, .module⟩
  | .wvFmtMax => ⟨.fn, 4, .ro, .der, .module⟩
  | .wvuUnit => ⟨.fn, 13, .ro, .der, .function⟩
  | .wvuHalfRate => ⟨.fn, 1, .ro, .der, .function⟩
  | .wvSlotProgram => ⟨.fn, 512, .ro, .image, .function⟩
  | .spMode => ⟨.fn, 2, .ro, .der, .function⟩
  | .spSelected => ⟨.fn, 4, .ro, .der, .function⟩
  | .spSelValid => ⟨.fn, 1, .ro, .der, .function⟩
  | .spRotate => ⟨.fn, 4, .ro, (.val 0), .function⟩
  | .spLines => ⟨.fn, 8, .ro, (.val 0), .tether⟩
  | .spInternal => ⟨.fn, 7, .ro, .der, .function⟩
  | .spPend => ⟨.fn, 15, .ro, .der, .function⟩
  | .spMask => ⟨.fn, 15, .ro, (.val 32767), .function⟩
  | .spInservice => ⟨.fn, 15, .ro, .der, .function⟩
  | .spMaskSet => ⟨.fn, 15, .wo, (.val 0), .function⟩
  | .spMaskClr => ⟨.fn, 15, .wo, (.val 0), .function⟩
  | .spPendSet => ⟨.fn, 15, .wo, (.val 0), .function⟩
  | .spPendClr => ⟨.fn, 15, .wo, (.val 0), .function⟩
  | .spEoi => ⟨.fn, 15, .wo, (.val 0), .function⟩
  | .spQpend => ⟨.fn, 32, .w1c, (.val 0), .function⟩
  | .spCntPreempt => ⟨.fn, 8, .rc, (.val 0), .function⟩
  | .spCntStrayEoi => ⟨.fn, 8, .rc, (.val 0), .function⟩
  | .srcPrio => ⟨.fn, 2, .rw, .image, .function⟩
  | .srcState => ⟨.fn, 2, .ro, (.val 0), .function⟩
  | .srcLatch => ⟨.fn, 1, .ro, (.val 0), .function⟩
  | .srcKind => ⟨.fn, 1, .ro, .der, .module⟩
  | .srcNextTgt => ⟨.fn, 3, .ro, (.val 0), .function⟩
  | .srcLastVec => ⟨.fn, 6, .ro, (.val 0), .function⟩
  | .reinsInValue => ⟨.fn, 32, .ro, (.val 0), .tether⟩
  | .reinsInChg => ⟨.fn, 32, .w1c, (.val 0), .function⟩
  | .reinsOutValue => ⟨.fn, 32, .rw, (.val 0), .function⟩
  | .reinsOutSent => ⟨.fn, 32, .ro, (.val 0), .tether⟩
  | .reinsPeriodUs => ⟨.fn, 10, .rw, .image, .function⟩
  | .reinsOutPending => ⟨.fn, 1, .ro, (.val 0), .function⟩
  | .flrBoundUs => ⟨.sdie, 17, .rw, .image, .module⟩
  | .seqFomTarget => ⟨.sdie, 8, .rw, .image, .module⟩
  | .seqFomRetire => ⟨.sdie, 8, .rw, .image, .module⟩
  | .seqPresets => ⟨.sdie, 4, .rw, .image, .module⟩
  | .seqBypass => ⟨.sdie, 1, .rw, .image, .module⟩
  | .grpForm => ⟨.group, 2, .rw, .image, .module⟩
  | .grpClocking => ⟨.group, 2, .rw, .image, .module⟩
  | .grpMaxrate => ⟨.group, 4, .rw, .image, .module⟩
  | .grpL0pEn => ⟨.group, 1, .rw, .image, .module⟩
  | .grpAspmIdleUs => ⟨.group, 7, .rw, .image, .module⟩
  | .gstPerst => ⟨.group, 1, .ro, (.val 1), .stallGroup⟩
  | .gstClkreq => ⟨.group, 1, .ro, (.val 0), .stallGroup⟩
  | .gstRefclkOk => ⟨.group, 1, .ro, (.val 0), .stallGroup⟩
  | .gstGated => ⟨.group, 1, .ro, .der, .stallGroup⟩
  | .gstMode => ⟨.group, 2, .ro, (.val 0), .stallGroup⟩
  | .gstSynth => ⟨.group, 1, .ro, (.val 0), .stallGroup⟩
  | .lnkPresent => ⟨.link, 1, .ro, .der, .module⟩
  | .lnkDlActive => ⟨.link, 1, .ro, (.val 0), .link⟩
  | .lnkFlit => ⟨.link, 1, .ro, (.val 0), .link⟩
  | .lnkRate => ⟨.link, 4, .ro, (.val 0), .link⟩
  | .lnkWidthNeg => ⟨.link, 5, .ro, (.val 0), .link⟩
  | .lnkWidthAct => ⟨.link, 5, .ro, (.val 0), .link⟩
  | .lnkReversed => ⟨.link, 1, .ro, (.val 0), .link⟩
  | .lnkLtssm => ⟨.link, 4, .ro, (.val 0), .link⟩
  | .lnkL1sub => ⟨.link, 2, .ro, (.val 0), .link⟩
  | .lnkRetired => ⟨.link, 16, .ro, (.val 0), .stallGroup⟩
  | .lnkPolarity => ⟨.link, 16, .ro, (.val 0), .link⟩
  | .lnkEq64Done => ⟨.link, 1, .ro, (.val 0), .link⟩
  | .lnkEq128Done => ⟨.link, 1, .ro, (.val 0), .link⟩
  | .lnkEq64Fail => ⟨.link, 1, .ro, (.val 0), .link⟩
  | .lnkEq128Fail => ⟨.link, 1, .ro, (.val 0), .link⟩
  | .lnkFomEnd => ⟨.link, 8, .ro, (.val 0), .link⟩
  | .lnkCntFecCorr => ⟨.link, 16, .rc, (.val 0), .module⟩
  | .lnkCntCrcFail => ⟨.link, 16, .rc, (.val 0), .module⟩
  | .lnkCntRecovery => ⟨.link, 8, .rc, (.val 0), .module⟩
  | .lnkCntL0pChg => ⟨.link, 8, .rc, (.val 0), .module⟩
  | .lnkCntLinkDown => ⟨.link, 8, .rc, (.val 0), .module⟩
  | .lnkCntRetire => ⟨.link, 8, .rc, (.val 0), .module⟩
  | .slaneFom => ⟨.slane, 8, .ro, (.val 0), .link⟩
  | .slaneErrs => ⟨.slane, 8, .rc, (.val 0), .module⟩
  | .slaneTxpreset => ⟨.slane, 4, .ro, (.val 0), .link⟩
  | .slaneLame => ⟨.slane, 1, .ro, (.val 0), .stallGroup⟩
  | .teqFomTarget => ⟨.tdie, 8, .rw, .image, .module⟩
  | .teqFomRetire => ⟨.tdie, 8, .rw, .image, .module⟩
  | .teqPresets => ⟨.tdie, 4, .rw, .image, .module⟩
  | .pcMaxrate => ⟨.port, 3, .rw, .image, .module⟩
  | .pcMaxwidth => ⟨.port, 4, .rw, .image, .module⟩
  | .pcLoopback => ⟨.port, 2, .rw, (.val 0), .module⟩
  | .pcRetrain => ⟨.port, 1, .wo, (.val 0), .tether⟩
  | .pcReset => ⟨.port, 1, .wo, (.val 0), .tether⟩
  | .tlcKeepaliveUs => ⟨.port, 8, .rw, .image, .module⟩
  | .tlcReplayLimit => ⟨.port, 8, .rw, .image, .module⟩
  | .dozeEn => ⟨.port, 1, .rw, .image, .module⟩
  | .dozeIdleNs => ⟨.port, 12, .rw, .image, .module⟩
  | .dozeEcoIdleNs => ⟨.port, 12, .rw, .image, .module⟩
  | .psState => ⟨.port, 4, .ro, (.val 0), .tether⟩
  | .psRate => ⟨.port, 3, .ro, (.val 0), .tether⟩
  | .psWidthNeg => ⟨.port, 4, .ro, (.val 0), .tether⟩
  | .psWidthRx => ⟨.port, 4, .ro, (.val 0), .tether⟩
  | .psWidthTx => ⟨.port, 4, .ro, (.val 0), .tether⟩
  | .psReversed => ⟨.port, 1, .ro, (.val 0), .tether⟩
  | .psTxDoze => ⟨.port, 1, .ro, (.val 0), .tether⟩
  | .psRxDoze => ⟨.port, 1, .ro, (.val 0), .tether⟩
  | .psPresent => ⟨.port, 1, .ro, .der, .tether⟩
  | .psPwrgd => ⟨.port, 1, .ro, .der, .tether⟩
  | .plRxRetired => ⟨.port, 8, .ro, (.val 0), .tether⟩
  | .plTxRetired => ⟨.port, 8, .ro, (.val 0), .tether⟩
  | .plRxmask => ⟨.port, 8, .ro, (.val 0), .tether⟩
  | .plTxmask => ⟨.port, 8, .ro, (.val 0), .tether⟩
  | .tlaneFom => ⟨.tlane, 8, .ro, (.val 0), .tether⟩
  | .tlaneErrs => ⟨.tlane, 8, .rc, (.val 0), .module⟩
  | .tlaneTxpreset => ⟨.tlane, 3, .ro, (.val 0), .tether⟩
  | .tlaneLame => ⟨.tlane, 1, .ro, (.val 0), .tether⟩
  | .pcntFecCorr => ⟨.port, 16, .rc, (.val 0), .module⟩
  | .pcntCrcFail => ⟨.port, 16, .rc, (.val 0), .module⟩
  | .pcntReplay => ⟨.port, 8, .rc, (.val 0), .module⟩
  | .pcntLinkDown => ⟨.port, 8, .rc, (.val 0), .module⟩
  | .pcntRetire => ⟨.port, 8, .rc, (.val 0), .module⟩
  | .pcntTrainFail => ⟨.port, 8, .rc, (.val 0), .module⟩
  | .stumThreshold => ⟨.mod, 32, .rw, .image, .module⟩
  | .stumWindowMs => ⟨.mod, 32, .rw, .image, .module⟩
  | .stumLame => ⟨.mod, 16, .rc, (.val 0), .cold⟩
  | .errProd => ⟨.fn, 16, .ro, (.val 0), .stallGroup⟩
  | .errCons => ⟨.fn, 16, .rw, (.val 0), .stallGroup⟩
  | .errOverflow => ⟨.fn, 16, .rc, (.val 0), .stallGroup⟩
  | .recActiveLink => ⟨.fn, 8, .ro, .image, .module⟩
  | .recFailovers => ⟨.fn, 8, .rc, (.val 0), .module⟩
  | .recMoves => ⟨.fn, 8, .rc, (.val 0), .module⟩
  | .recStandbyReady => ⟨.fn, 1, .ro, (.val 0), .module⟩
  | .ehCode => ⟨.fn, 8, .ro, (.val 0), .stallGroup⟩
  | .ehDetail => ⟨.fn, 8, .ro, (.val 0), .stallGroup⟩
  | .ehPort => ⟨.fn, 6, .ro, (.val 0), .stallGroup⟩
  | .ehWin => ⟨.fn, 2, .ro, (.val 0), .stallGroup⟩
  | .ehQueue => ⟨.fn, 5, .ro, (.val 0), .stallGroup⟩
  | .ehQvalid => ⟨.fn, 1, .ro, (.val 0), .stallGroup⟩
  | .ehSeq => ⟨.fn, 16, .ro, (.val 0), .stallGroup⟩
  | .ehCause => ⟨.fn, 8, .ro, (.val 0), .stallGroup⟩
  | .ehAddr => ⟨.fn, 64, .ro, (.val 0), .stallGroup⟩
  | .ehLen => ⟨.fn, 32, .ro, (.val 0), .stallGroup⟩
  | .ehAux => ⟨.fn, 32, .ro, (.val 0), .stallGroup⟩
  | .ehTimeUs => ⟨.fn, 32, .ro, (.val 0), .stallGroup⟩
  | .shtFetchUs => ⟨.mod, 17, .rw, .image, .module⟩
  | .pairDetectUs => ⟨.sdie, 8, .rw, .image, .module⟩
  | .pwrSlew => ⟨.mod, 5, .rw, .image, .module⟩
  | .pwrDroopMaxUs => ⟨.mod, 8, .rw, .image, .module⟩
  | .pwrDroopEn => ⟨.mod, 1, .rw, .image, .module⟩
  | .broVinMv => ⟨.mod, 16, .rw, .image, .module⟩
  | .broIlimA => ⟨.mod, 8, .rw, .image, .module⟩
  | .broStlWidth => ⟨.mod, 2, .rw, .image, .module⟩
  | .broTthWidth => ⟨.mod, 2, .rw, .image, .module⟩
  | .gaitTarget => ⟨.mod, 3, .rw, (.val 1), .module⟩
  | .gaitCurrent => ⟨.mod, 3, .ro, (.val 1), .module⟩
  | .gaitCap => ⟨.mod, 3, .ro, (.val 4), .cold⟩
  | .gaitFrozen => ⟨.mod, 1, .ro, (.val 0), .module⟩
  | .gaitForcedWalk => ⟨.mod, 1, .ro, (.val 0), .module⟩
  | .gaitStandEn => ⟨.mod, 1, .rw, .image, .module⟩
  | .gaitThermLimit => ⟨.mod, 3, .ro, (.val 4), .module⟩
  | .pstVinOk => ⟨.mod, 1, .ro, (.val 0), .cold⟩
  | .pstVstbyOk => ⟨.mod, 1, .ro, (.val 0), .cold⟩
  | .pstBrownout => ⟨.mod, 1, .ro, (.val 0), .module⟩
  | .pstDroop => ⟨.mod, 1, .ro, (.val 0), .module⟩
  | .pstThrottle => ⟨.mod, 1, .ro, (.val 0), .module⟩
  | .pstHwTrip => ⟨.mod, 1, .ro, (.val 0), .module⟩
  | .pstPhases => ⟨.mod, 5, .ro, (.val 22), .cold⟩
  | .pstLastOff => ⟨.mod, 4, .ro, (.val 0), .cold⟩
  | .pstThermOff => ⟨.mod, 4, .ro, .der, .cold⟩
  | .telVinMv => ⟨.mod, 16, .ro, (.val 0), .module⟩
  | .telIin => ⟨.mod, 16, .ro, (.val 0), .module⟩
  | .thmThrottleC => ⟨.mod, 8, .rw, .image, .module⟩
  | .thmHystC => ⟨.mod, 4, .rw, .image, .module⟩
  | .thmTjMax => ⟨.mod, 8, .ro, (.val 0), .module⟩
  | .pwrCntBrownouts => ⟨.mod, 8, .rc, (.val 0), .module⟩
  | .pwrCntDroops => ⟨.mod, 8, .rc, (.val 0), .module⟩
  | .pwrCntThrottles => ⟨.mod, 8, .rc, (.val 0), .module⟩
  | .pwrCntSlewExceed => ⟨.mod, 8, .rc, (.val 0), .module⟩
  | .slotCapOwner => ⟨.fn, 1, .ro, .der, .module⟩
  | .slotCapAutoOn => ⟨.fn, 1, .ro, .der, .module⟩
  | .slotCapAutoOff => ⟨.fn, 1, .ro, .der, .module⟩
  | .slotCapPwrgdMs => ⟨.fn, 12, .ro, .der, .module⟩
  | .slotCapPrstDelay => ⟨.fn, 10, .ro, .der, .module⟩
  | .slotPwrReq => ⟨.port, 2, .wo, (.val 0), .module⟩
  | .slotSlotReset => ⟨.port, 1, .wo, (.val 0), .module⟩
  | .slotAtnInd => ⟨.port, 2, .rw, .image, .module⟩
  | .slotPwrInd => ⟨.port, 2, .rw, .image, .module⟩
  | .slotPresent => ⟨.port, 1, .ro, .der, .module⟩
  | .slotPwrgd => ⟨.port, 1, .ro, .der, .module⟩
  | .slotPwrState => ⟨.port, 2, .ro, (.val 0), .module⟩
  | .slotPresenceChg => ⟨.fn, 1, .w1c, (.val 0), .function⟩
  | .slotButton => ⟨.fn, 1, .w1c, (.val 0), .function⟩
  | .slotPowerFault => ⟨.fn, 1, .w1c, (.val 0), .function⟩
  | .slotSeqDone => ⟨.fn, 1, .w1c, (.val 0), .function⟩
  | .slotLinkChg => ⟨.fn, 1, .w1c, (.val 0), .function⟩
  | .bootStage => ⟨.mod, 4, .ro, (.val 0), .module⟩
  | .bootCopy => ⟨.mod, 1, .ro, (.val 0), .module⟩
  | .bootSource => ⟨.mod, 2, .ro, (.val 0), .module⟩
  | .bootFallback => ⟨.mod, 1, .ro, (.val 0), .module⟩
  | .bootResultA => ⟨.mod, 4, .ro, (.val 0), .module⟩
  | .bootResultB => ⟨.mod, 4, .ro, (.val 0), .module⟩
  | .bootFmtMin => ⟨.mod, 8, .ro, .der, .module⟩
  | .strapImg => ⟨.mod, 2, .ro, .der, .cold⟩
  | .strapHaltId => ⟨.mod, 6, .ro, .der, .cold⟩
  | .strapSafe => ⟨.mod, 1, .ro, .der, .cold⟩
  | .strapRefsel => ⟨.mod, 1, .ro, .der, .cold⟩
  | .strapVinclass => ⟨.mod, 1, .ro, .der, .cold⟩
  | .strapTest => ⟨.mod, 1, .ro, .der, .cold⟩
  | .bootCtlNext => ⟨.mod, 2, .rw, (.val 0), .cold⟩
  | .bootCtlSvnCommit => ⟨.mod, 1, .wo, (.val 0), .module⟩
  | .gimgSvn => ⟨.mod, 9, .ro, .der, .module⟩
  | .gimgFwSvn => ⟨.mod, 9, .ro, .der, .module⟩
  | .gimgBuildId => ⟨.mod, 32, .ro, .der, .module⟩
  | .svnImageCnt => ⟨.mod, 9, .ro, .der, .cold⟩
  | .svnFwCnt => ⟨.mod, 8, .ro, .der, .cold⟩
  | .lmsTreesUsed => ⟨.mod, 11, .ro, .der, .cold⟩
  | .lmsReady => ⟨.mod, 1, .ro, (.val 0), .module⟩
  | .lmsIndex => ⟨.mod, 20, .ro, (.val 0), .module⟩
  | .flashModeA => ⟨.mod, 3, .ro, (.val 0), .module⟩
  | .flashClkA => ⟨.mod, 8, .ro, (.val 0), .module⟩
  | .flashModeB => ⟨.mod, 3, .ro, (.val 0), .module⟩
  | .flashClkB => ⟨.mod, 8, .ro, (.val 0), .module⟩
  | .coreInPair => ⟨.mod, 3, .ro, (.val 3), .cold⟩
  | .coreFailed => ⟨.mod, 3, .ro, (.val 0), .cold⟩
  | .coreServices => ⟨.mod, 1, .ro, (.val 0), .module⟩
  | .coreTakeovers => ⟨.mod, 8, .rc, (.val 0), .module⟩
  | .loadPtPct => ⟨.mod, 8, .ro, (.val 0), .module⟩
  | .loadFhPct => ⟨.mod, 8, .ro, (.val 0), .module⟩
  | .loadBePct => ⟨.mod, 8, .ro, (.val 0), .module⟩
  | .loadShed => ⟨.mod, 1, .ro, (.val 0), .module⟩
  | .svcTelemMs => ⟨.mod, 10, .rw, .image, .module⟩
  | .svcShedDepth => ⟨.mod, 6, .rw, .image, .module⟩
  | .svcVdmEn => ⟨.mod, 1, .rw, .image, .module⟩
  | .svcSmbSpeed => ⟨.mod, 2, .rw, .image, .module⟩
  | .svcCntBusy => ⟨.mod, 8, .rc, (.val 0), .module⟩
  | .svcCntSheds => ⟨.mod, 8, .rc, (.val 0), .module⟩
  | .svcCntWdt => ⟨.mod, 8, .rc, (.val 0), .module⟩
  | .svcCntRefused => ⟨.mod, 8, .rc, (.val 0), .module⟩
  | .haltId => ⟨.mod, 6, .ro, .der, .cold⟩
  | .haltInRing => ⟨.mod, 1, .ro, (.val 0), .cold⟩
  | .haltDupId => ⟨.mod, 1, .ro, (.val 0), .module⟩
  | .haltVersion => ⟨.mod, 4, .ro, (.val 1), .module⟩
  | .haltBypass => ⟨.mod, 1, .rw, (.val 0), .cold⟩
  | .haltCntCrcFail => ⟨.mod, 8, .rc, (.val 0), .module⟩
  | .haltCntDrop => ⟨.mod, 8, .rc, (.val 0), .module⟩
  | .haltCntBypasses => ⟨.mod, 8, .rc, (.val 0), .cold⟩
  | .pgoaEn => ⟨.fn, 1, .rw, .image, .function⟩
  | .pgoaWclass => ⟨.fn, 3, .rw, .image, .function⟩
  | .pgoaOrder => ⟨.fn, 2, .rw, .image, .function⟩
  | .pgoaSizes => ⟨.fn, 8, .rw, .image, .function⟩
  | .pgoaAtomics => ⟨.fn, 1, .rw, .image, .function⟩
  | .pgoaWmode => ⟨.fn, 1, .rw, .image, .function⟩
  | .pgoaPrefetch => ⟨.fn, 2, .rw, .image, .function⟩
  | .pgoaSep => ⟨.fn, 2, .rw, .image, .function⟩
  | .tgtVec => ⟨.fn, 6, .rw, .image, .function⟩
  | .tgtEn => ⟨.fn, 1, .rw, .image, .function⟩
  | .xlbIdent => ⟨.port, 32, .ro, (.val 0), .tether⟩
  | .xlbIdrev => ⟨.port, 16, .ro, (.val 0), .tether⟩
  | .msixAddr => ⟨.fn, 64, .rw, (.val 0), .function⟩
  | .msixData => ⟨.fn, 32, .rw, (.val 0), .function⟩
  | .msixVmask => ⟨.fn, 1, .rw, (.val 1), .function⟩
  | .msixPend => ⟨.fn, 1, .ro, (.val 0), .function⟩
  | .cfgMse => ⟨.fn, 1, .rw, (.val 0), .function⟩
  | .cfgBme => ⟨.fn, 1, .rw, (.val 0), .function⟩
  | .cfgBmeEff => ⟨.fn, 1, .ro, (.val 0), .function⟩
  | .cfgPer => ⟨.fn, 1, .rw, (.val 0), .function⟩
  | .cfgSerr => ⟨.fn, 1, .rw, (.val 0), .function⟩
  | .cfgIntDis => ⟨.fn, 1, .rw, (.val 0), .function⟩
  | .cfgStatus => ⟨.fn, 16, .w1c, (.val 0), .function⟩
  | .cfgCacheLine => ⟨.fn, 8, .rw, (.val 0), .function⟩
  | .cfgIntLine => ⟨.fn, 8, .rw, (.val 0), .function⟩
  | .cfgBar0 => ⟨.fn, 64, .rw, (.val 0), .function⟩
  | .cfgBar2 => ⟨.fn, 64, .rw, (.val 0), .function⟩
  | .cfgBar4 => ⟨.fn, 64, .rw, (.val 0), .function⟩
  | .cfgRomBar => ⟨.fn, 32, .rw, (.val 0), .function⟩
  | .cfgRomEn => ⟨.fn, 1, .rw, (.val 0), .function⟩
  | .cfgPmState => ⟨.fn, 2, .rw, (.val 0), .function⟩
  | .cfgPmeEn => ⟨.fn, 1, .rw, (.val 0), .module⟩
  | .cfgPmeSts => ⟨.fn, 1, .w1c, (.val 0), .module⟩
  | .cfgMsiEn => ⟨.fn, 1, .rw, (.val 0), .function⟩
  | .cfgMsiMme => ⟨.fn, 3, .rw, (.val 0), .function⟩
  | .cfgMsiAddr => ⟨.fn, 64, .rw, (.val 0), .function⟩
  | .cfgMsiData => ⟨.fn, 16, .rw, (.val 0), .function⟩
  | .cfgMsiMask => ⟨.fn, 32, .rw, (.val 0), .function⟩
  | .cfgMsiPend => ⟨.fn, 32, .ro, (.val 0), .function⟩
  | .cfgDevErrEn => ⟨.fn, 4, .rw, (.val 0), .function⟩
  | .cfgRoEn => ⟨.fn, 1, .rw, (.val 1), .function⟩
  | .cfgMps => ⟨.fn, 3, .rw, (.val 0), .link⟩
  | .cfgExtTag => ⟨.fn, 1, .rw, (.val 1), .function⟩
  | .cfgNoSnoopEn => ⟨.fn, 1, .rw, (.val 1), .function⟩
  | .cfgMrrs => ⟨.fn, 3, .rw, (.val 2), .function⟩
  | .cfgDevSta => ⟨.fn, 4, .w1c, (.val 0), .function⟩
  | .cfgAspm => ⟨.fn, 2, .rw, (.val 0), .link⟩
  | .cfgRcb => ⟨.fn, 1, .rw, (.val 0), .link⟩
  | .cfgLnkCtl => ⟨.fn, 12, .rw, (.val 0), .link⟩
  | .cfgCtoVal => ⟨.fn, 4, .rw, (.val 0), .function⟩
  | .cfgCtoDis => ⟨.fn, 1, .rw, (.val 0), .function⟩
  | .cfgAtomEn => ⟨.fn, 1, .rw, (.val 0), .function⟩
  | .cfgLtrEn => ⟨.fn, 1, .rw, (.val 0), .link⟩
  | .cfgTag10En => ⟨.fn, 1, .rw, (.val 0), .function⟩
  | .cfgTag14En => ⟨.fn, 1, .rw, (.val 0), .function⟩
  | .cfgMsixEn => ⟨.fn, 1, .rw, (.val 0), .function⟩
  | .cfgMsixFmask => ⟨.fn, 1, .rw, (.val 0), .function⟩
  | .aerUncSts => ⟨.fn, 32, .w1c, (.val 0), .stallGroup⟩
  | .aerUncMask => ⟨.fn, 32, .rw, (.val 0), .stallGroup⟩
  | .aerUncSev => ⟨.fn, 32, .rw, (.val 4595760), .stallGroup⟩
  | .aerCorSts => ⟨.fn, 32, .w1c, (.val 0), .stallGroup⟩
  | .aerCorMask => ⟨.fn, 32, .rw, (.val 8192), .stallGroup⟩
  | .aerCtl => ⟨.fn, 32, .rw, (.val 0), .stallGroup⟩
  | .aerHdr => ⟨.fn, 128, .ro, (.val 0), .stallGroup⟩
  | .cfgAcsCtl => ⟨.fn, 16, .rw, (.val 0), .function⟩
  | .vfEnable => ⟨.fn, 1, .rw, (.val 0), .function⟩
  | .vfMse => ⟨.fn, 1, .rw, (.val 0), .function⟩
  | .vfNum => ⟨.fn, 16, .rw, (.val 0), .function⟩
  | .vfSysPage => ⟨.fn, 32, .rw, (.val 1), .function⟩
  | .vfBar0 => ⟨.fn, 64, .rw, (.val 0), .function⟩
  | .vfBar2 => ⟨.fn, 64, .rw, (.val 0), .function⟩
  | .vfBar4 => ⟨.fn, 64, .rw, (.val 0), .function⟩
  | .atsEnable => ⟨.fn, 1, .rw, (.val 0), .function⟩
  | .atsStu => ⟨.fn, 5, .rw, (.val 0), .function⟩
  | .pasidEnable => ⟨.fn, 1, .rw, (.val 0), .function⟩
  | .cfgL1pm1 => ⟨.fn, 32, .rw, (.val 0), .link⟩
  | .cfgL1pm2 => ⟨.fn, 32, .rw, (.val 0), .link⟩
  | .ideDw => ⟨.link, 32, .rw, (.val 0), .link⟩
  | .cfgLtrSnoop => ⟨.fn, 16, .rw, (.val 0), .link⟩
  | .cfgLtrNoSnoop => ⟨.fn, 16, .rw, (.val 0), .link⟩
  | .tdiState => ⟨.fn, 2, .ro, (.val 0), .function⟩
  | .tdiIdent => ⟨.fn, 32, .ro, (.val 0), .function⟩
  | .tdiIdrev => ⟨.fn, 16, .ro, (.val 0), .function⟩
  | .selSrc => ⟨.fn, 5, .ro, (.val 0), .function⟩
  | .selTgt => ⟨.fn, 4, .ro, (.val 0), .function⟩
  | .selVec => ⟨.fn, 6, .ro, (.val 0), .function⟩
  | .lastRein => ⟨.fn, 64, .ro, (.val 0), .function⟩
  | .reinWait => ⟨.fn, 1, .ro, (.val 0), .function⟩
  | .qLastWb => ⟨.queue, 32, .ro, (.val 0), .queue⟩

/-- The fields of a register: field, lowest bit, and for a target register the target number. -/
def Reg.pieces : Reg → List Piece
  | .tthXlbCtrl => [⟨.xlbMaxver, 0, 8⟩, ⟨.xlbRetryLimit, 8, 8⟩, ⟨.xlbRetryGap, 16, 8⟩]
  | .tthXlbTimeout => [⟨.xlbTimeoutUs, 0, 8⟩]
  | .tthXlbFencecfg => [⟨.xlbFenceCount, 0, 8⟩, ⟨.xlbFenceWindowUs, 8, 8⟩]
  | .tthXlbStatus => [⟨.xlbVersion, 0, 8⟩, ⟨.xlbWidth, 4, 8⟩, ⟨.xlbHalfDuplex, 7, 8⟩, ⟨.xlbAtm, 8, 8⟩, ⟨.xlbActive, 9, 8⟩, ⟨.xlbFenced, 10, 8⟩, ⟨.xlbCapsFail, 11, 8⟩, ⟨.xlbCapsFailWhy, 12, 8⟩]
  | .tthXlbOutstanding => [⟨.xlbPxOut, 0, 8⟩, ⟨.xlbLocalOut, 16, 8⟩]
  | .tthXlbCounts => [⟨.xlbCntTimeouts, 0, 8⟩, ⟨.xlbCntLate, 8, 8⟩, ⟨.xlbCntProtocol, 16, 8⟩, ⟨.xlbCntFences, 24, 8⟩]
  | .fcpVersion => [⟨.verMinor, 0, 8⟩, ⟨.verMajor, 8, 8⟩, ⟨.verStepping, 16, 8⟩, ⟨.verGrade, 24, 8⟩]
  | .fcpIdent => [⟨.identFunc, 0, 8⟩, ⟨.identVf, 9, 8⟩, ⟨.identPrivileged, 10, 8⟩, ⟨.identPfIndex, 11, 8⟩, ⟨.identDisc, 14, 8⟩, ⟨.identAriFn, 16, 8⟩]
  | .fcpBinding => [⟨.bindLink, 0, 8⟩, ⟨.bindStandbyLink, 8, 8⟩, ⟨.bindPort, 16, 8⟩, ⟨.bindShared, 22, 8⟩]
  | .fcpModes => [⟨.modesModes, 0, 8⟩, ⟨.modesLoopback, 11, 8⟩]
  | .fcpDesignId => [⟨.didIdent, 0, 8⟩]
  | .fcpDesignRev => [⟨.drevIdrev, 0, 8⟩, ⟨.drevXlbMinor, 16, 8⟩, ⟨.drevWidth, 20, 8⟩, ⟨.drevHalfDuplex, 23, 8⟩]
  | .fcpStatus => [⟨.fstPortActive, 0, 8⟩, ⟨.fstFenced, 1, 8⟩, ⟨.fstCapsSeen, 2, 8⟩]
  | .fcpFence => [⟨.ffenceRelease, 0, 8⟩, ⟨.ffenceFenced, 1, 8⟩, ⟨.ffenceWhy, 2, 8⟩]
  | .fcpSwOffset => [⟨.swOffset, 12, 8⟩]
  | .fcpSwSize => [⟨.swSize, 12, 8⟩]
  | .fcpSwXlbBase => [⟨.swXlbBase, 12, 8⟩]
  | .fcpSwAttr => [⟨.swaEn, 0, 8⟩, ⟨.swaWclass, 1, 8⟩, ⟨.swaOrder, 4, 8⟩, ⟨.swaSizes, 6, 8⟩, ⟨.swaAtomics, 14, 8⟩, ⟨.swaWmode, 15, 8⟩, ⟨.swaPrefetch, 16, 8⟩, ⟨.swaSep, 18, 8⟩]
  | .fcpPgoPage => [⟨.pgoWin, 0, 8⟩, ⟨.pgoPage, 12, 8⟩]
  | .fcpPgoCtrl => [⟨.pgoValid, 0, 8⟩]
  | .fcpPrefetchHold => [⟨.pfHoldUs, 0, 8⟩]
  | .fcpPrefetchCtrl => [⟨.pfForget, 0, 8⟩, ⟨.pfDisable, 1, 8⟩]
  | .fcpPrefetchCounts => [⟨.pfCntLearned, 0, 8⟩, ⟨.pfCntHeld, 8, 8⟩, ⟨.pfCntLost, 16, 8⟩, ⟨.pfCntUnexpected, 24, 8⟩]
  | .fcpObLocal => [⟨.obLocalBase, 12, 8⟩]
  | .fcpObSize => [⟨.obSize, 12, 8⟩]
  | .fcpObHost => [⟨.obHostBase, 12, 8⟩]
  | .fcpObCtrl => [⟨.obEn, 0, 8⟩, ⟨.obTranslated, 1, 8⟩, ⟨.obPasidEn, 2, 8⟩, ⟨.obNoSnoop, 3, 8⟩, ⟨.obAtomics, 4, 8⟩, ⟨.obOwned, 5, 8⟩, ⟨.obPasid, 8, 8⟩]
  | .shtQringBase => [⟨.qRingBase, 12, 8⟩]
  | .shtQpidxAddr => [⟨.qPidxAddr, 2, 8⟩]
  | .shtQhidxAddr => [⟨.qHidxAddr, 2, 8⟩]
  | .shtQcfg => [⟨.qLog2, 0, 8⟩, ⟨.qMsixEn, 5, 8⟩, ⟨.qMsixVec, 8, 8⟩, ⟨.qCoalCount, 16, 8⟩]
  | .shtQcoalTime => [⟨.qCoalTimeUs, 0, 8⟩]
  | .shtQcmd => [⟨.qcmdEnable, 0, 8⟩, ⟨.qcmdDisable, 1, 8⟩, ⟨.qcmdPause, 2, 8⟩, ⟨.qcmdResume, 3, 8⟩, ⟨.qcmdReset, 4, 8⟩]
  | .shtQstatus => [⟨.qState, 0, 8⟩, ⟨.qArmPending, 3, 8⟩, ⟨.qPauseDrv, 4, 8⟩, ⟨.qPauseBme, 5, 8⟩, ⟨.qRefetch, 6, 8⟩, ⟨.qResetBusy, 7, 8⟩, ⟨.qAvailable, 8, 8⟩, ⟨.qShuttle, 16, 8⟩]
  | .shtQhead => [⟨.qHead, 0, 8⟩]
  | .shtQprod => [⟨.qProd, 0, 8⟩]
  | .shtQcurDesc => [⟨.qCurDesc, 0, 8⟩]
  | .shtQcurFrag => [⟨.qCurFrag, 0, 8⟩]
  | .shtQcurOffset => [⟨.qCurOffset, 0, 8⟩]
  | .shtQstaged => [⟨.qStaged, 0, 8⟩]
  | .shtQhalt => [⟨.qHaltCause, 0, 8⟩, ⟨.qHaltDetail, 8, 8⟩]
  | .shtQhaltDesc => [⟨.qHaltDesc, 0, 8⟩]
  | .shtQhaltFrag => [⟨.qHaltFrag, 0, 8⟩]
  | .shtQcounts => [⟨.qCntDone, 0, 8⟩, ⟨.qCntPoisoned, 16, 8⟩]
  | .fcpEvtBase => [⟨.evtBase, 12, 8⟩]
  | .fcpEvtPidxAddr => [⟨.evtPidxAddr, 2, 8⟩]
  | .fcpEvtCtrl => [⟨.evtEn, 0, 8⟩, ⟨.evtLog2, 1, 8⟩, ⟨.evtFull, 8, 8⟩, ⟨.evtEvtFull, 9, 8⟩]
  | .fcpEvtProd => [⟨.evtProd, 0, 8⟩]
  | .fcpEvtCons => [⟨.evtCons, 0, 8⟩]
  | .weaveStage => [⟨.wvStageProgram, 0, 8⟩]
  | .weaveCmd => [⟨.wvCmdSlot, 0, 8⟩, ⟨.wvCmdOp, 4, 8⟩]
  | .weaveStatus => [⟨.wvBusy, 0, 8⟩, ⟨.wvLastSlot, 1, 8⟩, ⟨.wvResult, 4, 8⟩, ⟨.wvLoaded, 8, 8⟩, ⟨.wvFree, 16, 8⟩, ⟨.wvFmtMax, 28, 8⟩]
  | .weaveUnit => [⟨.wvuUnit, 0, 8⟩, ⟨.wvuHalfRate, 13, 8⟩]
  | .weaveProg => [⟨.wvSlotProgram, 0, 8⟩]
  | .spurStatus => [⟨.spMode, 0, 8⟩, ⟨.spSelected, 4, 8⟩, ⟨.spSelValid, 8, 8⟩, ⟨.spRotate, 12, 8⟩]
  | .spurLevel => [⟨.spLines, 0, 8⟩, ⟨.spInternal, 8, 8⟩]
  | .spurPend => [⟨.spPend, 0, 8⟩]
  | .spurMask => [⟨.spMask, 0, 8⟩]
  | .spurInservice => [⟨.spInservice, 0, 8⟩]
  | .spurMaskSet => [⟨.spMaskSet, 0, 8⟩]
  | .spurMaskClr => [⟨.spMaskClr, 0, 8⟩]
  | .spurPendSet => [⟨.spPendSet, 0, 8⟩]
  | .spurPendClr => [⟨.spPendClr, 0, 8⟩]
  | .spurEoi => [⟨.spEoi, 0, 8⟩]
  | .spurQpend => [⟨.spQpend, 0, 8⟩]
  | .spurCounts => [⟨.spCntPreempt, 0, 8⟩, ⟨.spCntStrayEoi, 8, 8⟩]
  | .spurSrcCfg => [⟨.srcPrio, 0, 8⟩]
  | .spurSrcState => [⟨.srcState, 0, 8⟩, ⟨.srcLatch, 2, 8⟩, ⟨.srcKind, 3, 8⟩, ⟨.srcNextTgt, 4, 8⟩, ⟨.srcLastVec, 8, 8⟩]
  | .fcpReinsIn => [⟨.reinsInValue, 0, 8⟩]
  | .fcpReinsInChg => [⟨.reinsInChg, 0, 8⟩]
  | .fcpReinsOut => [⟨.reinsOutValue, 0, 8⟩]
  | .fcpReinsOutSent => [⟨.reinsOutSent, 0, 8⟩]
  | .fcpReinsCtrl => [⟨.reinsPeriodUs, 0, 8⟩, ⟨.reinsOutPending, 16, 8⟩]
  | .stlFlrCfg => [⟨.flrBoundUs, 0, 8⟩]
  | .stlEqCfg => [⟨.seqFomTarget, 0, 8⟩, ⟨.seqFomRetire, 8, 8⟩, ⟨.seqPresets, 16, 8⟩, ⟨.seqBypass, 20, 8⟩]
  | .stlGrpCfg => [⟨.grpForm, 0, 8⟩, ⟨.grpClocking, 2, 8⟩, ⟨.grpMaxrate, 4, 8⟩, ⟨.grpL0pEn, 8, 8⟩, ⟨.grpAspmIdleUs, 9, 8⟩]
  | .stlGrpStatus => [⟨.gstPerst, 0, 8⟩, ⟨.gstClkreq, 1, 8⟩, ⟨.gstRefclkOk, 2, 8⟩, ⟨.gstGated, 3, 8⟩, ⟨.gstMode, 4, 8⟩, ⟨.gstSynth, 6, 8⟩]
  | .stlLnkStatus => [⟨.lnkPresent, 0, 8⟩, ⟨.lnkDlActive, 1, 8⟩, ⟨.lnkFlit, 2, 8⟩, ⟨.lnkRate, 3, 8⟩, ⟨.lnkWidthNeg, 7, 8⟩, ⟨.lnkWidthAct, 12, 8⟩, ⟨.lnkReversed, 17, 8⟩, ⟨.lnkLtssm, 18, 8⟩, ⟨.lnkL1sub, 22, 8⟩]
  | .stlLnkLanes => [⟨.lnkRetired, 0, 8⟩, ⟨.lnkPolarity, 16, 8⟩]
  | .stlLnkEq => [⟨.lnkEq64Done, 0, 8⟩, ⟨.lnkEq128Done, 1, 8⟩, ⟨.lnkEq64Fail, 2, 8⟩, ⟨.lnkEq128Fail, 3, 8⟩, ⟨.lnkFomEnd, 8, 8⟩]
  | .stlLnkCounts0 => [⟨.lnkCntFecCorr, 0, 8⟩, ⟨.lnkCntCrcFail, 16, 8⟩]
  | .stlLnkCounts1 => [⟨.lnkCntRecovery, 0, 8⟩, ⟨.lnkCntL0pChg, 8, 8⟩, ⟨.lnkCntLinkDown, 16, 8⟩, ⟨.lnkCntRetire, 24, 8⟩]
  | .stlLaneFom => [⟨.slaneFom, 0, 8⟩, ⟨.slaneErrs, 8, 8⟩, ⟨.slaneTxpreset, 16, 8⟩, ⟨.slaneLame, 20, 8⟩]
  | .tthEqCfg => [⟨.teqFomTarget, 0, 8⟩, ⟨.teqFomRetire, 8, 8⟩, ⟨.teqPresets, 16, 8⟩]
  | .tthPortCtrl => [⟨.pcMaxrate, 0, 8⟩, ⟨.pcMaxwidth, 3, 8⟩, ⟨.pcLoopback, 7, 8⟩, ⟨.pcRetrain, 9, 8⟩, ⟨.pcReset, 10, 8⟩]
  | .tthLinkCfg => [⟨.tlcKeepaliveUs, 0, 8⟩, ⟨.tlcReplayLimit, 8, 8⟩]
  | .tthDozeCfg => [⟨.dozeEn, 0, 8⟩, ⟨.dozeIdleNs, 1, 8⟩, ⟨.dozeEcoIdleNs, 13, 8⟩]
  | .tthPortStatus => [⟨.psState, 0, 8⟩, ⟨.psRate, 4, 8⟩, ⟨.psWidthNeg, 7, 8⟩, ⟨.psWidthRx, 11, 8⟩, ⟨.psWidthTx, 15, 8⟩, ⟨.psReversed, 19, 8⟩, ⟨.psTxDoze, 20, 8⟩, ⟨.psRxDoze, 21, 8⟩, ⟨.psPresent, 22, 8⟩, ⟨.psPwrgd, 23, 8⟩]
  | .tthPortLanes => [⟨.plRxRetired, 0, 8⟩, ⟨.plTxRetired, 8, 8⟩, ⟨.plRxmask, 16, 8⟩, ⟨.plTxmask, 24, 8⟩]
  | .tthLaneFom => [⟨.tlaneFom, 0, 8⟩, ⟨.tlaneErrs, 8, 8⟩, ⟨.tlaneTxpreset, 16, 8⟩, ⟨.tlaneLame, 19, 8⟩]
  | .tthPortCounts0 => [⟨.pcntFecCorr, 0, 8⟩, ⟨.pcntCrcFail, 16, 8⟩]
  | .tthPortCounts1 => [⟨.pcntReplay, 0, 8⟩, ⟨.pcntLinkDown, 8, 8⟩, ⟨.pcntRetire, 16, 8⟩, ⟨.pcntTrainFail, 24, 8⟩]
  | .grmStumbleThr => [⟨.stumThreshold, 0, 8⟩]
  | .grmStumbleWin => [⟨.stumWindowMs, 0, 8⟩]
  | .grmStumbleLame => [⟨.stumLame, 0, 8⟩]
  | .fcpErrProd => [⟨.errProd, 0, 8⟩]
  | .fcpErrCons => [⟨.errCons, 0, 8⟩]
  | .fcpErrCounts => [⟨.errOverflow, 0, 8⟩]
  | .fcpRecovery => [⟨.recActiveLink, 0, 8⟩, ⟨.recFailovers, 8, 8⟩, ⟨.recMoves, 16, 8⟩, ⟨.recStandbyReady, 24, 8⟩]
  | .fcpErrHdr => [⟨.ehCode, 0, 8⟩, ⟨.ehDetail, 8, 8⟩, ⟨.ehPort, 16, 8⟩, ⟨.ehWin, 22, 8⟩, ⟨.ehQueue, 24, 8⟩, ⟨.ehQvalid, 29, 8⟩]
  | .fcpErrInfo => [⟨.ehSeq, 0, 8⟩, ⟨.ehCause, 16, 8⟩]
  | .fcpErrAddr => [⟨.ehAddr, 0, 8⟩]
  | .fcpErrLen => [⟨.ehLen, 0, 8⟩]
  | .fcpErrAux => [⟨.ehAux, 0, 8⟩]
  | .fcpErrTime => [⟨.ehTimeUs, 0, 8⟩]
  | .shtFetchCfg => [⟨.shtFetchUs, 0, 8⟩]
  | .stlPairCfg => [⟨.pairDetectUs, 0, 8⟩]
  | .pwrCtrl => [⟨.pwrSlew, 0, 8⟩, ⟨.pwrDroopMaxUs, 8, 8⟩, ⟨.pwrDroopEn, 16, 8⟩]
  | .pwrBrownout => [⟨.broVinMv, 0, 8⟩, ⟨.broIlimA, 16, 8⟩, ⟨.broStlWidth, 24, 8⟩, ⟨.broTthWidth, 26, 8⟩]
  | .pwrGait => [⟨.gaitTarget, 0, 8⟩, ⟨.gaitCurrent, 4, 8⟩, ⟨.gaitCap, 8, 8⟩, ⟨.gaitFrozen, 11, 8⟩, ⟨.gaitForcedWalk, 12, 8⟩, ⟨.gaitStandEn, 13, 8⟩, ⟨.gaitThermLimit, 14, 8⟩]
  | .pwrStatus => [⟨.pstVinOk, 0, 8⟩, ⟨.pstVstbyOk, 1, 8⟩, ⟨.pstBrownout, 2, 8⟩, ⟨.pstDroop, 3, 8⟩, ⟨.pstThrottle, 4, 8⟩, ⟨.pstHwTrip, 5, 8⟩, ⟨.pstPhases, 6, 8⟩, ⟨.pstLastOff, 16, 8⟩, ⟨.pstThermOff, 20, 8⟩]
  | .pwrTelem => [⟨.telVinMv, 0, 8⟩, ⟨.telIin, 16, 8⟩]
  | .pwrTherm => [⟨.thmThrottleC, 0, 8⟩, ⟨.thmHystC, 8, 8⟩, ⟨.thmTjMax, 16, 8⟩]
  | .pwrCounts => [⟨.pwrCntBrownouts, 0, 8⟩, ⟨.pwrCntDroops, 8, 8⟩, ⟨.pwrCntThrottles, 16, 8⟩, ⟨.pwrCntSlewExceed, 24, 8⟩]
  | .fcpSlotCap => [⟨.slotCapOwner, 0, 8⟩, ⟨.slotCapAutoOn, 1, 8⟩, ⟨.slotCapAutoOff, 2, 8⟩, ⟨.slotCapPwrgdMs, 8, 8⟩, ⟨.slotCapPrstDelay, 20, 8⟩]
  | .fcpSlotCtrl => [⟨.slotPwrReq, 0, 8⟩, ⟨.slotSlotReset, 2, 8⟩, ⟨.slotAtnInd, 4, 8⟩, ⟨.slotPwrInd, 6, 8⟩]
  | .fcpSlotStatus => [⟨.slotPresent, 0, 8⟩, ⟨.slotPwrgd, 1, 8⟩, ⟨.slotPwrState, 2, 8⟩, ⟨.slotPresenceChg, 8, 8⟩, ⟨.slotButton, 9, 8⟩, ⟨.slotPowerFault, 10, 8⟩, ⟨.slotSeqDone, 11, 8⟩, ⟨.slotLinkChg, 12, 8⟩]
  | .grmBootStatus => [⟨.bootStage, 0, 8⟩, ⟨.bootCopy, 4, 8⟩, ⟨.bootSource, 5, 8⟩, ⟨.bootFallback, 7, 8⟩, ⟨.bootResultA, 8, 8⟩, ⟨.bootResultB, 12, 8⟩, ⟨.bootFmtMin, 16, 8⟩]
  | .grmStraps => [⟨.strapImg, 0, 8⟩, ⟨.strapHaltId, 2, 8⟩, ⟨.strapSafe, 8, 8⟩, ⟨.strapRefsel, 9, 8⟩, ⟨.strapVinclass, 10, 8⟩, ⟨.strapTest, 11, 8⟩]
  | .grmBootCtrl => [⟨.bootCtlNext, 0, 8⟩, ⟨.bootCtlSvnCommit, 2, 8⟩]
  | .grmImage => [⟨.gimgSvn, 0, 8⟩, ⟨.gimgFwSvn, 16, 8⟩]
  | .grmBuild => [⟨.gimgBuildId, 0, 8⟩]
  | .grmSvn => [⟨.svnImageCnt, 0, 8⟩, ⟨.svnFwCnt, 16, 8⟩]
  | .grmLms => [⟨.lmsTreesUsed, 0, 8⟩, ⟨.lmsReady, 11, 8⟩, ⟨.lmsIndex, 12, 8⟩]
  | .grmFlash => [⟨.flashModeA, 0, 8⟩, ⟨.flashClkA, 8, 8⟩, ⟨.flashModeB, 16, 8⟩, ⟨.flashClkB, 24, 8⟩]
  | .grmCoreStatus => [⟨.coreInPair, 0, 8⟩, ⟨.coreFailed, 3, 8⟩, ⟨.coreServices, 6, 8⟩, ⟨.coreTakeovers, 16, 8⟩]
  | .grmLoad => [⟨.loadPtPct, 0, 8⟩, ⟨.loadFhPct, 8, 8⟩, ⟨.loadBePct, 16, 8⟩, ⟨.loadShed, 24, 8⟩]
  | .grmSvcCfg => [⟨.svcTelemMs, 0, 8⟩, ⟨.svcShedDepth, 10, 8⟩, ⟨.svcVdmEn, 16, 8⟩, ⟨.svcSmbSpeed, 17, 8⟩]
  | .grmSvcCounts => [⟨.svcCntBusy, 0, 8⟩, ⟨.svcCntSheds, 8, 8⟩, ⟨.svcCntWdt, 16, 8⟩, ⟨.svcCntRefused, 24, 8⟩]
  | .haltStatus => [⟨.haltId, 0, 8⟩, ⟨.haltInRing, 6, 8⟩, ⟨.haltDupId, 7, 8⟩, ⟨.haltVersion, 8, 8⟩]
  | .haltCtrl => [⟨.haltBypass, 0, 8⟩]
  | .haltCounts => [⟨.haltCntCrcFail, 0, 8⟩, ⟨.haltCntDrop, 8, 8⟩, ⟨.haltCntBypasses, 16, 8⟩]
  | .fcpPgoAttr => [⟨.pgoaEn, 0, 8⟩, ⟨.pgoaWclass, 1, 8⟩, ⟨.pgoaOrder, 4, 8⟩, ⟨.pgoaSizes, 6, 8⟩, ⟨.pgoaAtomics, 14, 8⟩, ⟨.pgoaWmode, 15, 8⟩, ⟨.pgoaPrefetch, 16, 8⟩, ⟨.pgoaSep, 18, 8⟩]
  | .spurSrcTgtLo => [⟨.tgtVec, 0, 0⟩, ⟨.tgtEn, 7, 0⟩, ⟨.tgtVec, 8, 1⟩, ⟨.tgtEn, 15, 1⟩, ⟨.tgtVec, 16, 2⟩, ⟨.tgtEn, 23, 2⟩, ⟨.tgtVec, 24, 3⟩, ⟨.tgtEn, 31, 3⟩]
  | .spurSrcTgtHi => [⟨.tgtVec, 0, 4⟩, ⟨.tgtEn, 7, 4⟩, ⟨.tgtVec, 8, 5⟩, ⟨.tgtEn, 15, 5⟩, ⟨.tgtVec, 16, 6⟩, ⟨.tgtEn, 23, 6⟩, ⟨.tgtVec, 24, 7⟩, ⟨.tgtEn, 31, 7⟩]

/-- R9: whether an encoding is not listed as reserved for its field; a write of a reserved one keeps the old value. -/
def encOk (f : Fld) (v : Nat) : Bool :=
  match f with
  | .xlbMaxver => v ≤ 3
  | .xlbRetryGap | .xlbFenceCount | .qCoalCount | .grpAspmIdleUs | .tlcReplayLimit | .stumThreshold | .thmHystC => 1 ≤ v
  | .xlbTimeoutUs => 1 ≤ v && v ≤ 1000000
  | .xlbFenceWindowUs => 10 ≤ v && v ≤ 1000000
  | .pfHoldUs => 1 ≤ v && v ≤ 10000
  | .qLog2 | .evtLog2 => 4 ≤ v && v ≤ 16
  | .qCoalTimeUs => v ≤ 1000
  | .reinsPeriodUs => 1 ≤ v && v ≤ 1000
  | .flrBoundUs => 1000 ≤ v && v ≤ 100000
  | .seqFomTarget | .teqFomTarget => 64 ≤ v
  | .seqFomRetire | .teqFomRetire => v ≤ 127
  | .seqPresets => 1 ≤ v && v ≤ 11
  | .grpMaxrate => 1 ≤ v && v ≤ 7
  | .teqPresets => 1 ≤ v && v ≤ 8
  | .pcMaxrate => 1 ≤ v && v ≤ 4
  | .pcMaxwidth => v == 1 || v == 2 || v == 4 || v == 8
  | .pcLoopback | .broStlWidth | .broTthWidth | .slotAtnInd | .slotPwrInd | .bootCtlNext | .svcSmbSpeed
  | .pgoaPrefetch | .pgoaSep => v ≤ 2
  | .pgoaWclass => v ≤ 5
  | .tlcKeepaliveUs => 2 ≤ v && v ≤ 100
  | .dozeIdleNs | .dozeEcoIdleNs => 100 ≤ v && v ≤ 4000
  | .stumWindowMs => 1 ≤ v && v ≤ 86400000
  | .shtFetchUs => 10 ≤ v && v ≤ 100000
  | .pairDetectUs => 20 ≤ v && v ≤ 200
  | .pwrSlew => 1 ≤ v && v ≤ 20
  | .pwrDroopMaxUs => 10 ≤ v && v ≤ 200
  | .broVinMv => 8500 ≤ v && v ≤ 58000
  | .broIlimA => 10 ≤ v && v ≤ 120
  | .gaitTarget => 1 ≤ v && v ≤ 4
  | .thmThrottleC => 85 ≤ v && v ≤ 105
  | .svcTelemMs => 10 ≤ v && v ≤ 1000
  | .svcShedDepth => 4 ≤ v
  | .cfgCtoVal => v == 0 || v == 1 || v == 2 || v == 5 || v == 6 || v == 9 || v == 10 || v == 13 || v == 14
  | .vfSysPage => v == 1 || v == 16 || v == 512
  | _ => true

end Sys2Proof.Machine
namespace Sys2Proof
/-- The function record of f in an image (R75). -/
def Image.fn? (im : Image) (f : Nat) : Option FnRec := im.fns.find? (·.f == f)
/-- The extra per-function values of f in an image. -/
def Image.extra? (im : Image) (f : Nat) : Option FnExtra := im.extras.find? (·.f == f)
/-- The QUEUES record of queue n of f (R133). -/
def Image.queue? (im : Image) (f n : Nat) : Option QueueRec := im.queues.find? (fun q => q.f == f && q.n == n)
/-- The record of source s of f (Table 7.5). -/
def Image.source? (im : Image) (f s : Nat) : Option SrcRec := im.sources.find? (fun q => q.f == f && q.src == s)
/-- The record of port p. -/
def Image.port? (im : Image) (p : Nat) : Option PortRec := im.ports.find? (·.p == p)
/-- The record of Tether die t. -/
def Image.tdie? (im : Image) (t : Nat) : Option TDieRec := im.tdies.find? (·.t == t)
/-- The assigned outbound window m of port p (R127). -/
def Image.ob? (im : Image) (p m : Nat) : Option ObWin := im.obwins.find? (fun w => w.port == p && w.m == m)
/-- Override n of f (R107). -/
def Image.over? (im : Image) (f n : Nat) : Option Override := im.overrides.find? (fun o => o.f == f && o.n == n)
/-- Sub-window s of window A or B of f (R102). -/
def Image.sub? (im : Image) (f : Nat) (winB : Bool) (s : Nat) : Option SubWin :=
  im.subwins.find? (fun w => w.f == f && w.winB == winB && w.s == s)
/-- The program the image assigns to slot w of f, 0 for none (R166). -/
def Image.weaveOf (im : Image) (f w : Nat) : Nat :=
  match im.weave.find? (fun r => r.f == f && r.slot == w) with
  | some r => r.program
  | none => 0

end Sys2Proof
namespace Sys2Proof.Machine
/-- Bits [lo+w-1:lo] of a number. -/
def bits (v lo w : Nat) : Nat := v / 2 ^ lo % 2 ^ w
/-- Bit i of a number. -/
def bit (v i : Nat) : Bool := v / 2 ^ i % 2 == 1
/-- 1 for true. -/
def b2n (b : Bool) : Nat := if b then 1 else 0
/-- An option's value through a function, or a default. -/
def optD {α β : Type} (o : Option α) (d : β) (f : α → β) : β :=
  match o with
  | some a => f a
  | none => d

/-- R13, R337: the value an Image field is loaded with, from the running image or the Saddler default when the image
leaves it out; fields of stall groups and Stall dies come from the STALL_GROUPS section as it stands (R344). -/
def imgVal (sg : List GroupRec × List SDieRec) (im : Image) (k : RKey) : Nat :=
  let grp (d : Nat) (g : GroupRec → Nat) := optD (sg.1.find? (·.g == k.i)) d g
  let sd (d : Nat) (g : SDieRec → Nat) := optD (sg.2.find? (·.d == k.i)) d g
  let pt (d : Nat) (g : PortRec → Nat) := optD (im.port? k.i) d g
  let td (d : Nat) (g : TDieRec → Nat) := optD (im.tdie? k.i) d g
  let qu (d : Nat) (g : QueueRec → Nat) := optD (im.queue? k.i k.j) d g
  let ex (d : Nat) (g : FnExtra → Nat) := optD (im.extra? k.i) d g
  let ov (g : Override → Nat) := optD (im.over? k.i k.j) 0 g
  let pw (d : Nat) (g : PowerRec → Nat) := optD im.power d g
  let vecs := optD (im.fn? k.i) 1 (·.vectors)
  match k.fld with
  | .xlbMaxver => pt 3 (·.maxver)
  | .xlbRetryLimit => pt 16 (·.retryLimit)
  | .xlbRetryGap => pt 1 (·.retryGap)
  | .xlbTimeoutUs => pt 50 (·.timeoutUs)
  | .xlbFenceCount => pt 8 (·.fenceCount)
  | .xlbFenceWindowUs => pt 1000 (·.fenceWindow)
  | .pgoWin => ov (fun o => b2n o.winB)
  | .pgoPage => ov (·.page)
  | .pgoValid => ov (fun o => b2n o.valid)
  | .pgoaEn => ov (fun o => bits o.attr 0 1)
  | .pgoaWclass => ov (fun o => bits o.attr 1 3)
  | .pgoaOrder => ov (fun o => bits o.attr 4 2)
  | .pgoaSizes => ov (fun o => bits o.attr 6 8)
  | .pgoaAtomics => ov (fun o => bits o.attr 14 1)
  | .pgoaWmode => ov (fun o => bits o.attr 15 1)
  | .pgoaPrefetch => ov (fun o => bits o.attr 16 2)
  | .pgoaSep => ov (fun o => bits o.attr 18 2)
  | .pfHoldUs => ex 100 (·.pfHold)
  | .qLog2 => qu 8 (·.log2)
  | .qMsixEn => qu 1 (fun q => b2n q.msixEn)
  | .qMsixVec => qu (k.j % max vecs 1) (·.vec)
  | .qCoalCount => qu 1 (·.coalCount)
  | .qCoalTimeUs => qu 2 (·.coalTime)
  | .evtLog2 => ex 8 (·.evLog2)
  | .wvSlotProgram => im.weaveOf k.i k.j
  | .srcPrio => optD (im.source? k.i k.j) 0 (·.prio)
  | .tgtVec => optD (im.source? k.i (k.j / 8)) (if k.j % 8 == 0 then k.j / 8 % max vecs 1 else 0)
      (fun r => optD (r.targets[k.j % 8]?) 0 (·.1))
  | .tgtEn => optD (im.source? k.i (k.j / 8)) (b2n (k.j % 8 == 0))
      (fun r => optD (r.targets[k.j % 8]?) 0 (fun x => b2n x.2))
  | .reinsPeriodUs => ex 1 (·.reinsPeriod)
  | .flrBoundUs => sd 90000 (·.flrBound)
  | .seqFomTarget => sd 128 (·.fomTarget)
  | .seqFomRetire => sd 60 (·.fomRetire)
  | .seqPresets => sd 11 (·.presets)
  | .seqBypass => sd 1 (fun s => b2n s.bypass)
  | .pairDetectUs => sd 100 (·.detectUs)
  | .grpForm => grp 0 (·.form)
  | .grpClocking => grp 3 (·.clocking)
  | .grpMaxrate => grp 7 (·.maxrate)
  | .grpL0pEn => grp 1 (fun g => b2n g.l0pEn)
  | .grpAspmIdleUs => grp 8 (·.aspmIdle)
  | .teqFomTarget => td 140 (·.fomTarget)
  | .teqFomRetire => td 60 (·.fomRetire)
  | .teqPresets => td 8 (·.presets)
  | .pcMaxrate => pt 4 (·.maxrate)
  | .pcMaxwidth => pt 8 (·.maxwidth)
  | .tlcKeepaliveUs => pt 10 (·.keepalive)
  | .tlcReplayLimit => pt 8 (·.replayLimit)
  | .dozeEn => pt 1 (fun p => b2n p.dozeEn)
  | .dozeIdleNs => pt 1000 (·.idleNs)
  | .dozeEcoIdleNs => pt 200 (·.ecoIdleNs)
  | .slotAtnInd => pt 0 (·.atnInd)
  | .slotPwrInd => pt 0 (·.pwrInd)
  | .stumThreshold => optD (im.faults.find? (·.c == k.j))
      (match k.j with | 0 => 64 | 1 => 65536 | 2 => 16 | 3 => 16 | 4 => 4 | _ => 8) (·.threshold)
  | .stumWindowMs => optD (im.faults.find? (·.c == k.j)) (if k.j == 4 then 3600000 else 1000) (·.windowMs)
  | .recActiveLink => optD (im.fn? k.i) 0 (·.link)
  | .shtFetchUs => im.fetchUs
  | .pwrSlew => pw 4 (·.slew)
  | .pwrDroopMaxUs => pw 200 (·.droopMax)
  | .pwrDroopEn => pw 1 (fun p => b2n p.droopEn)
  | .broVinMv => pw 10000 (·.vinMv)
  | .broIlimA => pw 110 (·.ilim)
  | .broStlWidth => pw 1 (·.stlWidth)
  | .broTthWidth => pw 1 (·.tthWidth)
  | .gaitStandEn => pw 1 (fun p => b2n p.standEn)
  | .thmThrottleC => pw 95 (·.throttleC)
  | .thmHystC => pw 5 (·.hystC)
  | .svcTelemMs => im.telemMs
  | .svcShedDepth => im.shedDepth
  | .svcVdmEn => b2n im.vdmEn
  | .svcSmbSpeed => im.smbSpeed
  | _ => 0

/-- R344: the stall-group fields, which the STALL_GROUPS section gives before the whole image is loaded. -/
def Fld.fromGroups (f : Fld) : Bool :=
  match f with
  | .flrBoundUs | .seqFomTarget | .seqFomRetire | .seqPresets | .seqBypass | .pairDetectUs | .grpForm | .grpClocking
  | .grpMaxrate | .grpL0pEn | .grpAspmIdleUs => true
  | _ => false

end Sys2Proof.Machine
namespace Sys2Proof
/-- An image without content, under which the STALL_GROUPS fields are read before the image is loaded. -/
def Image.blank : Image := ⟨0, 0, 0, 8, 0, false, 0, 1000, 100, 16, true, 1, [], [], [], [], [], [], [], [], [], [], [],
  [], [], [], none, ⟨false, false, false, 0, []⟩, []⟩

end Sys2Proof
namespace Sys2Proof.Machine
/-- The reset value of a field (R12, R13): its value, the image's value once an image runs (0 before, log entry 4), or
for the brownout threshold without a POWER section the default of the strapped input class (Table 13.2). -/
def resetVal (b : Block) (k : RKey) : Nat :=
  match (Fld.attr k.fld).rst with
  | .val n => n
  | .der => 0
  | .image =>
    match b.img with
    | some im =>
      if k.fld == .broVinMv && im.power.isNone then (if b.straps.vinclass then 38000 else 10000)
      else imgVal b.sg im k
    | none => if k.fld.fromGroups && !b.sg.1.isEmpty then imgVal b.sg Image.blank k else 0

/-- The key of a stored field. -/
def key (f : Fld) (i j : Nat) : RKey := ⟨f, i, j⟩

/-- First entry of a table under a key. -/
def lookupKey {κ ν : Type} [DecidableEq κ] (k : κ) : List (κ × ν) → Option ν
  | [] => none
  | (k', v) :: t => if k = k' then some v else lookupKey k t

/-- The stored value of field f of unit i, sub-index j. -/
def Block.rd (b : Block) (f : Fld) (i : Nat) (j : Nat := 0) : Nat :=
  match lookupKey (key f i j) b.regs with
  | some v => v
  | none => resetVal b (key f i j)

/-- A field of one bit as a truth value. -/
def Block.flag (b : Block) (f : Fld) (i : Nat) (j : Nat := 0) : Bool := b.rd f i j == 1

/-- Store a value in a field, cut to the field's width. -/
def Block.wr (b : Block) (f : Fld) (i j v : Nat) : Block :=
  { b with regs := (key f i j, v % 2 ^ (Fld.attr f).width) :: b.regs }

/-- Increment a counter that saturates at the largest value of its field. -/
def Block.incSat (b : Block) (f : Fld) (i : Nat) (j : Nat := 0) : Block :=
  b.wr f i j (min (b.rd f i j + 1) (2 ^ (Fld.attr f).width - 1))

/-- Set or clear bits of a field. -/
def Block.setBits (b : Block) (f : Fld) (i j m : Nat) : Block := b.wr f i j (b.rd f i j ||| m)
/-- Clear the bits of a mask in a field. -/
def Block.clrBits (b : Block) (f : Fld) (i j m : Nat) : Block :=
  b.wr f i j (b.rd f i j - (b.rd f i j &&& m))

end Sys2Proof.Machine
end

