-- ==== Sys2Proof/Machine/Wire.lean ====
section
/-! DEFINITION. What goes on the wires of a Tether port: sizes and bytes of XLB messages (R36 to R51, R68), the flit with its
CRC and parity (R247, R249, R250), control records (R254), SKIP flits, markers and training blocks (R246, R251, R256), and the
lanes (R243, R248). -/
namespace Sys2Proof.Machine

/-! ### Numbers and bytes -/

/-- Little-endian number of a list of bytes. -/
def leNat : List Byte → Nat
  | [] => 0
  | x :: t => x.toNat + 256 * leNat t

/-- The low n bytes of a number, little-endian. -/
def leBytes (v : Nat) : Nat → List Byte
  | 0 => []
  | n + 1 => BitVec.ofNat 8 v :: leBytes (v / 256) n

/-- ⌈a / b⌉. -/
def cdiv (a b : Nat) : Nat := (a + b - 1) / b

/-- Bytes padded with zeros to n. -/
def padTo (n : Nat) (l : List Byte) : List Byte := l ++ List.replicate (n - l.length) 0

/-- Bytes padded with zeros to whole slots of 12. -/
def padSlots (l : List Byte) : List Byte := padTo (12 * cdiv l.length 12) l

/-- Lists of n elements cut from a list, at most `fuel` of them. -/
def chunksOf {α : Type} (n : Nat) : Nat → List α → List (List α)
  | 0, _ => []
  | fuel + 1, l => if l.isEmpty then [] else l.take n :: chunksOf n fuel (l.drop n)

/-- A bit per element of a range that meets a condition. -/
def bitMap (n : Nat) (p : Nat → Bool) : Nat := (List.range n).foldl (fun a i => a + (if p i then 2 ^ i else 0)) 0

/-! ### Sizes of messages (R40 to R43, R49) -/

/-- R40: BEATS of a request of len bytes at a, with beats of w bytes. -/
def beats (w a len : Nat) : Nat := (a % w + len + w - 1) / w
/-- Slots of the data section of RD, WR or WRF. -/
def dataSlots (w a len : Nat) : Nat := cdiv (beats w a len * w) 12
/-- Slots of the mask section (R41). -/
def maskSlots (w a len : Nat) : Nat := cdiv (beats w a len * max (w / 8) 1) 12
/-- Bytes of the operands of an ATM (R42). -/
def atmBytes (op asz : Nat) : Nat := (if op == 2 then 2 else 1) * 4 * 2 ^ asz
/-- MASKED of a request: a byte of its range is not enabled (R110). -/
def XReq.masked (r : XReq) : Bool := r.cells.any (fun c => !c.2.1)
/-- SPEC of a request: a speculative read (R47). -/
def XReq.spec (r : XReq) : Bool := match r.orig with | .spec _ => true | _ => false
/-- REQ data credits a request consumes (Table 2.10). -/
def reqSlots (w : Nat) (r : XReq) : Nat :=
  match r.op with
  | 2 | 3 => dataSlots w r.addr r.len + (if r.masked then maskSlots w r.addr r.len else 0)
  | 4 => cdiv (atmBytes r.aop r.asz) 12
  | _ => 0
/-- RSP data slots of a response. -/
def rspSlots (r : RspOut) : Nat := cdiv r.data.length 12
/-- Slots of a message. -/
def msgSlots (w : Nat) (m : XMsg) : Nat :=
  match m with
  | .req r => 2 + reqSlots w r
  | .rsp r => 1 + rspSlots r
  | .caps _ => 4
  | .reins _ _ | .credit _ _ _ => 1

/-! ### Bytes of messages (R37 to R43, R49, R51, R68) -/

/-- Cell k bytes behind the start of beat 0, none outside the covered range. -/
def XReq.cellAt (r : XReq) (w k : Nat) : Option (Byte × Bool × Bool) :=
  if k < r.addr % w then none else r.cells[k - r.addr % w]?
/-- R41: the beat data of a write as sent: bytes outside the range, and bytes not enabled, are 0. -/
def XReq.beatData (r : XReq) (w : Nat) : List Byte :=
  (List.range (beats w r.addr r.len * w)).map (fun k => match r.cellAt w k with | some (x, true, _) => x | _ => (0 : Byte))
/-- R41: the mask bits of a write, one per byte of its beats. -/
def XReq.beatMask (r : XReq) (w : Nat) : List Bool :=
  (List.range (beats w r.addr r.len * w)).map (fun k => match r.cellAt w k with | some (_, e, _) => e | none => false)
/-- PVEC of a request: of a write, the beats with a poisoned byte; of an ATM, bit 0 (R38, R42). -/
def XReq.pvec (r : XReq) (w : Nat) : Nat :=
  if r.op == 4 then b2n (r.cells.any (fun c => c.2.2))
  else if r.op == 2 || r.op == 3 then
    bitMap (beats w r.addr r.len) (fun i => (List.range w).any (fun t =>
      match r.cellAt w (i * w + t) with | some (_, _, q) => q | none => false))
  else 0

/-- Number of some bits, the first lowest. -/
def bitsNat (l : List Bool) : Nat := bitMap l.length (fun i => l[i]?.getD false)

/-- R41: the mask section: W/8 bytes per beat, or one byte when W is 4. -/
def XReq.maskBytes (r : XReq) (w : Nat) : List Byte :=
  let m := r.beatMask w
  (List.range (beats w r.addr r.len)).flatMap (fun i => leBytes (bitsNat ((m.drop (i * w)).take w)) (max (w / 8) 1))

/-- R38 to R42: a request as sent: LEN, ADDR and PVEC are 0 in NOP and FLUSH, ATMOP and ATMSZ in all but ATM; reserved bits are 0. -/
def XReq.bytes (r : XReq) (w : Nat) : List Byte :=
  let plain := r.op == 0 || r.op == 5
  let wr := r.op == 2 || r.op == 3
  let b0 := r.op + 16 * b2n (wr && r.masked) + 32 * b2n r.spec
  let t := r.tag % 4096 + (if r.op == 4 then 2 ^ 12 * r.aop + 2 ^ 14 * r.asz else 0)
  let head := leBytes b0 1 ++ leBytes t 2 ++ leBytes (if plain then 0 else r.len % 4096) 2 ++ leBytes r.f 2 ++ leBytes 0 1 ++
    leBytes (if plain then 0 else r.addr) 8 ++ leBytes (if plain then 0 else r.pvec w) 8
  if wr then head ++ padSlots (r.beatData w) ++ (if r.masked then padSlots (r.maskBytes w) else [])
  else if r.op == 4 then head ++ padSlots (r.cells.map (·.1))
  else head

/-- Table 2.5: a response as sent. -/
def RspOut.bytes (r : RspOut) : List Byte :=
  leBytes (64 + r.code) 1 ++ leBytes (r.tag % 4096) 2 ++ leBytes r.cause 1 ++ leBytes r.pvec 8 ++ padSlots r.data

/-- Table 2.15: a CAPS as sent; reserved bytes are 0. -/
def capsBytes (c : CapsMsg) : List Byte :=
  leBytes 0x84 1 ++ leBytes (c.vmax + 16 * c.vmaj) 1 ++ leBytes c.vmin 1 ++ leBytes c.seq 1 ++ leBytes c.widths.toNat 1 ++
    leBytes (b2n c.halfDuplex + 2 * b2n c.atm) 1 ++ leBytes c.maxout 2 ++ leBytes c.crReqh 2 ++ leBytes c.crReqd 2 ++
    leBytes c.crRsph 2 ++ leBytes c.crRspd 2 ++ leBytes c.crMsgs 2 ++ leBytes 0 2 ++ leBytes c.timeoutUs 4 ++
    leBytes c.ident 4 ++ leBytes c.idrev 2 ++ leBytes 0 18

/-- R36 to R51, R68: a message as sent, whole slots of 12 bytes. A CREDIT names its function for class 5 only. -/
def XMsg.bytes (w : Nat) : XMsg → List Byte
  | .req r => r.bytes w
  | .rsp r => r.bytes
  | .reins f v => leBytes 0x81 1 ++ leBytes f 2 ++ leBytes 0 1 ++ leBytes v 4 ++ leBytes 0 4
  | .caps c => capsBytes c
  | .credit cls f n => leBytes 0xC0 1 ++ leBytes cls 1 ++ leBytes (if cls == 5 then f else 0) 2 ++ leBytes n 2 ++ leBytes 0 6

/-- R51: a PAD slot. -/
def padSlot : List Byte := leBytes 0xCF 1 ++ leBytes 0 11

/-- The payload areas of the flits of a message: 15 slots each, unused slots PAD (R247). -/
def TxMsg.areas (e : TxMsg) : List (List Byte) :=
  let l := e.m.bytes e.w
  let all' := l ++ (List.replicate (15 * e.n - cdiv l.length 12) padSlot).flatten
  chunksOf 180 e.n all'

/-! ### CRC and parity (R249, R250) -/

/-- Multiplication by α = 02h in GF(2^8) with x^8 + x^4 + x^3 + x^2 + 1. -/
def gfTwice (x : Nat) : Nat := if x < 128 then 2 * x else (2 * x) ^^^ 0x11D

/-- One step of the reflected CRC-32 with 1EDC_6F41h (R250). -/
def flitCrcBit (c : Nat) : Nat := if c % 2 == 1 then c / 2 ^^^ 0x82F63B78 else c / 2
/-- One byte of the CRC-32 of R250. -/
def flitCrcByte (c x : Nat) : Nat :=
  flitCrcBit (flitCrcBit (flitCrcBit (flitCrcBit (flitCrcBit (flitCrcBit (flitCrcBit (flitCrcBit (c ^^^ x))))))))
/-- The CRC-32 of R250. -/
def flitCrc (l : List Nat) : Nat := l.foldl flitCrcByte 0xFFFFFFFF ^^^ 0xFFFFFFFF

/-- One step of the division by the generator (x − 1)(x − α) = x² + 03h·x + 02h. -/
def fecStep (r : Nat × Nat) (d : Nat) : Nat × Nat :=
  let q := d ^^^ r.1
  (r.2 ^^^ (gfTwice q ^^^ q), gfTwice q)

/-- R249: the two parity bytes of the data bytes of a code word. -/
def fecParity (data : List Nat) : Nat × Nat := data.foldl fecStep (0, 0)

/-- Every third element of a list, from its first. -/
def everyThird : List Nat → List Nat
  | x :: _ :: _ :: t => x :: everyThird t
  | x :: _ => [x]
  | [] => []

/-- R247, R249, R250: a flit of a header and a payload area, with its CRC and parity. -/
def flitBytes (header : Nat) (area : List Byte) : List Byte :=
  let body := leBytes header 2 ++ (padTo 180 area).take 180
  let crc := leBytes (flitCrc (body.map (·.toNat))) 4
  let all' := body ++ crc
  let ns := all'.map (·.toNat)
  let q := fun (c : Nat) => fecParity (everyThird (ns.drop c))
  all' ++ ([(q 0).1, (q 1).1, (q 2).1, (q 0).2, (q 1).2, (q 2).2].map (fun v => BitVec.ofNat 8 v))

/-! ### Lanes (R243, R248) -/

/-- Lanes of a mask, ascending. -/
def lanesOf (m : Nat) : List Nat := (List.range 8).filter (fun i => bit m i)

/-- R243: the physical lanes of a mask in the order of the logical lanes. -/
def laneOrder (mask : Nat) (rev : Bool) : List Nat := if rev then (lanesOf mask).reverse else lanesOf mask

/-- R248: bytes striped over the lanes in use, byte b on logical lane b mod w: per physical lane the bytes it sends. -/
def stripe (mask : Nat) (rev : Bool) (l : List Byte) : List (Nat × List Byte) :=
  let ls := laneOrder mask rev
  (List.range ls.length).map (fun k =>
    (ls[k]?.getD 0, (List.range (cdiv (l.length - k) ls.length)).map (fun t => l[k + t * ls.length]?.getD 0)))

/-- One step of the scrambler x^31 + x^28 + 1: the next state, whose bit 0 is the bit that goes out (which bit of the register goes
out is the model's choice: DESIGN CHOICE, log entry 44). -/
def scrStep (s : Nat) : Nat := 2 * s % 2 ^ 31 + (bits s 30 1 + bits s 27 1) % 2

/-- The byte that scrambles the next byte of a lane, its bit 0 first, and the state after it. -/
def scrByte (s : Nat) : Nat × Nat :=
  (List.range 8).foldl (fun (x : Nat × Nat) i => (scrStep x.1, x.2 + scrStep x.1 % 2 * 2 ^ i)) (s, 0)

/-- The scrambler state of a lane n bytes after a marker (R248). -/
def scrAt (lane : Nat) : Nat → Nat
  | 0 => 0x7FFFFFF0 + lane
  | n + 1 => (scrByte (scrAt lane n)).1

/-- Bytes of a lane, scrambled from a state on. -/
def scramble : Nat → List Byte → List Byte
  | _, [] => []
  | s, x :: t => (x ^^^ BitVec.ofNat 8 (scrByte s).2) :: scramble (scrByte s).1 t

/-- R248: the symbols of a byte: in NRZ (rates 1 and 2) its bits, bit 0 first; in PAM4 four levels in Gray code, bits [1:0] first. -/
def symbolsOf (rate : Nat) (x : Byte) : List Nat :=
  if rate ≤ 2 then (List.range 8).map (fun i => bits x.toNat i 1)
  else (List.range 4).map (fun i => match bits x.toNat (2 * i) 2 with | 0 => 0 | 1 => 1 | 3 => 2 | _ => 3)

/-- R248: the symbols that a flit puts on each physical lane, n bytes per lane after the last marker. -/
def flitLanes (rate mask : Nat) (rev : Bool) (n : Nat) (l : List Byte) : List (Nat × List Nat) :=
  (stripe mask rev l).map (fun x => (x.1, (scramble (scrAt x.1 n) x.2).flatMap (symbolsOf rate)))

/-! ### Figure of merit (R221, R259) -/

/-- 255 times the product of the two ratios of an eye, truncated. -/
def eyeFom (e : Eye) : Nat := 255 * (e.height * e.width) / (e.heightNom * e.widthNom)

/-- R221: the FOM of a lane: the smallest of three eyes in PAM4, of one in NRZ, saturating at 255; an eye not measured is closed. -/
def laneFom (pam : Bool) (es : List Eye) : Nat :=
  let n := if pam then 3 else 1
  if es.length < n then 0 else ((es.take n).map eyeFom).foldl min 255

/-! ### SKIP flits, markers and training blocks (R246, R251, R256) -/

/-- R246: the fixed pattern of a SKIP flit. -/
def skipBytes : List Byte := (List.range 192).map (fun k => if k % 2 == 0 then 0x0F else 0xF0)

/-- R246: the symbols of a SKIP flit, neither scrambled nor coded. -/
def skipLanes (rate mask : Nat) (rev : Bool) : List (Nat × List Nat) :=
  (stripe mask rev skipBytes).map (fun x => (x.1, x.2.flatMap (symbolsOf rate)))

/-- Whether of every 24 bytes of a lane at least 20 match the pattern. -/
def skipLane (want got : List Byte) : Bool :=
  (chunksOf 24 192 (want.zip got)).all (fun c => decide (20 ≤ (c.filter (fun x => x.1 == x.2)).length))

/-- R246: bytes received are a SKIP flit: on a majority of the lanes in use. -/
def isSkip (mask : Nat) (rev : Bool) (l : List Byte) : Bool :=
  let got := stripe mask rev l
  let want := stripe mask rev skipBytes
  let hits := (got.zip want).filter (fun x => skipLane x.2.2 x.1.2)
  decide (got.length < 2 * hits.length)

/-- R251: a marker on a physical lane. -/
def markerBytes (lane count status : Nat) : List Byte :=
  [0x3C, 0x5A, 0x96, 0xE1, 0x0F] ++ leBytes lane 1 ++ leBytes count 1 ++ leBytes status 1

/-- R251: bytes received on a lane are a marker. -/
def isMark (l : List Byte) : Bool := l.take 5 == [0x3C, 0x5A, 0x96, 0xE1, 0x0F]

/-- SYNC of a training block (Table 10.6). -/
def syncBytes : List Byte := [0x4B, 0x5E, 0x72, 0x1D]

/-- R256: a training block as sent. -/
def blockBytes (k : TrainBlk) : List Byte :=
  let body := syncBytes ++ leBytes k.role 1 ++ leBytes k.lane 1 ++ leBytes k.rates.toNat 1 ++ leBytes k.step 1 ++
    leBytes k.fom 1 ++ leBytes k.txreq 1 ++ leBytes k.flags.toNat 1 ++ leBytes 0 17
  body ++ leBytes (flitCrc (body.map (·.toNat))) 4

/-- Field of n bytes from byte lo of a message. -/
def msgFld (m : List Byte) (lo n : Nat) : Nat := leNat ((m.drop lo).take n)

/-- R256, R257: a training block as received: SYNC, straight or inverted, and the CRC are checked; of an inverted lane every bit
is turned. -/
def blockOf (l : List Byte) : TrainBlk :=
  let inv := l.take 4 == syncBytes.map (fun x => ~~~x)
  let m := if inv then l.map (fun x => ~~~x) else l
  let good := m.take 4 == syncBytes && flitCrc ((m.take 28).map (·.toNat)) == msgFld m 28 4
  ⟨msgFld m 4 1, msgFld m 5 1, BitVec.ofNat 4 (msgFld m 6 1), msgFld m 7 1, msgFld m 8 1, msgFld m 9 1 % 8,
    BitVec.ofNat 2 (msgFld m 10 1), good, inv⟩

end Sys2Proof.Machine
end

