-- ==== Sys2Proof/Machine/Ops.lean ====
section
/-! DEFINITION. The named operations every meaning is made of: tables in canonical form, the records of the units,
bindings of functions, sending on Stall links and Tether ports, and running an effect as the outcome of a command. -/
namespace Sys2Proof.Machine

/-! ### Tables in canonical form -/

/-- Remove every entry under a key. -/
def dropKey {κ ν : Type} [DecidableEq κ] (k : κ) (l : List (κ × ν)) : List (κ × ν) :=
  l.filter (fun e => decide (e.1 ≠ k))

/-- Put an entry before the first entry with a larger key. -/
def insertKey {κ ν : Type} (lt : κ → κ → Bool) (k : κ) (v : ν) : List (κ × ν) → List (κ × ν)
  | [] => [(k, v)]
  | h :: t => if lt k h.1 then (k, v) :: h :: t else h :: insertKey lt k v t

/-- The canonical form of a table whose first entry under a key holds: keys strictly rising, no default entry. -/
def canonTable {κ ν : Type} [DecidableEq κ] (lt : κ → κ → Bool) (dflt : κ → ν → Bool) :
    List (κ × ν) → List (κ × ν)
  | [] => []
  | (k, v) :: t =>
    let r := dropKey k (canonTable lt dflt t)
    if dflt k v then r else insertKey lt k v r

/-- Order of field keys: by field, unit, sub-index. -/
def RKey.lt (a b : RKey) : Bool :=
  a.fld.ctorIdx < b.fld.ctorIdx ||
    (a.fld.ctorIdx == b.fld.ctorIdx && (a.i < b.i || (a.i == b.i && a.j < b.j)))

/-- Order of unit numbers. -/
def natLt (a b : Nat) : Bool := a < b

/-- A table of records by unit number, records equal to the default left out. -/
def canonUnits {ν : Type} [DecidableEq ν] (d : ν) (l : List (Nat × ν)) : List (Nat × ν) :=
  canonTable natLt (fun _ v => decide (v = d)) l

/-- The block with every table in canonical form. -/
def Block.canon (b : Block) : Block :=
  { b with
    regs := canonTable RKey.lt (fun k v => v == resetVal b k) b.regs
    xlb := canonUnits {} b.xlb
    tth := canonUnits {} b.tth
    links := canonUnits {} b.links
    fns := canonUnits {} b.fns
    queues := canonUnits {} b.queues
    pins := canonUnits {} b.pins
    groups := canonUnits {} b.groups
    slots := canonUnits {} b.slots }

/-- A command that only has an effect on the block: the outcome is the block after it, in canonical form, and the
queue of waiting commands as it is. -/
def State.on (s : State) (f : Block → Block) : Host.Outcome State Fault Refusal :=
  .next { s with blk := (f s.blk).canon }

/-! ### Small tools on lists -/

/-- Update the elements that meet a condition. -/
def mapIf {α : Type} (p : α → Bool) (g : α → α) (l : List α) : List α := l.map (fun a => if p a then g a else a)

/-- Apply a step to the block once per element, in order. -/
def Block.each {α : Type} (b : Block) (l : List α) (g : Block → α → Block) : Block := l.foldl g b

/-- First number from `start` on, counting up modulo n, that a test admits; `none` when all n fail. -/
def firstFree (ok : Nat → Bool) (n start : Nat) : Nat → Option Nat
  | 0 => none
  | fuel + 1 =>
    let t := (start + (n - (fuel + 1))) % n
    if ok t then some t else firstFree ok n start fuel

/-- A free number below n, searched from a start. -/
def pickFree (ok : Nat → Bool) (n start : Nat) : Option Nat := firstFree ok n start n

/-- A list of exactly n bytes: those given, free values for what is missing (log entry 9). -/
def fillTo (c n : Nat) (l : List Byte) : List Byte :=
  (List.range n).map (fun k => match l[k]? with | some x => x | none => Config.freeByte (c + k))

/-- n bytes of an operand: those given, or, where there are more or fewer, cut or filled with free values. -/
def Block.takeBytes (b : Block) (n : Nat) (l : List Byte) : List Byte × Block :=
  if l.length == n then (l, b) else (fillTo b.freeCtr n l, { b with freeCtr := b.freeCtr + n })

/-! ### Records of the units -/

/-- The record of a unit, or the default. -/
def unitOf {ν : Type} (d : ν) (l : List (Nat × ν)) (k : Nat) : ν :=
  match lookupKey k l with
  | some v => v
  | none => d

/-- XLB record of port p. -/
def Block.x (b : Block) (p : Nat) : XlbDyn := unitOf {} b.xlb p
/-- Record of Stall link l. -/
def Block.lk (b : Block) (l : Nat) : LinkDyn := unitOf {} b.links l
/-- Record of function f. -/
def Block.fn (b : Block) (f : Nat) : FnDyn := unitOf {} b.fns f
/-- Record of module queue q (R130). -/
def Block.qu (b : Block) (q : Nat) : QDyn := unitOf {} b.queues q
/-- Record of the Tether controller of port p. -/
def Block.tt (b : Block) (p : Nat) : TthDyn := unitOf {} b.tth p
/-- Change the record of the Tether controller of port p. -/
def Block.ttMod (b : Block) (p : Nat) (g : TthDyn → TthDyn) : Block := { b with tth := (p, g (b.tt p)) :: b.tth }
/-- Change the XLB record of port p. -/
def Block.xMod (b : Block) (p : Nat) (g : XlbDyn → XlbDyn) : Block := { b with xlb := (p, g (b.x p)) :: b.xlb }
/-- Change the record of link l. -/
def Block.lkMod (b : Block) (l : Nat) (g : LinkDyn → LinkDyn) : Block := { b with links := (l, g (b.lk l)) :: b.links }
/-- Change the record of function f. -/
def Block.fnMod (b : Block) (f : Nat) (g : FnDyn → FnDyn) : Block := { b with fns := (f, g (b.fn f)) :: b.fns }
/-- Change the record of module queue q. -/
def Block.quMod (b : Block) (q : Nat) (g : QDyn → QDyn) : Block := { b with queues := (q, g (b.qu q)) :: b.queues }

/-- Slot sideband of port p. -/
def Block.pin (b : Block) (p : Nat) : PortPins := unitOf {} b.pins p
/-- Change the slot sideband of port p. -/
def Block.pinMod (b : Block) (p : Nat) (g : PortPins → PortPins) : Block := { b with pins := (p, g (b.pin p)) :: b.pins }

/-- Record of stall group g. -/
def Block.gr (b : Block) (g : Nat) : GrpDyn := unitOf {} b.groups g
/-- Change the record of stall group g. -/
def Block.grMod (b : Block) (g : Nat) (h : GrpDyn → GrpDyn) : Block := { b with groups := (g, h (b.gr g)) :: b.groups }
/-- Record of the slot of port p. -/
def Block.sl (b : Block) (p : Nat) : SlotDyn := unitOf {} b.slots p
/-- Change the record of the slot of port p. -/
def Block.slMod (b : Block) (p : Nat) (h : SlotDyn → SlotDyn) : Block := { b with slots := (p, h (b.sl p)) :: b.slots }

/-- Send something to the surroundings. -/
def Block.emit (b : Block) (o : Out) : Block := { b with out := o :: b.out }
/-- Take one free value: the counter advances. -/
def Block.useFree (b : Block) : Block := { b with freeCtr := b.freeCtr + 1 }
/-- Take a new record number. -/
def Block.newId (b : Block) : Block := { b with nextId := b.nextId + 1 }

/-! ### Bindings (R75, R76, R127) -/

/-- The function records of the running image. -/
def Block.fnRecs (b : Block) : List FnRec := optD b.img [] (·.fns)
/-- The record of function f. -/
def Block.fnRec? (b : Block) (f : Nat) : Option FnRec := b.fnRecs.find? (·.f == f)
/-- Whether function slot f exists (R75). -/
def Block.fnExists (b : Block) (f : Nat) : Bool := (b.fnRec? f).isSome
/-- Tether port to which f is bound. -/
def Block.portOf (b : Block) (f : Nat) : Nat := optD (b.fnRec? f) 0 (·.port)
/-- Functions bound to port p, ascending. -/
def Block.boundFns (b : Block) (p : Nat) : List Nat :=
  (List.range 512).filter (fun f => b.fnRecs.any (fun r => r.f == f && r.port == p))
/-- Whether f is bound to p (R49). -/
def Block.isBound (b : Block) (f p : Nat) : Bool := optD (b.fnRec? f) false (fun r => r.port == p)
/-- The link that carries f now (FCP_RECOVERY.ACTIVE_LINK, R304). -/
def Block.actLink (b : Block) (f : Nat) : Nat := b.rd .recActiveLink f
/-- The set of link-scoped configuration state in force: 0 of the record's LINK, 1 of the standby link (R302). -/
def Block.actSet (b : Block) (f : Nat) : Nat := optD (b.fnRec? f) 0 (fun r => if b.actLink f == r.link then 0 else 1)
/-- The set that a link selects in function f. -/
def setOn (r : FnRec) (l : Nat) : Nat := if r.link == l then 0 else 1
/-- Functions that a link presents: those of its records and of the pair (R302). -/
def Block.linkFns (b : Block) (l : Nat) : List FnRec := b.fnRecs.filter (fun r => r.link == l || r.standby == some l)
/-- Mode bit of f (FCP_MODES, Table 3.15). -/
def Block.mode (b : Block) (f i : Nat) : Bool := optD (b.fnRec? f) false (fun r => bit r.modes i)
/-- The parent's record of a VF, or the function's own. -/
def Block.pfRec? (b : Block) (r : FnRec) : Option FnRec := if r.vf then b.fnRec? r.parent else some r
/-- Table discovery (R84, R85): of a VF, that of its PF. -/
def Block.tableDisc (b : Block) (f : Nat) : Bool :=
  optD (b.fnRec? f) false (fun r => optD (b.pfRec? r) false (·.table))
/-- Virtual functions of a PF, ascending (R78). -/
def Block.vfsOf (b : Block) (f : Nat) : List Nat :=
  (List.range 512).filter (fun v => b.fnRecs.any (fun r => r.f == v && r.vf && r.parent == f))
/-- The function whose control fields apply to f: a VF is governed by those of its PF (R81; which ones, PRESUMED from the
SR-IOV rules, log entry 31). -/
def Block.ctlOf (b : Block) (f : Nat) : Nat := optD (b.fnRec? f) f (fun r => if r.vf then r.parent else f)
/-- The function with ARI function number 0 of a link. -/
def Block.linkHead (b : Block) (l : Nat) : Nat :=
  optD ((b.linkFns l).find? (fun r => !r.vf && r.pfIndex == 0)) 0 (·.f)
/-- Rank of a VF within its PF, from 1 (log entry 12). -/
def Block.vfNumOf (b : Block) (r : FnRec) : Nat := ((b.vfsOf r.parent).filter (· ≤ r.f)).length

/-- R78: ARI function number of a record on its link. -/
def Block.ariOf (b : Block) (r : FnRec) : Nat :=
  if !r.vf then r.pfIndex
  else
    let pf := b.pfRec? r
    let k := optD pf 0 (·.pfIndex)
    let below := (b.fnRecs.filter (fun q => !q.vf && q.link == r.link && q.pfIndex < k)).foldl (fun a q => a + q.totalVfs) 0
    8 + below + (b.vfNumOf r - 1)

/-! ### The Loom's ports and crossings (R5, R16, R17, R20 to R23) -/

/-- Loom port of Stall die d (Table 1.2). -/
def stallPort (d : Nat) : Nat := d
/-- Loom port of Stall link l: that of its Stall die. -/
def linkPort (l : Nat) : Nat := stallPort (l / 28)
/-- Loom port of Tether port p: of the two of its die, the even one carries the first eight ports. -/
def tetherPort (p : Nat) : Nat := 8 + 2 * (p / 16) + p % 16 / 8
/-- Loom port of Shuttle s: of the two of its cluster, the even one carries the first nine Shuttles. -/
def shuttlePort (s : Nat) : Nat := 16 + 2 * (s / 17) + (if s % 17 < 9 then 0 else 1)
/-- Loom port of the Groom. -/
def groomPort : Nat := 32
/-- Loom ports of a die by its die ID (Table 1.1). -/
def dieLoomPorts (die : Nat) : List Nat :=
  if die < 8 then [stallPort die]
  else if die < 12 then [8 + 2 * (die - 8), 9 + 2 * (die - 8)]
  else if die < 14 then (List.range 8).map (fun k => 16 + 8 * (die - 12) + k)
  else if die == 14 then List.range 33
  else if die == 15 then [groomPort]
  else []

/-- R130: bucket of module queue q. -/
def bucketOf (q : Nat) : Nat := q * 40503 % 65536 / 256
/-- Shuttle that runs queue n of f: the entry of its bucket in the bucket table (R130). -/
def Block.shuttleOf (b : Block) (f n : Nat) : Nat := b.buckets[bucketOf (32 * f + n)]?.getD 0
/-- Loom port of the Shuttle that runs module queue q. -/
def Block.queuePort (b : Block) (q : Nat) : Nat := shuttlePort (b.shuttleOf (q / 32) (q % 32))

/-- Record a crossing of the Loom (Table 1.4). Traffic crosses within the command that causes it (DESIGN CHOICE, log entry 45). -/
def Block.cross (b : Block) (i o : Option Nat) (cls bytes : Nat) : Block :=
  { b with xings := ⟨i, o, cls, bytes⟩ :: b.xings }

/-- R21: the Loom's input port holds traffic: the Loom stands still, or an offer of that input waits for an output port. -/
def Block.loomHolds (b : Block) (i : Nat) : Bool := b.loom.stopped || b.loom.waits.any (fun w => w.2.1 == i)

/-- R21: the host of link l is given PCI Express flow-control credits: its Stall die holds no traffic at the Loom. -/
def Block.hostCredit (b : Block) (l : Nat) : Bool := !b.loomHolds (linkPort l)

/-- Loom input of a Memory Write, for one that crosses: the unit that made it; interrupt messages and event records come from the
Loom itself. The TLPs of a local-master write are formed at the Stall die, behind the crossing of the request. -/
def Block.wFrom (b : Block) (o : PwOwner) : Option (Option Nat) :=
  match o with
  | .lm _ _ => none
  | .chunk q _ | .head q => some (some (b.queuePort q))
  | _ => some none

/-- Loom input of a non-posted request, for one that crosses: the TLPs of a local-master request are formed at the Stall die, and
the zero-length reads of R54 and R55 are its own. -/
def Block.npFrom (b : Block) (o : HOwner) : Option (Option Nat) :=
  match o with
  | .lmRd _ _ _ | .lmAtm _ _ | .lmZlr _ _ | .flushZlr _ _ => none
  | .qIndex q | .qDesc q _ _ | .qFrag q _ _ | .qData q _ _ => some (some (b.queuePort q))
  | .xlate _ => some none

/-- The module queue that a non-posted request serves. -/
def ownQueue (o : HOwner) : Option Nat :=
  match o with
  | .qIndex q | .qDesc q _ _ | .qFrag q _ _ | .qData q _ _ => some q
  | _ => none

/-- R148, R151, R153: a read of a queue goes out only while the queue is ARMED or RUNNING. -/
def Block.npMay (b : Block) (t : HTag) : Bool :=
  match ownQueue t.own with
  | some q => b.rd .qState (q / 32) (q % 32) == 1 || b.rd .qState (q / 32) (q % 32) == 2
  | none => true

/-! ### Sending on Stall links -/

/-- The link's Data Link Layer is DL_Active. -/
def Block.dlActive (b : Block) (l : Nat) : Bool := b.flag .lnkDlActive l
/-- The link can carry TLPs now: DL_Active and in L0 or L0p (R188). -/
def Block.inL0 (b : Block) (l : Nat) : Bool := b.dlActive l && b.rd .lnkLtssm l == 3
/-- The function is in D3hot (R323). -/
def Block.d3hot (b : Block) (f : Nat) : Bool := b.rd .cfgPmState f == 3
/-- The function is in D3cold (R323): its link is in L2, or STL_PERST_N of its group is asserted. -/
def Block.d3cold (b : Block) (f : Nat) : Bool :=
  b.rd .lnkLtssm (b.actLink f) == 6 || b.flag .gstPerst (b.actLink f / 4)
/-- Bus Master Enable of f in force at the Stall die (R193); in D3hot (R323), and with its TDI in ERROR (R353), a function is
handled as with it at 0. -/
def Block.bme (b : Block) (f : Nat) : Bool :=
  b.flag .cfgBmeEff f (b.actSet f) && b.rd .tdiState f != 3 && !b.d3hot f

/-- Requester ID of f on its link: the captured bus number and its ARI function number (R79). -/
def Block.ridOf (b : Block) (f : Nat) : Nat :=
  optD (b.fnRec? f) 0 (fun r => (b.lk (b.actLink f)).bus * 256 + b.ariOf r)

/-! IDE streams (R234): dword j of the IDE capability of link l from 3C0h on; 3 is the control of the link stream, and
5 + 8k begins the block of selective stream k: its control at +1, its RID association at +3 and +4 (the layout is the Base
Specification's, PRESUMED, log entry 36). -/

/-- Dword of the IDE capability. -/
def Block.ideReg (b : Block) (l j : Nat) : Nat := b.rd .ideDw l j
/-- Selective stream k of link l is enabled. -/
def Block.selOn (b : Block) (l k : Nat) : Bool := bit (b.ideReg l (6 + 8 * k)) 0
/-- The selective stream's RID association covers a Requester ID. -/
def Block.selCovers (b : Block) (l k rid : Nat) : Bool :=
  let lim := bits (b.ideReg l (8 + 8 * k)) 8 16
  let r2 := b.ideReg l (9 + 8 * k)
  bit r2 0 && bits r2 8 16 ≤ rid && rid ≤ lim
/-- The address association of a selective stream admits an address; one that is not valid admits every address. -/
def Block.selAdmits (b : Block) (l k a : Nat) : Bool :=
  let a1 := b.ideReg l (10 + 8 * k)
  !bit a1 0 || decide (bits a1 8 12 * 2 ^ 20 + b.ideReg l (12 + 8 * k) * 2 ^ 32 ≤ a ∧
    a < (bits a1 20 12 + 1) * 2 ^ 20 + b.ideReg l (11 + 8 * k) * 2 ^ 32)
/-- Enabled selective streams of the active link of f that cover it. -/
def Block.selOf (b : Block) (f : Nat) : List Nat :=
  let l := b.actLink f
  (List.range 8).filter (fun k => b.selOn l k && b.selCovers l k (b.ridOf f))
/-- R235: the selective streams for a TLP of f, by its Requester ID and, where it has one, its address. -/
def Block.selFor (b : Block) (f : Nat) (a : Option Nat) : List Nat :=
  (b.selOf f).filter (fun k => match a with | some x => b.selAdmits (b.actLink f) k x | none => true)
/-- Stream ID of a control dword. -/
def streamId (c : Nat) : Nat := bits c 24 8
/-- The IDE stream of link l with a Stream ID that meets a condition exists. -/
def Block.streamIs (b : Block) (l id : Nat) (p : IdeStr → Bool) : Bool := (b.lk l).ide.any (fun s => s.id == id && p s)
/-- A stream of link l with a Stream ID is enabled. -/
def Block.streamOn (b : Block) (l id : Nat) : Bool :=
  (bit (b.ideReg l 3) 0 && streamId (b.ideReg l 3) == id) ||
    (List.range 8).any (fun k => b.selOn l k && streamId (b.ideReg l (6 + 8 * k)) == id)
/-- A key set is in use in every sub-stream of both directions. -/
def IdeStr.keyed (s : IdeStr) : Bool :=
  [true, false].any (fun k => (List.range 3).all (fun sub => [true, false].all (fun tx =>
    s.keys.any (fun x => x.sub == sub && x.tx == tx && x.k == k && x.go))))
/-- An enabled stream with a key set in use becomes Secure (PRESUMED from the Base Specification, log entry 36). -/
def Block.secureJudge (b : Block) (l id : Nat) : Block :=
  let go := fun (s : IdeStr) => s.id == id && !s.secure && b.streamOn l id && s.keyed
  b.lkMod l (fun k => { k with ide := mapIf go (fun s => { s with secure := true, fell := false }) k.ide })
/-- The TDI of f is in CONFIG_LOCKED or RUN. -/
def Block.tdiOn (b : Block) (f : Nat) : Bool := b.rd .tdiState f == 1 || b.rd .tdiState f == 2

/-- R235: a selective stream in the Secure state covers f. -/
def Block.selSecure (b : Block) (f : Nat) : Bool :=
  let l := b.actLink f
  (b.selOf f).any (fun k => b.streamIs l (streamId (b.ideReg l (6 + 8 * k))) (·.secure))

/-- R235: the Stream ID of a TLP of f: of the first selective stream for it, of a locked TDI the first Secure one; else of the link
stream; none without IDE. -/
def Block.txStream (b : Block) (f : Nat) (a : Option Nat) : Option Nat :=
  let l := b.actLink f
  let id := fun (k : Nat) => streamId (b.ideReg l (6 + 8 * k))
  let ks := (b.selFor f a).filter (fun k => !b.tdiOn f || b.streamIs l (id k) (·.secure))
  match ks with
  | k :: _ => some (id k)
  | [] => if bit (b.ideReg l 3) 0 && !b.tdiOn f then some (streamId (b.ideReg l 3)) else none

/-- R235, R236: a TLP of f must use an IDE stream on which it is not sent: the one selected has left the Secure state, or its
TDI is locked and no Secure selective stream takes it. -/
def Block.ideCut (b : Block) (f : Nat) (a : Option Nat := none) : Bool :=
  match b.txStream f a with
  | some id => b.streamIs (b.actLink f) id (·.fell)
  | none => b.tdiOn f

/-- A TLP of f may be sent: Bus Master Enable and its IDE stream allow it. -/
def Block.mayUse (b : Block) (f : Nat) (a : Option Nat := none) : Bool := b.bme f && !b.ideCut f a

/-- R236: a TLP received on a stream that is Insecure is discarded; a completion that would go on it is not sent. -/
def Block.streamBad (b : Block) (l : Nat) (s : Option Nat) : Bool :=
  match s with
  | some id => b.streamIs l id (·.fell)
  | none => false

/-- R235, R236: a completion of a host memory request, on the stream of its request. -/
def Block.sendCpl (b : Block) (l req : Nat) (st : CplSt) (data : List Byte) (ep : Bool) (s : Option Nat) : Block :=
  if b.streamBad l s then b else b.emit (.cpl l req st data ep s)

/-! ### Leaving L1 (R229, R230, R315) -/

/-- Hold an action back until the droop window closes (R315). -/
def Block.holdBack (b : Block) (h : HeldAct) : Block :=
  if b.pow.held.contains h then b else { b with pow := { b.pow with held := b.pow.held ++ [h] } }

/-- R230: STL_CLKREQ_N of group g is asserted: the links of the group leave L1.1 and L1.2 for L1.0. -/
def Block.clkreqOn (b : Block) (g : Nat) : Block :=
  (b.wr .gstClkreq g 0 1).each [4 * g, 4 * g + 1, 4 * g + 2, 4 * g + 3] (fun b l =>
    if b.rd .lnkL1sub l ≥ 2 then b.wr .lnkL1sub l 0 1 else b)

/-- Link l is the active link of a pair (R303). -/
def Block.pairActive (b : Block) (l : Nat) : Bool := b.fnRecs.any (fun r => r.standby.isSome && b.actLink r.f == l)

/-- Entry to Recovery: counted, margining ends (R233), and for the active link of a pair the detection time starts (R303). -/
def Block.recovery (b : Block) (l : Nat) : Block :=
  ((b.wr .lnkLtssm l 0 4).incSat .lnkCntRecovery l).lkMod l (fun k => { k with
    margin := [], detect := k.detect || b.pairActive l })

/-- A link in L1 that has something to send leaves it by Recovery; a droop window holds this back. -/
def Block.l1Exit (b : Block) (l : Nat) : Block :=
  if b.rd .lnkLtssm l != 5 then b
  else if b.flag .pstDroop 0 then b.holdBack (.l1exit l)
  else
    let b1 := if b.rd .lnkL1sub l ≥ 2 then (b.clkreqOn (l / 4)).grMod (l / 4) (fun g => { g with ourReq := true }) else b
    ((b1.wr .lnkL1sub l 0 0).lkMod l (fun k => { k with l1ask := false })).recovery l

/-- A Memory Write at its Stall die that waits for something other than Bus Master Enable of its function (Table 8.1). -/
def Block.wAhead (b : Block) (w : PWr) : Bool := !w.sent && !w.atLoom && b.mayUse w.f (some w.addr)

/-- A Memory Write at the Stall die of link l: it goes at once in L0 behind nothing unsent, otherwise it waits in order (R20);
while Bus Master Enable of its function is 0 it waits (R194). -/
def Block.postAt (b : Block) (l : Nat) (w : PWr) : Block :=
  if b.inL0 l && b.mayUse w.f (some w.addr) && !(b.lk l).posted.any b.wAhead then
    let w' := { w with sent := true }
    (b.lkMod l (fun k => { k with posted := k.posted ++ [w'] })).emit (.mwr l w' (b.txStream w.f (some w.addr)))
  else
    let b1 := b.lkMod l (fun k => { k with posted := k.posted ++ [{ w with sent := false }] })
    if b.mayUse w.f (some w.addr) then b1.l1Exit l else b1

/-- Hand a Memory Write to link l: it crosses the Loom to the link's Stall die; a Loom that stands still holds it (R21). -/
def Block.post (b : Block) (l : Nat) (w : PWr) : Block :=
  match b.wFrom w.own with
  | none => b.postAt l w
  | some i =>
    if b.loom.stopped then b.lkMod l (fun k => { k with posted := k.posted ++ [{ w with sent := false, atLoom := true }] })
    else (b.cross i (some (linkPort l)) 0 w.data.length).postAt l w

/-- Send the Memory Writes that wait on link l, in order, when the link is in L0. -/
def Block.pumpPosted (b : Block) (l : Nat) : Block :=
  if b.inL0 l then
    let ws := (b.lk l).posted.filter b.wAhead
    let b1 := b.each ws (fun b w => b.emit (.mwr l { w with sent := true } (b.txStream w.f (some w.addr))))
    b1.lkMod l (fun k => { k with posted := mapIf b.wAhead (fun w => { w with sent := true }) k.posted })
  else b

/-- Value of the completion timeout in µs (Table 8.2). -/
def ctoUs (v : Nat) : Nat :=
  match v with
  | 1 => 90 | 2 => 9000 | 5 => 50000 | 6 => 200000 | 9 => 800000 | 10 => 3000000 | 13 => 12000000 | 14 => 60000000
  | _ => 10000

/-- Size of the tag space of f (R200). -/
def Block.tagSpace (b : Block) (f : Nat) : Nat :=
  let j := b.actSet f
  if b.flag .cfgTag14En (b.linkHead (b.actLink f)) j then 16384 else if b.flag .cfgTag10En (b.ctlOf f) j then 1024 else 256

/-- Send one waiting non-posted request of f when its tag and the link allow; otherwise it stays waiting (R200). -/
def Block.sendNp (b : Block) (f id : Nat) : Block :=
  let l := b.actLink f
  let np := (b.fn f).np
  match np.find? (fun t => t.id == id && t.st == .waiting && !t.atLoom) with
  | none => b
  | some t =>
    if !b.npMay t then b
    else if b.inL0 l && b.mayUse f (some t.addr) && !(b.lk l).posted.any b.wAhead then
      let n := b.tagSpace f
      let ok := fun g => !(np.any (fun x => x.st != .waiting && x.tag == g))
      match pickFree ok n (Config.hostTagStart b.freeCtr) with
      | none => b
      | some g =>
        let j := b.actSet f
        let cto := if b.flag .cfgCtoDis (b.ctlOf f) j then none else some (ctoUs (b.rd .cfgCtoVal (b.ctlOf f) j))
        let go := fun (t : HTag) => { t with st := .sent, tag := g, t0 := b.time, cto := cto }
        ((b.useFree.fnMod f (fun d => { d with np := mapIf (·.id == id) go d.np }))).emit (.mrd l f (go t) (b.txStream f (some t.addr)))
    else if b.mayUse f (some t.addr) then b.l1Exit l else b

/-- Send the waiting non-posted requests of f in order. -/
def Block.pumpNp (b : Block) (f : Nat) : Block :=
  b.each (((b.fn f).np.filter (·.st == .waiting)).map (·.id)) (fun b id => b.sendNp f id)

/-- A new non-posted request of f: it crosses the Loom to the Stall die of the function's link, where it is sent at once or
waits; a Loom that stands still holds it (R21). -/
def Block.addNp (b : Block) (f : Nat) (own : HOwner) (addr len : Nat) (ent : Option Nat := none) (xl : Bool := false)
    (pasid : Option Nat := none) (ns : Bool := false) (ops : List Byte := []) (aop : Nat := 0) : Block :=
  let id := b.nextId
  let from? := b.npFrom own
  let t : HTag := ⟨id, own, .waiting, 0, addr, len, ent, xl, pasid, ns, ops, aop, b.time, none, [], b.loom.stopped && from?.isSome⟩
  let b1 := b.newId.fnMod f (fun d => { d with np := d.np ++ [t] })
  if t.atLoom then b1
  else
    (match from? with
     | some i => b1.cross i (some (linkPort (b.actLink f))) 1 ops.length
     | none => b1).sendNp f id

/-- Drop non-posted requests of f that meet a condition. -/
def Block.dropNp (b : Block) (f : Nat) (p : HTag → Bool) : Block :=
  b.fnMod f (fun d => { d with np := d.np.filter (fun t => !(p t)) })

/-- Max_Payload_Size and Max_Read_Request_Size of f (R128). -/
def Block.mps (b : Block) (f : Nat) : Nat := 128 * 2 ^ b.rd .cfgMps (b.ctlOf f) (b.actSet f)
/-- Max_Read_Request_Size of f. -/
def Block.mrrs (b : Block) (f : Nat) : Nat := 128 * 2 ^ b.rd .cfgMrrs (b.ctlOf f) (b.actSet f)

/-! ### Sending on Tether ports -/

/-- Bytes of a beat for the agreed width (Table 2.22). -/
def Block.xw (b : Block) (p : Nat) : Nat := 4 * 2 ^ b.rd .xlbWidth p
/-- The port is ACTIVE (Table 2.22). -/
def Block.active (b : Block) (p : Nat) : Bool := b.flag .xlbActive p
/-- The port is fenced. -/
def Block.fenced (b : Block) (p : Nat) : Bool := b.flag .xlbFenced p
/-- Agreed minor version. -/
def Block.xver (b : Block) (p : Nat) : Nat := b.rd .xlbVersion p
/-- Limit of outstanding requests in each direction (R48). -/
def Block.xlimit (b : Block) (p : Nat) : Nat := if b.xver p < 2 then 256 else 1024
/-- The port is in LOOPBACK (Table 10.17). -/
def Block.looped (b : Block) (p : Nat) : Bool := b.rd .psState p == 6
/-- Requests meet the port as a fenced port (R66, R269). -/
def Block.shut (b : Block) (p : Nat) : Bool := b.fenced p || b.looped p
/-- Requests of the PX896 outstanding to the design (R48, R62): sent, in the gap, or waiting again after RETRY. -/
def Block.pxOut (b : Block) (p : Nat) : Nat :=
  ((b.x p).reqs.filter (fun r => r.st != .waiting || r.retries > 0)).length
/-- A response of port p is held in the Loom's input stage. -/
def backOfPort (p : Nat) (x : LoomBack) : Bool := match x with | .lm q _ _ _ _ _ _ => q == p | _ => false
/-- Local-master requests whose response has not been sent (R59). -/
def Block.localOut (b : Block) (p : Nat) : Nat :=
  (b.x p).lms.length + (b.x p).rspQ.length + (b.loomBack.filter (backOfPort p)).length

/-! ### The transmitter of a Tether port (R246 to R254, R264, R265) -/

/-- R251: status of a marker: bit 0 symbol lock on every lane, bit 1 deskewed. -/
def Block.markStatus (b : Block) (p : Nat) : Nat :=
  let st := b.rd .psState p
  b2n ((b.tt p).lock || st ≥ 3) + 2 * b2n ((b.tt p).desk || st ≥ 4)

/-- R261: the lanes that the next flit goes on: from position F on the new mask. -/
def Block.txMask (b : Block) (p : Nat) : Nat :=
  match (b.tt p).giveF with
  | some (m, f) => if ((b.tt p).txPos + 65536 - f) % 65536 < 32768 then m else b.rd .plTxmask p
  | none => b.rd .plTxmask p

/-- Put something on the lanes of a Tether port. -/
def Block.putWire (b : Block) (x : WireTx) : Block := { b with wire := x :: b.wire }

/-- R251: an alignment marker goes out on every lane in use, and reseeds the scramblers (R248). -/
def Block.putMark (b : Block) (p : Nat) : Block :=
  let n := ((b.tt p).markCnt + 1) % 256
  let st := b.markStatus p
  let b1 := b.each (lanesOf (b.txMask p)) (fun b i => b.putWire (.marker p i (markerBytes i n st)))
  (b1.ttMod p (fun t => { t with markCnt := t.markCnt + 1, sinceMark := 0, scr := 0 })).emit (.tth p (.marker n st))

/-- R246: a SKIP flit goes out. -/
def Block.putSkip (b : Block) (p : Nat) : Block :=
  ((b.putWire (.skip p (skipLanes (b.rd .psRate p) (b.txMask p) (b.flag .psReversed p)))).ttMod p
    (fun t => { t with sinceSkip := 0 })).emit (.tth p .skip)

/-- R247: the header of the next flit: type, the number of the last PAYLOAD flit received in order, NAK. -/
def Block.txHeader (b : Block) (p ty : Nat) : Nat :=
  ty + 4 * (((b.tt p).rxNext + 4095) % 4096) + 2 ^ 14 * b2n (b.tt p).rxNak

/-- One flit goes out (R247 to R250). After 1,024 flits a SKIP flit follows, after 4,096 a marker (R246, R251). -/
def Block.putFlit (b : Block) (p ty : Nat) (area : List Byte) : Block :=
  let m := b.txMask p
  let x := flitBytes (b.txHeader p ty) area
  let b1 := (b.putWire (.flit p x (flitLanes (b.rd .psRate p) m (b.flag .psReversed p) (b.tt p).scr x))).ttMod p (fun t =>
    { t with txPos := t.txPos + 1, sinceSkip := t.sinceSkip + 1, sinceMark := t.sinceMark + 1, rxUnack := 0
             scr := t.scr + 192 / max 1 (lanesOf m).length })
  let b2 := if (b1.tt p).sinceSkip ≥ 1024 then b1.putSkip p else b1
  if (b2.tt p).sinceMark ≥ 4096 then b2.putMark p else b2

/-- R254: the records that every eighth position carries: NARROW_REQ until the partner's NARROW arrives, NARROW until F. -/
def Block.putRepeats (b : Block) (p : Nat) : Block :=
  let t := b.tt p
  match t.askMask, t.askF, t.giveF with
  | some m, none, _ =>
    if t.txPos % 8 == 0 then b.putFlit p 2 (leBytes 2 1 ++ leBytes m 1)
    else match t.giveF with
      | some (g, f) =>
        if t.txPos % 8 == 4 && b.txMask p != g then b.putFlit p 2 (leBytes 3 1 ++ leBytes g 1 ++ leBytes f 2) else b
      | none => b
  | _, _, some (g, f) =>
    if t.txPos % 8 == 4 && b.txMask p != g then b.putFlit p 2 (leBytes 3 1 ++ leBytes g 1 ++ leBytes f 2) else b
  | _, _, _ => b

/-- A flit of a type with a payload area goes out, behind a record that falls due at its position. The IDLE flits of the other
flit times are not sent one by one (log entry 46). -/
def Block.txFlit (b : Block) (p ty : Nat) (area : List Byte) : Block := (b.putRepeats p).putFlit p ty area

/-- An IDLE flit that carries a new ACKSEQ or NAK; a dozing transmitter sends none (R252, R253). -/
def Block.txNews (b : Block) (p : Nat) : Block := if b.flag .psTxDoze p then b else b.txFlit p 1 []

/-- Put the messages that wait in the replay buffer on the lanes, while it has room for their flits (R252) and no DOZE exit is
held back (R315). -/
def Block.ttPump (b : Block) (p : Nat) : Nat → Block
  | 0 => b
  | n + 1 =>
    let t := b.tt p
    match t.buf.find? (fun e => t.txOut ≤ e.first) with
    | none => b
    | some e =>
      if t.held || e.first + e.n > t.txAck + 1024 then b
      else
        let b1 := (b.ttMod p (fun t => { t with txOut := e.first + e.n })).emit (.xlb p e.m)
        Block.ttPump (b1.each e.areas (fun b a => b.txFlit p 0 a)) p n

/-- R265: the wake burst, then a marker, then flits: the first brings what the header owes the partner. -/
def Block.wakeGo (b : Block) (p : Nat) : Block :=
  let owed := (b.tt p).rxNak || decide ((b.tt p).rxUnack > 0)
  let b1 := (((b.wr .psTxDoze p 0 0).ttMod p (fun t => { t with held := false })).emit (.tth p .wake)).putMark p
  if owed then b1.txFlit p 1 [] else b1

/-- R265: what needs the transmitter wakes it, unless a droop window holds the exit back. -/
def Block.tthWake (b : Block) (p : Nat) : Block :=
  if b.flag .psTxDoze p then
    if b.flag .pstDroop 0 then (b.ttMod p (fun t => { t with held := true })).holdBack (.doze p)
    else b.wakeGo p
  else b

/-- Hand an XLB message to the Tether controller of port p: it takes the next flit numbers, wakes a dozing transmitter and
goes out behind what is ahead of it. A message begins in a fresh PAYLOAD flit (DESIGN CHOICE, log entry 17). Beside CAPS nothing is
sent while the port is not ACTIVE. -/
def Block.xsend (b : Block) (p : Nat) (m : XMsg) : Block :=
  let isCaps := match m with | .caps _ => true | _ => false
  if !(b.active p || isCaps) then b
  else
    let w := b.xw p
    let n := cdiv (msgSlots w m) 15
    let b1 := (b.ttMod p (fun t => { t with txSeq := t.txSeq + n, buf := t.buf ++ [⟨t.txSeq, n, w, m⟩] })).tthWake p
    b1.ttPump p (b1.tt p).buf.length

/-! ### Back-pressure toward the designs (R21, R53) -/

/-- R52, R53, R21: the REQ credits of a request that has been taken into the buffers go back; while the Loom holds traffic of the
port they are withheld. -/
def Block.retReq (b : Block) (p n : Nat) : Block :=
  if b.loomHolds (tetherPort p) then b.xMod p (fun x => { x with oweH := x.oweH + 1, oweD := x.oweD + n })
  else
    let b1 := b.xsend p (.credit 0 0 1)
    if n == 0 then b1 else b1.xsend p (.credit 1 0 n)

/-- The REQ credits withheld on port p go back when the Loom holds none of its traffic any more. -/
def Block.payReq (b : Block) (p : Nat) : Block :=
  let x := b.x p
  if b.loomHolds (tetherPort p) || (x.oweH == 0 && x.oweD == 0) then b
  else
    let b1 := b.xMod p (fun x => { x with oweH := 0, oweD := 0 })
    let b2 := if x.oweH == 0 then b1 else b1.xsend p (.credit 0 0 x.oweH)
    if x.oweD == 0 then b2 else b2.xsend p (.credit 1 0 x.oweD)

/-- Credits withheld on every port go back where they may. -/
def Block.payAll (b : Block) : Block := b.each (List.range 64) (fun b p => b.payReq p)

end Sys2Proof.Machine
end

