-- ==== Sys2Proof/Machine/Flags.lean ====
section
/-! DEFINITION. Status and interrupt flags: requests of Spur sources (R174, R179), the error log (R289, R290), AER
(R290), device events and the event ring (R155 to R158). -/
namespace Sys2Proof.Machine

/-! ### Spur sources -/

/-- Whether any queue of f is HALTED. -/
def Block.anyHalted (b : Block) (f : Nat) : Bool := (List.range 32).any (fun n => b.rd .qState f n == 6)

/-- Level condition of source s of f (Table 7.1). -/
def Block.levelCond (b : Block) (f s : Nat) : Bool :=
  if s < 8 then bit (b.rd .spLines f) s
  else if s == 8 then b.anyHalted f
  else if s == 9 then b.rd .evtProd f != b.rd .evtCons f || b.flag .evtEvtFull f
  else if s == 12 then b.flag .slotPresenceChg f || b.flag .slotButton f || b.flag .slotPowerFault f ||
    b.flag .slotSeqDone f || b.flag .slotLinkChg f
  else false

/-- R174: the request of a source, (level condition) OR LATCH. Source 15 never requests. -/
def Block.srcReq (b : Block) (f s : Nat) : Bool := s < 15 && (b.levelCond f s || b.flag .srcLatch f s)

/-- R324, R325: a PME event of f: with PME_En, PME_Status is set once; a PM_PME message follows, from D3cold only after the
wake. -/
def Block.pmeEvent (b : Block) (f : Nat) : Block :=
  if !b.flag .cfgPmeEn f || b.flag .cfgPmeSts f then b
  else
    let b1 := b.wr .cfgPmeSts f 0 1
    if b.d3cold f then
      (b1.grMod (b.actLink f / 4) (fun g => { g with wakeLow := true })).fnMod f (fun d => { d with pmeWait := true })
    else b1.emit (.msg (b.actLink f) (.pmPme f))

/-- SAMPLE of one source (Table 7.2): IDLE becomes PENDING when R is 1, which in D3hot is a PME event when unmasked (R324); PENDING and SELECTED become IDLE when R is 0. -/
def Block.sample (b : Block) (f s : Nat) : Block :=
  match b.rd .srcState f s with
  | 0 =>
    if b.srcReq f s then
      let b1 := b.wr .srcState f s 1
      if b.d3hot f && !bit (b.rd .spMask f) s then b1.pmeEvent f else b1
    else b
  | 1 | 2 => if b.srcReq f s then b else b.wr .srcState f s 0
  | _ => b

/-- SAMPLE of every source of f. -/
def Block.sampleAll (b : Block) (f : Nat) : Block := b.each (List.range 15) (fun b s => b.sample f s)

/-- An edge event, or a SPUR_PEND_SET bit, of source s (Table 7.2): LATCH is set, unless the source is SELECTED, whose
commit carries the event. -/
def Block.raise (b : Block) (f s : Nat) : Block :=
  if b.rd .srcState f s == 2 then b else (b.wr .srcLatch f s 1).sample f s

/-! ### AER and the error log -/

/-- Error reporting of an uncorrectable error by its bit in the Uncorrectable Error Status register, with the header of
the TLP concerned (R290; bit places PRESUMED from the Base Specification, log entry 6). In Table discovery baseline
reporting through Device Status takes its place. -/
def Block.aerUnc (b : Block) (f e hdr : Nat) : Block :=
  let l := b.actLink f
  let j := b.actSet f
  let fatal := bit (b.rd .aerUncSev (b.ctlOf f) j) e
  let masked := bit (b.rd .aerUncMask (b.ctlOf f) j) e
  let b1 := (b.setBits .cfgDevSta f j ((if fatal then 4 else 2) + (if e == 20 then 8 else 0))).setBits .cfgStatus f j
    (if e == 15 then 2 ^ 11 else if e == 12 then 2 ^ 15 else 0)
  let en := b1.rd .cfgDevErrEn (b.ctlOf f) j
  let send := fun (b : Block) => if bit en (if fatal then 2 else 1) || b.flag .cfgSerr (b.ctlOf f) j then b.emit (.msg l (.err f (if fatal then 2 else 1))) else b
  if b.tableDisc f then send b1
  else
    let b2 := (b1.setBits .aerUncSts f j (2 ^ e)).wr .aerHdr f j hdr
    if masked then b2 else send b2

/-- Error reporting of a correctable or advisory error by its bit in the Correctable Error Status register. -/
def Block.aerCor (b : Block) (f e : Nat) : Block :=
  let l := b.actLink f
  let j := b.actSet f
  let masked := bit (b.rd .aerCorMask (b.ctlOf f) j) e
  let b1 := b.setBits .cfgDevSta f j 1
  let send := fun (b : Block) => if bit (b.rd .cfgDevErrEn (b.ctlOf f) j) 0 then b.emit (.msg l (.err f 0)) else b
  if b.tableDisc f then send b1
  else
    let b2 := b1.setBits .aerCorSts f j (2 ^ e)
    if masked then b2 else send b2

/-- Error reporting of an advisory non-fatal error by its bit in the Uncorrectable Error Status register: Advisory Non-Fatal Error in
the Correctable Error Status register, and the error itself with the header of its TLP (PRESUMED, log entry 6). -/
def Block.aerAdv (b : Block) (f e hdr : Nat) : Block :=
  let j := b.actSet f
  let b1 := b.aerCor f 13
  if b.tableDisc f then b1 else (b1.setBits .aerUncSts f j (2 ^ e)).wr .aerHdr f j hdr

/-- What an error log entry holds (Table 12.5). -/
structure LogE where
  code : Nat
  detail : Nat := 0
  addr : Nat := 0
  len : Nat := 0
  aux : Nat := 0
  cause : Nat := 0
  win : Nat := 3
  queue : Option Nat := none
deriving DecidableEq, Repr

/-- Whether a code raises ERROR (Table 12.6). -/
def raisesError (code : Nat) : Bool :=
  !(code == 8 || code == 14 || code == 15 || code == 16 || code == 18 || code == 19 || code == 21)

/-- R289: write an entry to f's error log, or count OVERFLOW; raise ERROR or TRANSLATION as the code says. -/
def Block.logOnly (b : Block) (f : Nat) (e : LogE) : Block :=
  let prod := b.rd .errProd f
  let full := (prod + 65536 - b.rd .errCons f) % 65536 ≥ 64
  let s := prod % 64
  let b1 :=
    if full then b.incSat .errOverflow f
    else
      ((((((((((((b.wr .ehCode f s e.code).wr .ehDetail f s e.detail).wr .ehPort f s (b.portOf f)).wr .ehWin f s e.win).wr
        .ehQueue f s (e.queue.getD 0)).wr .ehQvalid f s (b2n e.queue.isSome)).wr .ehSeq f s prod).wr .ehCause f s e.cause).wr
        .ehAddr f s e.addr).wr .ehLen f s e.len).wr .ehAux f s e.aux).wr .ehTimeUs f s b.time).wr .errProd f 0 (prod + 1)
  if e.code == 19 then b1.raise f 14 else if raisesError e.code then b1.raise f 10 else b1

/-- R290: log an entry and report it through AER as Table 12.6 gives; `hdr` is the header of the TLP concerned. -/
def Block.logErr (b : Block) (f : Nat) (e : LogE) (hdr : Nat := 0) : Block :=
  let b1 := b.logOnly f e
  match e.code with
  | 1 => b1.aerUnc f 20 hdr
  | 2 => b1.aerUnc f 15 hdr
  | 3 => if e.detail == 1 then b1 else b1.aerUnc f 15 hdr
  | 4 | 5 | 6 | 11 => if e.detail == 0 then b1.aerUnc f 15 hdr else b1
  | 17 => b1.aerUnc f 14 hdr
  | 18 => b1.aerAdv f 16 hdr
  | 20 => b1.aerUnc f 28 hdr
  | 21 => if e.detail == 0 then b1.aerAdv f 12 hdr else b1
  | 23 => b1.aerCor f 14
  | 24 => b1.aerUnc f 22 hdr
  | _ => b1

/-! ### The event ring -/

/-- The event ring has no free slot (R158). -/
def Block.evFull (b : Block) (f : Nat) : Bool :=
  (b.rd .evtProd f + 2 ^ 32 - b.rd .evtCons f) % 2 ^ 32 ≥ 2 ^ b.rd .evtLog2 f

/-- R158: a record can be written now. -/
def Block.evReady (b : Block) (f : Nat) : Bool := b.flag .evtEn f && !b.evFull f && b.bme f

/-- The 64 bytes of a record (Table 5.11). -/
def recBytes (r : EvRec) (seq : Nat) : List Byte :=
  leBytes r.code 2 ++ leBytes r.origin 1 ++ leBytes r.payload.length 1 ++ leBytes seq 4 ++ leBytes r.info 8 ++
    r.payload ++ List.replicate (48 - r.payload.length) 0

/-- A plain Memory Write record. -/
def plainW (own : PwOwner) (f addr : Nat) (bytes : List Byte) : PWr :=
  ⟨own, f, addr, bytes.map (fun x => (x, true)), false, none, false, none, false, false, false⟩

/-- R156: write one record to the ring of f and its producer index to the mailbox. -/
def Block.evWrite (b : Block) (f : Nat) (r : EvRec) : Block :=
  let prod := b.rd .evtProd f
  let l := b.actLink f
  let at' := b.rd .evtBase f * 4096 + 64 * (prod % 2 ^ b.rd .evtLog2 f)
  let b1 := (b.post l (plainW (.event f) f at' (recBytes r prod))).wr .evtProd f 0 (prod + 1)
  b1.post l (plainW (.evProd f) f (b.rd .evtPidxAddr f * 4) (leBytes (b1.rd .evtProd f) 4))

/-- Return class 5 credits of f to the design (R53), never beyond the four that the last exchange granted (R52). -/
def Block.retRec (b : Block) (p f n : Nat) : Block :=
  let have' := unitOf 0 (b.x p).dRec f
  let k := min n (4 - have')
  if k == 0 then b
  else (b.xMod p (fun x => { x with dRec := (f, have' + k) :: dropKey f x.dRec })).xsend p (.credit 5 f k)

/-- R157, R158: write pending device records, then waiting design records, as long as the ring takes them. -/
def Block.evPumpN (b : Block) (f : Nat) : Nat → Block
  | 0 => b
  | n + 1 =>
    if b.evReady f then
      match (b.fn f).devs, (b.fn f).recs with
      | d :: ds, _ =>
        Block.evPumpN ((b.fnMod f (fun x => { x with devs := ds })).evWrite f ⟨d.code, 2, d.info, []⟩) f n
      | [], r :: rs =>
        Block.evPumpN (((b.fnMod f (fun x => { x with recs := rs })).evWrite f r).retRec (b.portOf f) f 1) f n
      | [], [] => b
    else if b.evFull f && b.flag .evtEn f && !((b.fn f).devs.isEmpty && (b.fn f).recs.isEmpty) then b.wr .evtEvtFull f 0 1
    else b

/-- Write what can be written of f's waiting records, and sample the EVENT source. -/
def Block.evPump (b : Block) (f : Nat) : Block :=
  (b.evPumpN f ((b.fn f).devs.length + (b.fn f).recs.length + 1)).sample f 9

/-- R157: a device event of f; a flag already pending takes the latest INFO. -/
def Block.devEvent (b : Block) (f code q info : Nat) : Block :=
  let e : DevEv := ⟨code, q, info⟩
  let same := fun (d : DevEv) => d.code == code && d.q == q
  (b.fnMod f (fun x => { x with devs := if x.devs.any same then mapIf same (fun _ => e) x.devs else x.devs ++ [e] })).evPump f

end Sys2Proof.Machine
end

