-- ==== Sys2Proof/Machine/WeaveProg.lean ====
section
/-! DEFINITION. Weave programs (chapter 06): the fields of a program, its validity (R164), its unit, the element mapping
(R160 to R162) and the transformation of a chunk with its poison (R172). -/
namespace Sys2Proof.Machine

/-- Byte i of a program. -/
def wvByte (pg i : Nat) : Nat := bits pg (8 * i) 8
/-- Mode, MSB_FIRST, ESIZE, STREAMS and NLOOPS (Table 6.1). -/
def wvMode (pg : Nat) : Nat := bits pg 8 4
/-- MSB_FIRST. -/
def wvMsb (pg : Nat) : Bool := bit pg 12
/-- ESIZE. -/
def wvEsize (pg : Nat) : Nat := wvByte pg 2
/-- S, the number of streams. -/
def wvS (pg : Nat) : Nat := wvByte pg 3
/-- L, the number of loops. -/
def wvL (pg : Nat) : Nat := wvByte pg 4
/-- COUNT_l. -/
def wvCount (pg l : Nat) : Nat := bits pg (64 + 64 * l) 32
/-- STRIDE_l. -/
def wvStride (pg l : Nat) : Nat := bits pg (96 + 64 * l) 32
/-- Ebits: bits of an element. -/
def wvEbits (pg : Nat) : Nat := if wvEsize pg < 128 then 8 * wvEsize pg else wvEsize pg - 128
/-- Π: product of the counts of loops 0 to L − 2. -/
def wvPi (pg : Nat) : Nat := (List.range (wvL pg - 1)).foldl (fun a l => a * wvCount pg l) 1
/-- U = S × lcm(8, Ebits × Π) / 8 bytes (R164). -/
def wvUnit (pg : Nat) : Nat := wvS pg * Nat.lcm 8 (wvEbits pg * wvPi pg) / 8
/-- R173: elements below one byte run at half rate. -/
def wvHalf (pg : Nat) : Bool := wvEsize pg ≥ 128

/-- Insertion sort of loops by stride. -/
def insLoop (x : Nat × Nat) : List (Nat × Nat) → List (Nat × Nat)
  | [] => [x]
  | h :: t => if x.2 ≤ h.2 then x :: h :: t else h :: insLoop x t

/-- R164 item 4: sorted strides start at 1 and each equals the product of the counts before it. -/
def loopChain : Nat → List (Nat × Nat) → Bool
  | _, [] => true
  | p, (c, s) :: t => s == p && loopChain (p * c) t

/-- R164 item 4, the loop rule. -/
def wvLoopsOk (pg : Nat) : Bool :=
  let l := wvL pg
  let ls := (List.range l).map (fun i => (wvCount pg i, wvStride pg i))
  1 ≤ l && l ≤ 4 && wvCount pg (l - 1) == 0 &&
    (List.range (l - 1)).all (fun i => 2 ≤ wvCount pg i && wvCount pg i ≤ 4096) &&
    (List.range (l - 1)).all (fun i => wvStride pg i < wvStride pg (l - 1)) &&
    loopChain 1 (ls.foldl (fun a x => insLoop x a) []) &&
    (List.range 4).all (fun i => i < l || (wvCount pg i == 0 && wvStride pg i == 0))

/-- Bytes 5 to 7 and 40 to 63, and the reserved bits of byte 1, which must be 0 (R163). -/
def wvReservedOk (pg : Nat) : Bool := bits pg 40 24 == 0 && bits pg 320 192 == 0 && bits pg 13 3 == 0

/-- R164, R168: RESULT of the check of a program: 0, or the first failing item, 1 FMT to 5 unit. Bytes that must be 0
count with the item of their field (log entry 20). -/
def wvCheck (pg : Nat) : Nat :=
  let m := wvMode pg
  let e := wvEsize pg
  let planes := m == 2 || m == 3
  if wvByte pg 0 != 1 then 1
  else if m > 4 || (wvMsb pg && !planes) || bits pg 13 3 != 0 then 2
  else if !((1 ≤ e && e ≤ 64) || e == 129 || e == 130 || e == 132) || wvS pg < 1 || wvS pg > 64 ||
      (planes && (e != 129 || wvS pg < 2)) ||
      (m == 4 && (e < 2 || e > 64 || wvS pg != 1 || wvL pg != 1 || wvStride pg 0 != 1)) then 3
  else if !wvLoopsOk pg || !wvReservedOk pg then 4
  else if wvUnit pg > 4096 then 5
  else 0

/-- R161: position within the stream of element index j of a stream. -/
def wvPos (pg j : Nat) : Nat :=
  let l := wvL pg
  ((List.range l).foldl (fun (acc : Nat × Nat) i =>
    let c := if i + 1 == l then acc.1 else acc.1 % wvCount pg i
    let rest := if i + 1 == l then 0 else acc.1 / wvCount pg i
    (rest, acc.2 + c * wvStride pg i)) (j, 0)).2

/-- R161: the scattered element of packed element i, with M elements per stream. -/
def wvPlace (pg m i : Nat) : Nat :=
  let s := i % wvS pg
  let p := if wvMsb pg && (wvMode pg == 2 || wvMode pg == 3) then wvS pg - 1 - s else s
  p * m + wvPos pg (i / wvS pg)

/-- R162: the source bit of destination bit k, for data of `len` bytes. -/
def wvSrcBit (pg len k : Nat) : Nat :=
  let e := wvEbits pg
  let n := 8 * len / e
  let m := n / wvS pg
  if wvMode pg == 4 then
    let eb := wvEsize pg
    let by' := k / 8
    8 * (by' / eb * eb + (eb - 1 - by' % eb)) + k % 8
  else if wvMode pg == 1 || wvMode pg == 3 then wvPlace pg m (k / e) * e + k % e
  else
    -- the packed element that goes to scattered element k / e
    match (List.range n).find? (fun i => wvPlace pg m i == k / e) with
    | some i => i * e + k % e
    | none => k

/-- R162, R172: transform the data of a chunk; a destination byte is poisoned when any of its bits came from a
poisoned source byte. -/
def wvApply (pg : Nat) (src : List (Byte × Bool)) : List (Byte × Bool) :=
  let len := src.length
  (List.range len).map (fun o =>
    let bs := (List.range 8).map (fun t => wvSrcBit pg len (8 * o + t))
    let val := (List.range 8).foldl (fun a t =>
      let sb := bs[t]?.getD 0
      a + (if bit ((src[sb / 8]?.getD (0, false)).1.toNat) (sb % 8) then 2 ^ t else 0)) 0
    (BitVec.ofNat 8 val, bs.any (fun sb => (src[sb / 8]?.getD (0, false)).2)))

end Sys2Proof.Machine
end

