-- ==== Sys2Proof/Machine/Operands.lean ====
section
/-! DEFINITION. Operand forms: what a host address names (BARs, R86 to R97; windows, R101), which register lies at an
offset of the Function Control Page or of the internal space, and the value of a register put together from its
fields (R7 to R10). -/
namespace Sys2Proof.Machine

/-! ### Fields computed from other state -/

/-- The port serves functions on more than one link (R77). -/
def Block.sharedPort (b : Block) (p : Nat) : Bool :=
  match b.fnRecs.filter (fun r => r.port == p) with
  | [] => false
  | r :: rs => rs.any (fun q => q.link != r.link)

/-- The image gives outbound window m of f's port to f (R126). -/
def Block.ownsOb (b : Block) (f m : Nat) : Option ObWin :=
  match b.img with
  | some im => (im.ob? (b.portOf f) m).filter (fun w => w.owner == f)
  | none => none

/-- Sub-window s of window A or B of f; none when the window is absent (R104). -/
def Block.subWin (b : Block) (f : Nat) (winB : Bool) (s : Nat) : Option SubWin :=
  match b.img, b.fnRec? f with
  | some im, some r => if (if winB then r.bar4 else r.bar2) == 0 then none else im.sub? f winB s
  | _, _ => none

/-- R30, R131: spare i of a spare count. -/
def spareShuttle (i : Nat) : Nat := 17 * (i % 8) + 16 - i / 8

/-- R153, R171: bytes read beyond the committed point and held in staging; a Weave chunk counts whole. -/
def Block.stagedBytes (b : Block) (f n : Nat) : Nat :=
  let d := b.qu (32 * f + n)
  let weave := fun (c : Chunk) => d.descs.any (fun r => r.d.ix == c.dix && r.prog.isSome)
  d.chunks.foldl (fun a c =>
    if c.st == .arrived || c.st == .staged then a + c.len
    else if c.st == .reading && !weave c then c.parts.foldl (fun a x => a + x.2.length) a
    else a) 0

/-- R186: delivery form in force, as SPUR_STATUS.MODE. -/
def Block.delivery (b : Block) (f : Nat) : Nat :=
  let j := b.actSet f
  if b.flag .cfgMsixEn f j then 1
  else if b.flag .cfgMsiEn f j && !b.tableDisc f then 2
  else if b.mode f 5 && optD (b.fnRec? f) false (fun r => r.intPin != 0) then 3
  else 0

/-- R329: times of the thermal shutdowns of the last hour. -/
def Block.offsInHour (b : Block) : List Nat := b.pow.offs.filter (fun t => b.pow.epoch + b.time < t + 3600000000)

/-- Programs that slots or descriptors hold: the used entries of the pool (R166). -/
def Block.poolUsed (b : Block) : List Nat :=
  let slots := b.fnRecs.flatMap (fun r => (List.range 8).map (fun w => b.rd .wvSlotProgram r.f w))
  let imgs := optD b.img [] (fun im => im.weave.map (·.program))
  let bound := b.queues.flatMap (fun e => (b.qu e.1).descs.filterMap (·.prog))
  (((slots ++ imgs ++ bound).filter (· != 0))).dedup

/-- R5: the link number that a stall-group form uses. -/
def linkUsed (form k : Nat) : Bool :=
  match form with
  | 0 => k == 0
  | 1 => k == 0 || k == 2
  | 2 => k == 0 || k == 2 || k == 3
  | _ => true

/-- The number refers to a link of its group's form (R5), once the group's settings are known. -/
def Block.linkPresent (b : Block) (l : Nat) : Bool :=
  (b.img.isSome || !b.sg.1.isEmpty) && linkUsed (b.gr (l / 4)).form (l % 4)

/-- The slot settings of a port. -/
def Block.slotRec (b : Block) (p : Nat) : Option PortRec := optD b.img none (fun im => im.port? p)

/-- The function of the port that controls its slot (R330). -/
def Block.slotOwner (b : Block) (p : Nat) : Option Nat := optD (b.slotRec p) none (·.slotOwner)

/-- Value of a field whose reset entry is not a stored one: computed from the state it shows. -/
def Block.der (b : Block) (k : RKey) : Nat :=
  let f := k.i
  let r? := b.fnRec? f
  let p := b.portOf f
  let sw (g : SubWin → Nat) := optD (b.subWin f (k.j ≥ 8) (k.j % 8)) 0 g
  let ob (g : ObWin → Nat) := optD (b.ownsOb f k.j) 0 g
  match k.fld with
  | .xlbPxOut => b.pxOut k.i
  | .xlbLocalOut => b.localOut k.i
  | .verMinor | .verMajor => 1
  | .verStepping => 16
  | .verGrade => b2n b.fuses.clx
  | .identFunc => f
  | .identVf => optD r? 0 (fun r => b2n r.vf)
  | .identPrivileged => optD r? 0 (fun r => b2n r.privileged)
  | .identPfIndex => optD r? 0 (fun r => optD (b.pfRec? r) 0 (·.pfIndex))
  | .identDisc => b2n (b.tableDisc f)
  | .identAriFn => optD r? 0 (fun r => b.ariOf r)
  | .bindLink => optD r? 0 (·.link)
  | .bindStandbyLink => optD r? 0 (fun r => r.standby.getD 255)
  | .bindPort => p
  | .bindShared => b2n (b.sharedPort p)
  | .modesModes => optD r? 0 (·.modes)
  | .modesLoopback => b2n (b.looped k.i)
  | .didIdent => if b.active k.i then b.rd .xlbIdent k.i else 0
  | .drevIdrev => b.rd .xlbIdrev k.i
  | .drevXlbMinor => b.rd .xlbVersion k.i
  | .drevWidth => b.rd .xlbWidth k.i
  | .drevHalfDuplex => b.rd .xlbHalfDuplex k.i
  | .fstPortActive => b.rd .xlbActive k.i
  | .fstFenced | .ffenceFenced => b.rd .xlbFenced k.i
  | .swOffset => sw (fun w => w.off / 4096)
  | .swSize => sw (fun w => w.size / 4096)
  | .swXlbBase => sw (fun w => w.base / 4096)
  | .swaEn => sw (fun w => bits w.attr 0 1)
  | .swaWclass => sw (fun w => bits w.attr 1 3)
  | .swaOrder => sw (fun w => bits w.attr 4 2)
  | .swaSizes => sw (fun w => bits w.attr 6 8)
  | .swaAtomics => sw (fun w => bits w.attr 14 1)
  | .swaWmode => sw (fun w => bits w.attr 15 1)
  | .swaPrefetch => sw (fun w => bits w.attr 16 2)
  | .swaSep => sw (fun w => bits w.attr 18 2)
  | .obLocalBase => ob (fun w => w.base / 4096)
  | .obSize => ob (fun w => w.size / 4096)
  | .obOwned => ob (fun _ => 1)
  | .qAvailable => optD b.img 0 (fun im => b2n (im.queue? f k.j).isSome)
  | .qShuttle => b.shuttleOf f k.j
  | .qStaged => b.stagedBytes f k.j
  | .evtFull => b2n (b.evFull f && b.flag .evtEn f)
  | .wvLoaded => bitMap 8 (fun w => b.rd .wvSlotProgram f w != 0)
  | .wvFree => 256 - b.poolUsed.length
  | .wvFmtMax => 1
  | .wvuUnit => if b.rd .wvSlotProgram f k.j == 0 then 0 else wvUnit (b.rd .wvSlotProgram f k.j)
  | .wvuHalfRate => if b.rd .wvSlotProgram f k.j == 0 then 0 else b2n (wvHalf (b.rd .wvSlotProgram f k.j))
  | .spMode => b.delivery f
  | .spSelected => ((List.range 15).find? (fun s => b.rd .srcState f s == 2)).getD 0
  | .spSelValid => b2n ((List.range 15).any (fun s => b.rd .srcState f s == 2))
  | .spInternal => bitMap 7 (fun s => b.levelCond f (s + 8))
  | .spPend => bitMap 15 (fun s => b.rd .srcState f s == 1 || b.rd .srcState f s == 2)
  | .spInservice => bitMap 15 (fun s => b.rd .srcState f s == 3)
  | .srcKind => b2n (k.j == 10 || k.j == 11 || k.j == 13 || k.j == 14)
  | .lnkPresent => b2n (b.linkPresent k.i)
  | .psPresent | .slotPresent => b2n (b.pin k.i).prsnt
  | .psPwrgd | .slotPwrgd => b2n (b.pin k.i).pwrgd
  | .slotCapOwner => b2n (b.slotOwner p == some f)
  | .slotCapAutoOn => optD (b.slotRec p) 0 (fun s => b2n s.autoOn)
  | .slotCapAutoOff => optD (b.slotRec p) 1 (fun s => b2n s.autoOff)
  | .slotCapPwrgdMs => optD (b.slotRec p) 100 (·.pwrgdMs)
  | .slotCapPrstDelay => optD (b.slotRec p) 10 (·.prstDelay)
  | .bootFmtMin => optD b.img 0 (·.fmtMin)
  | .strapImg => b.straps.img.toNat
  | .strapHaltId | .haltId => b.straps.haltId.toNat
  | .strapSafe => b2n b.straps.safe
  | .strapRefsel => b2n b.straps.refsel
  | .strapVinclass => b2n b.straps.vinclass
  | .strapTest => b2n b.straps.test
  | .gimgSvn => optD b.img 0 (·.svn)
  | .gimgFwSvn => optD b.img 0 (fun im => im.fw.svn)
  | .gimgBuildId => optD b.img 0 (·.buildId)
  | .svnImageCnt => b.fuses.imgSvn
  | .svnFwCnt => b.fuses.fwSvn
  | .lmsTreesUsed => b.fuses.trees
  | .gstGated => b2n (b.gated.any (fun u => match u with | .group g => g.val == k.i | _ => false))
  | .pstThermOff => min 15 (b.offsInHour).length
  | _ => 0

/-- The value a field reads as: stored, or computed. -/
def Block.val (b : Block) (f : Fld) (i : Nat) (j : Nat := 0) : Nat :=
  match (Fld.attr f).rst with
  | .der => b.der (key f i j)
  | _ => b.rd f i j

/-! ### Registers -/

/-- Where a dword of a register lies: register, first and second sub-index, number of the dword. -/
structure RegRef where
  reg : Reg
  i : Nat
  j : Nat
  k : Nat
deriving DecidableEq, Repr

/-- The unit number of a piece: a field of the bound port, read through a function's page, is the port's. -/
def Block.pieceIx (b : Block) (fcp : Bool) (r : RegRef) (p : Piece) : Nat :=
  if fcp && (Fld.attr p.fld).unit == .port then b.portOf r.i else r.i

/-- The sub-index of a piece. -/
def pieceJ (r : RegRef) (p : Piece) : Nat := if p.t < 8 then 8 * r.j + p.t else r.j

/-- The value of a whole register from its fields; WO fields read 0 (R7). -/
def Block.regVal (b : Block) (fcp : Bool) (r : RegRef) : Nat :=
  (Reg.pieces r.reg).foldl (fun a p =>
    if (Fld.attr p.fld).acc == .wo then a
    else a + b.val p.fld (b.pieceIx fcp r p) (pieceJ r p) % 2 ^ (Fld.attr p.fld).width * 2 ^ p.lo) 0

/-- Bits of a register that a read leaves unspecified (RsvdP, R7): those of no field, in a register that has a field
software writes. RsvdZ bits read 0. -/
def Reg.rsvdP : Reg → Nat
  | .tthXlbCtrl => 0xFF0000F0
  | .tthXlbTimeout => 0xFFF00000
  | .fcpPgoPage => 0xFFFF000000000FFE
  | .fcpPgoCtrl => 0xFFFFFFFE
  | .fcpPrefetchHold => 0xFFFFC000
  | .fcpPrefetchCtrl => 0xFFFFFFFC
  | .fcpObHost => 0xFFF
  | .fcpObCtrl => 0xF00000C0
  | .shtQringBase => 0xFFF
  | .shtQpidxAddr | .shtQhidxAddr | .fcpEvtPidxAddr => 3
  | .shtQcfg => 0xC0C0
  | .shtQcoalTime => 0xFFFFF800
  | .fcpEvtBase => 0xFFF
  | .fcpEvtCtrl => 0xFFFFFCC0
  | .spurSrcCfg => 0xFFFFFFFC
  | .spurSrcTgtLo | .spurSrcTgtHi => 0x40404040
  | .fcpReinsCtrl => 0xFFFEFC00
  | .stlFlrCfg | .shtFetchCfg => 0xFFFE0000
  | .fcpErrCons => 0xFFFF0000
  | .tthEqCfg => 0xFFF00000
  | .grmBootCtrl => 0xFFFFFFF8
  | .haltCtrl => 0xFFFFFFFE
  | .stlEqCfg => 0xFFE00000
  | .stlGrpCfg | .tthLinkCfg => 0xFFFF0000
  | .stlPairCfg => 0xFFFFFF00
  | .tthPortCtrl => 0xFFFFF800
  | .tthDozeCfg => 0xFE000000
  | .pwrCtrl => 0xFFFE00E0
  | .pwrBrownout => 0xF0000000
  | .pwrGait => 0xFFFE0008
  | .pwrTherm => 0xF000
  | .grmSvcCfg => 0xFFF80000
  | _ => 0

/-- One dword of a register as read: its fields, its RsvdP bits free. RC fields are not cleared here. -/
def Block.regDword (b : Block) (fcp : Bool) (r : RegRef) : Nat :=
  let m := Reg.rsvdP r.reg
  (b.regVal fcp r ||| (Config.rsvdBits b.freeCtr &&& m)) / 2 ^ (32 * r.k) % 2 ^ 32

/-- R97: a read of a register clears its RC fields; the free value of its reserved bits is used up. -/
def Block.regReadEff (b : Block) (fcp : Bool) (r : RegRef) : Block :=
  let b1 := if Reg.rsvdP r.reg == 0 then b else b.useFree
  b1.each (Reg.pieces r.reg) (fun b p =>
    if (Fld.attr p.fld).acc == .rc then b.wr p.fld (b.pieceIx fcp r p) (pieceJ r p) 0 else b)

/-- R7, R9: write a field as its access type lays down, an encoding `ok` refuses leaving it as it was. -/
def Block.fldWrite (b : Block) (f : Fld) (i j v : Nat) (ok : Bool := true) : Block :=
  match (Fld.attr f).acc with
  | .rw => if encOk f v && ok then b.wr f i j v else b
  | .w1c => b.clrBits f i j v
  | _ => b

/-- Write one dword of a register: the RW and W1C fields that the dword holds take their bits, the rest of a field
that spans dwords stays as it was. -/
def Block.regWrite (b : Block) (fcp : Bool) (r : RegRef) (v : Nat) (ok : Fld → Nat → Bool := fun _ _ => true) : Block :=
  b.each (Reg.pieces r.reg) (fun b p =>
    let w := (Fld.attr p.fld).width
    let i := b.pieceIx fcp r p
    let j := pieceJ r p
    if p.lo + w ≤ 32 * r.k || 32 * (r.k + 1) ≤ p.lo then b
    else
      let old := if (Fld.attr p.fld).acc == .w1c then 0 else b.rd p.fld i j * 2 ^ p.lo
      let low := old % 2 ^ (32 * r.k)
      let high := old / 2 ^ (32 * (r.k + 1)) * 2 ^ (32 * (r.k + 1))
      let nv := (high + v % 2 ^ 32 * 2 ^ (32 * r.k) + low) / 2 ^ p.lo % 2 ^ w
      b.fldWrite p.fld i j nv (ok p.fld nv))

/-- A register of consecutive dwords from `base`. -/
def spanReg (reg : Reg) (i j base n off : Nat) : Option RegRef :=
  if base ≤ off && off < base + 4 * n then some ⟨reg, i, j, (off - base) / 4⟩ else none

/-- First of several candidates. -/
def firstSome {α : Type} : List (Option α) → Option α
  | [] => none
  | some a :: _ => some a
  | none :: t => firstSome t

/-- Registers of one queue context by offset (Table 5.1). -/
def queueReg (f n off : Nat) : Option RegRef :=
  firstSome ([spanReg .shtQringBase f n 0 2 off, spanReg .shtQpidxAddr f n 8 2 off, spanReg .shtQhidxAddr f n 16 2 off] ++
    [(Reg.shtQcfg, 24), (.shtQcoalTime, 28), (.shtQcmd, 32), (.shtQstatus, 36), (.shtQhead, 40), (.shtQprod, 44),
     (.shtQcurDesc, 48), (.shtQcurFrag, 52), (.shtQcurOffset, 56), (.shtQstaged, 60), (.shtQhalt, 64),
     (.shtQhaltDesc, 68), (.shtQhaltFrag, 72), (.shtQcounts, 76)].map (fun x => spanReg x.1 f n x.2 1 off))

/-- R96, R104, R183, R189, R289: the register dword at a dword-aligned offset of f's Function Control Page; `none` for a
reserved offset. Doorbells, the MSI-X table and the PBA are not among them. -/
def fcpReg (f off : Nat) : Option RegRef :=
  let one := fun (l : List (Reg × Nat)) => firstSome (l.map (fun x => spanReg x.1 f 0 x.2 1 off))
  if off < 0x1000 then
    one [(.fcpVersion, 0), (.fcpIdent, 4), (.fcpBinding, 8), (.fcpModes, 12), (.fcpDesignId, 16), (.fcpDesignRev, 20)]
  else if off < 0x1100 then
    one [(.fcpStatus, 0x1000), (.fcpFence, 0x1004), (.fcpErrProd, 0x1010), (.fcpErrCons, 0x1014),
      (.fcpErrCounts, 0x1018), (.fcpRecovery, 0x101C)]
  else if off < 0x1900 then
    let e := (off - 0x1100) / 32
    firstSome ([(Reg.fcpErrHdr, 0, 1), (.fcpErrInfo, 4, 1), (.fcpErrAddr, 8, 2), (.fcpErrLen, 16, 1), (.fcpErrAux, 20, 1),
      (.fcpErrTime, 24, 1)].map (fun x => spanReg x.1 f e x.2.1 x.2.2 ((off - 0x1100) % 32)))
  else if off < 0x2000 then none
  else if off < 0x2100 then
    one [(.spurStatus, 0x2000), (.spurLevel, 0x2004), (.spurPend, 0x2008), (.spurMask, 0x200C), (.spurInservice, 0x2010),
      (.spurMaskSet, 0x2014), (.spurMaskClr, 0x2018), (.spurPendSet, 0x201C), (.spurPendClr, 0x2020), (.spurEoi, 0x2024),
      (.spurQpend, 0x2028), (.spurCounts, 0x202C)]
  else if off < 0x21F0 then
    firstSome ([(Reg.spurSrcCfg, 0), (.spurSrcTgtLo, 4), (.spurSrcTgtHi, 8), (.spurSrcState, 12)].map
      (fun x => spanReg x.1 f ((off - 0x2100) / 16) x.2 1 ((off - 0x2100) % 16)))
  else if off < 0x3000 then none
  else if off < 0x3800 then
    one [(.fcpReinsIn, 0x3000), (.fcpReinsInChg, 0x3004), (.fcpReinsOut, 0x3008), (.fcpReinsOutSent, 0x300C),
      (.fcpReinsCtrl, 0x3010)]
  else if off < 0x4000 then one [(.fcpSlotCap, 0x3800), (.fcpSlotCtrl, 0x3804), (.fcpSlotStatus, 0x3808)]
  else if off < 0x4200 then
    let j := (off - 0x4000) / 256 * 8 + (off - 0x4000) % 256 / 32
    firstSome ([(Reg.fcpSwOffset, 0, 2), (.fcpSwSize, 8, 2), (.fcpSwXlbBase, 16, 2), (.fcpSwAttr, 24, 1)].map
      (fun x => spanReg x.1 f j x.2.1 x.2.2 (off % 32)))
  else if off < 0x5000 then
    one [(.fcpPrefetchHold, 0x4200), (.fcpPrefetchCtrl, 0x4204), (.fcpPrefetchCounts, 0x4208)]
  else if off < 0x6000 then
    firstSome ([(Reg.fcpPgoPage, 0, 2), (.fcpPgoAttr, 8, 1), (.fcpPgoCtrl, 12, 1)].map
      (fun x => spanReg x.1 f ((off - 0x5000) / 16) x.2.1 x.2.2 (off % 16)))
  else if off < 0x6800 then
    firstSome ([(Reg.fcpObLocal, 0, 2), (.fcpObSize, 8, 2), (.fcpObHost, 16, 2), (.fcpObCtrl, 24, 1)].map
      (fun x => spanReg x.1 f ((off - 0x6000) / 32) x.2.1 x.2.2 (off % 32)))
  else if off < 0x8000 then none
  else if off < 0xC000 then queueReg f ((off - 0x8000) / 512) (off % 512)
  else if off < 0xD000 then
    firstSome ([(Reg.fcpEvtBase, 0, 2), (.fcpEvtPidxAddr, 8, 2), (.fcpEvtCtrl, 16, 1), (.fcpEvtProd, 20, 1),
      (.fcpEvtCons, 24, 1)].map (fun x => spanReg x.1 f 0 x.2.1 x.2.2 (off - 0xC000)))
  else if off < 0xE000 then
    let o := off - 0xD000
    if o < 0x60 then firstSome [spanReg .weaveStage f 0 0 16 o, spanReg .weaveCmd f 0 0x40 1 o, spanReg .weaveStatus f 0 0x44 1 o]
    else if o < 0x80 then some ⟨.weaveUnit, f, (o - 0x60) / 4, 0⟩
    else if 0x100 ≤ o && o < 0x300 then some ⟨.weaveProg, f, (o - 0x100) / 64, (o - 0x100) % 64 / 4⟩
    else none
  else none

/-- R33, R74, R207, R241, R274, R288, R296, R322, R354, R377: the register dword at an address of the internal space. -/
def internalReg (a : Nat) : Option RegRef :=
  let die := a / 2 ^ 32
  let off := a % 2 ^ 32
  let one := fun (l : List (Reg × Nat)) => firstSome (l.map (fun x => spanReg x.1 0 0 x.2 1 off))
  if off % 4 != 0 then none
  else if die < 8 then
    if off == 0x10000 then some ⟨.stlFlrCfg, die, 0, 0⟩
    else if off == 0x10100 then some ⟨.stlEqCfg, die, 0, 0⟩
    else if 0x20000 ≤ off && off < 0x20070 then
      firstSome [spanReg .stlGrpCfg (7 * die + (off - 0x20000) / 16) 0 0 1 (off % 16),
        spanReg .stlGrpStatus (7 * die + (off - 0x20000) / 16) 0 4 1 (off % 16)]
    else if 0x30000 ≤ off && off < 0x30380 then
      let l := 28 * die + (off - 0x30000) / 32
      firstSome ([(Reg.stlLnkStatus, 0), (.stlLnkLanes, 4), (.stlLnkEq, 8), (.stlLnkCounts0, 12), (.stlLnkCounts1, 16)].map
        (fun x => spanReg x.1 l 0 x.2 1 (off % 32)))
    else if 0x40000 ≤ off && off < 0x401C0 then some ⟨.stlLaneFom, 112 * die + (off - 0x40000) / 4, 0, 0⟩
    else if off == 0x50000 then some ⟨.stlPairCfg, die, 0, 0⟩
    else none
  else if die < 12 then
    let t := die - 8
    if off == 0x10100 then some ⟨.tthEqCfg, t, 0, 0⟩
    else if 0x20000 ≤ off && off < 0x21000 then
      let p := 16 * t + (off - 0x20000) / 256
      firstSome ([(Reg.tthXlbCtrl, 0), (.tthXlbTimeout, 4), (.tthXlbFencecfg, 8), (.tthXlbStatus, 12),
        (.tthXlbOutstanding, 16), (.tthXlbCounts, 20)].map (fun x => spanReg x.1 p 0 x.2 1 (off % 256)))
    else if 0x30000 ≤ off && off < 0x30400 then
      let p := 16 * t + (off - 0x30000) / 64
      firstSome ([(Reg.tthPortCtrl, 0), (.tthPortStatus, 4), (.tthPortLanes, 8), (.tthLinkCfg, 12), (.tthDozeCfg, 16),
        (.tthPortCounts0, 20), (.tthPortCounts1, 24)].map (fun x => spanReg x.1 p 0 x.2 1 (off % 64)))
    else if 0x40000 ≤ off && off < 0x40200 then some ⟨.tthLaneFom, 128 * t + (off - 0x40000) / 4, 0, 0⟩
    else none
  else if die < 14 then if off == 0x10000 then some ⟨.shtFetchCfg, 0, 0, 0⟩ else none
  else if die == 15 then
    if 0x10000 ≤ off && off < 0x10060 then
      firstSome ([(Reg.grmStumbleThr, 0), (.grmStumbleWin, 4), (.grmStumbleLame, 8)].map
        (fun x => spanReg x.1 0 ((off - 0x10000) / 16) x.2 1 (off % 16)))
    else one [(.grmBootStatus, 0x20000), (.grmStraps, 0x20004), (.grmBootCtrl, 0x20008), (.grmImage, 0x2000C),
      (.grmBuild, 0x20010), (.grmSvn, 0x20014), (.grmLms, 0x20018), (.grmFlash, 0x2001C), (.grmCoreStatus, 0x30000),
      (.grmLoad, 0x30004), (.grmSvcCfg, 0x30008), (.grmSvcCounts, 0x3000C), (.haltStatus, 0x40000), (.haltCtrl, 0x40004),
      (.haltCounts, 0x40008)]
  else if die == 16 then
    one [(.pwrCtrl, 0), (.pwrBrownout, 4), (.pwrGait, 8), (.pwrStatus, 12), (.pwrTelem, 16), (.pwrTherm, 20), (.pwrCounts, 24)]
  else none

/-! ### Host addresses -/

/-- What a memory request names (R89): a BAR of a function and the offset in it. -/
structure BarHit where
  f : Nat
  bar : BarIx
  off : Nat
deriving DecidableEq, Repr

/-- Size of ROM_LOG2 as decoded: in Table discovery 0 is taken as 16 (R90). -/
def romLog2 (r : FnRec) : Nat := if r.rom == 0 && r.table then 16 else r.rom

/-- Whether an address lies in a BAR of size 2^n at base v. -/
def inBar (a v n : Nat) : Bool := v / 2 ^ n == a / 2 ^ n

/-- R86, R88, R90, R202, R323: what function record r, with configuration set j, decodes address a to. -/
def Block.barHit (b : Block) (r : FnRec) (j a : Nat) : Option BarHit :=
  if b.d3hot r.f || (b.fn r.f).flr.isSome then none
  else if !r.vf then
    if !b.flag .cfgMse r.f j then none
    else if inBar a (b.rd .cfgBar0 r.f j) 21 then some ⟨r.f, .bar0, a % 2 ^ 21⟩
    else if r.bar2 != 0 && inBar a (b.rd .cfgBar2 r.f j) r.bar2 then some ⟨r.f, .bar2, a % 2 ^ r.bar2⟩
    else if r.bar4 != 0 && inBar a (b.rd .cfgBar4 r.f j) r.bar4 then some ⟨r.f, .bar4, a % 2 ^ r.bar4⟩
    else if romLog2 r != 0 && b.flag .cfgRomEn r.f j && inBar a (b.rd .cfgRomBar r.f j) (romLog2 r) then
      some ⟨r.f, .rom, a % 2 ^ romLog2 r⟩
    else none
  else
    let pf := r.parent
    let num := b.vfNumOf r
    if !(b.flag .vfEnable pf j && b.flag .vfMse pf j && num ≤ b.rd .vfNum pf j) then none
    else
      let pg := 4096 * b.rd .vfSysPage pf j
      let sized := fun (n : Nat) => max (2 ^ n) pg
      let hit := fun (fld : Fld) (n : Nat) =>
        let base := b.rd fld pf j + (num - 1) * sized n
        base ≤ a && a < base + sized n
      let offs := fun (fld : Fld) (n : Nat) => a - (b.rd fld pf j + (num - 1) * sized n)
      if hit .vfBar0 21 then some ⟨r.f, .bar0, offs .vfBar0 21⟩
      else if r.bar2 != 0 && hit .vfBar2 r.bar2 then some ⟨r.f, .bar2, offs .vfBar2 r.bar2⟩
      else if r.bar4 != 0 && hit .vfBar4 r.bar4 then some ⟨r.f, .bar4, offs .vfBar4 r.bar4⟩
      else none

/-- R89, R302: the BAR that a memory request on link l names; on a link that is not a function's active link nothing
of it is claimed. -/
def Block.decodeBar (b : Block) (l a : Nat) : Option BarHit :=
  firstSome ((b.linkFns l).map (fun r => if b.actLink r.f == l then b.barHit r (setOn r l) a else none))

/-! ### Windows (R101) -/

/-- Fields of an attribute word (Table 4.3). -/
structure WinAttr where
  en : Bool
  wclass : Nat
  order : Nat
  sizes : Nat
  atomics : Bool
  wmode : Bool
  prefetch : Nat
  sep : Nat
deriving DecidableEq, Repr

/-- The fields of an attribute word given as a number. -/
def attrOf (a : Nat) : WinAttr :=
  ⟨bit a 0, bits a 1 3, bits a 4 2, bits a 6 8, bit a 14, bit a 15, bits a 16 2, bits a 18 2⟩

/-- R101 step 1: the lowest override in force for a page of a window. -/
def Block.overrideAt (b : Block) (f : Nat) (winB : Bool) (page : Nat) : Option Nat :=
  (List.range 256).find? (fun n =>
    b.flag .pgoValid f n && b.rd .pgoWin f n == b2n winB && b.rd .pgoPage f n == page)

/-- What a window offset resolves to (R101): sub-window, effective attributes, linear XLB address. -/
structure WinHit where
  sub : Nat
  attr : WinAttr
  l0 : Nat
deriving DecidableEq, Repr

/-- R101: resolve offset o of window A or B of f. -/
def Block.resolve (b : Block) (f : Nat) (winB : Bool) (o : Nat) : Option WinHit :=
  let hitSub := fun (s : Nat) =>
    match b.subWin f winB s with
    | some w => if bit w.attr 0 && w.off ≤ o && o < w.off + w.size then some (s, w) else none
    | none => none
  match firstSome ((List.range 8).map hitSub) with
  | none => none
  | some (s, w) =>
    let at' := match b.overrideAt f winB (o / 4096) with
      | some n => ⟨b.flag .pgoaEn f n, b.rd .pgoaWclass f n, b.rd .pgoaOrder f n, b.rd .pgoaSizes f n,
          b.flag .pgoaAtomics f n, b.flag .pgoaWmode f n, b.rd .pgoaPrefetch f n, b.rd .pgoaSep f n⟩
      | none => attrOf w.attr
    if at'.en then some ⟨s, at', w.base + (o - w.off)⟩ else none

/-- Window offset of an XLB address through sub-window s (for log entries). -/
def Block.winOff (b : Block) (f : Nat) (winB : Bool) (s a : Nat) : Nat :=
  optD (b.subWin f winB s) a (fun w => w.off + (a - w.base))

end Sys2Proof.Machine
end

