-- ==== Sys2Proof/Machine/QueueBase.lean ====
section
/-! DEFINITION. Operations on a queue that other units call: the head write-back (R146), the halt (R151), the arrival of
read data and of write answers (R143 to R145), and the answers of host window requests (R110, R123). -/
namespace Sys2Proof.Machine

/-- Module queue number (R130). -/
def qix (f n : Nat) : Nat := 32 * f + n

/-- R146: write HEAD to the head mailbox when it differs from the value last written; with Bus Master Enable at 0 the
write-back waits. -/
def Block.headWb (b : Block) (f n : Nat) : Block :=
  let q := qix f n
  let h := b.rd .qHead f n
  if h == b.rd .qLastWb f n then b.quMod q (fun d => { d with wbWait := false })
  else if b.bme f then
    let b1 := b.post (b.actLink f) (plainW (.head q) f (b.rd .qHidxAddr f n * 4) (leBytes h 4))
    (b1.wr .qLastWb f n h).quMod q (fun d => { d with wbWait := false, wbOut := d.wbOut + 1, coalN := 0, coalT := none })
  else b.quMod q (fun d => { d with wbWait := true })

/-- Reads of a chunk of module queue q that have not been sent. -/
def Block.unsentReads (b : Block) (q cid : Nat) : Nat :=
  ((b.fn (q / 32)).np.filter (fun t => t.st == .waiting &&
    match t.own with | .qData k c _ => k == q && c == cid | _ => false)).length

/-- R150, R151: drop the reads of the queue that have not been sent. -/
def Block.qDropWaiting (b : Block) (f n : Nat) : Block :=
  let q := qix f n
  (b.dropNp f (fun t => t.st == .waiting && ownQueue t.own == some q)).quMod q (fun d => { d with
    chunks := d.chunks.map (fun c => { c with rdOut := c.rdOut - b.unsentReads q c.cid }) })

/-- R151: halt queue n of f with a cause of Table 5.7. -/
def Block.haltQ (b : Block) (f n cause detail desc frag : Nat) : Block :=
  let st := b.rd .qState f n
  if st == 0 || st == 6 then b
  else
    let b1 := (((((b.wr .qState f n 6).wr .qHaltCause f n cause).wr .qHaltDetail f n detail).wr .qHaltDesc f n desc).wr
      .qHaltFrag f n frag).wr .qArmPending f n 0
    let keep := fun (c : Chunk) => (c.st == .reading && c.rdOut > 0) || c.st == .writing
    let bare := fun (c : Chunk) => { c with data := [], parts := [] }
    let b2 := (b1.qDropWaiting f n).quMod (qix f n) (fun d => { d with
      descs := [], descIn := [], fragIn := [], idxIn := none, hint := none, chunks := (d.chunks.filter keep).map bare })
    ((b2.headWb f n).sample f 8).devEvent f 1 n (n + cause * 2 ^ 8 + detail * 2 ^ 16 + desc * 2 ^ 32)

/-- Insert a part by its offset. -/
def insertPart (o : Nat) (x : List (Byte × Bool)) : List (Nat × List (Byte × Bool)) → List (Nat × List (Byte × Bool))
  | [] => [(o, x)]
  | h :: t => if o < h.1 then (o, x) :: h :: t else h :: insertPart o x t

/-- The queue takes no more data: it is halted, disabled or in reset (R150, R151). -/
def Block.qDead (b : Block) (f n : Nat) : Bool := b.rd .qState f n == 0 || b.rd .qState f n == 6

/-- Read data of a chunk arrives: the part at `off` of its source data; when no read of it is left, the chunk has
arrived. A halted or reset queue discards it. -/
def Block.qPart (b : Block) (q cid off : Nat) (data : List (Byte × Bool)) : Block :=
  let f := q / 32
  let n := q % 32
  let dead := b.qDead f n
  let g := fun (c : Chunk) =>
    let c1 := { c with parts := if dead then [] else insertPart off data c.parts, rdOut := c.rdOut - 1 }
    if c1.rdOut == 0 then { c1 with st := if dead then .done else .arrived } else c1
  let keep := fun (c : Chunk) => !(dead && c.st == .done)
  b.quMod q (fun d => { d with
    chunks := (mapIf (fun c => c.cid == cid && c.st == .reading) g d.chunks).filter keep })

/-- One request of a chunk's write is answered: when none is left, the chunk's write is done (R143). -/
def Block.qWrote (b : Block) (q cid : Nat) : Block :=
  let dead := b.qDead (q / 32) (q % 32)
  let g := fun (c : Chunk) =>
    let c1 := { c with wrOut := c.wrOut - 1 }
    if c1.wrOut == 0 then { c1 with st := .done } else c1
  let keep := fun (c : Chunk) => !(dead && c.st == .done)
  b.quMod q (fun d => { d with
    chunks := (mapIf (fun c => c.cid == cid && c.st == .writing) g d.chunks).filter keep })

/-- A request of a chunk fails: the outstanding request is struck off and the queue halts (R144). -/
def Block.qFail (b : Block) (q cid cause detail : Nat) : Block :=
  let f := q / 32
  let n := q % 32
  let g := fun (c : Chunk) =>
    if c.st == .reading then { c with rdOut := c.rdOut - 1 } else { c with wrOut := c.wrOut - 1 }
  match (b.qu q).chunks.find? (fun c => c.cid == cid) with
  | none => b
  | some x =>
    let b1 := b.quMod q (fun d => { d with chunks := mapIf (fun c => c.cid == cid) g d.chunks })
    let b2 := b1.haltQ f n cause detail x.dix x.frag
    let keep := fun (c : Chunk) => !(c.cid == cid && c.rdOut == 0 && c.wrOut == 0)
    b2.quMod q (fun d => { d with chunks := d.chunks.filter keep })

/-! ### Host window requests -/

/-- Swap group of an ORDER (R111). -/
def swapG (order : Nat) : Nat := 2 ^ order

/-- R111: the XLB byte address of linear address a under swap group g. -/
def swapAddr (g a : Nat) : Nat := a / g * g + (g - 1 - a % g)

/-- Job by number. -/
def Block.job? (b : Block) (id : Nat) : Option HJob := b.jobs.find? (·.id == id)

/-- Change a job. -/
def Block.jobMod (b : Block) (id : Nat) (g : HJob → HJob) : Block := { b with jobs := mapIf (·.id == id) g b.jobs }

/-- Remove a job. -/
def Block.jobDrop (b : Block) (id : Nat) : Block := { b with jobs := b.jobs.filter (fun j => j.id != id) }

/-- Byte positions of a job that the completion of piece i carries: those mapped into the piece, with what lies before
the first piece or behind the last. -/
def HJob.positions (j : HJob) (i : Nat) : List Nat :=
  let last := j.pieces.length - 1
  let lo := fun (k : Nat) => optD (j.pieces[k]?) 0 (·.lo)
  (List.range j.n).filter (fun k =>
    let a := (j.l0 + k) / j.g * j.g + (j.g - 1)
    (i == 0 || lo i ≤ a) && (i == last || a < lo (i + 1)))

/-- R110, R123: the data and EP of the completion of an answered piece; a position the host did not enable holds an
unspecified byte. -/
def Block.pieceCpl (b : Block) (j : HJob) (i : Nat) (pc : HPiece) : List Byte × Bool :=
  match j.kind with
  | .zero => ([0, 0, 0, 0], false)
  | .atomic => (pc.data.map (·.1), pc.data.any (·.2))
  | .read =>
    let cells := (j.positions i).map (fun k =>
      match (if j.en[k]?.getD false then pc.data[swapAddr j.g (j.l0 + k) - pc.lo]? else none) with
      | some x => x
      | none => (Config.freeByte (b.freeCtr + k), false))
    (cells.map (·.1), cells.any (·.2))

/-- Send the completions that are due, in ascending address order; at the first failed piece the rest of the bytes
complete with its status and the job ends. -/
def Block.jobCpls (b : Block) (id : Nat) : Nat → Block
  | 0 => b
  | fuel + 1 =>
    match b.job? id with
    | none => b
    | some j =>
      match j.pieces[j.next]? with
      | none => b.jobDrop id
      | some pc =>
        match pc.ans with
        | none => b
        | some .sc =>
          let (d, ep) := b.pieceCpl j j.next pc
          let b1 := { b with freeCtr := b.freeCtr + j.n }.jobMod id (fun j => { j with next := j.next + 1 })
          let b2 := if ep then b1.logErr j.f { code := 21, detail := 1, addr := pc.lo, len := pc.len } else b1
          Block.jobCpls (if j.dead then b2 else b2.sendCpl j.link j.req .sc d ep j.stream) id fuel
        | some st => (if j.dead then b else b.sendCpl j.link j.req st [] false j.stream).jobDrop id

/-- A piece of a host request is answered with a completion status and data (Table 2.6). -/
def Block.pieceAns (b : Block) (id i : Nat) (st : CplSt) (data : List (Byte × Bool)) : Block :=
  let g := fun (pc : HPiece) => if pc.ans.isNone then { pc with ans := some st, data := data } else pc
  let b1 := b.jobMod id (fun j => { j with pieces := j.pieces.modify i g })
  b1.jobCpls id (optD (b1.job? id) 0 (fun j => j.pieces.length + 1))

end Sys2Proof.Machine
end

