-- ==== Sys2Proof/Machine/Xlb.lean ====
section
/-! DEFINITION. The XLB transaction layer of a port: requests of the PX896 and how they end (R38 to R66, R113), the
prefetch entries (R118 to R121), responses to the design, and the fence (R65, R66). -/
namespace Sys2Proof.Machine

/-! ### Beat data -/

/-- R41: the covered bytes of beat data, each with the poison mark of its beat. -/
def beatCells (w a len pvec : Nat) (data : List Byte) : List (Byte × Bool) :=
  ((List.range len).map (fun k =>
    let o := a % w + k
    (data[o]?.getD 0, bit pvec (o / w))))

/-- A poison vector with every beat set. -/
def allBeats (n : Nat) : Nat := 2 ^ n - 1

/-! ### Responses to the design -/

/-- Credit left of a class; 65,535 is unlimited (R51). -/
def hasCr (c n : Nat) : Bool := c == 65535 || n ≤ c
/-- Credit after use. -/
def useCr (c n : Nat) : Nat := if c == 65535 then c else c - n

/-- Send the responses that wait, in order, while the design's RSP credits last (R50). -/
def Block.pumpRsp (b : Block) (p : Nat) : Nat → Block
  | 0 => b
  | n + 1 =>
    match (b.x p).rspQ with
    | [] => b
    | r :: rs =>
      let h := (b.x p).cr[2]?.getD 0
      let d := (b.x p).cr[3]?.getD 0
      if hasCr h 1 && hasCr d (rspSlots r) then
        Block.pumpRsp ((b.xMod p (fun x => { x with
          rspQ := rs, cr := (x.cr.set 2 (useCr h 1)).set 3 (useCr d (rspSlots r)) })).xsend p (.rsp r)) p n
      else b

/-- Hand a response to the RSP channel (Table 2.5). -/
def Block.respondOnly (b : Block) (p tag code cause : Nat) (pvec : Nat := 0) (data : List Byte := []) : Block :=
  let b1 := b.xMod p (fun x => { x with rspQ := x.rspQ ++ [⟨tag, code, cause, pvec, data⟩] })
  b1.pumpRsp p (b1.x p).rspQ.length

/-! ### Sending requests -/

/-- R59: the first slots of a request of the design have arrived. -/
def Block.partReq (b : Block) (p : Nat) : Bool :=
  match (b.tt p).rxSlots with
  | s :: _ => msgFld s 0 1 / 64 == 0
  | [] => false

/-- R59: a local-master request is outstanding, from its first slot to its response. -/
def Block.localBusy (b : Block) (p : Nat) : Bool := b.localOut p > 0 || b.partReq p

/-- R48, R50, R59, R62: a waiting request can be sent now. A reissue after RETRY keeps its tag and is not new. -/
def Block.canSend (b : Block) (p : Nat) (r : XReq) : Bool :=
  let x := b.x p
  b.active p && !b.shut p && !x.capsSent &&
    hasCr (x.cr[0]?.getD 0) 1 && hasCr (x.cr[1]?.getD 0) (reqSlots (b.xw p) r) &&
    (r.retries > 0 || (!(b.flag .xlbHalfDuplex p && b.localBusy p) && b.pxOut p < min (b.xlimit p) x.maxout))

/-- Send the waiting requests of port p in arrival order, as far as tags, credits and limits go (R113). -/
def Block.pumpX (b : Block) (p : Nat) : Nat → Block
  | 0 => b
  | n + 1 =>
    let x := b.x p
    match x.reqs.find? (fun r => r.st == .waiting && !r.atLoom) with
    | none => b
    | some r =>
      if b.canSend p r then
        let used := fun t => x.quar.any (fun g => g.tag == t) ||
          x.reqs.any (fun g => (g.st != .waiting || g.retries > 0) && g.tag == t)
        let tag? := if r.retries > 0 then some r.tag else pickFree (fun t => !used t) 4096 (Config.xlbTagStart b.freeCtr)
        match tag? with
        | none => b
        | some t =>
          let go := fun (r : XReq) => { r with st := .sent, tag := t }
          let b1 := b.useFree.xMod p (fun x => { x with
            reqs := mapIf (fun g => g.rid == r.rid) go x.reqs
            cr := (x.cr.set 0 (useCr (x.cr[0]?.getD 0) 1)).set 1
              (useCr (x.cr[1]?.getD 0) (reqSlots (b.xw p) r)) })
          Block.pumpX (b1.xsend p (.req (go r))) p n
      else b

/-- Send what can be sent on port p. -/
def Block.kick (b : Block) (p : Nat) : Block := b.pumpX p ((b.x p).reqs.filter (fun r => r.st == .waiting)).length

/-- Answer the design (Table 2.5); a HALF_DUPLEX port may then send what it withheld (R59). -/
def Block.respond (b : Block) (p tag code cause : Nat) (pvec : Nat := 0) (data : List Byte := []) : Block :=
  (b.respondOnly p tag code cause pvec data).kick p

/-- Remove a request. -/
def Block.dropReq (b : Block) (p rid : Nat) : Block :=
  b.xMod p (fun x => { x with reqs := x.reqs.filter (fun r => r.rid != rid) })

/-! ### Prefetch entries -/

/-- Entry e of f. -/
def Block.pfOf (b : Block) (f e : Nat) : Option PfEnt := (b.fn f).pf.find? (·.e == e)
/-- The entry of f with a record number. -/
def Block.pfBorn (b : Block) (f id : Nat) : Option PfEnt := (b.fn f).pf.find? (·.born == id)
/-- Free an entry. -/
def Block.pfFree (b : Block) (f e : Nat) : Block := b.fnMod f (fun d => { d with pf := d.pf.filter (fun x => x.e != e) })
/-- Change an entry. -/
def Block.pfMod (b : Block) (f e : Nat) (g : PfEnt → PfEnt) : Block :=
  b.fnMod f (fun d => { d with pf := mapIf (·.e == e) g d.pf })

/-- R121: put a page into f's learned-page list, the oldest of 64 giving way. -/
def Block.learn (b : Block) (f p page : Nat) : Block :=
  let b1 := b.fnMod f (fun d =>
    let l := d.learned.filter (fun x => x != (p, page)) ++ [(p, page)]
    { d with learned := if l.length > 64 then l.drop (l.length - 64) else l })
  b1.incSat .pfCntLearned f

/-- R111, R120: the window offset of byte k of an entry. -/
def Block.pfOff (b : Block) (f : Nat) (x : PfEnt) (k : Nat) : Nat := b.winOff f x.winB x.sub (swapAddr x.g (x.lo + k))

/-- R120: record the unconsumed bytes of an entry as lost, when there are any: 1 expiry, 2 write, 3 partial read, 4 port
event. The first of them is the one with the lowest window offset. -/
def Block.pfLost (b : Block) (f : Nat) (x : PfEnt) (why : Nat) : Block :=
  let left := (List.range x.len).filter (fun k => !(x.used[k]?.getD false))
  match left with
  | [] => b
  | k :: ks =>
    if x.mute then b
    else
      let a := (ks.map (b.pfOff f x)).foldl min (b.pfOff f x k)
      (b.incSat .pfCntLost f).logErr f { code := 12, detail := why, addr := a, len := left.length, win := b2n x.winB }

/-- A new request record of function f on its way to port p. -/
def Block.mkReq (b : Block) (p f : Nat) (orig : XOrig) (op addr len : Nat) (cells : List (Byte × Bool × Bool) := [])
    (aop asz : Nat := 0) (grp : Nat := 0) : XReq :=
  ⟨b.nextId, f, orig, op, addr, len, cells, aop, asz, .waiting, 0, 0, b.time, grp, b.nextId,
    ⟨b.rd .xlbRetryLimit p, b.rd .xlbTimeoutUs p, b.rd .xlbFenceCount p, b.rd .xlbFenceWindowUs p⟩, false⟩

/-- Put a request at the end of what waits at port p. -/
def Block.putReq (b : Block) (p : Nat) (r : XReq) : Block := b.newId.xMod p (fun x => { x with reqs := x.reqs ++ [r] })

/-- A request for a piece of a host read, sent as a demand read (R110). -/
def Block.demandReq (b : Block) (p f job i : Nat) (pc : HPiece) : Block :=
  b.putReq p (b.mkReq p f (.host job i) 1 pc.lo pc.len)

/-- R110, R142: the pieces of a range cut at every address that is a multiple of m. -/
def cutAt (m a len : Nat) : Nat → List (Nat × Nat)
  | 0 => []
  | fuel + 1 =>
    if len == 0 then []
    else
      let n := min len (m - a % m)
      (a, n) :: cutAt m (a + n) (len - n) fuel

/-- The pieces of a range at multiples of m. -/
def piecesOf (m a len : Nat) : List (Nat × Nat) := cutAt m a len (len / m + 2)

/-- R110: a span of WCLASS MEM is cut only when it is larger than 64 × W bytes, or would need more beats than R40 allows. -/
def memPieces (w a len : Nat) : List (Nat × Nat) :=
  if len ≤ 64 * w && (a % w + len + w - 1) / w ≤ 64 then [(a, len)] else piecesOf (64 * w) a len

/-- Bytes of a beat by which a new request is cut: the agreed width, or the least one while none is in force. -/
def Block.cutW (b : Block) (p : Nat) : Nat := if b.active p then b.xw p else 4

/-- R110: piece i of a job falls into several. -/
def Block.jobSplit (b : Block) (id i : Nat) (ps : List (Nat × Nat)) : Block :=
  b.jobMod id (fun j => { j with
    pieces := j.pieces.take i ++ ps.map (fun x => ⟨x.1, x.2, none, []⟩) ++ j.pieces.drop (i + 1) })

/-- Two ranges overlap. -/
def overlaps (a n c m : Nat) : Bool := a < c + m && c < a + n

/-- R118: after a demand read of [lo, lo+len) of window attribute w, issue a speculative read of the rest of its block,
up to the end of the largest request that the width allows (R40; DEDUCED, log entry 47). -/
def Block.speculate (b : Block) (f p : Nat) (winB : Bool) (h : WinHit) (lo len : Nat) : Block :=
  let blk := if h.attr.prefetch == 1 then 512 else 4096
  let a := lo + len
  let stop := (a - 1) / blk * blk + blk
  let n := min (stop - a) (64 * b.xw p - a % b.xw p)
  let ents := (b.fn f).pf
  if b.flag .pfDisable f || h.attr.prefetch == 0 || h.attr.sep == 2 || stop == a || !b.active p || b.shut p ||
      (b.fn f).learned.any (fun x => x == (p, (a - 1) / 4096)) ||
      ents.any (fun x => x.port == p && overlaps x.lo x.len a (stop - a)) then b
  else
    let free := (List.range 16).find? (fun e => !(ents.any (fun x => x.e == e)))
    let oldest := (ents.filter (fun x => x.st == .valid)).foldl
      (fun (m : Option PfEnt) x => match m with | some y => if x.born < y.born then some x else m | none => some x) none
    match (match free with | some e => some e | none => oldest.map PfEnt.e) with
    | none => b
    | some e =>
      -- the Tether controller abandons it when three quarters of the limit are outstanding
      if 4 * b.pxOut p ≥ 3 * min (b.xlimit p) (b.x p).maxout then b.pfFree f e
      else
        let id := b.nextId
        let ent : PfEnt := ⟨e, .pending, p, a, n, winB, h.sub, [], [], [], id, h.attr.sep, swapG h.attr.order, false⟩
        let b1 := (b.pfFree f e).fnMod f (fun d => { d with pf := d.pf ++ [ent] })
        let r := b1.mkReq p f (.spec id) 1 a n
        if b1.loom.stopped then b1.putReq p { r with atLoom := true }
        else (b1.cross (some (linkPort (b1.actLink f))) (some (tetherPort p)) 1 0).putReq p r

/-- The reads that wait on an entry are sent as demand reads, each followed by the speculation of R118; a port that is shut
completes them as Completer Abort. -/
def Block.pfDemand (b : Block) (f : Nat) (x : PfEnt) : Block :=
  b.each x.waits (fun b w =>
    match b.job? w.1 with
    | none => b
    | some j =>
      match j.pieces[w.2]? with
      | none => b
      | some pc =>
        if b.shut x.port then b.pieceAns w.1 w.2 .ca []
        else
          let ps := memPieces (b.cutW x.port) pc.lo pc.len
          let b1 := (b.jobSplit w.1 w.2 ps).each ((List.range ps.length).zip ps) (fun b y =>
            b.demandReq x.port f w.1 (w.2 + y.1) ⟨y.2.1, y.2.2, none, []⟩)
          match b1.resolve f x.winB (b1.winOff f x.winB x.sub (swapAddr x.g pc.lo)) with
          | some h => b1.speculate f x.port x.winB h pc.lo pc.len
          | none => b1)

/-- The reads that wait on an entry are served from its bytes; with `mark` their bytes become consumed. -/
def Block.pfServe (b : Block) (x : PfEnt) (cells : List (Byte × Bool)) : Block :=
  b.each x.waits (fun b w =>
    match b.job? w.1 with
    | none => b
    | some j =>
      match j.pieces[w.2]? with
      | none => b
      | some pc => b.pieceAns w.1 w.2 .sc ((cells.drop (pc.lo - x.lo)).take pc.len))

/-- Consumed marks after the reads of a list of ranges (from the entry's start). -/
def markUsed (used : List Bool) (n lo len : Nat) : List Bool :=
  (List.range n).map (fun k => used[k]?.getD false || (lo ≤ k && k < lo + len))

/-- Consumed marks of the reads that wait on an entry. -/
def Block.waitMarks (b : Block) (x : PfEnt) : List Bool :=
  x.waits.foldl (fun u w =>
    match b.job? w.1 with
    | none => u
    | some j => match j.pieces[w.2]? with
      | none => u
      | some pc => markUsed u x.len (pc.lo - x.lo) pc.len) (List.replicate x.len false)

/-- R121: SIDEFX or SIDEFX_DONE for a read of a sub-window whose SEP is NONE. -/
def Block.pfUnexpected (b : Block) (f : Nat) (x : PfEnt) (code : Nat) : Block :=
  if x.sep == 0 then
    (b.incSat .pfCntUnexpected f).logErr f
      { code := 13, detail := code, addr := b.pfOff f x 0, len := x.len, win := b2n x.winB }
  else b

/-- Table 4.9: an answer, a timeout or an abandonment (code 2) of the speculative read of the entry of f with a record number. -/
def Block.pfAnswer (b : Block) (f id code : Nat) (cells : List (Byte × Bool)) : Block :=
  match b.pfBorn f id with
  | none => b
  | some x =>
    let e := x.e
    -- after a function reset nothing is recorded, and the reads that waited get no completion
    if x.mute then (b.pfFree f e).each x.waits (fun b w => b.pieceAns w.1 w.2 .ca []) else
    let page := x.lo / 4096
    let sfx := code == 4 || code == 7
    let b1 := if sfx then (b.learn f x.port page).pfUnexpected f x code else b
    let b2 := if code == 7 then b1.incSat .pfCntHeld f else b1
    if code == 0 || code == 1 then
      if x.st == .stale then (b2.pfServe x cells).pfFree f e
      else (b2.pfMod f e (fun y => { y with st := .valid, data := cells, waits := [] })).pfServe x cells
    else if code == 7 then
      let u := b2.waitMarks x
      if x.st == .stale then
        ((b2.pfServe x cells).pfLost f { x with used := u } 2).pfFree f e
      else
        (if u.all (fun z => z) then (b2.pfServe x cells).pfFree f e
         else (b2.pfMod f e (fun y => { y with st := .held, data := cells, used := u, waits := [] })).pfServe x cells)
    else (b2.pfFree f e).pfDemand f x

/-- R119: discard an entry by a write (2) or a port event (4), as Table 4.9 gives. -/
def Block.pfDiscard (b : Block) (f : Nat) (x : PfEnt) (why : Nat) : Block :=
  match x.st with
  | .pending => b.pfMod f x.e (fun y => { y with st := .stale })
  | .stale => b
  | .valid => b.pfFree f x.e
  | .held => (b.pfLost f x why).pfFree f x.e

/-- R119: the entries of every function on a port are discarded by a port event. -/
def Block.pfPort (b : Block) (p : Nat) : Block :=
  b.each (b.boundFns p) (fun b f =>
    b.each ((b.fn f).pf.filter (fun x => x.port == p)) (fun b x => b.pfDiscard f x 4))

/-! ### How a request ends -/

/-- Completion status of a response code for a host read or AtomicOp (Table 2.6). -/
def hostStatus (code : Nat) : CplSt :=
  if code == 0 || code == 1 then .sc else if code == 3 then .ur else .ca

/-- DETAIL of an origin in entries 05h, 06h and 0Bh. -/
def origDetail (o : XOrig) : Nat :=
  match o with
  | .host _ _ => 0
  | .posted => 1
  | .shuttle _ _ _ _ => 2
  | .spec _ => 3

/-- The queue of a request, for FCP_ERR_HDR.QUEUE (Table 12.5). -/
def origQueue (o : XOrig) : Option Nat :=
  match o with
  | .shuttle q _ _ _ => some (q % 32)
  | _ => none

/-- SHT_QHALT.DETAIL of LOCAL_ERROR (Table 5.7): response code, and cause or Fh for a design-defined one. -/
def localDetail (code cause : Nat) : Nat := code + 16 * (if cause < 12 then cause else 15)

/-- A final answer has crossed the Loom: the host completes under Table 2.6, a Shuttle takes data or halts (R144), a prefetch
entry moves (Table 4.9). -/
def Block.ansGo (b : Block) (r : XReq) (code cause : Nat) (cells : List (Byte × Bool)) : Block :=
  match r.orig with
  | .host job i =>
    match b.job? job with
    | none => b
    | some j =>
      if j.kind == .zero then b.pieceAns job i (if code == 0 then .sc else .ca) []
      else b.pieceAns job i (hostStatus code) cells
  | .posted => b
  | .spec id => b.pfAnswer r.f id code cells
  | .shuttle q cid wr off =>
    if wr then (if code == 0 then b.qWrote q cid else b.qFail q cid 17 (localDetail code cause))
    else if code == 0 || code == 1 then
      let b2 := if cells.any (·.2) then b.logErr r.f { code := 21, detail := 1, addr := r.addr, len := r.len, queue := some (q % 32) } else b
      b2.qPart q cid off cells
    else b.qFail q cid 17 (localDetail code cause)

/-- Loom port of the unit that made a request: the Stall die of the function's link, or the Shuttle. -/
def Block.xFrom (b : Block) (r : XReq) : Nat :=
  match r.orig with
  | .shuttle q _ _ _ => b.queuePort q
  | _ => linkPort (b.actLink r.f)

/-- Class of a request on the Loom: host posted writes and Shuttle writes are posted (Table 1.4). -/
def XReq.cls (r : XReq) : Nat :=
  match r.orig with
  | .posted => 0
  | .shuttle _ _ wr _ => if wr then 0 else 1
  | _ => 1

/-- A request of the PX896 ends with a final answer: code, cause and the covered bytes with poison. The answer to a host posted
write is absorbed; every other crosses the Loom, and a Loom that stands still holds it (R21, R22). -/
def Block.endReq (b : Block) (p : Nat) (r : XReq) (code cause : Nat) (cells : List (Byte × Bool)) : Block :=
  let b1 := b.dropReq p r.rid
  if r.orig == .posted then b1
  else if b1.loom.stopped then
    { b1 with loomBack := b1.loomBack ++ [.xlb p r code cause cells] }
  else (b1.cross (some (tetherPort p)) (some (b1.xFrom r)) 2 cells.length).ansGo r code cause cells

/-- Bytes of data that a DONE answer to a request carries (R43). -/
def ansBytes (w : Nat) (r : XReq) : Nat :=
  if r.op == 1 then beats w r.addr r.len * w else if r.op == 4 then 4 * 2 ^ r.asz else 0

/-- Put a tag into quarantine until a late answer or twice TIMEOUT_US after the request's arrival (R63). -/
def Block.quarantine (b : Block) (p : Nat) (r : XReq) (byFence : Bool) : Block :=
  if r.st == .waiting && r.retries == 0 then b
  else b.xMod p (fun x => { x with quar := x.quar ++
    [⟨r.tag, r.f, byFence, r.t0 + 2 * r.cfg.tmo, ansBytes (b.xw p) r, origQueue r.orig, r.op, r.spec⟩] })

/-- R67: take a fence off: FENCE is raised in every bound function, the fenced tags are free, PORT_UNFENCED is posted. -/
def Block.unfence (b : Block) (p : Nat) : Block :=
  if !b.fenced p then b
  else
    let b1 := ((b.wr .xlbFenced p 0 0).wr .ffenceWhy p 0 0).xMod p
      (fun x => { x with quar := x.quar.filter (fun g => !g.fenced), remUp := false, gen := x.gen + 1 })
    b1.each (b1.boundFns p) (fun b f => (b.raise f 13).devEvent f 4 0 0)

/-- Lines L0 to L7 of every bound function are taken as deasserted (R66, R70). -/
def Block.linesDown (b : Block) (p : Nat) : Block :=
  b.each (b.boundFns p) (fun b f => (b.wr .spLines f 0 0).sampleAll f)

/-- Return a class 4 credit (R53). -/
def Block.retMsg (b : Block) (p : Nat) : Block :=
  (b.xMod p (fun x => { x with dMsgs := x.dMsgs + 1 })).xsend p (.credit 4 0 1)

/-- R66: the messages in the interrupt fence are discarded and their credits returned. -/
def Block.fenceFlush (b : Block) (p : Nat) : Block :=
  let q := (b.x p).fenceQ
  (b.xMod p (fun x => { x with fenceQ := [] })).each q (fun b m => if m.kind ≤ 1 then b.retMsg p else b.retRec p m.f 1)

/-- R65, R66: fence port p for a reason (FCP_FENCE.WHY). A removal takes the place of another reason (R273). -/
def Block.fence (b : Block) (p why : Nat) : Block :=
  if b.fenced p then (if why == 3 then (b.wr .ffenceWhy p 0 3).xMod p (fun x => { x with remUp := false }) else b)
  else
    let rs := (b.x p).reqs
    let b0 := ((b.wr .xlbFenced p 0 1).wr .ffenceWhy p 0 why).incSat .xlbCntFences p
    let b1 := b0.xMod p (fun x => { x with tmos := [], remUp := false, gen := x.gen + 1 })
    let b2 := b1.each rs (fun b r => (b.quarantine p r true).endReq p r 2 2 [])
    let b3 := ((b2.pfPort p).fenceFlush p).linesDown p
    b3.each (b3.boundFns p) (fun b f => ((b.raise f 13).logErr f { code := 7, detail := why }).devEvent f 3 0 why)

/-- R65, R74: a counted timeout of request r; as many as the FENCE_COUNT in force for it within its FENCE_WINDOW_US fence the
port. -/
def Block.countTmo (b : Block) (p : Nat) (r : XReq) : Block :=
  let b1 := b.incSat .xlbCntTimeouts p
  let ts := b1.time :: (b1.x p).tmos
  let b2 := b1.xMod p (fun x => { x with tmos := ts.filter (fun t => b1.time - t ≤ 1000000) })
  let near := ts.filter (fun t => b1.time - t ≤ r.cfg.fwin)
  if near.length ≥ r.cfg.fcount && !b2.fenced p then b2.fence p 1 else b2

/-- R70, Table 10.10: outstanding requests in both directions become void; with `down` each is logged as TETHER_DOWN and
what waits unsent stays. -/
def Block.voidAll (b : Block) (p : Nat) (down : Bool) : Block :=
  let rs := (b.x p).reqs.filter (fun r => r.st != .waiting || r.retries > 0)
  let b1 := b.each rs (fun b r =>
    let b' := b.endReq p r 2 0 []
    match r.orig with
    | .spec _ => b'
    | o => if down then b'.logErr r.f { code := 11, detail := origDetail o, addr := r.addr, len := r.len, aux := r.tag, queue := origQueue o } else b')
  let lms := (b1.x p).lms
  let mine := fun (a : Nat) => lms.any (fun m => m.arr == a)
  let b2 := b1.each (lms.map (·.f)) (fun b f => b.dropNp f (fun t => t.st == .waiting &&
    match t.own with
    | .lmRd q a _ | .lmAtm q a | .lmZlr q a | .flushZlr q a => q == p && mine a
    | _ => false))
  let b3 := b2.each (lms.map (·.link)) (fun b l => b.lkMod l (fun k => { k with posted := k.posted.filter (fun w =>
    !(!w.sent && match w.own with | .lm q a => q == p && mine a | _ => false)) }))
  -- R55: writes answered before the last FLUSH that becomes void are covered by no later one
  let cut := ((lms.filter (fun m => m.op == 5)).map (·.arr + 1)).foldl max 0
  let b4 := { b3 with loomBack := b3.loomBack.filter (fun x => !(backOfPort p x)) }
  (b4.xMod p (fun x => { x with
    lms := [], wrs := if down then [] else x.wrs.filter (fun w => cut ≤ w.arr), rspQ := [], fenceQ := [], oweH := 0, oweD := 0 })).pfPort p

/-! ### New requests -/

/-- A new request reaches the Tether controller of port p (R61). While the port is shut it ends at once (R66): a host
read or AtomicOp as Completer Abort, a write dropped, a Shuttle request with FAULT and cause FENCED. -/
def Block.reqArrive (b : Block) (p : Nat) (r : XReq) : Block :=
  if b.shut p then b.newId.endReq p r 2 2 [] else b.putReq p r

/-- A new request for port p crosses the Loom from the Stall die or the Shuttle; a Loom that stands still holds it (R21, R22). -/
def Block.addReq (b : Block) (p f : Nat) (orig : XOrig) (op addr len : Nat) (cells : List (Byte × Bool × Bool) := [])
    (aop asz : Nat := 0) (grp : Nat := 0) : Block :=
  let r := b.mkReq p f orig op addr len cells aop asz grp
  if b.loom.stopped then b.putReq p { r with atLoom := true }
  else (b.cross (some (b.xFrom r)) (some (tetherPort p)) r.cls cells.length).reqArrive p r

/-- The Loom grants again: the requests of port p that it held reach the Tether controller in their order. -/
def Block.reqsIn (b : Block) (p : Nat) : Block :=
  let rs := (b.x p).reqs.filter (·.atLoom)
  let b1 := b.each rs (fun b r =>
    let b1 := b.cross (some (b.xFrom r)) (some (tetherPort p)) r.cls r.cells.length
    if b1.shut p then b1.endReq p r 2 2 []
    else b1.xMod p (fun x => { x with reqs := mapIf (·.rid == r.rid) (fun r => { r with atLoom := false, t0 := b.time }) x.reqs }))
  b1.kick p

/-! ### Requests that wait over a capability exchange (R40, R69, R72, R110) -/

/-- A request has not been sent yet. -/
def XReq.unsent (r : XReq) : Bool := r.st == .waiting && r.retries == 0

/-- R72, R112: the opcodes of the waiting writes of FLUSH write mode at version v: below 1.1 WR with one FLUSH after the last piece,
from 1.1 on WRF. A FLUSH that is added takes a record number from `id` on. -/
def flushShape (v id : Nat) (rs : List XReq) : List XReq :=
  let has := fun (g op : Nat) => rs.any (fun r => r.unsent && r.grp == g && r.op == op)
  if v == 0 then
    let go := fun (i : Nat) (r : XReq) =>
      let later := rs.drop (i + 1)
      if r.unsent && r.grp != 0 && r.op == 3 then
        let w := { r with op := 2 }
        if later.any (fun y => y.unsent && y.grp == r.grp && y.op == 3) || has r.grp 5 then [w]
        else [w, { r with op := 5, addr := 0, len := 0, cells := [], rid := id + i }]
      else [r]
    (List.range rs.length).flatMap (fun i => match rs[i]? with | some r => go i r | none => [])
  else
    (rs.filter (fun r => !(r.unsent && r.grp != 0 && r.op == 5 && has r.grp 2))).map (fun r =>
      if r.unsent && r.grp != 0 && r.op == 2 then { r with op := 3 } else r)

/-- Requests of a chunk in a list. -/
def chunkReqs (q cid : Nat) (rs : List XReq) : Nat :=
  (rs.filter (fun r => match r.orig with | .shuttle k c _ _ => k == q && c == cid | _ => false)).length

/-- The chunks of the queues count the requests that the new list holds more or fewer than the old one. -/
def Block.chunkAdjust (b : Block) (old new : List XReq) : Block :=
  let adj := fun (q : Nat) (c : Chunk) =>
    if c.st == .reading then { c with rdOut := c.rdOut + chunkReqs q c.cid new - chunkReqs q c.cid old }
    else if c.st == .writing then { c with wrOut := c.wrOut + chunkReqs q c.cid new - chunkReqs q c.cid old }
    else c
  let qs := (old.filterMap (fun r => match r.orig with | .shuttle q _ _ _ => some q | _ => none)).dedup
  b.each qs (fun b q => b.quMod q (fun d => { d with chunks := d.chunks.map (adj q) }))

/-- R40, R110: a waiting request larger than the width w allows, in parts; each keeps its place in the order. -/
def splitReq (w id : Nat) (r : XReq) : List XReq :=
  let ps := if r.unsent && (r.op == 1 || r.op == 2 || r.op == 3) then memPieces w r.addr r.len else [(r.addr, r.len)]
  if ps.length ≤ 1 then [r]
  else ((List.range ps.length).zip ps).map (fun x =>
    { r with
      rid := if x.1 == 0 then r.rid else id + x.1, addr := x.2.1, len := x.2.2
      cells := (r.cells.drop (x.2.1 - r.addr)).take x.2.2
      orig := match r.orig with
        | .host j i => .host j (i + x.1)
        | .shuttle q c wr off => .shuttle q c wr (off + (x.2.1 - r.addr))
        | o => o })

/-- Split the waiting request rid of port p for width w; the pieces of its job behind it move up. -/
def Block.reqSplit (b : Block) (p w rid : Nat) : Block :=
  match (b.x p).reqs.find? (fun r => r.rid == rid) with
  | none => b
  | some r =>
    let new := splitReq w b.nextId r
    if new.length ≤ 1 then b
    else
      let up := fun (y : XReq) => match r.orig, y.orig with
        | .host j i, .host k m => if j == k && i < m then { y with orig := .host k (m + (new.length - 1)) } else y
        | _, _ => y
      let b1 := match r.orig with
        | .host j i => b.jobSplit j i (new.map (fun (y : XReq) => (y.addr, y.len)))
        | _ => b
      let b2 := { b1 with nextId := b1.nextId + new.length }
      (b2.chunkAdjust [r] new).xMod p (fun x => { x with
        reqs := x.reqs.flatMap (fun (y : XReq) => if y.rid == rid then new else [up y]) })

/-- R124: a host AtomicOp is refused: Completer Abort and ATOMIC_REFUSED. -/
def Block.atomRefuse (b : Block) (p : Nat) (r : XReq) : Block :=
  let b1 := match r.orig with
    | .host j _ => match b.job? j with
      | some x => b.logErr r.f { code := 4, detail := 0, addr := x.off, len := x.n, win := x.win } (Config.tlpHeader x.req r.addr)
      | none => b
    | _ => b
  b1.endReq p r 2 0 []

/-- R40, R69, R72, R110: after an exchange the requests that wait unsent are brought into the form of the agreed version v, width w
and ATM: a speculative read that has become too large is abandoned, an AtomicOp not allowed any more is refused. -/
def Block.reshape (b : Block) (p v w : Nat) (atm : Bool) : Block :=
  let old := (b.x p).reqs
  let new := flushShape v b.nextId old
  let b1 := ({ b with nextId := b.nextId + old.length }.chunkAdjust old new).xMod p (fun x => { x with reqs := new })
  let bad := fun (r : XReq) => r.unsent && (r.op == 4 && !atm || r.spec && (memPieces w r.addr r.len).length > 1)
  let b2 := b1.each (new.filter bad) (fun b r => if r.op == 4 then b.atomRefuse p r else b.endReq p r 2 0 [])
  b2.each (((b2.x p).reqs.filter (·.unsent)).map (·.rid)) (fun b rid => b.reqSplit p w rid)

end Sys2Proof.Machine
end

