-- ==== Sys2Proof/Machine/Window.lean ====
section
/-! DEFINITION. Host requests to windows A and B (chapter 04): decode, size check, byte order, splitting, prefetch,
poison and AtomicOps. -/
namespace Sys2Proof.Machine

/-- Complete a host request. -/
def Block.complete (b : Block) (r : HReq) (st : CplSt) (data : List Byte := []) : Block :=
  b.sendCpl r.link.val r.req st data false r.stream

/-- Positions of the enabled bytes of a request. -/
def hEnabled (r : HReq) : List Nat := (List.range r.en.length).filter (fun k => r.en[k]?.getD false)
/-- First enabled position. -/
def hFirst (r : HReq) : Nat := (hEnabled r).head?.getD 0
/-- Bytes from the lowest enabled byte to the highest: the span (R109). -/
def hSpan (r : HReq) : Nat := match hEnabled r with
  | [] => 0
  | k :: _ => (hEnabled r).getLastD k + 1 - k

/-- Bytes of a REGn class, 0 for MEM (R109). -/
def regBytes (wclass : Nat) : Nat := if wclass == 0 then 0 else 4 * 2 ^ (wclass - 1)

/-- R109: the size check of a span of n bytes at address a. -/
def sizeOk (w : WinAttr) (a n : Nat) : Bool :=
  let nat' := (n == 1 || n == 2 || n == 4 || n == 8 || n == 16 || n == 32 || n == 64) && a % n == 0
  (if nat' then bit w.sizes (Nat.log2 n) else bit w.sizes 7) &&
    (w.wclass == 0 || a / regBytes w.wclass == (a + n - 1) / regBytes w.wclass)

/-- R111: the XLB range that a span of n linear addresses from a maps to: lowest address and length. -/
def mappedRange (g a n : Nat) : Nat × Nat :=
  let xs := (List.range n).map (fun k => swapAddr g (a + k))
  let lo := xs.foldl min (swapAddr g a)
  let hi := xs.foldl max (swapAddr g a)
  (lo, hi + 1 - lo)

/-- R103: a window miss is logged; reads and AtomicOps complete as Unsupported Request, writes are dropped. -/
def Block.winMiss (b : Block) (r : HReq) (f : Nat) (winB : Bool) (o : Nat) (np : Bool) : Block :=
  let b1 := b.logErr f { code := 1, addr := o, len := hSpan r, win := b2n winB } (Config.tlpHeader r.req r.addr)
  if np then b1.complete r .ur else b1

/-- R109: a size error. -/
def Block.winSize (b : Block) (r : HReq) (f : Nat) (winB : Bool) (o : Nat) (np : Bool) : Block :=
  let b1 := b.logErr f { code := 2, addr := o, len := hSpan r, win := b2n winB } (Config.tlpHeader r.req r.addr)
  if np then b1.complete r .ca else b1

/-- Add a job for a host request with its pieces. -/
def Block.addJob (b : Block) (r : HReq) (kind : HKind) (f : Nat) (winB : Bool) (off l0 g : Nat) (ps : List (Nat × Nat)) : Block :=
  { b with
    nextId := b.nextId + 1
    jobs := b.jobs ++ [⟨b.nextId, kind, f, r.link.val, r.req, r.en.length, r.en, l0, g,
      ps.map (fun x => ⟨x.1, x.2, none, []⟩), 0, false, b2n winB, off, r.stream⟩] }

/-- R119: the prefetch entry of f that serves a read of a range, if any. -/
def Block.pfMatch (b : Block) (f p lo len : Nat) : Option PfEnt :=
  (b.fn f).pf.find? (fun x => x.port == p && x.lo ≤ lo && lo + len ≤ x.lo + x.len &&
    (x.st == .pending || x.st == .valid ||
      (x.st == .held && (List.range len).all (fun k => !(x.used[lo - x.lo + k]?.getD false)))))

/-- R101, R110, R119: a host read of a window. -/
def Block.winRead (b : Block) (r : HReq) (f : Nat) (winB : Bool) (off : Nat) : Block :=
  let p := b.portOf f
  match b.resolve f winB (off + hFirst r) with
  | none => b.winMiss r f winB (off + hFirst r) true
  | some h =>
    let l0 := h.l0 - hFirst r
    if hSpan r == 0 then
      -- a zero-length read becomes FLUSH
      let id := b.nextId
      let b1 := b.addJob r .zero f winB off l0 1 [(0, 0)]
      (b1.addReq p f (.host id 0) 5 0 0).kick p
    else if !sizeOk h.attr (off + hFirst r) (hSpan r) then b.winSize r f winB (off + hFirst r) true
    else
      let g := swapG h.attr.order
      let (lo, len) := mappedRange g h.l0 (hSpan r)
      let id := b.nextId
      match b.pfMatch f p lo len with
      | some x =>
        let b1 := b.addJob r .read f winB off l0 g [(lo, len)]
        match x.st with
        | .pending => b1.pfMod f x.e (fun y => { y with waits := y.waits ++ [(id, 0)] })
        | .held =>
          let u := markUsed x.used x.len (lo - x.lo) len
          let b2 := if u.all (fun z => z) then b1.pfFree f x.e else b1.pfMod f x.e (fun y => { y with used := u })
          b2.pieceAns id 0 .sc ((x.data.drop (lo - x.lo)).take len)
        | _ => b1.pieceAns id 0 .sc ((x.data.drop (lo - x.lo)).take len)
      | none =>
        -- a held entry it overlaps in part is lost
        let cut := (b.fn f).pf.filter (fun x => x.st == .held && x.port == p && overlaps x.lo x.len lo len)
        let b0 := b.each cut (fun b x => (b.pfLost f x 3).pfFree f x.e)
        let ps := if h.attr.wclass == 0 then memPieces (b.cutW p) lo len else [(lo, len)]
        let b1 := b0.addJob r .read f winB off l0 g ps
        let b2 := b1.each ((List.range ps.length).zip ps) (fun b x => b.addReq p f (.host id x.1) 1 x.2.1 x.2.2)
        (((b2.kick p).speculate f p winB h lo len)).kick p

/-- R119: what a host write or AtomicOp of f to a range of port p does to prefetch entries. -/
def Block.pfWrite (b : Block) (f p lo len : Nat) : Block :=
  let own := (b.fn f).pf.filter (fun x => x.port == p)
  let b1 := b.each own (fun b x => b.pfDiscard f x 2)
  b1.each ((b1.boundFns p).filter (· != f)) (fun b g =>
    b.each ((b.fn g).pf.filter (fun x => x.port == p && overlaps x.lo x.len lo len)) (fun b x => b.pfDiscard g x 2))

/-- R110 to R113: a host posted write to a window. One without an enabled byte is discarded once its offset has resolved. -/
def Block.winWrite (b : Block) (r : HReq) (f : Nat) (winB : Bool) (off : Nat) : Block :=
  let p := b.portOf f
  match b.resolve f winB (off + hFirst r) with
    | none => b.winMiss r f winB (off + hFirst r) false
    | some h =>
      if hSpan r == 0 then b
      else if !sizeOk h.attr (off + hFirst r) (hSpan r) then b.winSize r f winB (off + hFirst r) false
      else if b.shut p then b
      else
        let g := swapG h.attr.order
        let l0 := h.l0 - hFirst r
        let (lo, len) := mappedRange g h.l0 (hSpan r)
        let cell := fun (a : Nat) =>
          let k := swapAddr g a - l0
          let e := decide (l0 ≤ swapAddr g a) && r.en[k]?.getD false
          (if e then r.data[k]?.getD 0 else 0, e, r.ep)
        let flushMode := h.attr.wmode
        let op := if flushMode && b.xver p ≥ 1 then 3 else 2
        let ps := if h.attr.wclass == 0 then memPieces (b.cutW p) lo len else [(lo, len)]
        let b0 := b.pfWrite f p lo len
        let b1 := if r.ep then b0.logErr f { code := 21, detail := 0, addr := r.addr, len := hSpan r } (Config.tlpHeader r.req r.addr)
          else b0
        let grp := if flushMode then b1.nextId + 1 else 0
        let b2 := b1.each ps (fun b x =>
          b.addReq p f .posted op x.1 x.2 ((List.range x.2).map (fun k => cell (x.1 + k))) 0 0 grp)
        let b3 := if flushMode && b.xver p == 0 then b2.addReq p f .posted 5 0 0 [] 0 0 grp else b2
        b3.kick p

/-- R124: a host AtomicOp to a window. One that is not a naturally aligned operand of a form of R42 is refused like one that the
sub-window does not allow (log entry 9). -/
def Block.winAtomic (b : Block) (r : HReq) (f : Nat) (winB : Bool) (off : Nat) (op : AtmOp) : Block :=
  let p := b.portOf f
  let n := r.en.length
  match b.resolve f winB off with
  | none => b.winMiss r f winB off true
  | some h =>
    if !(hatomicOk r op && h.attr.atomics && h.attr.order == 0 && b.flag .xlbAtm p &&
        (h.attr.wclass == 0 || h.l0 / regBytes h.attr.wclass == (h.l0 + n - 1) / regBytes h.attr.wclass)) then
      (b.logErr f { code := 4, detail := 0, addr := off, len := n, win := b2n winB } (Config.tlpHeader r.req r.addr)).complete r .ca
    else if b.shut p then b.complete r .ca
    else
      let id := b.nextId
      let aop := match op with | .fetchAdd => 0 | .swap => 1 | .cas => 2
      let asz := if n == 4 then 0 else if n == 8 then 1 else 2
      let b0 := b.pfWrite f p h.l0 n
      let b1 := if r.ep then b0.logErr f { code := 21, detail := 0, addr := r.addr, len := n } (Config.tlpHeader r.req r.addr) else b0
      let b2 := b1.addJob r .atomic f winB off h.l0 1 [(h.l0, n)]
      (b2.addReq p f (.host id 0) 4 h.l0 n (r.data.map (fun x => (x, true, r.ep))) aop asz).kick p

end Sys2Proof.Machine
end

