-- ==== Sys2Proof/Machine/LocalMaster.lean ====
section
/-! DEFINITION. Local-master requests (R52 to R55, R115, R125 to R128) and the translation cache (R208 to R214). -/
namespace Sys2Proof.Machine

/-! ### The translation cache -/

/-- R209: the cache entry under the key of an access of f, with the permissions the access needs. -/
def Block.xlHit (b : Block) (f : Nat) (pasid : Option Nat) (addr : Nat) (rd wr : Bool) : Option AtsEnt :=
  b.ats.find? (fun e => e.valid && e.f == f && e.pasid == pasid && e.lo ≤ addr && addr < e.lo + e.size &&
    (!rd || e.rd) && (!wr || e.wr))

/-- Mark an entry as used last. -/
def Block.xlTouch (b : Block) (id : Nat) : Block :=
  { b with ats := mapIf (·.id == id) (fun e => { e with stamp := b.nextId }) b.ats, nextId := b.nextId + 1 }

/-- Size of the Smallest Translation Unit of f. -/
def Block.stu (b : Block) (f : Nat) : Nat := 4096 * 2 ^ b.rd .atsStu f (b.actSet f)

/-- R209: send the Translation Requests of f that have not been sent, at most 64 outstanding. -/
def Block.pumpXl (b : Block) (f : Nat) : Block :=
  b.each ((b.fn f).xreqs) (fun b x =>
    let isX := fun (t : HTag) => match t.own with | .xlate _ => t.st == .waiting || t.st == .sent | _ => false
    let mine := fun (t : HTag) => t.own == .xlate x.rid
    if (b.fn f).np.any mine || ((b.fn f).np.filter isX).length ≥ 64 then b
    else b.addNp f (.xlate x.rid) x.lo x.size none false x.pasid)

/-- R209: a miss: wait on the outstanding request for the range, or send one. -/
def Block.xlMiss (b : Block) (f : Nat) (pasid : Option Nat) (addr : Nat) (w : XlWait) : Block :=
  let s := b.stu f
  let lo := addr / s * s
  let same := fun (x : XlReq) => x.lo == lo && x.pasid == pasid
  if (b.fn f).xreqs.any same then
    b.fnMod f (fun d => { d with xreqs := mapIf same (fun x => { x with waits := x.waits ++ [w] }) d.xreqs })
  else
    let r : XlReq := ⟨b.nextId, lo, s, pasid, [], [w]⟩
    (b.newId.fnMod f (fun d => { d with xreqs := d.xreqs ++ [r] })).pumpXl f

/-- R210: reason 4 or 5 that forbids a translation, 0 for none. -/
def Block.xlBar (b : Block) (f : Nat) (pasid : Option Nat) : Nat :=
  if !b.flag .atsEnable f (b.actSet f) then 4
  else if pasid.isSome && !b.flag .pasidEnable f (b.actSet f) then 5
  else 0

/-- R210: log a failed translation. -/
def Block.xlLog (b : Block) (f reason addr len : Nat) (pasid : Option Nat) : Block :=
  b.logErr f { code := 19, detail := reason, addr := addr, len := len, aux := pasid.getD 0 }

/-! ### Requests of the design -/

/-- The request of arrival arr. -/
def Block.lm? (b : Block) (p arr : Nat) : Option LmReq := (b.x p).lms.find? (·.arr == arr)
/-- Change it. -/
def Block.lmMod (b : Block) (p arr : Nat) (g : LmReq → LmReq) : Block :=
  b.xMod p (fun x => { x with lms := mapIf (·.arr == arr) g x.lms })

/-- Answer a local-master request; an answered write is kept for its FLUSH (R55), and a HALF_DUPLEX port may send what it
withheld (R59). From the Stall die the response crosses the Loom, which holds it while it stands still (R21). -/
def Block.lmAnswer (b : Block) (p : Nat) (m : LmReq) (code cause : Nat) (pvec : Nat := 0) (data : List Byte := []) : Block :=
  let b1 := b.xMod p (fun x => { x with
    lms := x.lms.filter (fun y => y.arr != m.arr)
    wrs := if m.op == 2 || m.op == 3 then x.wrs ++ [⟨m.arr, m.f, code, cause⟩] else x.wrs })
  if m.ph == LmPh.arrived then (b1.cross none (some (tetherPort p)) 2 data.length).respond p m.tag code cause pvec data
  else if b1.loom.stopped then { b1 with loomBack := b1.loomBack ++ [.lm p m.link m.tag code cause pvec data] }
  else (b1.cross (some (linkPort m.link)) (some (tetherPort p)) 2 data.length).respond p m.tag code cause pvec data

/-- R43, R123: the beats of a RD answered from what has arrived, and their poison. -/
def lmData (m : LmReq) : Nat × List Byte :=
  let cells := m.got.flatMap (·.2)
  let n := beats m.w m.a m.len
  let at' := fun (k : Nat) => if k < m.a % m.w then none else cells[k - m.a % m.w]?
  (bitMap n (fun i => (List.range m.w).any (fun t => match at' (i * m.w + t) with | some (_, q) => q | none => false)),
   (List.range (n * m.w)).map (fun k => match at' k with | some (x, _) => x | none => 0))

/-- TLPs of a local-master write still on its link. -/
def Block.lmOnLink (b : Block) (p : Nat) (m : LmReq) : Bool := (b.lk m.link).posted.any (fun w => w.own == .lm p m.arr)

/-- Answer a local-master request when everything it waits for has come (R54, R125, R128, Table 8.1). -/
def Block.lmTry (b : Block) (p arr : Nat) : Block :=
  match b.lm? p arr with
  | none => b
  | some m =>
    if m.op == 2 || m.op == 3 then
      if b.lmOnLink p m then b
      else match m.ph with
        | .failing code cause => if m.zlr == 2 then b else b.lmAnswer p m code cause
        | .issued => if m.zlr == 0 || m.zlr == 3 then b.lmAnswer p m 0 0 else b
        | .arrived | .queued | .xlate => b
    else if m.op == 1 then
      if m.left > 0 then b
      else match m.ph with
        | .failing code cause => b.lmAnswer p m code cause
        | .issued => let (pv, d) := lmData m; b.lmAnswer p m (if pv == 0 then 0 else 1) 0 pv d
        | .arrived | .queued | .xlate => b
    else b

/-- Mark a request as failing; the first cause stays. -/
def Block.lmFail (b : Block) (p arr code cause : Nat) : Block :=
  (b.lmMod p arr (fun m => match m.ph with | .failing _ _ => m | _ => { m with ph := .failing code cause })).lmTry p arr

/-- A dword of a masked write: address, its bytes with their enables, and its beat's poison (R123, R128). -/
structure WDw where
  addr : Nat
  by' : List (Byte × Bool)
  ep : Bool
deriving DecidableEq, Repr

/-- All four bytes enabled. -/
def WDw.full (d : WDw) : Bool := d.by'.all (·.2)
/-- Some byte enabled. -/
def WDw.some' (d : WDw) : Bool := d.by'.any (·.2)
/-- Enables contiguous up to byte 3: permitted as First DW BE of a longer request. -/
def WDw.startOk (d : WDw) : Bool :=
  d.some' && (let e := d.by'.map (·.2); e == [true, true, true, true] || e == [false, true, true, true] ||
    e == [false, false, true, true] || e == [false, false, false, true])
/-- Enables contiguous from byte 0: permitted as Last DW BE. -/
def WDw.endOk (d : WDw) : Bool :=
  let e := d.by'.map (·.2)
  e == [true, true, true, true] || e == [true, true, true, false] || e == [true, true, false, false] ||
    e == [true, false, false, false]

/-- R128: cut the dwords of a write into Memory Writes of at most mps bytes. `cur` is the request being formed. -/
def cutDw (mps : Nat) : List WDw → List WDw → List (List WDw)
  | cur, [] => if cur.isEmpty then [] else [cur]
  | cur, d :: t =>
    let flush := if cur.isEmpty then [] else [cur]
    if !d.some' then flush ++ cutDw mps [] t
    else
      let last := cur.getLast?
      let fits := match last with
        | none => false
        | some l => l.ep == d.ep && 4 * cur.length + 4 ≤ mps && l.addr + 4 == d.addr &&
            (if cur.length == 1 then l.startOk else l.full) && d.endOk
      if fits then
        if d.full then cutDw mps (cur ++ [d]) t else (cur ++ [d]) :: cutDw mps [] t
      else if d.startOk then flush ++ cutDw mps [d] t
      else flush ++ [d] :: cutDw mps [] t

/-- The dwords of bytes that start at host address a: (byte, enabled, poison). -/
def dwordsOf (a : Nat) (cells : List (Byte × Bool × Bool)) : List WDw :=
  let n := cdiv (a % 4 + cells.length) 4
  (List.range n).map (fun i =>
    let c4 := (List.range 4).map (fun t =>
      let k := 4 * i + t
      if k < a % 4 then ((0 : Byte), false, false) else cells[k - a % 4]?.getD (0, false, false))
    ⟨a / 4 * 4 + 4 * i, c4.map (fun x => (x.1, x.2.1)), c4.any (fun x => x.2.2)⟩)

/-- R128: the Memory Writes of a write of `cells` at host address a. -/
def memWrites (own : PwOwner) (f mps a : Nat) (cells : List (Byte × Bool × Bool)) (ent : Option Nat) (xl : Bool)
    (pasid : Option Nat) (ns : Bool) : List PWr :=
  (cutDw mps [] (dwordsOf a cells)).map (fun ds =>
    ⟨own, f, optD ds.head? 0 (·.addr), ds.flatMap (·.by'), ds.any (·.ep), ent, xl, pasid, ns, false, false⟩)

/-- Cells of a local-master write: byte, enable (MASKED), poison of its beat. -/
def lmCells (m : LmReq) : List (Byte × Bool × Bool) :=
  (List.range m.len).map (fun k =>
    let o := m.a % m.w + k
    (m.data[o]?.getD 0, if m.mask.isEmpty then true else m.mask[o]?.getD false, bit m.pvec (o / m.w)))

/-- R125, R128: issue a decoded request on its link at a host address (translated when `ent` is given). -/
def Block.lmIssue (b : Block) (p : Nat) (m : LmReq) (host : Nat) (ent : Option Nat) : Block :=
  let b0 := b.lmMod p m.arr (fun y => { y with ph := .issued })
  if m.op == 1 then
    let ps := piecesOf (b.mrrs m.f) host m.len
    let b1 := b0.lmMod p m.arr (fun y => { y with left := ps.length })
    b1.each ps (fun b x => b.addNp m.f (.lmRd p m.arr (x.1 - host)) x.1 x.2 ent m.xl m.pasid m.ns)
  else if m.op == 4 then b0.addNp m.f (.lmAtm p m.arr) host m.len ent m.xl m.pasid m.ns m.data m.aop
  else
    let ws := memWrites (.lm p m.arr) m.f (b.mps m.f) host (lmCells m) ent m.xl m.pasid m.ns
    let b1 := b0.each ws (fun b w => b.post m.link w)
    let b2 := if m.pvec == 0 then b1 else b1.logErr m.f { code := 21, detail := 1, addr := m.a, len := m.len }
    let b3 := if m.op == 3 then (b2.lmMod p m.arr (fun y => { y with zlr := 2 })).addNp m.f (.lmZlr p m.arr) host 0 ent m.xl m.pasid
      else b2
    b3.lmTry p m.arr

/-- R209: issue a request, through the translation cache when its window is translated. -/
def Block.lmStart (b : Block) (p : Nat) (m : LmReq) : Block :=
  if !m.xl then b.lmIssue p m m.host none
  else
    let pas := if b.flag .pasidEnable m.f (b.actSet m.f) then m.pasid else none
    match b.xlBar m.f m.pasid with
    | 0 =>
      match b.xlHit m.f pas m.host (m.op == 1 || m.op == 4) (m.op != 1) with
      | some e => (b.xlTouch e.id).lmIssue p m (e.xlo + (m.host - e.lo)) (some e.id)
      | none => (b.lmMod p m.arr (fun y => { y with ph := .xlate })).xlMiss m.f pas m.host (.lm p m.arr)
    | why => (b.xlLog m.f why m.host m.len m.pasid).lmAnswer p m 2 8

/-- R73: the owner of the assigned outbound window that holds an address, whether or not it is enabled. -/
def Block.lmOwner (b : Block) (p a : Nat) : Option Nat :=
  optD b.img none (fun im => (im.obwins.find? (fun w => w.port == p && w.base ≤ a && a < w.base + w.size)).map (·.owner))

/-- R127: the enabled window that decodes an address. -/
def Block.lmWindow (b : Block) (p a : Nat) : Option ObWin :=
  optD b.img none (fun im => im.obwins.find? (fun w => w.port == p && w.base ≤ a && a < w.base + w.size && b.flag .obEn w.owner w.m))

/-- R73: count a protocol error, and log it when the function concerned is known. -/
def Block.protoErr (b : Block) (p row : Nat) (f? : Option Nat) (hdr : Nat := 0) : Block :=
  let b1 := b.incSat .xlbCntProtocol p
  match f? with
  | some f => b1.logErr f { code := 10, detail := row, aux := hdr }
  | none => b1

/-- First header dword of a request (Table 2.2), for AUX. -/
def lmHdrDword (op : Nat) (h : LmHdr) (aop asz : Nat) : Nat :=
  op + 16 * b2n h.masked + 32 * b2n h.spec + 2 ^ 8 * (h.tag.toNat + 2 ^ 12 * aop + 2 ^ 14 * asz) + 2 ^ 24 * (h.len % 256)

/-- Length of a request: 0 stands for 4,096 (Table 2.2). -/
def lmLen (h : LmHdr) : Nat := if h.len == 0 then 4096 else h.len

/-- Table 2.17 row 3: a request of opcode op that is answered FAULT with cause MALFORMED. -/
def Block.lmBad (b : Block) (p op : Nat) (h : LmHdr) (asz : Nat) : Bool :=
  let w := b.xw p
  let len := lmLen h
  let rangeBad := (List.range h.mask.length).any (fun k =>
    h.mask[k]?.getD false && (k < h.addr.toNat % w || h.addr.toNat % w + len ≤ k))
  op > 5 || (op == 3 && b.xver p < 1) || (op == 4 && b.xver p < 2) || h.spec ||
    (h.masked && !(op == 2 || op == 3)) || (h.masked && (op == 2 || op == 3) && rangeBad) ||
    (op == 4 && 4 * 2 ^ asz != len)

/-- Table 2.17 row 4: a request that is answered SIZE. -/
def Block.lmSize (b : Block) (p op : Nat) (h : LmHdr) (aop asz : Nat) : Bool :=
  let a := h.addr.toNat
  let len := lmLen h
  if op == 4 then asz == 3 || aop == 3 || (asz == 2 && aop != 2) || a % len != 0
  else (op == 1 || op == 2 || op == 3) && (a % 4096 + len > 4096 || beats (b.xw p) a len > 64)

/-- REQ data credits of a request of the design. One with a reserved opcode has none behind its two header slots, and no mask section
follows an RD, ATM, NOP or FLUSH with MASKED = 1 (R39 is silent: DESIGN CHOICE, log entry 41). -/
def Block.lmSlots (b : Block) (p op : Nat) (h : LmHdr) (aop asz : Nat) : Nat :=
  let w := b.xw p
  let a := h.addr.toNat
  match op with
  | 2 | 3 => dataSlots w a (lmLen h) + (if h.masked then maskSlots w a (lmLen h) else 0)
  | 4 => cdiv (atmBytes aop asz) 12
  | _ => 0

/-- R52, R53: take a request into the buffers: its arrival number is given and its REQ credits go back at once, unless the Loom
holds traffic of the port (R21). -/
def Block.lmTake (b : Block) (p n : Nat) : Block := (b.xMod p (fun x => { x with arr := x.arr + 1 })).retReq p n

/-- R125, R127, R194, R240, Table 11.7: the answer a decoded request gets at once, if any: response code and cause, and whether
ATOMIC_REFUSED is logged. The Loom pass decides on ATOMICS and poison before the Stall die decides the rest. -/
def Block.lmRefuse (b : Block) (f m op pv host : Nat) : Option (Nat × Nat × Bool) :=
  let l := b.actLink f
  if op == 4 && bit pv 0 then some (2, 9, true)
  else if op == 4 && !b.flag .obAtomics f m then some (2, 0, true)
  else if (b.fn f).flr.isSome then some (5, 10, false)
  else if !b.dlActive l || (b.lk l).failed then some (5, 11, false)
  else if !b.bme f then some (2, 1, false)
  else if b.ideCut f (some host) then some (2, 4, false)
  else if op == 4 && !b.flag .cfgAtomEn (b.ctlOf f) (b.actSet f) then some (2, 0, true)
  else none

/-- R55: remember the answer to a write that never came into the buffers, for the FLUSH that covers it. -/
def Block.wrNote (b : Block) (p arr op code cause : Nat) : Block :=
  if op == 2 || op == 3 then b.xMod p (fun x => { x with wrs := x.wrs ++ [⟨arr, 0, code, cause⟩] }) else b

/-- R127: a request that crosses the Loom is decoded there: NOTARGET without a window; otherwise it is refused at once or waits for
its turn on its link. -/
def Block.lmDecode (b : Block) (p : Nat) (m : LmReq) : Block :=
  match b.lmWindow p m.a with
  | none => b.lmAnswer p m 3 0
  | some w =>
    let f := w.owner
    let m1 := { m with
      f := f, link := b.actLink f, host := b.rd .obHostBase f w.m * 4096 + (m.a - w.base), ph := .queued
      xl := b.flag .obTranslated f w.m, pasid := if b.flag .obPasidEn f w.m then some (b.rd .obPasid f w.m) else none
      ns := b.flag .obNoSnoop f w.m && b.flag .cfgNoSnoopEn (b.ctlOf f) (b.actSet f) }
    let b1 := b.cross (some (tetherPort p)) (some (linkPort m1.link)) (if m.op == 2 || m.op == 3 then 0 else 1) m.data.length
    match b1.lmRefuse f w.m m.op m.pvec m1.host with
    | some (code, cause, lg) =>
      let b2 := if lg then b1.logErr f { code := 4, detail := 1, addr := m.a, len := m.len } else b1
      b2.lmAnswer p m1 code cause
    | none => b1.lmMod p m.arr (fun _ => m1)

/-- R115: a request waits behind an earlier write of its port and link that has not been issued. -/
def Block.lmBehind (b : Block) (p : Nat) (m : LmReq) : Bool :=
  (b.x p).lms.any (fun y => y.arr < m.arr && y.link == m.link && (y.op == 2 || y.op == 3) &&
    (match y.ph with | .queued | .xlate => true | _ => false))

/-- A request takes its turn: it crosses and is decoded, and is issued or translated when nothing is ahead of it. -/
def Block.lmTurn (b : Block) (p arr : Nat) : Block :=
  let b1 := match b.lm? p arr with
    | some m => if m.ph == LmPh.arrived then b.lmDecode p m else b
    | none => b
  match b1.lm? p arr with
  | some m => if m.ph == LmPh.queued && !b1.lmBehind p m then b1.lmStart p m else b1
  | none => b1

/-- The requests of port p that wait take their turn in arrival order; a Loom that stands still holds them (R21). -/
def Block.lmPump (b : Block) (p : Nat) : Block :=
  if b.loom.stopped then b
  else b.each (((b.x p).lms.filter (fun m => m.ph == LmPh.arrived || m.ph == LmPh.queued)).map (·.arr)) (fun b arr => b.lmTurn p arr)

/-- Ports whose design has requests that wait. -/
def Block.lmPorts (b : Block) : List Nat := (List.range 64).filter (fun p => (b.x p).lms.any (fun m => m.ph == LmPh.arrived || m.ph == LmPh.queued))

/-- R37 to R42, R52 to R55, R66, R73, R127: a request of the design with opcode op arrives. While a CAPS of the PX896 is
unanswered it is discarded (R70). -/
def Block.lmArrive (b : Block) (p op : Nat) (h : LmHdr) (aop asz : Nat) : Block :=
  if !b.active p || (b.x p).capsSent then b
  else
    let tag := h.tag.toNat
    let n := b.lmSlots p op h aop asz
    let known := if op == 0 || op == 5 then none else b.lmOwner p h.addr.toNat
    let hdr := lmHdrDword op h aop asz
    let tooMany := (b.x p).dReqh == 0 || (b.x p).dReqd < n || b.localOut p ≥ b.xlimit p
    let arr := (b.x p).arr
    let b1 := (if tooMany then (b.fence p 2).protoErr p 6 known hdr else b).lmTake p n
    let bad := b1.lmBad p op h asz
    let size := !bad && b1.lmSize p op h aop asz
    let b2 := if bad then b1.protoErr p 3 known hdr else if size then b1.protoErr p 4 known hdr else b1
    if b2.shut p then (b2.wrNote p arr op 2 2).respond p tag 2 2
    else if bad then (b2.wrNote p arr op 2 3).respond p tag 2 3
    else if size then (b2.wrNote p arr op 6 0).respond p tag 6 0
    else if op == 0 then b2.respond p tag 0 0
    else if op == 5 then
      b2.xMod p (fun x => { x with lms := x.lms ++ [⟨arr, tag, 5, 0, 0, 0, 0, 0, 4, [], [], 0, 0, 0, false, none, false, .issued, 0, [], 0, []⟩] })
    else
      let m : LmReq := ⟨arr, tag, op, 512, 0, h.addr.toNat, 0, lmLen h, b2.xw p, h.data, if h.masked then h.mask else [],
        h.pvec.toNat, aop, asz, false, none, false, .arrived, 0, [], 0, []⟩
      (b2.xMod p (fun x => { x with lms := x.lms ++ [m] })).lmPump p

/-- R55: the writes that a FLUSH of arrival arr covers: those answered and those outstanding that arrived before it. -/
def Block.flushOpen (b : Block) (p arr : Nat) : Bool :=
  (b.x p).lms.any (fun m => m.arr < arr && (m.op == 2 || m.op == 3 || m.op == 5))

/-- R55, Table 8.1, Table 8.4: answer the oldest FLUSH when the previous FLUSH and its writes are answered: with the
cause of the earliest covered write that failed; otherwise after a zero-length read of each function used by a write
answered DONE. -/
def Block.flushStep (b : Block) (p : Nat) : Block :=
  match (b.x p).lms.find? (fun m => m.op == 5) with
  | none => b
  | some m =>
    if b.flushOpen p m.arr then b
    else
      let cov := (b.x p).wrs.filter (fun w => w.arr < m.arr)
      let fin := fun (code cause : Nat) =>
        (b.xMod p (fun x => { x with wrs := x.wrs.filter (fun w => !(w.arr < m.arr)) })).lmAnswer p m code cause
      let bad := (cov.filter (fun w => w.code == 2)).foldl
        (fun (e : Option LmWr) w => if optD e true (fun x => decide (w.arr < x.arr)) then some w else e) none
      match bad, m.ph with
      | some w, _ => fin 2 w.cause
      | none, .failing code cause => fin code cause
      | none, _ =>
        let fs := ((cov.filter (fun w => w.code == 0)).map (·.f)).dedup
        if m.left == 0 && !fs.isEmpty then
          -- its zero-length reads are issued now
          let off := fs.find? (fun f => (b.fn f).flr.isSome || !b.bme f)
          match off with
          | some f => fin 2 (if (b.fn f).flr.isSome then 1 else if b.dlActive (b.actLink f) then 1 else 7)
          | none =>
            let b1 := b.lmMod p m.arr (fun y => { y with left := 1, zfns := fs })
            b1.each fs (fun b f => b.addNp f (.flushZlr p m.arr) 0 0)
        else if m.zfns.isEmpty then fin 0 0
        else b

end Sys2Proof.Machine
end

