-- ==== Sys2Proof/Machine/Queue.lean ====
section
/-! DEFINITION. Shuttle queues (chapter 05): states, doorbells, fetches, descriptors, fragment tables, chunks, the
committed point, commands, resets and the move to a spare Shuttle. -/
namespace Sys2Proof.Machine

/-- STATE of queue n of f: 0 DISABLED, 1 ARMED, 2 RUNNING, 3 PAUSING, 4 PAUSED, 5 DRAINING, 6 HALTED (Table 5.3). -/
def Block.qSt (b : Block) (f n : Nat) : Nat := b.rd .qState f n
/-- R136: pending(P). -/
def Block.qPend (b : Block) (f n p : Nat) : Nat := (p + 2 ^ 32 - b.rd .qHead f n) % 2 ^ 32
/-- Entries of the ring. -/
def Block.ringSize (b : Block) (f n : Nat) : Nat := 2 ^ b.rd .qLog2 f n
/-- A pause cause is set. -/
def Block.qCause (b : Block) (f n : Nat) : Bool := b.flag .qPauseDrv f n || b.flag .qPauseBme f n
/-- Sub-index and record of queue n of f. -/
def Block.q (b : Block) (f n : Nat) : QDyn := b.qu (qix f n)

/-- An XLB request of module queue q. -/
def xOfQueue (q : Nat) (r : XReq) : Bool := match r.orig with | .shuttle k _ _ _ => k == q | _ => false

/-- A posted write of module queue q's data. -/
def pOfQueue (q : Nat) (w : PWr) : Bool := match w.own with | .chunk k _ => k == q | _ => false

/-- An answer that the Loom holds belongs to module queue q. -/
def backOfQueue (q : Nat) (x : LoomBack) : Bool :=
  match x with
  | .xlb _ r _ _ _ => xOfQueue q r
  | .good _ t _ | .bad _ t _ => ownQueue t.own == some q
  | .acked w => pOfQueue q w
  | .lm _ _ _ _ _ _ _ => false

/-- R148, R150: a read of the queue is in flight or a write outstanding. A write that waits for Bus Master Enable is neither. -/
def Block.qOpen (b : Block) (f n : Nat) : Bool :=
  let q := qix f n
  (b.fn f).np.any (fun t => (t.st == .sent || t.st == .silent) && ownQueue t.own == some q) ||
    (b.x (b.portOf f)).reqs.any (xOfQueue q) || (b.lk (b.actLink f)).posted.any (fun w => (w.sent || b.bme f) && pOfQueue q w) ||
    b.loomBack.any (backOfQueue q)

/-! ### Parked Shuttles -/

/-- R280, R29: a demand returns a parked Shuttle to service. -/
def Block.unpark (b : Block) (i : Nat) : Block :=
  { b with
    parked := b.parked.filter (· != i)
    gated := b.gated.filter (fun g => match g with | .shuttle k => k.val != i | _ => true) }

/-! ### Fetches (R138) -/

/-- Read k descriptors from the fetch cursor, split where the ring wraps and at Max_Read_Request_Size. -/
def Block.descRead (b : Block) (f n k : Nat) : Block :=
  if b.ideCut f (some (b.rd .qRingBase f n * 4096)) then b.haltQ f n 16 1 (b.qu (qix f n)).cursor 0 else
  let q := qix f n
  let size := b.ringSize f n
  let cur := (b.qu q).cursor
  let ps := piecesOf (min (b.mrrs f / 64) size) (cur % size) k
  let b1 := b.quMod q (fun d => { d with cursor := (cur + k) % 2 ^ 32, descOut := d.descOut + ps.length })
  b1.each ps (fun b x =>
    b.addNp f (.qDesc q ((cur + (x.1 - cur % size)) % 2 ^ 32) x.2) (b.rd .qRingBase f n * 4096 + 64 * (x.1 % size)) (64 * x.2))

/-- R138: the index read, and with it the descriptors up to a hint that lies ahead of the cursor. -/
def Block.indexFetch (b : Block) (f n : Nat) (hint : Option Nat) : Block :=
  if b.ideCut f (some (b.rd .qPidxAddr f n * 4)) then b.haltQ f n 16 1 (b.rd .qHead f n) 0 else
  let q := qix f n
  let b1 := ((b.wr .qRefetch f n 0).quMod q (fun d => { d with idxOut := true, hint := none })).addNp f (.qIndex q)
    (b.rd .qPidxAddr f n * 4) 4
  match hint with
  | none => b1
  | some h =>
    let k := (h + 2 ^ 32 - (b1.qu q).cursor) % 2 ^ 32
    if 1 ≤ k && k ≤ b1.ringSize f n then b1.descRead f n (min k 64) else b1

/-- Sum of the lengths of the fragment entries known. -/
def fragSum (l : List (Nat × Nat × Bool)) : Nat := l.foldl (fun a x => a + x.2.1) 0

/-- R141: read the next piece of a fragment table, at most up to a boundary of 4 KiB or Max_Read_Request_Size. -/
def Block.fragRead (b : Block) (f n : Nat) (r : DescRun) : Block :=
  if b.ideCut f (some r.d.fragAddr) then b.haltQ f n 16 1 r.d.ix r.fragNext else
  let q := qix f n
  let a := r.d.fragAddr + 16 * r.fragNext
  let m := min (b.mrrs f) 4096
  let k := min ((m - a % m) / 16) (r.d.fragCount - r.fragNext)
  let b1 := b.quMod q (fun d => { d with descs := mapIf (fun x => x.d.ix == r.d.ix) (fun x => { x with fragOut := true }) d.descs })
  b1.addNp f (.qFrag q r.d.ix r.fragNext) a (16 * k)

/-- Fragment tables are read ahead of the data, for FENCE only when every earlier descriptor is complete. -/
def Block.fragPump (b : Block) (f n : Nat) : Block :=
  let ds := (b.q f n).descs
  b.each ((List.range ds.length).zip ds) (fun b x =>
    let r := x.2
    if r.d.opcode == 1 && r.d.frag && !r.fragOut && r.fragNext < r.d.fragCount && fragSum r.frags < r.d.len && (!r.d.fence || x.1 == 0) then
      b.fragRead f n r
    else b)

/-! ### Ranges of a COPY -/

/-- Cut n bytes from offset `off` out of fragment entries: entry number, address, length, No Snoop. Shorter than n when
the entries known do not reach that far. -/
def fragCut : List (Nat × Nat × Bool) → Nat → Nat → Nat → List (Nat × Nat × Nat × Bool)
  | [], _, _, _ => []
  | (a, l, ns) :: t, i, off, n =>
    if n == 0 then []
    else if l ≤ off then fragCut t (i + 1) (off - l) n
    else (i, a + off, min n (l - off), ns) :: fragCut t (i + 1) 0 (n - min n (l - off))

/-- The entry that holds the byte at an offset, or the next entry to be read. -/
def fragAt : List (Nat × Nat × Bool) → Nat → Nat
  | [], _ => 0
  | (_, l, _) :: t, off => if off < l then 0 else 1 + fragAt t (off - l)

/-- A side of a descriptor, destination when `dst`: whether a fragment table describes it. -/
def sideFrag (d : Desc) (dst : Bool) : Bool := d.frag && d.fragDst == dst

/-- Ranges of a side: entry number, address, length, No Snoop. -/
def sideRanges (r : DescRun) (dst : Bool) (off n : Nat) : List (Nat × Nat × Nat × Bool) :=
  if sideFrag r.d dst then fragCut r.frags 0 off n
  else [(0, (if dst then r.d.dst else r.d.src) + off, n, r.d.noSnoop)]

/-- Space of a side (Table 5.4). -/
def sideSpace (d : Desc) (dst : Bool) : Nat := if dst then d.spaces / 4 % 4 else d.spaces % 4

/-- The contiguous ranges of a side as segments, cut at every 4 KiB boundary; `base` is their offset in the data. -/
def segsOf (d : Desc) (dst : Bool) (base : Nat) (rs : List (Nat × Nat × Nat × Bool)) : List Seg :=
  let sp := sideSpace d dst
  (rs.foldl (fun (acc : Nat × List Seg) x =>
    let ps := piecesOf 4096 x.2.1 x.2.2.1
    (acc.1 + x.2.2.1,
     acc.2 ++ ps.map (fun y => ⟨sp == 1, y.1, y.2, acc.1 + (y.1 - x.2.1), sp == 2, if sp == 2 then d.pasid else none, x.2.2.2⟩)))
    (base, [])).2

/-- Bytes of a list of ranges. -/
def rangeLen (rs : List (Nat × Nat × Nat × Bool)) : Nat := rs.foldl (fun a x => a + x.2.2.1) 0

/-- R142: length of the next ordinary chunk at an offset: up to the next page or fragment end of either side. -/
def chunkLen (r : DescRun) (off : Nat) : Nat :=
  let one := fun (dst : Bool) =>
    match sideRanges r dst off (min 4096 (r.d.len - off)) with
    | [] => 0
    | x :: _ => min x.2.2.1 (4096 - x.2.1 % 4096)
  min (one false) (one true)

/-- R170: bytes of the next Weave chunk at an offset. -/
def weaveLen (pg : Nat) (r : DescRun) (off : Nat) : Nat := min (4096 / wvUnit pg * wvUnit pg) (r.d.len - off)

/-- The packed side is the destination (R160: the interleaving modes). -/
def packedDst (pg : Nat) : Bool := wvMode pg == 1 || wvMode pg == 3

/-- R170: the ranges of one side of a Weave chunk: the packed range, or one stream piece per stream. `none` when the
fragment entries known do not cover it. -/
def weaveSegs (pg : Nat) (r : DescRun) (dst : Bool) (off n : Nat) : Option (List Seg) :=
  if packedDst pg == dst then
    let rs := sideRanges r dst off n
    if rangeLen rs == n then some (segsOf r.d dst 0 rs) else none
  else
    let s := wvS pg
    let m := n / s
    let all := (List.range s).map (fun i => sideRanges r dst (i * (r.d.len / s) + off / s) m)
    if all.all (fun rs => rangeLen rs == m) then
      some (((List.range s).zip all).flatMap (fun x => segsOf r.d dst (x.1 * m) x.2))
    else none

/-- The next chunk of a descriptor: length, source and destination segments; `none` while its fragment entries are not
known. -/
def nextChunk (r : DescRun) : Option (Nat × List Seg × List Seg) :=
  let off := r.cut
  match r.prog with
  | none =>
    let n := chunkLen r off
    if n == 0 then none
    else some (n, segsOf r.d false 0 (sideRanges r false off n), segsOf r.d true 0 (sideRanges r true off n))
  | some pg =>
    let n := weaveLen pg r off
    match weaveSegs pg r false off n, weaveSegs pg r true off n with
    | some s, some t => some (n, s, t)
    | _, _ => none

/-- FRAG at an offset of a descriptor (Table 5.3): on the fragmented side, of a WEAVE descriptor only when that is the
packed side (R171). -/
def fragShown (r : DescRun) (off : Nat) : Nat :=
  if !r.d.frag then 0
  else match r.prog with
    | none => fragAt r.frags off
    | some pg => if packedDst pg == r.d.fragDst then fragAt r.frags off else 0

/-! ### Completion of descriptors and the committed point (R143, R146) -/

/-- SHT_QCUR_DESC, SHT_QCUR_FRAG and SHT_QCUR_OFFSET show the committed point of the descriptor at HEAD. -/
def Block.curShow (b : Block) (f n : Nat) : Block :=
  match (b.q f n).descs with
  | r :: _ => ((b.wr .qCurDesc f n r.d.ix).wr .qCurFrag f n (fragShown r r.commit)).wr .qCurOffset f n r.commit
  | [] => b

/-- A descriptor is complete: HEAD advances past it, and a write-back is made when a coalescing condition holds. -/
def Block.qComplete (b : Block) (f n : Nat) (r : DescRun) : Block :=
  let q := qix f n
  let h := (b.rd .qHead f n + 1) % 2 ^ 32
  let b1 := ((((b.wr .qHead f n h).wr .qCurDesc f n h).wr .qCurFrag f n 0).wr .qCurOffset f n 0).incSat .qCntDone f n
  let b2 := if r.poisoned then b1.incSat .qCntPoisoned f n else b1
  let b3 := b2.quMod q (fun d => { d with
    descs := d.descs.tail
    coalN := if r.d.coal == 2 then d.coalN else d.coalN + 1
    coalT := match d.coalT with | some t => some t | none => some b.time })
  let b4 := b3.curShow f n
  if r.d.coal == 1 || (b4.qu q).coalN ≥ b4.rd .qCoalCount f n then b4.headWb f n else b4

/-- Complete the descriptors at the front that are done: NOPs, and COPYs committed to their length. -/
def Block.qRetire (b : Block) (f n : Nat) : Nat → Block
  | 0 => b
  | fuel + 1 =>
    match (b.q f n).descs with
    | [] => b
    | r :: _ => if r.d.opcode == 0 || r.commit == r.d.len then Block.qRetire (b.qComplete f n r) f n fuel else b

/-- Commit the chunks at the front whose writes are done. -/
def Block.qCommit (b : Block) (f n : Nat) : Nat → Block
  | 0 => b
  | fuel + 1 =>
    match (b.q f n).chunks, (b.q f n).descs with
    | c :: cs, r :: rs =>
      if c.st == .done then
        let r' := { r with commit := r.commit + c.len }
        let b1 := (b.quMod (qix f n) (fun d => { d with chunks := cs, descs := r' :: rs })).curShow f n
        Block.qCommit (b1.qRetire f n (rs.length + 1)) f n fuel
      else b
    | _, _ => b

/-! ### Translation of a chunk's ranges (R209) -/

/-- Outcome of looking up a chunk's ranges: host addresses with the cache entries used, a miss, or a failure. -/
inductive SegXl where
  | ok (l : List (Nat × Option Nat))
  | miss (pasid : Option Nat) (addr : Nat)
  | bad (why addr len : Nat) (pasid : Option Nat)
deriving DecidableEq, Repr

/-- Look up every translated range of a list of segments. -/
def Block.segsXl (b : Block) (f : Nat) (wr : Bool) : List Seg → SegXl
  | [] => .ok []
  | s :: t =>
    let one : SegXl :=
      if !s.xl then .ok [(s.addr, none)]
      else match b.xlBar f s.pasid with
        | 0 => match b.xlHit f s.pasid s.addr (!wr) wr with
          | some e => .ok [(e.xlo + (s.addr - e.lo), some e.id)]
          | none => .miss s.pasid s.addr
        | why => .bad why s.addr s.len s.pasid
    match one with
    | .ok l => match Block.segsXl b f wr t with
      | .ok m => .ok (l ++ m)
      | x => x
    | x => x

/-- Mark the cache entries of a lookup as used. -/
def Block.touchAll (b : Block) (l : List (Nat × Option Nat)) : Block :=
  b.each l (fun b x => match x.2 with | some e => b.xlTouch e | none => b)

/-- Set or clear the wait of a chunk for its translation. -/
def Block.chunkMod (b : Block) (q cid : Nat) (g : Chunk → Chunk) : Block :=
  b.quMod q (fun d => { d with chunks := mapIf (fun c => c.cid == cid) g d.chunks })

/-- A translation a chunk needs fails: the queue halts with HOST_ERROR, DETAIL 4 (R210). -/
def Block.chunkXlHalt (b : Block) (f n cid : Nat) : Block :=
  let q := qix f n
  let c? := (b.qu q).chunks.find? (fun c => c.cid == cid)
  let b1 := b.haltQ f n 16 4 (optD c? 0 (·.dix)) (optD c? 0 (·.frag))
  b1.quMod q (fun d => { d with chunks := d.chunks.filter (fun c => !(c.cid == cid && c.rdOut == 0 && c.wrOut == 0)) })

/-- The failure is logged and the queue halts. -/
def Block.chunkXlFail (b : Block) (f n cid why addr len : Nat) (pasid : Option Nat) : Block :=
  (b.xlLog f why addr len pasid).chunkXlHalt f n cid

/-! ### Reads and writes of a chunk -/

/-- One request a chunk makes: to the design (address, length, data offset, opcode, cells), or a host read (address, length,
data offset, translation entry, segment), or a host write. -/
inductive CReq where
  | loc (addr len off op : Nat) (cells : List (Byte × Bool × Bool))
  | rd (addr len off : Nat) (ent : Option Nat) (s : Seg)
  | wr (w : PWr)
deriving DecidableEq, Repr

/-- Make the requests of a chunk in order; when one halts the queue, the rest are struck off. -/
def Block.chunkSend (b : Block) (f n cid : Nat) (isW : Bool) (l : List CReq) (grp : Nat := 0) : Block :=
  let q := qix f n
  let p := b.portOf f
  b.each l (fun b r =>
    if b.qDead f n then
      (b.chunkMod q cid (fun c => if isW then { c with wrOut := c.wrOut - 1 } else { c with rdOut := c.rdOut - 1 })).quMod q
        (fun d => { d with chunks := d.chunks.filter (fun c => !(c.cid == cid && c.rdOut == 0 && c.wrOut == 0)) })
    else match r with
      | .loc a len off op cells => b.addReq p f (.shuttle q cid isW off) op a len cells 0 0 grp
      | .rd a len off ent s => if b.ideCut f (some a) then b.qFail q cid 16 1 else b.addNp f (.qData q cid off) a len ent s.xl s.pasid (s.ns && b.flag .cfgNoSnoopEn (b.ctlOf f) (b.actSet f))
      | .wr w => if b.ideCut f (some w.addr) then b.qFail q cid 16 1 else b.post (b.actLink f) w)

/-- R132, R142: issue the reads of a chunk, once its translations are known. -/
def Block.chunkReads (b : Block) (f n cid : Nat) : Block :=
  let q := qix f n
  match (b.qu q).chunks.find? (fun c => c.cid == cid && c.st == .reading && c.rdOut == 0 && c.parts.isEmpty) with
  | none => b
  | some c =>
    match b.segsXl f false c.srcs with
    | .bad why a len pas => b.chunkXlFail f n cid why a len pas
    | .miss pas a => (b.chunkMod q cid (fun c => { c with xlWait := true })).xlMiss f pas a (.seg q cid)
    | .ok xs =>
      let w := 64 * b.cutW (b.portOf f)
      let reqs := (c.srcs.zip xs).flatMap (fun x =>
        let s := x.1
        if s.loc then (piecesOf w s.addr s.len).map (fun y => CReq.loc y.1 y.2 (s.off + (y.1 - s.addr)) 1 [])
        else (piecesOf (b.mrrs f) x.2.1 s.len).map (fun y => CReq.rd y.1 y.2 (s.off + (y.1 - x.2.1)) x.2.2 s))
      let b1 := (b.touchAll xs).chunkMod q cid (fun c => { c with xlWait := false, rdOut := reqs.length })
      (b1.chunkSend f n cid false reqs).kick (b.portOf f)

/-- R145: the 64-byte granule of the destination address space that each byte of a chunk's data goes to. -/
def granules (dsts : List Seg) : List Nat := dsts.flatMap (fun s => (List.range s.len).map (fun k => (s.addr + k) / 64))

/-- R145: the granules that receive a poisoned byte of a chunk's data. -/
def badGranules (dsts : List Seg) (data : List (Byte × Bool)) : List Nat :=
  ((((granules dsts).zip data).filter (fun x => x.2.2)).map (·.1)).dedup

/-- R145: a chunk's data with the poison of its granules, those given beside its own. -/
def granulePoison (bad : List Nat) (dsts : List Seg) (data : List (Byte × Bool)) : List (Byte × Bool) :=
  let own := badGranules dsts data
  ((granules dsts).zip data).map (fun x => (x.2.1, own.contains x.1 || bad.contains x.1))

/-- Granules that a chunk covers in part only, and so may share with another chunk. -/
def sharedGranules (dsts : List Seg) : List Nat :=
  dsts.flatMap (fun s => (if s.addr % 64 == 0 then [] else [s.addr / 64]) ++
    (if (s.addr + s.len) % 64 == 0 then [] else [(s.addr + s.len) / 64]))

/-- Segments with their translations in ascending order of address. -/
def insSeg (x : Seg × (Nat × Option Nat)) : List (Seg × (Nat × Option Nat)) → List (Seg × (Nat × Option Nat))
  | [] => [x]
  | h :: t => if x.1.addr ≤ h.1.addr then x :: h :: t else h :: insSeg x t

/-- R171: the ranges that a chunk writes, in the order of its writes: of a Weave chunk with a packed destination by address. -/
def writeOrder (prog : Option Nat) (l : List (Seg × (Nat × Option Nat))) : List (Seg × (Nat × Option Nat)) :=
  match prog with
  | some pg => if packedDst pg then l.foldr insSeg [] else l
  | none => l

/-- R143, R145: issue the writes of a staged chunk. -/
def Block.chunkWrites (b : Block) (f n : Nat) (c : Chunk) (xs : List (Nat × Option Nat)) : Block :=
  let q := qix f n
  let p := b.portOf f
  let r? := (b.qu q).descs.find? (fun r => r.d.ix == c.dix)
  let wrf := optD r? false (fun r => r.d.wrf)
  let v1 := b.xver p ≥ 1
  let op := if wrf && v1 then 3 else 2
  let w := 64 * b.cutW p
  let reqs := (writeOrder (optD r? none (·.prog)) (c.dsts.zip xs)).flatMap (fun x =>
    let s := x.1
    let cells := ((c.data.drop s.off).take s.len).map (fun y => (y.1, true, y.2))
    if s.loc then (piecesOf w s.addr s.len).map (fun y =>
      CReq.loc y.1 y.2 (s.off + (y.1 - s.addr)) op ((cells.drop (y.1 - s.addr)).take y.2))
    else (memWrites (.chunk q c.cid) f (b.mps f) x.2.1 cells x.2.2 s.xl s.pasid
      (s.ns && b.flag .cfgNoSnoopEn (b.ctlOf f) (b.actSet f))).map CReq.wr)
  let flush := if wrf && !v1 && c.dsts.any (·.loc) then [CReq.loc 0 0 0 5 []] else []
  let poison := c.data.any (·.2)
  let keep := (badGranules c.dsts c.data).filter (fun g => (sharedGranules c.dsts).contains g)
  let grp := if wrf then b.nextId + 1 else 0
  let b1 := (b.touchAll xs).quMod q (fun d => { d with
    chunks := mapIf (fun y => y.cid == c.cid) (fun y => { y with st := .writing, xlWait := false, data := [], wrOut := reqs.length + flush.length }) d.chunks
    descs := mapIf (fun r => r.d.ix == c.dix && poison) (fun r => { r with
      poisoned := true, pgran := (r.pgran ++ keep).dedup }) d.descs })
  (b1.chunkSend f n c.cid true (reqs ++ flush) grp).kick p

/-- R143: issue the writes of the staged chunks at the front, in order; host writes wait while Bus Master Enable is 0. -/
def Block.qWrites (b : Block) (f n : Nat) : Nat → Block
  | 0 => b
  | fuel + 1 =>
    let st := b.qSt f n
    match (b.q f n).chunks.find? (fun c => c.st != .writing && c.st != .done) with
    | none => b
    | some c =>
      if c.st == .staged && (st == 2 || st == 3 || st == 5) && (b.bme f || c.dsts.all (·.loc)) then
        match b.segsXl f true c.dsts with
        | .bad why a len pas => b.chunkXlFail f n c.cid why a len pas
        | .miss pas a =>
          if c.xlWait then b
          else (b.chunkMod (qix f n) c.cid (fun c => { c with xlWait := true })).xlMiss f pas a (.seg (qix f n) c.cid)
        | .ok xs => Block.qWrites (b.chunkWrites f n c xs) f n fuel
      else b

/-! ### What a queue does by itself -/

/-- Reads of chunks that could not be issued while the queue was pausing are issued now. -/
def Block.qReads (b : Block) (f n : Nat) : Block :=
  b.each (((b.q f n).chunks.filter (fun c => c.st == .reading && c.rdOut == 0 && c.parts.isEmpty && !c.xlWait)).map (·.cid))
    (fun b cid => if b.qSt f n == 2 then b.chunkReads f n cid else b)

/-- A fetch of the queue is outstanding or unprocessed. -/
def QDyn.fetching (d : QDyn) : Bool :=
  d.idxOut || d.idxIn.isSome || d.descOut > 0 || !d.descIn.isEmpty || !d.fragIn.isEmpty || d.descs.any (·.fragOut)

/-- R138, R143, R148: act on a recorded doorbell, fetch descriptors up to PROD, read fragment tables, issue writes, and
return from RUNNING to ARMED when every descriptor before PROD is complete. -/
def Block.qPump (b : Block) (f n : Nat) : Block :=
  let q := qix f n
  let st := b.qSt f n
  if (b.qu q).moving || st == 0 || st == 4 || st == 6 then b
  else
    let b0 := b.qWrites f n ((b.qu q).chunks.length + 1)
    let live := b0.qSt f n == 1 || b0.qSt f n == 2
    if !live then b0
    else
      let b1 := if b0.flag .qRefetch f n && !(b0.qu q).idxOut && (b0.qu q).idxIn.isNone then b0.indexFetch f n (b0.qu q).hint else b0
      let left := (b1.rd .qProd f n + 2 ^ 32 - (b1.qu q).cursor) % 2 ^ 32
      let ahead := (b1.qPend f n ((b1.qu q).cursor)) ≤ b1.qPend f n (b1.rd .qProd f n)
      let b2 := if b1.qSt f n == 2 && (b1.qu q).descOut == 0 && (b1.qu q).descIn.isEmpty && left != 0 && ahead then
          b1.descRead f n (min left 64) else b1
      let b3 := if b2.qSt f n == 2 then (b2.fragPump f n).qReads f n else b2
      if b3.qSt f n == 2 && b3.rd .qHead f n == b3.rd .qProd f n && !(b3.qu q).fetching && !b3.flag .qRefetch f n then
        (b3.wr .qState f n 1).headWb f n
      else b3

/-- R148: leave DISABLED, by ENABLE or at the end of a drain. -/
def Block.qArm (b : Block) (f n : Nat) : Block :=
  let b1 := (b.wr .qPauseBme f n (b2n (!b.bme f))).quMod (qix f n) (fun d => { d with cursor := b.rd .qHead f n })
  if b1.qCause f n then
    (((b1.wr .qState f n 4).wr .qRefetch f n 1).headWb f n).devEvent f 2 n n
  else ((b1.wr .qState f n 1).headWb f n).indexFetch f n none

/-- R148: no pause cause remains in PAUSING or PAUSED: staged data is written first, then fetching goes on. -/
def Block.qUnpause (b : Block) (f n : Nat) : Block :=
  let st := b.qSt f n
  if (st == 3 || st == 4) && !b.qCause f n then
    let run := b.qPend f n (b.rd .qProd f n) > 0
    let b1 := b.wr .qState f n (if run then 2 else 1)
    (((if run then b1 else b1.headWb f n).unpark (b.shuttleOf f n)).qPump f n).pumpNp f
  else b

/-- R148: a pause cause was set: ARMED and RUNNING become PAUSING. -/
def Block.qPausing (b : Block) (f n : Nat) : Block :=
  if b.qSt f n == 1 || b.qSt f n == 2 then b.wr .qState f n 3 else b

/-- R150: a queue reset starts. -/
def Block.qReset (b : Block) (f n : Nat) : Block :=
  let q := qix f n
  let b1 := ((b.wr .qState f n 0).wr .qResetBusy f n 1).qDropWaiting f n
  let b2 := b1.lkMod (b.actLink f) (fun k => { k with posted := k.posted.filter (fun w => w.sent || !(pOfQueue q w || w.own == .head q)) })
  let unsent := fun (c : Chunk) => c.st != .writing && c.rdOut == 0
  (b2.quMod q (fun d => { d with
    idxIn := none, descIn := [], fragIn := [], hint := none, descs := [], coalT := none, wbWait := false
    chunks := (d.chunks.filter (fun c => !(unsent c) && c.st != .done)).map (fun c => { c with parts := [], data := [] }) })).sample f 8

/-- Keys of the fields of queue n of f that a queue reset restores. -/
def queueKey (f n : Nat) (k : RKey) : Bool :=
  k.i == f && k.j == n && (Fld.attr k.fld).unit == .queue && (Fld.attr k.fld).lvl == .queue

/-- R150: the end of a queue reset, when every outstanding request has completed or timed out. -/
def Block.qResetEnd (b : Block) (f n : Nat) : Block :=
  if b.flag .qResetBusy f n && !b.qOpen f n then
    let held := (b.q f n).held
    ({ b with regs := b.regs.filter (fun e => !(queueKey f n e.1)) }).quMod (qix f n)
      (fun d => { held := held, wbOut := d.wbOut, moving := d.moving })
  else b

/-! ### Context registers and commands -/

/-- Cause DETAIL of an invalid context (R148), 0 when it is valid. -/
def Block.ctxBad (b : Block) (f n : Nat) : Nat :=
  let rec? := optD b.img none (fun im => im.queue? f n)
  let lo := optD rec? 4 (·.kmin)
  let hi := optD rec? 16 (·.kmax)
  let k := b.rd .qLog2 f n
  if k < lo || hi < k then 1
  else if b.rd .qMsixVec f n ≥ optD (b.fnRec? f) 0 (·.vectors) then 2
  else if b.rd .qRingBase f n == 0 || b.rd .qPidxAddr f n == 0 || b.rd .qHidxAddr f n == 0 then 3
  else 0

/-- ENABLE (Table 5.6). -/
def Block.qEnable (b : Block) (f n : Nat) : Block :=
  match b.qSt f n with
  | 0 =>
    if b.val .qAvailable f n == 0 || b.flag .qResetBusy f n then b
    else match b.ctxBad f n with
      | 0 => (b.unpark (b.shuttleOf f n)).qArm f n
      | why => (b.wr .qState f n 1).haltQ f n 12 why 0 0
  | 5 => b.wr .qArmPending f n 1
  | _ => b

/-- DISABLE (Table 5.6). -/
def Block.qDisable (b : Block) (f n : Nat) : Block :=
  match b.qSt f n with
  | 1 | 2 | 3 | 4 =>
    let b1 := (b.wr .qState f n 5).quMod (qix f n) (fun d => { d with idxIn := none, descIn := [], fragIn := [], hint := none })
    b1.qPump f n
  | 5 => b.wr .qArmPending f n 0
  | _ => b

/-- PAUSE: PAUSE_DRV is set in every state except HALTED and except during a queue reset. -/
def Block.qPause (b : Block) (f n : Nat) : Block :=
  if b.qSt f n == 6 || b.flag .qResetBusy f n then b else (b.wr .qPauseDrv f n 1).qPausing f n

/-- RESUME: PAUSE_DRV is cleared likewise. -/
def Block.qResume (b : Block) (f n : Nat) : Block :=
  if b.qSt f n == 6 || b.flag .qResetBusy f n then b else (b.wr .qPauseDrv f n 0).qUnpause f n

/-- An access to a queue whose context moves is held (R154). -/
def Block.qHold (b : Block) (f n : Nat) (h : Held) : Block :=
  b.quMod (qix f n) (fun d => { d with held := d.held ++ [h] })

/-- R134: a write to SHT_QCMD performs the command of highest precedence. -/
def Block.qCmd (b : Block) (f n v : Nat) : Block :=
  if (b.q f n).moving then b.qHold f n (.cmd v)
  else if bit v 4 then b.qReset f n
  else if bit v 1 then b.qDisable f n
  else if bit v 2 then b.qPause f n
  else if bit v 3 then b.qResume f n
  else if bit v 0 then b.qEnable f n
  else b

/-- FCP offset of a register of a queue context. -/
def ctxOff (n off : Nat) : Nat := 0x8000 + 512 * n + off

/-- R133: QCTX_LOCKED. -/
def Block.qLocked (b : Block) (f n off v : Nat) : Block :=
  b.logErr f { code := 14, addr := ctxOff n off, len := 4, aux := v, queue := some n }

/-- A queue's configuration can be written now (R133). -/
def Block.qUnlocked (b : Block) (f n : Nat) : Bool := b.qSt f n == 0 && !b.flag .qResetBusy f n

/-- R133, Table 5.3: a write to SHT_QHEAD. -/
def Block.qHeadWrite (b : Block) (f n v : Nat) : Block :=
  if (b.q f n).moving then b.qHold f n (.head v)
  else if b.qUnlocked f n then
    ((((((b.wr .qHead f n v).wr .qProd f n v).wr .qLastWb f n v).wr .qCurDesc f n v).wr .qCurFrag f n 0).wr .qCurOffset f n 0).quMod
      (qix f n) (fun d => { d with coalN := 0, coalT := none, cursor := v })
  else b.qLocked f n 40 v

/-- R133: a write to a register of Table 5.2. -/
def Block.qCtxWrite (b : Block) (f n off v : Nat) : Block :=
  if (b.q f n).moving then b.qHold f n (.ctx off v)
  else if off ≥ 32 then b
  else if b.qUnlocked f n then
    match queueReg f n off with
    | some r => b.regWrite false r v
    | none => b
  else b.qLocked f n off v

/-! ### Doorbells and fetched blocks -/

/-- R137, R138, R148: a doorbell of queue n of f. -/
def Block.qBell (b : Block) (f n : Nat) (hint : Option Nat) : Block :=
  if (b.q f n).moving then b.qHold f n (.bell hint)
  else
    let q := qix f n
    let b0 := b.unpark (b.shuttleOf f n)
    match b.qSt f n with
    | 1 | 2 =>
      if (b.qu q).idxOut || (b.qu q).idxIn.isSome then (b0.wr .qRefetch f n 1).quMod q (fun d => { d with hint := hint })
      else b0.indexFetch f n hint
    | 3 | 4 => (b0.wr .qRefetch f n 1).quMod q (fun d => { d with hint := hint })
    | _ => b

/-- R138: descriptors at or beyond an accepted index are discarded unread, those still to come as well; they are fetched again when
they lie before a later index. -/
def Block.descTrim (b : Block) (f n p : Nat) : Block :=
  let q := qix f n
  let h := b.rd .qHead f n
  let back := fun (i : Nat) => (i + 2 ^ 32 - h) % 2 ^ 32
  let room := fun (start : Nat) => back p - back start
  let own := fun (o : HOwner) => match o with
    | .qDesc k s m => if k == q then HOwner.qDesc k s (min m (room s)) else o
    | _ => o
  (b.fnMod f (fun d => { d with np := d.np.map (fun t => { t with own := own t.own }) })).quMod q (fun d => { d with
    descIn := (d.descIn.map (fun x => { x with data := x.data.take (64 * room x.start) })).filter (fun x => !x.data.isEmpty)
    cursor := if back p < back d.cursor then p else d.cursor })

/-- R136: take the producer index whose read has completed. -/
def Block.qIndex (b : Block) (f n : Nat) : Block :=
  let q := qix f n
  match (b.qu q).idxIn with
  | none => b
  | some x =>
    let b1 := b.quMod q (fun d => { d with idxIn := none })
    let st := b.qSt f n
    let prod := b.rd .qProd f n
    if (b.qu q).moving then b
    else if st == 0 || st == 6 then b1
    else if x.st != 0 then b1.haltQ f n 13 x.st prod 0
    else if st == 5 then b1
    else if x.data.any (·.2) then b1.haltQ f n 13 4 prod 0
    else
      let p := leNat (x.data.map (·.1)) % 2 ^ 32
      if b.qPend f n p > b.ringSize f n then b1.haltQ f n 8 0 p 0
      else if b.qPend f n p < b.qPend f n prod then b1.haltQ f n 9 0 p 0
      else
        let b2 := (b1.wr .qProd f n p).descTrim f n p
        let b3 := if st == 1 && b2.qPend f n p > 0 then b2.wr .qState f n 2 else b2
        b3.qPump f n

/-- R139: the fields of a descriptor from its 64 bytes. -/
def parseDesc (ix : Nat) (l : List Byte) : Desc :=
  let v := leNat l
  let fl := bits v 8 8
  { ix := ix, opcode := bits v 0 8, frag := bit fl 0, fragDst := bit fl 1, weave := bit fl 2, fence := bit fl 3, wrf := bit fl 4,
    page := bit fl 5, noRepeat := bit fl 6, noSnoop := bit fl 7, spaces := bits v 16 8, wslot := bits v 24 3, len := bits v 32 32,
    src := bits v 64 64, dst := bits v 128 64, fragAddr := bits v 192 64, fragCount := bits v 256 16, coal := bits v 272 8,
    pasid := if bit v 319 then some (bits v 288 20) else none }

/-- A range of n bytes from a crosses a 4 KiB boundary. -/
def pageCross (a n : Nat) : Bool := a % 4096 + n > 4096

/-- R140, R141, R165, Table 5.7: the lowest cause for which a fetched descriptor is rejected, with its DETAIL; cause 0 when it
is accepted. -/
def Block.descCheck (b : Block) (f n : Nat) (d : Desc) (poison : Bool) : Nat × Nat :=
  let copy := d.opcode == 1
  let ss := d.spaces % 4
  let ds := d.spaces / 4 % 4
  let mayXl := optD (b.fnRec? f) false (·.privileged) && b.mode f 4
  let wvRec := optD b.img false (fun im => optD (im.queue? f n) false (·.weave))
  let pg := b.rd .wvSlotProgram f d.wslot
  let wvOk := b.mode f 7 && wvRec && pg != 0
  if d.opcode > 1 then (1, d.opcode)
  else if copy && (ss == 3 || ds == 3 || (!mayXl && (ss == 2 || ds == 2 || d.pasid.isSome))) then (2, d.spaces)
  else if copy && (d.len == 0 || (d.weave && wvOk && d.len % wvUnit pg != 0)) then (3, 0)
  else if copy && d.frag && (d.fragCount == 0 || d.fragCount > 4096) then (4, 0)
  else if copy && d.page && ((!sideFrag d false && pageCross d.src d.len) || (!sideFrag d true && pageCross d.dst d.len)) then (5, 0)
  else if poison then (6, 0)
  else if copy && d.weave && !wvOk then (10, d.wslot)
  else if copy && d.frag && d.fragAddr % 16 != 0 then (11, 0)
  else (0, 0)

/-- Check the descriptors of a fetched block in order (R140); the first rejected one halts the queue. -/
def Block.descTake (b : Block) (f n : Nat) : List (Nat × List (Byte × Bool)) → Block
  | [] => b
  | (ix, cells) :: t =>
    let d := parseDesc ix (cells.map (·.1))
    match b.descCheck f n d (cells.any (·.2)) with
    | (0, _) =>
      let prog := if d.opcode == 1 && d.weave then some (b.rd .wvSlotProgram f d.wslot) else none
      let b1 := b.quMod (qix f n) (fun q => { q with descs := q.descs ++ [⟨d, prog, [], 0, false, 0, 0, false, []⟩] })
      Block.descTake b1 f n t
    | (cause, detail) => b.haltQ f n cause detail ix 0

/-- R138, R140: process the next fetched block of descriptors. A descriptor at or beyond the accepted index is discarded
unread once no index read is outstanding, and is fetched again later. -/
def Block.qDescs (b : Block) (f n : Nat) : Block :=
  let q := qix f n
  let d := b.qu q
  let prod := b.rd .qProd f n
  let next := (b.rd .qHead f n + d.descs.length) % 2 ^ 32
  match d.descIn.find? (fun x => x.start == next) with
  | none => b
  | some x =>
    let st := b.qSt f n
    let avail := (prod + 2 ^ 32 - next) % 2 ^ 32
    let have' := x.data.length / 64
    let len := if x.st == 0 then have' else 1
    let more := d.idxOut || d.idxIn.isSome
    let m := min len avail
    if d.moving || st == 0 || st == 5 || st == 6 || (m == 0 && more) then b
    else
      -- what stays: the rest of the block while an index is still to come
      let b1 := b.quMod q (fun y => { y with
        descIn := y.descIn.filter (fun z => z.start != next) ++
          (if m < len && more && x.st == 0 then [{ x with start := (next + m) % 2 ^ 32, data := x.data.drop (64 * m) }] else []) })
      let b2 := if m < len && !more then
          b1.quMod q (fun y => { y with descIn := [], cursor := (next + m) % 2 ^ 32 }) else b1
      if m == 0 then b2.qPump f n
      else if x.st != 0 then b2.haltQ f n 13 x.st next 0
      else
        let l := (List.range m).map (fun i => ((next + i) % 2 ^ 32, (x.data.drop (64 * i)).take 64))
        let b3 := b2.descTake f n l
        (b3.qRetire f n ((b3.q f n).descs.length + 1)).qPump f n

/-- R141: take the entries of a fragment piece in order: the entries kept, or a halt cause with its entry. -/
def fragTake (d : Desc) : Nat → Nat → List (Nat × Nat × Bool × Bool) → List (Nat × Nat × Bool) × Option (Nat × Nat)
  | _, _, [] => ([], none)
  | i, sum, (a, l, ns, poison) :: t =>
    if sum ≥ d.len then ([], none)
    else if sum + l > d.len then ([], some (3, i))
    else if d.page && pageCross a l && l != 0 then ([], some (5, i))
    else if poison then ([], some (7, i))
    else if i + 1 == d.fragCount && sum + l < d.len then ([], some (3, i))
    else
      let (r, e) := fragTake d (i + 1) (sum + l) t
      ((a, l, ns) :: r, e)

/-- The entries of fragment-table data (Table 5.5): address, length, No Snoop, poison. -/
def parseFrags (data : List (Byte × Bool)) : List (Nat × Nat × Bool × Bool) :=
  (List.range (data.length / 16)).map (fun i =>
    let c := (data.drop (16 * i)).take 16
    let v := leNat (c.map (·.1))
    (bits v 0 64, bits v 64 32, bit v 96, c.any (·.2)))

/-- R141: process the next piece of a fragment table. -/
def Block.qFrags (b : Block) (f n : Nat) : Block :=
  let q := qix f n
  match (b.qu q).fragIn with
  | [] => b
  | x :: xs =>
    if (b.qu q).moving then b
    else
      let b1 := b.quMod q (fun d => { d with fragIn := xs })
      let st := b.qSt f n
      match (b.qu q).descs.find? (fun r => r.d.ix == x.dix) with
      | none => b1
      | some r =>
        if st == 0 || st == 5 || st == 6 then b1
        else if x.st != 0 then b1.haltQ f n 13 x.st x.dix 0
        else
          let es := parseFrags x.data
          match fragTake r.d r.fragNext (fragSum r.frags) es with
          | (_, some (cause, i)) => b1.haltQ f n cause 0 x.dix i
          | (got, none) =>
            let upd := fun (y : DescRun) => { y with frags := y.frags ++ got, fragNext := y.fragNext + es.length, fragOut := false }
            let b2 := b1.quMod q (fun d => { d with descs := mapIf (fun y => y.d.ix == x.dix) upd d.descs })
            (b2.curShow f n).qPump f n

/-! ### Chunks -/

/-- Chunks for which a Shuttle's staging is taken. -/
def Block.stagingUsed (b : Block) (i : Nat) : Nat :=
  (((b.queues.map (·.1)).dedup.filter (fun q => b.shuttleOf (q / 32) (q % 32) == i)).map (fun q =>
    ((b.qu q).chunks.filter (fun c => c.st == .reading || c.st == .arrived || c.st == .staged)).length)).foldl (· + ·) 0

/-- R132, R142: the next chunk of a RUNNING queue whose read can be issued: its descriptor, length, source and destination. -/
def Block.qNext (b : Block) (f n : Nat) : Option (DescRun × Nat × List Seg × List Seg) :=
  let d := b.q f n
  let busy := (d.chunks.filter (fun c => c.st == .reading)).length
  match (List.range d.descs.length).zip d.descs |>.find? (fun x => x.2.d.opcode == 1 && x.2.cut < x.2.d.len) with
  | none => none
  | some (i, r) =>
    if d.moving || b.qSt f n != 2 || busy ≥ 16 || (r.d.fence && i != 0) then none
    else (nextChunk r).map (fun x => (r, x))

/-- R132: the Shuttle's rotation has come to module queue q: no other queue of the Shuttle with a chunk to read lies between the
queue served last and it, in ascending number (which order the rotation has is the model's reading: DEDUCED, log entry 50). -/
def Block.qTurn (b : Block) (q : Nat) : Bool :=
  let i := b.shuttleOf (q / 32) (q % 32)
  let last := unitOf 0 b.shutRot i
  let far := fun (k : Nat) => (k + 16384 - (last + 1)) % 16384
  ((b.queues.map (·.1)).dedup.filter (fun k => b.shuttleOf (k / 32) (k % 32) == i && far k < far q)).all (fun k =>
    (b.qNext (k / 32) (k % 32)).isNone)

/-- R132, R142, R170: issue the read of the next chunk of a RUNNING queue whose turn it is, with staging free for it. -/
def Block.qChunk (b : Block) (f n : Nat) : Block :=
  let q := qix f n
  let d := b.qu q
  let i := b.shuttleOf f n
  match b.qNext f n with
  | none => b
  | some (r, len, srcs, dsts) =>
    if b.stagingUsed i ≥ 64 || !b.qTurn q then b
    else
      let ch : Chunk := ⟨d.nextCid, r.d.ix, r.cut, len, fragShown r r.cut, srcs, dsts, [], [], 0, 0, false, false, .reading⟩
      let upd := fun (y : DescRun) => { y with cut := y.cut + len }
      let b1 := { b with shutRot := (i, q) :: dropKey i b.shutRot }.quMod q (fun y => { y with
        nextCid := y.nextCid + 1, chunks := y.chunks ++ [ch], descs := mapIf (fun z => z.d.ix == r.d.ix) upd y.descs })
      b1.chunkReads f n d.nextCid

/-- R145, R172: the transformed data of a chunk that has arrived, with the poison of its source bytes. -/
def Block.chunkOut (b : Block) (q : Nat) (c : Chunk) : List (Byte × Bool) :=
  let raw := c.parts.flatMap (·.2)
  match optD ((b.qu q).descs.find? (fun r => r.d.ix == c.dix)) none (·.prog) with
  | some pg => wvApply pg raw
  | none => raw

/-- R143, R145, R171, R172: stage the data of the next chunk that has arrived, transform it, and issue writes in order. -/
def Block.qStage (b : Block) (f n : Nat) : Block :=
  let q := qix f n
  match (b.qu q).chunks.find? (fun c => c.st == .arrived) with
  | none => b
  | some c =>
    if (b.qu q).moving then b
    else
      -- a granule is poisoned by any byte of its descriptor that has arrived
      let bad := optD ((b.qu q).descs.find? (fun r => r.d.ix == c.dix)) [] (·.pgran) ++
        ((b.qu q).chunks.filter (fun y => y.dix == c.dix)).flatMap (fun y =>
          if y.st == .arrived then badGranules y.dsts (b.chunkOut q y) else if y.st == .staged then badGranules y.dsts y.data else [])
      let g := fun (y : Chunk) =>
        if y.cid == c.cid then { y with st := .staged, parts := [], data := granulePoison bad c.dsts (b.chunkOut q c) }
        else { y with data := granulePoison bad y.dsts y.data }
      (b.quMod q (fun d => { d with
        chunks := mapIf (fun y => y.cid == c.cid || (y.dix == c.dix && y.st == .staged)) g d.chunks })).qPump f n

/-- R143: the committed point advances over the chunks at the front whose writes are done. -/
def Block.qAdvance (b : Block) (f n : Nat) : Block :=
  if (b.q f n).moving || b.qDead f n then b else (b.qCommit f n ((b.q f n).chunks.length + 1)).qPump f n

/-- R209: go on with a chunk that waited for a translation. -/
def Block.segRetry (b : Block) (q cid : Nat) : Block :=
  let f := q / 32
  let n := q % 32
  let b1 := b.chunkMod q cid (fun c => { c with xlWait := false })
  match (b1.qu q).chunks.find? (fun c => c.cid == cid) with
  | none => b
  | some c => if c.st == .reading then (if b1.qSt f n == 2 then b1.chunkReads f n cid else b1) else b1.qPump f n

/-- R148: nothing of the queue is in flight and nothing it can still do by itself is left. -/
def Block.qQuiet (b : Block) (f n : Nat) : Bool :=
  let d := b.q f n
  !b.qOpen f n && d.idxIn.isNone && !d.moving &&
    d.chunks.all (fun c => c.st != .arrived && c.st != .done && !(c.st == .staged && (b.bme f || c.dsts.all (·.loc)) && !c.xlWait &&
      d.chunks.head? == some c))

/-- R148, R153: PAUSING becomes PAUSED. A chunk of which a part has been written keeps the queue in PAUSING (DEDUCED, log entry
48). -/
def Block.qPaused (b : Block) (f n : Nat) : Block :=
  if b.qSt f n == 3 && b.qQuiet f n && (b.q f n).chunks.all (fun c => c.st != .writing) then ((b.wr .qState f n 4).headWb f n).devEvent f 2 n n else b

/-- R148: the end of a drain. -/
def Block.qDrained (b : Block) (f n : Nat) : Block :=
  let q := qix f n
  if b.qSt f n == 5 && b.qQuiet f n then
    let b1 := ((b.qDropWaiting f n).quMod q (fun d => { d with
      chunks := [], descs := [], descOut := 0, idxOut := false, cursor := b.rd .qHead f n })).lkMod (b.actLink f)
      (fun k => { k with posted := k.posted.filter (fun w => w.sent || !(pOfQueue q w)) })
    let b2 := (((b1.wr .qState f n 0).wr .qCurDesc f n (b.rd .qHead f n)).wr .qCurFrag f n 0).wr .qCurOffset f n 0
    let arm := b.flag .qArmPending f n
    let b3 := (b2.wr .qArmPending f n 0).headWb f n
    if arm then b3.qArm f n else b3
  else b

/-! ### Bus Master Enable and the queues (R194, R195) -/

/-- Host writes of a chunk of which nothing has been sent go back to staging. -/
def Block.qPullBack (b : Block) (f n : Nat) : Block :=
  let q := qix f n
  let l := b.actLink f
  b.each (b.q f n).chunks (fun b c =>
    let mine := fun (w : PWr) => w.own == .chunk q c.cid
    let ws := (b.lk l).posted.filter mine
    if c.st == .writing && !ws.isEmpty && ws.length == c.wrOut && ws.all (fun w => !w.sent) then
      let cells := ws.flatMap (fun w => w.data.map (fun x => (x.1, x.2, w.ep)))
      let data := (cells.filter (fun x => x.2.1)).map (fun x => (x.1, x.2.2))
      (b.lkMod l (fun k => { k with posted := k.posted.filter (fun w => !(mine w)) })).chunkMod q c.cid
        (fun c => { c with st := .staged, wrOut := 0, data := data })
    else b)

/-- R194: PAUSE_BME is set in every queue of f that is not DISABLED. -/
def Block.qBmeOff (b : Block) (f : Nat) : Block :=
  b.each (List.range 32) (fun b n => if b.qSt f n == 0 then b else ((b.wr .qPauseBme f n 1).qPausing f n).qPullBack f n)

/-- R195 step 1: PAUSE_BME is cleared in every queue, and each leaves PAUSING or PAUSED. -/
def Block.qBmeOn (b : Block) (f : Nat) : Block :=
  b.each (List.range 32) (fun b n =>
    let b1 := b.wr .qPauseBme f n 0
    if b1.qSt f n == 5 then b1.qPump f n else b1.qUnpause f n)

/-! ### Substitution of a Shuttle (R154) -/

/-- A queue starts to move (log entry 22): data staged or in flight is lost, and what is beyond the committed point will be issued again. -/
def Block.qMoveStart (b : Block) (q : Nat) : Block :=
  let f := q / 32
  let n := q % 32
  let silent := fun (t : HTag) => { t with st := HSt.silent }
  let mine := fun (t : HTag) => ownQueue t.own == some q
  let b1 := (b.dropNp f (fun t => mine t && t.st == .waiting)).fnMod f (fun d =>
    { d with np := mapIf (fun t => mine t && t.st == .sent) silent d.np })
  let b2 := b1.lkMod (b.actLink f) (fun k => { k with posted := k.posted.filter (fun w => w.sent || !(pOfQueue q w)) })
  let b3 := { b2 with loomBack := b2.loomBack.filter (fun x => !(backOfQueue q x)) }
  let d := b.qu q
  let again := fun (r : DescRun) => { r with cut := r.commit, fragOut := false }
  b3.quMod q (fun y => { y with
    moving := true, chunks := [], idxIn := none, descIn := [], fragIn := [], descOut := 0, idxOut := d.idxOut || d.idxIn.isSome
    descs := y.descs.map again, cursor := (b.rd .qHead f n + y.descs.length) % 2 ^ 32 })

/-- A request of a chunk has been issued. -/
def Block.chunkIssued (b : Block) (q : Nat) (c : Chunk) : Bool :=
  c.st != .reading || !c.parts.isEmpty || b.unsentReads q c.cid < c.rdOut

/-- R152, R154: the NO_REPEAT descriptor of the queue that has a request beyond its committed point, with its fragment there. -/
def Block.qLoses (b : Block) (q : Nat) : Option (Nat × Nat) :=
  let d := b.qu q
  (d.descs.find? (fun r => r.d.noRepeat && (r.fragOut || d.chunks.any (fun c => c.dix == r.d.ix && b.chunkIssued q c)))).map
    (fun r => (r.d.ix, fragShown r r.commit))

/-- The context has moved: the queue goes on where it was, or halts with SHUTTLE_LOST. -/
def Block.qMoveEnd (b : Block) (q lame : Nat) (spare : Option Nat) (lost : Option (Nat × Nat)) : Block :=
  let f := q / 32
  let n := q % 32
  let info := lame + 2 ^ 16 * spare.getD 65535
  let d := b.qu q
  let b1 := (b.quMod q (fun d => { d with moving := false, idxOut := false })).devEvent f 6 n info
  match lost with
  | some (ix, frag) => b1.haltQ f n 18 (lame % 256) ix frag
  | none =>
    let st := b1.qSt f n
    let b2 := if d.idxOut && (st == 1 || st == 2) then b1.indexFetch f n none
      else if d.idxOut && (st == 3 || st == 4) then b1.wr .qRefetch f n 1 else b1
    b2.qPump f n

end Sys2Proof.Machine
end

