-- ==== Sys2Proof/Machine/Spur.lean ====
section
/-! DEFINITION. The Spur interrupt controller and the rein lines on the Loom (chapter 07): selection, ISSUE, EOI, delivery
forms, INTx emulation, and the raise of REINS. -/
namespace Sys2Proof.Machine

/-! ### Messages -/

/-- The MSI-X entry is masked: its Vector Control Mask or the Function Mask (R178). -/
def Block.vecMasked (b : Block) (f vec : Nat) : Bool := b.flag .msixVmask f vec || b.flag .cfgMsixFmask f (b.actSet f)

/-- R186: a message of MSI-X entry vec: sent, or held by its Pending Bit. -/
def Block.vecSend (b : Block) (f vec : Nat) : Block :=
  if b.vecMasked f vec || !b.mayUse f (some (b.rd .msixAddr f vec)) then b.wr .msixPend f vec 1
  else b.post (b.actLink f) (plainW (.irq f vec) f (b.rd .msixAddr f vec) (leBytes (b.rd .msixData f vec) 4))

/-- Number of MSI vectors allocated (Table 7.6). -/
def Block.msiCount (b : Block) (f : Nat) : Nat := 2 ^ min 5 (b.rd .cfgMsiMme f (b.actSet f))

/-- R186: a message of MSI vector v. -/
def Block.msiSend (b : Block) (f v : Nat) : Block :=
  let j := b.actSet f
  let a := b.msiCount f
  if bit (b.rd .cfgMsiMask f j) v || !b.mayUse f (some (b.rd .cfgMsiAddr f j)) then b.setBits .cfgMsiPend f j (2 ^ v)
  else b.post (b.actLink f) (plainW (.irq f v) f (b.rd .cfgMsiAddr f j) (leBytes (b.rd .cfgMsiData f j / a * a + v) 4))

/-- A message through entry or vector vec in the delivery form in force. -/
def Block.vecIssue (b : Block) (f vec : Nat) : Block :=
  match b.delivery f with
  | 1 => b.vecSend f vec
  | 2 => b.msiSend f (vec % b.msiCount f)
  | _ => b

/-- Whether the target's entry or vector is unmasked (R178, R186). -/
def Block.tgtUnmasked (b : Block) (f vec : Nat) : Bool :=
  if b.delivery f == 2 then !bit (b.rd .cfgMsiMask f (b.actSet f)) (vec % b.msiCount f) else !b.vecMasked f vec

/-- R186, R195: send the messages whose Pending Bit is set and whose vectors are unmasked. -/
def Block.pendFlush (b : Block) (f : Nat) : Block :=
  if !b.bme f then b
  else match b.delivery f with
    | 1 => b.each (List.range 64) (fun b v =>
        if b.flag .msixPend f v && !b.vecMasked f v then (b.wr .msixPend f v 0).vecSend f v else b)
    | 2 =>
      let j := b.actSet f
      b.each (List.range 32) (fun b v =>
        if bit (b.rd .cfgMsiPend f j) v && !bit (b.rd .cfgMsiMask f j) v then (b.clrBits .cfgMsiPend f j (2 ^ v)).msiSend f v else b)
    | _ => b

/-! ### INTx emulation (R188) -/

/-- A source of f is IN_SERVICE or a queue signal is kept. -/
def Block.intxPend (b : Block) (f : Nat) : Bool :=
  b.delivery f == 3 && ((List.range 15).any (fun s => b.rd .srcState f s == 3) || b.rd .spQpend f != 0)

/-- Interrupt level of f. -/
def Block.intxLevel (b : Block) (f : Nat) : Bool := b.intxPend f && !b.flag .cfgIntDis f (b.actSet f)

/-- Combined level of a line (0 INTA to 3 INTD) on link l. -/
def Block.intxComb (b : Block) (l pin : Nat) : Bool :=
  b.fnRecs.any (fun r => r.intPin == pin + 1 && b.actLink r.f == l && b.intxLevel r.f)

/-- Send Assert_INTx or Deassert_INTx when the combined level differs from the level last sent and the spacing and the
link allow. -/
def Block.intxSend (b : Block) (l pin : Nat) : Block :=
  let k := b.lk l
  let lev := b.intxComb l pin
  if lev == k.intxLast[pin]?.getD false || k.intxBusy[pin]?.getD false || !b.inL0 l then b
  else (b.lkMod l (fun k => { k with intxLast := k.intxLast.set pin lev, intxBusy := k.intxBusy.set pin true })).emit
    (.msg l (if lev then .assertIntx pin else .deassertIntx pin))

/-- Judge the lines of the link of f again. -/
def Block.intxF (b : Block) (f : Nat) : Block :=
  match b.fnRec? f with
  | some r => if r.intPin == 0 then b else b.intxSend (b.actLink f) (r.intPin - 1)
  | none => b

/-- Judge every line of a link again (on its return to L0). -/
def Block.intxLink (b : Block) (l : Nat) : Block := b.each (List.range 4) (fun b pin => b.intxSend l pin)

/-! ### Selection (R176 to R181) -/

/-- A target of source s is enabled. -/
def Block.anyTgt (b : Block) (f s : Nat) : Bool := (List.range 8).any (fun t => b.flag .tgtEn f (8 * s + t))

/-- R176: source s is selectable. -/
def Block.selectable (b : Block) (f s : Nat) : Bool :=
  let m := b.delivery f
  m != 0 && b.rd .srcState f s == 1 && !bit (b.rd .spMask f) s && (m == 3 || b.anyTgt f s)

/-- Source now SELECTED. -/
def Block.selected? (b : Block) (f : Nat) : Option Nat := (List.range 15).find? (fun s => b.rd .srcState f s == 2)

/-- Priority by which source s is judged: that of its SELECT while it is SELECTED (R184). -/
def Block.judgePrio (b : Block) (f s : Nat) : Nat := if b.rd .srcState f s == 2 then b.rd .selSrc f else b.rd .srcPrio f s

/-- R177: the winner of a list of sources in order of the rotation: the first of highest priority. -/
def Block.winner (b : Block) (f : Nat) (l : List Nat) : Option Nat :=
  l.foldl (fun (m : Option Nat) s =>
    match m with
    | none => some s
    | some x => if b.judgePrio f x < b.judgePrio f s then some s else some x) none

/-- The sources from the rotation pointer on, with wrap from 14 to 0. -/
def Block.rotation (b : Block) (f : Nat) : List Nat := (List.range 15).map (fun i => (b.rd .spRotate f + i) % 15)

/-- R178: the target chosen at SELECT. -/
def Block.pickTgt (b : Block) (f s : Nat) : Nat :=
  let ring := (List.range 8).map (fun i => (b.rd .srcNextTgt f s + i) % 8)
  let on := ring.filter (fun t => b.flag .tgtEn f (8 * s + t))
  match on.find? (fun t => b.tgtUnmasked f (b.rd .tgtVec f (8 * s + t))) with
  | some t => t
  | none => on.head?.getD 0

/-- SELECT of source s: its priority, its target and the target's entry are kept until the commit (R184). -/
def Block.selTake (b : Block) (f s : Nat) : Block :=
  let t := b.pickTgt f s
  (((b.wr .srcState f s 2).wr .selSrc f 0 (b.rd .srcPrio f s)).wr .selTgt f 0 t).wr .selVec f 0 (b.rd .tgtVec f (8 * s + t))

/-- R177, R179: one round of the selector. -/
def Block.spurRound (b : Block) (f : Nat) : Block :=
  let w := b.winner f ((b.rotation f).filter (fun s => b.selectable f s || b.rd .srcState f s == 2))
  match w, b.selected? f with
  | none, _ => b
  | some s, none => b.selTake f s
  | some s, some old => if s == old then b else ((b.wr .srcState f old 1).incSat .spCntPreempt f).selTake f s

/-- Table 7.2: an uncommitted selection is withdrawn. -/
def Block.spurWithdraw (b : Block) (f : Nat) : Block :=
  match b.selected? f with
  | some s => b.wr .srcState f s (b2n (b.srcReq f s))
  | none => b

/-- R179, R186, R188: ISSUE commits. -/
def Block.spurCommit (b : Block) (f : Nat) : Block :=
  match b.selected? f with
  | none => b
  | some s =>
    let m := b.delivery f
    if m == 0 then b.spurWithdraw f
    else
      let t := b.rd .selTgt f
      let vec := b.rd .selVec f
      let b1 := ((b.wr .srcState f s 3).wr .srcLatch f s 0).wr .spRotate f 0 ((s + 1) % 15)
      -- with no target enabled, as INTx delivery allows, no target is used
      let b2 := if b.anyTgt f s then (b1.wr .srcNextTgt f s ((t + 1) % 8)).wr .srcLastVec f s vec else b1
      if m == 3 then b2.intxF f else b2.vecIssue f vec

/-! ### Register writes -/

/-- Sources of a register value, ascending. -/
def srcBits (v : Nat) : List Nat := (List.range 15).filter (fun s => bit v s)

/-- SPUR_MASK_SET: a mask stops a source before its ISSUE commits. -/
def Block.spurMaskOn (b : Block) (f v : Nat) : Block :=
  let b1 := b.setBits .spMask f 0 (v % 2 ^ 15)
  match b.selected? f with
  | some s => if bit v s then b1.spurWithdraw f else b1
  | none => b1

/-- SPUR_PEND_CLR: LATCH only. -/
def Block.spurPendOff (b : Block) (f v : Nat) : Block :=
  b.each (srcBits v) (fun b s => (b.wr .srcLatch f s 0).sample f s)

/-- SPUR_EOI (R181, R182): service of an IN_SERVICE source ends at its re-sample; another bit counts STRAY_EOI. -/
def Block.spurEoiW (b : Block) (f v : Nat) : Block :=
  let mark := (b.x (b.portOf f)).arr
  b.each (srcBits v) (fun b s =>
    if b.rd .srcState f s != 3 then b.incSat .spCntStrayEoi f
    else if (b.fn f).eoiWait.any (fun e => e.1 == s) then b
    else b.fnMod f (fun d => { d with eoiWait := d.eoiWait ++ [(s, mark)] }))

/-- R182: a LINES message that arrived before the EOI of source s is still in the interrupt fence. -/
def Block.eoiHeld (b : Block) (f s mark : Nat) : Bool :=
  s < 8 && (b.x (b.portOf f)).fenceQ.any (fun m => m.kind == 0 && m.arr < mark)

/-- RESAMPLE of source s after its EOI (Table 7.2, R182). -/
def Block.spurResampleS (b : Block) (f s : Nat) : Block :=
  match (b.fn f).eoiWait.find? (fun e => e.1 == s) with
  | none => b
  | some e =>
    if b.eoiHeld f s e.2 then b
    else ((b.fnMod f (fun d => { d with eoiWait := d.eoiWait.filter (fun x => x.1 != s) })).wr .srcState f s
      (b2n (b.srcReq f s))).intxF f

/-- R184: a write to a priority or to targets; the chosen target of an uncommitted selection being disabled withdraws it. -/
def Block.spurCfgW (b : Block) (f off v : Nat) : Block :=
  match fcpReg f off with
  | none => b
  | some r =>
    if r.j == 15 || !(r.reg == .spurSrcCfg || r.reg == .spurSrcTgtLo || r.reg == .spurSrcTgtHi) then b
    else
      let vecs := optD (b.fnRec? f) 0 (·.vectors)
      let b1 := b.regWrite true r v (fun fld x => if fld == .tgtVec then x < vecs else true)
      match b1.selected? f with
      | some s =>
        let k := 8 * s + b.rd .selTgt f
        if b.flag .tgtEn f k && !b1.flag .tgtEn f k then b1.spurWithdraw f else b1
      | none => b1

/-- R186: when the form of delivery in force is not `old` any more, an uncommitted selection is withdrawn. -/
def Block.formJudge (b : Block) (f old : Nat) : Block :=
  if b.delivery f == old then b else ((b.spurWithdraw f).pendFlush f).intxF f

/-- R186: MSI-X Enable and MSI Enable of one configuration set are written. -/
def Block.formWrite (b : Block) (f j : Nat) (msix msi : Bool) : Block :=
  let old := b.delivery f
  ((b.wr .cfgMsixEn f j (b2n msix)).wr .cfgMsiEn f j (b2n msi)).formJudge f old

/-- R147, R187: the signal of an accepted head write-back. -/
def Block.qSignal (b : Block) (f n : Nat) : Block :=
  let q := qix f n
  if (b.qu q).wbOut == 0 then b
  else
    let b1 := b.quMod q (fun d => { d with wbOut := d.wbOut - 1 })
    if !b.flag .qMsixEn f n || b.flag .qResetBusy f n then b1
    else if b.delivery f == 3 then (b1.setBits .spQpend f 0 (2 ^ n)).intxF f
    else b1.vecIssue f (b.rd .qMsixVec f n)

/-! ### Answers of the Groom (R83, R349, R360) -/

/-- An answer on a management transport; one in a DOE mailbox raises the mailbox's interrupt, on MSI-X vector 0, when enabled. -/
def Block.answer (b : Block) (tr : Transport) (a : Ans) : Block :=
  match tr with
  | .doe f =>
    let b1 := (b.emit (.mgmt tr a)).fnMod f.val (fun d => { d with doeRdy := true })
    if (b.fn f.val).doeIe && b.delivery f.val == 1 then b1.vecSend f.val 0 else b1
  | _ => b.emit (.mgmt tr a)

/-! ### Rein lines (R190, R191) -/

/-- R191: bits of CHG are set; REINS is raised now or once at the end of the period. -/
def Block.reinChanged (b : Block) (f m : Nat) : Block :=
  if m == 0 then b
  else
    let b1 := b.setBits .reinsInChg f 0 m
    let last := b1.rd .lastRein f
    if last == 0 || b1.time + 1 - last ≥ b1.rd .reinsPeriodUs f then
      ((b1.wr .lastRein f 0 (b1.time + 1)).wr .reinWait f 0 0).raise f 11
    else b1.wr .reinWait f 0 1

/-- R190: a new local-to-host value. -/
def Block.reinTake (b : Block) (f v : Nat) : Block :=
  let old := b.rd .reinsInValue f
  (b.wr .reinsInValue f 0 v).reinChanged f (old ^^^ v)

/-- R191: the end of a period with deferred changes. -/
def Block.reinPeriod (b : Block) (f : Nat) : Block :=
  if b.flag .reinWait f then ((b.wr .lastRein f 0 (b.time + 1)).wr .reinWait f 0 0).raise f 11 else b

end Sys2Proof.Machine
end

