-- ==== Sys2Proof/Machine/HostCpl.lean ====
section
/-! DEFINITION. What arrives from the hosts for requests of the functions: Acks, completions, timeouts, and the translation
traffic (R54, R128, R143, R197 to R201, R209 to R214, R295). -/
namespace Sys2Proof.Machine

/-! ### Acks -/

/-- The unit that made a posted write learns that an Ack covers it (R54, R143). -/
def Block.ackGo (b : Block) (w : PWr) : Block :=
  match w.own with
  | .lm p arr => b.lmTry p arr
  | .chunk q cid => b.qWrote q cid
  | _ => b

/-- Something for queue q comes back from the Stall die of link l over the Loom (Table 1.4); a Loom that stands still holds it
(R21). -/
def Block.backTo (b : Block) (l q bytes : Nat) (held : LoomBack) (g : Block → Block) : Block :=
  if b.loom.stopped then { b with loomBack := b.loomBack ++ [held] }
  else g (b.cross (some (linkPort l)) (some (b.queuePort q)) 2 bytes)

/-- A posted write is covered by an Ack: what it belongs to goes on (R54, R143). -/
def Block.wAcked (b : Block) (w : PWr) : Block :=
  match w.own with
  | .chunk q _ => b.backTo (b.actLink w.f) q 0 (.acked w) (fun b => b.ackGo w)
  | _ => b.ackGo w

/-- The queue of a request, for FCP_ERR_HDR.QUEUE (Table 12.5). -/
def errQueue (o : HOwner) : Option Nat := (ownQueue o).map (fun q => q % 32)

/-- R54: an Ack DLLP covers the n oldest unacknowledged Memory Writes of link l. -/
def Block.ackN (b : Block) (l n : Nat) : Block :=
  let sent := (b.lk l).posted.filter (·.sent)
  let rest := (b.lk l).posted.filter (fun w => !w.sent)
  (b.lkMod l (fun k => { k with posted := sent.drop n ++ rest })).each (sent.take n) (fun b w => b.wAcked w)

/-! ### Ends of non-posted requests -/

/-- Cause of Table 2.7 for the end of a host request: 1 UR, 2 CA, 3 timeout. -/
def hostCause (st : Nat) : Nat := if st == 1 then 4 else if st == 2 then 5 else 6

/-- A fetch of a queue ends badly: FETCH_ERROR with DETAIL st (Table 5.7). -/
def Block.fetchBad (b : Block) (q desc st : Nat) : Block :=
  let b1 := b.haltQ (q / 32) (q % 32) 13 st desc 0
  b1.quMod q (fun d => { d with descs := d.descs.map (fun r => { r with fragOut := false }) })

/-- The unit that made a non-posted request of f learns its bad end: st 1 Unsupported Request, 2 Completer Abort, 3 timeout
(Tables 5.7, 8.3). -/
def Block.badGo (b : Block) (f : Nat) (t : HTag) (st : Nat) : Block :=
  match t.own with
  | .lmRd p arr _ => (b.lmMod p arr (fun m => { m with left := m.left - 1 })).lmFail p arr 2 (hostCause st)
  | .lmAtm p arr =>
    match b.lm? p arr with
    | some m => b.lmAnswer p m 2 (hostCause st)
    | none => b
  | .lmZlr p arr => (b.lmMod p arr (fun m => { m with zlr := 3 })).lmFail p arr 2 (hostCause st)
  | .flushZlr p arr =>
    b.lmMod p arr (fun m => { m with
      zfns := m.zfns.filter (· != f), ph := match m.ph with | .failing c x => .failing c x | _ => .failing 2 (hostCause st) })
  | .qIndex q => (b.quMod q (fun d => { d with idxOut := false })).fetchBad q (b.rd .qProd (q / 32) (q % 32)) st
  | .qDesc q start _ => (b.quMod q (fun d => { d with descOut := d.descOut - 1 })).fetchBad q start st
  | .qFrag q dix _ => b.fetchBad q dix st
  | .qData q cid _ => b.qFail q cid 16 st
  | .xlate _ => b

/-- A non-posted request of f ends badly: st 1 Unsupported Request, 2 Completer Abort, 3 timeout. -/
def Block.npBad (b : Block) (f : Nat) (t : HTag) (st : Nat) : Block :=
  match ownQueue t.own with
  | some q => b.backTo (b.actLink f) q 0 (.bad f t st) (fun b => b.badGo f t st)
  | none => b.badGo f t st

/-- The queue takes fetched blocks: it is neither disabled, draining nor halted. -/
def Block.qTakes (b : Block) (q : Nat) : Bool :=
  let st := b.rd .qState (q / 32) (q % 32)
  st != 0 && st != 5 && st != 6

/-- The unit that made a non-posted request of f takes its data (R125, R128, R138, R143). -/
def Block.goodGo (b : Block) (f : Nat) (t : HTag) (cells : List (Byte × Bool)) : Block :=
  match t.own with
  | .lmRd p arr off =>
    (b.lmMod p arr (fun m => { m with left := m.left - 1, got := insertPart off cells m.got })).lmTry p arr
  | .lmAtm p arr =>
    match b.lm? p arr with
    | some m =>
      let bad := cells.any (·.2)
      b.lmAnswer p m (b2n bad) 0 (b2n bad) (cells.map (·.1))
    | none => b
  | .lmZlr p arr => (b.lmMod p arr (fun m => { m with zlr := 3 })).lmTry p arr
  | .flushZlr p arr => b.lmMod p arr (fun m => { m with zfns := m.zfns.filter (· != f) })
  | .qIndex q =>
    let t' := b.rd .qState (q / 32) (q % 32)
    b.quMod q (fun d => { d with idxOut := false, idxIn := if t' == 0 || t' == 6 then none else some ⟨0, 0, 0, cells⟩ })
  | .qDesc q start keep =>
    let got := cells.take (64 * keep)
    let ok := b.qTakes q && !got.isEmpty
    b.quMod q (fun d => { d with
      descOut := d.descOut - 1, descIn := if ok then d.descIn ++ [⟨start, 0, 0, got⟩] else d.descIn })
  | .qFrag q dix first =>
    let ok := b.qTakes q
    b.quMod q (fun d => { d with
      fragIn := if ok then d.fragIn ++ [⟨first, dix, 0, cells⟩] else d.fragIn
      descs := if ok then d.descs else d.descs.map (fun r => { r with fragOut := false }) })
  | .qData q cid off => b.qPart q cid off cells
  | .xlate _ => b

/-- A non-posted request of f has all its data. -/
def Block.npGood (b : Block) (f : Nat) (t : HTag) (cells : List (Byte × Bool)) : Block :=
  match ownQueue t.own with
  | some q => b.backTo (b.actLink f) q cells.length (.good f t cells) (fun b => b.goodGo f t cells)
  | none => b.goodGo f t cells

/-- Whether poisoned data of the request is carried on (R123, R145). -/
def carriesData (o : HOwner) : Bool := match o with | .lmRd _ _ _ | .lmAtm _ _ | .qData _ _ _ => true | _ => false

/-- Remove a non-posted request; waiting ones may take its tag. -/
def Block.npDrop (b : Block) (f id : Nat) : Block := (b.dropNp f (fun t => t.id == id)).pumpNp f

/-- Data that has arrived for a request, cut to what it asked for. -/
def npTake (t : HTag) (data : List Byte) (ep : Bool) : List (Byte × Bool) :=
  ((t.got ++ data.map (fun x => (x, ep))).take t.len)

/-- The header of a request of a function, for the AER Header Log (R199). -/
def HTag.header (t : HTag) : Nat := Config.tlpHeader t.id t.addr

/-- R128, R200, R201: a host completion for tag of f on link l. One for no tag that is outstanding or in quarantine is an Unexpected
Completion. -/
def Block.hostCpl (b : Block) (l f tag : Nat) (st : CplSt) (data : List Byte) (ep : Bool) : Block :=
  if !b.fnExists f then b
  else match (b.fn f).np.find? (fun t => t.st != .waiting && t.tag == tag) with
    | none => b.aerAdv f 16 (Config.tlpHeader tag 0)
    | some t =>
      if l != b.actLink f then b.aerAdv f 16 (Config.tlpHeader tag 0)
      else
        let cells := npTake t data ep
        let last := st != .sc || cells.length ≥ t.len
        let upd := fun (x : HTag) => { x with got := cells }
        match t.st with
        | .quar => (b.npDrop f t.id).logErr f { code := 18, aux := tag, queue := errQueue t.own } t.header
        | .quarSilent => b.npDrop f t.id
        | .silent => if last then b.npDrop f t.id else b.fnMod f (fun d => { d with np := mapIf (·.id == t.id) upd d.np })
        | .waiting => b
        | .sent =>
          match t.own with
          | .xlate _ => b
          | _ =>
            if st != .sc then (b.npDrop f t.id).npBad f t (if st == .ca then 2 else 1)
            else
              let b1 := if ep && carriesData t.own then b.logErr f { code := 21, detail := 0, addr := t.addr, len := t.len, queue := errQueue t.own } t.header else b
              if last then (b1.npDrop f t.id).npGood f t cells
              else b1.fnMod f (fun d => { d with np := mapIf (·.id == t.id) upd d.np })

/-! ### Timeouts -/

/-- Request kind of CPL_TIMEOUT (Table 12.6). -/
def npKind (o : HOwner) : Nat :=
  match o with
  | .qData _ _ _ => 1
  | .qIndex _ | .qDesc _ _ _ | .qFrag _ _ _ => 2
  | .lmRd _ _ _ | .lmAtm _ _ => 3
  | .lmZlr _ _ | .flushZlr _ _ => 4
  | .xlate _ => 5

/-- The tag of an expired request goes into quarantine. -/
def Block.npQuar (b : Block) (f id : Nat) (st : HSt) : Block :=
  b.fnMod f (fun d => { d with np := mapIf (·.id == id) (fun t => { t with st := st }) d.np })

/-- The outstanding Translation Request rid of f. -/
def Block.xreq? (b : Block) (f rid : Nat) : Option XlReq := (b.fn f).xreqs.find? (·.rid == rid)

/-- Remove a Translation Request. -/
def Block.xreqDrop (b : Block) (f rid : Nat) : Block :=
  b.fnMod f (fun d => { d with xreqs := d.xreqs.filter (fun x => x.rid != rid) })

/-- R210: end what waits on a failed translation: an outbound request is answered FAULT with cause XLATE, a queue halts. -/
def Block.xlEnd (b : Block) (ws : List XlWait) : Block :=
  b.each ws (fun b w =>
    match w with
    | .lm p arr => match b.lm? p arr with
      | some m => b.lmAnswer p m 2 8
      | none => b
    | .seg q cid => b.chunkXlHalt (q / 32) (q % 32) cid)

/-- Pieces that a side of a chunk still has to be translated: those of its source while it reads, else of its destination. -/
def Chunk.xlSegs (c : Chunk) : List Seg := (if c.st == .reading then c.srcs else c.dsts).filter (·.xl)

/-- Untranslated address and bytes of what first waits on a translation, for the log: of a local-master request, or of the range of
a chunk that lies in the range x asks for. -/
def Block.xlSubject (b : Block) (x : XlReq) : Nat × Nat :=
  match x.waits with
  | .lm p arr :: _ => match b.lm? p arr with
    | some m => (m.host, m.len)
    | none => (x.lo, x.size)
  | .seg q cid :: _ => match (b.qu q).chunks.find? (fun c => c.cid == cid) with
    | some c => match c.xlSegs.find? (fun s => overlaps s.addr s.len x.lo x.size) with
      | some s => (s.addr, s.len)
      | none => (x.lo, x.size)
    | none => (x.lo, x.size)
  | [] => (x.lo, x.size)

/-- Requests of the designs that waited behind one that has gone on take their turn (R115). -/
def Block.lmPumpAll (b : Block) : Block := b.each b.lmPorts (fun b p => b.lmPump p)

/-- R210: a Translation Request fails as a whole for a reason. -/
def Block.xlFailed (b : Block) (f why : Nat) (x : XlReq) : Block :=
  let s := b.xlSubject x
  ((((b.xlLog f why s.1 s.2 x.pasid).xreqDrop f x.rid).xlEnd x.waits).pumpXl f).lmPumpAll

/-- R197 to R199: the completion timer of a request expires. -/
def Block.cplTimeout (b : Block) (f tag : Nat) : Block :=
  match (b.fn f).np.find? (fun t => (t.st == .sent || t.st == .silent) && t.tag == tag && t.cto.isSome) with
  | none => b
  | some t =>
    if t.st == .silent then b.npQuar f t.id .quarSilent
    else
      let b1 := (b.npQuar f t.id .quar).logErr f
        { code := 17, detail := npKind t.own, addr := t.addr, len := t.len, aux := tag, queue := errQueue t.own } t.header
      match t.own with
      | .xlate rid => match b1.xreq? f rid with
        | some x => b1.xlFailed f 1 x
        | none => b1
      | _ => b1.npBad f t 3

/-- R295: the descriptor fetch timer of a queue's read expires. -/
def Block.fetchTmo (b : Block) (f tag : Nat) : Block :=
  match (b.fn f).np.find? (fun t => (t.st == .sent || t.st == .silent) && t.tag == tag && npKind t.own == 2) with
  | none => b
  | some t =>
    if t.st == .silent then b.npQuar f t.id .quarSilent
    else ((b.npQuar f t.id .quar).logErr f
      { code := 17, detail := 128 + 2, addr := t.addr, len := t.len, aux := tag, queue := errQueue t.own } t.header).npBad f t 3

/-- R200, R203: a quarantined tag becomes free at twice the timeout value; that of a request without a timer stays. -/
def Block.tagFree (b : Block) (f tag : Nat) : Block :=
  match (b.fn f).np.find? (fun t => (t.st == .quar || t.st == .quarSilent) && t.tag == tag && t.cto.isSome) with
  | none => b
  | some t => b.npDrop f t.id

/-! ### Translations (R209 to R214) -/

/-- Valid entries of f in the translation cache. -/
def Block.atsCount (b : Block) (f : Nat) : Nat := (b.ats.filter (fun e => e.valid && e.f == f)).length
/-- ATS_MIN of f. -/
def Block.atsMin (b : Block) (f : Nat) : Nat := optD b.img 0 (fun im => optD (im.extra? f) 1024 (·.atsMin))
/-- The privileged functions. -/
def Block.privFns (b : Block) : List Nat := (b.fnRecs.filter (·.privileged)).map (·.f)
/-- Entries taken or reserved. -/
def Block.atsHeld (b : Block) : Nat := (b.privFns.map (fun g => max (b.atsCount g) (b.atsMin g))).foldl (· + ·) 0
/-- The least recently used of some entries. -/
def lruOf (l : List AtsEnt) : Option AtsEnt :=
  l.foldl (fun (m : Option AtsEnt) e => match m with | some x => if e.stamp < x.stamp then some e else m | none => some e) none

/-- A request of f formed from entry id is still to be sent or outstanding. -/
def Block.entUsed (b : Block) (f id : Nat) : Bool :=
  (b.fn f).np.any (fun t => (t.st == .waiting || t.st == .sent || t.st == .silent) && t.ent == some id) ||
    (b.lk (b.actLink f)).posted.any (fun w => !w.sent && w.ent == some id)

/-- Entries that meet a condition leave the cache; those that requests still stem from are kept as invalid, for R213. -/
def Block.atsDiscard (b : Block) (p : AtsEnt → Bool) : Block :=
  { b with ats := (b.ats.filter (fun e => !(p e) || b.entUsed e.f e.id)).map (fun e => if p e then { e with valid := false } else e) }

/-- R211: the cache has no free entry for f. -/
def Block.atsFull (b : Block) (f : Nat) : Bool := !(b.atsCount f < b.atsMin f || b.atsHeld < 131072)

/-- R211: the entry that makes room for a new one of f in a full cache; none when no function is above its minimum. -/
def Block.atsVictim (b : Block) (f : Nat) : Option AtsEnt :=
  let mine := b.ats.filter (fun e => e.valid && e.f == f)
  let over' := b.ats.filter (fun e => e.valid && b.atsCount e.f > b.atsMin e.f)
  lruOf (if b.atsCount f > b.atsMin f then mine else over')

/-- R211: make room for a new entry of f, where there is an entry to evict. -/
def Block.atsEvict (b : Block) (f : Nat) : Block :=
  if !b.atsFull f then b else match b.atsVictim f with
    | some v => b.atsDiscard (fun e => e.id == v.id)
    | none => b

/-- The aligned range that a Translation Completion for x translates. -/
def XlReq.grant (x : XlReq) (d : XlDone) : Nat × Nat := (x.lo / max d.size 4096 * max d.size 4096, max d.size 4096)

/-- R211: a granted translation as an entry; a range above 4 GiB is held as its first 4 GiB. -/
def Block.atsInsert (b : Block) (f : Nat) (x : XlReq) (d : XlDone) : Block :=
  let (lo, size) := x.grant d
  let e : AtsEnt := ⟨b.nextId, f, x.pasid, lo, min size (2 ^ 32), d.translated / size * size, d.rd, d.wr, d.noSnoop, d.global,
    true, b.nextId⟩
  { b with ats := b.ats ++ [e], nextId := b.nextId + 1 }

/-- The permissions granted cover a waiting request: a RD reads, an ATM reads and writes, a WR or WRF writes; a chunk reads its source
and writes its destination (R210). -/
def Block.xlCovers (b : Block) (d : XlDone) (w : XlWait) : Bool :=
  match w with
  | .lm p arr => optD (b.lm? p arr) false (fun m => if m.op == 1 then d.rd else if m.op == 4 then d.rd && d.wr else d.wr)
  | .seg q cid => optD ((b.qu q).chunks.find? (fun c => c.cid == cid)) false (fun c => if c.st == .reading then d.rd else d.wr)

/-- A request that waited on a translation of x is served from it, or fails for want of permission (R210). -/
def Block.xlServe (b : Block) (f : Nat) (x : XlReq) (d : XlDone) (w : XlWait) : Block :=
  let ok := b.xlCovers d w
  match w with
  | .lm p arr => match b.lm? p arr with
    | none => b
    | some m => if ok then b.lmStart p m else (b.xlLog f 3 m.host m.len m.pasid).lmAnswer p m 2 8
  | .seg q cid =>
    if ok then b.segRetry q cid
    else
      let c? := (b.qu q).chunks.find? (fun c => c.cid == cid)
      let s? := optD c? none (fun c => c.xlSegs.find? (fun s => overlaps s.addr s.len x.lo x.size))
      b.chunkXlFail f (q % 32) cid 3 (optD s? 0 (·.addr)) (optD s? 0 (·.len)) (optD s? none (·.pasid))

/-- R210, R211, R214: a Translation Completion arrives. -/
def Block.xlDone (b : Block) (f tag : Nat) (d : XlDone) : Block :=
  match (b.fn f).np.find? (fun t => t.st != .waiting && t.tag == tag) with
  | none => if b.fnExists f then b.aerAdv f 16 (Config.tlpHeader tag 0) else b
  | some t =>
    match t.own, t.st with
    | .xlate rid, .sent =>
      let b1 := b.npDrop f t.id
      match b1.xreq? f rid with
      | none => b1
      | some x =>
        if d.status != .sc then b1.xlFailed f 1 x
        else if x.invs.any (fun v => overlaps v.1 v.2 x.lo x.size || overlaps v.1 v.2 (x.grant d).1 (x.grant d).2) then
          -- not cached, not served: a new request is sent
          (b1.fnMod f (fun y => { y with xreqs := mapIf (·.rid == rid) (fun z => { z with invs := [] }) y.xreqs })).pumpXl f
        else if !d.rd && !d.wr then b1.xlFailed f 2 x
        else
          let b2 := b1.xreqDrop f rid
          let serves := x.waits.isEmpty || x.waits.any (fun w => b2.xlCovers d w)
          let room := !b2.atsFull f || (b2.atsVictim f).isSome
          let b3 := if serves then (b2.atsEvict f).atsInsert f x d else b2
          let b4 := b3.each x.waits (fun b w => b.xlServe f x d w)
          -- with no entry to be had it is not cached
          let b5 := if serves && !room then b4.atsDiscard (fun e => e.id == b2.nextId) else b4
          (b5.pumpXl f).lmPumpAll
    | _, .quar => (b.npDrop f t.id).logErr f { code := 18, aux := tag } t.header
    | _, .quarSilent => b.npDrop f t.id
    | _, .silent => b.npDrop f t.id
    | _, _ => b

/-- R213: an entry that an Invalidate Request matches: the range overlaps, and the PASID agrees or the request is global. -/
def invMatch (f addr size : Nat) (pasid : Option Nat) (global : Bool) (e : AtsEnt) : Bool :=
  e.f == f && overlaps e.lo e.size addr size && (global || e.pasid == pasid)

/-- R213, R214: an Invalidate Request arrives. -/
def Block.invRequest (b : Block) (f itag addr size : Nat) (pasid : Option Nat) (global : Bool) : Block :=
  let hit := invMatch f addr size pasid global
  let ids := (b.ats.filter hit).map (·.id)
  let sent := fun (x : XlReq) => (b.fn f).np.any (fun t => t.own == .xlate x.rid && t.st == .sent)
  let touch := fun (x : XlReq) => (global || x.pasid == pasid) && sent x
  let b1 := { b with ats := mapIf (fun e => ids.contains e.id) (fun e => { e with valid := false }) b.ats }
  b1.fnMod f (fun d => { d with
    invs := d.invs ++ [⟨itag, ids⟩], xreqs := mapIf touch (fun x => { x with invs := x.invs ++ [(addr, size)] }) d.xreqs })

/-- R213: the Invalidate Completion of the oldest Invalidate Request, once the reads formed from its entries have ended and
the writes have been sent. -/
def Block.invDone (b : Block) (f : Nat) : Block :=
  match (b.fn f).invs with
  | [] => b
  | v :: vs =>
    let l := b.actLink f
    let uses := fun (o : Option Nat) => match o with | some e => v.ents.contains e | none => false
    if (b.fn f).np.any (fun t => (t.st == .waiting || t.st == .sent || t.st == .silent) && uses t.ent) ||
        (b.lk l).posted.any (fun w => !w.sent && uses w.ent) || !b.inL0 l then b
    else
      let b1 := b.fnMod f (fun d => { d with invs := vs })
      { b1 with ats := b1.ats.filter (fun e => !(v.ents.contains e.id && !e.valid)) }.emit (.msg l (.invalDone f v.itag))

/-- R212: every translation of f is discarded. -/
def Block.atsFlush (b : Block) (f : Nat) : Block := b.atsDiscard (fun e => e.f == f)

end Sys2Proof.Machine
end

