-- ==== Sys2Proof/Machine/Mastering.lean ====
section
/-! DEFINITION. Bus mastering, function reset, virtual functions, BARs, power states and the other configuration writes that
have a behaviour of their own (R86 to R90, R186, R193 to R196, R202 to R206, R212, R231, R323, R353). -/
namespace Sys2Proof.Machine

/-! ### Bus Master Enable (R193 to R196) -/

/-- A local-master request loses what it had not sent: it is answered FAULT with cause BME_OFF when the rest is done
(Table 8.1). `zlrToo`: its zero-length read, even sent, is no longer waited for (Table 8.4). -/
def Block.lmCut (b : Block) (p : Nat) (m : LmReq) (zlrToo : Bool) : Block :=
  let f := m.f
  let mineP := fun (w : PWr) => !w.sent && w.own == .lm p m.arr
  let mineN := fun (t : HTag) => t.st == .waiting && (t.own == .lmZlr p m.arr || t.own == .lmAtm p m.arr ||
    match t.own with | .lmRd q a _ => q == p && a == m.arr | _ => false)
  let gone := ((b.fn f).np.filter mineN).length
  let cutW' := (b.lk m.link).posted.any mineP
  let zWait := (b.fn f).np.any (fun t => t.st == .waiting && t.own == .lmZlr p m.arr)
  let b1 := (b.lkMod m.link (fun k => { k with posted := k.posted.filter (fun w => !(mineP w)) })).dropNp f mineN
  match m.op with
  | 1 => if gone == 0 then b1 else (b1.lmMod p m.arr (fun y => { y with left := y.left - gone })).lmFail p m.arr 2 1
  | 2 | 3 =>
    let zCut := m.op == 3 && (zWait || (zlrToo && m.zlr != 3))
    if !cutW' && !zCut then b1
    else (b1.lmMod p m.arr (fun y => { y with zlr := if zCut || zlrToo then 3 else y.zlr })).lmFail p m.arr 2 1
  | 4 => if gone == 0 then b1 else b1.lmAnswer p m 2 1
  | _ => b1

/-- The zero-length reads of a FLUSH that have not been sent for f are struck off, and the FLUSH will be answered FAULT with
cause BME_OFF; `all` takes those sent as well. -/
def Block.flushCut (b : Block) (p f : Nat) (all : Bool) : Block :=
  b.each ((b.x p).lms.filter (fun m => m.op == 5 && m.zfns.contains f)) (fun b m =>
    let mine := fun (t : HTag) => t.own == .flushZlr p m.arr && (all || t.st == .waiting)
    if (b.fn f).np.any mine then
      let b1 := b.fnMod f (fun d => { d with np := (d.np.filter (fun t => !(mine t && t.st == .waiting))).map (fun t =>
        if mine t && t.st == .sent then { t with st := .silent } else t) })
      b1.lmMod p m.arr (fun y => { y with
        zfns := y.zfns.filter (· != f), ph := match y.ph with | .failing c x => .failing c x | _ => .failing 2 1 })
    else b)

/-- Unsent interrupt messages of f become Pending Bits (R186). -/
def Block.irqHold (b : Block) (f : Nat) : Block :=
  let l := b.actLink f
  let mine := fun (w : PWr) => !w.sent && match w.own with | .irq g _ => g == f | _ => false
  let b1 := b.each ((b.lk l).posted.filter mine) (fun b w =>
    match w.own with
    | .irq _ v => if b.delivery f == 2 then b.setBits .cfgMsiPend f (b.actSet f) (2 ^ v) else b.wr .msixPend f v 1
    | _ => b)
  b1.lkMod l (fun k => { k with posted := k.posted.filter (fun w => !(mine w)) })

/-- R194, Table 8.1: what Bus Master Enable at 0 does to the traffic of f at the effect point. -/
def Block.bmeOff (b : Block) (f : Nat) : Block :=
  let p := b.portOf f
  let mine := (b.x p).lms.filter (fun m => m.f == f)
  let held := fun (m : LmReq) => m.ph == .xlate || m.ph == .queued
  let b1 := b.each (mine.filter held) (fun b m => b.lmAnswer p m 2 1)
  let b2 := b1.fnMod f (fun d => { d with xreqs := d.xreqs.map (fun x => { x with
    waits := x.waits.filter (fun w => match w with | .lm _ _ => false | _ => true) }) })
  let b3 := b2.each (mine.filter (fun m => !held m)) (fun b m => b.lmCut p m false)
  (((b3.flushCut p f false).irqHold f).qBmeOff f).lmPumpAll

/-- Writes of a function that have not been sent, in the order of R195: held data, then head write-backs and event records,
then interrupt messages. -/
def releaseOrder (f : Nat) (l : List PWr) : List PWr :=
  let mine := fun (w : PWr) => !w.sent && w.f == f
  let isRec := fun (w : PWr) => match w.own with | .head _ | .event _ | .evProd _ => true | _ => false
  let isIrq := fun (w : PWr) => match w.own with | .irq _ _ => true | _ => false
  l.filter (fun w => !(mine w) || (!(isRec w) && !(isIrq w))) ++ l.filter (fun w => mine w && isRec w) ++
    l.filter (fun w => mine w && isIrq w)

/-- R195: the release of held traffic when Bus Master Enable becomes 1. -/
def Block.bmeOn (b : Block) (f : Nat) : Block :=
  let l := b.actLink f
  let b1 := (b.qBmeOn f).pumpNp f
  let b2 := b1.each (List.range 32) (fun b n => if (b.q f n).wbWait then b.headWb f n else b)
  let b3 := (b2.evPump f).lkMod l (fun k => { k with posted := releaseOrder f k.posted })
  (((b3.pumpPosted l).pumpNp f).pumpXl f).pendFlush f

/-- Act on a change of Bus Master Enable in force from `old`. -/
def Block.bmeJudge (b : Block) (f : Nat) (old : Bool) : Block :=
  if old && !b.bme f then b.bmeOff f else if !old && b.bme f then b.bmeOn f else b

/-- R353, Table 14.10: the TDI of f, when locked or running, moves to ERROR. -/
def Block.tdiErr (b : Block) (f : Nat) : Block :=
  if b.rd .tdiState f == 1 || b.rd .tdiState f == 2 then (b.wr .tdiState f 0 3).bmeJudge f (b.bme f) else b

/-! ### Which function answers -/

/-- R78, R79: a VF answers only while its parent's VF Enable, in a configuration set, admits its number. -/
def Block.vfOn (b : Block) (r : FnRec) (j : Nat) : Bool :=
  !r.vf || (b.flag .vfEnable r.parent j && b.vfNumOf r ≤ b.rd .vfNum r.parent j)

/-- A configuration write to f reaches it in set j: it exists, is enabled and is in no function reset (R79, R204). -/
def Block.cfgOk (b : Block) (f j : Nat) : Bool :=
  optD (b.fnRec? f) false (fun r => b.vfOn r j) && (b.fn f).flr.isNone

/-! ### Configuration writes with a behaviour of their own -/

/-- R193: a write changes Bus Master Enable; its effect point is still to come. -/
def Block.bmeWrite (b : Block) (f j : Nat) (v : Bool) : Block :=
  if !b.cfgOk f j || b.flag .cfgBme f j == v then b
  else (b.wr .cfgBme f j (b2n v)).fnMod f (fun d => { d with bmeQ := d.bmeQ ++ [(j == 1, v)] })

/-- R193: the effect point of the oldest change of Bus Master Enable, when it has value v. -/
def Block.bmeEffect (b : Block) (f : Nat) (v : Bool) : Block :=
  match (b.fn f).bmeQ with
  | (alt, w) :: t =>
    if w != v then b
    else
      let old := b.bme f
      let b1 := (b.fnMod f (fun d => { d with bmeQ := t })).wr .cfgBmeEff f (b2n alt) (b2n v)
      let b2 := b1.bmeJudge f old
      if v then b2 else b2.tdiErr f
  | [] => b

/-- R86, R88, R89: a write to a BAR stores the base; an absent window takes nothing. Changing a locked item moves the TDI to
ERROR (R353). -/
def Block.barStore (b : Block) (f j : Nat) (r : FnRec) (bar : BarIx) (v : Nat) : Block :=
  let put := fun (fld : Fld) (n : Nat) => b.wr fld f j (v / 2 ^ n * 2 ^ n)
  if r.vf then b
  else match bar with
    | .bar0 => put .cfgBar0 21
    | .bar2 => if r.bar2 == 0 then b else put .cfgBar2 r.bar2
    | .bar4 => if r.bar4 == 0 then b else put .cfgBar4 r.bar4
    | .rom => if romLog2 r == 0 then b else (put .cfgRomBar (romLog2 r)).wr .cfgRomEn f j (v % 2)

/-- A write to a BAR of f. -/
def Block.barWrite (b : Block) (f j : Nat) (bar : BarIx) (v : Nat) : Block :=
  match b.fnRec? f with
  | none => b
  | some r => if !b.cfgOk f j then b else (b.barStore f j r bar v).tdiErr f

/-- R212: clearing ATS Enable or PASID Enable, or a write of the Smallest Translation Unit, discards every translation. -/
def Block.atsWrite (b : Block) (f j : Nat) (fld : Fld) (v : Nat) : Block :=
  if !b.cfgOk f j || !optD (b.fnRec? f) false (·.privileged) then b
  else
    let b1 := (b.wr fld f j v).tdiErr f
    if j == b.actSet f && (fld == .atsStu || v == 0) then b1.atsFlush f else b1

/-- R231: the LTR message of a link, with the image's latencies. -/
def Block.ltrSend (b : Block) (l : Nat) : Block :=
  match b.img.bind (fun im => im.groups.find? (fun g => g.g == l / 4)) with
  | some g => b.emit (.msg l (.ltr g.ltrSnoop g.ltrNoSnoop))
  | none => b.emit (.msg l (.ltr 0 0))

/-- The function with ARI function number 0 on a link. -/
def Block.linkF0 (b : Block) (l : Nat) : Option FnRec := (b.linkFns l).find? (fun r => !r.vf && r.pfIndex == 0)

/-- R231: LTR Mechanism Enable is set in ARI function 0 of link l. -/
def Block.ltrEnable (b : Block) (l : Nat) : Block :=
  match b.linkF0 l with
  | none => b
  | some r =>
    let j := setOn r l
    if !b.cfgOk r.f j || b.flag .cfgLtrEn r.f j then b
    else
      let b1 := b.wr .cfgLtrEn r.f j 1
      if b1.dlActive l then b1.ltrSend l else b1

/-- R323: the function enters D3hot or returns to D0. -/
def Block.pmWrite (b : Block) (f v : Nat) : Block :=
  if !optD (b.fnRec? f) false (fun r => b.vfOn r (b.actSet f)) || (b.fn f).flr.isSome then b
  else
    let old := b.bme f
    (b.wr .cfgPmState f 0 v).bmeJudge f old

/-- R188: Interrupt Disable. -/
def Block.intDisWrite (b : Block) (f j : Nat) (v : Bool) : Block :=
  if b.cfgOk f j then (b.wr .cfgIntDis f j (b2n v)).intxF f else b

/-! ### Function reset (R202 to R206) -/

/-- Fields of configuration space. -/
def Fld.isCfg (f : Fld) : Bool := Fld.msixAddr.ctorIdx ≤ f.ctorIdx && f.ctorIdx ≤ Fld.cfgLtrNoSnoop.ctorIdx

/-- Fields of f that a function reset restores. -/
def fnKey (f : Nat) (k : RKey) : Bool :=
  k.i == f && ((Fld.attr k.fld).unit == .fn || (Fld.attr k.fld).unit == .queue) && (Fld.attr k.fld).lvl == .function

/-- Fields of the Spur that a function reset takes back at its start (R185). -/
def Fld.isSpur (f : Fld) : Bool :=
  f == .srcState || f == .srcLatch || f == .spMask || f == .spQpend || f == .spRotate || f == .srcNextTgt

/-- Drop the stored values that meet a condition: those fields take their reset values. -/
def Block.unset (b : Block) (p : RKey → Bool) : Block := { b with regs := b.regs.filter (fun e => !(p e.1)) }

/-- R202, Table 8.4: a function reset cuts f off. -/
def Block.fnCut (b : Block) (f : Nat) : Block :=
  let p := b.portOf f
  let l := b.actLink f
  let mine := (b.x p).lms.filter (fun m => m.f == f)
  let b0 := ((b.spurWithdraw f).wr .tdiState f 0 0).unset (fun k => fnKey f k && (k.fld.isCfg || k.fld.isSpur))
  let b1 := { b0 with jobs := mapIf (fun j => j.f == f) (fun j => { j with dead := true }) b0.jobs }
  let b2 := b1.each mine (fun b m =>
    if m.op == 1 then b.lmAnswer p m 5 10
    else if m.op == 4 || m.ph == .xlate || m.ph == .queued then b.lmAnswer p m 2 1
    else b.lmCut p m true)
  let b3 := b2.flushCut p f true
  let ownMsg := fun (w : PWr) => !w.sent && match w.own with
    | .irq g _ | .event g | .evProd g => g == f
    | .head q => q / 32 == f
    | _ => false
  let b4 := (b3.lkMod l (fun k => { k with posted := k.posted.filter (fun w => !(ownMsg w)) })).each (List.range 32)
    (fun b n => b.qReset f n)
  let b5 := (b4.dropNp f (fun t => t.st == .waiting)).atsFlush f
  let recs := (b5.fn f).recs.length
  let b6 := b5.fnMod f (fun d => { d with
    np := mapIf (fun t => t.st == .sent) (fun t => { t with st := .silent }) d.np
    pf := (d.pf.filter (fun x => x.st == .pending || x.st == .stale)).map (fun x => { x with st := .stale, mute := true })
    learned := [], xreqs := [], recs := [], devs := [], wvCmd := none, doe := [], eoiWait := [], bmeQ := []
    doeIe := false, doeRdy := false })
  ((b6.retRec p f recs).intxF f).lmPumpAll

/-- R203: at the end of the drain the state of f is restored. Messages of queue resets whose XLB requests still run end
later (R150). -/
def Block.fnRestore (b : Block) (f : Nat) : Block :=
  let b1 := (b.unset (fnKey f)).fnMod f (fun d => { d with flr := none })
  ((b1.each (List.range 32) (fun b n => b.qResetEnd f n)).sampleAll f).intxF f

/-- R205, R206: send the Function Readiness Status message that f owes, when the drains of its virtual functions have ended
and the link is up. -/
def Block.frsTry (b : Block) (f : Nat) : Block :=
  let l := b.actLink f
  if (b.fn f).frsWait && (b.fn f).flr.isNone && (b.vfsOf f).all (fun v => (b.fn v).flr.isNone) && b.dlActive l then
    (b.fnMod f (fun d => { d with frsWait := false })).emit (.msg l (.frs f 3))
  else b

/-- R202, R206: start a function reset; a reset already running goes on (R15). -/
def Block.flrBegin (b : Block) (f : Nat) (frs : Bool) : Block :=
  if (b.fn f).flr.isSome then b
  else (b.fnCut f).fnMod f (fun d => { d with flr := some ⟨b.time, frs, []⟩ })

/-- R206: a function reset of a PF, or the clearing of VF Enable, resets each of its VFs. -/
def Block.vfsReset (b : Block) (f : Nat) : Block := b.each (b.vfsOf f) (fun b v => b.flrBegin v false)

/-- R202, R302: Initiate Function Level Reset is written to f in set j. In the set of the standby link only that set is
reset, and the message follows at once. -/
def Block.flrWrite (b : Block) (f j : Nat) : Block :=
  if !b.cfgOk f j then b
  else if j != b.actSet f then
    let b1 := b.unset (fun k => fnKey f k && k.fld.isCfg && k.j == j && linkScoped k.fld)
    match b.fnRec? f with
    | some r => b1.emit (.msg (if j == 0 then r.link else r.standby.getD 0) (.frs f 3))
    | none => b1
  else (b.vfsReset f).flrBegin f true
where
  /-- Fields kept once per link (R302). -/
  linkScoped (fld : Fld) : Bool :=
    !(fld == .msixAddr || fld == .msixData || fld == .msixVmask || fld == .msixPend || fld == .cfgPmState)

/-- R203: the drain of f ends when nothing of it is outstanding on the host link; `bound` when the bound has passed, which
quarantines what is. -/
def Block.flrEnd (b : Block) (f : Nat) (bound : Bool) : Block :=
  match (b.fn f).flr with
  | none => b
  | some x =>
    let out := (b.fn f).np.any (fun t => t.st == .sent || t.st == .silent)
    if out && !bound then b
    else
      let quar := fun (t : HTag) => { t with st := HSt.quarSilent }
      let b1 := b.fnMod f (fun d => { d with
        np := mapIf (fun t => t.st == .sent || t.st == .silent) quar d.np, frsWait := d.frsWait || x.frs })
      let b1' := (b1.fnRestore f).frsTry f
      -- a STOP_INTERFACE_REQUEST is answered when the drain ends (Table 14.10)
      let b2 := match (b.fn f).stopRsp with
        | some tr => (b1'.fnMod f (fun d => { d with stopRsp := none })).answer tr (.spdm (.tdispAck true))
        | none => b1'
      match b.fnRec? f with
      | some r => if r.vf then b2.frsTry r.parent else b2
      | none => b2

/-! ### Virtual functions (R78, R79, R83, R206) -/

/-- VF Enable of PF f in set j. -/
def Block.vfEnableWrite (b : Block) (f j : Nat) (v : Bool) : Block :=
  if !b.cfgOk f j || optD (b.fnRec? f) true (fun r => r.vf || r.totalVfs == 0) then b
  else if !v && b.flag .vfEnable f j && j == b.actSet f then
    -- the VFs are judged before the bit falls
    ((b.vfsReset f).wr .vfEnable f j 0).tdiErr f
  else (b.wr .vfEnable f j (b2n v)).tdiErr f

/-- R83: NumVFs takes a write only while VF Enable is 0. -/
def Block.numVfsWrite (b : Block) (f j v : Nat) : Block :=
  if !b.cfgOk f j || optD (b.fnRec? f) true (fun r => r.vf || r.totalVfs == 0) || b.flag .vfEnable f j then b
  else b.wr .vfNum f j v

/-! ### The commands -/

/-- BUS_MASTER_ENABLE_WRITE (R193). -/
def execBusMasterEnableWrite (f : FnIx) (alt v : Bool) (s : State) : Host.Outcome State Fault Refusal :=
  s.on (fun b => b.bmeWrite f.val (b2n alt) v)
/-- BME_CLEAR_EFFECT (R193, R194). -/
def execBmeClearEffect (f : FnIx) (s : State) : Host.Outcome State Fault Refusal := s.on (fun b => b.bmeEffect f.val false)
/-- BME_SET_EFFECT (R193, R195). -/
def execBmeSetEffect (f : FnIx) (s : State) : Host.Outcome State Fault Refusal := s.on (fun b => b.bmeEffect f.val true)
/-- INITIATE_FUNCTION_LEVEL_RESET (R202, R302). -/
def execInitiateFunctionLevelReset (f : FnIx) (alt : Bool) (s : State) : Host.Outcome State Fault Refusal :=
  s.on (fun b => b.flrWrite f.val (b2n alt))
/-- FLR_DRAIN_END (R203, R205). -/
def execFlrDrainEnd (f : FnIx) (s : State) : Host.Outcome State Fault Refusal := s.on (fun b => b.flrEnd f.val false)
/-- FLR_BOUND_EXPIRY (R203). -/
def execFlrBoundExpiry (f : FnIx) (s : State) : Host.Outcome State Fault Refusal := s.on (fun b => b.flrEnd f.val true)
/-- VF_ENABLE_CLEAR (R206). -/
def execVfEnableClear (f : FnIx) (alt : Bool) (s : State) : Host.Outcome State Fault Refusal :=
  s.on (fun b => b.vfEnableWrite f.val (b2n alt) false)
/-- VF_ENABLE_SET (R78, R79). -/
def execVfEnableSet (f : FnIx) (alt : Bool) (s : State) : Host.Outcome State Fault Refusal :=
  s.on (fun b => b.vfEnableWrite f.val (b2n alt) true)
/-- NUMVFS_WRITE (R83). -/
def execNumvfsWrite (f : FnIx) (alt : Bool) (v : BitVec 16) (s : State) : Host.Outcome State Fault Refusal :=
  s.on (fun b => b.numVfsWrite f.val (b2n alt) v.toNat)
/-- BAR_WRITE (R86, R89, R90). -/
def execBarWrite (f : FnIx) (alt : Bool) (bar : BarIx) (v : BitVec 64) (s : State) : Host.Outcome State Fault Refusal :=
  s.on (fun b => b.barWrite f.val (b2n alt) bar v.toNat)
/-- ATS_ENABLE_CLEAR (R212). -/
def execAtsEnableClear (f : FnIx) (alt : Bool) (s : State) : Host.Outcome State Fault Refusal :=
  s.on (fun b => b.atsWrite f.val (b2n alt) .atsEnable 0)
/-- PASID_ENABLE_CLEAR (R212). -/
def execPasidEnableClear (f : FnIx) (alt : Bool) (s : State) : Host.Outcome State Fault Refusal :=
  s.on (fun b => b.atsWrite f.val (b2n alt) .pasidEnable 0)
/-- STU_WRITE (R212). -/
def execStuWrite (f : FnIx) (alt : Bool) (v : BitVec 5) (s : State) : Host.Outcome State Fault Refusal :=
  s.on (fun b => b.atsWrite f.val (b2n alt) .atsStu v.toNat)
/-- LTR_MECHANISM_ENABLE_SET (R231). -/
def execLtrMechanismEnableSet (l : LinkIx) (s : State) : Host.Outcome State Fault Refusal := s.on (fun b => b.ltrEnable l.val)
/-- D3HOT_ENTRY (R323). -/
def execD3hotEntry (f : FnIx) (s : State) : Host.Outcome State Fault Refusal := s.on (fun b => b.pmWrite f.val 3)
/-- D0_RETURN (R323). -/
def execD0Return (f : FnIx) (s : State) : Host.Outcome State Fault Refusal := s.on (fun b => b.pmWrite f.val 0)
/-- DELIVERY_FORM_CHANGE (R186). -/
def execDeliveryFormChange (f : FnIx) (alt msixEn msiEn : Bool) (s : State) : Host.Outcome State Fault Refusal :=
  s.on (fun b => if b.cfgOk f.val (b2n alt) then b.formWrite f.val (b2n alt) msixEn msiEn else b)
/-- INTERRUPT_DISABLE_WRITE (R188). -/
def execInterruptDisableWrite (f : FnIx) (alt v : Bool) (s : State) : Host.Outcome State Fault Refusal :=
  s.on (fun b => b.intDisWrite f.val (b2n alt) v)

/-! ### Acks, completions, timeouts and translations -/

/-- HOST_ACK (R54, R143). -/
def execHostAck (l : LinkIx) (n : Nat) (s : State) : Host.Outcome State Fault Refusal := s.on (fun b => b.ackN l.val n)
/-- HOST_COMPLETION (R128, R200, R201). -/
def execHostCompletion (l : LinkIx) (f : FnIx) (tag : Nat) (st : CplSt) (data : List Byte) (ep : Bool) (s : State) (stream : Option Nat := none) :
    Host.Outcome State Fault Refusal :=
  s.on (fun b => if b.streamBad l.val stream then b else b.hostCpl l.val f.val tag st data ep)
/-- COMPLETION_TIMEOUT (R197 to R199). -/
def execCompletionTimeout (f : FnIx) (tag : Nat) (s : State) : Host.Outcome State Fault Refusal :=
  s.on (fun b => b.cplTimeout f.val tag)
/-- HOST_TAG_QUARANTINE_EXPIRY (R200). -/
def execHostTagQuarantineExpiry (f : FnIx) (tag : Nat) (s : State) : Host.Outcome State Fault Refusal :=
  s.on (fun b => b.tagFree f.val tag)
/-- FETCH_TIMEOUT (R295). -/
def execFetchTimeout (f : FnIx) (tag : Nat) (s : State) : Host.Outcome State Fault Refusal :=
  s.on (fun b => b.fetchTmo f.val tag)
/-- TRANSLATION_COMPLETION (R210, R211, R214). -/
def execTranslationCompletion (f : FnIx) (tag : Nat) (d : XlDone) (s : State) : Host.Outcome State Fault Refusal :=
  s.on (fun b => if b.streamBad (b.actLink f.val) d.stream then b else b.xlDone f.val tag d)
/-- INVALIDATE_REQUEST (R213, R214). -/
def execInvalidateRequest (f : FnIx) (itag addr size : Nat) (pasid : Option Nat) (global : Bool) (s : State) (stream : Option Nat := none) :
    Host.Outcome State Fault Refusal :=
  s.on (fun b => if b.streamBad (b.actLink f.val) stream then b else b.invRequest f.val itag addr size pasid global)
/-- INVALIDATE_COMPLETION (R213). -/
def execInvalidateCompletion (f : FnIx) (s : State) : Host.Outcome State Fault Refusal := s.on (fun b => b.invDone f.val)

end Sys2Proof.Machine
end

