-- ==== Sys2Proof/Machine/XlbMsg.lean ====
section
/-! DEFINITION. XLB as the design drives it: responses and their timeouts (R43 to R48, R61 to R64), messages and the interrupt
fence (R49, R51, R116), rein values (R117, R192), capability exchanges (R67 to R70, R100), and the commands of a port. -/
namespace Sys2Proof.Machine

/-! ### Responses -/

/-- Table 2.6: whether a response code is allowed for a request of opcode op, speculative or not. -/
def rspAllowed (ver op : Nat) (spec : Bool) (code : Nat) : Bool :=
  match code with
  | 0 | 2 => true
  | 1 => op == 1 || op == 4
  | 3 | 6 => op == 1 || op == 2 || op == 3 || op == 4
  | 4 => op == 1 && spec
  | 5 => op == 1 || op == 2 || op == 3 || op == 4 || op == 5
  | 7 => op == 1 && spec && ver ≥ 3
  | _ => false

/-- R45: the code taken: DONE with a poisoned beat is DONE_POISON. -/
def takenCode (r : XReq) (code pvec : Nat) : Nat := if code == 0 && pvec != 0 && (r.op == 1 || r.op == 4) then 1 else code

/-- R45: the poison vector taken: DONE_POISON with PVEC 0 poisons every beat. -/
def takenPvec (w : Nat) (r : XReq) (code pvec : Nat) : Nat :=
  if code == 1 && pvec == 0 then allBeats (if r.op == 4 then 1 else beats w r.addr r.len) else pvec

/-- The covered bytes that an answer returns, each with its poison mark. Bytes that did not come are free values. -/
def Block.ansCells (b : Block) (w : Nat) (r : XReq) (pvec : Nat) (data : List Byte) : List (Byte × Bool) :=
  let n := ansBytes w r
  let full := (List.range n).map (fun k => match data[k]? with | some x => x | none => Config.freeByte (b.freeCtr + k))
  if r.op == 4 then full.map (fun x => (x, bit pvec 0))
  else if r.op == 1 then beatCells w r.addr r.len pvec full
  else []

/-- First header dword of a response, for AUX. -/
def rspHdr (tag code cause : Nat) : Nat := code + 64 + 256 * tag + 2 ^ 24 * cause

/-- R44 to R46: a final answer other than DONE to a host posted write, and any answer with a design-defined cause, is logged. -/
def Block.ansLog (b : Block) (r : XReq) (code cause : Nat) : Block :=
  if (r.orig == .posted && code != 0 && code != 5) || cause ≥ 128 then
    b.logErr r.f { code := 9, detail := code, addr := r.addr, len := r.len, cause := cause, queue := origQueue r.orig }
  else b

/-- R44: a final answer ends its request. -/
def Block.rspFinal (b : Block) (p : Nat) (r : XReq) (code cause pvec : Nat) (data : List Byte) : Block :=
  let w := b.xw p
  let c := takenCode r code pvec
  let carries := c == 0 || c == 1 || c == 7
  let cells := if carries then b.ansCells w r (takenPvec w r c pvec) data else []
  let b1 := if carries && data.length < ansBytes w r then { b with freeCtr := b.freeCtr + ansBytes w r } else b
  (((b1.ansLog r c cause).endReq p r c cause cells).kick p)

/-- R43 to R47, R62, R63, R73: a response of the design arrives. While a CAPS of the PX896 is unanswered it is discarded. -/
def Block.rspIn (b : Block) (p tag code cause pvec : Nat) (data : List Byte) : Block :=
  if !b.active p || (b.x p).capsSent then b
  else match (b.x p).reqs.find? (fun r => r.tag == tag && (r.st != .waiting || r.retries > 0)) with
    | some r =>
      if !rspAllowed (b.xver p) r.op r.spec code then
        (b.protoErr p 2 (some r.f) (rspHdr tag code cause)).rspFinal p r 2 0 0 []
      else if code == 5 then
        (b.ansLog r 5 cause).xMod p (fun x => { x with
          reqs := mapIf (fun g => g.rid == r.rid) (fun g => { g with st := .gap }) x.reqs })
      else b.rspFinal p r code cause pvec data
    | none =>
      match (b.x p).quar.find? (fun g => g.tag == tag) with
      | some g =>
        let bad := !rspAllowed (b.xver p) g.op g.spec code
        let b0 := if bad then b.protoErr p 2 (some g.f) (rspHdr tag code cause) else b
        let b1 := (b0.incSat .xlbCntLate p).logErr g.f { code := 8, detail := if bad then 2 else code, aux := tag, queue := g.q }
        if g.fenced then b1
        else (b1.xMod p (fun x => { x with quar := x.quar.filter (fun y => y.tag != tag) })).kick p
      | none => b.protoErr p 1 none

/-! ### Timeouts -/

/-- R61, R63, Table 2.14: the timeout of request rid expires. -/
def Block.xlbTimeout (b : Block) (p rid : Nat) : Block :=
  match (b.x p).reqs.find? (fun r => r.rid == rid) with
  | none => b
  | some r =>
    let unsent := r.unsent
    if r.atLoom then b
    else if unsent && b.active p && b.flag .xlbHalfDuplex p && b.localBusy p then
      let b1 := if r.spec then b else b.logErr r.f { code := 6, detail := origDetail r.orig, addr := r.addr, len := r.len, queue := origQueue r.orig }
      (b1.endReq p r 2 0 []).kick p
    else
      let aux := if unsent then 0xFFFFFFFF else r.tag
      let b1 := if r.spec then b else b.logErr r.f
        { code := 5, detail := origDetail r.orig, addr := r.addr, len := r.len, aux := aux, queue := origQueue r.orig }
      (((b1.quarantine p r false).endReq p r 2 0 []).countTmo p r).kick p

/-- R62: the gap after RETRY ends: the request is reissued, or ends as FAULT when the limit is reached. -/
def Block.retryGap (b : Block) (p tag : Nat) : Block :=
  match (b.x p).reqs.find? (fun r => r.st == .gap && r.tag == tag) with
  | none => b
  | some r =>
    if r.retries ≥ r.cfg.limit then b.rspFinal p r 2 0 0 []
    else (b.xMod p (fun x => { x with
      reqs := mapIf (fun g => g.rid == r.rid) (fun g => { g with st := .waiting, retries := g.retries + 1 }) x.reqs })).kick p

/-- R63: a quarantined tag becomes free; one kept by a fence stays. -/
def Block.xlbTagFree (b : Block) (p tag : Nat) : Block :=
  (b.xMod p (fun x => { x with quar := x.quar.filter (fun g => g.tag != tag || g.fenced) })).kick p

/-! ### Messages of the design (R49, R51, R116) -/

/-- First header dword of a message, for AUX. -/
def msgHdr (kind fn b3 : Nat) : Nat := kind + 128 + 256 * fn + 2 ^ 24 * b3

/-- R73: a message that is discarded as an error; LINES and REINS get their credit back. -/
def Block.msgBad (b : Block) (p row kind : Nat) (f? : Option Nat) (hdr : Nat) : Block :=
  let b1 := b.protoErr p row f? hdr
  if kind ≤ 1 then b1.retMsg p else b1

/-- R53: credits of the design that a message of a kind uses up. -/
def Block.msgTake (b : Block) (p kind f : Nat) : Block :=
  b.xMod p (fun x => if kind ≤ 1 then { x with dMsgs := x.dMsgs - 1 }
    else { x with dRec := (f, unitOf 0 x.dRec f - 1) :: dropKey f x.dRec })

/-- The payload of an EVENT or VENDOR message as taken. Table 2.9 allows 0 to 48 bytes; of a longer PLEN it says nothing: 48 free
bytes (DESIGN CHOICE, log entry 9). -/
def Block.payTaken (b : Block) (payload : List Byte) : List Byte :=
  if payload.length ≤ 48 then payload else fillTo b.freeCtr 48 []

/-- A LINES, REINS, EVENT or VENDOR message arrives and enters the interrupt fence. A LINES or REINS without credit is an overrun
whatever its FUNC (DESIGN CHOICE, log entry 51). -/
def Block.msgIn (b : Block) (p kind f b3 v vid : Nat) (payload : List Byte) : Block :=
  let hdr := msgHdr kind f b3
  if !b.active p || (b.x p).capsSent then b
  else if kind > 3 then b.protoErr p 5 (if b.isBound f p then some f else none) hdr
  else if kind ≤ 1 && (b.x p).dMsgs == 0 then (b.fence p 2).protoErr p 6 (if b.isBound f p then some f else none) hdr
  else if !b.isBound f p then (if kind ≤ 1 then b.msgTake p kind f else b).msgBad p 5 kind none hdr
  else if kind ≥ 2 && b.xver p < 1 then b.protoErr p 5 (some f) hdr
  else if kind ≥ 2 && unitOf 0 (b.x p).dRec f == 0 then
    (b.fence p 2).protoErr p 6 (some f) hdr
  else
    let b1 := b.msgTake p kind f
    if b.shut p then (if kind ≤ 1 then b1.retMsg p else b1.retRec p f 1)
    else
      let pay := b.payTaken payload
      let b2 := if payload.length ≤ 48 then b1 else { b1 with freeCtr := b1.freeCtr + 48 }
      b2.xMod p (fun x => { x with arr := x.arr + 1, fenceQ := x.fenceQ ++ [⟨x.arr, kind, f, v, vid, pay⟩] })

/-- R116: the message at the front of the interrupt fence may leave: every earlier write is answered. -/
def Block.fenceOpen (b : Block) (p : Nat) (m : FMsg) : Bool :=
  !((b.x p).lms.any (fun r => (r.op == 2 || r.op == 3) && r.arr < m.arr))

/-- R324: an unmasked line of f is asserted while the port is ACTIVE, in D3hot or D3cold. -/
def Block.linePme (b : Block) (f : Nat) : Block :=
  let on := b.rd .spLines f &&& (255 - (b.rd .spMask f &&& 255))
  if on != 0 && b.active (b.portOf f) && (b.d3hot f || b.d3cold f) then b.pmeEvent f else b

/-- What a message does when it has left the fence (R116, R156, R190). -/
def Block.msgLeave (b : Block) (p : Nat) (m : FMsg) : Block :=
  match m.kind with
  | 0 => (((b.wr .spLines m.f 0 m.v).sampleAll m.f).linePme m.f).retMsg p
  | 1 => (b.reinTake m.f m.v).retMsg p
  | 2 => (b.fnMod m.f (fun d => { d with recs := d.recs ++ [⟨m.v, 0, 0, m.payload⟩] })).evPump m.f
  | _ => (b.fnMod m.f (fun d => { d with recs := d.recs ++ [⟨0, 1, m.vid + 2 ^ 16 * m.v, m.payload⟩] })).evPump m.f

/-- R116: one message leaves the interrupt fence. -/
def Block.fenceStep (b : Block) (p : Nat) : Block :=
  match (b.x p).fenceQ with
  | [] => b
  | m :: t =>
    if b.fenceOpen p m then (b.xMod p (fun x => { x with fenceQ := t })).msgLeave p m else b

/-- R51, R73: a link-control message of the design: CREDIT, PAD, or a reserved kind. -/
def Block.creditIn (b : Block) (p kind cls count : Nat) : Block :=
  if !b.active p || (b.x p).capsSent then b
  else if kind == 15 then b
  else if kind != 0 || cls ≥ 5 then b.protoErr p 7 none
  else
    let add := fun (c : Nat) => if c == 65535 then c else c + count
    let b1 := b.xMod p (fun x => { x with cr := x.cr.modify cls add })
    (b1.pumpRsp p (b1.x p).rspQ.length).kick p

/-! ### Rein values toward the design (R117, R192) -/

/-- R192: a host write to FCP_REINS_OUT. -/
def Block.reinsOut (b : Block) (f v : Nat) : Block :=
  ((b.wr .reinsOutValue f 0 v).wr .reinsOutPending f 0 1).newId.fnMod f (fun d => { d with reinMark := b.nextId })

/-- R117: every host write of f that arrived before its latest write to FCP_REINS_OUT has been answered. -/
def Block.reinReady (b : Block) (p f : Nat) : Bool :=
  b.flag .reinsOutPending f &&
    !((b.x p).reqs.any (fun r => r.f == f && r.ord < (b.fn f).reinMark && r.orig == .posted))

/-- Send the latest value of f. -/
def Block.reinEmit (b : Block) (p f : Nat) : Block :=
  let v := b.rd .reinsOutValue f
  ((b.wr .reinsOutSent f 0 v).wr .reinsOutPending f 0 0).xsend p (.reins f v)

/-- R70, R117: the value of f goes out after an exchange, at once when a credit is held and no earlier host write waits, otherwise
as soon as that is so. -/
def Block.reinFirst (b : Block) (p f : Nat) : Block :=
  let c := (b.x p).cr[4]?.getD 0
  if hasCr c 1 && (b.wr .reinsOutPending f 0 1).reinReady p f then (b.xMod p (fun x => { x with cr := x.cr.set 4 (useCr c 1) })).reinEmit p f
  else b.wr .reinsOutPending f 0 1

/-- R192: send one REINS message of port p, the functions in rotation. -/
def Block.reinsSend (b : Block) (p : Nat) : Block :=
  let x := b.x p
  if !b.active p || b.shut p || x.capsSent || !hasCr (x.cr[4]?.getD 0) 1 then b
  else
    let fs := (b.boundFns p).filter (fun f => b.reinReady p f)
    match (fs.filter (fun f => x.reinNext ≤ f) ++ fs).head? with
    | none => b
    | some f =>
      (b.xMod p (fun x => { x with cr := x.cr.set 4 (useCr (x.cr[4]?.getD 0) 1), reinNext := f + 1 })).reinEmit p f

/-! ### Capability exchange (R68 to R70) -/

/-- R52, R68: the CAPS message of the PX896. -/
def Block.ownCaps (b : Block) (p : Nat) : CapsMsg :=
  let v := b.rd .xlbMaxver p
  ⟨v, 1, 0, (b.x p).capsSeq, if v < 2 then 15#5 else 31#5, false, true, 1024, 256, 2048, 65535, 65535, 64, b.rd .xlbTimeoutUs p,
    0x1F6A0896, b.val .verStepping 0, false⟩

/-- Send CAPS; `rel` after a RELEASE write. -/
def Block.sendCaps (b : Block) (p : Nat) (rel : Bool) : Block :=
  (b.xsend p (.caps (b.ownCaps p))).xMod p (fun x => { x with
    capsSent := true, capsRel := rel, capsSeq := (x.capsSeq + 1) % 256, vmax := b.rd .xlbMaxver p })

/-- Table 2.11: least REQ data and RSP data credits of a width. -/
def leastCr (width : Nat) : Nat × Nat :=
  match width with
  | 0 => (28, 22)
  | 1 => (49, 43)
  | 2 => (97, 86)
  | 3 => (193, 171)
  | _ => (385, 342)

/-- Width that exactly one bit of WIDTHS names. -/
def oneWidth (m : BitVec 5) : Option Nat := (List.range 5).find? (fun i => m.toNat == 2 ^ i)

/-- R69, R74: why an exchange fails, 0 when it succeeds; the PX896's VMAX is that of the CAPS it sent. Reason 4: of the fields on the
wire the reserved encodings are MAXOUT 0 and above 1,024 (which others count is open: DESIGN CHOICE, log entry 42). -/
def Block.capsWhy (b : Block) (p : Nat) (c : CapsMsg) : Nat :=
  let v := min c.vmax (b.x p).vmax
  if c.vmaj != 1 || v < c.vmin then 1
  else match oneWidth c.widths with
    | none => 2
    | some w =>
      let (q, s) := leastCr w
      if w == 4 && v < 2 then 2
      else if c.crReqh < 1 || c.crMsgs < 1 || c.crReqd < q || c.crRspd < s then 3
      else if c.bad || c.maxout == 0 || c.maxout > 1024 then 4
      else 0

/-- A status bit of the slot registers is set in every function bound to p (R330), which raises SLOT and may be a PME event
(R324). -/
def Block.slotBit (b : Block) (p : Nat) (fld : Fld) : Block :=
  b.each (b.boundFns p) (fun b f =>
    let b1 := (b.wr fld f 0 1).sample f 12
    if b.d3hot f || b.d3cold f then b1.pmeEvent f else b1)

/-- TTH_XLB_STATUS.ACTIVE takes a value; a change is shown in LINK_CHG. -/
def Block.setActive (b : Block) (p : Nat) (v : Bool) : Block :=
  if b.active p == v then b else (b.wr .xlbActive p 0 (b2n v)).slotBit p .slotLinkChg

/-- R70: what a completed exchange does whether it succeeds or fails. -/
def Block.capsVoid (b : Block) (p : Nat) : Block :=
  let b1 := (b.voidAll p false).xMod p (fun x => { x with
    quar := [], capsSent := false, capsRel := false, reinHold := none, gen := x.gen + 1 })
  let b2 := b1.linesDown p
  b2.each (b2.boundFns p) (fun b f => (b.wr .fstCapsSeen f 0 1))

/-- R353: TDIs of a port whose design has another identity than recorded move to ERROR. -/
def Block.tdiIdCheck (b : Block) (p ident idrev : Nat) : Block :=
  b.each (b.boundFns p) (fun b f =>
    if b.rd .tdiIdent f == ident && b.rd .tdiIdrev f == idrev then b else b.tdiErr f)

/-- R68: what the design's CAPS says of it is recorded by every completed exchange. -/
def Block.capsNote (b : Block) (p : Nat) (c : CapsMsg) : Block :=
  ((b.wr .xlbHalfDuplex p 0 (b2n c.halfDuplex)).wr .xlbIdent p 0 c.ident).wr .xlbIdrev p 0 c.idrev

/-- R69, R70: a successful exchange. -/
def Block.capsOk (b : Block) (p : Nat) (c : CapsMsg) : Block :=
  let v := min c.vmax (b.x p).vmax
  let w := (oneWidth c.widths).getD 0
  let fs := b.boundFns p
  let atm := decide (v ≥ 2) && c.atm
  let b1 := ((((((b.capsVoid p).capsNote p c).wr .xlbVersion p 0 v).wr .xlbWidth p 0 w).wr .xlbAtm p 0 (b2n atm)).wr .xlbCapsFail p 0
    0).wr .xlbCapsFailWhy p 0 0
  let b2 := ((b1.setActive p true).wr .psState p 0 5).xMod p (fun x => { x with
    cr := [c.crReqh, c.crReqd, c.crRsph, c.crRspd, c.crMsgs], maxout := c.maxout, tmos := []
    dReqh := 256, dReqd := 2048, dMsgs := 64, dRec := if v ≥ 1 then fs.map (fun f => (f, 4)) else [] })
  let b3 := if b2.fenced p && b2.rd .ffenceWhy p == 3 && !(b2.x p).remUp then b2 else b2.unfence p
  let b4 := b3.tdiIdCheck p c.ident c.idrev
  let b4 := b4.reshape p v (4 * 2 ^ w) atm
  let b5 := if v ≥ 1 then b4.each fs (fun b f => b.xsend p (.credit 5 f 4)) else b4
  let b6 := b5.each fs (fun b f => b.reinFirst p f)
  let b7 := b6.ttMod p (fun t => { t with fails := 0 })
  (b7.each fs (fun b f => b.devEvent f 5 0 c.ident)).kick p

/-- R69, R70: a failed exchange with its reason; a port that was ACTIVE goes back to the CAPS state. -/
def Block.capsFail (b : Block) (p why : Nat) (c : CapsMsg) : Block :=
  let b1 := (((b.capsVoid p).capsNote p c).wr .xlbCapsFail p 0 1).wr .xlbCapsFailWhy p 0 why
  ((b1.setActive p false).wr .psState p 0 4).xMod p (fun x => { x with wrs := [] })

/-- R69, R70: a CAPS of the design arrives in the CAPS state or in ACTIVE; one that was not provoked is answered first. -/
def Block.capsIn (b : Block) (p : Nat) (c : CapsMsg) : Block :=
  let st := b.rd .psState p
  if st != 4 && st != 5 then b
  else
    let b1 := if (b.x p).capsSent then b else b.sendCaps p false
    match b1.capsWhy p c with
    | 0 => b1.capsOk p c
    | why => b1.capsFail p why c

/-- R67, R99, R100: RELEASE written by function f. -/
def Block.releaseW (b : Block) (f : Nat) : Block :=
  match b.fnRec? f with
  | none => b
  | some r =>
    if r.vf || !b.fenced r.port || !b.active r.port || (b.x r.port).capsSent then b else b.sendCaps r.port true

/-- R67: the exchange of a RELEASE is abandoned. -/
def Block.capsDrop (b : Block) (p : Nat) : Block :=
  if (b.x p).capsRel then b.xMod p (fun x => { x with capsSent := false, capsRel := false }) else b

/-- Table 10.5: in the CAPS state the PX896 sends its CAPS again, unless the last exchange failed. -/
def Block.capsAgain (b : Block) (p : Nat) : Block :=
  if b.rd .psState p == 4 && (b.x p).capsSent then b.sendCaps p false else b

/-! ### Prefetch timers and lists (R118 to R121) -/

/-- Table 4.9: the age timer of a VALID entry expires. -/
def Block.pfAge (b : Block) (f e : Nat) : Block :=
  match b.pfOf f e with
  | some x => if x.st == .valid then b.pfFree f e else b
  | none => b

/-- Table 4.9: the hold timer of a HELD entry expires. -/
def Block.pfHoldEnd (b : Block) (f e : Nat) : Block :=
  match b.pfOf f e with
  | some x => if x.st == .held then (b.pfLost f x 1).pfFree f e else b
  | none => b

/-- R107, R119: a write to a page override; the VALID entries of its page are discarded. In a locked TDI it is a change of a
locked item (R353). -/
def Block.pgoWrite (b : Block) (f off v : Nat) : Block :=
  match fcpReg f (off / 4 * 4) with
  | none => b
  | some r =>
    if !(r.reg == .fcpPgoPage || r.reg == .fcpPgoAttr || r.reg == .fcpPgoCtrl) then b
    else
      let n := r.j
      let drop := fun (b : Block) =>
        let pg := b.rd .pgoPage f n
        let winB := b.flag .pgoWin f n
        b.fnMod f (fun d => { d with pf := d.pf.filter (fun x =>
          !(x.st == .valid && x.winB == winB && b.winOff f winB x.sub x.lo / 4096 == pg)) })
      (drop ((drop b).regWrite true r v)).tdiErr f

/-! ### The commands -/

/-- RSP_DONE, with a reserved code where `code` is one (R44, R73). -/
def execRspDone (p : PortIx) (tag : BitVec 12) (code : BitVec 4) (cause : BitVec 8) (pvec : BitVec 64) (data : List Byte) (s : State) :
    Host.Outcome State Fault Refusal :=
  s.on (fun b => b.rspIn p.val tag.toNat (if code.toNat == 0 || code.toNat ≥ 8 then code.toNat else 0) cause.toNat pvec.toNat data)
/-- RSP_DONE_POISON. -/
def execRspDonePoison (p : PortIx) (tag : BitVec 12) (cause : BitVec 8) (pvec : BitVec 64) (data : List Byte) (s : State) :
    Host.Outcome State Fault Refusal := s.on (fun b => b.rspIn p.val tag.toNat 1 cause.toNat pvec.toNat data)
/-- RSP_FAULT. -/
def execRspFault (p : PortIx) (tag : BitVec 12) (cause : BitVec 8) (s : State) : Host.Outcome State Fault Refusal :=
  s.on (fun b => b.rspIn p.val tag.toNat 2 cause.toNat 0 [])
/-- RSP_NOTARGET. -/
def execRspNotarget (p : PortIx) (tag : BitVec 12) (cause : BitVec 8) (s : State) : Host.Outcome State Fault Refusal :=
  s.on (fun b => b.rspIn p.val tag.toNat 3 cause.toNat 0 [])
/-- RSP_SIDEFX. -/
def execRspSidefx (p : PortIx) (tag : BitVec 12) (cause : BitVec 8) (s : State) : Host.Outcome State Fault Refusal :=
  s.on (fun b => b.rspIn p.val tag.toNat 4 cause.toNat 0 [])
/-- RSP_RETRY. -/
def execRspRetry (p : PortIx) (tag : BitVec 12) (cause : BitVec 8) (s : State) : Host.Outcome State Fault Refusal :=
  s.on (fun b => b.rspIn p.val tag.toNat 5 cause.toNat 0 [])
/-- RSP_SIZE. -/
def execRspSize (p : PortIx) (tag : BitVec 12) (cause : BitVec 8) (s : State) : Host.Outcome State Fault Refusal :=
  s.on (fun b => b.rspIn p.val tag.toNat 6 cause.toNat 0 [])
/-- RSP_SIDEFX_DONE. -/
def execRspSidefxDone (p : PortIx) (tag : BitVec 12) (cause : BitVec 8) (pvec : BitVec 64) (data : List Byte) (s : State) :
    Host.Outcome State Fault Refusal := s.on (fun b => b.rspIn p.val tag.toNat 7 cause.toNat pvec.toNat data)
/-- XLB_REQUEST_TIMEOUT (R61). -/
def execXlbRequestTimeout (p : PortIx) (rid : Nat) (s : State) : Host.Outcome State Fault Refusal :=
  s.on (fun b => b.xlbTimeout p.val rid)
/-- RETRY_GAP_EXPIRY (R62). -/
def execRetryGapExpiry (p : PortIx) (tag : BitVec 12) (s : State) : Host.Outcome State Fault Refusal :=
  s.on (fun b => b.retryGap p.val tag.toNat)
/-- XLB_TAG_QUARANTINE_EXPIRY (R63). -/
def execXlbTagQuarantineExpiry (p : PortIx) (tag : BitVec 12) (s : State) : Host.Outcome State Fault Refusal :=
  s.on (fun b => b.xlbTagFree p.val tag.toNat)
/-- LINES, or a message of a reserved type (R49, R73). -/
def execLines (p : PortIx) (kind : BitVec 4) (fn : FnIx) (level : BitVec 8) (s : State) : Host.Outcome State Fault Refusal :=
  s.on (fun b => b.msgIn p.val (if kind.toNat ≥ 5 then kind.toNat else 0) fn.val level.toNat level.toNat 0 [])
/-- REINS. -/
def execReins (p : PortIx) (fn : FnIx) (value : BitVec 32) (s : State) : Host.Outcome State Fault Refusal :=
  s.on (fun b => b.msgIn p.val 1 fn.val 0 value.toNat 0 [])
/-- EVENT: PLEN is at most 48 (Table 2.9). -/
def execEvent (p : PortIx) (fn : FnIx) (code : BitVec 16) (payload : List Byte) (s : State) : Host.Outcome State Fault Refusal :=
  s.on (fun b => b.msgIn p.val 2 fn.val payload.length code.toNat 0 payload)
/-- VENDOR: PLEN is at most 48 (Table 2.9). -/
def execVendor (p : PortIx) (fn : FnIx) (vid code : BitVec 16) (payload : List Byte) (s : State) :
    Host.Outcome State Fault Refusal :=
  s.on (fun b => b.msgIn p.val 3 fn.val payload.length code.toNat vid.toNat payload)
/-- INTERRUPT_FENCE_RELEASE (R116). -/
def execInterruptFenceRelease (p : PortIx) (s : State) : Host.Outcome State Fault Refusal := s.on (fun b => b.fenceStep p.val)
/-- CREDIT, or a link-control message of a reserved kind (R51, R73). -/
def execCredit (p : PortIx) (kind : BitVec 4) (cls : BitVec 8) (_fn : FnIx) (count : BitVec 16) (s : State) :
    Host.Outcome State Fault Refusal := s.on (fun b => b.creditIn p.val kind.toNat cls.toNat count.toNat)
/-- PAD (R51): ignored. -/
def execPad (p : PortIx) (s : State) : Host.Outcome State Fault Refusal := s.on (fun b => b.creditIn p.val 15 0 0)
/-- CAPS (R68 to R70). -/
def execCaps (p : PortIx) (c : CapsMsg) (s : State) : Host.Outcome State Fault Refusal := s.on (fun b => b.capsIn p.val c)
/-- RELEASE (R67, R99, R100). -/
def execRelease (f : FnIx) (s : State) : Host.Outcome State Fault Refusal := s.on (fun b => b.releaseW f.val)
/-- CAPS_ABANDON (R67). -/
def execCapsAbandon (p : PortIx) (s : State) : Host.Outcome State Fault Refusal := s.on (fun b => b.capsDrop p.val)
/-- CAPS_RESEND (Table 10.5). -/
def execCapsResend (p : PortIx) (s : State) : Host.Outcome State Fault Refusal := s.on (fun b => b.capsAgain p.val)
/-- REINS_OUT_WRITE (R192). -/
def execReinsOutWrite (f : FnIx) (v : BitVec 32) (s : State) : Host.Outcome State Fault Refusal :=
  s.on (fun b => if b.fnExists f.val then b.reinsOut f.val v.toNat else b)
/-- REINS_SEND (R117, R192). -/
def execReinsSend (p : PortIx) (s : State) : Host.Outcome State Fault Refusal := s.on (fun b => b.reinsSend p.val)
/-- PREFETCH_AGE_EXPIRY (Table 4.9). -/
def execPrefetchAgeExpiry (f : FnIx) (e : Nat) (s : State) : Host.Outcome State Fault Refusal := s.on (fun b => b.pfAge f.val e)
/-- PREFETCH_HOLD_EXPIRY (Table 4.9, R120). -/
def execPrefetchHoldExpiry (f : FnIx) (e : Nat) (s : State) : Host.Outcome State Fault Refusal :=
  s.on (fun b => b.pfHoldEnd f.val e)
/-- FORGET (R121). -/
def execForget (f : FnIx) (s : State) : Host.Outcome State Fault Refusal :=
  s.on (fun b => b.fnMod f.val (fun d => { d with learned := [] }))
/-- PGO_WRITE (R107, R119). -/
def execPgoWrite (f : FnIx) (off : Nat) (v : BitVec 32) (s : State) : Host.Outcome State Fault Refusal :=
  s.on (fun b => if b.fnExists f.val then b.pgoWrite f.val off v.toNat else b)
/-- LOCAL_MASTER_RD, with a reserved opcode where `kind` is one (R38 to R40, R73, R128). -/
def execLocalMasterRd (p : PortIx) (h : LmHdr) (kind : BitVec 4) (s : State) : Host.Outcome State Fault Refusal :=
  s.on (fun b => b.lmArrive p.val (if kind.toNat ≥ 6 then kind.toNat else 1) h 0 0)
/-- LOCAL_MASTER_WR (R41, R54, R128). -/
def execLocalMasterWr (p : PortIx) (h : LmHdr) (s : State) : Host.Outcome State Fault Refusal :=
  s.on (fun b => b.lmArrive p.val 2 h 0 0)
/-- LOCAL_MASTER_WRF (R54). -/
def execLocalMasterWrf (p : PortIx) (h : LmHdr) (s : State) : Host.Outcome State Fault Refusal :=
  s.on (fun b => b.lmArrive p.val 3 h 0 0)
/-- LOCAL_MASTER_ATM (R42, R125). -/
def execLocalMasterAtm (p : PortIx) (h : LmHdr) (op sz : BitVec 2) (s : State) : Host.Outcome State Fault Refusal :=
  s.on (fun b => b.lmArrive p.val 4 h op.toNat sz.toNat)
/-- LOCAL_MASTER_FLUSH (R55). -/
def execLocalMasterFlush (p : PortIx) (h : LmHdr) (s : State) : Host.Outcome State Fault Refusal :=
  s.on (fun b => b.lmArrive p.val 5 h 0 0)
/-- LOCAL_MASTER_NOP (R55). -/
def execLocalMasterNop (p : PortIx) (h : LmHdr) (s : State) : Host.Outcome State Fault Refusal :=
  s.on (fun b => b.lmArrive p.val 0 h 0 0)
/-- FLUSH_ANSWER (R55). -/
def execFlushAnswer (p : PortIx) (s : State) : Host.Outcome State Fault Refusal := s.on (fun b => b.flushStep p.val)

end Sys2Proof.Machine
end

