-- ==== Sys2Proof/Machine/FcpCmd.lean ====
section
/-! DEFINITION. Commands on the registers of the Function Control Page that have a step of their own: queues (chapter 05),
event ring (R155 to R159), error log (R289), Weave (R166 to R169) and Spur (chapter 07). -/
namespace Sys2Proof.Machine

/-- An effect on an existing function only. -/
def Block.ifFn (b : Block) (f : Nat) (g : Block → Block) : Block := if b.fnExists f then g b else b

/-! ### Error log and event ring -/

/-- R159: a consumer index is accepted when it does not move behind what has been consumed. -/
def consOk (prod old new m : Nat) : Bool := (prod + m - new % m) % m ≤ (prod + m - old) % m

/-- R289: a write to FCP_ERR_CONS. -/
def Block.errCons (b : Block) (f v : Nat) : Block :=
  let n := v % 65536
  if consOk (b.rd .errProd f) (b.rd .errCons f) n 65536 then b.wr .errCons f 0 n else b

/-- R155: a write to FCP_EVT_CTRL, judged by EN as it stood. -/
def Block.evtCtrl (b : Block) (f v : Nat) : Block :=
  let en := b.flag .evtEn f
  let b1 := if en then b else b.fldWrite .evtLog2 f 0 (bits v 1 5)
  let b2 := (b1.wr .evtEn f 0 (bits v 0 1)).fldWrite .evtEvtFull f 0 (bits v 9 1)
  let b3 := if !en && bit v 0 then b2.wr .evtProd f 0 (b2.rd .evtCons f) else b2
  b3.evPump f

/-- R159: a write to FCP_EVT_CONS. -/
def Block.evtConsW (b : Block) (f v : Nat) : Block :=
  if consOk (b.rd .evtProd f) (b.rd .evtCons f) v (2 ^ 32) then (b.wr .evtCons f 0 v).evPump f
  else b.logErr f { code := 15, aux := v }

/-! ### Weave commands (R166 to R169) -/

/-- R168: a write to WEAVE_CMD: operation 1 LOAD or 2 CLEAR on a slot; a reserved one does nothing. The program is taken as
WEAVE_STAGE holds it now. -/
def Block.weaveOp (b : Block) (f slot op : Nat) : Block :=
  if b.flag .wvBusy f then b.logErr f { code := 16, detail := slot }
  else if op != 1 && op != 2 then b
  else ((b.newId.wr .wvBusy f 0 1).wr .wvLastSlot f 0 slot).fnMod f (fun d => { d with
    wvCmd := some (slot, op, b.rd .wvStageProgram f), wvSeq := b.nextId })

/-- R166: a program can be placed: the pool holds it already or has a free entry. -/
def Block.poolFits (b : Block) (pg : Nat) : Bool := b.poolUsed.contains pg || b.poolUsed.length < 256

/-- R169: a load of another function arrived before that of f. -/
def Block.weaveAhead (b : Block) (f : Nat) : Bool :=
  (b.fns.map (·.1)).any (fun g => g != f && (b.fn g).wvSeq < (b.fn f).wvSeq &&
    match (b.fn g).wvCmd with | some (_, 1, _) => true | _ => false)

/-- R168, R169: the command in progress finishes with its RESULT; loads are taken in the order of their arrival at the Loom. -/
def Block.weaveDone (b : Block) (f : Nat) : Block :=
  match (b.fn f).wvCmd with
  | none => b
  | some (slot, op, pg) =>
    if op == 1 && b.weaveAhead f then b else
    let b1 := (b.wr .wvBusy f 0 0).fnMod f (fun d => { d with wvCmd := none })
    if !b.mode f 7 then b1.wr .wvResult f 0 7
    else if op == 2 then ((b1.wr .wvSlotProgram f slot 0).wr .wvResult f 0 0).tdiErr f
    else
      match wvCheck pg with
      | 0 =>
        if b.poolFits pg then ((b1.wr .wvSlotProgram f slot pg).wr .wvResult f 0 0).tdiErr f else b1.wr .wvResult f 0 6
      | e => b1.wr .wvResult f 0 e

/-! ### Interrupts -/

/-- R186: a Vector Control Mask (`some`) or the Function Mask is cleared; what it held is sent. -/
def Block.vecUnmask (b : Block) (f : Nat) (vec : Option Nat) : Block :=
  let b1 := match vec with
    | some v => if v < optD (b.fnRec? f) 0 (·.vectors) then b.wr .msixVmask f v 0 else b
    | none => b.wr .cfgMsixFmask f (b.actSet f) 0
  b1.pendFlush f

/-- R188: the spacing of a line ends. -/
def Block.intxSpaced (b : Block) (l pin : Nat) : Block :=
  (b.lkMod l (fun k => { k with intxBusy := k.intxBusy.set pin false })).intxSend l pin

/-! ### Shuttles -/

/-- Every queue of the functions that exist. -/
def Block.allQueues (b : Block) : List (Nat × Nat) := b.fnRecs.flatMap (fun r => (List.range 32).map (fun n => (r.f, n)))
/-- Queues in the buckets of Shuttle i. -/
def Block.queuesOn (b : Block) (i : Nat) : List (Nat × Nat) := b.allQueues.filter (fun x => b.shuttleOf x.1 x.2 == i)

/-- R280: the conditions of parking. -/
def Block.mayPark (b : Block) (i : Nat) : Bool :=
  b.buckets.contains i && !b.parked.contains i && !b.lameSh.contains i && (b.queuesOn i).all (fun x =>
    let st := b.qSt x.1 x.2
    st != 2 && st != 3 && st != 5 && (b.mode x.1 10 || st == 0 || st == 6) && !(b.q x.1 x.2).fetching)

/-- R28, R280: a Shuttle parks and is power-gated. -/
def Block.park (b : Block) (i : ShutIx) : Block :=
  if b.mayPark i.val then { b with parked := b.parked ++ [i.val], gated := b.gated ++ [.shuttle i] } else b

/-! ### The commands: queues -/

/-- DOORBELL (R137). -/
def execDoorbell (f : FnIx) (n : QIx) (hint : Option (BitVec 32)) (s : State) : Host.Outcome State Fault Refusal :=
  s.on (fun b => b.ifFn f.val (fun b => b.qBell f.val n.val (hint.map (·.toNat))))
/-- PRODUCER_INDEX (R136). -/
def execProducerIndex (f : FnIx) (n : QIx) (s : State) : Host.Outcome State Fault Refusal := s.on (fun b => b.qIndex f.val n.val)
/-- DESCRIPTOR_FETCH_DATA (R138, R140). -/
def execDescriptorFetchData (f : FnIx) (n : QIx) (s : State) : Host.Outcome State Fault Refusal :=
  s.on (fun b => b.qDescs f.val n.val)
/-- FRAGMENT_TABLE_DATA (R141). -/
def execFragmentTableData (f : FnIx) (n : QIx) (s : State) : Host.Outcome State Fault Refusal :=
  s.on (fun b => b.qFrags f.val n.val)
/-- CHUNK_READ_ISSUE (R132, R142, R170). -/
def execChunkReadIssue (f : FnIx) (n : QIx) (s : State) : Host.Outcome State Fault Refusal := s.on (fun b => b.qChunk f.val n.val)
/-- CHUNK_READ_DATA (R143, R145, R171, R172). -/
def execChunkReadData (f : FnIx) (n : QIx) (s : State) : Host.Outcome State Fault Refusal := s.on (fun b => b.qStage f.val n.val)
/-- CHUNK_WRITE_DONE (R143, R146). -/
def execChunkWriteDone (f : FnIx) (n : QIx) (s : State) : Host.Outcome State Fault Refusal :=
  s.on (fun b => b.qAdvance f.val n.val)
/-- COAL_TIMER_EXPIRY (R146): the oldest unwritten completion has waited COAL_TIME_US. -/
def execCoalTimerExpiry (f : FnIx) (n : QIx) (s : State) : Host.Outcome State Fault Refusal :=
  s.on (fun b => if (b.q f.val n.val).coalT.isSome && b.rd .qCoalTimeUs f.val n.val != 0 then b.headWb f.val n.val else b)
/-- HEAD_WRITEBACK_ACCEPTED (R147, R187). -/
def execHeadWritebackAccepted (f : FnIx) (n : QIx) (s : State) : Host.Outcome State Fault Refusal :=
  s.on (fun b => b.qSignal f.val n.val)
/-- QCMD_ENABLE (R134, R148). -/
def execQcmdEnable (f : FnIx) (n : QIx) (s : State) : Host.Outcome State Fault Refusal :=
  s.on (fun b => b.ifFn f.val (fun b => b.qCmd f.val n.val 1))
/-- QCMD_DISABLE (R134, R148). -/
def execQcmdDisable (f : FnIx) (n : QIx) (s : State) : Host.Outcome State Fault Refusal :=
  s.on (fun b => b.ifFn f.val (fun b => b.qCmd f.val n.val 2))
/-- QCMD_PAUSE (R134, R148). -/
def execQcmdPause (f : FnIx) (n : QIx) (s : State) : Host.Outcome State Fault Refusal :=
  s.on (fun b => b.ifFn f.val (fun b => b.qCmd f.val n.val 4))
/-- QCMD_RESUME (R134, R148). -/
def execQcmdResume (f : FnIx) (n : QIx) (s : State) : Host.Outcome State Fault Refusal :=
  s.on (fun b => b.ifFn f.val (fun b => b.qCmd f.val n.val 8))
/-- QCMD_RESET (R134, R150). -/
def execQcmdReset (f : FnIx) (n : QIx) (s : State) : Host.Outcome State Fault Refusal :=
  s.on (fun b => b.ifFn f.val (fun b => b.qCmd f.val n.val 16))
/-- QUEUE_RESET_DONE (R150). -/
def execQueueResetDone (f : FnIx) (n : QIx) (s : State) : Host.Outcome State Fault Refusal :=
  s.on (fun b => b.qResetEnd f.val n.val)
/-- QUEUE_PAUSED (R148). -/
def execQueuePaused (f : FnIx) (n : QIx) (s : State) : Host.Outcome State Fault Refusal := s.on (fun b => b.qPaused f.val n.val)
/-- QUEUE_DRAIN_END (R148). -/
def execQueueDrainEnd (f : FnIx) (n : QIx) (s : State) : Host.Outcome State Fault Refusal := s.on (fun b => b.qDrained f.val n.val)
/-- SHT_QHEAD_WRITE (R133). -/
def execShtQheadWrite (f : FnIx) (n : QIx) (v : BitVec 32) (s : State) : Host.Outcome State Fault Refusal :=
  s.on (fun b => b.ifFn f.val (fun b => b.qHeadWrite f.val n.val v.toNat))
/-- QUEUE_CONTEXT_WRITE (R133). -/
def execQueueContextWrite (f : FnIx) (n : QIx) (off : Nat) (v : BitVec 32) (s : State) : Host.Outcome State Fault Refusal :=
  s.on (fun b => b.ifFn f.val (fun b => b.qCtxWrite f.val n.val (off / 4 * 4) v.toNat))
/-- SHUTTLE_PARK (R280). -/
def execShuttlePark (i : ShutIx) (s : State) : Host.Outcome State Fault Refusal := s.on (fun b => b.park i)

/-! ### The commands: event ring, error log, Weave -/

/-- FCP_ERR_CONS_WRITE (R289). -/
def execFcpErrConsWrite (f : FnIx) (v : BitVec 32) (s : State) : Host.Outcome State Fault Refusal :=
  s.on (fun b => b.ifFn f.val (fun b => b.errCons f.val v.toNat))
/-- EVT_CTRL_WRITE (R155). -/
def execEvtCtrlWrite (f : FnIx) (v : BitVec 32) (s : State) : Host.Outcome State Fault Refusal :=
  s.on (fun b => b.ifFn f.val (fun b => b.evtCtrl f.val v.toNat))
/-- EVT_CONS_WRITE (R159). -/
def execEvtConsWrite (f : FnIx) (v : BitVec 32) (s : State) : Host.Outcome State Fault Refusal :=
  s.on (fun b => b.ifFn f.val (fun b => b.evtConsW f.val v.toNat))
/-- WEAVE_LOAD (R168). -/
def execWeaveLoad (f : FnIx) (slot : Fin 8) (s : State) : Host.Outcome State Fault Refusal :=
  s.on (fun b => b.ifFn f.val (fun b => b.weaveOp f.val slot.val 1))
/-- WEAVE_CLEAR (R168). -/
def execWeaveClear (f : FnIx) (slot : Fin 8) (s : State) : Host.Outcome State Fault Refusal :=
  s.on (fun b => b.ifFn f.val (fun b => b.weaveOp f.val slot.val 2))
/-- WEAVE_CMD_DONE (R168). -/
def execWeaveCmdDone (f : FnIx) (s : State) : Host.Outcome State Fault Refusal := s.on (fun b => b.weaveDone f.val)

/-! ### The commands: Spur and reins -/

/-- SPUR_SELECT (R177). -/
def execSpurSelect (f : FnIx) (s : State) : Host.Outcome State Fault Refusal := s.on (fun b => b.spurRound f.val)
/-- SPUR_ISSUE_COMMIT (R179). -/
def execSpurIssueCommit (f : FnIx) (s : State) : Host.Outcome State Fault Refusal := s.on (fun b => b.spurCommit f.val)
/-- SPUR_MASK_SET. -/
def execSpurMaskSet (f : FnIx) (v : BitVec 32) (s : State) : Host.Outcome State Fault Refusal :=
  s.on (fun b => b.ifFn f.val (fun b => b.spurMaskOn f.val v.toNat))
/-- SPUR_MASK_CLR. -/
def execSpurMaskClr (f : FnIx) (v : BitVec 32) (s : State) : Host.Outcome State Fault Refusal :=
  s.on (fun b => b.ifFn f.val (fun b => b.clrBits .spMask f.val 0 (v.toNat % 2 ^ 15)))
/-- SPUR_PEND_SET (R174). -/
def execSpurPendSet (f : FnIx) (v : BitVec 32) (s : State) : Host.Outcome State Fault Refusal :=
  s.on (fun b => b.ifFn f.val (fun b => b.each (srcBits v.toNat) (fun b k => b.raise f.val k)))
/-- SPUR_PEND_CLR. -/
def execSpurPendClr (f : FnIx) (v : BitVec 32) (s : State) : Host.Outcome State Fault Refusal :=
  s.on (fun b => b.ifFn f.val (fun b => b.spurPendOff f.val v.toNat))
/-- SPUR_EOI (R181). -/
def execSpurEoi (f : FnIx) (v : BitVec 32) (s : State) : Host.Outcome State Fault Refusal :=
  s.on (fun b => b.ifFn f.val (fun b => b.spurEoiW f.val v.toNat))
/-- SPUR_RESAMPLE (R182). -/
def execSpurResample (f : FnIx) (src : SrcIx) (s : State) : Host.Outcome State Fault Refusal :=
  s.on (fun b => b.spurResampleS f.val src.val)
/-- SPUR_SRC_CFG_WRITE (R184). -/
def execSpurSrcCfgWrite (f : FnIx) (off : Nat) (v : BitVec 32) (s : State) : Host.Outcome State Fault Refusal :=
  s.on (fun b => b.ifFn f.val (fun b => b.spurCfgW f.val (0x2100 + off % 0xF0 / 4 * 4) v.toNat))
/-- INTX_SPACING_EXPIRY (R188). -/
def execIntxSpacingExpiry (l : LinkIx) (pin : Fin 4) (s : State) : Host.Outcome State Fault Refusal :=
  s.on (fun b => b.intxSpaced l.val pin.val)
/-- REINS_PERIOD_EXPIRY (R191). -/
def execReinsPeriodExpiry (f : FnIx) (s : State) : Host.Outcome State Fault Refusal := s.on (fun b => b.reinPeriod f.val)
/-- VECTOR_CONTROL_MASK_CLEAR (R178, R186). -/
def execVectorControlMaskClear (f : FnIx) (vec : Option (Fin 64)) (s : State) : Host.Outcome State Fault Refusal :=
  s.on (fun b => b.ifFn f.val (fun b => b.vecUnmask f.val (vec.map (·.val))))

end Sys2Proof.Machine
end

