-- ==== Sys2Proof/Machine/Tether.lean ====
section
/-! DEFINITION. Tether links (chapter 10): training, loss of the link, lane retirement and narrowing, DOZE, loopback and
tether reset; the stumble counters of every unit (R285). -/
namespace Sys2Proof.Machine

/-! ### Stumble counters (R285, R286) -/

/-- Fault class of a unit (Table 12.1). -/
def unitClass : UnitRef → Nat
  | .stallLane _ => 0
  | .tetherLane _ => 1
  | .loomSlice _ => 2
  | .shuttle _ => 3
  | .core _ => 4
  | .phase _ => 5

/-- R285: count one stumble of u (a unit not yet counted: log entry 55); whether it reaches the threshold of its class. -/
def Block.stumCount (b : Block) (u : UnitRef) : Block × Bool :=
  let c := unitClass u
  let old : Stum := (b.stums.find? (fun s => s.u == u)).getD ⟨u, 0, 0⟩
  let fresh := b.time - old.start ≥ 1000 * b.rd .stumWindowMs 0 c
  let new : Stum := if fresh then ⟨u, b.time, 1⟩ else { old with count := old.count + 1 }
  ({ b with stums := new :: b.stums.filter (fun s => s.u != u) }, new.count == b.rd .stumThreshold 0 c)

/-! ### Lane masks (R243, R258, R261) -/

/-- Mask of some lanes. -/
def maskOf (l : List Nat) : Nat := bitMap 8 (fun i => l.contains i)
/-- The largest of 8, 4, 2 and 1 that is at most n; 0 for none. -/
def widthFor (n : Nat) : Nat := if n ≥ 8 then 8 else if n ≥ 4 then 4 else if n ≥ 2 then 2 else min n 1
/-- The w lowest of some lanes in normal orientation, the w highest in reversed orientation. -/
def pickLanes (rev : Bool) (l : List Nat) (w : Nat) : Nat := maskOf (if rev then l.drop (l.length - w) else l.take w)
/-- Bits of a that are not in m. -/
def without (a m : Nat) : Nat := a - (a &&& m)

/-! ### Entering DETECT, loss of the link -/

/-- R269: a port enters LOOPBACK: what waits meets it as a fenced port, lines read deasserted, locked TDIs go to ERROR; it sends
IDLE flits. -/
def Block.loopEnter (b : Block) (p : Nat) : Block :=
  let b1 := b.wr .psState p 0 6
  let b2 := b1.each (b1.x p).reqs (fun b r => b.endReq p r 2 2 [])
  ((b2.linesDown p).each (b2.boundFns p) (fun b f => b.tdiErr f)).putFlit p 1 []

/-- Attempts in succession that ended in DETECT with TRAIN_FAIL + 1; from the eighth on the count stands until ACTIVE. -/
def failCount (n : Nat) (failed : Bool) : Nat := if failed then n + 1 else if n ≥ 8 then n else 0

/-- Table 10.5: a port enters DETECT, `failed` with TRAIN_FAIL + 1; near loopback takes effect there. Retired lanes and counters
stay. -/
def Block.tthDetect (b : Block) (p : Nat) (failed : Bool := false) : Block :=
  let b1 := ((((((((b.wr .psState p 0 0).wr .psRate p 0 0).wr .psWidthRx p 0 0).wr .psWidthTx p 0 0).wr .plRxmask p 0 0).wr
    .plTxmask p 0 0).wr .psTxDoze p 0 0).wr .psRxDoze p 0 0).ttMod p (fun t =>
      { fails := failCount t.fails failed, backoff := decide (failCount t.fails failed ≥ 8) })
  if b1.rd .pcLoopback p == 1 then b1.loopEnter p else b1

/-- Table 10.10: the effects of losing the link on XLB. The live fields of the Xinov table change when the port was ACTIVE (R92,
R95). -/
def Block.tthDown (b : Block) (p : Nat) : Block :=
  let was := b2n (b.active p)
  let b1 := ((b.voidAll p true).linesDown p).setActive p false
  b1.xMod p (fun x => { x with cr := [0, 0, 0, 0, 0], maxout := 0, dReqh := 0, dReqd := 0, dMsgs := 0, dRec := []
                               capsSent := false, capsRel := false, gen := x.gen + was })

/-- R268: the link is lost; `counted` unless RETRAIN is the cause. -/
def Block.tthLost (b : Block) (p : Nat) (counted : Bool) : Block :=
  let b1 := if counted then b.incSat .pcntLinkDown p else b
  (b1.tthDown p).tthDetect p

/-- Table 10.5: a training attempt ends in DETECT. -/
def Block.trainFail (b : Block) (p : Nat) : Block := (b.incSat .pcntTrainFail p).tthDetect p true

/-! ### Training (R255 to R258) -/

/-- Change what training has found on a lane. -/
def Block.lnMod (b : Block) (p lane : Nat) (g : LaneTrn → LaneTrn) : Block :=
  b.ttMod p (fun t => { t with lanes := t.lanes.modify lane g })
/-- What training has found on a lane. -/
def Block.ln (b : Block) (p lane : Nat) : LaneTrn := (b.tt p).lanes[lane]?.getD {}
/-- Lanes in training. -/
def Block.trnLanes (b : Block) (p : Nat) : List Nat := lanesOf (b.tt p).found

/-- Index of lane i of port p among the Tether lanes. -/
def tl (p i : Nat) : Nat := 8 * p + i

/-- R259: the receiver of lane i has measured its eyes. -/
def Block.fomSet (b : Block) (p i : Nat) (es : List Eye) : Block :=
  if b.rd .psState p == 0 then b else b.wr .tlaneFom (tl p i) 0 (laneFom (b.rd .psRate p ≥ 3) es)

/-- R274: MAXRATE, MAXWIDTH and LOOPBACK as they stood at the last entry to DETECT. -/
def Block.portCfg (b : Block) (p : Nat) : Nat × Nat × Nat :=
  (b.tt p).portCfg.getD (b.rd .pcMaxrate p, b.rd .pcMaxwidth p, b.rd .pcLoopback p)
/-- Far loopback is asked for (R269). -/
def Block.farLoop (b : Block) (p : Nat) : Bool := (b.portCfg p).2.2 == 2

/-- R256: a training block goes out on a lane: ROLE 0, the rates up to MAXRATE, the STEP, the FOM of the lane's receiver, the preset
asked for; FLAGS bit 1 requests far loopback, bit 0 is 0 (DESIGN CHOICE, log entry 53). A block is recorded when its content is new;
the repetitions are not (log entry 46). -/
def Block.putBlock (b : Block) (p lane : Nat) : Block :=
  b.putWire (.block p lane (blockBytes ⟨0, lane, BitVec.ofNat 4 (2 ^ (b.portCfg p).1 - 1), (b.tt p).step, b.rd .tlaneFom (tl p lane),
    (b.ln p lane).preset, BitVec.ofNat 2 (2 * b2n (b.farLoop p)), true, false⟩))

/-- A new STEP goes out on every lane in training. -/
def Block.sayStep (b : Block) (p s : Nat) : Block :=
  let b1 := (b.ttMod p (fun t => { t with step := s })).emit (.tth p (.step s))
  b1.each (b1.trnLanes p) (fun b i => b.putBlock p i)

/-- A preset is asked for on a lane. -/
def Block.sayPreset (b : Block) (p lane preset : Nat) : Block :=
  ((b.lnMod p lane (fun l => { l with preset := preset })).emit (.tth p (.txreq lane preset))).putBlock p lane

/-- The module and the slot let the port train: powered, power good, TTH_PRST_N high. -/
def Block.portReady (b : Block) (p : Nat) : Bool :=
  b.pow.st == .on && (b.pin p).pwren && (b.pin p).pwrgd && !(b.pin p).prstLow

/-- DETECT: receivers found on some lanes; retired lanes are left out (R262). -/
def Block.rxDetect (b : Block) (p found : Nat) : Block :=
  let m := without (without (found % 256) (b.rd .plRxRetired p)) (b.rd .plTxRetired p)
  if b.rd .psState p != 0 || !b.portReady p || (b.tt p).backoff || m == 0 then b
  else
    let b1 := { b with gated := b.gated.filter (fun g => match g with | .port q => q.val != p | _ => true) }
    ((b1.wr .psState p 0 1).wr .psRate p 0 1).ttMod p (fun t => { t with
      found := m, lanes := List.replicate 8 {} }) |>.sayStep p 0

/-- The adapt step starts, or starts again at a lower rate; `was` stands for the partner's STEP until its next block: after a fall 4,
so that one request of the partner, seen on several lanes, is one fall (R258). -/
def Block.adaptStart (b : Block) (p rate was : Nat) : Block :=
  let again := fun (l : LaneTrn) => { l with best := none, done := false, pstep := was, pfom := 0 }
  let b1 := (b.wr .psRate p 0 rate).ttMod p (fun t => { t with step := 2, lanes := t.lanes.map again })
  (b1.each (b1.trnLanes p) (fun b i => b.sayPreset p i 0)).sayStep p 2

/-- R242: the highest rate of a set of rates that is at most n. -/
def topRate (m n : Nat) : Nat := ((List.range 5).filter (fun r => 1 ≤ r && r ≤ n && bit m (r - 1))).getLastD 0

/-- R242, R257: the base step ends with the lanes that had 64 good blocks. -/
def Block.baseDone (b : Block) (p : Nat) : Block :=
  let ls := (b.trnLanes p).filter (fun i => (b.ln p i).n ≥ 64)
  match ls with
  | [] => b.trainFail p
  | r :: _ =>
    let m := ls.foldl (fun a i => a &&& (b.ln p i).rates) 15
    let low := ls.foldl (fun a i => min a (b.ln p i).plane) 255
    let rate := topRate m (b.portCfg p).1
    if rate == 0 then b.trainFail p
    else
      let b1 := (b.wr .psReversed p 0 (b2n ((b.ln p r).plane != low))).ttMod p (fun t => { t with
        found := maskOf ls, common := m, polarity := maskOf (ls.filter (fun i => (b.ln p i).inv)) })
      b1.adaptStart p rate 0

/-- R258: no lane is usable: both sides fall to the next lower common rate, below the lowest the attempt fails. -/
def Block.rateFall (b : Block) (p : Nat) : Block :=
  match topRate (b.tt p).common (b.rd .psRate p - 1) with
  | 0 => b.trainFail p
  | r => b.adaptStart p r 4

/-- R258: adaptation has ended: the usable lanes give the width and the lane mask, and the port goes to LOCK. -/
def Block.adaptDone (b : Block) (p : Nat) : Block :=
  let least := b.rd .teqFomRetire (p / 16)
  let ok := (b.trnLanes p).filter (fun i => least ≤ b.rd .tlaneFom (tl p i) && least ≤ (b.ln p i).pfom)
  let w := widthFor (min ok.length (b.portCfg p).2.1)
  if w == 0 then (b.sayStep p 4).rateFall p
  else
    let m := pickLanes (b.flag .psReversed p) ok w
    (((((((b.wr .psState p 0 2).wr .psWidthNeg p 0 w).wr .psWidthRx p 0 w).wr .psWidthTx p 0 w).wr .plRxmask p 0 m).wr .plTxmask p 0 m).ttMod
      p (fun t => { t with trained := m, lock := false, desk := false, pStatus := 0 }))

/-- Both sides report STEP = 3. -/
def Block.adaptCheck (b : Block) (p : Nat) : Block :=
  if (b.tt p).step == 3 && (b.trnLanes p).all (fun i => (b.ln p i).pstep == 3) then b.adaptDone p else b

/-- R256 to R258: a training block arrives on a lane. -/
def Block.trainBlk (b : Block) (p lane : Nat) (k : TrainBlk) : Block :=
  if !(k.good && k.role == 1) then (if (b.tt p).step ≤ 1 then b.lnMod p lane (fun l => { l with n := 0 }) else b)
  else if (b.tt p).step ≤ 1 then
    if b.farLoop p && bit k.flags.toNat 0 then b.loopEnter p
    else
      let b1 := b.lnMod p lane (fun l => { l with
        n := if k.step ≥ 1 then l.n + 1 else 0, plane := k.lane, rates := k.rates.toNat, inv := k.inverted, pstep := k.step })
      let b2 := if (b1.tt p).step == 0 then b1.sayStep p 1 else b1
      if (b2.trnLanes p).all (fun i => (b2.ln p i).n ≥ 64) && !b2.farLoop p then b2.baseDone p else b2
  else
    let fresh := (b.ln p lane).pstep != 4
    let b1 := (b.lnMod p lane (fun l => { l with pstep := k.step, pfom := k.fom })).ttMod p (fun t => { t with
      txPreset := ((List.range 8).map (fun i => if i == lane then k.txreq else t.txPreset[i]?.getD 0)) })
    if k.step == 4 then (if fresh then b1.rateFall p else b1) else b1.adaptCheck p

/-- TRAINING_BLOCK: bytes and eyes of a lane in training. -/
def Block.blockIn (b : Block) (p lane : Nat) (bytes : List Byte) (es : List Eye) : Block :=
  if b.rd .psState p != 1 || !bit (b.tt p).found lane then b
  else
    let (l, b1) := b.takeBytes 32 bytes
    (b1.fomSet p lane es).trainBlk p lane (blockOf l)

/-- R258: a lane keeps the preset with the highest FOM. -/
def Block.laneKeep (b : Block) (p lane : Nat) : Block :=
  let l := b.ln p lane
  if l.done then b
  else
    let best := l.best.getD (0, 0)
    (((b.lnMod p lane (fun l => { l with done := true })).wr .tlaneFom (tl p lane) 0 best.2).wr .tlaneTxpreset
      (tl p lane) 0 best.1).sayPreset p lane best.1

/-- The search has ended on every lane: STEP = 3 is reported. -/
def Block.searchEnd (b : Block) (p : Nat) : Block :=
  if (b.trnLanes p).all (fun i => (b.ln p i).done) then
    (b.sayStep p 3).adaptCheck p
  else b

/-- R258, R259: a preset has been held for 20 µs and its FOM measured. -/
def Block.dwell (b : Block) (p lane : Nat) (es : List Eye) : Block :=
  let fom := laneFom (b.rd .psRate p ≥ 3) es
  if b.rd .psState p != 1 || (b.tt p).step != 2 || !bit (b.tt p).found lane || (b.ln p lane).done then b
  else
    let better := fun (l : LaneTrn) => match l.best with | some x => decide (x.2 < fom) | none => true
    let b1 := (b.lnMod p lane (fun l => { l with best := if better l then some (l.preset, fom) else l.best })).wr .tlaneFom (tl p lane) 0 fom
    let goal := b1.rd .teqFomTarget (p / 16)
    let all' := (b1.trnLanes p).all (fun i => (b1.ln p i).best.isSome && goal ≤ b1.rd .tlaneFom (tl p i))
    let next := (b1.ln p lane).preset + 1
    if all' then (b1.each (b1.trnLanes p) (fun b i => b.laneKeep p i)).searchEnd p
    else if next < b1.rd .teqPresets (p / 16) then
      b1.sayPreset p lane next
    else (b1.laneKeep p lane).searchEnd p


/-- Table 10.5: a state reaches its time limit. -/
def Block.stateLimit (b : Block) (p : Nat) : Block :=
  match b.rd .psState p with
  | 1 =>
    if (b.tt p).step ≤ 1 then (if b.farLoop p then b.incSat .pcntTrainFail p else b.baseDone p)
    else (b.each (b.trnLanes p) (fun b i => b.laneKeep p i)).adaptDone p
  | 2 | 3 => b.trainFail p
  | _ => b

/-! ### Narrowing (R260 to R262, R313) -/

/-- The port carries flits with positions and replay (Table 10.5). -/
def Block.flitsOn (b : Block) (p : Nat) : Bool := b.rd .psState p == 4 || b.rd .psState p == 5

/-- Lanes of the receive direction that R261 can use out of a mask. -/
def Block.healthy (b : Block) (p m : Nat) : List Nat := lanesOf (without m (b.rd .plRxRetired p))

/-- The narrowing of R313 is in force (brownout, thermal trip, or the Groom's throttle of R328). -/
def Block.narrowed (b : Block) : Bool := b.pow.narrow != 0

/-- R254, R261: the first NARROW_REQ of a request goes out, unless a DOZE exit is held back. -/
def Block.askSend (b : Block) (p : Nat) : Block :=
  match (b.tt p).askMask with
  | none => b
  | some m =>
    if b.flag .psTxDoze p || (b.tt p).askF.isSome then b
    else (b.putFlit p 2 (leBytes 2 1 ++ leBytes m 1)).emit (.tth p (.narrowReq m))

/-- R253: after a bad flit everything is discarded until a REPLAY arrives, a control record too. -/
def Block.ctlIn (b : Block) (p : Nat) (g : Block → Block) : Block := if (b.tt p).rxNak then b else g b

/-- Ask the partner to transmit on a mask. -/
def Block.askLanes (b : Block) (p m : Nat) : Block :=
  if m == b.rd .plRxmask p then b
  else if (b.tt p).askMask.isSome then b.ttMod p (fun t => { t with again := true })
  else ((b.ttMod p (fun t => { t with askMask := some m })).tthWake p).askSend p

/-- The mask the receive direction should have, from a base mask, at most `cap` lanes wide. -/
def Block.wantMask (b : Block) (p base cap : Nat) : Nat :=
  let h := b.healthy p base
  pickLanes (b.flag .psReversed p) h (widthFor (min h.length cap))

/-- Cap of the receive width: TTH_WIDTH while narrowed. -/
def Block.tthCap (b : Block) : Nat := if b.narrowed then 2 ^ b.rd .broTthWidth 0 else 8

/-- R261: narrow the receive direction of a port in CAPS or ACTIVE round what is not healthy; with no lane left the link is lost. -/
def Block.narrowAsk (b : Block) (p : Nat) : Block :=
  if !b.flitsOn p then b
  else if (b.healthy p (b.rd .plRxmask p)).isEmpty then b.tthLost p true
  else b.askLanes p (b.wantMask p (b.rd .plRxmask p) b.tthCap)

/-- R313: return to the width that R261 allows. -/
def Block.widenAsk (b : Block) (p : Nat) : Block :=
  if !b.flitsOn p then b else b.askLanes p (b.wantMask p (b.tt p).trained b.tthCap)

/-- R260: a Tether lane is lame. -/
def Block.tlaneLost (b : Block) (i : Nat) : Block :=
  if b.flag .tlaneLame i then b
  else
    let p := i / 8
    (((b.wr .tlaneLame i 0 1).setBits .plRxRetired p 0 (2 ^ (i % 8))).incSat .pcntRetire p).incSat .stumLame 0 1 |>.narrowAsk p

/-- R286 class 1: one corrected byte on a Tether lane. -/
def Block.tlaneStum (b : Block) (i : TLaneIx) : Block :=
  if b.flag .tlaneLame i.val then b
  else
    let (b1, lame) := b.stumCount (.tetherLane i)
    if lame then b1.tlaneLost i.val else b1

/-- R261: answer a NARROW_REQ of the design, with F 64 positions after the first NARROW; while a DOZE exit is held back the answer
waits. -/
def Block.giveLanes (b : Block) (p m : Nat) : Block :=
  let b1 := b.tthWake p
  if b1.flag .psTxDoze p then b1.ttMod p (fun t => { t with giveNext := some m })
  else
    let f := ((b1.tt p).txPos + 64) % 65536
    ((b1.ttMod p (fun t => { t with giveF := some (m, f) })).putFlit p 2 (leBytes 3 1 ++ leBytes m 1 ++ leBytes f 2)).emit
      (.tth p (.narrow m f))

/-- R261, R262: a NARROW_REQ arrives. -/
def Block.narrowReqIn (b : Block) (p m : Nat) : Block :=
  if !b.flitsOn p || without m (b.tt p).trained != 0 || m == 0 then b
  else if (b.tt p).giveF.isSome then
    (if optD (b.tt p).giveF false (fun x => x.1 == m) then b else b.ttMod p (fun t => { t with giveNext := some m }))
  else if m == b.rd .plTxmask p then b
  else b.giveLanes p m

/-- R261: a NARROW arrives for the mask asked. -/
def Block.narrowIn (b : Block) (p m f : Nat) : Block :=
  if (b.tt p).askMask == some m then b.ttMod p (fun t => { t with askF := some (m, f) }) else b

/-- A position count, behind F, moves up to F: the flits up to there were not given one by one (log entry 46). -/
def posUpTo (pos f : Nat) : Nat := if (f + 65536 - pos % 65536) % 65536 < 32768 then pos + (f + 65536 - pos % 65536) % 65536 else pos

/-- R261, R262: the position count of a direction has reached F: it changes to its new lane mask. -/
def Block.narrowTake (b : Block) (p : Nat) (tx : Bool) : Block :=
  let t := b.tt p
  if tx then
    match t.giveF with
    | none => b
    | some (m, f) =>
      let ret := without (b.rd .plTxRetired p ||| b.rd .plTxmask p) m
      let b1 := (((b.wr .plTxRetired p 0 ret).wr .plTxmask p 0 m).wr .psWidthTx p 0 (lanesOf m).length).ttMod p
        (fun t => { t with giveF := none, giveNext := none, txPos := posUpTo t.txPos f })
      match t.giveNext with
      | some m2 => b1.narrowReqIn p m2
      | none => b1
  else
    match t.askF with
    | none => b
    | some (m, f) =>
      let b1 := ((b.wr .plRxmask p 0 m).wr .psWidthRx p 0 (lanesOf m).length).ttMod p
        (fun t => { t with askMask := none, askF := none, again := false, rxPos := posUpTo t.rxPos f })
      if t.again then b1.narrowAsk p else b1

/-! ### From DESKEW on (Table 10.5) -/

/-- Table 10.5: the port enters CAPS; numbers and positions start at 0 and the PX896 sends CAPS. A lane found lame before is left out
by narrowing. -/
def Block.capsEnter (b : Block) (p : Nat) : Block :=
  (((b.wr .psState p 0 4).ttMod p (fun t => { t with
    txSeq := 0, txOut := 0, txAck := 0, buf := [], rxNext := 0, rxCur := 0, rxNak := false, rxPos := 0, hold := none, nakOn := none
    replays := [], rxSlots := [], txPos := 0, good := 0 })).sendCaps p false).narrowAsk p

/-- LOCK to DESKEW and DESKEW to CAPS, when both sides are ready. -/
def Block.lockStep (b : Block) (p : Nat) : Block :=
  let t := b.tt p
  if b.rd .psState p == 2 && t.lock && bit t.pStatus 0 then (b.wr .psState p 0 3).ttMod p (fun t => { t with good := 0 })
  else if b.rd .psState p == 3 && t.desk && bit t.pStatus 1 then b.capsEnter p
  else b

/-- R251, R259: markers arrive on the lanes; the status of one in use tells how far the partner's receiver is. -/
def Block.markIn (b : Block) (p : Nat) (ms : List LaneMark) : Block :=
  if b.rd .psState p < 2 then b
  else
    let b1 := b.each ms (fun b m => b.fomSet p m.lane.val m.eyes)
    match ms.find? (fun m => bit (b1.rd .plRxmask p) m.lane.val && isMark m.bytes) with
    | some m => (b1.ttMod p (fun t => { t with pStatus := msgFld m.bytes 7 1 % 4 })).lockStep p
    | none => b1

/-- Table 10.5: in DESKEW a flit is received, good or bad; 32 good ones in succession show the lanes deskewed. -/
def Block.deskFlit (b : Block) (p : Nat) (ok : Bool) : Block :=
  if b.rd .psState p != 3 then b
  else
    let n := if ok then (b.tt p).good + 1 else 0
    let b1 := b.ttMod p (fun t => { t with good := n, desk := t.desk || decide (n ≥ 32) })
    if n ≥ 32 then b1.lockStep p else b1

/-! ### DOZE (R263 to R266) -/

/-- R263: the partner's transmitter is taken as dozing; it may be ACTIVE before this side is. -/
def Block.partnerDoze (b : Block) (p : Nat) : Block := if b.flitsOn p then b.wr .psRxDoze p 0 1 else b

/-- R264: the idle conditions have held: the transmitter enters DOZE. -/
def Block.dozeIn (b : Block) (p : Nat) : Block :=
  let t := b.tt p
  if b.rd .psState p == 5 && b.flag .dozeEn p && !b.flag .psTxDoze p && t.askMask.isNone && t.giveF.isNone && t.hold.isNone &&
      t.txOut == t.txSeq && (b.x p).rspQ.isEmpty then
    let rec' := leBytes 4 1
    ((((b.putFlit p 2 rec').emit (.tth p .doze)).putFlit p 2 rec').emit (.tth p .doze)).putMark p |>.wr .psTxDoze p 0 1
  else b

/-- R315 to R317: a DOZE exit that was held back is released. -/
def Block.dozeRelease (b : Block) (p : Nat) : Block :=
  if (b.tt p).held && b.flag .psTxDoze p then
    let b1 := (b.wakeGo p).askSend p
    let b2 := match (b1.tt p).giveF, (b1.tt p).giveNext with
      | none, some m => (b1.ttMod p (fun t => { t with giveNext := none })).giveLanes p m
      | _, _ => b1
    b2.ttPump p (b2.tt p).buf.length
  else b

/-! ### Tether reset (R272) and surprise removal (R273) -/

/-- Fields that a tether reset of port p restores. -/
def Block.tthKey (b : Block) (p : Nat) (k : RKey) : Bool :=
  let a := Fld.attr k.fld
  a.lvl == .tether && (match a.unit with
    | .port => k.i == p
    | .tlane => k.i / 8 == p
    | .fn => b.isBound k.i p
    | _ => false)

/-- R272: a tether reset of port p. A change of the rein values it restores is recorded (R190). -/
def Block.tthReset (b : Block) (p : Nat) : Block :=
  let fs := b.boundFns p
  let b1 := (b.tthDown p).each fs (fun b f => (b.reinTake f 0).tdiErr f)
  let b2 := if b1.fenced p && b1.rd .ffenceWhy p == 3 then b1 else b1.unfence p
  let b3 := b2.unset (fun k => b2.tthKey p k)
  let mine := fun (s : Stum) => match s.u with | .tetherLane i => i.val / 8 == p | _ => false
  let b4 := { b3 with stums := b3.stums.filter (fun s => !(mine s)) }
  let b5 := (b4.pinMod p (fun g => { g with prstLow := true })).slMod p (fun s => { s with rstT0 := some b.time })
  let b6 := b5.xMod p (fun x => { x with tmos := [], quar := x.quar.filter (fun g => g.fenced), gen := x.gen + 1 })
  b6.tthDetect p

/-- R272: the 100 µs of a tether reset are over; TTH_PRST_N is released under the slot power rules. -/
def Block.prstRelease (b : Block) (p : Nat) : Block :=
  if (b.sl p).rstT0.isSome then
    let b1 := b.slMod p (fun s => { s with rstT0 := none })
    if b.rd .slotPwrState p == 2 && !(b.sl p).held && !(b.sl p).relDone then b1.pinMod p (fun g => { g with prstLow := false })
    else b1
  else b

/-- R273: surprise removal of port p, without what the slot's power controller does. -/
def Block.removal (b : Block) (p : Nat) : Block :=
  let was := b.fenced p
  let b1 := b.fence p 3
  let b2 := if was then b1.each (b1.boundFns p) (fun b f => b.devEvent f 3 0 3) else b1
  let b3 := if b2.rd .psState p == 0 then b2 else b2.tthLost p true
  (b3.pinMod p (fun g => { g with prstLow := true })).each (b3.boundFns p) (fun b f => b.tdiErr f)

/-! ### The commands -/

/-- TETHER_RECEIVER_DETECT (Table 10.5). -/
def execTetherReceiverDetect (p : PortIx) (found : BitVec 8) (s : State) : Host.Outcome State Fault Refusal :=
  s.on (fun b => b.rxDetect p.val found.toNat)
/-- TRAINING_BLOCK (R256 to R258). -/
def execTrainingBlock (p : PortIx) (lane : Fin 8) (bytes : List Byte) (s : State) (eyes : List Eye := []) :
    Host.Outcome State Fault Refusal := s.on (fun b => b.blockIn p.val lane.val bytes eyes)
/-- ADAPT_PRESET_DWELL_EXPIRY (R258). -/
def execAdaptPresetDwellExpiry (p : PortIx) (lane : Fin 8) (eyes : List Eye) (s : State) : Host.Outcome State Fault Refusal :=
  s.on (fun b => b.dwell p.val lane.val eyes)
/-- TETHER_STATE_LIMIT_EXPIRY (Table 10.5). -/
def execTetherStateLimitExpiry (p : PortIx) (s : State) : Host.Outcome State Fault Refusal := s.on (fun b => b.stateLimit p.val)
/-- SYMBOL_LOCK (Table 10.5). -/
def execSymbolLock (p : PortIx) (s : State) : Host.Outcome State Fault Refusal :=
  s.on (fun b => if b.rd .psState p.val == 2 then (b.ttMod p.val (fun t => { t with lock := true })).lockStep p.val else b)
/-- DESKEW_DONE (Table 10.5): the lanes are deskewed, with 32 good flits received. -/
def execDeskewDone (p : PortIx) (s : State) : Host.Outcome State Fault Refusal :=
  s.on (fun b => if b.rd .psState p.val == 3 then (b.ttMod p.val (fun t => { t with desk := true })).lockStep p.val else b)
/-- TRAIN_BACKOFF_EXPIRY (Table 10.5). -/
def execTrainBackoffExpiry (p : PortIx) (s : State) : Host.Outcome State Fault Refusal :=
  s.on (fun b => b.ttMod p.val (fun t => { t with backoff := false }))
/-- SKIP_FLIT (R246): recognised and deleted; it carries no sequence number and no position. -/
def execSkipFlit (_p : PortIx) (s : State) : Host.Outcome State Fault Refusal := s.on (fun b => b)
/-- SKIP_FLIT_SEND (R246). -/
def execSkipFlitSend (p : PortIx) (s : State) : Host.Outcome State Fault Refusal :=
  s.on (fun b => if b.rd .psState p.val ≥ 2 && !b.flag .psTxDoze p.val then b.putSkip p.val else b)
/-- ALIGNMENT_MARKER (R251). -/
def execAlignmentMarker (p : PortIx) (marks : List LaneMark) (s : State) : Host.Outcome State Fault Refusal :=
  s.on (fun b => b.markIn p.val marks)
/-- ALIGNMENT_MARKER_SEND (R251). -/
def execAlignmentMarkerSend (p : PortIx) (s : State) : Host.Outcome State Fault Refusal :=
  s.on (fun b => if b.rd .psState p.val ≥ 2 && !b.flag .psTxDoze p.val then b.putMark p.val else b)
/-- NARROW_REQ (R261, R262). -/
def execNarrowReq (p : PortIx) (mask : BitVec 8) (s : State) : Host.Outcome State Fault Refusal :=
  s.on (fun b => b.ctlIn p.val (fun b => b.narrowReqIn p.val mask.toNat))
/-- NARROW (R261). -/
def execNarrow (p : PortIx) (mask : BitVec 8) (f : BitVec 16) (s : State) : Host.Outcome State Fault Refusal :=
  s.on (fun b => b.ctlIn p.val (fun b => b.narrowIn p.val mask.toNat f.toNat))
/-- NARROW_SWITCH (R261, R262). -/
def execNarrowSwitch (p : PortIx) (tx : Bool) (s : State) : Host.Outcome State Fault Refusal :=
  s.on (fun b => b.narrowTake p.val tx)
/-- DOZE (R263). -/
def execDoze (p : PortIx) (s : State) : Host.Outcome State Fault Refusal :=
  s.on (fun b => b.ctlIn p.val (fun b => b.partnerDoze p.val))
/-- ELECTRICAL_IDLE_AFTER_MARKER (R263). -/
def execElectricalIdleAfterMarker (p : PortIx) (s : State) : Host.Outcome State Fault Refusal :=
  s.on (fun b => b.partnerDoze p.val)
/-- PARTNER_WAKE (R265, R266). -/
def execPartnerWake (p : PortIx) (s : State) : Host.Outcome State Fault Refusal :=
  s.on (fun b => if b.flag .psRxDoze p.val then b.wr .psRxDoze p.val 0 0 else b)
/-- NUDGE_ARRIVAL (R266): the nudge check starts anew, which is the clock's matter. -/
def execNudgeArrival (_p : PortIx) (s : State) : Host.Outcome State Fault Refusal := s.on (fun b => b)
/-- DOZE_IDLE_EXPIRY (R264). -/
def execDozeIdleExpiry (p : PortIx) (s : State) : Host.Outcome State Fault Refusal := s.on (fun b => b.dozeIn p.val)
/-- NUDGE_BURST (R264). -/
def execNudgeBurst (p : PortIx) (s : State) : Host.Outcome State Fault Refusal :=
  s.on (fun b => if b.flag .psTxDoze p.val then b.emit (.tth p.val .nudge) else b)
/-- NUDGE_CHECK_EXPIRY (R266, R268). -/
def execNudgeCheckExpiry (p : PortIx) (s : State) : Host.Outcome State Fault Refusal :=
  s.on (fun b => if b.flitsOn p.val && b.flag .psRxDoze p.val then b.tthLost p.val true else b)
/-- TETHER_KEEPALIVE_EXPIRY (R267, R268). -/
def execTetherKeepaliveExpiry (p : PortIx) (s : State) : Host.Outcome State Fault Refusal :=
  s.on (fun b => if b.flitsOn p.val && !b.flag .psRxDoze p.val then b.tthLost p.val true else b)
/-- ACK_WAIT_EXPIRY (R265). -/
def execAckWaitExpiry (p : PortIx) (s : State) : Host.Outcome State Fault Refusal :=
  s.on (fun b => if (b.tt p.val).rxUnack > 0 then b.tthWake p.val else b)
/-- RETRAIN (R268, R269). -/
def execRetrain (p : PortIx) (s : State) : Host.Outcome State Fault Refusal := s.on (fun b => b.tthLost p.val false)
/-- PORT_RESET (R272, R274). -/
def execPortReset (p : PortIx) (s : State) : Host.Outcome State Fault Refusal := s.on (fun b => b.tthReset p.val)
/-- TTH_PRST_N_LOW (R271, R272): a low that the PX896 drives itself is no new cause. -/
def execTthPrstNLow (p : PortIx) (s : State) : Host.Outcome State Fault Refusal :=
  s.on (fun b => if (b.pin p.val).prstLow then b else b.tthReset p.val)
/-- TETHER_RESET_RELEASE (R272). -/
def execTetherResetRelease (p : PortIx) (s : State) : Host.Outcome State Fault Refusal := s.on (fun b => b.prstRelease p.val)

end Sys2Proof.Machine
end

