-- ==== Sys2Proof/Machine/Flit.lean ====
section
/-! DEFINITION. Flits of a Tether port (R247 to R254): forward error correction, the CRC, sequence numbers, acknowledgement and
replay, control records, and the assembly of XLB messages from payload slots (R36 to R51, R68). -/
namespace Sys2Proof.Machine

/-! ### Forward error correction and CRC (R249, R250) -/

/-- Syndrome at α^0 of a code word. -/
def synd0 (w : List Nat) : Nat := w.foldl (fun s c => s ^^^ c) 0
/-- Syndrome at α^1 of a code word, first byte highest. -/
def synd1 (w : List Nat) : Nat := w.foldl (fun s c => gfTwice s ^^^ c) 0

/-- The power m below 64, counted up from `m`, with x · α^m equal to s1. -/
def gfPower (s1 x m : Nat) : Nat → Option Nat
  | 0 => none
  | n + 1 => if x == s1 then some m else gfPower s1 (gfTwice x) (m + 1) n

/-- R249: a code word after correction of at most one byte, with the index of the byte corrected; none: uncorrectable. -/
def fixWord (w : List Nat) : Option (List Nat × Option Nat) :=
  let s0 := synd0 w
  let s1 := synd1 w
  if s0 == 0 && s1 == 0 then some (w, none)
  else if s0 == 0 then none
  else match gfPower s1 s0 0 64 with
    | none => none
    | some m => some (w.modify (63 - m) (fun c => c ^^^ s0), some (63 - m))

/-- Three code words laid out byte by byte again. -/
def interleave : List Nat → List Nat → List Nat → List Nat
  | a :: as, b :: bs, c :: cs => a :: b :: c :: interleave as bs cs
  | _, _, _ => []

/-- Little-endian number of byte values. -/
def leVals : List Nat → Nat
  | [] => 0
  | x :: t => x + 256 * leVals t

/-- A flit as received: its bytes after correction, the flit bytes corrected, and whether it is good (R250). -/
structure FlitRx where
  bytes : List Nat
  fixed : List Nat
  good : Bool
deriving DecidableEq, Repr

/-- R249, R250: correct and check a flit. -/
def flitCheck (l : List Nat) : FlitRx :=
  let ws := [everyThird l, everyThird (l.drop 1), everyThird (l.drop 2)]
  let fs := ws.map fixWord
  let w := fun (i : Nat) => match fs[i]? with | some (some x) => x.1 | _ => ws[i]?.getD []
  let fix := fun (i : Nat) => match fs[i]? with | some (some (_, some k)) => [i + 3 * k] | _ => []
  let out := interleave (w 0) (w 1) (w 2)
  { bytes := out, fixed := fix 0 ++ fix 1 ++ fix 2
    good := fs.all (·.isSome) && flitCrc (out.take 182) == leVals ((out.drop 182).take 4) }

/-- R261: the lanes on which a flit is received: from position F in this receiver's own count on the new mask. -/
def Block.rxMask (b : Block) (p : Nat) : Nat :=
  match (b.tt p).askF with
  | some (m, f) => if ((b.tt p).rxPos + 65536 - f) % 65536 < 32768 then m else b.rd .plRxmask p
  | none => b.rd .plRxmask p

/-- R243, R248: the physical lane of the receive direction that carries flit byte k, none when no lane is in use. -/
def Block.byteLane (b : Block) (p k : Nat) : Option Nat :=
  let ls := laneOrder (b.rxMask p) (b.flag .psReversed p)
  if ls.isEmpty then none else ls[k % ls.length]?

/-- R249: a byte corrected is counted for the port and against its lane. -/
def Block.fecCount (b : Block) (p k : Nat) : Block :=
  match b.byteLane p k with
  | none => b
  | some i =>
    let b1 := b.incSat .tlaneErrs (tl p i)
    if h : tl p i < 512 then b1.tlaneStum ⟨tl p i, h⟩ else b1

/-! ### Messages from slots (R36 to R51, R68) -/

/-- The header of a request of the design (Table 2.2), with data and mask of its sections. -/
def reqOf (w : Nat) (m : List Byte) : LmHdr :=
  let b0 := msgFld m 0 1
  let op := b0 % 16
  let t := msgFld m 1 2
  let len0 := msgFld m 3 2 % 4096
  let len := if len0 == 0 then 4096 else len0
  let a := msgFld m 8 8
  let masked := bit b0 4
  let dat := if op == 2 || op == 3 then beats w a len * w else if op == 4 then atmBytes (bits t 12 2) (bits t 14 2) else 0
  let msec := m.drop (24 + 12 * dataSlots w a len)
  let per := max (w / 8) 1
  let mask := ((List.range (beats w a len)).map (fun i =>
    let v := msgFld msec (i * per) per
    (List.range w).map (fun j => bit v j))).flatten
  ⟨BitVec.ofNat 12 t, BitVec.ofNat 64 a, len0, bit b0 5, masked, BitVec.ofNat 64 (msgFld m 16 8), (m.drop 24).take dat,
    if masked && (op == 2 || op == 3) then mask else []⟩

/-- Bytes of data behind the header of a response (R43): by the request it answers, or by the quarantined tag; for a tag that is neither
none (R43 is silent: DESIGN CHOICE, log entry 41). -/
def Block.rspBytes (b : Block) (p code tag : Nat) : Nat :=
  if code == 0 || code == 1 || code == 7 then
    match (b.x p).reqs.find? (fun r => r.tag == tag && (r.st != .waiting || r.retries > 0)) with
    | some r => if code == 7 && r.op != 1 then 0 else ansBytes (b.xw p) r
    | none => optD ((b.x p).quar.find? (fun g => g.tag == tag)) 0 (·.ans)
  else 0

/-- Slots of the message whose first slots are m; a request needs its second slot before its length is known. A MSG of a reserved type
has one (R49 is silent: DESIGN CHOICE, log entry 41). -/
def Block.slotsOf (b : Block) (p : Nat) (m : List Byte) : Nat :=
  let b0 := msgFld m 0 1
  let kind := b0 % 16
  match b0 / 64 with
  | 0 =>
    if m.length < 24 then 2
    else
      let h := reqOf (b.xw p) m
      let t := msgFld m 1 2
      2 + b.lmSlots p kind h (bits t 12 2) (bits t 14 2)
  | 1 => 1 + cdiv (b.rspBytes p kind (msgFld m 1 2 % 4096)) 12
  | 2 => if kind == 2 || kind == 3 then 1 + cdiv (min (msgFld m 3 1) 48) 12 else if kind == 4 then 4 else 1
  | _ => 1

/-- The CAPS message of Table 2.15. -/
def capsOf (m : List Byte) : CapsMsg :=
  let v := msgFld m 1 1
  ⟨v % 16, v / 16, msgFld m 2 1 % 16, msgFld m 3 1, BitVec.ofNat 5 (msgFld m 4 1), bit (msgFld m 5 1) 0, bit (msgFld m 5 1) 1,
    msgFld m 6 2, msgFld m 8 2, msgFld m 10 2, msgFld m 12 2, msgFld m 14 2, msgFld m 16 2, msgFld m 20 4, msgFld m 24 4,
    msgFld m 28 2, false⟩

/-- A whole message of the design is handed to XLB. Of a PLEN above 48, which Table 2.9 does not allow, four slots are taken with the
header, and the payload is free (log entry 9). -/
def Block.msgDeliver (b : Block) (p : Nat) (m : List Byte) : Block :=
  let b0 := msgFld m 0 1
  let kind := b0 % 16
  let t := msgFld m 1 2
  match b0 / 64 with
  | 0 => b.lmArrive p kind (reqOf (b.xw p) m) (if kind == 4 then bits t 12 2 else 0) (if kind == 4 then bits t 14 2 else 0)
  | 1 => b.rspIn p (t % 4096) kind (msgFld m 3 1) (msgFld m 4 8) ((m.drop 12).take (b.rspBytes p kind (t % 4096)))
  | 2 =>
    let f := t % 512
    let b3 := msgFld m 3 1
    let pay := if b3 > 48 then List.replicate b3 0 else (m.drop 12).take b3
    match kind with
    | 0 => b.msgIn p 0 f b3 b3 0 []
    | 1 => b.msgIn p 1 f 0 (msgFld m 4 4) 0 []
    | 2 => b.msgIn p 2 f b3 (msgFld m 4 2) 0 pay
    | 3 => b.msgIn p 3 f b3 (msgFld m 6 2) (msgFld m 4 2) pay
    | 4 => b.capsIn p (capsOf m)
    | k => b.msgIn p k f b3 0 0 []
  | _ => b.creditIn p kind (msgFld m 1 1) (msgFld m 4 2)

/-- R36, R51: one payload slot arrives: PAD between messages is ignored, and a message is handed over with its last slot. -/
def Block.slotIn (b : Block) (p : Nat) (s : List Byte) : Block :=
  let have' := (b.tt p).rxSlots
  if have'.isEmpty && msgFld s 0 1 == 0xCF then b
  else
    let all' := have' ++ [s]
    let m := all'.flatten
    if all'.length < b.slotsOf p m then b.ttMod p (fun t => { t with rxSlots := all' })
    else (b.ttMod p (fun t => { t with rxSlots := [] })).msgDeliver p m

/-! ### Replay (R252, R253) -/

/-- The payload areas of the flits of the replay buffer from number seq on that have been sent. -/
def Block.replayAreas (b : Block) (p seq : Nat) : List (List Byte) :=
  ((b.tt p).buf.filter (fun e => seq < e.first + e.n && e.first < (b.tt p).txOut)).flatMap (fun e => e.areas.drop (seq - e.first))

/-- R253, R254: replay from number seq on: a REPLAY record, then the buffered flits in order; the limit of replays of one number
within 100 µs loses the link. -/
def Block.nakReplay (b : Block) (p seq : Nat) : Block :=
  let rs := (seq, b.time) :: ((b.tt p).replays.filter (fun r => b.time - r.2 ≤ 100))
  let n := (b.tt p).txOut - seq
  let b0 := (b.putFlit p 2 (leBytes 1 1 ++ leBytes (seq % 4096) 2)).each (b.replayAreas p seq) (fun b a => b.txFlit p 0 a)
  let b1 := ((b0.ttMod p (fun t => { t with replays := rs, hold := some seq, nakOn := none })).emit
    (.tth p (.replay (seq % 4096) n))).incSat .pcntReplay p
  if (rs.filter (fun r => r.1 == seq)).length ≥ b1.rd .tlcReplayLimit p then b1.tthLost p true else b1

/-- R253, R263: a good header with NAK = 1; a dozing transmitter wakes first, and a wake that is held back keeps the NAK. -/
def Block.nakIn (b : Block) (p : Nat) : Block :=
  let seq := (b.tt p).txAck
  if (b.tt p).hold == some seq then b.ttMod p (fun t => { t with nakOn := some seq })
  else
    let b1 := b.tthWake p
    if b1.flag .psTxDoze p then b1.ttMod p (fun t => { t with nakOn := some seq, hold := none }) else b1.nakReplay p seq

/-- R252: an ACKSEQ covers flits of the replay buffer. -/
def Block.ackIn (b : Block) (p ack : Nat) : Block :=
  let t := b.tt p
  let d := (ack + 1 + 4096 - t.txAck % 4096) % 4096
  if t.txAck + d ≤ t.txOut then
    let b1 := b.ttMod p (fun t => { t with
      txAck := t.txAck + d, buf := t.buf.filter (fun e => t.txAck + d < e.first + e.n) })
    b1.ttPump p (b1.tt p).buf.length
  else b

/-- R253: what follows a bad flit or one out of sequence. -/
def Block.rxBad (b : Block) (p : Nat) : Block := ((b.ttMod p (fun t => { t with rxNak := true })).tthWake p).txNews p

/-- R253: a REPLAY record names the number of the next PAYLOAD flit. -/
def Block.replayIn (b : Block) (p seq : Nat) : Block :=
  if !b.flitsOn p then b
  else b.ttMod p (fun t =>
    let d := (seq + 4096 - t.rxNext % 4096) % 4096
    { t with rxNak := false, rxCur := if d ≥ 2048 && t.rxNext + d ≥ 4096 then t.rxNext + d - 4096 else t.rxNext + d })

/-- R253: the 2 µs after a replay have passed. -/
def Block.nakHoldEnd (b : Block) (p : Nat) : Block :=
  let t := b.tt p
  let b1 := b.ttMod p (fun t => { t with hold := none, nakOn := none })
  match t.nakOn with
  | some seq => if b.flitsOn p && !b.flag .psTxDoze p then b1.nakReplay p seq else b.ttMod p (fun t => { t with hold := none })
  | none => b1

/-- R315 to R317: a DOZE exit that was held back is released, with the replay that waited on it. -/
def Block.dozeFree (b : Block) (p : Nat) : Block :=
  let b1 := b.dozeRelease p
  match (b1.tt p).hold, (b1.tt p).nakOn with
  | none, some seq => if b1.flag .psTxDoze p || !b1.flitsOn p then b1 else b1.nakReplay p seq
  | _, _ => b1

/-! ### A flit arrives -/

/-- R252, R253, R265: a PAYLOAD flit, by its implied number. A duplicate is dropped. -/
def Block.payloadIn (b : Block) (p : Nat) (area : List Byte) : Block :=
  let t := b.tt p
  if t.rxNak then b
  else
    let b1 := b.ttMod p (fun t => { t with rxCur := t.rxCur + 1 })
    if t.rxCur < t.rxNext then b1
    else if t.rxNext < t.rxCur then b1.rxBad p
    else
      let doz := b.flag .psTxDoze p
      let b2 := b1.ttMod p (fun t => { t with rxNext := t.rxNext + 1, rxUnack := if doz then t.rxUnack + 1 else 0 })
      let b3 := if doz && (b2.tt p).rxUnack ≥ 256 then b2.tthWake p else b2.txNews p
      b3.each (List.range 15) (fun b s => if b.flitsOn p then b.slotIn p ((area.drop (12 * s)).take 12) else b)

/-- R254: a control record; until a REPLAY arrives the others are discarded. -/
def Block.recordIn (b : Block) (p : Nat) (area : List Byte) : Block :=
  let kind := msgFld area 0 1
  if kind == 1 then b.replayIn p (msgFld area 1 2 % 4096)
  else b.ctlIn p (fun b => match kind with
    | 2 => b.narrowReqIn p (msgFld area 1 1)
    | 3 => b.narrowIn p (msgFld area 1 1) (msgFld area 2 2)
    | 4 => b.partnerDoze p
    | _ => b)

/-- The header of a good flit (Table 10.3): ACKSEQ and NAK. -/
def Block.headerIn (b : Block) (p h : Nat) : Block :=
  let b1 := b.ackIn p (bits h 2 12)
  if bit h 14 then b1.nakIn p else b1.ttMod p (fun t => { t with nakOn := none })

/-- R247 to R254, R269: a flit of 192 bytes is received, behind the check for a SKIP flit. -/
def Block.flitUse (b : Block) (p : Nat) (bytes : List Byte) : Block :=
    let r := flitCheck (bytes.map (·.toNat))
    let b2 := b.each r.fixed (fun b k => if b.rd .psState p ≥ 2 then (b.incSat .pcntFecCorr p).fecCount p k else b)
    let b3 := if b2.flitsOn p then b2.ttMod p (fun t => { t with rxPos := t.rxPos + 1 }) else b2
    if !r.good then
      let b4 := b3.incSat .pcntCrcFail p
      if b4.flitsOn p then b4.rxBad p else b4.deskFlit p false
    else if !b3.flitsOn p then b3.deskFlit p true
    else
      let h := leVals (r.bytes.take 2)
      let area := ((r.bytes.drop 2).take 180).map (fun v => BitVec.ofNat 8 v)
      let b4 := b3.headerIn p h
      if !b4.flitsOn p then b4
      else match h % 4 with
        | 0 => b4.payloadIn p area
        | 2 => b4.recordIn p area
        | _ => b4

/-- R246: bytes arrive on the lanes. Before LOCK nothing listens; a SKIP flit is recognised and deleted. -/
def Block.flitIn (b : Block) (p : Nat) (bytes : List Byte) : Block :=
  if b.rd .psState p < 2 then b
  else
    let (l, b1) := b.takeBytes 192 bytes
    if isSkip (b1.rxMask p) (b1.flag .psReversed p) l then b1 else b1.flitUse p l

/-- FLIT (R247 to R254): 192 bytes. -/
def execFlit (p : PortIx) (bytes : List Byte) (s : State) : Host.Outcome State Fault Refusal :=
  s.on (fun b => b.flitIn p.val bytes)
/-- NAK_HOLDOFF_EXPIRY (R253). -/
def execNakHoldoffExpiry (p : PortIx) (s : State) : Host.Outcome State Fault Refusal := s.on (fun b => b.nakHoldEnd p.val)
/-- REPLAY (R253, R254). -/
def execReplay (p : PortIx) (seq : BitVec 12) (s : State) : Host.Outcome State Fault Refusal :=
  s.on (fun b => b.replayIn p.val seq.toNat)

end Sys2Proof.Machine
end

