-- ==== Sys2Proof/Machine/Slot.lean ====
section
/-! DEFINITION. Slot control (R330 to R332, Tables 13.8 and 13.9), the slot inputs (R271, R273), the end of Stand that they
bring about (R327), and whether the Groom runs (R25, R355). -/
namespace Sys2Proof.Machine

/-! ### The Groom -/

/-- The Groom runs its task classes (R25, R355): the module is in Walk or above, the boot ROM has handed over, the pair is not
stopped and two good cores are left. -/
def Block.groomRuns (b : Block) : Bool :=
  b.pow.st == .on && b.boot.run && !b.grm.stopped && !b.grm.dead && !b.straps.test
/-- GRM_BOOT_STATUS.STAGE. -/
def Block.stage (b : Block) : Nat := b.rd .bootStage 0
/-- The image is ready and the Groom runs. -/
def Block.groomReady (b : Block) : Bool := b.groomRuns && b.stage == 5

/-! ### The end of Stand (R327) -/

/-- R327: the module leaves Stand for Walk. -/
def Block.standLeave (b : Block) : Block :=
  { b with pow := { b.pow with st := .on, held := b.pow.held.filter (fun h => h != HeldAct.standExit) } }.wr .gaitCurrent 0 0 1

/-- R327, R315: an event ends Stand, at once or when the droop window closes. -/
def Block.standWake (b : Block) : Block :=
  if b.pow.st != .stand then b else if b.flag .pstDroop 0 then b.holdBack .standExit else b.standLeave

/-! ### The slot's power controller (Table 13.9) -/

/-- The record of a port in the running image. -/
def Block.portRec? (b : Block) (p : Nat) : Option PortRec := optD b.img none (fun im => im.port? p)
/-- Slot power states of FCP_SLOT_STATUS.PWR_STATE. -/
def Block.slotSt (b : Block) (p : Nat) : Nat := b.rd .slotPwrState p
/-- A power request has finished. -/
def Block.seqDone (b : Block) (p : Nat) : Block := b.slotBit p .slotSeqDone
/-- TTH_PWREN of the port is deasserted. -/
def Block.pwrenOff (b : Block) (p : Nat) : Block := b.pinMod p (fun g => { g with pwren := false })

/-- OFF: a power-on request, or AUTO_ON. A power-on that begins counts for R332. -/
def Block.powerOn (b : Block) (p : Nat) : Block :=
  if (b.pin p).prsnt then
    (((b.wr .slotPwrState p 0 1).slMod p (fun s => { s with onWait := true })).xMod p (fun x => { x with remUp := true }))
  else b.seqDone p

/-- A power-on request in each state of Table 13.9. -/
def Block.slotOnReq (b : Block) (p : Nat) : Block :=
  match b.slotSt p with
  | 0 => b.powerOn p
  | 2 => b.seqDone p
  | 3 => b.slMod p (fun s => { s with kept := true })
  | _ => b

/-- A power-off request in each state of Table 13.9. -/
def Block.slotOffReq (b : Block) (p : Nat) : Block :=
  match b.slotSt p with
  | 0 => b.seqDone p
  | 1 => (((b.pwrenOff p).wr .slotPwrState p 0 0).slMod p (fun s => { s with onWait := false })).seqDone p
  | 2 => ((b.tthReset p).wr .slotPwrState p 0 3).slMod p (fun s => { s with
      offWait := true, held := false, lost := false, inserted := false, relDone := false })
  | _ => b

/-- R331: SLOT_RESET, which acts only in ON that is not held. -/
def Block.slotResetReq (b : Block) (p : Nat) : Block :=
  if b.slotSt p == 2 && !(b.sl p).held then b.tthReset p else b

/-- R330: a write of the whole of FCP_SLOT_CTRL: the indicators, then PWR_REQ, then SLOT_RESET. -/
def Block.slotCtrl (b : Block) (p v : Nat) : Block :=
  let b1 := if bits v 4 2 == 3 then b else b.wr .slotAtnInd p 0 (bits v 4 2)
  let b2 := if bits v 6 2 == 3 then b1 else b1.wr .slotPwrInd p 0 (bits v 6 2)
  let b3 := match v % 4 with
    | 1 => b2.slotOnReq p
    | 2 => b2.slotOffReq p
    | _ => b2
  if bit v 2 then b3.slotResetReq p else b3

/-- R330, R342, R355: whether a request comes from the slot's owner, or from board firmware while the Groom serves it; its port. -/
def Block.slotVia (b : Block) (v : SlotVia) : Option Nat :=
  match v with
  | .groom p => if b.groomReady then some p.val else none
  | .fn f => if optD (b.portRec? (b.portOf f.val)) none (·.slotOwner) == some f.val then some (b.portOf f.val) else none

/-- A write of FCP_SLOT_CTRL through its requester; one that is not the owner has no effect. -/
def Block.slotWrite (b : Block) (via : SlotVia) (v : Nat) : Block :=
  match b.slotVia via with
  | some p => b.slotCtrl p v
  | none => b

/-- R331: TTH_PWREN is asserted, once the load step is admitted: a droop window (R315) and an increase of the input current that has
not settled (R314) hold it back. -/
def Block.slotEnable (b : Block) (p : Nat) : Block :=
  if b.slotSt p == 1 && (b.sl p).onWait then
    if b.flag .pstDroop 0 || b.pow.ramp then b.holdBack (.slotOn p)
    else
      let b1 := (b.pinMod p (fun g => { g with pwren := true })).slMod p (fun s => { s with onWait := false })
      { b1 with pow := { b1.pow with ramp := true } }
  else b

/-- Table 13.9, R332: ON, held ends when the design is back: PRST_DELAY runs. -/
def Block.holdCheck (b : Block) (p : Nat) : Block :=
  let s := b.sl p
  if s.held && (b.pin p).prsnt && (b.pin p).pwrgd && (!s.lost || s.inserted) then
    (b.slMod p (fun s => { s with held := false, lost := false, inserted := false, relDone := true })).xMod p
      (fun x => { x with remUp := true })
  else b

/-- Table 13.9: TTH_PWRGD is high in POWERING_ON. -/
def Block.goodUp (b : Block) (p : Nat) : Block :=
  let b1 := b.pinMod p (fun g => { g with pwrgd := true })
  if b1.slotSt p == 1 && (b1.pin p).pwren then (b1.wr .slotPwrState p 0 2).slMod p (fun s => { s with relDone := true })
  else b1.holdCheck p

/-- Table 13.9: PWRGD_MS passes without power good. -/
def Block.goodLate (b : Block) (p : Nat) : Block :=
  if b.slotSt p == 1 && (b.pin p).pwren then (((b.pwrenOff p).wr .slotPwrState p 0 0).slotBit p .slotPowerFault).seqDone p else b

/-- Table 13.9: PRST_DELAY after power good TTH_PRST_N is released, unless a tether reset still holds it (R272). -/
def Block.prstDelay (b : Block) (p : Nat) : Block :=
  if b.slotSt p == 2 && (b.sl p).relDone then
    let b1 := b.slMod p (fun s => { s with relDone := false })
    (if (b.sl p).rstT0.isSome then b1 else b1.pinMod p (fun g => { g with prstLow := false })).seqDone p
  else b

/-- Table 13.9: 100 µs after the tether reset of a power-off. -/
def Block.offDelay (b : Block) (p : Nat) : Block :=
  if b.slotSt p == 3 && (b.sl p).offWait then (b.pwrenOff p).slMod p (fun s => { s with offWait := false }) else b

/-- Table 13.9: POWERING_OFF ends; a kept power-on request acts. -/
def Block.offDone (b : Block) (p : Nat) : Block :=
  if b.slotSt p == 3 && !(b.sl p).offWait then
    let b1 := ((b.wr .slotPwrState p 0 0).slMod p (fun s => { s with kept := false })).seqDone p
    if (b.sl p).kept then b1.powerOn p else b1
  else b

/-- Table 13.9: what the slot does at a surprise removal; `lost`: the presence was lost. -/
def Block.slotGone (b : Block) (p : Nat) (lost : Bool) : Block :=
  if b.slotSt p == 2 then
    let b1 := b.wr .slotPwrInd p 0 0
    if optD (b.portRec? p) true (·.autoOff) then
      ((b1.pwrenOff p).wr .slotPwrState p 0 0).slMod p (fun s => { s with
        held := false, lost := false, inserted := false, relDone := false })
    else b1.slMod p (fun s => { s with held := true, lost := s.lost || lost, inserted := s.inserted && !lost, relDone := false })
  else b

/-- R271, R331: a filtered insertion. AUTO_ON acts in OFF. -/
def Block.insertion (b : Block) (p : Nat) : Block :=
  let b1 := (b.standWake.pinMod p (fun g => { g with prsnt := true })).slotBit p .slotPresenceChg
  let b2 := if (b1.sl p).held then b1.slMod p (fun s => { s with inserted := true }) else b1
  let b3 := b2.holdCheck p
  if b3.slotSt p == 0 && optD (b3.portRec? p) false (·.autoOn) then b3.powerOn p else b3

/-- R271, R273: a filtered removal. -/
def Block.presenceLost (b : Block) (p : Nat) : Block :=
  let b1 := (b.standWake.pinMod p (fun g => { g with prsnt := false })).slotBit p .slotPresenceChg
  if (b1.pin p).pwren then (b1.removal p).slotGone p true else b1

/-- R273, R330: TTH_PWRGD falls: surprise removal with POWER_FAULT while the slot is powered, the end of POWERING_OFF else. -/
def Block.goodLost (b : Block) (p : Nat) : Block :=
  let b1 := b.pinMod p (fun g => { g with pwrgd := false })
  if (b1.pin p).pwren then
    ((((if b.slotSt p == 2 then b1.standWake else b1).removal p).slotGone p false).slotBit p .slotPowerFault)
  else b1.offDone p

/-! ### The commands -/

/-- SLOT_POWER_ON_REQUEST (R330, R331): a write of FCP_SLOT_CTRL with PWR_REQ = 01b. -/
def execSlotPowerOnRequest (via : SlotVia) (v : BitVec 32) (s : State) : Host.Outcome State Fault Refusal :=
  s.on (fun b => b.slotWrite via (v.toNat / 4 * 4 + 1))
/-- SLOT_POWER_OFF_REQUEST: a write of FCP_SLOT_CTRL with PWR_REQ = 10b. -/
def execSlotPowerOffRequest (via : SlotVia) (v : BitVec 32) (s : State) : Host.Outcome State Fault Refusal :=
  s.on (fun b => b.slotWrite via (v.toNat / 4 * 4 + 2))
/-- SLOT_RESET: a write of FCP_SLOT_CTRL with SLOT_RESET = 1. -/
def execSlotReset (via : SlotVia) (v : BitVec 32) (s : State) : Host.Outcome State Fault Refusal :=
  s.on (fun b => b.slotWrite via (v.toNat ||| 4))
/-- SLOT_POWER_ENABLE (R331). -/
def execSlotPowerEnable (p : PortIx) (s : State) : Host.Outcome State Fault Refusal := s.on (fun b => b.slotEnable p.val)
/-- TTH_PWRGD_RISE (Table 13.9). -/
def execTthPwrgdRise (p : PortIx) (s : State) : Host.Outcome State Fault Refusal := s.on (fun b => b.goodUp p.val)
/-- PWRGD_MS_EXPIRY (Table 13.9). -/
def execPwrgdMsExpiry (p : PortIx) (s : State) : Host.Outcome State Fault Refusal := s.on (fun b => b.goodLate p.val)
/-- PRST_DELAY_EXPIRY (Table 13.9). -/
def execPrstDelayExpiry (p : PortIx) (s : State) : Host.Outcome State Fault Refusal := s.on (fun b => b.prstDelay p.val)
/-- SLOT_POWER_OFF_DELAY_EXPIRY (Table 13.9). -/
def execSlotPowerOffDelayExpiry (p : PortIx) (s : State) : Host.Outcome State Fault Refusal := s.on (fun b => b.offDelay p.val)
/-- POWERING_OFF_DONE (Table 13.9). -/
def execPoweringOffDone (p : PortIx) (s : State) : Host.Outcome State Fault Refusal := s.on (fun b => b.offDone p.val)
/-- TTH_PRSNT_INSERTION (R331). -/
def execTthPrsntInsertion (p : PortIx) (s : State) : Host.Outcome State Fault Refusal := s.on (fun b => b.insertion p.val)
/-- TTH_PRSNT_REMOVAL (R273). -/
def execTthPrsntRemoval (p : PortIx) (s : State) : Host.Outcome State Fault Refusal := s.on (fun b => b.presenceLost p.val)
/-- TTH_PWRGD_FALL (R273). -/
def execTthPwrgdFall (p : PortIx) (s : State) : Host.Outcome State Fault Refusal := s.on (fun b => b.goodLost p.val)
/-- TTH_ATNBTN_PRESS (R330). -/
def execTthAtnbtnPress (p : PortIx) (s : State) : Host.Outcome State Fault Refusal :=
  s.on (fun b => b.standWake.slotBit p.val .slotButton)

end Sys2Proof.Machine
end

