-- ==== Sys2Proof/Machine/Stall.lean ====
section
/-! DEFINITION. Stall links (chapter 09), PAIRED failover (R302 to R306), and the width changes and power states of a link
(R225 to R233, R278, R279). -/
namespace Sys2Proof.Machine

/-! ### Lanes of a link (R5, R216, R217) -/

/-- Form width of link l. -/
def Block.formWidth (b : Block) (l : Nat) : Nat :=
  match (b.gr (l / 4)).form, l % 4 with
  | 0, _ => 16
  | 1, _ => 8
  | 2, 0 => 8
  | _, _ => 4
/-- Stall lane of physical lane i of link l. -/
def physLane (l i : Nat) : Nat := 16 * (l / 4) + 4 * (l % 4) + i
/-- The link of a Stall lane, in the form in force. -/
def Block.linkOfLane (b : Block) (i : Nat) : Option Nat :=
  let g := i / 16
  ([4 * g, 4 * g + 1, 4 * g + 2, 4 * g + 3]).find? (fun l =>
    b.linkPresent l && physLane l 0 ≤ i && i < physLane l 0 + b.formWidth l)
/-- Physical lane of logical lane i in an orientation. -/
def Block.physOf (b : Block) (l : Nat) (rev : Bool) (i : Nat) : Nat := if rev then b.formWidth l - 1 - i else i
/-- Logical lanes 0 to w - 1 are healthy in an orientation. -/
def Block.lanesOk (b : Block) (l : Nat) (rev : Bool) (w : Nat) : Bool :=
  (List.range w).all (fun i => !bit (b.rd .lnkRetired l) (b.physOf l rev i))
/-- R225: the largest width of at most `m` lanes that an orientation gives; 0 for none. -/
def Block.widthIn (b : Block) (l : Nat) (rev : Bool) (m : Nat) : Nat :=
  optD ([16, 8, 4, 2, 1].find? (fun w => w ≤ m && w ≤ b.formWidth l && b.lanesOk l rev w)) 0 id
/-- Highest rate a group offers; on PX896-CLX, 7h acts as 6h (Table 9.8). -/
def Block.groupRate (b : Block) (g : Nat) : Nat :=
  if b.fuses.clx then min 6 (b.rd .grpMaxrate g) else b.rd .grpMaxrate g

/-! ### Ends of traffic at DL_Down (R239, Table 9.5) -/

/-- Functions that link l carries now. -/
def Block.actFns (b : Block) (l : Nat) : List Nat := (b.fnRecs.filter (fun r => b.actLink r.f == l)).map (·.f)

/-- Table 9.5: what f has on link l ends: local-master requests with LINK_DOWN, reads and translations with it; of the posted
writes those that meet `keep` stay, to be sent again. -/
def Block.dlDownFn (b : Block) (f l : Nat) (keep : PWr → Bool) : Block :=
  let p := b.portOf f
  let mine := fun (m : LmReq) => m.f == f && m.op != 5 && m.ph != .arrived
  let b1 := b.each ((b.x p).lms.filter mine) (fun b m => b.lmAnswer p m 2 7)
  let b2 := b1.each ((b1.x p).lms.filter (fun m => m.op == 5 && m.zfns.contains f)) (fun b m =>
    b.lmMod p m.arr (fun y => { y with
      zfns := y.zfns.filter (· != f), ph := match y.ph with | .failing c x => .failing c x | _ => .failing 2 7 }))
  let b3 := b2.lkMod l (fun k => { k with
    posted := (k.posted.filter (fun w => w.f != f || keep w)).map (fun w => if w.f == f then { w with sent := false } else w) })
  let b4 := (b3.dropNp f (fun _ => true)).fnMod f (fun d => { d with xreqs := [], invs := [] })
  { b4 with jobs := mapIf (fun j => j.f == f && j.link == l) (fun j => { j with dead := true }) b4.jobs }.atsFlush f

/-- R239: the function reset of f within a link reset; its drain ends at once, and no message is sent. -/
def Block.linkFnReset (b : Block) (f l : Nat) : Block :=
  (((b.dlDownFn f l (fun _ => false)).fnCut f).fnMod f (fun d => { d with flr := none, frsWait := false, stopRsp := none })).fnRestore f

/-- R302: the link-scoped set of f on link l takes its reset values. -/
def Block.setReset (b : Block) (r : FnRec) (l : Nat) : Block :=
  let j := setOn r l
  b.unset (fun k => fnKey r.f k && k.fld.isCfg && k.j == j && Block.flrWrite.linkScoped k.fld)

/-- Fields of link l, of its lanes and of its functions on it that a link reset restores. -/
def Block.linkKey (b : Block) (l : Nat) (k : RKey) : Bool :=
  let a := Fld.attr k.fld
  a.lvl == .link && (match a.unit with
    | .link => k.i == l
    | .slane => b.linkOfLane k.i == some l
    | .fn => optD (b.fnRec? k.i) false (fun r => (r.link == l || r.standby == some l) && k.j == setOn r l)
    | _ => false)

/-- The link itself returns to Detect. -/
def Block.linkState (b : Block) (l : Nat) : Block :=
  { (b.unset (fun k => b.linkKey l k)) with links := (l, {}) :: b.links }

/-- The other link of the pair of a function. -/
def otherLink (r : FnRec) (l : Nat) : Nat := if r.link == l then r.standby.getD r.link else r.link

/-- A link reset with function reset of what it carries (R238, R239). -/
def Block.linkReset (b : Block) (l : Nat) : Block :=
  let fs := b.actFns l
  let b1 := b.each fs (fun b f => b.dlDownFn f l (fun _ => false))
  (b1.linkState l).each fs (fun b f => b.linkFnReset f l)

/-! ### PAIRED failover (R302 to R306) -/

/-- Writes that Table 12.14 sends again: head write-backs, event records, Spur messages. -/
def keptWrite (w : PWr) : Bool := match w.own with | .head _ | .event _ | .evProd _ | .irq _ _ => true | _ => false

/-- Table 12.14: the queues of f: work beyond the committed point is taken back; a NO_REPEAT descriptor with such work halts. -/
def Block.failQueues (b : Block) (f : Nat) : Block :=
  b.each (List.range 32) (fun b n =>
    let q := qix f n
    if b.qSt f n == 0 || b.qSt f n == 6 then b
    else
      let lost := b.qLoses q
      let b1 := b.qMoveStart q
      let idx := (b1.qu q).idxOut
      let b2 := b1.quMod q (fun d => { d with moving := false, idxOut := false })
      match lost with
      | some (ix, frag) => b2.haltQ f n 16 3 ix frag
      | none =>
        if idx && (b2.qSt f n == 1 || b2.qSt f n == 2) then b2.indexFetch f n none
        else if idx then b2.wr .qRefetch f n 1 else b2)

/-- R304: the active link l of a pair has failed; its functions wait for the switch. -/
def Block.failStart (b : Block) (l : Nat) : Block :=
  let fs := b.actFns l
  let vs := fs.filter (fun f => optD (b.fnRec? f) false (fun r => r.vf && b.vfOn r (b.actSet f)))
  let b1 := b.each fs (fun b f => b.dlDownFn f l keptWrite)
  let kept := (b1.lk l).posted
  let b2 := (b1.linkState l).lkMod l (fun k => { k with posted := kept, failed := true, vfs := vs })
  let b3 := b2.each (b2.fnRecs.filter (fun r => fs.contains r.f)) (fun b r => (b.setReset r l).wr .recStandbyReady r.f 0 0)
  -- R179, R186: the old set's form of delivery is gone
  let b4 := b3.each (fs.map (fun f => (f, b.delivery f))) (fun b x => b.formJudge x.1 x.2)
  b4.each fs (fun b f => b.failQueues f)

/-- The standby link of the functions that link l carries is ready. -/
def Block.pairReady (b : Block) (l : Nat) : Bool :=
  b.fnRecs.any (fun r => r.standby.isSome && b.actLink r.f == l && b.flag .recStandbyReady r.f)

/-- R306: functions for which l is the standby link lose it; during a failover both links undergo link reset. -/
def Block.standbyLost (b : Block) (l : Nat) : Block :=
  let rs := b.fnRecs.filter (fun r => r.standby.isSome && (r.link == l || r.standby == some l) && b.actLink r.f != l)
  let b1 := b.each rs (fun b r => (b.setReset r l).wr .recStandbyReady r.f 0 0)
  match rs.find? (fun r => (b.lk (b.actLink r.f)).failed) with
  | some r => b1.linkReset (b.actLink r.f)
  | none => b1

/-- R304, R306: the failed link l of a pair, up again before the switch, is lost once more: only its own set is reset. -/
def Block.failAgain (b : Block) (l : Nat) : Block :=
  let fs := b.actFns l
  let vs := (b.lk l).vfs
  let b1 := b.each fs (fun b f => b.dlDownFn f l keptWrite)
  let kept := (b1.lk l).posted
  let b2 := (b1.linkState l).lkMod l (fun k => { k with posted := kept, failed := true, vfs := vs })
  b2.each (b2.fnRecs.filter (fun r => fs.contains r.f)) (fun b r => b.setReset r l)

/-- The link has L1.1 or L1.2 asked for, in L1 (R230). -/
def Block.clkreqAsks (b : Block) (l : Nat) : Bool := (b.lk l).l1ask && b.rd .lnkLtssm l == 5

/-- L1 substates that function 0 of the link enables, as bits 0 L1.2 and 1 L1.1: those for PCI-PM when every function of the link is
in D3hot, else those for ASPM (places PRESUMED from the Base Specification, log entry 32). -/
def Block.l1subEn (b : Block) (l : Nat) : Nat :=
  let v := optD (b.linkF0 l) 0 (fun r => b.rd .cfgL1pm1 r.f (setOn r l))
  if (b.actFns l).all (fun f => b.d3hot f) then bits v 0 2 else bits v 2 2

/-- A latency in the value and scale form of the Base Specification, in ns. -/
def ltrNs (v : Nat) : Nat := v % 1024 * 32 ^ bits v 10 3

/-- L1.2 is taken when it is enabled and, for ASPM with LTR enabled, each latency the link has reported is without requirement or at
least LTR_L1.2_THRESHOLD (R230; the rule is the Base Specification's, PRESUMED, log entry 32). -/
def Block.l12Ok (b : Block) (l : Nat) : Bool :=
  let f0 := b.linkF0 l
  let thr := optD f0 0 (fun r => let v := b.rd .cfgL1pm1 r.f (setOn r l); bits v 16 10 * 32 ^ bits v 29 3)
  let far := fun (v : Nat) => !bit v 15 || decide (thr ≤ ltrNs v)
  let ltrOn := optD f0 false (fun r => b.flag .cfgLtrEn r.f (setOn r l))
  bit (b.l1subEn l) 0 && ((b.actFns l).all (fun f => b.d3hot f) || !ltrOn ||
    optD (b.img.bind (fun im => im.groups.find? (fun g => g.g == l / 4))) true (fun g => far g.ltrSnoop && far g.ltrNoSnoop))

/-- R230: the pin of group g is released when every link that exists asks, is in L2, or is not trained: each asking link then
enters L1.2 when that is to be taken, else L1.1 when it is enabled. -/
def Block.clkreqJudge (b : Block) (g : Nat) : Block :=
  let ls := ([4 * g, 4 * g + 1, 4 * g + 2, 4 * g + 3]).filter (fun l => b.linkPresent l)
  if ls.any b.clkreqAsks && ls.all (fun l => b.clkreqAsks l || b.rd .lnkLtssm l == 6 || !b.dlActive l) then
    ((b.wr .gstClkreq g 0 0).grMod g (fun d => { d with ourReq := false })).each (ls.filter b.clkreqAsks) (fun b l =>
      b.wr .lnkL1sub l 0 (if b.l12Ok l then 3 else if bit (b.l1subEn l) 1 then 2 else 1))
  else b

/-- R238, R303, R306: link l undergoes a link reset, or its pair the failover in its place; the other links of its group may then
release STL_CLKREQ_N (R230). -/
def Block.linkDown (b : Block) (l : Nat) (counted : Bool) : Block :=
  let b1 := if counted then b.incSat .lnkCntLinkDown l else b
  let b2 := if (b1.lk l).failed then b1.failAgain l
    else if b1.pairReady l then b1.failStart l
    else (b1.linkReset l).standbyLost l
  b2.clkreqJudge (l / 4)

/-- R304: the switch of the functions of the failed link l to the other link of the pair, now in L0. -/
def Block.failSwitch (b : Block) (l : Nat) : Block :=
  let rs := b.fnRecs.filter (fun r => r.standby.isSome && b.actLink r.f == l)
  match rs with
  | [] => b
  | r0 :: _ =>
    let new := otherLink r0 l
    if !(b.lk l).failed || !b.inL0 new then b
    else
      let vs := (b.lk l).vfs
      let kept := (b.lk l).posted
      let b1 := b.each rs (fun b r => ((b.wr .recActiveLink r.f 0 new).incSat .recFailovers r.f).wr .recStandbyReady r.f 0 (b2n (b.dlActive l)))
      let b2 := (b1.lkMod l (fun k => { k with posted := [], failed := false, vfs := [], detect := false })).lkMod new
        (fun k => { k with posted := k.posted ++ rs.flatMap (fun r => (releaseOrder r.f kept).filter (fun w => w.f == r.f)) })
      let b3 := b2.each rs (fun b r => (b.atsFlush r.f).logErr r.f { code := 22, aux := l + 256 * new })
      let b4 := b3.each rs (fun b r =>
        if r.vf && vs.contains r.f && !b.vfOn r (b.actSet r.f) then b.flrBegin r.f false else b)
      let b5 := b4.each rs (fun b r => if b.tdiOn r.f && !b.selSecure r.f then b.wr .tdiState r.f 0 3 else b)
      let b6 := b5.each (rs.map (fun r => (r.f, b.delivery r.f))) (fun b x => b.formJudge x.1 x.2)
      (b6.each rs (fun b r => if b.bme r.f then b.bmeOn r.f else b.bmeOff r.f)).intxLink new

/-! ### Stall-group reset (R10 to R15, R218, R293) -/

/-- Links of group g that its form uses. -/
def Block.groupLinks (b : Block) (g : Nat) : List Nat :=
  ([4 * g, 4 * g + 1, 4 * g + 2, 4 * g + 3]).filter (fun l => b.linkPresent l)

/-- Sticky fields of f (R14). -/
def stickyKey (f : Nat) (k : RKey) : Bool := k.i == f && (Fld.attr k.fld).unit == .fn && (Fld.attr k.fld).lvl == .stallGroup

/-- The sticky state of a function at the reset of group g: of a paired function it is restored once both of its groups have
been reset (log entry 30). -/
def Block.stickyReset (b : Block) (g : Nat) (r : FnRec) : Block :=
  match r.standby with
  | none => b.unset (stickyKey r.f)
  | some s =>
    if r.link / 4 == s / 4 then b.unset (stickyKey r.f)
    else match (b.fn r.f).halfRst with
      | some h => if h == g then b else (b.unset (stickyKey r.f)).fnMod r.f (fun d => { d with halfRst := none })
      | none => b.fnMod r.f (fun d => { d with halfRst := some g })

/-- Fields of group g, its links and its lanes that a stall-group reset restores; the pin levels stay live. -/
def groupKey (g : Nat) (k : RKey) : Bool :=
  let a := Fld.attr k.fld
  a.lvl == .stallGroup && (match a.unit with
    | .group => k.i == g && k.fld != .gstPerst && k.fld != .gstRefclkOk && k.fld != .gstClkreq
    | .link => k.i / 4 == g
    | .slane => k.i / 16 == g
    | _ => false)

/-- Clocking mode that STL_GRP_CFG.CLOCKING selects: 0 common, 1 SRNS, 2 SRIS (R219). -/
def Block.clockMode (b : Block) (g : Nat) : Nat :=
  match b.rd .grpClocking g with
  | 3 => if b.straps.refsel then 2 else 0
  | m => m

/-- The clocking mode is entered: with separate references and STL_REFCLK out of tolerance, on the synthesised one (R219). -/
def Block.clockIn (b : Block) (g : Nat) : Block :=
  let m := b.clockMode g
  (b.wr .gstMode g 0 m).wr .gstSynth g 0 (b2n (m != 0 && !b.flag .gstRefclkOk g))

/-- R230: the PX896 pulls STL_CLKREQ_N of group g low, or has let it go. -/
def Block.clkreqPin (b : Block) (g : Nat) (low : Bool) : Block :=
  (b.wr .gstClkreq g 0 (b2n low)).grMod g (fun d => { d with ourReq := low })

/-- Stall-group reset of group g: its links, standby links first, then its own state; FORM and CLOCKING take effect. -/
def Block.groupReset (b : Block) (g : Nat) : Block :=
  let ls := b.groupLinks g
  let standby := fun (l : Nat) => b.fnRecs.any (fun r => r.standby.isSome && (r.link == l || r.standby == some l) && b.actLink r.f != l)
  let b1 := b.each (ls.filter standby ++ ls.filter (fun l => !standby l)) (fun b l => b.linkDown l false)
  let b2 := b1.each (b1.fnRecs.filter (fun r => r.link / 4 == g || optD r.standby false (fun s => s / 4 == g))) (fun b r => b.stickyReset g r)
  let b3 := b2.unset (groupKey g)
  let mine := fun (s : Stum) => match s.u with | .stallLane i => i.val / 16 == g | _ => false
  let b4 := { b3 with stums := b3.stums.filter (fun s => !(mine s)), gated := b3.gated.filter (fun u =>
    match u with | .group h => h.val != g | _ => true) }
  (b4.grMod g (fun d => { d with
    form := b4.rd .grpForm g, waits := !b4.flag .gstPerst g && b4.img.isNone })).clockIn g |>.clkreqPin g (!b4.flag .gstPerst g)

/-- STL_PERST_N_ASSERT, for 1 µs or longer. -/
def Block.perstOn (b : Block) (g : Nat) : Block :=
  let b1 := (b.wr .gstPerst g 0 1).groupReset g
  b1.grMod g (fun d => { d with waits := false, barred := false })

/-- STL_PERST_N_DEASSERT: bring-up from the first step, with the reference clock asked for; it ends Stand (R327); the 1 s of R344 runs
while there is no image. -/
def Block.perstOff (b : Block) (g : Nat) : Block :=
  if !b.flag .gstPerst g then b
  else (((b.wr .gstPerst g 0 0).grMod g (fun d => { d with waits := b.img.isNone })).clkreqPin g true).standWake

/-- IMAGE_NOT_READY_TIMEOUT: the group returns to Detect until an image is ready (R344); a link that was DL_Active is lost (R238). -/
def Block.imageLate (b : Block) (g : Nat) : Block :=
  if !(b.gr g).waits then b
  else (b.each (b.groupLinks g) (fun b l => b.linkDown l (b.dlActive l))).grMod g (fun d => { d with waits := false, barred := true })

/-! ### Reaching DL_Active -/

/-- The group's links may train (R219, R220, R342, R344). -/
def Block.mayTrain (b : Block) (g : Nat) : Bool :=
  (b.pow.st == .on || b.pow.st == .stand) && !b.flag .gstPerst g && !(b.gr g).barred &&
    (b.rd .gstMode g != 0 || b.flag .gstRefclkOk g) &&
    (b.img.isSome || (!b.straps.safe && b.sg.1.any (fun r => r.g == g)))

/-- A link reaches DL_Active as its form, its rate limit and its retired lanes allow (R216, R217, R227, Table 9.1); L2 is left
only through a stall-group reset (R323). -/
def Block.upOk (b : Block) (l : Nat) (u : LinkUp) : Bool :=
  b.linkPresent l && !b.dlActive l && b.rd .lnkLtssm l != 6 && 1 ≤ u.rate && u.rate ≤ b.groupRate (l / 4) && (u.flit || u.rate ≤ 5) &&
    (u.width == 1 || u.width == 2 || u.width == 4 || u.width == 8 || u.width == 16) && u.width ≤ b.formWidth l &&
    b.lanesOk l u.reversed u.width

/-! ### Equalisation (R221 to R223) -/

/-- Stall lane of logical lane i of link l. -/
def Block.laneAt (b : Block) (l i : Nat) : Nat := physLane l (b.physOf l (b.flag .lnkReversed l) i)

/-- Presets evaluated: in ascending order, up to the first with which every lane reaches the target. -/
def evalUpTo (goal : Nat) : List (List Nat) → List (List Nat)
  | [] => []
  | r :: t => if r.all (fun v => decide (goal ≤ v)) then [r] else r :: evalUpTo goal t

/-- Preset with the highest FOM of lane i, and that FOM; a tie goes to the lower number. -/
def bestPreset (i : Nat) : Nat → List (List Nat) → Option (Nat × Nat)
  | _, [] => none
  | n, r :: t =>
    match bestPreset i (n + 1) t with
    | some x => if (r[i]?.getD 0) ≥ x.2 then some (n, r[i]?.getD 0) else some x
    | none => some (n, r[i]?.getD 0)

/-- R222: with bypass accepted only the equalisation at the highest rate takes place. -/
def eqTaken (byp : Bool) (l : List EqRun) : List EqRun :=
  let top := l.foldl (fun a q => max a q.rate) 0
  if byp then l.filter (fun q => q.rate == top) else l

/-- R221 to R223: one equalisation of link l: the presets of Phase 2, the coefficients of Phase 3, and whether it reached L0. In PAM4
(64 and 128 GT/s) a FOM has three eyes. -/
def Block.equalise (b : Block) (l : Nat) (q : EqRun) : Block :=
  if q.rate < 3 || q.rate > b.groupRate (l / 4) then b
  else
    let n := b.rd .lnkWidthNeg l
    let foms := (q.presets.take (b.rd .seqPresets (l / 28))).map (fun row =>
      (List.range n).map (fun i => laneFom (q.rate ≥ 6) (row[i]?.getD [])))
    let rows := evalUpTo (b.rd .seqFomTarget (l / 28)) foms
    let best := (List.range n).map (fun i => (bestPreset i 0 rows).getD (0, 0))
    let b1 := b.each (List.range n) (fun b i => b.wr .slaneFom (b.laneAt l i) 0 (best[i]?.getD (0, 0)).2)
    let b2 := (b1.wr .lnkFomEnd l 0 (best.foldl (fun a x => min a x.2) 255)).lkMod l (fun k => { k with
      eqTab := (q.rate, best.map (·.1)) :: k.eqTab.filter (fun x => x.1 != q.rate), coefs := q.coefs })
    match q.rate, q.ok with
    | 6, true => b2.wr .lnkEq64Done l 0 1
    | 6, false => b2.wr .lnkEq64Fail l 0 1
    | 7, true => b2.wr .lnkEq128Done l 0 1
    | 7, false => b2.wr .lnkEq128Fail l 0 1
    | _, _ => b2

/-- STL_LANE_FOM.TXPRESET shows the presets of the last equalisation at the current rate (Table 9.10). -/
def Block.presetShow (b : Block) (l : Nat) : Block :=
  let ps := optD ((b.lk l).eqTab.find? (fun x => x.1 == b.rd .lnkRate l)) [] (·.2)
  b.each (List.range (b.rd .lnkWidthNeg l)) (fun b i => b.wr .slaneTxpreset (b.laneAt l i) 0 (ps[i]?.getD 0))

/-- R221: the receivers of a link in L0 have measured the eyes of the logical lanes in use. -/
def Block.fomSee (b : Block) (l : Nat) (eyes : List (List Eye)) : Block :=
  if !b.inL0 l then b
  else b.each (List.range (min eyes.length (b.rd .lnkWidthAct l))) (fun b i =>
    b.wr .slaneFom (b.laneAt l i) 0 (laneFom (b.rd .lnkRate l ≥ 6) (eyes[i]?.getD [])))

/-- Table 9.9: what the receivers of a link have seen in an interval is counted; FEC corrects only in Flit mode. -/
def Block.linkSee (b : Block) (l : Nat) (o : LinkObs) : Block :=
  let more := fun (b : Block) (fld : Fld) (n : Nat) => if n == 0 then b else b.wr fld l 0 (min 0xFFFF (b.rd fld l + n))
  more (more (b.fomSee l o.eyes) .lnkCntFecCorr (if b.flag .lnkFlit l then o.fecCorr else 0)) .lnkCntCrcFail o.crcFail

/-- LINK_DL_UP (R216, R217, R222, R223, R231, R240, R306, R324). -/
def Block.linkUp (b : Block) (l : Nat) (u : LinkUp) : Block :=
  if !(b.mayTrain (l / 4) && b.upOk l u) then b
  else
    let w := fun (b : Block) (fld : Fld) (v : Nat) => b.wr fld l 0 v
    let b1 := w (w (w (w (w (w (w (w b .lnkDlActive 1) .lnkFlit (b2n u.flit)) .lnkRate u.rate) .lnkWidthNeg u.width)
      .lnkWidthAct u.width) .lnkReversed (b2n u.reversed)) .lnkLtssm 3) .lnkPolarity u.polarity.toNat
    let byp := u.bypass && b.flag .seqBypass (l / 28)
    let b2 := ((b1.lkMod l (fun k => { k with partnerL0p := u.flit && u.partnerL0p, bypass := byp })).each (eqTaken byp u.eqs)
      (fun b q => b.equalise l q))
    let b3 := b2.presetShow l
    let b4 := { b3 with gated := b3.gated.filter (fun g => match g with | .group h => h.val != l / 4 | _ => true) }
    -- a pair's link that comes up beside the active one is ready as its standby
    let b5 := b4.each (b4.fnRecs.filter (fun r => r.standby.isSome && (r.link == l || r.standby == some l) && b4.actLink r.f != l &&
      !(b4.lk (b4.actLink r.f)).failed)) (fun b r => b.wr .recStandbyReady r.f 0 1)
    let fs := b5.actFns l
    let b6 := if optD (b5.linkF0 l) false (fun r => b5.flag .cfgLtrEn r.f (setOn r l)) then b5.ltrSend l else b5
    let b7 := b6.each fs (fun b f =>
      let b' := b.frsTry f
      if (b'.fn f).pmeWait then (b'.fnMod f (fun d => { d with pmeWait := false })).emit (.msg l (.pmPme f)) else b')
    -- STL_WAKE_N is let go when no function of the group still owes its PM_PME (R325)
    let owed := b7.fnRecs.any (fun r => b7.actLink r.f / 4 == l / 4 && (b7.fn r.f).pmeWait)
    ((b7.grMod (l / 4) (fun g => { g with wakeLow := g.wakeLow && owed })).pumpPosted l).intxLink l

/-! ### Recovery and the return to L0 -/

/-- R225: the width that the healthy lanes give, with its orientation; the current one is preferred. 0: none. -/
def Block.bestWidth (b : Block) (l : Nat) : Nat × Bool :=
  let m := b.rd .lnkWidthNeg l
  let rev := b.flag .lnkReversed l
  let w := b.widthIn l rev m
  let o := b.widthIn l (!rev) m
  if w ≥ o then (w, rev) else (o, !rev)

/-- A link enters Recovery, from L0 or L1 (R303). A request through L0p ends there; a lane retired and still in use is left out before
Configuration completes (R228). -/
def Block.enterRec (b : Block) (l : Nat) : Block :=
  let st := b.rd .lnkLtssm l
  if b.dlActive l && (st == 3 || st == 5) then
    let x := b.bestWidth l
    let cut := if x.1 < b.rd .lnkWidthAct l || x.2 != b.flag .lnkReversed l then some x else none
    ((b.wr .lnkL1sub l 0 0).lkMod l (fun k => { k with
      l1ask := false, l0p := none, narrowTo := if k.narrowTo.isSome then k.narrowTo else cut })).recovery l
  else b

/-- What waits for a link in L0 goes out. -/
def Block.linkGo (b : Block) (l : Nat) : Block :=
  let b1 := (b.pumpPosted l).intxLink l
  b1.each (b1.actFns l) (fun b f => b.pumpNp f)

/-- The link is in L0 again, at rate `rate` (0: the rate it had), after equalisations; a width chosen by R225 is in force (R225, R227).
An equalisation at 64 or 128 GT/s that failed has its bit set (R223). -/
def Block.backToL0 (b : Block) (l rate : Nat) (eqs : List EqRun) : Block :=
  if !(b.dlActive l && b.rd .lnkLtssm l == 4) then b
  else
    let b1 := if 1 ≤ rate && rate ≤ b.groupRate (l / 4) && (b.flag .lnkFlit l || rate ≤ 5) then b.wr .lnkRate l 0 rate else b
    let b2 := match (b1.lk l).narrowTo with
      | some (w, rev) => ((b1.wr .lnkWidthNeg l 0 w).wr .lnkWidthAct l 0 w).wr .lnkReversed l 0 (b2n rev)
      | none => b1
    let b3 := (b2.each eqs (fun b q => b.equalise l q)).presetShow l
    ((b3.wr .lnkLtssm l 0 3).lkMod l (fun k => { k with narrowTo := none, detect := false })).linkGo l

/-! ### Lane retirement (R224 to R228) -/

/-- The link can change its width through L0p (R225, R278). -/
def Block.l0pAble (b : Block) (l : Nat) : Bool :=
  b.flag .lnkFlit l && b.flag .grpL0pEn (l / 4) && (b.lk l).partnerL0p && b.inL0 l

/-- Ask the partner for a width through L0p, for a reason (0 retirement, 1 ECONOMY, 2 brownout). -/
def Block.l0pAsk (b : Block) (l w why : Nat) : Block :=
  (b.lkMod l (fun k => { k with l0p := some (w, why) })).emit (.msg l (.l0pReq w))

/-- R225 to R228: the width chosen after retirements. A request through L0p that is outstanding for more lanes than R225 allows is
withdrawn. -/
def Block.chooseWidth (b : Block) (l : Nat) : Block :=
  if !b.dlActive l then b
  else
    let (w, rev) := b.bestWidth l
    let b1 := b.lkMod l (fun k => { k with l0p := k.l0p.filter (fun x => x.1 ≤ w) })
    if w == 0 then b.linkDown l true
    else if b.rd .lnkLtssm l == 4 then
      -- a Recovery in progress excludes the lane before Configuration completes (R228)
      b1.lkMod l (fun k => { k with narrowTo := some (w, rev) })
    else if rev == b.flag .lnkReversed l then
      if b.rd .lnkWidthAct l ≤ w || (b1.lk l).l0p.isSome then b1
      else if b1.l0pAble l then b1.l0pAsk l w 0
      else (b1.lkMod l (fun k => { k with narrowTo := some (w, rev) })).enterRec l
    else (b1.lkMod l (fun k => { k with narrowTo := some (w, rev) })).enterRec l

/-- R224: a Stall lane is lame; its width is still to be chosen. -/
def Block.slaneMark (b : Block) (i : Nat) : Block :=
  if b.flag .slaneLame i then b
  else
    let b1 := (b.wr .slaneLame i 0 1).incSat .stumLame 0 0
    match b.linkOfLane i with
    | none => b1
    | some l =>
      let ph := i - physLane l 0
      ((b1.setBits .lnkRetired l 0 (2 ^ ph)).incSat .lnkCntRetire l).lkMod l (fun k => { k with
        margin := k.margin.filter (fun x => x.1 != ph) })

/-- R224, R228: Stall lanes become lame in one cycle: those of one link enter one choice of width. -/
def Block.slanesLost (b : Block) (is : List Nat) : Block :=
  let new := is.filter (fun i => !b.flag .slaneLame i)
  (b.each new (fun b i => b.slaneMark i)).each ((new.filterMap (fun i => b.linkOfLane i)).dedup) (fun b l => b.chooseWidth l)

/-- R286 class 0: one corrected error on a Stall lane; whether the lane is lame now. -/
def Block.slaneStum (b : Block) (i : SLaneIx) : Block × Bool :=
  let b0 := b.incSat .slaneErrs i.val
  if b0.flag .slaneLame i.val then (b0, false) else b0.stumCount (.stallLane i)

/-- Corrected errors on Stall lanes in one cycle. -/
def Block.slaneStums (b : Block) (is : List SLaneIx) : Block :=
  let r := is.foldl (fun (x : Block × List Nat) i =>
    let (b1, lame) := x.1.slaneStum i
    (b1, if lame then x.2 ++ [i.val] else x.2)) (b, [])
  r.1.slanesLost r.2

/-- The active width of a link changes through L0p; margining ends (R233). -/
def Block.l0pSet (b : Block) (l w : Nat) : Block :=
  ((b.wr .lnkWidthAct l 0 w).incSat .lnkCntL0pChg l).lkMod l (fun k => { k with margin := [] })

/-- Widest width below or at the last negotiated one that R225 allows in the current orientation. -/
def Block.l0pMax (b : Block) (l : Nat) : Nat := b.widthIn l (b.flag .lnkReversed l) (b.rd .lnkWidthNeg l)

/-- Cap on widths while the narrowing of R313 holds; 16 otherwise. -/
def Block.stlCap (b : Block) : Nat := if b.pow.narrow == 0 then 16 else 2 ^ b.rd .broStlWidth 0

/-- A widening through L0p is a wake of the link: a droop window holds it back (R279, R315). -/
def Block.l0pWiden (b : Block) (l : Nat) : Block :=
  let cur := b.rd .lnkWidthAct l
  let up := min (min (2 * cur) (b.l0pMax l)) b.stlCap
  if !b.l0pAble l || up ≤ cur then b
  else if (b.lk l).l0p.isSome then b.lkMod l (fun k => { k with want := true })
  else if b.flag .pstDroop 0 then b.holdBack (.l0pWiden l)
  else b.l0pAsk l up 1

/-- L0P_ACCEPTANCE: the width asked for is in force; a retirement or a widening that waited follows (R228, R279). -/
def Block.l0pTaken (b : Block) (l : Nat) : Block :=
  match (b.lk l).l0p with
  | none => b
  | some (w, _) =>
    let want := (b.lk l).want
    let b0 := b.lkMod l (fun k => { k with l0p := none, want := false, econLow := 0 })
    let b1 := if w > b.l0pMax l then b0 else b0.l0pSet l w
    let b2 := if b1.rd .lnkWidthAct l > b1.l0pMax l then b1.chooseWidth l
      else if b1.l0pAble l && b1.stlCap < w then b1.l0pAsk l b1.stlCap 2 else b1
    if want then b2.l0pWiden l else b2

/-- R226: a request of the partner for width w is judged against the retired lanes. -/
def Block.l0pPartner (b : Block) (l w : Nat) : Block :=
  if !b.inL0 l then b
  else if b.l0pAble l && (w == 1 || w == 2 || w == 4 || w == 8 || w == 16) && w ≤ b.l0pMax l then
    (b.l0pSet l w).emit (.msg l (.l0pAns true))
  else b.emit (.msg l (.l0pAns false))

/-- The link's group is in ECONOMY (Table 11.1). -/
def Block.linkEconomy (b : Block) (l : Nat) : Bool :=
  optD b.img false (fun im => im.groups.any (fun r => r.g == l / 4 && r.economy))

/-- R278: one interval of 10 µs with payload occupancies in percent; `waited`: a TLP has waited 2 µs. ECONOMY judges them. -/
def Block.l0pInterval (b : Block) (l tx rx : Nat) (waited : Bool) : Block :=
  if !(b.linkEconomy l && b.l0pAble l) then b
  else if tx > 75 || rx > 75 || waited then (b.lkMod l (fun k => { k with econLow := 0 })).l0pWiden l
  else if tx < 25 && rx < 25 then
    let n := (b.lk l).econLow + 1
    let cur := b.rd .lnkWidthAct l
    if n ≥ 10 && cur > 1 && (b.lk l).l0p.isNone then (b.lkMod l (fun k => { k with econLow := 0 })).l0pAsk l (cur / 2) 1
    else b.lkMod l (fun k => { k with econLow := min n 10 })
  else b.lkMod l (fun k => { k with econLow := 0 })

/-! ### Link power states (R229, R230) -/

/-- Function 0 of the link enables ASPM L1 (R229). -/
def Block.aspmL1 (b : Block) (l : Nat) : Bool :=
  optD (b.linkF0 l) false (fun r => bit (b.rd .cfgAspm r.f (setOn r l)) 1)

/-- R229: nothing waits on the link and nothing of its functions is outstanding. -/
def Block.linkIdle (b : Block) (l : Nat) : Bool :=
  !(b.lk l).posted.any b.wAhead && (b.actFns l).all (fun f =>
    (b.fn f).np.isEmpty && (List.range 32).all (fun n => b.qSt f n != 2))

/-- A link in L1 asks to release STL_CLKREQ_N when a substate is to be taken. -/
def Block.l1Ask (b : Block) (l : Nat) : Block :=
  (b.lkMod l (fun k => { k with l1ask := b.l12Ok l || bit (b.l1subEn l) 1 })).clkreqJudge (l / 4)

/-- ASPM_IDLE_EXPIRY (R229, R230): the link enters L1 and asks to release STL_CLKREQ_N; a link in L1.0 without traffic asks again. With
every function in D3hot the entry is that of PCI-PM (PRESUMED from the Base Specification, log entry 32). -/
def Block.aspmIdle (b : Block) (l : Nat) : Block :=
  if b.inL0 l && (b.aspmL1 l || (b.actFns l).all (fun f => b.d3hot f)) && b.linkIdle l then
    (((b.wr .lnkLtssm l 0 5).wr .lnkL1sub l 0 1).emit (.msg l .enterL1)).l1Ask l
  else if b.rd .lnkL1sub l == 1 && b.linkIdle l then b.l1Ask l
  else b

/-- CLKREQ_ASSERT (R230): links in L1.1 or L1.2 return to L1.0; one without traffic asks again when its idle time has run once more. -/
def Block.clkreqIn (b : Block) (g : Nat) : Block :=
  (b.clkreqOn g).each (b.groupLinks g) (fun b l => b.lkMod l (fun k => { k with l1ask := false }))

/-- PME_TURN_OFF (R323, R325): the link is answered and enters L2; its Data Link Layer goes down without being lost. -/
def Block.pmeOff (b : Block) (l : Nat) : Block :=
  if !b.dlActive l || b.rd .lnkLtssm l == 6 then b
  else
    let b1 := b.emit (.msg l .pmeAck)
    ((b1.wr .lnkLtssm l 0 6).wr .lnkDlActive l 0 0).clkreqJudge (l / 4)

/-! ### Lane Margining (R232, R233) -/

/-- Table 9.3: the value a report command returns, by its payload 88h to 90h (codes PRESUMED from the Base Specification, log entry
32). -/
def marginReport (fast : Bool) (payload : Nat) : Option Nat :=
  match payload with
  | 0x88 => some 0x1F
  | 0x89 => some 64
  | 0x8A => some (if fast then 16 else 32)
  | 0x8B => some (if fast then 40 else 50)
  | 0x8C => some (if fast then 8 else 20)
  | 0x8D => some 63
  | 0x8E => some 63
  | 0x8F => some 0
  | 0x90 => some 15
  | _ => none

/-- The logical lane lies in the active width and is not retired (R233). -/
def Block.marginLane (b : Block) (l lane : Nat) : Bool :=
  b.inL0 l && lane < b.rd .lnkWidthAct l && !bit (b.rd .lnkRetired l) (b.physOf l (b.flag .lnkReversed l) lane)

/-- MARGINING_COMMAND (R232, R233): types 1 report, 2 set, 3 step left or right, 4 step up or down. -/
def Block.marginCmd (b : Block) (l lane ty payload : Nat) : Block :=
  if !b.marginLane l lane || b.rd .lnkRate l < 4 then b
  else
    let ph := b.physOf l (b.flag .lnkReversed l) lane
    let off := b.lkMod l (fun k => { k with margin := k.margin.filter (fun x => x.1 != ph) })
    let say := fun (b : Block) (v : Nat) => b.emit (.msg l (.margin lane ty v))
    match ty with
    | 1 => match marginReport (b.rd .lnkRate l ≥ 6) payload with
      | some v => say b v
      | none => b
    | 2 =>
      if payload == 0x0F || payload == 0x55 then say off payload
      else if payload / 64 == 3 then say b payload
      else b
    | 3 | 4 =>
      let b1 := { off.lkMod l (fun k => { k with margin := (ph, ty, payload) :: k.margin }) with freeCtr := b.freeCtr + 1 }
      say b1 (128 + Config.marginErrors b.freeCtr % 64)
    | _ => b

/-! ### IDE (R235, R236) -/

/-- Functions whose TLPs go on stream `id` of link l. -/
def Block.onStream (b : Block) (l id : Nat) : List Nat :=
  (b.actFns l).filter (fun f =>
    let ks := b.selOf f
    let link := bit (b.ideReg l 3) 0 && streamId (b.ideReg l 3) == id && !b.tdiOn f
    ks.any (fun k => streamId (b.ideReg l (6 + 8 * k)) == id) || (link && ks.all (fun k => bit (b.ideReg l (10 + 8 * k)) 0)))

/-- R236: what f had not sent on a stream that became Insecure: local-master requests fail with HOST_UR, queues halt, messages
set their Pending Bits. -/
def Block.streamCut (b : Block) (f : Nat) : Block :=
  let p := b.portOf f
  let l := b.actLink f
  let cutW := fun (w : PWr) => w.f == f && !w.sent && b.ideCut f (some w.addr)
  let cutN := fun (t : HTag) => t.st == .waiting && b.ideCut f (some t.addr)
  let early := fun (m : LmReq) => (m.ph == .xlate || m.ph == .queued) && b.ideCut f (some m.host)
  let mineN := fun (m : LmReq) (t : HTag) => cutN t && (t.own == .lmAtm p m.arr || t.own == .lmZlr p m.arr ||
    match t.own with | .lmRd q a _ => q == p && a == m.arr | _ => false)
  let hit := (b.x p).lms.filter (fun m => m.f == f && (early m || (b.lk l).posted.any (fun w => cutW w && w.own == .lm p m.arr) ||
    (b.fn f).np.any (mineN m)))
  let b1 := b.each hit (fun b m =>
    let gone := ((b.fn f).np.filter (mineN m)).length
    let b' := (b.lkMod l (fun k => { k with posted := k.posted.filter (fun w => !(cutW w) || w.own != .lm p m.arr) })).dropNp f (mineN m)
    if early m || m.op == 4 then b'.lmAnswer p m 2 4
    else (b'.lmMod p m.arr (fun y => { y with left := y.left - gone, zlr := if y.zlr == 2 && gone > 0 then 3 else y.zlr })).lmFail p m.arr 2 4)
  let b2 := (b1.each (List.range 32) (fun b n =>
    let q := qix f n
    if (b.fn f).np.any (fun t => cutN t && ownQueue t.own == some q) ||
        (b.lk l).posted.any (fun w => cutW w && pOfQueue q w) then (b.qDropWaiting f n).haltQ f n 16 1 (b.rd .qHead f n) 0 else b))
  (b2.irqHold f).lmPumpAll

/-- IDE_CHECK_FAIL (R236): stream `id` of link l leaves the Secure state; AER; its TDIs move to ERROR. -/
def Block.ideFail (b : Block) (l id : Nat) : Block :=
  if !b.streamIs l id (·.secure) then b
  else
    let b1 := b.lkMod l (fun k => { k with ide := mapIf (fun s => s.id == id) (fun s => { s with secure := false, fell := true, keys := [] }) k.ide })
    let fs := b1.onStream l id
    let b2 := b1.each fs (fun b f => b.logErr f { code := 20, detail := id % 256 })
    (b2.each fs (fun b f => if b.tdiOn f && !b.selSecure f then b.tdiErr f else b)).each fs (fun b f => b.streamCut f)

/-! ### Reference clocks of a Stall die (R220) -/

/-- STL_REFCLK falls out of tolerance. -/
def Block.refLoss (b : Block) (d : Nat) : Block :=
  b.each (List.range 7) (fun b k =>
    let g := 7 * d + k
    if !b.flag .gstRefclkOk g then b
    else
      let b1 := b.wr .gstRefclkOk g 0 0
      if b1.rd .gstMode g == 0 then
        b1.each ((b1.groupLinks g).filter (fun l => b1.rd .lnkLtssm l != 0)) (fun b l => b.linkDown l (b.dlActive l))
      else if b1.flag .gstSynth g then b1
      else (b1.wr .gstSynth g 0 1).each ((b1.groupLinks g).filter (fun l => b1.inL0 l)) (fun b l => b.enterRec l))

/-- The reference returns: a group in SRNS or SRIS keeps the synthesised one until its next stall-group reset. -/
def Block.refBack (b : Block) (d : Nat) : Block :=
  b.each (List.range 7) (fun b k => b.wr .gstRefclkOk (7 * d + k) 0 1)

/-! ### The commands -/

/-- STL_PERST_N_ASSERT (R218, R292, R344). -/
def execStlPerstNAssert (g : GroupIx) (s : State) : Host.Outcome State Fault Refusal := s.on (fun b => b.perstOn g.val)
/-- STL_PERST_N_DEASSERT (R293, R327, R344). -/
def execStlPerstNDeassert (g : GroupIx) (s : State) : Host.Outcome State Fault Refusal := s.on (fun b => b.perstOff g.val)
/-- IMAGE_NOT_READY_TIMEOUT (R344). -/
def execImageNotReadyTimeout (g : GroupIx) (s : State) : Host.Outcome State Fault Refusal := s.on (fun b => b.imageLate g.val)
/-- STL_REFCLK_LOSS (R220). -/
def execStlRefclkLoss (d : SDieIx) (s : State) : Host.Outcome State Fault Refusal := s.on (fun b => b.refLoss d.val)
/-- STL_REFCLK_RETURN (R220). -/
def execStlRefclkReturn (d : SDieIx) (s : State) : Host.Outcome State Fault Refusal := s.on (fun b => b.refBack d.val)
/-- LINK_DL_UP (R216, R217, R231, R240, R306). -/
def execLinkDlUp (l : LinkIx) (u : LinkUp) (s : State) : Host.Outcome State Fault Refusal := s.on (fun b => b.linkUp l.val u)
/-- LINK_LOSS (R238, R303): the Data Link Layer leaves DL_Active unasked. In L2 it has left it before. -/
def execLinkLoss (l : LinkIx) (s : State) : Host.Outcome State Fault Refusal :=
  s.on (fun b => if b.dlActive l.val then b.linkDown l.val true else b)
/-- HOT_RESET (R238). -/
def execHotReset (l : LinkIx) (s : State) : Host.Outcome State Fault Refusal :=
  s.on (fun b => if b.dlActive l.val then b.linkDown l.val false else b)
/-- LINK_DISABLE (R238): the link is then in Disabled. -/
def execLinkDisable (l : LinkIx) (s : State) : Host.Outcome State Fault Refusal :=
  s.on (fun b => if b.dlActive l.val then (b.linkDown l.val false).wr .lnkLtssm l.val 0 7 else b)
/-- PAIRED_DETECT_EXPIRY (R303): the active link of a pair has not returned to L0. -/
def execPairedDetectExpiry (l : LinkIx) (s : State) : Host.Outcome State Fault Refusal :=
  s.on (fun b =>
    if (b.lk l.val).detect && b.rd .lnkLtssm l.val == 4 then
      if b.pairReady l.val then b.linkDown l.val true else b.lkMod l.val (fun k => { k with detect := false })
    else b)
/-- FAILOVER_SWITCH (R304): l is the failed link. -/
def execFailoverSwitch (l : LinkIx) (s : State) : Host.Outcome State Fault Refusal := s.on (fun b => b.failSwitch l.val)
/-- L0P_PARTNER_REQUEST (R226). -/
def execL0pPartnerRequest (l : LinkIx) (w : Nat) (s : State) : Host.Outcome State Fault Refusal := s.on (fun b => b.l0pPartner l.val w)
/-- L0P_ACCEPTANCE (R225). -/
def execL0pAcceptance (l : LinkIx) (s : State) : Host.Outcome State Fault Refusal := s.on (fun b => b.l0pTaken l.val)
/-- L0P_OCCUPANCY_INTERVAL (R278, R279); what the receivers have seen meanwhile comes with it (R221, Table 9.9, log entry 54). -/
def execL0pOccupancyInterval (l : LinkIx) (tx rx : Nat) (waited : Bool) (s : State) (obs : LinkObs := ⟨[], 0, 0⟩) :
    Host.Outcome State Fault Refusal := s.on (fun b => (b.linkSee l.val obs).l0pInterval l.val tx rx waited)
/-- ASPM_IDLE_EXPIRY (R229, R230). -/
def execAspmIdleExpiry (l : LinkIx) (s : State) : Host.Outcome State Fault Refusal := s.on (fun b => b.aspmIdle l.val)
/-- CLKREQ_ASSERT (R230). -/
def execClkreqAssert (g : GroupIx) (s : State) : Host.Outcome State Fault Refusal := s.on (fun b => b.clkreqIn g.val)
/-- MARGINING_COMMAND (R232, R233). -/
def execMarginingCommand (l : LinkIx) (lane : Nat) (ty : BitVec 3) (payload : BitVec 8) (s : State) :
    Host.Outcome State Fault Refusal := s.on (fun b => b.marginCmd l.val lane ty.toNat payload.toNat)
/-- IDE_CHECK_FAIL (R236). -/
def execIdeCheckFail (l : LinkIx) (stream : Nat) (s : State) : Host.Outcome State Fault Refusal := s.on (fun b => b.ideFail l.val stream)
/-- LINK_RECOVERY (R303). -/
def execLinkRecovery (l : LinkIx) (s : State) : Host.Outcome State Fault Refusal := s.on (fun b => b.enterRec l.val)
/-- LINK_RETURN_TO_L0 (R225, R303). -/
def execLinkReturnToL0 (l : LinkIx) (rate : Nat) (s : State) (eqs : List EqRun := []) : Host.Outcome State Fault Refusal :=
  s.on (fun b => b.backToL0 l.val rate eqs)
/-- PME_TURN_OFF (R323). -/
def execPmeTurnOff (l : LinkIx) (s : State) : Host.Outcome State Fault Refusal := s.on (fun b => b.pmeOff l.val)

end Sys2Proof.Machine
end

