-- ==== Sys2Proof/Machine/ConfigSpace.lean ====
section
/-! DEFINITION. Configuration space (R78 to R91): the dwords a function presents, as data, and configuration requests. Bit places
that the manual names only by their Base Specification names are PRESUMED (log entry 32). -/
namespace Sys2Proof.Machine

/-! ### The layout of a dword -/

/-- `n` bits of field `fld` from bit `at'` on, shown from bit `lo` of the dword on. -/
structure CfgPiece where
  fld : Fld
  lo : Nat
  n : Nat
  at' : Nat := 0
deriving DecidableEq, Repr

/-- A dword of configuration space: bits with a stated value, the mask of the bits the manual states, and its fields. A bit of
neither takes the Base Specification's reset value (R83). -/
structure CfgDw where
  const : Nat := 0
  named : Nat := 0xFFFFFFFF
  ps : List CfgPiece := []
deriving DecidableEq, Repr

/-- Mask of n bits from lo. -/
def maskAt (lo n : Nat) : Nat := (2 ^ n - 1) * 2 ^ lo

/-! ### Capability lists (Table 3.4) -/

/-- Stall link l presents the IDE capability (Table 11.1). -/
def Block.linkSecure (b : Block) (l : Nat) : Bool := (b.linkFns l).any (fun r => bit r.modes 8)

/-- Offset of the DOE capability. -/
def Block.doeOff (b : Block) (r : FnRec) : Nat := if b.tableDisc r.f then 0x100 else 0x380

/-- Extended capabilities of a function on link l in the order of their chain: offset, ID, version, bytes. -/
def Block.extCaps (b : Block) (l : Nat) (r : FnRec) : List (Nat × Nat × Nat × Nat) :=
  let t := b.tableDisc r.f
  let head := !r.vf && r.pfIndex == 0
  let on := fun (p : Bool) (c : Nat × Nat × Nat × Nat) => if p then [c] else []
  on (!t) (0x100, 0x01, 2, 0x60) ++ on (t && !r.vf) (0x100, 0x2E, 1, 0x18) ++ on (!r.vf) (0x160, 0x0E, 1, 8) ++
    on (!t) (0x170, 0x0D, 1, 8) ++
    (if head then [(0x180, 0x2F, 1, 0x10), (0x190, 0x19, 1, 0x50), (0x1E0, 0x25, 1, 0x10), (0x1F0, 0x26, 1, 0x30),
      (0x220, 0x2A, 1, 0x30), (0x250, 0x31, 1, 0x20)] else []) ++
    on (head && !b.fuses.clx) (0x270, Config.baseSpecDword r.f 0x270 % 65536, 1, 0x20) ++
    (if head then [(0x290, 0x27, 1, 0x48), (0x2E0, 0x1E, 1, 0x10), (0x2F0, 0x18, 1, 8), (0x300, 0x32, 1, 0x20)] else []) ++
    on (!r.vf && r.totalVfs != 0) (0x320, 0x10, 1, 0x40) ++ on (!r.vf && r.privileged) (0x360, 0x0F, 1, 8) ++
    on (!r.vf && r.privileged) (0x370, 0x1B, 1, 8) ++ on (!t && !r.vf) (0x380, 0x2E, 1, 0x18) ++
    on (!t) (0x3A0, 0x23, 1, 0x20) ++ on (head && b.linkSecure l) (0x3C0, 0x30, 1, 0x114)

/-- The extended capability that holds an offset: offset, ID, version, and the next one's offset. -/
def extAt (off : Nat) : List (Nat × Nat × Nat × Nat) → Option (Nat × Nat × Nat × Nat)
  | [] => none
  | c :: t => if c.1 ≤ off && off < c.1 + c.2.2.2 then some (c.1, c.2.1, c.2.2.1, optD t.head? 0 (·.1)) else extAt off t

/-! ### Values of Table 3.5 -/

/-- Sum of TOTAL_VFS over the PFs of the link below r. -/
def Block.vfsBelow (b : Block) (r : FnRec) : Nat :=
  (b.fnRecs.filter (fun q => !q.vf && q.link == r.link && q.pfIndex < r.pfIndex)).foldl (fun a q => a + q.totalVfs) 0

/-- The first VF record of a PF. -/
def Block.firstVf (b : Block) (r : FnRec) : Option FnRec := (b.vfsOf r.f).head?.bind (fun v => b.fnRec? v)

/-- T_POWER_ON in the scale and value form of the Base Specification. -/
def powerOnCode (us : Nat) : Nat :=
  if us ≤ 62 then cdiv us 2 * 2 ^ 19 else if us ≤ 310 then cdiv us 10 * 2 ^ 19 + 2 ^ 16 else min 31 (cdiv us 100) * 2 ^ 19 + 2 ^ 17

/-- The BAR field of a PF in a dword of its header, with the low bits R86 shows: 64-bit, and Prefetchable. -/
def barDw (present pref : Bool) (fld : Fld) (hi : Bool) : CfgDw :=
  if !present then {} else if hi then { ps := [⟨fld, 0, 32, 32⟩] } else
    { const := 4 + 8 * b2n pref, ps := [⟨fld, 0, 32, 0⟩] }

/-- State of an IDE stream as its status register shows it: 0 Insecure, 2 Secure. -/
def Block.ideStat (b : Block) (l ctl : Nat) : Nat := if b.streamIs l (streamId (b.ideReg l ctl)) (·.secure) then 2 else 0

/-- The value of an FCP register, as a copy. -/
def Block.fcpCopy (b : Block) (f off : Nat) : Nat := optD (fcpReg f off) 0 (fun r => b.regDword true r)

/-- Dword k of the per-lane entries of a link of width w, n bits a lane: entries of higher lanes read 0 (Table 3.5). -/
def laneDw (w n k : Nat) : CfgDw :=
  let have' := min 32 ((w - k * (32 / n)) * n)
  { named := 0xFFFFFFFF / 2 ^ have' * 2 ^ have' }

/-- Dwords of the physical-layer capabilities of a link: their per-lane entries, the Base Specification's reset values elsewhere. -/
def physDw (id w o : Nat) : CfgDw :=
  match id with
  | 0x19 => if o == 0x08 then laneDw w 1 0 else if 0x0C ≤ o && o < 0x4C then laneDw w 16 ((o - 0x0C) / 4) else { named := 0 }
  | 0x26 => if o == 0x10 || o == 0x14 || o == 0x18 then laneDw w 1 0 else if 0x20 ≤ o then laneDw w 8 ((o - 0x20) / 4) else { named := 0 }
  | 0x2A => if 0x20 ≤ o then laneDw w 8 ((o - 0x20) / 4) else { named := 0 }
  | 0x27 => if 8 ≤ o then laneDw w 32 ((o - 8) / 4) else { named := 0 }
  | _ => if 0x10 ≤ o then laneDw w 8 ((o - 0x10) / 4) else { named := 0 }

/-- Dwords of the Type 0 header (Table 3.3). -/
def Block.headDw (b : Block) (l : Nat) (r : FnRec) (off : Nat) : CfgDw :=
  let pf := (b.pfRec? r).getD r
  let two := ((b.linkFns l).filter (fun q => !q.vf)).length > 1
  match off with
  | 0x00 => { const := if r.vf then 0xFFFFFFFF else r.vendorId + r.deviceId * 2 ^ 16 }
  | 0x04 => { const := 2 ^ 20 + (if r.vf then 0 else b2n (b.intxPend r.f) * 2 ^ 19),
              ps := (if r.vf then [⟨.cfgBme, 2, 1, 0⟩] else
                [⟨.cfgMse, 1, 1, 0⟩, ⟨.cfgBme, 2, 1, 0⟩, ⟨.cfgPer, 6, 1, 0⟩, ⟨.cfgSerr, 8, 1, 0⟩, ⟨.cfgIntDis, 10, 1, 0⟩]) ++
                [⟨.cfgStatus, 24, 1, 8⟩, ⟨.cfgStatus, 27, 5, 11⟩] }
  | 0x08 => { const := b.val .verStepping r.f + pf.classCode * 2 ^ 8 }
  | 0x0C => if r.vf then {} else { const := if two then 2 ^ 23 else 0, ps := [⟨.cfgCacheLine, 0, 8, 0⟩] }
  | 0x10 => barDw (!r.vf) false .cfgBar0 false
  | 0x14 => barDw (!r.vf) false .cfgBar0 true
  | 0x18 => barDw (!r.vf && r.bar2 != 0) r.prefA .cfgBar2 false
  | 0x1C => barDw (!r.vf && r.bar2 != 0) r.prefA .cfgBar2 true
  | 0x20 => barDw (!r.vf && r.bar4 != 0) r.prefB .cfgBar4 false
  | 0x24 => barDw (!r.vf && r.bar4 != 0) r.prefB .cfgBar4 true
  | 0x2C => { const := pf.ssvid + pf.ssid * 2 ^ 16 }
  | 0x30 => if r.vf || romLog2 r == 0 then {} else { ps := [⟨.cfgRomBar, 11, 21, 11⟩, ⟨.cfgRomEn, 0, 1, 0⟩] }
  | 0x34 => { const := 0x40 }
  | 0x3C => if r.vf then {} else { const := r.intPin * 2 ^ 8, ps := [⟨.cfgIntLine, 0, 8, 0⟩] }
  | _ => {}

/-- Dwords of the capabilities below 100h (Tables 3.4, 3.5). -/
def Block.capDw (b : Block) (l : Nat) (r : FnRec) (off : Nat) : CfgDw :=
  let t := b.tableDisc r.f
  let standby := optD b.img false (·.vstbyFitted)
  let np := (b.fn r.f).np.any (fun x => x.st == .sent || x.st == .silent)
  let w := b.formWidth l
  match off with
  | 0x40 => { const := 1 + (if t then 0x60 else 0x48) * 2 ^ 8 + 3 * 2 ^ 16 + optD b.img 0 (·.auxCurrent) % 8 * 2 ^ 22 +
                2 ^ 27 + 2 ^ 30 + b2n standby * 2 ^ 31 }
  | 0x44 => { const := 8, ps := [⟨.cfgPmState, 0, 2, 0⟩, ⟨.cfgPmeEn, 8, 1, 0⟩, ⟨.cfgPmeSts, 15, 1, 0⟩] }
  | 0x48 => if t then {} else { const := 5 + 0x60 * 2 ^ 8 + 5 * 2 ^ 17 + 2 ^ 23 + 2 ^ 24,
                                ps := [⟨.cfgMsiEn, 16, 1, 0⟩, ⟨.cfgMsiMme, 20, 3, 0⟩] }
  | 0x4C => if t then {} else { ps := [⟨.cfgMsiAddr, 2, 30, 2⟩] }
  | 0x50 => if t then {} else { ps := [⟨.cfgMsiAddr, 0, 32, 32⟩] }
  | 0x54 => if t then {} else { ps := [⟨.cfgMsiData, 0, 16, 0⟩] }
  | 0x58 => if t then {} else { ps := [⟨.cfgMsiMask, 0, 32, 0⟩] }
  | 0x5C => if t then {} else { ps := [⟨.cfgMsiPend, 0, 32, 0⟩] }
  | 0x60 => { const := 0x10 + 0xA0 * 2 ^ 8 + 2 * 2 ^ 16 + 2 ^ 31, named := 0x80FFFFFF }
  | 0x64 => { const := 5 + 2 ^ 5 + 2 ^ 15 + 2 ^ 28, named := 7 + 2 ^ 5 + 2 ^ 15 + 2 ^ 28 }
  | 0x68 =>
    let sta : List CfgPiece := [⟨.cfgDevSta, 16, 4, 0⟩]
    { const := b2n np * 2 ^ 21, named := 0xFFEFFFFF,
      ps := sta ++ (if r.vf then [] else [⟨.cfgDevErrEn, 0, 4, 0⟩, ⟨.cfgRoEn, 4, 1, 0⟩, ⟨.cfgMps, 5, 3, 0⟩, ⟨.cfgExtTag, 8, 1, 0⟩,
        ⟨.cfgNoSnoopEn, 11, 1, 0⟩, ⟨.cfgMrrs, 12, 3, 0⟩]) }
  | 0x6C => { const := (if b.fuses.clx then 6 else 7) + w * 2 ^ 4 + 2 * 2 ^ 10 + 2 * 2 ^ 15 + 2 ^ 22 + l * 2 ^ 24, named := 0xFF438FFF }
  | 0x70 => { const := b.rd .lnkRate l * 2 ^ 16 + b.rd .lnkWidthNeg l * 2 ^ 20, named := 0x03FF0000,
              ps := if r.vf then [] else [⟨.cfgAspm, 0, 2, 0⟩, ⟨.cfgRcb, 3, 1, 0⟩, ⟨.cfgLnkCtl, 4, 12, 0⟩] }
  | 0x84 => { const := 15 + 2 ^ 4 + 2 ^ 7 + 2 ^ 8 + 2 ^ 9 + 2 ^ 11 + 2 ^ 16 + 2 ^ 17 + 2 ^ 31,
              named := 15 + 2 ^ 4 + 2 ^ 7 + 2 ^ 8 + 2 ^ 9 + 2 ^ 11 + 3 * 2 ^ 12 + 2 ^ 16 + 2 ^ 17 + 3 * 2 ^ 18 + 2 ^ 31 }
  | 0x88 => { named := 0xFFFF0000, ps := if r.vf then [] else
      [⟨.cfgCtoVal, 0, 4, 0⟩, ⟨.cfgCtoDis, 4, 1, 0⟩, ⟨.cfgAtomEn, 6, 1, 0⟩, ⟨.cfgTag10En, 12, 1, 0⟩] ++
      (if r.pfIndex == 0 then [⟨.cfgLtrEn, 10, 1, 0⟩] else []) }
  | 0x8C => { const := if b.fuses.clx then 0x7E else 0xFE, named := 0x1FE }
  | 0xA0 => { const := 0x11 + (r.vectors - 1) * 2 ^ 16, ps := [⟨.cfgMsixFmask, 30, 1, 0⟩, ⟨.cfgMsixEn, 31, 1, 0⟩] }
  | 0xA4 => { const := 0x80000 }
  | 0xA8 => { const := 0x84000 }
  | _ => if 0x60 ≤ off && off < 0x9C then { named := 0 } else {}

/-- Dwords of the SR-IOV capability at 320h (Table 3.5, R88). -/
def Block.sriovDw (b : Block) (r : FnRec) (o : Nat) : CfgDw :=
  let v? := b.firstVf r
  let bar := fun (n : Nat) (pref : Bool) (fld : Fld) (hi : Bool) => barDw (v?.isSome && n != 0) pref fld hi
  let n2 := optD v? 0 (·.bar2)
  let n4 := optD v? 0 (·.bar4)
  match o with
  | 0x04 => { named := 1 + maskAt 21 11 }
  | 0x08 => { named := 0xFFFF0006, ps := [⟨.vfEnable, 0, 1, 0⟩, ⟨.vfMse, 3, 1, 0⟩] }
  | 0x0C => { const := r.totalVfs + r.totalVfs * 2 ^ 16 }
  | 0x10 => { named := 0xFF000000, ps := [⟨.vfNum, 0, 16, 0⟩] }
  | 0x14 => { const := 8 + b.vfsBelow r - r.pfIndex + 2 ^ 16 }
  | 0x18 => { const := optD v? 0 (·.deviceId) * 2 ^ 16 }
  | 0x1C => { const := 0x211 }
  | 0x20 => { ps := [⟨.vfSysPage, 0, 32, 0⟩] }
  | 0x24 => bar 21 false .vfBar0 false
  | 0x28 => bar 21 false .vfBar0 true
  | 0x2C => bar n2 (optD v? false (·.prefA)) .vfBar2 false
  | 0x30 => bar n2 (optD v? false (·.prefA)) .vfBar2 true
  | 0x34 => bar n4 (optD v? false (·.prefB)) .vfBar4 false
  | 0x38 => bar n4 (optD v? false (·.prefB)) .vfBar4 true
  | _ => {}

/-- Dword j of the IDE capability of link l (R234). -/
def Block.ideCapDw (b : Block) (l j : Nat) : CfgDw :=
  let whole : CfgDw := { const := b.ideReg l j }
  if j == 1 then { const := 1 + 2 + 2 ^ 5 + 2 ^ 6 + 7 * 2 ^ 16 + 2 ^ 24, named := 0x01FFFF7B }
  else if j == 4 then { const := b.ideStat l 3 }
  else if j ≥ 5 then
    match (j - 5) % 8 with
    | 0 => { const := 1 }
    | 2 => { const := b.ideStat l (j - 1) }
    | _ => whole
  else whole

/-- Dwords of the extended capabilities. -/
def Block.extDw (b : Block) (l : Nat) (r : FnRec) (off : Nat) : CfgDw :=
  match extAt off (b.extCaps l r) with
  | none => {}
  | some (base, id, ver, next) =>
    let o := off - base
    if o == 0 then { const := id + ver * 2 ^ 16 + next * 2 ^ 20 }
    else match id with
      | 0x01 => match o with
        | 0x04 => { ps := [⟨.aerUncSts, 0, 32, 0⟩] }
        | 0x08 => { ps := [⟨.aerUncMask, 0, 32, 0⟩] }
        | 0x0C => { ps := [⟨.aerUncSev, 0, 32, 0⟩] }
        | 0x10 => { ps := [⟨.aerCorSts, 0, 32, 0⟩] }
        | 0x14 => { ps := [⟨.aerCorMask, 0, 32, 0⟩] }
        | 0x18 => { ps := [⟨.aerCtl, 0, 32, 0⟩] }
        | 0x1C => { ps := [⟨.aerHdr, 0, 32, 0⟩] }
        | 0x20 => { ps := [⟨.aerHdr, 0, 32, 32⟩] }
        | 0x24 => { ps := [⟨.aerHdr, 0, 32, 64⟩] }
        | 0x28 => { ps := [⟨.aerHdr, 0, 32, 96⟩] }
        | _ => { named := 0 }
      | 0x0E =>
        let pfs := ((b.linkFns l).filter (fun q => !q.vf)).length
        { const := (if r.pfIndex + 1 < pfs then r.pfIndex + 1 else 0) * 2 ^ 8 }
      | 0x0D => { const := 0x4C, ps := [⟨.cfgAcsCtl, 18, 2, 2⟩, ⟨.cfgAcsCtl, 22, 1, 6⟩] }
      | 0x2F => match o with
        | 0x04 => { const := 14, named := 14 }
        | 0x08 => { named := 0xFFFF0000, ps := [⟨.cfgTag14En, 2, 1, 0⟩] }
        | _ => { named := 0 }
      | 0x1E => match o with
        | 0x04 =>
          let us := optD (b.img.bind (fun im => im.groups.find? (fun g => g.g == l / 4))) 0 (·.tPowerOnUs)
          { const := 0x1F + powerOnCode us, named := 0x00FB001F }
        | 0x08 => { ps := [⟨.cfgL1pm1, 0, 32, 0⟩] }
        | _ => { ps := [⟨.cfgL1pm2, 0, 32, 0⟩] }
      | 0x18 => { ps := [⟨.cfgLtrSnoop, 0, 16, 0⟩, ⟨.cfgLtrNoSnoop, 16, 16, 0⟩] }
      | 0x10 => b.sriovDw r o
      | 0x0F => { const := 2 ^ 5 + 2 ^ 6, ps := [⟨.atsStu, 16, 5, 0⟩, ⟨.atsEnable, 31, 1, 0⟩] }
      | 0x1B => { const := 20 * 2 ^ 8, ps := [⟨.pasidEnable, 16, 1, 0⟩] }
      | 0x2E =>
        let d := b.fn r.f
        match o with
        | 0x04 => { const := 1 }
        | 0x08 => { const := 2 * b2n d.doeIe }
        | 0x0C =>
          let mine := b.grm.queue.any (fun x => match x with | .doe g => g.val == r.f | _ => false)
          { const := b2n (mine || b.flag .loadShed 0 || !b.groomRuns) + b2n d.doeRdy * 2 ^ 31 }
        | 0x10 => {}
        | _ => { const := Config.rsvdBits b.freeCtr % 2 ^ 32 }
      | 0x23 => match o with
        | 0x04 => { const := 0x1F6A + 0x20 * 2 ^ 20 }
        | 0x08 => { const := 1 }
        | 0x0C => { const := b.fcpCopy r.f 0 }
        | 0x10 => { const := b.fcpCopy r.f 4 }
        | 0x14 => { const := b.fcpCopy r.f 8 }
        | 0x18 => { const := b.fcpCopy r.f 16 }
        | _ => { const := b.fcpCopy r.f 0x1000 }
      | 0x30 => b.ideCapDw l (o / 4)
      | 0x25 => if o == 4 then { const := 1, named := 1 } else { named := 0 }
      | 0x32 => { named := 0 }
      | _ => physDw id (b.formWidth l) o

/-- A dword of the configuration space of a function on link l. -/
def Block.cfgDw (b : Block) (l : Nat) (r : FnRec) (off : Nat) : CfgDw :=
  if off < 0x40 then b.headDw l r off else if off < 0x100 then b.capDw l r off else b.extDw l r off

/-- The bits that its fields take. -/
def CfgDw.fldMask (d : CfgDw) : Nat := d.ps.foldl (fun m p => m ||| maskAt p.lo p.n) 0

/-- What a configuration read of a dword returns. -/
def Block.cfgVal (b : Block) (l : Nat) (r : FnRec) (off : Nat) : Nat :=
  let d := b.cfgDw l r off
  let j := setOn r l
  let own := d.ps.foldl (fun v p => v ||| bits (b.rd p.fld r.f j) p.at' p.n * 2 ^ p.lo) 0
  let base := (List.range 32).foldl (fun v i =>
    if !bit d.named i && !bit d.fldMask i && bit (Config.baseSpecDword r.f off) i then v + 2 ^ i else v) 0
  (d.const ||| own ||| base) % 2 ^ 32

/-! ### Writes -/

/-- Round down to a multiple of the size of a VF's BAR (R88). -/
def Block.vfBarW (b : Block) (f j : Nat) (fld : Fld) (v n : Nat) : Block :=
  let size := max (2 ^ n) (4096 * b.rd .vfSysPage f j)
  (b.wr fld f j (v / size * size)).each (b.vfsOf f) (fun b v => b.tdiErr v)

/-- A new value v of a field of configuration space of r, in the set of link l. -/
def Block.cfgFldW (b : Block) (l : Nat) (r : FnRec) (fld : Fld) (v : Nat) : Block :=
  let f := r.f
  let j := setOn r l
  let vf? := b.firstVf r
  match fld with
  | .cfgMse => if b.flag .cfgMse f j == (v == 1) then b else (b.wr .cfgMse f j v).tdiErr f
  | .cfgBme => b.bmeWrite f j (v == 1)
  | .cfgIntDis => b.intDisWrite f j (v == 1)
  | .cfgPmState => if v == 0 || v == 3 then b.pmWrite f v else b
  | .cfgBar0 => b.barWrite f j .bar0 v
  | .cfgBar2 => b.barWrite f j .bar2 v
  | .cfgBar4 => b.barWrite f j .bar4 v
  | .cfgRomBar => b.barWrite f j .rom (v / 2 * 2 + b2n (b.flag .cfgRomEn f j))
  | .cfgRomEn => (b.wr .cfgRomEn f j v).tdiErr f
  | .cfgMsiEn => b.formWrite f j (b.flag .cfgMsixEn f j) (v == 1)
  | .cfgMsixEn => b.formWrite f j (v == 1) (b.flag .cfgMsiEn f j)
  | .cfgMsixFmask => let b1 := b.wr .cfgMsixFmask f j v; if v == 0 then b1.pendFlush f else b1
  | .cfgMsiMask => (b.wr .cfgMsiMask f j v).pendFlush f
  | .cfgMsiPend | .aerHdr => b
  | .cfgMps | .cfgMrrs => if v ≤ 5 then b.wr fld f j v else b
  | .cfgLtrEn => if v == 1 then b.ltrEnable l else b.wr .cfgLtrEn f j 0
  | .vfEnable => if b.flag .vfEnable f j == (v == 1) then b else b.vfEnableWrite f j (v == 1)
  | .vfNum => b.numVfsWrite f j v
  | .vfSysPage => if b.flag .vfEnable f j || !encOk .vfSysPage v then b else b.wr .vfSysPage f j v
  | .vfBar0 => b.vfBarW f j .vfBar0 v 21
  | .vfBar2 => b.vfBarW f j .vfBar2 v (optD vf? 0 (·.bar2))
  | .vfBar4 => b.vfBarW f j .vfBar4 v (optD vf? 0 (·.bar4))
  | .atsEnable => if b.rd .atsEnable f j == v then b else b.atsWrite f j .atsEnable v
  | .pasidEnable => if b.rd .pasidEnable f j == v then b else b.atsWrite f j .pasidEnable v
  | .atsStu => b.atsWrite f j .atsStu v
  | .cfgPmeSts => b.clrBits .cfgPmeSts f j v
  | _ => b.fldWrite fld f j v

/-- Selective streams enabled on the links of a Stall die. -/
def Block.selCount (b : Block) (d : Nat) : Nat :=
  ((List.range 28).flatMap (fun i => (List.range 8).filter (fun k => b.selOn (28 * d + i) k))).length

/-- A write to dword j of the IDE capability: control and association registers; a sixty-fifth selective stream of a die keeps
Enable 0 (R234). A locked TDI that no Secure stream covers any more moves to ERROR. -/
def Block.ideWrite (b : Block) (l j v : Nat) : Block :=
  let k := (j - 5) % 8
  if j < 2 || j == 4 || (j ≥ 5 && (k == 0 || k == 2)) || j > 68 then b
  else
    let isSel := j ≥ 5 && k == 1
    let v1 := if isSel && bit v 0 && !bit (b.ideReg l j) 0 && b.selCount (l / 28) ≥ 64 then v - 1 else v
    -- a stream disabled leaves the Secure state and loses its keys
    let off := bit (b.ideReg l j) 0 && !bit v1 0 && (isSel || j == 3)
    let b0 := if off then b.ideFail l (streamId (b.ideReg l j)) else b
    let b1 := (b0.wr .ideDw l j v1).secureJudge l (streamId v1)
    let b2 := if off then b1.lkMod l (fun x => { x with ide := x.ide.filter (fun s => s.id != streamId (b.ideReg l j)) }) else b1
    b2.each (b2.actFns l) (fun b f => if b.tdiOn f && !b.selSecure f then b.tdiErr f else b)

/-- The DOE mailbox registers: control at +8 (Abort, Interrupt Enable), the write mailbox at +10h. -/
def Block.doeWrite (b : Block) (f o v : Nat) : Block :=
  match o with
  | 8 =>
    let b1 := b.fnMod f (fun d => { d with doeIe := bit v 1 })
    if bit v 0 then
      let b2 := b1.fnMod f (fun d => { d with doe := [], doeRdy := false })
      { b2 with grm := { b2.grm with queue := b2.grm.queue.filter (fun x => match x with | .doe g => g.val != f | _ => true) } }
    else b1
  | 0x10 => b.fnMod f (fun d => { d with doe := d.doe ++ [v] })
  | 0x14 => b.fnMod f (fun d => { d with doeRdy := false })
  | _ => b

/-- The bit mask of byte enables. -/
def enMask (en : Nat) : Nat := ((List.range 4).filter (fun i => bit en i)).foldl (fun m i => m + 255 * 2 ^ (8 * i)) 0

/-- A configuration write to a dword of r on link l, field by field; Initiate Function Level Reset comes last. -/
def Block.cfgWrite (b : Block) (l : Nat) (r : FnRec) (off en v : Nat) : Block :=
  let m := enMask en
  let j := setOn r l
  let d := b.cfgDw l r off
  let b1 := b.each d.ps (fun b p =>
    let pm := bits m p.lo p.n
    if pm == 0 then b
    else
      let old := b.rd p.fld r.f j
      let isW1c := (Fld.attr p.fld).acc == .w1c
      let cur := if isW1c then 0 else bits old p.at' p.n
      let new := (cur - (cur &&& pm)) ||| (bits v p.lo p.n &&& pm)
      b.cfgFldW l r p.fld (if isW1c then new * 2 ^ p.at' else old - cur * 2 ^ p.at' + new * 2 ^ p.at'))
  let word := fun (old : Nat) => (old - (old &&& m)) ||| (v &&& m)
  let ext := extAt off (b.extCaps l r)
  let b2 := match ext with
    | some (base, 0x30, _, _) => b1.ideWrite l ((off - base) / 4) (word (b.ideReg l ((off - base) / 4)))
    | some (base, 0x2E, _, _) => b1.doeWrite r.f (off - base) (v &&& m)
    | _ => b1
  if off == 0x68 && bit (v &&& m) 15 then b2.flrWrite r.f j else b2

/-! ### Configuration requests (R79, R80) -/

/-- The function that answers at function number fno on link l. -/
def Block.cfgTarget (b : Block) (l fno : Nat) : Option FnRec :=
  (b.linkFns l).find? (fun r => b.ariOf r == fno && b.vfOn r (setOn r l))

/-- Answer a configuration request: Retry before the image is ready and during a function reset, Unsupported Request for an
absent function; otherwise `g`. One that came on an Insecure stream is discarded (R236). -/
def Block.cfgReq (b : Block) (l fno req : Nat) (st : Option Nat) (g : FnRec → Block → Block) : Block :=
  if !b.dlActive l || b.streamBad l st then b
  else if b.img.isNone then b.emit (.cfg l req .crs 0 st)
  else match b.cfgTarget l fno with
    | none => b.emit (.cfg l req .ur 0 st)
    | some r => if (b.fn r.f).flr.isSome then b.emit (.cfg l req .crs 0 st) else g r b

/-- A configuration read. -/
def Block.cfgRead (b : Block) (l fno off req : Nat) (st : Option Nat) : Block :=
  b.cfgReq l fno req st (fun r b =>
    let b1 := b.emit (.cfg l req .sc (b.cfgVal l r off) st)
    if off == b.doeOff r + 0x14 then b1.useFree else b1)

/-- A configuration write of Type 0 with its bus number; it completes, and takes effect. -/
def Block.cfgWriteReq (b : Block) (l fno off en v bus req : Nat) (st : Option Nat) : Block :=
  b.cfgReq l fno req st (fun r b =>
    ((b.lkMod l (fun k => { k with bus := bus % 256 })).emit (.cfg l req .sc 0 st)).cfgWrite l r off en v)

/-! ### The commands -/

/-- The dword of configuration space that an operand names (log entry 9). -/
def dwordOf (off : Nat) : Nat := off % 4096 / 4 * 4

/-- CONFIG_READ (R80 to R91). -/
def execConfigRead (l : LinkIx) (fno off req : Nat) (s : State) (stream : Option Nat := none) : Host.Outcome State Fault Refusal :=
  s.on (fun b => b.cfgRead l.val fno (dwordOf off) req stream)
/-- CONFIG_WRITE (R79, R80, R83): the fields of the dword, those with a behaviour of their own included. -/
def execConfigWrite (l : LinkIx) (fno off : Nat) (en : BitVec 4) (v : BitVec 32) (bus req : Nat) (s : State) (stream : Option Nat := none) :
    Host.Outcome State Fault Refusal :=
  s.on (fun b => b.cfgWriteReq l.val fno (dwordOf off) en.toNat v.toNat bus req stream)

end Sys2Proof.Machine
end

