-- ==== Sys2Proof/Machine/Rom.lean ====
section
/-! DEFINITION. The Expansion ROM and the Xinov table of Table discovery (R90 to R95). -/
namespace Sys2Proof.Machine

/-- One step of the reflected CRC-32 of IEEE 802.3 (R92). -/
def crc32Bit (c : Nat) : Nat := if c % 2 == 1 then c / 2 ^^^ 0xEDB88320 else c / 2

/-- One byte of the reflected CRC-32. -/
def crc32Byte (c : Nat) (x : Byte) : Nat :=
  crc32Bit (crc32Bit (crc32Bit (crc32Bit (crc32Bit (crc32Bit (crc32Bit (crc32Bit (c ^^^ x.toNat))))))))

/-- The CRC-32 of R92. -/
def crc32 (l : List Byte) : Nat := l.foldl crc32Byte 0xFFFFFFFF ^^^ 0xFFFFFFFF

/-- Bytes cut or padded with 00h to n. -/
def fitTo (n : Nat) (l : List Byte) : List Byte := (List.range n).map (fun k => l[k]?.getD 0)

/-- Length padded to a multiple of n. -/
def roundUp (n v : Nat) : Nat := cdiv v n * n

/-- STATE of IDENTITY (Table 3.10). -/
def Block.xtState (b : Block) (p : Nat) : Nat :=
  b2n (b.active p) + 2 * b2n (b.fenced p) + 4 * b.rd .xlbHalfDuplex p

/-- A live field: 0 while the port is not ACTIVE (R95). -/
def Block.xtLive (b : Block) (p : Nat) (f : Fld) : Nat := if b.active p then b.rd f p else 0

/-- The records of one section (Table 3.10) of function f: TYPE, RECLEN and the record bytes. -/
structure XtSec where
  ty : Nat
  reclen : Nat
  recs : List (List Byte)
deriving DecidableEq, Repr

/-- Sections 02h to 05h of function f, with an offset of their TYPE (10h for the VF sections). -/
def Block.xtSecs (_b : Block) (im : Image) (f ty0 : Nat) : List XtSec :=
  let wins := im.subwins.filter (fun w => w.f == f)
  let qs := (List.range 32).filterMap (fun n => im.queue? f n)
  let reins := im.reins.filter (fun r => r.f == f)
  [⟨ty0 + 2, 10, wins.map (fun w => leBytes (b2n w.winB) 1 ++ leBytes w.s 1 ++ leBytes 0 2 ++ leBytes w.attr 4 ++
      leBytes w.off 8 ++ leBytes w.size 8 ++ fitTo 16 w.name)⟩,
   ⟨ty0 + 3, 6, qs.map (fun q => leBytes q.n 1 ++ leBytes (1 + 2 * b2n q.weave) 1 ++ leBytes q.kmin 1 ++ leBytes q.kmax 1 ++
      leBytes 0 4 ++ fitTo 16 q.name)⟩,
   ⟨ty0 + 4, 5, (List.range 16).map (fun s => leBytes s 1 ++ leBytes (optD (im.source? f s) 0 (·.prio)) 1 ++ leBytes 0 2 ++
      fitTo 16 (optD (im.source? f s) [] (·.name)))⟩,
   ⟨ty0 + 5, 5, reins.map (fun r => leBytes (b2n r.out) 1 ++ leBytes r.line 1 ++ leBytes 0 2 ++ fitTo 16 r.name)⟩]

/-- R93: every section of the Xinov table of PF f, those without records left out. -/
def Block.xtAll (b : Block) (im : Image) (f : Nat) : List XtSec :=
  let p := b.portOf f
  let ident := leBytes (b.xtLive p .xlbIdent) 4 ++ leBytes (b.xtLive p .xlbIdrev) 2 ++ leBytes (b.xtLive p .xlbVersion) 1 ++
    leBytes (b.xtLive p .xlbWidth) 1 ++ leBytes (b.xtState p) 1 ++ leBytes 0 7 ++ fitTo 32 (optD (im.extra? f) [] (·.name))
  let vfs := b.vfsOf f
  let vfId := fun (k : Nat) => leBytes (k + 1) 2 ++ leBytes p 1 ++ leBytes (b.xtState p) 1 ++ leBytes (b.xtLive p .xlbIdent) 4 ++
    leBytes (b.xtLive p .xlbIdrev) 2 ++ leBytes (b.xtLive p .xlbVersion) 1 ++ leBytes (b.xtLive p .xlbWidth) 1 ++ leBytes 0 4
  let vfSecs := match vfs with
    | [] => []
    | v :: _ => ⟨0x11, 4, (List.range vfs.length).map vfId⟩ :: b.xtSecs im v 0x10
  (⟨1, 12, [ident]⟩ :: b.xtSecs im f 0 ++ vfSecs).filter (fun s => !s.recs.isEmpty)

/-- Directory entries and sections laid out from an offset (R93). -/
def xtLayout : Nat → List XtSec → List Byte × List Byte
  | _, [] => ([], [])
  | o, s :: t =>
    let body := s.recs.flatten
    let (d, r) := xtLayout (o + body.length) t
    (leBytes s.ty 1 ++ leBytes s.reclen 1 ++ leBytes s.recs.length 2 ++ leBytes o 4 ++ d, body ++ r)

/-- R92: the Xinov table of PF f. OPTROM_OFF is a multiple of 512: the least one at or above LENGTH (which multiple the spec
leaves open: DESIGN CHOICE, log entry 52). -/
def Block.xinovTable (b : Block) (im : Image) (r : FnRec) : List Byte :=
  let secs := b.xtAll im r.f
  let (dir, body) := xtLayout (64 + 8 * secs.length) secs
  let len := 64 + dir.length + body.length
  let rom := optD (im.extra? r.f) [] (·.rom)
  let head := fun (crc : Nat) =>
    [0x58, 0x4E, 0x4F, 0x56, 1, 0] ++ leBytes 0x40 2 ++ leBytes len 4 ++ leBytes crc 4 ++ leBytes (b.x r.port).gen 4 ++
    leBytes r.f 2 ++ leBytes r.link 1 ++ leBytes r.port 1 ++ leBytes (b.ariOf r) 1 ++
    leBytes (b2n r.privileged + 2 * b2n (b.sharedPort r.port) + 4 * b2n r.standby.isSome) 1 ++ leBytes secs.length 2 ++
    leBytes (if rom.isEmpty then 0 else roundUp 512 len) 4 ++ List.replicate 32 0
  let crc := crc32 (head 0 ++ dir ++ body)
  head crc ++ dir ++ body

/-- R90: the content of the ROM BAR of PF f. -/
def Block.romContent (b : Block) (f : Nat) : List Byte :=
  match b.img, b.fnRec? f with
  | some im, some r =>
    let rom := optD (im.extra? f) [] (·.rom)
    if r.table then
      let t := b.xinovTable im r
      if rom.isEmpty then t else padTo (roundUp 512 t.length) t ++ rom
    else rom
  | _, _ => []

/-- R90: a read of the ROM BAR; bytes beyond the content read 00h. -/
def Block.romRead (b : Block) (r : HReq) (f off : Nat) : Block :=
  let rom := b.romContent f
  b.complete r .sc ((List.range r.en.length).map (fun k => rom[off + k]?.getD 0))

end Sys2Proof.Machine
end

