-- ==== Sys2Proof/Machine/HostReq.lean ====
section
/-! DEFINITION. Host memory requests (R89, R97, R101, R302, R353): decode, the Function Control Page under its access rules, and the
end of a Shuttle's substitution, which delivers the accesses it held (R34, R154). -/
namespace Sys2Proof.Machine

/-! ### Reads of the Function Control Page -/

/-- Dword of the MSI-X table at offset o in it (R96). -/
def Block.msixDword (b : Block) (f o : Nat) : Nat :=
  let v := o / 16
  if v ≥ optD (b.fnRec? f) 0 (·.vectors) then 0
  else match o % 16 / 4 with
    | 0 => b.rd .msixAddr f v % 2 ^ 32
    | 1 => b.rd .msixAddr f v / 2 ^ 32
    | 2 => b.rd .msixData f v
    | _ => b.rd .msixVmask f v

/-- Dword k of the PBA; the bits of entries that are not implemented read 0 (R96). -/
def Block.pbaDword (b : Block) (f k : Nat) : Nat :=
  bitMap 32 (fun i => decide (32 * k + i < optD (b.fnRec? f) 0 (·.vectors)) && b.flag .msixPend f (32 * k + i))

/-- The outbound window that a register of the window region shows, when f does not own it: it reads 0 (R126), OWNED with it
(DESIGN CHOICE, log entry 43). -/
def Block.obHidden (b : Block) (f off : Nat) : Bool :=
  0x6000 ≤ off && off < 0x6800 && (b.ownsOb f ((off - 0x6000) / 32)).isNone

/-- Read one dword of f's page: its value, and the block after it (RC fields cleared). -/
def Block.fcpDword (b : Block) (f off : Nat) : Nat × Block :=
  if 0x80000 ≤ off && off < 0x80400 then (b.msixDword f (off - 0x80000), b)
  else if off == 0x84000 || off == 0x84004 then (b.pbaDword f ((off - 0x84000) / 4), b)
  else if b.obHidden f off then (0, b)
  else match fcpReg f off with
    | some r => (b.regDword true r, b.regReadEff true r)
    | none => (0, b)

/-- Read n dwords from off in ascending order. -/
def Block.fcpDwords (b : Block) (f off : Nat) : Nat → List Nat × Block
  | 0 => ([], b)
  | n + 1 =>
    let (v, b1) := b.fcpDword f off
    let (vs, b2) := Block.fcpDwords b1 f (off + 4) n
    (v :: vs, b2)

/-- R97: a read of f's page is served now. -/
def Block.fcpServe (b : Block) (r : HReq) (f off : Nat) : Block :=
  let lo := (off + hFirst r) / 4 * 4
  let n := (off + hFirst r + hSpan r - lo + 3) / 4
  let (vs, b1) := b.fcpDwords f lo n
  let byte := fun (k : Nat) =>
    let a := off + k
    if lo ≤ a && a < lo + 4 * n then BitVec.ofNat 8 (vs[(a - lo) / 4]?.getD 0 / 256 ^ ((a - lo) % 4))
    else Config.freeByte (b1.freeCtr + k)
  { b1 with freeCtr := b1.freeCtr + r.en.length }.complete r .sc ((List.range r.en.length).map byte)

/-- FCP_ACCESS is logged (R97). -/
def Block.fcpBad (b : Block) (r : HReq) (f off detail : Nat) : Block :=
  b.logErr f { code := 3, detail := detail, addr := off, len := r.en.length } (Config.tlpHeader r.req r.addr)

/-- R97, R34: a read of f's Function Control Page at offset off. -/
def Block.fcpReadReq (b : Block) (r : HReq) (f off : Nat) : Block :=
  if hSpan r == 0 then b.complete r .sc [0, 0, 0, 0]
  else
    let a := off + hFirst r
    if hSpan r > 64 || a / 64 != (a + hSpan r - 1) / 64 then (b.fcpBad r f off 0).complete r .ca
    else
      let n := (a - 0x8000) / 512
      if 0x8000 ≤ a && a < 0xC000 && (b.q f n).moving then b.qHold f n (.rd r off)
      else b.fcpServe r f off

/-! ### Writes -/

/-- A write to a dword of the MSI-X table; clearing a Vector Control Mask sends what it held (R186). -/
def Block.msixWrite (b : Block) (f o v : Nat) : Block :=
  let x := o / 16
  if x ≥ optD (b.fnRec? f) 0 (·.vectors) then b
  else
    let old := b.rd .msixAddr f x
    match o % 16 / 4 with
    | 0 => b.wr .msixAddr f x (old / 2 ^ 32 * 2 ^ 32 + v / 4 * 4)
    | 1 => b.wr .msixAddr f x (old % 2 ^ 32 + v * 2 ^ 32)
    | 2 => b.wr .msixData f x v
    | _ => if v % 2 == 0 then b.vecUnmask f (some x) else b.wr .msixVmask f x 1

/-- A write to an outbound window of its owner; a change of a locked item (R126, R353). -/
def Block.obWrite (b : Block) (f off v : Nat) (r : RegRef) : Block :=
  if b.obHidden f off then b
  else
    let priv := optD (b.fnRec? f) false (·.privileged)
    (b.regWrite true r v (fun fld _ => priv || (fld != .obTranslated && fld != .obPasidEn))).tdiErr f

/-- R7, R9, R97: a dword written to f's page; a register with a behaviour of its own takes it. -/
def Block.fcpDwordW (b : Block) (f off v : Nat) : Block :=
  if 0x80000 ≤ off && off < 0x80400 then b.msixWrite f (off - 0x80000) v
  else if 0x8000 ≤ off && off < 0xC000 then
    let n := (off - 0x8000) / 512
    let o := off % 512
    if o < 32 then b.qCtxWrite f n o v
    else if o == 32 then b.qCmd f n v
    else if o == 40 then b.qHeadWrite f n v
    else b
  else match fcpReg f off with
    | none => b
    | some r =>
      match r.reg with
      | .fcpFence => if bit v 0 then b.releaseW f else b
      | .fcpErrCons => b.errCons f v
      | .spurMaskSet => b.spurMaskOn f v
      | .spurMaskClr => b.clrBits .spMask f 0 (v % 2 ^ 15)
      | .spurPendSet => b.each (srcBits v) (fun b k => b.raise f k)
      | .spurPendClr => b.spurPendOff f v
      | .spurEoi => b.spurEoiW f v
      | .spurSrcCfg | .spurSrcTgtLo | .spurSrcTgtHi => b.spurCfgW f off v
      | .spurQpend => (b.regWrite true r v).intxF f
      | .fcpReinsOut => b.reinsOut f v
      | .fcpSlotCtrl => b.slotWrite (.fn (Fin.ofNat 512 f)) v
      | .fcpPrefetchCtrl =>
        let b1 := b.regWrite true r v
        if bit v 0 then b1.fnMod f (fun d => { d with learned := [] }) else b1
      | .fcpPgoPage | .fcpPgoAttr | .fcpPgoCtrl => b.pgoWrite f off v
      | .fcpObHost | .fcpObCtrl => b.obWrite f off v r
      | .fcpEvtBase | .fcpEvtPidxAddr => if b.flag .evtEn f then b else b.regWrite true r v
      | .fcpEvtCtrl => b.evtCtrl f v
      | .fcpEvtCons => b.evtConsW f v
      | .weaveCmd => b.weaveOp f (v % 8) (bits v 4 2)
      | _ => (b.regWrite true r v).sampleAll f

/-- R137: a write to a doorbell page. -/
def Block.bellWrite (b : Block) (r : HReq) (f off : Nat) : Block :=
  let n := (off - 0x10000) / 4096
  let hinted := off % 4096 == 0 && 4 ≤ r.en.length && (r.en.take 4).all (fun e => e)
  b.qBell f n (if hinted then some (leNat (r.data.take 4)) else none)

/-- R97: a write to f's Function Control Page. One with EP changes no register; it is reported as Poisoned TLP Received (PRESUMED
from the Base Specification, log entry 33). -/
def Block.fcpWriteReq (b : Block) (r : HReq) (f off : Nat) : Block :=
  if 0x10000 ≤ off && off < 0x30000 then b.bellWrite r f off
  else if hSpan r == 0 then b
  else if off % 4 != 0 || r.en.length % 4 != 0 || !r.en.all (fun e => e) || off / 4096 != (off + r.en.length - 1) / 4096 then
    b.fcpBad r f off 1
  else if r.ep then b.aerUnc f 12 (Config.tlpHeader r.req r.addr)
  else b.each (List.range (r.en.length / 4)) (fun b k => b.fcpDwordW f (off + 4 * k) (leNat ((r.data.drop (4 * k)).take 4)))

/-! ### Decode -/

/-- R353: a request came on a Secure selective stream that covers f. -/
def Block.onCovering (b : Block) (f : Nat) (r : HReq) : Bool :=
  let l := b.actLink f
  (b.selOf f).any (fun k =>
    let id := streamId (b.ideReg l (6 + 8 * k))
    r.stream == some id && b.streamIs l id (·.secure))

/-- R353: the TDI of f serves a request, by its T bit and its stream. -/
def Block.tdiServes (b : Block) (f : Nat) (r : HReq) : Bool :=
  match b.rd .tdiState f with
  | 0 => true
  | 1 => !r.t
  | 2 => r.t && b.onCovering f r
  | _ => false

/-- Decode a host memory request and hand it on; `np`: it wants a completion, Unsupported Request where nothing claims it. One
that came on an Insecure stream is discarded (R236). -/
def Block.hostMem (b : Block) (r : HReq) (np : Bool) (g : BarHit → Block → Block) : Block :=
  if !b.dlActive r.link.val || b.streamBad r.link.val r.stream then b
  else match b.decodeBar r.link.val r.addr with
    | some h => if b.tdiServes h.f r then g h b else if np then b.complete r .ur else b
    | none => if np then b.complete r .ur else b

/-- The request that operands make: one to 4,096 byte positions, and `n` bytes of data (log entry 9). -/
def Block.hreqFit (b : Block) (r : HReq) (n : Nat → Nat) : HReq × Block :=
  let en := if r.en.isEmpty then [false] else r.en.take 4096
  let (data, b1) := b.takeBytes (n en.length) r.data
  (⟨r.link, r.addr, en, data, r.req, r.ep, r.t, r.stream⟩, b1)

/-- A host memory read. -/
def Block.hostRead (b : Block) (r : HReq) : Block :=
  let (r, b) := b.hreqFit r (fun _ => 0)
  b.hostMem r true (fun h b =>
    match h.bar with
    | .bar0 => b.fcpReadReq r h.f h.off
    | .bar2 => b.winRead r h.f false h.off
    | .bar4 => b.winRead r h.f true h.off
    | .rom => b.romRead r h.f h.off)

/-- A host memory write; the ROM range discards it (R90). -/
def Block.hostWrite (b : Block) (r : HReq) : Block :=
  let (r, b) := b.hreqFit r (fun n => n)
  b.hostMem r false (fun h b =>
    match h.bar with
    | .bar0 => b.fcpWriteReq r h.f h.off
    | .bar2 => b.winWrite r h.f false h.off
    | .bar4 => b.winWrite r h.f true h.off
    | .rom => b)

/-- A host AtomicOp. -/
def Block.hostAtomic (b : Block) (r : HReq) (op : AtmOp) : Block :=
  let (r, b) := b.hreqFit r (fun n => if op == .cas then 2 * n else n)
  b.hostMem r true (fun h b =>
    match h.bar with
    | .bar0 => (b.fcpBad r h.f h.off 2).complete r .ca
    | .bar2 => b.winAtomic r h.f false h.off op
    | .bar4 => b.winAtomic r h.f true h.off op
    | .rom => b.complete r .ur)

/-! ### The end of a substitution (R34, R154) -/

/-- Deliver an access that was held. -/
def Block.heldGo (b : Block) (f n : Nat) (h : Held) : Block :=
  match h with
  | .bell hint => b.qBell f n hint
  | .cmd v => b.qCmd f n v
  | .ctx off v => b.qCtxWrite f n off v
  | .head v => b.qHeadWrite f n v
  | .rd r off => b.fcpServe r f off

/-- SHUTTLE_MOVE_DONE: the contexts have moved; each function that had a queue moved counts it and logs INTERNAL_CORR (R291). -/
def Block.moveDone (b : Block) (i : Nat) : Block :=
  match b.moves.find? (fun m => m.lame == i) with
  | none => b
  | some m =>
    let b1 := { b with moves := b.moves.filter (fun x => x.lame != i) }
    let b2 := b1.each m.qs (fun b x => b.qMoveEnd x.1 i m.spare x.2)
    let fs := (m.qs.map (fun x => x.1 / 32)).dedup
    let b3 := b2.each fs (fun b f =>
      (b.incSat .recMoves f).logErr f { code := 23, detail := 3, len := b.time - m.t0, aux := i })
    b3.each m.qs (fun b x =>
      let held := (b.qu x.1).held
      (b.quMod x.1 (fun d => { d with held := [] })).each held (fun b h => b.heldGo (x.1 / 32) (x.1 % 32) h))

/-! ### The commands -/

/-- HOST_WINDOW_READ (R101, R103, R109, R110). -/
def execHostWindowRead (r : HReq) (s : State) : Host.Outcome State Fault Refusal :=
  s.on (fun b => b.hostRead r)
/-- HOST_WINDOW_WRITE (R112). -/
def execHostWindowWrite (r : HReq) (s : State) : Host.Outcome State Fault Refusal :=
  s.on (fun b => b.hostWrite r)
/-- HOST_WINDOW_ATOMIC (R124). -/
def execHostWindowAtomic (r : HReq) (op : AtmOp) (s : State) : Host.Outcome State Fault Refusal :=
  s.on (fun b => b.hostAtomic r op)
/-- HOST_ROM_READ (R90). -/
def execHostRomRead (r : HReq) (s : State) : Host.Outcome State Fault Refusal :=
  s.on (fun b => b.hostRead r)
/-- FCP_READ (R97). -/
def execFcpRead (r : HReq) (s : State) : Host.Outcome State Fault Refusal :=
  s.on (fun b => b.hostRead r)
/-- REGISTER_WRITE (R7, R97). -/
def execRegisterWrite (r : HReq) (s : State) : Host.Outcome State Fault Refusal :=
  s.on (fun b => b.hostWrite r)
/-- SHUTTLE_MOVE_DONE (R34, R154, R291). -/
def execShuttleMoveDone (i : ShutIx) (s : State) : Host.Outcome State Fault Refusal := s.on (fun b => b.moveDone i.val)

end Sys2Proof.Machine
end

