-- ==== Sys2Proof/Machine/Reset.lean ====
section
/-! DEFINITION. Module reset and cold reset (R11, R12, R292), and the loss and the return of the module's power (R308 to R311,
R329). -/
namespace Sys2Proof.Machine

/-! ### Module reset and cold reset -/

/-- Levels of lands, which no reset changes. -/
def pinField (f : Fld) : Bool := f == .gstPerst || f == .gstRefclkOk || f == .gstClkreq

/-- What a reset does to the slot sideband: TTH_PWREN deasserted, TTH_PRST_N low (R331, R383). -/
def sidebandOff (g : PortPins) : PortPins := { g with pwren := false, prstLow := true }

/-- R27: the lowest-numbered reference input of the Tether dies that is present and within tolerance. -/
def RefDyn.lowest (r : RefDyn) : Option Nat := (List.range 4).find? (fun k => !r.bad.contains k)

/-- R11: module reset. Fields restored by cold reset keep their values, as do the straps, the fuses and the units found lame
(R287), and the wake logic of the Paddock domain (R26); everything in progress is abandoned (R15), no image is loaded, and the
timebase starts again (R285). -/
def Block.moduleReset (b : Block) : Block :=
  let b1 : Block :=
    { freeCtr := b.freeCtr, nextId := b.nextId, straps := b.straps, fuses := b.fuses, out := b.out, wire := b.wire, tap := b.tap
      regs := b.regs.filter (fun e => (Fld.attr e.1.fld).lvl == .cold || pinField e.1.fld)
      pins := b.pins.map (fun e => (e.1, sidebandOff e.2))
      pow := { st := .on, bar := b.pow.bar, highAt := none, epoch := b.pow.epoch + b.time, offs := b.pow.offs
               lamePhases := b.pow.lamePhases }
      loom := { lame := b.loom.lame, stopped := decide (b.loom.lame.length ≥ 2) }
      xings := b.xings
      lameSh := b.lameSh
      groups := (b.groups.filter (fun e => e.2.wakeLow)).map (fun e => (e.1, { wakeLow := true }))
      grm := { dead := b.grm.dead }
      refs := { bad := b.refs.bad, synth := b.refs.bad, core := b.refs.lowest } }
  b1.each (List.range 56) (fun b g =>
    if b.flag .gstPerst g then b else (b.wr .gstClkreq g 0 1).grMod g (fun d => { d with waits := true, ourReq := true }))

/-- R11, R292: cold reset; it ends without power. Every unit found lame is in service again (R287, log entry 34). -/
def Block.coldReset (b : Block) : Block :=
  { freeCtr := b.freeCtr, nextId := b.nextId, fuses := b.fuses, out := b.out, wire := b.wire, xings := b.xings
    refs := { bad := b.refs.bad, core := b.refs.lowest }
    regs := b.regs.filter (fun e => pinField e.1.fld)
    pins := b.pins.map (fun e => (e.1, sidebandOff e.2)) }

/-! ### Resets that wait -/

/-- R292, R366: a module reset; during an update it waits for the flash operation in progress. -/
def Block.askReset (b : Block) : Block :=
  if b.grm.upd.isSome then { b with grm := { b.grm with deferred := true } } else b.moduleReset

/-! ### Power lost and back -/

/-- Every Stall link and every Tether link is lost (R238, R239, Table 10.10). -/
def Block.allLost (b : Block) : Block :=
  let b1 := b.each (List.range 224) (fun b l =>
    if b.dlActive l || b.rd .lnkLtssm l != 0 then b.linkDown l (b.dlActive l) else b)
  b1.each (List.range 64) (fun b p => if b.rd .psState p == 0 then b else b.tthLost p (b.rd .psState p == 5))

/-- R373: the bypass closes. -/
def Block.bypassClose (b : Block) : Block :=
  if b.flag .haltInRing 0 then (b.wr .haltInRing 0 0 0).incSat .haltCntBypasses 0 else b

/-- The module loses the power of every die but the power-control die; `why` goes to LAST_OFF. -/
def Block.powerDown (b : Block) (st : PwrSt) (why : Nat) : Block :=
  let b1 := ((b.allLost.bypassClose).wr .pstLastOff 0 0 why).wr .coreServices 0 0 0
  { b1 with pow := { b1.pow with st := st, held := [], ramp := false }, tap := { debug := b.tap.debug } }

/-- R310: VIN leaves the operating range: VSTBY hold, or cold reset. -/
def Block.vinGone (b : Block) (why : Nat) : Block :=
  match b.pow.st with
  | .off | .hold => b
  | .on | .stand => if b.flag .pstVstbyOk 0 then (b.powerDown .hold why).wr .pstVinOk 0 0 0 else b.coldReset
  | .thermOff | .dead => if b.flag .pstVstbyOk 0 then b.wr .pstVinOk 0 0 0 else b.coldReset

/-- R292, R333: the Paddock domain comes up from VIN; the straps are sampled. -/
def Block.powerUp (b : Block) (s : Straps) (vstbyOk : Bool) : Block :=
  if b.pow.st != .off then b
  else
    let b1 := { b.coldReset with straps := s }
    let b2 := (b1.wr .pstVinOk 0 0 1).wr .pstVstbyOk 0 0 (b2n vstbyOk)
    { b2.moduleReset with pow := { b2.moduleReset.pow with epoch := 0, bar := false } }

/-- R292, R333: the Paddock domain comes up from VSTBY while VIN is absent. -/
def Block.standbyUp (b : Block) (s : Straps) : Block :=
  if b.pow.st != .off then b
  else
    let b1 := { b.coldReset with straps := s }.wr .pstVstbyOk 0 0 1
    { b1 with pow := { b1.pow with st := .hold } }

/-- R311, R345: VIN is back. The dies go on from retention at Walk, or the boot starts again. -/
def Block.vinBack (b : Block) : Block :=
  match b.pow.st with
  | .hold =>
    let b1 := b.wr .pstVinOk 0 0 1
    if b1.stage == 5 then
      let b2 := (b1.wr .gaitCurrent 0 0 1).wr .coreServices 0 0 (b2n (!b1.grm.stopped && !b1.grm.dead))
      { b2 with pow := { b2.pow with st := .on }, tap := { b2.tap with portOn := true } }
    else b1.moduleReset
  | .thermOff | .dead => b.wr .pstVinOk 0 0 1
  | _ => b

/-- R311: VSTBY is lost during VSTBY hold. -/
def Block.vstbyGone (b : Block) : Block := if b.pow.st == .hold then b.coldReset else b

/-- VSTBY enters or leaves its range while VIN is present. -/
def Block.vstbyRange (b : Block) (ok : Bool) : Block :=
  if b.flag .pstVinOk 0 then b.wr .pstVstbyOk 0 0 (b2n ok) else b

/-! ### The commands -/

/-- VIN_POWER_UP (R292, R333). -/
def execVinPowerUp (straps : Straps) (vstbyOk : Bool) (s : State) : Host.Outcome State Fault Refusal :=
  s.on (fun b => b.powerUp straps vstbyOk)
/-- VSTBY_POWER_UP (R292, R333). -/
def execVstbyPowerUp (straps : Straps) (s : State) : Host.Outcome State Fault Refusal := s.on (fun b => b.standbyUp straps)
/-- VIN_UVLO_FALL (R310): LAST_OFF 4h. -/
def execVinUvloFall (s : State) : Host.Outcome State Fault Refusal := s.on (fun b => b.vinGone 4)
/-- VIN_OVLO_RISE (R310): LAST_OFF 3h. -/
def execVinOvloRise (s : State) : Host.Outcome State Fault Refusal := s.on (fun b => b.vinGone 3)
/-- VIN_RETURN (R311). -/
def execVinReturn (s : State) : Host.Outcome State Fault Refusal := s.on (fun b => b.vinBack)
/-- VSTBY_LOSS (R311). -/
def execVstbyLoss (s : State) : Host.Outcome State Fault Refusal := s.on (fun b => b.vstbyGone)
/-- VSTBY_RANGE_CHANGE (R310). -/
def execVstbyRangeChange (ok : Bool) (s : State) : Host.Outcome State Fault Refusal := s.on (fun b => b.vstbyRange ok)

end Sys2Proof.Machine
end

