-- ==== Sys2Proof/Machine/Faults.lean ====
section
/-! DEFINITION. Stumbles and lame units (R285 to R291, R297, R298, R300, R301), the substitution of a Shuttle (R154), and the Loom's
arbiter and width (R19 to R21, R281, R28). -/
namespace Sys2Proof.Machine

/-! ### The Loom -/

/-- Functions of the running image, ascending. -/
def Block.allFns (b : Block) : List Nat := (List.range 512).filter (fun f => b.fnExists f)

/-- R301: a second lame slice: INTERNAL_UNCORR in every function, AER, and module reset; the Loom stays stopped until the Groom
runs. -/
def Block.escalate (b : Block) (slice : Nat) : Block :=
  if b.groomRuns then
    (b.each b.allFns (fun b f => b.logErr f { code := 24, detail := 2, aux := slice })).askReset
  else b

/-- R298: a Loom slice is lame. Granting stops; the spare is brought in for the first one. -/
def Block.sliceLame (b : Block) (i : Nat) : Block :=
  if b.loom.lame.contains i then b
  else
    let b1 := b.incSat .stumLame 0 2
    let b2 := { b1 with loom := { b1.loom with lame := b1.loom.lame ++ [i], stopped := true } }
    if b.loom.lame.isEmpty then
      { b2 with loom := { b2.loom with sub := some (i, b2.time) }
                gated := b2.gated.filter (fun g => match g with | .slice k => k.val != 8 | _ => true) }
    else ({ b2 with loom := { b2.loom with sub := none } }).escalate i

/-- An answer that the Loom held crosses (R21 to R23). -/
def Block.backGo (b : Block) (x : LoomBack) : Block :=
  match x with
  | .xlb p r code cause cells => (b.cross (some (tetherPort p)) (some (b.xFrom r)) 2 cells.length).ansGo r code cause cells
  | .good f t cells => match ownQueue t.own with
    | some q => b.backTo (b.actLink f) q cells.length x (fun b => b.goodGo f t cells)
    | none => b.goodGo f t cells
  | .bad f t st => match ownQueue t.own with
    | some q => b.backTo (b.actLink f) q 0 x (fun b => b.badGo f t st)
    | none => b.badGo f t st
  | .acked w => b.wAcked w
  | .lm p l tag code cause pv data => (b.cross (some (linkPort l)) (some (tetherPort p)) 2 data.length).respond p tag code cause pv data

/-- Memory Writes that the Loom held for link l cross to its Stall die, in order. -/
def Block.postedIn (b : Block) (l : Nat) : Block :=
  let ws := (b.lk l).posted.filter (·.atLoom)
  let b1 := b.each ws (fun b w => match b.wFrom w.own with
    | some i => b.cross i (some (linkPort l)) 0 w.data.length
    | none => b)
  (b1.lkMod l (fun k => { k with posted := k.posted.map (fun w => { w with atLoom := false }) })).pumpPosted l

/-- Non-posted requests of f that the Loom held cross to the Stall die of its link, in order. -/
def Block.npsIn (b : Block) (f : Nat) : Block :=
  let ts := (b.fn f).np.filter (·.atLoom)
  let b1 := b.each ts (fun b t => match b.npFrom t.own with
    | some i => b.cross i (some (linkPort (b.actLink f))) 1 t.ops.length
    | none => b)
  (b1.fnMod f (fun d => { d with np := d.np.map (fun t => { t with atLoom := false }) })).pumpNp f

/-- R298 step 5: what the Loom held crosses: posted traffic, then non-posted, then the answers (R20); the withheld credits go back. -/
def Block.loomRelease (b : Block) : Block :=
  let held := b.loomBack
  let b1 := { b with loomBack := [] }
  let b2 := (b1.each (List.range 224) (fun b l => if (b.lk l).posted.any (·.atLoom) then b.postedIn l else b)).each b.allFns
    (fun b f => if (b.fn f).np.any (·.atLoom) then b.npsIn f else b)
  let b3 := (b2.each (List.range 64) (fun b p => b.reqsIn p)).each held (fun b x => b.backGo x)
  b3.lmPumpAll.payAll

/-- R298 step 5: granting resumes; every function logs INTERNAL_CORR (R291). -/
def Block.sliceResume (b : Block) : Block :=
  match b.loom.sub with
  | none => b
  | some (i, t0) =>
    let b1 := { b with loom := { b.loom with sub := none, stopped := false } }
    (b1.each b1.allFns (fun b f => b.logErr f { code := 23, detail := 2, len := b.time - t0, aux := i })).loomRelease

/-- Number of a traffic class. -/
def loomClass : LoomClass → Nat
  | .posted => 0
  | .nonPosted => 1
  | .completion => 2

/-- Pointer of an output port (R19); after reset it stands at input 0 (DESIGN CHOICE, log entry 39). -/
def Block.loomPtr (b : Block) (o : Nat) : Nat := unitOf 0 b.loom.ptr o

/-- R20: an offer of class c goes ahead of an earlier one of class e of the same input and output: posted traffic and completions
pass non-posted traffic. That they do wherever it is held, and that posted traffic and non-posted do not pass completions, is a
DESIGN CHOICE (log entry 40). -/
def mayPass (c e : Nat) : Bool := e == 1 && c != 1

/-- The class of the offer of input i that output o can take: the oldest one that has credit and that nothing ahead of it holds
back; `ahead` are the classes passed over so far. -/
def offerFrom (cr : Nat → Bool) (o i : Nat) (ahead : List Nat) : List (Nat × Nat × Nat) → Option Nat
  | [] => none
  | w :: t =>
    if w.1 == o && w.2.1 == i then
      if cr w.2.2 && ahead.all (fun e => mayPass w.2.2 e) then some w.2.2 else offerFrom cr o i (w.2.2 :: ahead) t
    else offerFrom cr o i ahead t

/-- R19: the first input at or after the pointer, in ascending order with wrap, that has traffic the output port can take. -/
def Block.loomPick (b : Block) (cr : Nat → Bool) (o : Nat) : Option Nat :=
  pickFree (fun i => (offerFrom cr o i [] b.loom.waits).isSome) 33 (b.loomPtr o)

/-- Remove the first element that meets a condition. -/
def dropFirst {α : Type} (p : α → Bool) : List α → List α
  | [] => []
  | x :: t => if p x then t else x :: dropFirst p t

/-- R19 to R21, R298: offers reach an output port, which has credit in some classes; one is granted and crosses, and one that fails
its checks is sent again from the crossing buffer. What is not granted waits, and the credits of its input are withheld. Nothing is
granted while the Loom stands still. -/
def Block.loomMove (b : Block) (o : Nat) (offers : List (LoomIx × LoomClass)) (credits : List LoomClass) (crcFail : Bool) : Block :=
  let cr := fun (c : Nat) => credits.any (fun x => loomClass x == c)
  let b1 := { b with loom := { b.loom with waits := b.loom.waits ++ offers.map (fun x => (o, x.1.val, loomClass x.2)) } }
  if b.loom.stopped || b.pow.st != .on then b1
  else match b1.loomPick cr o with
    | none => b1
    | some i =>
      let c := (offerFrom cr o i [] b1.loom.waits).getD 0
      let b2 := { b1 with loom := { b1.loom with
          ptr := (o, (i + 1) % 33) :: dropKey o b1.loom.ptr
          waits := if crcFail then b1.loom.waits else dropFirst (fun w => w.1 == o && w.2.1 == i && w.2.2 == c) b1.loom.waits } }
      b2.payAll

/-- R281: every Stall link and Tether port in use is in ECONOMY. -/
def Block.allEconomy (b : Block) : Bool :=
  (List.range 224).all (fun l => !b.dlActive l || b.linkEconomy l) &&
    (List.range 64).all (fun p => !b.active p || optD (b.portRec? p) false (·.economy))

/-- R281: the Groom narrows the Loom to four slices. -/
def Block.loomNarrowGo (b : Block) : Block :=
  if b.groomReady && b.allEconomy then { b with loom := { b.loom with narrow := true } } else b

/-- R281, R314, R315: the Groom widens the Loom; a droop window holds this back. -/
def Block.loomWidenGo (b : Block) : Block :=
  if !(b.groomReady && b.loom.narrow) then b
  else if b.flag .pstDroop 0 || b.pow.ramp then b.holdBack .loomWiden
  else { b with loom := { b.loom with narrow := false }, pow := { b.pow with ramp := true }
                gated := b.gated.filter (fun g => match g with | .slice k => k.val == 8 && b.loom.lame.isEmpty | _ => true) }

/-! ### Shuttles (R154) -/

/-- Spares of the image that no bucket uses and that are not lame. -/
def Block.freeSpares (b : Block) : List Nat :=
  ((List.range (optD b.img 0 (·.spareCount))).map spareShuttle).filter (fun s => !b.buckets.contains s && !b.lameSh.contains s)

/-- The spare that takes over: of the same cluster, else the lowest-numbered. -/
def Block.spareFor (b : Block) (i : Nat) : Option Nat :=
  match b.freeSpares.find? (fun s => s / 17 == i / 17) with
  | some s => some s
  | none => b.freeSpares.min?

/-- The next in-service Shuttle above a number, wrapping (R154 step 3). -/
def Block.nextShuttle (b : Block) (i : Nat) : Nat :=
  (pickFree (fun s => s != i && b.buckets.contains s && !b.lameSh.contains s) 136 ((i + 1) % 136)).getD i

/-- Spread the bucket entries of Shuttle i over the Shuttles in service, ascending. -/
def spreadOver (next : Nat → Nat) (i : Nat) : Nat → List Nat → List Nat
  | _, [] => []
  | cur, x :: t => if x == i then next cur :: spreadOver next i (next cur) t else x :: spreadOver next i cur t

/-- The bucket table without Shuttle i (R154). -/
def Block.rebucket (b : Block) (i : Nat) : List Nat :=
  match b.spareFor i with
  | some s => b.buckets.map (fun x => if x == i then s else x)
  | none => spreadOver b.nextShuttle i i b.buckets

/-- R130, R131: the bucket table at the end of module reset; Shuttles found lame before are left out (R287). -/
def Block.bucketFill (b : Block) : Block :=
  let spares := (List.range (optD b.img 0 (·.spareCount))).map spareShuttle
  let inList := (List.range 136).filter (fun s => !spares.contains s)
  let b1 := { b with buckets := (List.range 256).map (fun e => inList[e % inList.length]?.getD 0) }
  b1.each (b1.lameSh.filter (fun i => b1.buckets.contains i)) (fun b i => { b with buckets := b.rebucket i })

/-- A Shuttle is lame: its buckets go to a spare, and the queues in them start to move. -/
def Block.shuttleLame (b : Block) (i : Nat) : Block :=
  if b.lameSh.contains i then b
  else
    let spare := b.spareFor i
    let old := b.buckets
    let b1 := { b.incSat .stumLame 0 3 with lameSh := b.lameSh ++ [i] }
    let b2 := { b1 with
      parked := b1.parked.filter (fun s => s != i && some s != spare)
      gated := b1.gated.filter (fun g => match g with | .shuttle k => k.val != i && some k.val != spare | _ => true)
      buckets := b1.rebucket i }
    let qs := ((List.range 512).filter (fun f => b.fnExists f)).flatMap (fun f =>
      ((List.range 32).filter (fun n => b.val .qAvailable f n == 1 && old[bucketOf (32 * f + n)]?.getD 999 == i)).map (fun n => 32 * f + n))
    if !old.contains i then b2
    else
      -- a queue that was already moving to the lame Shuttle moves on, and what it lost stays lost
      let was := fun (q : Nat) => ((b2.moves.flatMap (·.qs)).find? (fun x => x.1 == q)).bind (·.2)
      let lost := fun (q : Nat) => match was q with | some x => some x | none => b2.qLoses q
      let rec' : MoveRec := ⟨b2.time, i, spare, qs.map (fun q => (q, lost q))⟩
      let left := b2.moves.map (fun (m : MoveRec) => ({ m with qs := m.qs.filter (fun x => !qs.contains x.1) } : MoveRec))
      let b3 := { b2 with moves := left ++ [rec'] }
      b3.each qs (fun b q => b.qMoveStart q)

/-! ### Power phases (R300, R321) -/

/-- R321: the gait that a number of phases carries. -/
def capFor (phases : Nat) : Nat :=
  if phases ≥ 21 then 4 else if phases == 20 then 3 else if phases == 19 then 2 else 1

/-- R319: the highest gait that TARGET, CAP, THERM_LIMIT and FORCED_WALK allow. -/
def Block.gaitLimit (b : Block) : Nat :=
  let m := min (b.rd .gaitTarget 0) (min (b.rd .gaitCap 0) (b.rd .gaitThermLimit 0))
  if b.flag .gaitForcedWalk 0 then min m 1 else m

/-- R319: a downshift, which may cross several gaits. -/
def Block.gaitDown (b : Block) : Block :=
  if b.pow.st == .on && b.gaitLimit < b.rd .gaitCurrent 0 then b.wr .gaitCurrent 0 0 b.gaitLimit else b

/-- R300, R321: a first-stage phase is shed; below 17 the module shuts down until cold reset. -/
def Block.phaseLame (b : Block) (i : Nat) : Block :=
  if b.pow.lamePhases.contains i then b
  else
    let n := b.rd .pstPhases 0 - 1
    let b1 := (((b.incSat .stumLame 0 5).wr .pstPhases 0 0 n).wr .gaitCap 0 0 (capFor n))
    let b2 := { b1 with pow := { b1.pow with lamePhases := b1.pow.lamePhases ++ [i] } }
    if n < 17 then
      let b3 := b2.powerDown .dead 2
      b3.each (List.range 64) (fun b p => if (b.pin p).pwren then b.pinMod p (fun g => { g with pwren := false }) else b)
    else b2.gaitDown

/-! ### Stumbles -/

/-- R285, R286: a stumble of a unit, or an event that makes it lame at once, which lanes do not have (Table 12.1). A Groom core's stumbles are those of
LOCKSTEP_MISMATCH and GROOM_WATCHDOG_EXPIRY; a core that fails its self-test at another time is lame at once. -/
def Block.stumble (b : Block) (u : UnitRef) (now : Bool) : Block :=
  let judge := fun (isLame : Bool) (act : Block → Block) =>
    if isLame then b
    else if now then act b
    else
      let (b1, hit) := b.stumCount u
      if hit then act b1 else b1
  match u with
  | .stallLane i => b.slaneStums [i]
  | .tetherLane i => b.tlaneStum i
  | .loomSlice i => judge (b.loom.lame.contains i.val) (fun b => b.sliceLame i.val)
  | .shuttle i => judge (b.lameSh.contains i.val) (fun b => b.shuttleLame i.val)
  | .phase i => judge (b.pow.lamePhases.contains i.val) (fun b => b.phaseLame i.val)
  | .core i => judge (bit (b.rd .coreFailed 0) i.val) (fun b => (b.setBits .coreFailed 0 0 (2 ^ i.val)).incSat .stumLame 0 4)

/-- R301: the order in which units of one cycle are handled: Loom slices, then Shuttles ascending, then the others. -/
def inOrder (us : List (UnitRef × Bool)) : List (UnitRef × Bool) :=
  us.filter (fun x => match x.1 with | .loomSlice _ => true | _ => false) ++
    (List.range 136).flatMap (fun k => us.filter (fun x => match x.1 with | .shuttle i => i.val == k | _ => false)) ++
    us.filter (fun x => match x.1 with | .tetherLane _ | .core _ | .phase _ => true | _ => false)

/-- Stumbles of one cycle. Stall lanes that become lame in it enter one choice of width (R228). -/
def Block.stumbles (b : Block) (us : List (UnitRef × Bool)) : Block :=
  let lanes := us.filterMap (fun x => match x.1 with | .stallLane i => some i | _ => none)
  (b.slaneStums lanes).each (inOrder us) (fun b x => b.stumble x.1 x.2)

/-- R224, R260: the FOM of lanes has stayed below FOM_RETIRE throughout the window of their class. -/
def Block.fomLow (b : Block) (rs : List LaneRef) : Block :=
  let stall := rs.filterMap (fun r => match r with
    | .stall i => if b.rd .seqFomRetire (i.val / 112) == 0 then none else some i.val
    | .tether _ => none)
  (b.slanesLost stall).each rs (fun b r => match r with
    | .stall _ => b
    | .tether i => if b.rd .teqFomRetire (i.val / 128) == 0 then b else b.tlaneLost i.val)

/-! ### Power gating (R28, Table 1.6) -/

/-- Whether a unit may be power-gated. -/
def Block.mayGate (b : Block) (u : GateRef) : Bool :=
  match u with
  | .group g =>
    b.flag .gstPerst g.val || (b.groupLinks g.val).all (fun l => b.rd .lnkLtssm l == 6 || b.rd .lnkLtssm l == 7)
  | .port p => !(b.pin p.val).pwren || (b.sl p.val).rstT0.isSome
  | .shuttle i => b.parked.contains i.val || !b.buckets.contains i.val
  | .slice i =>
    if i.val == 8 then b.loom.lame.isEmpty || (b.loom.narrow && b.loom.lame.all (fun k => decide (4 ≤ k)))
    else b.loom.narrow && 4 ≤ i.val

/-- R28: a unit that holds no traffic state is power-gated. -/
def Block.gateUnit (b : Block) (u : GateRef) : Block :=
  if b.pow.st == .on && b.mayGate u && !b.gated.contains u then { b with gated := b.gated ++ [u] } else b

/-! ### The commands -/

/-- STUMBLE (R285, R286); `also`: further stumbles of the same cycle (R228, R301). -/
def execStumble (u : UnitRef) (atOnce selfTestFailed : Bool) (s : State) (also : List UnitRef := []) : Host.Outcome State Fault Refusal :=
  s.on (fun b => if b.pow.st == .on then b.stumbles ((u, atOnce || selfTestFailed) :: also.map (fun v => (v, atOnce))) else b)
/-- FOM_RETIRE_WINDOW_EXPIRY (R224, R260); `also`: further lanes in the same cycle (R228). -/
def execFomRetireWindowExpiry (r : LaneRef) (s : State) (also : List LaneRef := []) : Host.Outcome State Fault Refusal :=
  s.on (fun b => b.fomLow (r :: also))
/-- LOOM_TRANSFER (R19, R20, R21, R298). -/
def execLoomTransfer (out : LoomIx) (offers : List (LoomIx × LoomClass)) (crcFail : Bool) (s : State)
    (credits : List LoomClass := [.posted, .nonPosted, .completion]) :
    Host.Outcome State Fault Refusal := s.on (fun b => b.loomMove out.val offers credits crcFail)
/-- LOOM_SLICE_RESUME (R298). -/
def execLoomSliceResume (s : State) : Host.Outcome State Fault Refusal := s.on (fun b => b.sliceResume)
/-- LOOM_NARROW (R281). -/
def execLoomNarrow (s : State) : Host.Outcome State Fault Refusal := s.on (fun b => b.loomNarrowGo)
/-- LOOM_WIDEN (R281). -/
def execLoomWiden (s : State) : Host.Outcome State Fault Refusal := s.on (fun b => b.loomWidenGo)
/-- UNIT_POWER_GATE (R28). -/
def execUnitPowerGate (u : GateRef) (s : State) : Host.Outcome State Fault Refusal := s.on (fun b => b.gateUnit u)

end Sys2Proof.Machine
end

