-- ==== Sys2Proof/Machine/Power.lean ====
section
/-! DEFINITION. Brownout, droop windows, gaits, thermal limits and Stand (R312 to R329), and the reference clocks of the Tether dies
and the core (R27, R245). -/
namespace Sys2Proof.Machine

/-- The power-control die runs beside a module in service (Walk or above, or Stand). -/
def Block.inService (b : Block) : Bool := b.pow.st == .on || b.pow.st == .stand
/-- Hold or release one cause of the narrowing of R313 (bit 0 brownout, 1 thermal trip, 2 Groom throttle). -/
def Block.narrowBit (b : Block) (i : Nat) (v : Bool) : Block :=
  let m := if bit b.pow.narrow i then b.pow.narrow - 2 ^ i else b.pow.narrow
  { b with pow := { b.pow with narrow := if v then m + 2 ^ i else m } }

/-! ### Gaits (R318 to R321) -/

/-- Highest and lowest gait of the image (R320; Saddler defaults before an image runs). -/
def Block.gaitMin (b : Block) : Nat := optD b.img 1 (fun im => optD im.power 1 (·.gaitMin))
/-- GAIT_MAX. -/
def Block.gaitMax (b : Block) : Nat := optD b.img 4 (fun im => optD im.power 4 (·.gaitMax))
/-- R320: TARGET always lies within GAIT_MIN to GAIT_MAX. -/
def Block.gaitClamp (b : Block) (t : Nat) : Nat := max b.gaitMin (min t b.gaitMax)

/-- R25, R314, R315, R319: one upshift, when the Groom runs and the gait in force may rise; a droop window and an increase of the
input current that has not settled hold it back. -/
def Block.gaitUp (b : Block) : Block :=
  if !(b.groomRuns && b.rd .gaitCurrent 0 < b.gaitLimit) || b.pow.walkHold then b
  else if b.flag .pstDroop 0 || b.pow.ramp then b.holdBack .upshift
  else { b.wr .gaitCurrent 0 0 (b.rd .gaitCurrent 0 + 1) with pow := { b.pow with ramp := true } }

/-- R319: the gait follows a changed limit, down at once and up one step. -/
def Block.gaitFollow (b : Block) : Block := b.gaitDown.gaitUp

/-- R319, R320, R9: a write of PWR_GAIT.TARGET by the Groom. -/
def Block.targetWrite (b : Block) (t : Nat) : Block :=
  if b.groomRuns && 1 ≤ t && t ≤ 4 then
    let b1 := { b with pow := { b.pow with walkHold := b.pow.walkHold && decide (t < b.rd .gaitTarget 0) } }
    (b1.wr .gaitTarget 0 0 (b.gaitClamp t)).gaitFollow
  else b

/-- Capacity of a Loom port in Gbit/s at a gait (Table 1.3); half of it while the Loom is narrowed (R281). -/
def Block.portCap (b : Block) (gait : Nat) : Nat :=
  let full := match gait with | 0 => 0 | 1 => 2048 | 2 => 8192 | 3 => 12288 | _ => 16384
  if b.loom.narrow then full / 2 else full

/-- R320: the end of a window of 100 µs, with the occupancy of the busiest Loom port in Gbit/s. -/
def Block.gaitWindow (b : Block) (gbps : Nat) : Block :=
  if !b.groomReady then b
  else
    let up := optD b.img 70 (fun im => optD im.power 70 (·.upPct))
    let down := optD b.img 60 (fun im => optD im.power 60 (·.downPct))
    let t := b.rd .gaitTarget 0
    if 100 * gbps > up * b.portCap (b.rd .gaitCurrent 0) then
      { b.targetWrite (min 4 (t + 1)) with pow := { (b.targetWrite (min 4 (t + 1))).pow with lowWins := 0 } }
    else if t > 1 && 100 * gbps < down * b.portCap (t - 1) then
      let n := b.pow.lowWins + 1
      if n ≥ 10 then { b with pow := { b.pow with lowWins := 0 } }.targetWrite (t - 1)
      else { b with pow := { b.pow with lowWins := n } }
    else { b with pow := { b.pow with lowWins := 0 } }

/-! ### The narrowing of links (R313) -/

/-- Links and ports are asked to narrow. -/
def Block.linksNarrow (b : Block) : Block :=
  let b1 := b.each (List.range 224) (fun b l =>
    let w := min b.stlCap (b.l0pMax l)
    if b.l0pAble l && (b.lk l).l0p.isNone && w < b.rd .lnkWidthAct l && 0 < w then b.l0pAsk l w 2 else b)
  b1.each (List.range 64) (fun b p => b.narrowAsk p)

/-- The links return to the widths that R225 and R261 allow. -/
def Block.linksWiden (b : Block) : Block :=
  if b.narrowed then b
  else
    let b1 := b.each (List.range 224) (fun b l =>
      if b.l0pAble l && (b.lk l).l0p.isNone && b.rd .lnkWidthAct l < b.l0pMax l then b.l0pAsk l (b.l0pMax l) 2 else b)
    b1.each (List.range 64) (fun b p => b.widenAsk p)

/-- R313, R315: the widenings are wakes, which a droop window holds back. -/
def Block.widenBack (b : Block) : Block :=
  if b.narrowed then b else if b.flag .pstDroop 0 then b.holdBack .brownoutWiden else b.linksWiden

/-- Walk is forced, or no longer. -/
def Block.forceWalk (b : Block) : Block :=
  (b.wr .gaitForcedWalk 0 0 (b2n (b.flag .pstBrownout 0 || b.flag .pstHwTrip 0))).gaitFollow

/-- R312, R313: a brownout begins, when VIN is below VIN_MV or the input current (in 10 mA) above ILIM_A. -/
def Block.brownIn (b : Block) (vin iin : Nat) : Block :=
  if !(b.inService && !b.flag .pstBrownout 0 && (vin < b.rd .broVinMv 0 || iin > 100 * b.rd .broIlimA 0)) then b
  else (((((b.wr .pstBrownout 0 0 1).incSat .pwrCntBrownouts 0).narrowBit 0 true).forceWalk).wr .telVinMv 0 0 vin).wr .telIin 0 0 iin
    |>.linksNarrow

/-- R313: the brownout ends; the gait stays at Walk until the Groom raises it. -/
def Block.brownOut (b : Block) : Block :=
  if !b.flag .pstBrownout 0 then b
  else
    let b1 := (b.wr .pstBrownout 0 0 0).narrowBit 0 false
    let b2 := b1.wr .gaitForcedWalk 0 0 (b2n (b1.flag .pstHwTrip 0))
    { b2 with pow := { b2.pow with walkHold := true } }.widenBack

/-! ### Droop windows (R315 to R317) -/

/-- R315, R316: DROOP_ALERT_N has been low for 50 ns. -/
def Block.droopOpen (b : Block) : Block :=
  let free := !b.pow.bar || optD b.pow.highAt false (fun t => t + 10 ≤ b.time)
  if !(b.inService && b.flag .pwrDroopEn 0 && !b.flag .pstDroop 0) then b
  else if !free then { b with pow := { b.pow with highAt := none } }
  else { ((b.wr .pstDroop 0 0 1).wr .gaitFrozen 0 0 1).incSat .pwrCntDroops 0 with pow := { b.pow with bar := false, highAt := none } }

/-- An action held back goes ahead. -/
def Block.heldAct (b : Block) (h : HeldAct) : Block :=
  match h with
  | .upshift => b.gaitUp
  | .loomWiden => b.loomWidenGo
  | .l1exit l => b.l1Exit l
  | .clkreq g => b.clkreqOn g
  | .l0pWiden l => b.l0pWiden l
  | .brownoutWiden => b.widenBack
  | .doze p => b.dozeFree p
  | .slotOn p => b.slotEnable p
  | .standExit => b.standWake

/-- What was held back proceeds in the order in which it fell due; what a ramp of the input current still holds waits on. -/
def Block.heldGoAll (b : Block) : Block :=
  let acts := b.pow.held
  { b with pow := { b.pow with held := [] } }.each acts (fun b h => b.heldAct h)

/-- R316: the window closes. -/
def Block.droopEnd (b : Block) : Block :=
  if !b.flag .pstDroop 0 then b else ((b.wr .pstDroop 0 0 0).wr .gaitFrozen 0 0 0).heldGoAll

/-- R314: the input current has settled after the last increase; the next increase that waits starts. -/
def Block.settled (b : Block) : Block :=
  let b1 := { b with pow := { b.pow with ramp := false } }
  if b1.flag .pstDroop 0 then b1 else b1.heldGoAll.gaitUp

/-- DROOP_ALERT_N has been high for 50 ns: the window closes; after a window that DROOP_MAX_US closed, the 10 µs of R316 run. -/
def Block.droopHigh (b : Block) : Block :=
  if b.flag .pstDroop 0 then b.droopEnd
  else if b.pow.bar && b.pow.highAt.isNone then { b with pow := { b.pow with highAt := some b.time } } else b

/-- R316: DROOP_MAX_US closes the window. -/
def Block.droopMax (b : Block) : Block :=
  if b.flag .pstDroop 0 then { b with pow := { b.pow with bar := true, highAt := none } }.droopEnd else b

/-- R317: the early release of a DOZE exit. -/
def Block.droopEarly (b : Block) (p : Nat) : Block :=
  if (b.tt p).held then { b with pow := { b.pow with held := b.pow.held.filter (fun h => h != HeldAct.doze p) } }.dozeFree p else b

/-! ### Thermal limits (R328, R329) -/

/-- R328: THROTTLE is set while THERM_LIMIT is below GAIT_MAX. -/
def Block.throttleBit (b : Block) : Block := b.wr .pstThrottle 0 0 (b2n (b.rd .gaitThermLimit 0 < b.gaitMax))

/-- R328: a throttle step of the Groom. -/
def Block.throttle (b : Block) (tj : Nat) : Block :=
  let b0 := b.wr .thmTjMax 0 0 tj
  if !b.groomReady then (if b.inService then b0 else b)
  else if tj < b0.rd .thmThrottleC 0 then b0
  else if b0.rd .gaitThermLimit 0 == 1 then
    if bit b0.pow.narrow 2 then b0
    else ((b0.incSat .pwrCntThrottles 0).narrowBit 2 true).linksNarrow
  else (((b0.wr .gaitThermLimit 0 0 (max 1 (b0.rd .gaitCurrent 0 - 1))).throttleBit).incSat .pwrCntThrottles 0).gaitFollow

/-- R328: the Groom raises THERM_LIMIT one gait, and removes its narrowing. -/
def Block.thermUp (b : Block) (tj : Nat) : Block :=
  let b0 := b.wr .thmTjMax 0 0 tj
  if !b.groomReady then (if b.inService then b0 else b)
  else if tj + b0.rd .thmHystC 0 ≥ b0.rd .thmThrottleC 0 || b0.rd .gaitThermLimit 0 ≥ 4 then b0
  else
    let b1 := (b0.wr .gaitThermLimit 0 0 (b0.rd .gaitThermLimit 0 + 1)).throttleBit.gaitFollow
    if bit b1.pow.narrow 2 then (b1.narrowBit 2 false).widenBack else b1

/-- R328: the hardware trip. -/
def Block.trip (b : Block) : Block :=
  if !b.inService || b.flag .pstHwTrip 0 then b
  else (((((b.wr .thmTjMax 0 0 105).wr .pstHwTrip 0 0 1).incSat .pwrCntThrottles 0).narrowBit 1 true).forceWalk).linksNarrow

/-- R328: the trip ends below 100 °C; the reading is a free value below that (log entry 21). -/
def Block.tripEnd (b : Block) : Block :=
  if !b.flag .pstHwTrip 0 then b
  else ((((b.wr .thmTjMax 0 0 (Config.junctionTemp b.freeCtr % 100)).useFree.wr .pstHwTrip 0 0 0).narrowBit 1 false).forceWalk).widenBack

/-- R329: the thermal shutdown; after the third within one hour the module stays off until cold reset. -/
def Block.thermOff (b : Block) : Block :=
  if !b.inService then b
  else
    let b1 := { b with pow := { b.pow with offs := b.offsInHour ++ [b.pow.epoch + b.time] } }
    let b2 := (b1.powerDown (if b1.offsInHour.length ≥ 3 then .dead else .thermOff) 1).wr .thmTjMax 0 0 115
    (b2.each (List.range 64) (fun b p => if (b.pin p).pwren then b.pinMod p (fun g => { g with pwren := false }) else b))

/-- R329: the restart, with module reset. -/
def Block.thermOn (b : Block) : Block :=
  if b.pow.st == .thermOff && b.flag .pstVinOk 0 then b.moduleReset else b

/-! ### Stand (R326) -/

/-- R326: a Tether port that lets the module enter Stand. -/
def Block.portIdle (b : Block) (p : Nat) : Bool :=
  b.slotSt p == 0 || !(b.pin p).prsnt ||
    (b.active p && b.flag .psTxDoze p && b.flag .psRxDoze p && b.pxOut p == 0 && (b.x p).reqs.isEmpty && b.localOut p == 0 &&
      (b.tt p).txOut == (b.tt p).txSeq && (b.x p).fenceQ.isEmpty && (b.x p).oweH == 0 && (b.x p).oweD == 0)

/-- STAND_ENTRY: idle ports leave ACTIVE without counting, and the dies are power-gated with retention. -/
def Block.standIn (b : Block) : Block :=
  if !(b.groomReady && b.flag .gaitStandEn 0 && b.allFns.all (fun f => b.d3cold f) && (List.range 64).all (fun p => b.portIdle p)) then b
  else
    let b1 := b.each (List.range 64) (fun b p => if b.active p then b.tthLost p false else b)
    { b1.wr .gaitCurrent 0 0 0 with pow := { b1.pow with st := .stand } }

/-! ### Reference clocks (R27, R245, R394) -/

/-- TTH_REFCLK of die t is out of tolerance; core PLLs that take their reference from it change to the lowest-numbered one that is
left (R27). -/
def Block.refBad (b : Block) (t : Nat) : Block :=
  let r := { b.refs with bad := if b.refs.bad.contains t then b.refs.bad else b.refs.bad ++ [t] }
  { b with refs := { r with core := if r.core == some t then r.lowest else r.core } }
/-- R245: die t changes to the synthesised reference, which it keeps until the next module reset. -/
def Block.tthRef (b : Block) (t : Nat) : Block :=
  let b1 := b.refBad t
  if b1.refs.synth.contains t then b1 else { b1 with refs := { b1.refs with synth := b1.refs.synth ++ [t] } }
/-- R27: the core PLLs lose input t. -/
def Block.coreRef (b : Block) (t : Nat) : Block := b.refBad t

/-! ### The commands -/

/-- BROWNOUT_ENTRY (R312, R313). -/
def execBrownoutEntry (vinMv iin : Nat) (s : State) : Host.Outcome State Fault Refusal := s.on (fun b => b.brownIn vinMv iin)
/-- BROWNOUT_EXIT (R313). -/
def execBrownoutExit (s : State) : Host.Outcome State Fault Refusal := s.on (fun b => b.brownOut)
/-- DROOP_WINDOW_OPEN (R315). -/
def execDroopWindowOpen (s : State) : Host.Outcome State Fault Refusal := s.on (fun b => b.droopOpen)
/-- DROOP_WINDOW_CLOSE (R316). -/
def execDroopWindowClose (s : State) : Host.Outcome State Fault Refusal := s.on (fun b => b.droopHigh)
/-- DROOP_MAX_EXPIRY (R316). -/
def execDroopMaxExpiry (s : State) : Host.Outcome State Fault Refusal := s.on (fun b => b.droopMax)
/-- DROOP_EARLY_RELEASE (R317). -/
def execDroopEarlyRelease (p : PortIx) (s : State) : Host.Outcome State Fault Refusal := s.on (fun b => b.droopEarly p.val)
/-- GAIT_TARGET_WRITE (R319, R320). -/
def execGaitTargetWrite (target : BitVec 3) (s : State) : Host.Outcome State Fault Refusal :=
  s.on (fun b => b.targetWrite target.toNat)
/-- GAIT_UPSHIFT_STEP (R314). -/
def execGaitUpshiftStep (s : State) : Host.Outcome State Fault Refusal := s.on (fun b => b.settled)
/-- GAIT_OCCUPANCY_WINDOW (R320). -/
def execGaitOccupancyWindow (gbps : Nat) (s : State) : Host.Outcome State Fault Refusal := s.on (fun b => b.gaitWindow gbps)
/-- THERMAL_THROTTLE_STEP (R328). -/
def execThermalThrottleStep (tj : Nat) (s : State) : Host.Outcome State Fault Refusal := s.on (fun b => b.throttle tj)
/-- THERMAL_RAISE (R328). -/
def execThermalRaise (tj : Nat) (s : State) : Host.Outcome State Fault Refusal := s.on (fun b => b.thermUp tj)
/-- THERMAL_TRIP (R328). -/
def execThermalTrip (s : State) : Host.Outcome State Fault Refusal := s.on (fun b => b.trip)
/-- THERMAL_TRIP_END (R328). -/
def execThermalTripEnd (s : State) : Host.Outcome State Fault Refusal := s.on (fun b => b.tripEnd)
/-- THERMAL_SHUTDOWN (R329). -/
def execThermalShutdown (s : State) : Host.Outcome State Fault Refusal := s.on (fun b => b.thermOff)
/-- THERMAL_RESTART (R329). -/
def execThermalRestart (s : State) : Host.Outcome State Fault Refusal := s.on (fun b => b.thermOn)
/-- STAND_ENTRY (R326). -/
def execStandEntry (s : State) : Host.Outcome State Fault Refusal := s.on (fun b => b.standIn)
/-- TTH_REFCLK_LOSS (R245). -/
def execTthRefclkLoss (t : TDieIx) (s : State) : Host.Outcome State Fault Refusal := s.on (fun b => b.tthRef t.val)
/-- CORE_REFCLK_LOSS (R27). -/
def execCoreRefclkLoss (t : TDieIx) (s : State) : Host.Outcome State Fault Refusal := s.on (fun b => b.coreRef t.val)

end Sys2Proof.Machine
end

