-- ==== Sys2Proof/Machine/Boot.lean ====
section
/-! DEFINITION. The boot (R334 to R346, R372, R394): reading and checking the copies of the configuration image, the fetch over the
Halter ring, recovery, readiness, the anti-rollback counters, and the lower trees of the device HSS key (R348). -/
namespace Sys2Proof.Machine

/-! ### The Halter port -/

/-- The module is in the ring (R373). -/
def Block.inRing (b : Block) : Bool := b.flag .haltInRing 0
/-- Version of the frames the module sends (R370). -/
def Block.haltVer (b : Block) : Nat := b.rd .haltVersion 0
/-- Send a frame to the BMC (R368, R369). -/
def Block.haltSend (b : Block) (ty : Nat) (payload : List Byte) : Block :=
  if !b.inRing then b
  else
    let fr : HFrame := ⟨b.haltVer, 0x7E, b.straps.haltId.toNat, ty, b.halt.seq, payload, true⟩
    { b.emit (.halt fr) with halt := { b.halt with seq := (b.halt.seq + 1) % 65536 } }

/-- A change of STAGE; STATUS follows it (R370). -/
def Block.setStage (b : Block) (n : Nat) : Block :=
  if b.stage == n then b else { b.wr .bootStage 0 0 n with halt := { b.halt with owed := true } }

/-! ### The device HSS key (R348) -/

/-- R348: a fresh lower tree is taken: one fuse bit is blown, and the tree is generated. With all 1,024 used there is none. -/
def Block.takeTree (b : Block) : Block :=
  let b1 := (b.wr .lmsReady 0 0 0).wr .lmsIndex 0 0 0
  if b.fuses.trees < 1024 then
    { b1 with fuses := { b1.fuses with trees := b1.fuses.trees + 1 }, grm := { b1.grm with treeGen := true } }
  else { b1 with grm := { b1.grm with treeGen := false } }

/-- LMS_TREE_READY. -/
def Block.treeDone (b : Block) : Block :=
  if b.groomRuns && b.grm.treeGen then { b.wr .lmsReady 0 0 1 with grm := { b.grm with treeGen := false } } else b

/-! ### The checks of an image copy (R338, Table 14.5) -/

/-- Form of a group in an image. -/
def imgFormOf (im : Image) (g : Nat) : Nat := optD (im.groups.find? (fun r => r.g == g)) 0 (·.form)
/-- A link number that the form of its group uses (R5). -/
def imgLinkOk (im : Image) (l : Nat) : Bool := decide (l < 224) && linkUsed (imgFormOf im (l / 4)) (l % 4)
/-- PFs of a link. -/
def imgPfsOn (im : Image) (l : Nat) : List FnRec := im.fns.filter (fun r => !r.vf && r.link == l)

/-- R75, R76: one function record. -/
def imgFnOk (im : Image) (r : FnRec) : Bool :=
  let log := fun (n : Nat) => n == 0 || (12 ≤ n && n ≤ 48)
  decide (r.f < 512) && (im.fns.filter (fun q => q.f == r.f)).length == 1 && decide (r.port < 64) && imgLinkOk im r.link &&
    (match r.standby with
     | none => true
     | some t => imgLinkOk im t && r.link / 4 != t / 4 && !im.fns.any (fun q => q.link == t)) &&
    im.fns.all (fun q => q.link != r.link || q.standby == r.standby) &&
    (!r.vf || im.fns.any (fun q => q.f == r.parent && !q.vf && q.link == r.link && q.standby == r.standby && q.port == r.port)) &&
    (r.vf || decide (r.pfIndex < (imgPfsOn im r.link).length)) &&
    (!r.privileged || !r.vf) && log r.bar2 && log r.bar4 && (r.rom == 0 || (!r.vf && 16 ≤ r.rom && r.rom ≤ 24)) &&
    decide (1 ≤ r.vectors && r.vectors ≤ 64 && r.totalVfs ≤ 56) && (r.intPin == 0 || (!r.vf && bit r.modes 5))

/-- R276: the mode bits of one record agree with what selects them. -/
def imgModesOk (im : Image) (r : FnRec) : Bool :=
  let eqv := fun (i : Nat) (v : Bool) => bit r.modes i == v
  let queue := im.queues.any (fun q => q.f == r.f)
  let pf := if r.vf then (im.fns.find? (fun q => q.f == r.parent)).getD r else r
  eqv 0 (r.bar2 != 0 || r.bar4 != 0) && eqv 1 queue && eqv 2 (im.fns.any (fun q => q.port == r.port && q.link != r.link)) &&
    eqv 3 r.standby.isSome && (!bit r.modes 4 || r.privileged) && eqv 5 (r.intPin != 0) && eqv 6 pf.table && (!bit r.modes 7 || queue) &&
    eqv 9 (im.obwins.any (fun w => w.port == r.port)) &&
    eqv 10 (im.groups.any (fun g => g.g == r.link / 4 && g.economy) || im.ports.any (fun p => p.p == r.port && p.economy)) && !bit r.modes 11

/-- R102: one sub-window. -/
def imgSubOk (im : Image) (w : SubWin) : Bool :=
  let log := optD (im.fns.find? (fun r => r.f == w.f)) 0 (fun r => if w.winB then r.bar4 else r.bar2)
  w.off % 4096 == 0 && w.size % 4096 == 0 && w.base % 4096 == 0 && decide (4096 ≤ w.size) && log != 0 && decide (w.off + w.size ≤ 2 ^ log) &&
    im.subwins.all (fun v => v.f != w.f || v.winB != w.winB || v.s == w.s || !bit v.attr 0 || !bit w.attr 0 ||
      v.off + v.size ≤ w.off || w.off + w.size ≤ v.off)

/-- R127: one outbound window overlaps no other of its port. -/
def imgObOk (im : Image) (w : ObWin) : Bool :=
  im.obwins.all (fun v => v.port != w.port || v.m == w.m || v.base + v.size ≤ w.base || w.base + w.size ≤ v.base)

/-- R76: every VF slot counts toward the 512 function slots, and each VF of a PF has its record (R75, R78). -/
def imgSlotsOk (im : Image) : Bool :=
  let pfs := im.fns.filter (fun r => !r.vf)
  decide (pfs.foldl (fun a r => a + 1 + r.totalVfs) 0 ≤ 512) &&
    pfs.all (fun r => (im.fns.filter (fun q => q.vf && q.parent == r.f)).length == r.totalVfs)

/-- The Content check: R30, R76, R102, R127 and R276. -/
def imgContentOk (im : Image) : Bool :=
  decide (im.spareCount ≤ 16) && imgSlotsOk im && im.fns.all (fun r => imgFnOk im r && imgModesOk im r) && im.subwins.all (imgSubOk im) && im.obwins.all (imgObOk im) &&
    decide ((im.fns.filter (·.privileged)).length ≤ 64) &&
    (List.range 224).all (fun l =>
      let ps := imgPfsOn im l
      decide (ps.length ≤ 8) && (ps.map (·.pfIndex)).dedup.length == ps.length &&
        decide (ps.length + ps.foldl (fun a r => a + r.totalVfs) 0 ≤ 64)) &&
    (List.range 64).all (fun p => decide ((((im.fns.filter (fun r => r.port == p)).map (·.link)).dedup).length ≤ 8))

/-- R340, R341: the FIRMWARE envelope passes. -/
def Block.fwOk (b : Block) (w : FwEnvelope) : Bool := w.keyOk && w.ecdsaOk && w.hssOk && decide (b.fuses.fwSvn ≤ w.svn)

/-- R338: the RESULT of a copy, by the first check of Table 14.5 that fails. -/
def Block.checkCopy (b : Block) (c : ImageCopy) : Nat :=
  if !c.flashOk then 2
  else if !c.headerOk then 3
  else match b.fuses.keyHash with
    | none => 10
    | some h =>
      if c.keyHash != h then 4
      else if !(b.fuses.imgSvn ≤ c.body.svn && c.body.svn ≤ 256) then 5
      else if !c.ecdsaOk then 6
      else if !c.hssOk then 7
      else if !b.fwOk c.body.fw then 8
      else if c.unknownCritical || !imgContentOk c.body then 9
      else 1

/-- The RESULT of a copy is recorded. -/
def Block.setResult (b : Block) (copyB : Bool) (n : Nat) : Block := b.wr (if copyB then .bootResultB else .bootResultA) 0 0 n

/-! ### The order of the copies (R333, R334, R346) -/

/-- Copies in the order in which they are read. -/
def Block.copyOrder (b : Block) : List ImgSrc :=
  match b.rd .bootCtlNext 0, b.straps.img.toNat with
  | 1, _ => [.spiA, .spiB]
  | 2, _ => [.spiB, .spiA]
  | _, 0 => [.spiA, .spiB]
  | _, 1 => [.spiB, .spiA]
  | _, 2 => [.halter]
  | _, _ => []
/-- GRM_BOOT_STATUS.SOURCE of a source. -/
def srcCode : ImgSrc → Nat
  | .spiA => 0
  | .spiB => 1
  | .halter => 2
  | .recovery => 3
/-- The copy to be read next. -/
def Block.nextCopy (b : Block) : Option ImgSrc := b.copyOrder.find? (fun s => !b.boot.read.contains s)

/-- R342: recovery. Stall groups stay in Detect; those that trained early go back there. -/
def Block.recoveryIn (b : Block) : Block :=
  let b1 := b.each (List.range 224) (fun b l => if b.dlActive l then b.linkDown l false else b)
  ({ b1 with sg := ([], []), boot := { b1.boot with passed := none, reqs := [] } }.wr .bootSource 0 0 3).setStage 6

/-! ### The fetch over the ring (R372) -/

/-- Bytes an IMAGE_REQ asks for, so that the answer with its offset stays within LEN (the amount is a DESIGN CHOICE, log entry
56). -/
def Block.reqMax (b : Block) : Nat := if b.haltVer == 1 then 252 else 1020
/-- Requests that may be outstanding (R370). -/
def Block.reqLimit (b : Block) : Nat := if b.haltVer == 1 then 1 else 4

/-- An IMAGE_REQ frame. -/
def Block.imgReqSend (b : Block) (r : ImgReq) : Block := b.haltSend 5 (leBytes r.off 4 ++ leBytes r.len 2)

/-- Send IMAGE_REQs in ascending offsets up to the limit; until the header has come there is one. -/
def Block.imgPump (b : Block) : Nat → Block
  | 0 => b
  | n + 1 =>
    let k := b.boot.reqs.length
    let want := match b.boot.total with
      | none => if b.boot.next == 0 then b.reqMax else 0
      | some t => min b.reqMax (t - b.boot.next)
    if k ≥ b.reqLimit || want == 0 then b
    else
      let r : ImgReq := ⟨b.boot.next, want, 0⟩
      Block.imgPump ({ b with boot := { b.boot with reqs := b.boot.reqs ++ [r], next := b.boot.next + want } }.imgReqSend r) n

/-- IMAGE_DATA: data at an outstanding offset is taken; what a short answer leaves is asked for again. -/
def Block.imgData (b : Block) (off : Nat) (data : List Byte) : Block :=
  match b.boot.reqs.find? (fun r => r.off == off) with
  | none => b
  | some r =>
    let got := min data.length r.len
    let total := match b.boot.total with
      | some t => some t
      | none => if off == 0 && 12 ≤ got then some (leNat ((data.drop 8).take 4) + 5812) else none
    let rest : ImgReq := ⟨off + got, r.len - got, 0⟩
    let b1 := { b with boot := { b.boot with
      total := total, reqs := (b.boot.reqs.filter (fun (x : ImgReq) => x.off != off)) ++ (if got < r.len then [rest] else []) } }
    (if got < r.len then b1.imgReqSend rest else b1).imgPump 4

/-- IMAGE_REQ_TIMEOUT: the oldest request is repeated; after 64 repeats the fetch fails. -/
def Block.imgLate (b : Block) : Block :=
  match b.boot.reqs with
  | [] => b
  | r :: t =>
    if r.reps ≥ 64 then b.recoveryIn
    else { b with boot := { b.boot with reqs := t ++ [{ r with reps := r.reps + 1 }] } }.imgReqSend r

/-- The whole image has come over the ring. -/
def Block.imgWhole (b : Block) : Bool := b.boot.reqs.isEmpty && optD b.boot.total false (fun t => t ≤ b.boot.next)

/-! ### The boot -/

/-- The next copy is read, or recovery is entered. -/
def Block.readNext (b : Block) : Block :=
  match b.nextCopy with
  | none => b.recoveryIn
  | some .halter => ((b.wr .bootSource 0 0 2).setStage 2).imgPump 4
  | some s => (b.wr .bootSource 0 0 (srcCode s)).setStage 1

/-- BOOT_ROM_START (R27, R394): the boot ROM starts when a TTH_REFCLK input is within tolerance, and the core takes its reference
from the lowest-numbered one. With STRAP_TEST = 1 it stays there. -/
def Block.bootGo (b : Block) (good : Nat → Bool) : Block :=
  let refs : RefDyn := { b.refs with bad := (List.range 4).filter (fun t => !good t) }
  if b.pow.st != .on || b.boot.run || refs.lowest.isNone || b.grm.dead then b
  else
    let b1 := { b with
      boot := { b.boot with run := true }, tap := { b.tap with portOn := true }
      refs := { refs with core := refs.lowest, synth := b.refs.synth ++ refs.bad.filter (fun t => !b.refs.synth.contains t) } }
    if b.straps.test then (b1.setResult false 11).setResult true 11
    else ((b1.takeTree).wr .coreServices 0 0 1).readNext

/-- R344: the STALL_GROUPS section of the copy being read arrives. -/
def Block.groupsIn (b : Block) (gs : List GroupRec) (ds : List SDieRec) : Block :=
  if !(b.groomRuns && !b.straps.safe && (b.stage == 1 || b.stage == 2) && b.sg.1.isEmpty) then b
  else
    let b1 := { b with sg := (gs, ds) }.setStage 2
    b1.each (gs.map (·.g)) (fun b g => (b.grMod g (fun d => { d with form := b.rd .grpForm g })).clockIn g)

/-- Flash mode and clock as found (R335). -/
def Block.flashSeen (b : Block) (src : ImgSrc) (c : ImageCopy) : Block :=
  if !c.flashOk then b
  else match src with
    | .spiA => (b.wr .flashModeA 0 0 c.flashMode).wr .flashClkA 0 0 c.flashClk
    | .spiB => (b.wr .flashModeB 0 0 c.flashMode).wr .flashClkB 0 0 c.flashClk
    | _ => b

/-- IMAGE_COPY_CHECK (R338, R342): the RESULT of the copy just read; the other copy follows one that fails. -/
def Block.copyDone (b : Block) (src : ImgSrc) (c : ImageCopy) : Block :=
  if !(b.groomRuns && (b.stage == 1 || b.stage == 2 || b.stage == 3) && b.nextCopy == some src && (src != .halter || b.imgWhole)) then b
  else
    let n := b.checkCopy c
    let b1 := b.flashSeen src c
    let b2 := match src with
      | .spiA => b1.setResult false n
      | .spiB => b1.setResult true n
      | _ => b1
    let b3 := { b2 with boot := { b2.boot with read := b2.boot.read ++ [src] } }
    if n == 1 then ({ b3 with boot := { b3.boot with passed := some (c.body, src == ImgSrc.spiB) } }).setStage 4
    else if b3.nextCopy.isSome then (b3.wr .bootFallback 0 0 1).readNext
    else b3.readNext

/-- The settings of a group differ from those it was configured with. -/
def groupDiffers (old new : List GroupRec × List SDieRec) (g : Nat) : Bool :=
  old.1.find? (fun r => r.g == g) != new.1.find? (fun r => r.g == g) ||
    old.2.find? (fun r => r.d == g / 7) != new.2.find? (fun r => r.d == g / 7)

/-- IMAGE_READY (R13, R130, R343, R344, R347): the dies are loaded and the module reset completes. -/
def Block.ready (b : Block) : Block :=
  match b.boot.passed with
  | none => b
  | some (im, copyB) =>
    if !(b.groomRuns && b.stage == 4) then b
    else
      let old := b.sg
      let new := (im.groups, im.sdies)
      let b1 := ({ b with img := some im, sg := new, boot := { b.boot with passed := none } }).unset (fun (k : RKey) => k.fld.attr.rst == RstK.image)
      let b2 := b1.each (List.range 56) (fun b g =>
        let b' := if old.1.isEmpty then (b.grMod g (fun d => { d with form := b.rd .grpForm g })).clockIn g
          else if groupDiffers old new g then b.groupReset g else b
        if (b'.gr g).waits || (b'.gr g).barred then b'.grMod g (fun d => { d with waits := false, barred := false }) else b')
      let b3 := ((b2.bucketFill).wr .gaitTarget 0 0 (b2.gaitClamp (b2.rd .gaitTarget 0))).wr .bootCopy 0 0 (b2n copyB)
      let b4 := ({ b3 with grm := { b3.grm with leafKey := b3.freeCtr } }).useFree.setStage 5
      (b4.each (List.range 64) (fun b p =>
        if b.slotSt p == 0 && (b.pin p).prsnt && optD (b.portRec? p) false (·.autoOn) then b.powerOn p else b)).gaitFollow

/-- SVN_COMMIT (R341, R345): both counters advance to the running SVNs. -/
def Block.svnAdvance (b : Block) : Block :=
  match b.img with
  | none => b
  | some im =>
    if !b.groomReady then b
    else { b with fuses := { b.fuses with imgSvn := max b.fuses.imgSvn (min im.svn 256), fwSvn := max b.fuses.fwSvn (min im.fw.svn 128) } }

/-- IMAGE_ACTIVATION (R346, R292): NEXT names the new copy, and module reset follows. -/
def Block.activate (b : Block) (copyB : Bool) : Block :=
  if b.groomReady then (b.wr .bootCtlNext 0 0 (if copyB then 2 else 1)).askReset else b

/-! ### The commands -/

/-- BOOT_ROM_START (R394). -/
def execBootRomStart (s : State) (good : BitVec 4 := 15) : Host.Outcome State Fault Refusal := s.on (fun b => b.bootGo (fun t => bit good.toNat t))
/-- STALL_GROUPS_SECTION_ARRIVAL (R344). -/
def execStallGroupsSectionArrival (groups : List GroupRec) (sdies : List SDieRec) (s : State) : Host.Outcome State Fault Refusal :=
  s.on (fun b => b.groupsIn groups sdies)
/-- IMAGE_COPY_CHECK (R338). -/
def execImageCopyCheck (src : ImgSrc) (c : ImageCopy) (s : State) : Host.Outcome State Fault Refusal := s.on (fun b => b.copyDone src c)
/-- IMAGE_READY (R343). -/
def execImageReady (s : State) : Host.Outcome State Fault Refusal := s.on (fun b => b.ready)
/-- SVN_COMMIT (R341). -/
def execSvnCommit (s : State) : Host.Outcome State Fault Refusal := s.on (fun b => b.svnAdvance)
/-- IMAGE_ACTIVATION (R346). -/
def execImageActivation (copyB : Bool) (s : State) : Host.Outcome State Fault Refusal := s.on (fun b => b.activate copyB)
/-- LMS_TREE_READY (R348). -/
def execLmsTreeReady (s : State) : Host.Outcome State Fault Refusal := s.on (fun b => b.treeDone)
/-- IMAGE_DATA (R372). -/
def execImageData (off : Nat) (data : List Byte) (s : State) : Host.Outcome State Fault Refusal :=
  s.on (fun b => if b.groomRuns && b.inRing then b.imgData off data else b)
/-- IMAGE_REQ_TIMEOUT (R372). -/
def execImageReqTimeout (s : State) : Host.Outcome State Fault Refusal := s.on (fun b => if b.groomRuns then b.imgLate else b)

end Sys2Proof.Machine
end

