-- ==== Sys2Proof/Machine/Groom.lean ====
section
/-! DEFINITION. The Groom (R299, R355 to R366): lockstep takeover, the best-effort queue and load shedding, telemetry, management
services, image update, module reset. -/
namespace Sys2Proof.Machine

/-- Change the Groom's record. -/
def Block.gMod (b : Block) (g : GroomDyn → GroomDyn) : Block := { b with grm := g b.grm }

/-! ### Takeover (R299, R355, R356) -/

/-- The pair stops; the cores that pass their self-test are noted, and requests that were taken will be answered busy. With `wdt`, or
when both cores pass, the event is a stumble of class 4. -/
def Block.pairStop (b : Block) (ok0 ok1 wdt : Bool) : Block :=
  if !b.groomRuns then b
  else
    let pair := (List.range 3).filter (fun i => bit (b.rd .coreInPair 0) i)
    let oks := (pair.zip [ok0, ok1]).filterMap (fun x => if x.2 then some x.1 else none)
    let b1 := (b.wr .coreServices 0 0 0).incSat .coreTakeovers 0
    let (b2, lame) := if wdt || oks.length == 2 then b1.stumCount (.core 0) else (b1, false)
    b2.gMod (fun g => { g with stopped := true, okCores := oks, lamePair := lame, cut := g.cut ++ g.queue, queue := [] })

/-- The busy answer to a request, counted (Table 15.2). -/
def Block.busy (b : Block) (tr : Transport) : Block := (b.incSat .svcCntBusy 0).answer tr .busy

/-- R299: the pair that resumes: itself, or with the spare in the place of a core; none when two good cores are not left. -/
def nextPair (pair oks : List Nat) (lame : Bool) : Option (List Nat) :=
  if oks.length == 2 && !lame then some pair
  else if pair.contains 2 then none
  -- the corrected cache errors are no operand: they are taken as equal, and the tie goes to the lower core
  else oks.min?.map (fun i => [i, 2])

/-- GROOM_TAKEOVER_DONE (R299, R348, R356): a failed core is marked, the pair resumes and the requests of before are answered busy; with
no two good cores the services stay stopped. -/
def Block.takeover (b : Block) : Block :=
  if !b.grm.stopped then b
  else
    let pair := (List.range 3).filter (fun i => bit (b.rd .coreInPair 0) i)
    let bad := pair.filter (fun i => !b.grm.okCores.contains i)
    let b1 := b.each bad (fun b i => (b.setBits .coreFailed 0 0 (2 ^ i)).incSat .stumLame 0 4)
    let b2 := if bad.isEmpty && b.grm.lamePair then b1.incSat .stumLame 0 4 else b1
    match nextPair pair b.grm.okCores b.grm.lamePair with
    | none =>
      (b2.wr .coreInPair 0 0 (bitMap 3 (fun i => b.grm.okCores.contains i))).gMod (fun g => { g with
        stopped := false, dead := true, okCores := [], lamePair := false, cut := [] })
    | some np =>
      let b3 := (((b2.wr .coreInPair 0 0 (bitMap 3 (fun i => np.contains i))).wr .coreServices 0 0 1).gMod (fun g => { g with
        stopped := false, okCores := [], lamePair := false, cut := [] })).takeTree
      let b4 := b3.each b.grm.cut (fun b tr => b.busy tr)
      if b4.loom.stopped && b4.loom.lame.length ≥ 2 then b4.escalate (b4.loom.lame.getLastD 0) else b4.gaitUp

/-! ### The best-effort queue (R357 to R359) -/

/-- R359: SHED becomes 1 when the queue has reached SHED_DEPTH or its oldest request has waited 10 ms. -/
def Block.shedUp (b : Block) (oldestUs : Nat) : Block :=
  let n := b.grm.queue.length
  if !b.flag .loadShed 0 && n > 0 && (n ≥ b.rd .svcShedDepth 0 || oldestUs ≥ 10000) then
    (b.wr .loadShed 0 0 1).incSat .svcCntSheds 0
  else b

/-- R359: SHED becomes 0 when the queue holds fewer than SHED_DEPTH / 2 requests, the oldest for less than 1 ms. -/
def Block.shedDown (b : Block) (oldestUs : Nat) : Block :=
  let n := b.grm.queue.length
  if b.flag .loadShed 0 && 2 * n < b.rd .svcShedDepth 0 && (n == 0 || oldestUs < 1000) then b.wr .loadShed 0 0 0 else b

/-- Percent of a share over frames of 1 ms. -/
def share (fs : List (Nat × Nat × Nat)) (g : Nat × Nat × Nat → Nat) : Nat :=
  min 100 ((fs.map g).foldl (· + ·) 0 / (10 * max fs.length 1))

/-- GROOM_FRAME (R357, R359): a frame ends with the microseconds each class took; the shares of the last 100 follow. -/
def Block.frame (b : Block) (pt fh be oldest : Nat) : Block :=
  if !b.groomRuns then b
  else
    let fs := ((pt, fh, be) :: b.grm.frames).take 100
    let b1 := b.gMod (fun g => { g with frames := fs })
    ((((b1.wr .loadPtPct 0 0 (share fs (·.1))).wr .loadFhPct 0 0 (share fs (·.2.1))).wr .loadBePct 0 0 (share fs (·.2.2))).shedUp
      oldest).shedDown oldest

/-- Whether the services can take a request now; in Stand an SMBus transaction is handled as in Walk (R327). -/
def Block.svcUp (b : Block) (tr : Transport) : Bool :=
  (b.pow.st == .on || (b.pow.st == .stand && tr == .smbus)) && b.boot.run && !b.grm.stopped && !b.grm.dead && !b.straps.test

/-- A transport can carry a request at all. -/
def Block.carries (b : Block) (tr : Transport) : Bool :=
  match tr with
  | .smbus => b.inService
  | .halter => b.inService && b.inRing
  | .vdm l => b.dlActive l.val
  | .doe f => optD (b.fnRec? f.val) false (fun r => !r.vf && (b.dlActive r.link || optD r.standby false (fun l => b.dlActive l)))

/-- R356, R360, R362: a request that reaches the Groom. What the transport does not accept, or PCIe VDM while it is not offered, is
discarded and counted; `g` acts when the services run. -/
def Block.arrive (b : Block) (tr : Transport) (accepted : Bool) (g : Block → Block) : Block :=
  if !b.carries tr then b
  else
    let b1 := if tr == .smbus then b.standWake else b
    let vdm := match tr with | .vdm _ => true | _ => false
    if !b1.svcUp tr then (if tr == .halter then b1.incSat .haltCntDrop 0 else b1)
    else if vdm && !b1.flag .svcVdmEn 0 || !accepted then b1.incSat .svcCntRefused 0
    else g b1

/-- R358, R359: a request is served: from the queue when it was taken, or as it arrives unless load is being shed. -/
def Block.serve (b : Block) (tr : Transport) (accepted : Bool) (g : Block → Block) : Block :=
  b.arrive tr accepted (fun b =>
    if b.grm.queue.contains tr then
      (g (b.gMod (fun d => { d with queue := dropFirst (· == tr) d.queue }))).shedDown 0
    else if b.flag .loadShed 0 then b.busy tr
    else g b)

/-- A transport other than PCIe VDM and DOE: board firmware's. -/
def boardSide (tr : Transport) : Bool := tr == .smbus || tr == .halter
/-- A transport of MCTP. -/
def mctpSide (tr : Transport) : Bool := match tr with | .doe _ => false | _ => true

/-- Table 15.3: MCTP message types that a transport accepts. -/
def typeOk (tr : Transport) (ty : Nat) : Bool :=
  mctpSide tr && (ty == 0 || ty == 1 || ty == 5 || ty == 6 || (ty == 0x7E && boardSide tr))

/-- MCTP: one packet for the Groom joins the queue (R358), or is answered busy. -/
def Block.mctpIn (b : Block) (tr : Transport) (ty : Nat) : Block :=
  b.arrive tr (typeOk tr ty) (fun b =>
    if b.flag .loadShed 0 then b.busy tr else (b.gMod (fun d => { d with queue := d.queue ++ [tr] })).shedUp 0)

/-- DOE_REQUEST: the object in the mailbox joins the queue; DOE Discovery is answered. While shedding, DOE Busy shows (Table 15.2). -/
def Block.doeIn (b : Block) (f : FnIx) (obj : Nat) : Block :=
  b.arrive (.doe f) true (fun b =>
    if b.flag .loadShed 0 then (b.incSat .svcCntBusy 0).fnMod f.val (fun d => { d with doe := [] })
    else
      let ix := ((b.fn f.val).doe[2]?.getD 0) % 256
      let b1 := b.fnMod f.val (fun d => { d with doe := [] })
      if obj == 0 then b1.answer (.doe f) (.spdm (.doeDiscovery (if ix ≤ 2 then ix else 65535)))
      else if obj ≤ 2 then (b1.gMod (fun d => { d with queue := d.queue ++ [.doe f] })).shedUp 0
      else b1)

/-! ### Telemetry and sensors (R359, R364) -/

/-- Links DL_Active, ports ACTIVE, and lame units of all classes. -/
def Block.counts (b : Block) : Nat × Nat × Nat :=
  (((List.range 224).filter (fun l => b.dlActive l)).length, ((List.range 64).filter (fun p => b.active p)).length,
    (List.range 6).foldl (fun a c => a + b.rd .stumLame 0 c) 0)

/-- TELEMETRY_PERIOD_EXPIRY: the sensors take their values; the effective period doubles while SHED is 1, up to 16 times. -/
def Block.telemetry (b : Block) (vin iin : Nat) (temps : List Nat) : Block :=
  if !b.groomRuns then b
  else
    let tj := temps.foldl max 0
    let b1 := ((b.wr .telVinMv 0 0 vin).wr .telIin 0 0 iin).wr .thmTjMax 0 0 tj
    let c := b1.counts
    let vals := [b1.rd .telVinMv 0, b1.rd .telIin 0, b1.rd .telVinMv 0 * b1.rd .telIin 0 / 100000, b1.rd .thmTjMax 0,
      b1.rd .gaitCurrent 0] ++ (List.range 17).map (fun i => temps[i]?.getD 0) ++ [c.1, c.2.1, c.2.2]
    b1.gMod (fun g => { g with sensed := vals, telemMul := if b1.flag .loadShed 0 then min 16 (2 * g.telemMul) else 1 })

/-! ### Register access (R363, R366) -/

/-- Whether a run of dwords lies in the internal space (R33). -/
def accessOk (a n : Nat) : Bool := a % 4 == 0 && 1 ≤ n && n ≤ 16 && a + 4 * n ≤ 0x1100000000

/-- A READ: dwords in ascending order; RC fields are cleared. -/
def Block.regsRead (b : Block) (a : Nat) : Nat → List Nat → Block × List Nat
  | 0, acc => (b, acc.reverse)
  | n + 1, acc =>
    match internalReg a with
    | some r => Block.regsRead (b.regReadEff false r) (a + 4) n (b.regDword false r :: acc)
    | none => Block.regsRead b (a + 4) n (0 :: acc)

/-- HALT_CTRL.BYPASS (R373, R377): 1 closes the bypass. -/
def Block.bypassWrite (b : Block) (v : Bool) : Block :=
  let b1 := b.wr .haltBypass 0 0 (b2n v)
  if v then b1.bypassClose else b1

/-- A WRITE of one dword, with what its fields trigger. -/
def Block.internalWrite (b : Block) (a v : Nat) : Block :=
  match internalReg a with
  | none => b
  | some r =>
    match r.reg with
    | .pwrGait => (b.regWrite false r v (fun f _ => f != .gaitTarget)).targetWrite (v % 8)
    | .pwrBrownout => let b1 := b.regWrite false r v; if b1.narrowed then b1.linksNarrow else b1
    | .grmBootCtrl => let b1 := b.regWrite false r v; if bit v 2 then b1.svnAdvance else b1
    | .haltCtrl => b.bypassWrite (bit v 0)
    | .tthPortCtrl =>
      let b1 := (b.ttMod r.i (fun t => { t with portCfg := some (b.portCfg r.i) })).regWrite false r v
      if bit v 10 then b1.tthReset r.i else if bit v 9 then b1.tthLost r.i false else b1
    | _ => b.regWrite false r v

/-- REGISTER_ACCESS_READ. -/
def Block.accRead (b : Block) (tr : Transport) (a n : Nat) : Block :=
  b.serve tr (boardSide tr) (fun b =>
    if !accessOk a n then b.answer tr (.reg 2 [])
    else let x := b.regsRead a n []; x.1.answer tr (.reg 0 x.2))

/-- REGISTER_ACCESS_WRITE. During STAGE 0h to 4h it is refused. -/
def Block.accWrite (b : Block) (tr : Transport) (a : Nat) (ds : List Nat) : Block :=
  b.serve tr (boardSide tr) (fun b =>
    if !accessOk a ds.length then b.answer tr (.reg 2 [])
    else if b.stage ≤ 4 then b.answer tr (.reg 3 [])
    else (b.each (ds.zipIdx) (fun b x => b.internalWrite (a + 4 * x.2) x.1)).answer tr (.reg 0 []))

/-- MODULE_RESET (R363, R366): the status goes out first; a second one joins a reset that is deferred. -/
def Block.accReset (b : Block) (tr : Transport) : Block :=
  b.serve tr (boardSide tr) (fun b =>
    if b.grm.deferred then b.answer tr (.reg 3 []) else (b.answer tr (.reg 0 [])).askReset)

/-- PLDM_SENSOR_READ (R364). -/
def Block.sensorRead (b : Block) (tr : Transport) (n : Nat) : Block :=
  b.serve tr (mctpSide tr) (fun b =>
    if 1 ≤ n && n ≤ 25 then b.answer tr (.sensor (b.grm.sensed[n - 1]?.getD 0)) else b.answer tr (.pldm false))

/-- SET_ENDPOINT_ID (R360); IDs 1 to 254 can be assigned (PRESUMED from MCTP, log entry 27). -/
def Block.eidSet (b : Block) (tr : Transport) (e : Nat) : Block :=
  b.serve tr (mctpSide tr) (fun b =>
    if 1 ≤ e && e ≤ 254 then
      (b.gMod (fun g => { g with eids := (tr, e) :: g.eids.filter (fun x => x.1 != tr) })).answer tr (.eid e)
    else b.answer tr (.eid (optD (b.grm.eids.find? (fun x => x.1 == tr)) 0 (·.2))))

/-! ### Image update (R342, R346, R365, R366) -/

/-- The last transfer has come: the copy is read back and checked; in recovery a good one is followed by module reset. With blank
owner fuses recovery first provisions the owner key of an image whose signatures verify (R342). -/
def Block.updateEnd (b : Block) (tr : Transport) (copyB : Bool) (c : ImageCopy) : Block :=
  let b1 := b.gMod (fun g => { g with upd := none })
  let b2 := if b1.stage == 6 && b1.fuses.keyHash.isNone && c.flashOk && c.headerOk && c.ecdsaOk && c.hssOk then
      { b1 with fuses := { b1.fuses with keyHash := some c.keyHash } } else b1
  let n := b2.checkCopy c
  let b3 := (b2.setResult copyB n).answer tr (.pldm (n == 1))
  if n == 1 && b3.stage == 6 || b3.grm.deferred then b3.moduleReset else b3

/-- PLDM_TRANSFER: a transfer of 64 to 4,096 bytes to the copy that is not running. -/
def Block.pldm (b : Block) (tr : Transport) (copyB : Bool) (bytes : Nat) (last : Option ImageCopy) : Block :=
  b.serve tr (boardSide tr) (fun b =>
    if !(64 ≤ bytes && bytes ≤ 4096) || b.stage < 5 || (b.stage == 5 && b.flag .bootCopy 0 == copyB) || b.grm.deferred then
      b.answer tr (.pldm false)
    else
      let n := match b.grm.upd with
        | some u => if u.copyB == copyB then u.bytes + bytes else bytes
        | none => bytes
      let b1 := b.gMod (fun g => { g with upd := some ⟨tr, copyB, n⟩ })
      match last with
      | none => b1.answer tr (.pldm true)
      | some c => b1.updateEnd tr copyB c)

/-- PLDM_UPDATE_IDLE_EXPIRY: the update is abandoned; a reset that waited for it proceeds. -/
def Block.updateIdle (b : Block) : Block :=
  let b1 := b.gMod (fun g => { g with upd := none })
  if b1.grm.deferred then b1.moduleReset else b1

/-- DEFERRED_MODULE_RESET: the flash operation has ended, or 400 ms have passed. -/
def Block.deferredGo (b : Block) : Block := if b.grm.deferred then b.moduleReset else b

/-! ### The commands -/

/-- LOCKSTEP_MISMATCH (R299). -/
def execLockstepMismatch (core0Ok core1Ok : Bool) (s : State) : Host.Outcome State Fault Refusal :=
  s.on (fun b => b.pairStop core0Ok core1Ok false)
/-- GROOM_WATCHDOG_EXPIRY (R355). -/
def execGroomWatchdogExpiry (core0Ok core1Ok : Bool) (s : State) : Host.Outcome State Fault Refusal :=
  s.on (fun b => if b.groomRuns then (b.incSat .svcCntWdt 0).pairStop core0Ok core1Ok true else b)
/-- GROOM_TAKEOVER_DONE (R299). -/
def execGroomTakeoverDone (s : State) : Host.Outcome State Fault Refusal := s.on (fun b => b.takeover)
/-- GROOM_FRAME (R357). -/
def execGroomFrame (pt fh be oldestUs : Nat) (s : State) : Host.Outcome State Fault Refusal := s.on (fun b => b.frame pt fh be oldestUs)
/-- TELEMETRY_PERIOD_EXPIRY (R359). -/
def execTelemetryPeriodExpiry (vinMv iin : Nat) (temps : List Nat) (s : State) : Host.Outcome State Fault Refusal :=
  s.on (fun b => b.telemetry vinMv iin temps)
/-- PLDM_TRANSFER (R365). -/
def execPldmTransfer (tr : Transport) (copyB : Bool) (bytes : Nat) (last : Option ImageCopy) (s : State) :
    Host.Outcome State Fault Refusal := s.on (fun b => b.pldm tr copyB bytes last)
/-- PLDM_UPDATE_IDLE_EXPIRY (R365). -/
def execPldmUpdateIdleExpiry (s : State) : Host.Outcome State Fault Refusal := s.on (fun b => b.updateIdle)
/-- DEFERRED_MODULE_RESET (R366). -/
def execDeferredModuleReset (s : State) : Host.Outcome State Fault Refusal := s.on (fun b => b.deferredGo)
/-- DOE_REQUEST (R358). -/
def execDoeRequest (f : FnIx) (obj : Nat) (s : State) : Host.Outcome State Fault Refusal := s.on (fun b => b.doeIn f obj)
/-- SET_ENDPOINT_ID (R360). -/
def execSetEndpointId (tr : Transport) (eid : Nat) (s : State) : Host.Outcome State Fault Refusal := s.on (fun b => b.eidSet tr eid)
/-- REGISTER_ACCESS_READ (R363). -/
def execRegisterAccessRead (tr : Transport) (addr count : Nat) (s : State) : Host.Outcome State Fault Refusal :=
  s.on (fun b => b.accRead tr addr count)
/-- REGISTER_ACCESS_WRITE (R363). -/
def execRegisterAccessWrite (tr : Transport) (addr : Nat) (dwords : List (BitVec 32)) (s : State) : Host.Outcome State Fault Refusal :=
  s.on (fun b => b.accWrite tr addr (dwords.map (·.toNat)))
/-- MODULE_RESET (R363). -/
def execModuleReset (tr : Transport) (s : State) : Host.Outcome State Fault Refusal := s.on (fun b => b.accReset tr)
/-- PLDM_SENSOR_READ (R364). -/
def execPldmSensorRead (tr : Transport) (sensor : Nat) (s : State) : Host.Outcome State Fault Refusal :=
  s.on (fun b => b.sensorRead tr sensor)
/-- MCTP (R360, R369). -/
def execMctp (tr : Transport) (ty : Nat) (s : State) : Host.Outcome State Fault Refusal := s.on (fun b => b.mctpIn tr ty)
/-- DEBUG_UNLOCK (R375): the unlock object comes through register access over SMBus. -/
def execDebugUnlock (signatureOk : Bool) (s : State) : Host.Outcome State Fault Refusal :=
  s.on (fun b => b.serve .smbus true (fun b =>
    (if signatureOk then { b with tap := { b.tap with debug := true } } else b).answer .smbus (.reg 0 [])))
/-- BYPASS (R373). -/
def execBypass (v : Bool) (s : State) : Host.Outcome State Fault Refusal :=
  s.on (fun b => if b.inService then b.bypassWrite v else b)

end Sys2Proof.Machine
end

