-- ==== Sys2Proof/Machine/Halter.lean ====
section
/-! DEFINITION. The Halter ring (R367 to R374) and the JTAG port (R4, R375, R376). -/
namespace Sys2Proof.Machine

/-! ### The Halter ring -/

/-- The Halter port itself works: the module has power, in Stand too (R371), and the bypass is open. -/
def Block.haltLive (b : Block) : Bool := b.inService && b.inRing

/-- DISCOVER (R370): the version in use, and a STATUS is owed. -/
def Block.discovered (b : Block) (bmcMax : Nat) : Block :=
  if !b.haltLive then b
  else { b.wr .haltVersion 0 0 (max 1 (min 2 bmcMax)) with halt := { b.halt with disc := true, owed := true } }

/-- STATUS (R369 to R371): the frame that is owed goes out. -/
def Block.statusSend (b : Block) : Block :=
  if !(b.haltLive && b.halt.owed) then b
  else
    { b with halt := { b.halt with owed := false } }.haltSend 2
      ([1, 2, BitVec.ofNat 8 b.stage, BitVec.ofNat 8 (b.val .verStepping 0)] ++ leBytes (b.regDword false ⟨.grmBootStatus, 0, 0, 0⟩) 4)

/-- Frame types that are defined (Table 15.6). -/
def haltTypeOk (ty : Nat) : Bool := 1 ≤ ty && ty ≤ 6

/-- R367 to R369: a frame is taken. -/
def Block.frameTake (b : Block) (fr : HFrame) : Block :=
  if !(haltTypeOk fr.ty && fr.ver ≤ 2) then b.incSat .haltCntDrop 0
  else
    let b1 := if fr.src == b.straps.haltId.toNat then b.wr .haltDupId 0 0 1 else b
    match fr.ty with
    | 1 => b1.discovered ((fr.payload.headD 1).toNat)
    | 3 => b1.mctpIn .halter (((fr.payload[4]?).getD 0).toNat % 128)
    | 4 => b1.standWake
    | 6 => if b1.groomRuns then b1.imgData (leNat (fr.payload.take 4)) (fr.payload.drop 4) else b1
    | _ => b1

/-- HALTER_FRAME_FORWARD (R367): forwarded as it came, but for frames to the module and from it. -/
def Block.frameIn (b : Block) (fr : HFrame) : Block :=
  if !b.haltLive then b
  else if !fr.ok then (b.emit (.halt fr)).incSat .haltCntCrcFail 0
  else
    let me := b.straps.haltId.toNat
    let own := fr.src == me
    if fr.dst == me then b.frameTake fr
    else
      let b1 := if fr.dst == 0x7F then b.frameTake fr else b
      if own then b1 else b1.emit (.halt fr)

/-- HALTER_REJOIN (R373, R374): the bypass opens, once the boot ROM has enabled the port and unless HALT_CTRL.BYPASS holds it. A
fetch over the ring goes on. -/
def Block.rejoin (b : Block) : Block :=
  if b.inService && b.tap.portOn && !b.flag .haltBypass 0 && !b.inRing then
    let b1 := b.wr .haltInRing 0 0 1
    b1.each b1.boot.reqs (fun b r => b.imgReqSend r)
  else b

/-! ### JTAG -/

/-- R26, R376: the switch that joins JTAG_TDI to JTAG_TDO is closed: without VIN and VSTBY, from cold reset until the boot ROM enables
the port, in VSTBY hold, and after thermal shutdown. -/
def Block.jtagBypassed (b : Block) : Bool := !(b.inService && b.tap.portOn)
/-- The TAP is in the scan chain. -/
def Block.tapLive (b : Block) : Bool := !b.jtagBypassed

/-- An instruction is selected. -/
def Block.tapSet (b : Block) (i : TapIns) : Block := if b.tapLive then { b with tap := { b.tap with ins := i } } else b

/-- R4: the IDCODE. -/
def Block.idcode (b : Block) : Nat := b.val .verStepping 0 / 16 * 2 ^ 28 + 0x0896 * 2 ^ 12 + Config.manufacturerCode.toNat * 2 + 1

/-- JTAG_IDCODE: selected, and its 32 bits shift out, bit 0 first. -/
def Block.tapIdcode (b : Block) : Block :=
  if b.tapLive then (b.tapSet .idcode).emit (.tdo ((List.range 32).map (fun i => bit b.idcode i))) else b

/-- JTAG_SAMPLE_PRELOAD: the lands are captured and shifted out, or the boundary-scan register is loaded. -/
def Block.tapSample (b : Block) (load : Option (List Bool)) : Block :=
  if !b.tapLive then b
  else
    let b1 := b.tapSet .samplePreload
    match load with
    | some l => { b1 with tap := { b1.tap with bsr := l } }
    | none =>
      let c := Config.scanCapture b.freeCtr
      ({ b1 with tap := { b1.tap with bsr := c } }.useFree).emit (.tdo c)

/-! ### The commands -/

/-- HALTER_FRAME_FORWARD (R367). -/
def execHalterFrameForward (fr : HFrame) (s : State) : Host.Outcome State Fault Refusal := s.on (fun b => b.frameIn fr)
/-- DISCOVER (R370). -/
def execDiscover (bmcMax : Nat) (s : State) : Host.Outcome State Fault Refusal := s.on (fun b => b.discovered bmcMax)
/-- STATUS (R370). -/
def execStatus (s : State) : Host.Outcome State Fault Refusal := s.on (fun b => b.statusSend)
/-- WAKE (R327, R369). -/
def execWake (s : State) : Host.Outcome State Fault Refusal := s.on (fun b => if b.haltLive then b.standWake else b)
/-- HALTER_REJOIN (R374). -/
def execHalterRejoin (s : State) : Host.Outcome State Fault Refusal := s.on (fun b => b.rejoin)
/-- JTAG_BYPASS (R375): the bypass register is selected. -/
def execJtagBypass (s : State) : Host.Outcome State Fault Refusal := s.on (fun b => b.tapSet .bypass)
/-- JTAG_IDCODE (R4). -/
def execJtagIdcode (s : State) : Host.Outcome State Fault Refusal := s.on (fun b => b.tapIdcode)
/-- JTAG_SAMPLE_PRELOAD (R375). -/
def execJtagSamplePreload (load : Option (List Bool)) (s : State) : Host.Outcome State Fault Refusal := s.on (fun b => b.tapSample load)
/-- JTAG_EXTEST (R375): the signal lands are driven from the boundary-scan register. -/
def execJtagExtest (s : State) : Host.Outcome State Fault Refusal := s.on (fun b => b.tapSet .extest)
/-- JTAG_CLAMP (R375): the outputs hold while the bypass register is selected. -/
def execJtagClamp (s : State) : Host.Outcome State Fault Refusal := s.on (fun b => b.tapSet .clamp)
/-- JTAG_HIGHZ (R375): the outputs are in high impedance. -/
def execJtagHighz (s : State) : Host.Outcome State Fault Refusal := s.on (fun b => b.tapSet .highz)
/-- JTAG_EXTEST_PULSE (R375). -/
def execJtagExtestPulse (s : State) : Host.Outcome State Fault Refusal := s.on (fun b => b.tapSet .extestPulse)
/-- JTAG_EXTEST_TRAIN (R375). -/
def execJtagExtestTrain (s : State) : Host.Outcome State Fault Refusal := s.on (fun b => b.tapSet .extestTrain)
/-- JTAG_TRST_N_ASSERT (R391): the TAP is held in reset. -/
def execJtagTrstNAssert (s : State) : Host.Outcome State Fault Refusal := s.on (fun b => { b with tap := { b.tap with ins := .reset } })

end Sys2Proof.Machine
end

