-- ==== Sys2Proof/Machine/Trust.lean ====
section
/-! DEFINITION. Attestation with SPDM (R349 to R351), IDE_KM (R352) and TDISP (R353). The order in which SPDM takes its requests,
and its error codes, are SPDM's (PRESUMED, log entry 35). -/
namespace Sys2Proof.Machine

/-! ### Connections and sessions -/

/-- The connection of a transport. -/
def Block.conn (b : Block) (tr : Transport) : Conn := (b.grm.conns.find? (fun c => c.tr == tr)).getD { tr := tr }
/-- Change the connection of a transport. -/
def Block.connMod (b : Block) (tr : Transport) (g : Conn → Conn) : Block :=
  b.gMod (fun d => { d with conns := g (b.conn tr) :: d.conns.filter (fun c => c.tr != tr) })
/-- A session of a connection meets a condition. -/
def Block.sessIs (b : Block) (tr : Transport) (id : Nat) (p : Sess → Bool) : Bool :=
  b.grm.sess.any (fun s => s.tr == tr && s.id == id && p s)
/-- Change a session. -/
def Block.sessMod (b : Block) (tr : Transport) (id : Nat) (g : Sess → Sess) : Block :=
  b.gMod (fun d => { d with sess := mapIf (fun s => s.tr == tr && s.id == id) g d.sess })

/-- Answer an SPDM request. -/
def Block.spdm (b : Block) (tr : Transport) (r : SpdmRsp) : Block := b.answer tr (.spdm r)

/-- An SPDM request is served once the image is ready (R343), when its connection has come as far as `stage`; before that it is
unexpected (04h). -/
def Block.spdmServe (b : Block) (tr : Transport) (stage : Nat) (g : Block → Block) : Block :=
  b.serve tr true (fun b =>
    if b.stage != 5 then b
    else if (b.conn tr).stage < stage then b.spdm tr (.error 4)
    else g b)

/-- A signed response: its signature, and the digest that COUNTERSIGN will sign (R351). -/
def Block.signRsp (b : Block) (tr : Transport) (rsp : List Byte → SpdmRsp) : Block :=
  let sig := Config.cryptoBytes b.freeCtr
  let digest := Config.cryptoBytes (b.freeCtr + 1)
  ((b.useFree.useFree).connMod tr (fun c => { c with signed := some digest, stored := none })).spdm tr (rsp sig)

/-! ### Measurements (R350) -/

/-- Bytes that measurement 5 covers for one port. -/
def Block.portMeas (b : Block) (p : Nat) : List Byte :=
  if b.active p then
    leBytes (b.rd .xlbIdent p) 4 ++ leBytes (b.rd .xlbIdrev p) 2 ++ leBytes (b.rd .xlbVersion p) 1 ++
      leBytes (b.regVal false ⟨.tthXlbStatus, p, 0, 0⟩ / 256) 1
  else List.replicate 8 0

/-- The FIRMWARE envelope as bytes: its digest stands for it. -/
def Block.meas (b : Block) (n : Nat) : List Byte :=
  match n with
  | 1 => Config.bootRomDigest
  | 2 => optD b.img [] (fun im => im.fw.digest)
  | 3 => optD b.img [] (·.bodyDigest)
  | 4 => leBytes b.fuses.imgSvn 2 ++ leBytes b.fuses.fwSvn 2 ++ leBytes b.fuses.trees 2 ++ leBytes (b.regVal false ⟨.grmStraps, 0, 0, 0⟩) 2 ++
      leBytes (optD b.img 0 (·.svn)) 2 ++ leBytes (optD b.img 0 (fun im => im.fw.svn)) 2 ++ leBytes (b2n b.tap.debug) 4
  | _ => Config.sha384 ((List.range 64).flatMap (fun p => b.portMeas p))

/-- GET_MEASUREMENTS: index 0 asks for their number, FFh for all; the values are those of one instant. -/
def Block.getMeas (b : Block) (tr : Transport) (ix : Nat) : Block :=
  let vals := if ix == 0 then some [] else if ix == 255 then some [1, 2, 3, 4, 5] else if ix ≤ 5 then some [ix] else none
  match vals with
  | none => b.spdm tr (.error 1)
  | some l => b.signRsp tr (.measurements 5 (l.map (fun n => (n, b.meas n))))

/-! ### Requests -/

/-- GET_CERTIFICATE of a slot: only slot 0 holds a chain. -/
def Block.getCert (b : Block) (tr : Transport) (slot off len : Nat) : Block :=
  let chain := Config.certChain b.grm.leafKey
  if slot != 0 || off ≥ chain.length then b.spdm tr (.error 1)
  else
    let d := (chain.drop off).take len
    b.spdm tr (.certificate d (chain.length - off - d.length))

/-- KEY_EXCHANGE: 8 sessions per connection, 128 in all. -/
def Block.keyEx (b : Block) (tr : Transport) (slot : Nat) : Block :=
  if slot != 0 then b.spdm tr (.error 1)
  else if (b.grm.sess.filter (fun s => s.tr == tr)).length ≥ 8 || b.grm.sess.length ≥ 128 then b.spdm tr (.error 10)
  else
    let id := b.nextId
    (b.newId.gMod (fun d => { d with sess := d.sess ++ [⟨tr, id, false, 0⟩] })).signRsp tr (.keyExchangeRsp id)

/-- COUNTERSIGN (R348, R351). -/
def Block.counterSign (b : Block) (tr : Transport) : Block :=
  let c := b.conn tr
  match c.signed, c.stored with
  | none, _ => b.spdm tr (.countersigned 1 [] 0 [])
  | some d, some (tree, sig) => (b.connMod tr (fun c => { c with rest := sig })).spdm tr (.countersigned 0 d tree sig)
  | some d, none =>
    if !b.flag .lmsReady 0 then b.spdm tr (.countersigned (if b.grm.treeGen || b.fuses.trees < 1024 then 2 else 3) d 0 [])
    else
      let sig := Config.cryptoBytes b.freeCtr
      let tree := b.fuses.trees - 1
      let ix := b.rd .lmsIndex 0 + 1
      let b1 := (b.useFree.connMod tr (fun c => { c with stored := some (tree, sig), rest := sig })).spdm tr (.countersigned 0 d tree sig)
      if ix ≥ 2 ^ 20 then b1.takeTree else b1.wr .lmsIndex 0 0 ix

/-- CHUNK_GET: the next part of what is left of a large response. -/
def Block.chunkNext (b : Block) (tr : Transport) : Block :=
  let r := (b.conn tr).rest
  if r.isEmpty then b.spdm tr (.error 4)
  else
    let n := 1 + Config.chunkSize b.freeCtr
    (b.useFree.connMod tr (fun c => { c with rest := r.drop n })).spdm tr (.chunkResponse (r.take n))

/-! ### IDE_KM (R352) -/

/-- The request comes in an established session over the DOE mailbox of ARI function 0 of link l; a pair's mailbox is one, seen on both
its links (R302). -/
def Block.kmOk (b : Block) (tr : Transport) (session l : Nat) : Bool :=
  match tr with
  | .doe f => optD (b.linkF0 l) false (fun r => r.f == f.val) && b.sessIs tr session (·.est)
  | _ => false

/-- An IDE_KM request; in any other session it is answered with an error and changes nothing. -/
def Block.kmServe (b : Block) (tr : Transport) (session l : Nat) (g : Block → Block) : Block :=
  b.spdmServe tr 3 (fun b => if b.kmOk tr session l then g b else b.spdm tr (.error 2))

/-- Stream IDs of the stream blocks of link l (Table 9.4). -/
def Block.streamIds (b : Block) (l : Nat) : List Nat :=
  (streamId (b.ideReg l 3) :: (List.range 8).map (fun k => streamId (b.ideReg l (6 + 8 * k)))).dedup

/-- QUERY: the enabled streams, and whether each is Secure. -/
def Block.ideQuery (b : Block) (tr : Transport) (l : Nat) : Block :=
  b.spdm tr (.ideQuery (((b.streamIds l).filter (fun id => b.streamOn l id)).map (fun id => (id, b.streamIs l id (·.secure)))))

/-- Change a stream's record, making one for a stream that has none. -/
def Block.strMod (b : Block) (l id : Nat) (g : IdeStr → IdeStr) : Block :=
  b.lkMod l (fun k => { k with ide := if k.ide.any (fun s => s.id == id) then mapIf (fun s => s.id == id) g k.ide else k.ide ++ [g ⟨id, [], false, false⟩] })

/-- A key with a place. -/
def IdeKey.at' (x : IdeKey) (sub : Nat) (tx k : Bool) : Bool := x.sub == sub && x.tx == tx && x.k == k

/-- KEY_PROG: a key set is programmed; it is not yet in use. -/
def Block.keyProg (b : Block) (tr : Transport) (l id sub : Nat) (tx k : Bool) : Block :=
  if !(b.streamIds l).contains id then b.spdm tr (.ideAck false)
  else
    (b.strMod l id (fun s => { s with keys := s.keys.filter (fun x => !(x.at' sub tx k)) ++ [⟨sub, tx, k, false⟩] })).spdm tr (.ideAck true)

/-- K_SET_GO: a programmed key set is put into use; with all of them in use the stream is Secure, and what it held goes out. -/
def Block.keyGo (b : Block) (tr : Transport) (l id sub : Nat) (tx k : Bool) : Block :=
  if !b.streamIs l id (fun s => s.keys.any (fun x => x.at' sub tx k)) then b.spdm tr (.ideAck false)
  else
    let b1 := (b.strMod l id (fun s => { s with keys := mapIf (fun x => x.at' sub tx k) (fun x => { x with go := true }) s.keys })).secureJudge l id
    let b2 := b1.spdm tr (.ideAck true)
    if !b.streamIs l id (·.secure) && b2.streamIs l id (·.secure) then
      (b2.linkGo l).each (b2.onStream l id) (fun b f => b.pendFlush f)
    else b2

/-- K_SET_STOP: a key set goes out of use; a stream left without one leaves the Secure state (R236). -/
def Block.keyStop (b : Block) (tr : Transport) (l id sub : Nat) (tx k : Bool) : Block :=
  if !b.streamIs l id (fun s => s.keys.any (fun x => x.at' sub tx k)) then b.spdm tr (.ideAck false)
  else
    let b1 := b.strMod l id (fun s => { s with keys := s.keys.filter (fun x => !(x.at' sub tx k)) })
    (if b1.streamIs l id (fun s => s.secure && !s.keyed) then b1.ideFail l id else b1).spdm tr (.ideAck true)

/-! ### TDISP (R353) -/

/-- The request comes in an established session over the DOE mailbox of a PF of the link of f. -/
def Block.tdiSession (b : Block) (tr : Transport) (session f : Nat) : Bool :=
  match tr with
  | .doe g => b.fnExists f && optD (b.fnRec? g.val) false (fun r => !r.vf) && b.actLink g.val == b.actLink f && b.sessIs tr session (·.est)
  | _ => false

/-- A TDISP request for the TDI of f; one of a function without SECURE is invalid. -/
def Block.tdiServe (b : Block) (tr : Transport) (session f : Nat) (g : Block → Block) : Block :=
  b.spdmServe tr 3 (fun b =>
    if !b.tdiSession tr session f then b.spdm tr (.error 2)
    else if !b.mode f 8 then b.spdm tr (.tdispAck false)
    else g b)

/-- R353: the conditions of a lock. -/
def Block.lockOk (b : Block) (f : Nat) : Bool :=
  b.rd .tdiState f == 0 && (b.fn f).flr.isNone && b.selSecure f && b.active (b.portOf f) && !b.fenced (b.portOf f)

/-- LOCK_INTERFACE_REQUEST. -/
def Block.tdiLock (b : Block) (tr : Transport) (f : Nat) : Block :=
  if b.lockOk f then
    (((b.wr .tdiState f 0 1).wr .tdiIdent f 0 (b.rd .xlbIdent (b.portOf f))).wr .tdiIdrev f 0 (b.rd .xlbIdrev (b.portOf f))).spdm tr (.tdispAck true)
  else b.spdm tr (.tdispAck false)

/-- START_INTERFACE_REQUEST. -/
def Block.tdiStart (b : Block) (tr : Transport) (f : Nat) : Block :=
  if b.rd .tdiState f == 1 then (b.wr .tdiState f 0 2).spdm tr (.tdispAck true) else b.spdm tr (.tdispAck false)

/-- STOP_INTERFACE_REQUEST: a function reset; the response follows when the drain ends. -/
def Block.tdiStop (b : Block) (tr : Transport) (f : Nat) : Block :=
  if b.rd .tdiState f == 0 then b.spdm tr (.tdispAck true)
  else ((b.vfsReset f).flrBegin f false).fnMod f (fun d => { d with stopRsp := some tr })

/-- Base of a memory BAR of f: its own, or its place in the VF BAR of its PF (R88). -/
def Block.barBase (b : Block) (r : FnRec) (own vf : Fld) (n : Nat) : Nat :=
  let j := b.actSet r.f
  if r.vf then b.rd vf r.parent j + (b.vfNumOf r - 1) * max (2 ^ n) (4096 * b.rd .vfSysPage r.parent j) else b.rd own r.f j

/-- GET_DEVICE_INTERFACE_REPORT: the MMIO ranges, and the identity fields. -/
def Block.tdiReport (b : Block) (tr : Transport) (f : Nat) : Block :=
  match b.fnRec? f with
  | none => b.spdm tr (.error 2)
  | some r =>
    if !b.tdiOn f then b.spdm tr (.tdispAck false)
    else
      let subs := fun (winB : Bool) => ((List.range 8).filterMap (fun s => b.subWin f winB s)).filterMap (fun w =>
        if bit w.attr 0 then
          some ((if winB then b.barBase r .cfgBar4 .vfBar4 r.bar4 else b.barBase r .cfgBar2 .vfBar2 r.bar2) + w.off, w.size)
        else none)
      let rom := if romLog2 r == 0 || r.vf then [] else [(b.rd .cfgRomBar f (b.actSet f), 2 ^ romLog2 r)]
      let w := fun (reg : Reg) => b.regVal true ⟨reg, f, 0, 0⟩
      b.spdm tr (.report ((b.barBase r .cfgBar0 .vfBar0 21, 2 ^ 21) :: (subs false ++ subs true ++ rom))
        [w .fcpIdent, w .fcpBinding, w .fcpModes, w .fcpDesignId, w .fcpDesignRev, b.rd .tdiIdent f, b.rd .tdiIdrev f])

/-! ### The commands -/

/-- GET_VERSION (R349): versions 1.2 and 1.3; the connection starts anew. -/
def execGetVersion (tr : Transport) (s : State) : Host.Outcome State Fault Refusal :=
  s.on (fun b => b.spdmServe tr 0 (fun b => (b.connMod tr (fun _ => { tr := tr, stage := 1 })).spdm tr (.version [0x12, 0x13])))
/-- GET_CAPABILITIES (R349). -/
def execGetCapabilities (tr : Transport) (s : State) : Host.Outcome State Fault Refusal :=
  s.on (fun b => b.spdmServe tr 1 (fun b => (b.connMod tr (fun c => { c with stage := max c.stage 2 })).spdm tr .capabilities))
/-- NEGOTIATE_ALGORITHMS (R349). -/
def execNegotiateAlgorithms (tr : Transport) (s : State) : Host.Outcome State Fault Refusal :=
  s.on (fun b => b.spdmServe tr 2 (fun b => (b.connMod tr (fun c => { c with stage := 3 })).spdm tr .algorithms))
/-- GET_DIGESTS (R349): the digest of the slot 0 chain. -/
def execGetDigests (tr : Transport) (s : State) : Host.Outcome State Fault Refusal :=
  s.on (fun b => b.spdmServe tr 3 (fun b => b.spdm tr (.digests (Config.sha384 (Config.certChain b.grm.leafKey)))))
/-- GET_CERTIFICATE (R349). -/
def execGetCertificate (tr : Transport) (slot off len : Nat) (s : State) : Host.Outcome State Fault Refusal :=
  s.on (fun b => b.spdmServe tr 3 (fun b => b.getCert tr slot off len))
/-- CHALLENGE (R349). -/
def execChallenge (tr : Transport) (slot : Nat) (s : State) : Host.Outcome State Fault Refusal :=
  s.on (fun b => b.spdmServe tr 3 (fun b => if slot == 0 then b.signRsp tr .challengeAuth else b.spdm tr (.error 1)))
/-- GET_MEASUREMENTS (R350). -/
def execGetMeasurements (tr : Transport) (index : Nat) (s : State) : Host.Outcome State Fault Refusal :=
  s.on (fun b => b.spdmServe tr 3 (fun b => b.getMeas tr index))
/-- KEY_EXCHANGE (R349). -/
def execKeyExchange (tr : Transport) (slot : Nat) (s : State) : Host.Outcome State Fault Refusal :=
  s.on (fun b => b.spdmServe tr 3 (fun b => b.keyEx tr slot))
/-- FINISH (R349). -/
def execFinish (tr : Transport) (session : Nat) (s : State) : Host.Outcome State Fault Refusal :=
  s.on (fun b => b.spdmServe tr 3 (fun b =>
    if b.sessIs tr session (fun x => !x.est) then (b.sessMod tr session (fun x => { x with est := true })).spdm tr .finishRsp
    else b.spdm tr (.error 2)))
/-- KEY_UPDATE (R349). -/
def execKeyUpdate (tr : Transport) (session : Nat) (s : State) : Host.Outcome State Fault Refusal :=
  s.on (fun b => b.spdmServe tr 3 (fun b =>
    if b.sessIs tr session (·.est) then (b.sessMod tr session (fun x => { x with gen := x.gen + 1 })).spdm tr .keyUpdateAck
    else b.spdm tr (.error 2)))
/-- HEARTBEAT (R349). -/
def execHeartbeat (tr : Transport) (session : Nat) (s : State) : Host.Outcome State Fault Refusal :=
  s.on (fun b => b.spdmServe tr 3 (fun b => b.spdm tr (if b.sessIs tr session (·.est) then .heartbeatAck else .error 2)))
/-- END_SESSION (R352): no IDE key is erased. -/
def execEndSession (tr : Transport) (session : Nat) (s : State) : Host.Outcome State Fault Refusal :=
  s.on (fun b => b.spdmServe tr 3 (fun b =>
    if b.sessIs tr session (·.est) then
      (b.gMod (fun d => { d with sess := d.sess.filter (fun x => !(x.tr == tr && x.id == session)) })).spdm tr .endSessionAck
    else b.spdm tr (.error 2)))
/-- CHUNK_SEND (R349). -/
def execChunkSend (tr : Transport) (last : Bool) (s : State) : Host.Outcome State Fault Refusal :=
  s.on (fun b => b.spdmServe tr 3 (fun b =>
    (b.connMod tr (fun c => { c with chunks := if last then 0 else c.chunks + 1 })).spdm tr (.chunkSendAck last)))
/-- CHUNK_GET (R349). -/
def execChunkGet (tr : Transport) (s : State) : Host.Outcome State Fault Refusal :=
  s.on (fun b => b.spdmServe tr 3 (fun b => b.chunkNext tr))
/-- COUNTERSIGN (R351). -/
def execCountersign (tr : Transport) (s : State) : Host.Outcome State Fault Refusal :=
  s.on (fun b => b.spdmServe tr 3 (fun b => b.counterSign tr))
/-- GET_HSS_CHAIN (R351). -/
def execGetHssChain (tr : Transport) (off len : Nat) (s : State) : Host.Outcome State Fault Refusal :=
  s.on (fun b => b.spdmServe tr 3 (fun b =>
    if 1 ≤ len && len ≤ 1024 then b.spdm tr (.hssChain Config.hssChain.length ((Config.hssChain.drop off).take len))
    else b.spdm tr (.error 1)))
/-- GET_HSS_STATE (R351). -/
def execGetHssState (tr : Transport) (s : State) : Host.Outcome State Fault Refusal :=
  s.on (fun b => b.spdmServe tr 3 (fun b => b.spdm tr (.hssState b.fuses.trees (b.rd .lmsReady 0))))
/-- QUERY (R352). -/
def execQuery (tr : Transport) (session : Nat) (l : LinkIx) (s : State) : Host.Outcome State Fault Refusal :=
  s.on (fun b => b.kmServe tr session l.val (fun b => b.ideQuery tr l.val))
/-- KEY_PROG (R352). -/
def execKeyProg (tr : Transport) (session : Nat) (l : LinkIx) (stream : Nat) (sub : Fin 3) (tx keySet : Bool) (s : State) :
    Host.Outcome State Fault Refusal :=
  s.on (fun b => b.kmServe tr session l.val (fun b => b.keyProg tr l.val stream sub.val tx keySet))
/-- K_SET_GO (R352). -/
def execKSetGo (tr : Transport) (session : Nat) (l : LinkIx) (stream : Nat) (sub : Fin 3) (tx keySet : Bool) (s : State) :
    Host.Outcome State Fault Refusal :=
  s.on (fun b => b.kmServe tr session l.val (fun b => b.keyGo tr l.val stream sub.val tx keySet))
/-- K_SET_STOP (R352). -/
def execKSetStop (tr : Transport) (session : Nat) (l : LinkIx) (stream : Nat) (sub : Fin 3) (tx keySet : Bool) (s : State) :
    Host.Outcome State Fault Refusal :=
  s.on (fun b => b.kmServe tr session l.val (fun b => b.keyStop tr l.val stream sub.val tx keySet))
/-- LOCK_INTERFACE_REQUEST (R353). -/
def execLockInterfaceRequest (tr : Transport) (session : Nat) (f : FnIx) (s : State) : Host.Outcome State Fault Refusal :=
  s.on (fun b => b.tdiServe tr session f.val (fun b => b.tdiLock tr f.val))
/-- START_INTERFACE_REQUEST (R353). -/
def execStartInterfaceRequest (tr : Transport) (session : Nat) (f : FnIx) (s : State) : Host.Outcome State Fault Refusal :=
  s.on (fun b => b.tdiServe tr session f.val (fun b => b.tdiStart tr f.val))
/-- STOP_INTERFACE_REQUEST (R353). -/
def execStopInterfaceRequest (tr : Transport) (session : Nat) (f : FnIx) (s : State) : Host.Outcome State Fault Refusal :=
  s.on (fun b => b.tdiServe tr session f.val (fun b => b.tdiStop tr f.val))
/-- GET_DEVICE_INTERFACE_REPORT (R353). -/
def execGetDeviceInterfaceReport (tr : Transport) (session : Nat) (f : FnIx) (s : State) : Host.Outcome State Fault Refusal :=
  s.on (fun b => b.tdiServe tr session f.val (fun b => b.tdiReport tr f.val))

end Sys2Proof.Machine
end

