-- ==== Sys2Proof/Machine/Dispatch.lean ====
section
/-! DEFINITION. One arm per command: each calls its meaning. -/
namespace Sys2Proof.Machine

/-- The effect of a command on everything but the queue. -/
def exec (i : Instr) (s : State) : Host.Outcome State Fault Refusal :=
  match i with
  | .vinPowerUp straps vstbyOk => Sys2Proof.Machine.execVinPowerUp straps vstbyOk s
  | .vstbyPowerUp straps => Sys2Proof.Machine.execVstbyPowerUp straps s
  | .vinUvloFall => Sys2Proof.Machine.execVinUvloFall s
  | .vinOvloRise => Sys2Proof.Machine.execVinOvloRise s
  | .vinReturn => Sys2Proof.Machine.execVinReturn s
  | .vstbyLoss => Sys2Proof.Machine.execVstbyLoss s
  | .brownoutEntry vinMv iin => Sys2Proof.Machine.execBrownoutEntry vinMv iin s
  | .brownoutExit => Sys2Proof.Machine.execBrownoutExit s
  | .droopWindowOpen => Sys2Proof.Machine.execDroopWindowOpen s
  | .droopWindowClose => Sys2Proof.Machine.execDroopWindowClose s
  | .droopMaxExpiry => Sys2Proof.Machine.execDroopMaxExpiry s
  | .droopEarlyRelease p => Sys2Proof.Machine.execDroopEarlyRelease p s
  | .gaitTargetWrite target => Sys2Proof.Machine.execGaitTargetWrite target s
  | .gaitUpshiftStep => Sys2Proof.Machine.execGaitUpshiftStep s
  | .gaitOccupancyWindow gbps => Sys2Proof.Machine.execGaitOccupancyWindow gbps s
  | .thermalThrottleStep tj => Sys2Proof.Machine.execThermalThrottleStep tj s
  | .thermalRaise tj => Sys2Proof.Machine.execThermalRaise tj s
  | .thermalTrip => Sys2Proof.Machine.execThermalTrip s
  | .thermalTripEnd => Sys2Proof.Machine.execThermalTripEnd s
  | .thermalShutdown => Sys2Proof.Machine.execThermalShutdown s
  | .thermalRestart => Sys2Proof.Machine.execThermalRestart s
  | .standEntry => Sys2Proof.Machine.execStandEntry s
  | .pmeTurnOff l => Sys2Proof.Machine.execPmeTurnOff l s
  | .slotPowerOnRequest via v => Sys2Proof.Machine.execSlotPowerOnRequest via v s
  | .slotPowerOffRequest via v => Sys2Proof.Machine.execSlotPowerOffRequest via v s
  | .slotReset via v => Sys2Proof.Machine.execSlotReset via v s
  | .slotPowerEnable p => Sys2Proof.Machine.execSlotPowerEnable p s
  | .tthPwrgdRise p => Sys2Proof.Machine.execTthPwrgdRise p s
  | .pwrgdMsExpiry p => Sys2Proof.Machine.execPwrgdMsExpiry p s
  | .prstDelayExpiry p => Sys2Proof.Machine.execPrstDelayExpiry p s
  | .slotPowerOffDelayExpiry p => Sys2Proof.Machine.execSlotPowerOffDelayExpiry p s
  | .poweringOffDone p => Sys2Proof.Machine.execPoweringOffDone p s
  | .tthPrsntInsertion p => Sys2Proof.Machine.execTthPrsntInsertion p s
  | .tthPrsntRemoval p => Sys2Proof.Machine.execTthPrsntRemoval p s
  | .tthPwrgdFall p => Sys2Proof.Machine.execTthPwrgdFall p s
  | .tthAtnbtnPress p => Sys2Proof.Machine.execTthAtnbtnPress p s
  | .tthPrstNLow p => Sys2Proof.Machine.execTthPrstNLow p s
  | .tetherResetRelease p => Sys2Proof.Machine.execTetherResetRelease p s
  | .portReset p => Sys2Proof.Machine.execPortReset p s
  | .retrain p => Sys2Proof.Machine.execRetrain p s
  | .stlPerstNAssert g => Sys2Proof.Machine.execStlPerstNAssert g s
  | .stlPerstNDeassert g => Sys2Proof.Machine.execStlPerstNDeassert g s
  | .stlRefclkLoss d => Sys2Proof.Machine.execStlRefclkLoss d s
  | .tthRefclkLoss t => Sys2Proof.Machine.execTthRefclkLoss t s
  | .coreRefclkLoss t => Sys2Proof.Machine.execCoreRefclkLoss t s
  | .bootRomStart good => Sys2Proof.Machine.execBootRomStart s good
  | .linkDlUp l u => Sys2Proof.Machine.execLinkDlUp l u s
  | .linkLoss l => Sys2Proof.Machine.execLinkLoss l s
  | .hotReset l => Sys2Proof.Machine.execHotReset l s
  | .linkDisable l => Sys2Proof.Machine.execLinkDisable l s
  | .stumble u atOnce selfTestFailed also => Sys2Proof.Machine.execStumble u atOnce selfTestFailed s also
  | .fomRetireWindowExpiry r also => Sys2Proof.Machine.execFomRetireWindowExpiry r s also
  | .l0pPartnerRequest l w => Sys2Proof.Machine.execL0pPartnerRequest l w s
  | .l0pAcceptance l => Sys2Proof.Machine.execL0pAcceptance l s
  | .l0pOccupancyInterval l tx rx waited obs => Sys2Proof.Machine.execL0pOccupancyInterval l tx rx waited s obs
  | .aspmIdleExpiry l => Sys2Proof.Machine.execAspmIdleExpiry l s
  | .clkreqAssert g => Sys2Proof.Machine.execClkreqAssert g s
  | .marginingCommand l lane ty payload => Sys2Proof.Machine.execMarginingCommand l lane ty payload s
  | .ideCheckFail l stream => Sys2Proof.Machine.execIdeCheckFail l stream s
  | .pairedDetectExpiry l => Sys2Proof.Machine.execPairedDetectExpiry l s
  | .failoverSwitch l => Sys2Proof.Machine.execFailoverSwitch l s
  | .configRead l fno off req stream => Sys2Proof.Machine.execConfigRead l fno off req s stream
  | .configWrite l fno off en v bus req stream => Sys2Proof.Machine.execConfigWrite l fno off en v bus req s stream
  | .busMasterEnableWrite f alt v => Sys2Proof.Machine.execBusMasterEnableWrite f alt v s
  | .bmeClearEffect f => Sys2Proof.Machine.execBmeClearEffect f s
  | .bmeSetEffect f => Sys2Proof.Machine.execBmeSetEffect f s
  | .initiateFunctionLevelReset f alt => Sys2Proof.Machine.execInitiateFunctionLevelReset f alt s
  | .flrDrainEnd f => Sys2Proof.Machine.execFlrDrainEnd f s
  | .flrBoundExpiry f => Sys2Proof.Machine.execFlrBoundExpiry f s
  | .vfEnableClear f alt => Sys2Proof.Machine.execVfEnableClear f alt s
  | .vfEnableSet f alt => Sys2Proof.Machine.execVfEnableSet f alt s
  | .numvfsWrite f alt v => Sys2Proof.Machine.execNumvfsWrite f alt v s
  | .barWrite f alt b v => Sys2Proof.Machine.execBarWrite f alt b v s
  | .atsEnableClear f alt => Sys2Proof.Machine.execAtsEnableClear f alt s
  | .pasidEnableClear f alt => Sys2Proof.Machine.execPasidEnableClear f alt s
  | .stuWrite f alt v => Sys2Proof.Machine.execStuWrite f alt v s
  | .ltrMechanismEnableSet l => Sys2Proof.Machine.execLtrMechanismEnableSet l s
  | .d3hotEntry f => Sys2Proof.Machine.execD3hotEntry f s
  | .d0Return f => Sys2Proof.Machine.execD0Return f s
  | .deliveryFormChange f alt msixEn msiEn => Sys2Proof.Machine.execDeliveryFormChange f alt msixEn msiEn s
  | .interruptDisableWrite f alt v => Sys2Proof.Machine.execInterruptDisableWrite f alt v s
  | .hostWindowRead r => Sys2Proof.Machine.execHostWindowRead r s
  | .hostWindowWrite r => Sys2Proof.Machine.execHostWindowWrite r s
  | .hostWindowAtomic r op => Sys2Proof.Machine.execHostWindowAtomic r op s
  | .hostRomRead r => Sys2Proof.Machine.execHostRomRead r s
  | .fcpRead r => Sys2Proof.Machine.execFcpRead r s
  | .registerWrite r => Sys2Proof.Machine.execRegisterWrite r s
  | .fcpErrConsWrite f v => Sys2Proof.Machine.execFcpErrConsWrite f v s
  | .prefetchAgeExpiry f e => Sys2Proof.Machine.execPrefetchAgeExpiry f e s
  | .prefetchHoldExpiry f e => Sys2Proof.Machine.execPrefetchHoldExpiry f e s
  | .forget f => Sys2Proof.Machine.execForget f s
  | .pgoWrite f off v => Sys2Proof.Machine.execPgoWrite f off v s
  | .reinsOutWrite f v => Sys2Proof.Machine.execReinsOutWrite f v s
  | .reinsSend p => Sys2Proof.Machine.execReinsSend p s
  | .interruptFenceRelease p => Sys2Proof.Machine.execInterruptFenceRelease p s
  | .hostAck l n => Sys2Proof.Machine.execHostAck l n s
  | .hostCompletion l f tag st data ep stream => Sys2Proof.Machine.execHostCompletion l f tag st data ep s stream
  | .completionTimeout f tag => Sys2Proof.Machine.execCompletionTimeout f tag s
  | .hostTagQuarantineExpiry f tag => Sys2Proof.Machine.execHostTagQuarantineExpiry f tag s
  | .translationCompletion f tag d => Sys2Proof.Machine.execTranslationCompletion f tag d s
  | .invalidateRequest f itag addr size pasid global stream => Sys2Proof.Machine.execInvalidateRequest f itag addr size pasid global s stream
  | .invalidateCompletion f => Sys2Proof.Machine.execInvalidateCompletion f s
  | .localMasterRd p h kind => Sys2Proof.Machine.execLocalMasterRd p h kind s
  | .localMasterWr p h => Sys2Proof.Machine.execLocalMasterWr p h s
  | .localMasterWrf p h => Sys2Proof.Machine.execLocalMasterWrf p h s
  | .localMasterAtm p h op sz => Sys2Proof.Machine.execLocalMasterAtm p h op sz s
  | .localMasterFlush p h => Sys2Proof.Machine.execLocalMasterFlush p h s
  | .localMasterNop p h => Sys2Proof.Machine.execLocalMasterNop p h s
  | .flushAnswer p => Sys2Proof.Machine.execFlushAnswer p s
  | .rspDone p tag code cause pvec data => Sys2Proof.Machine.execRspDone p tag code cause pvec data s
  | .rspDonePoison p tag cause pvec data => Sys2Proof.Machine.execRspDonePoison p tag cause pvec data s
  | .rspFault p tag cause => Sys2Proof.Machine.execRspFault p tag cause s
  | .rspNotarget p tag cause => Sys2Proof.Machine.execRspNotarget p tag cause s
  | .rspSidefx p tag cause => Sys2Proof.Machine.execRspSidefx p tag cause s
  | .rspRetry p tag cause => Sys2Proof.Machine.execRspRetry p tag cause s
  | .rspSize p tag cause => Sys2Proof.Machine.execRspSize p tag cause s
  | .rspSidefxDone p tag cause pvec data => Sys2Proof.Machine.execRspSidefxDone p tag cause pvec data s
  | .xlbRequestTimeout p rid => Sys2Proof.Machine.execXlbRequestTimeout p rid s
  | .retryGapExpiry p tag => Sys2Proof.Machine.execRetryGapExpiry p tag s
  | .xlbTagQuarantineExpiry p tag => Sys2Proof.Machine.execXlbTagQuarantineExpiry p tag s
  | .lines p kind fn level => Sys2Proof.Machine.execLines p kind fn level s
  | .reins p fn value => Sys2Proof.Machine.execReins p fn value s
  | .event p fn code payload => Sys2Proof.Machine.execEvent p fn code payload s
  | .vendor p fn vid code payload => Sys2Proof.Machine.execVendor p fn vid code payload s
  | .caps p c => Sys2Proof.Machine.execCaps p c s
  | .credit p kind cls fn count => Sys2Proof.Machine.execCredit p kind cls fn count s
  | .pad p => Sys2Proof.Machine.execPad p s
  | .release f => Sys2Proof.Machine.execRelease f s
  | .capsAbandon p => Sys2Proof.Machine.execCapsAbandon p s
  | .tetherReceiverDetect p found => Sys2Proof.Machine.execTetherReceiverDetect p found s
  | .trainingBlock p lane bytes eyes => Sys2Proof.Machine.execTrainingBlock p lane bytes s eyes
  | .adaptPresetDwellExpiry p lane eyes => Sys2Proof.Machine.execAdaptPresetDwellExpiry p lane eyes s
  | .tetherStateLimitExpiry p => Sys2Proof.Machine.execTetherStateLimitExpiry p s
  | .symbolLock p => Sys2Proof.Machine.execSymbolLock p s
  | .deskewDone p => Sys2Proof.Machine.execDeskewDone p s
  | .capsResend p => Sys2Proof.Machine.execCapsResend p s
  | .trainBackoffExpiry p => Sys2Proof.Machine.execTrainBackoffExpiry p s
  | .flit p bytes => Sys2Proof.Machine.execFlit p bytes s
  | .nakHoldoffExpiry p => Sys2Proof.Machine.execNakHoldoffExpiry p s
  | .replay p seq => Sys2Proof.Machine.execReplay p seq s
  | .skipFlit p => Sys2Proof.Machine.execSkipFlit p s
  | .skipFlitSend p => Sys2Proof.Machine.execSkipFlitSend p s
  | .alignmentMarker p marks => Sys2Proof.Machine.execAlignmentMarker p marks s
  | .alignmentMarkerSend p => Sys2Proof.Machine.execAlignmentMarkerSend p s
  | .narrowReq p mask => Sys2Proof.Machine.execNarrowReq p mask s
  | .narrow p mask f => Sys2Proof.Machine.execNarrow p mask f s
  | .narrowSwitch p tx => Sys2Proof.Machine.execNarrowSwitch p tx s
  | .doze p => Sys2Proof.Machine.execDoze p s
  | .dozeIdleExpiry p => Sys2Proof.Machine.execDozeIdleExpiry p s
  | .nudgeBurst p => Sys2Proof.Machine.execNudgeBurst p s
  | .nudgeCheckExpiry p => Sys2Proof.Machine.execNudgeCheckExpiry p s
  | .tetherKeepaliveExpiry p => Sys2Proof.Machine.execTetherKeepaliveExpiry p s
  | .loomTransfer out offers crcFail credits => Sys2Proof.Machine.execLoomTransfer out offers crcFail s credits
  | .loomSliceResume => Sys2Proof.Machine.execLoomSliceResume s
  | .loomNarrow => Sys2Proof.Machine.execLoomNarrow s
  | .loomWiden => Sys2Proof.Machine.execLoomWiden s
  | .unitPowerGate u => Sys2Proof.Machine.execUnitPowerGate u s
  | .doorbell f n hint => Sys2Proof.Machine.execDoorbell f n hint s
  | .producerIndex f n => Sys2Proof.Machine.execProducerIndex f n s
  | .descriptorFetchData f n => Sys2Proof.Machine.execDescriptorFetchData f n s
  | .fragmentTableData f n => Sys2Proof.Machine.execFragmentTableData f n s
  | .chunkReadIssue f n => Sys2Proof.Machine.execChunkReadIssue f n s
  | .chunkReadData f n => Sys2Proof.Machine.execChunkReadData f n s
  | .chunkWriteDone f n => Sys2Proof.Machine.execChunkWriteDone f n s
  | .coalTimerExpiry f n => Sys2Proof.Machine.execCoalTimerExpiry f n s
  | .headWritebackAccepted f n => Sys2Proof.Machine.execHeadWritebackAccepted f n s
  | .qcmdEnable f n => Sys2Proof.Machine.execQcmdEnable f n s
  | .qcmdDisable f n => Sys2Proof.Machine.execQcmdDisable f n s
  | .qcmdPause f n => Sys2Proof.Machine.execQcmdPause f n s
  | .qcmdResume f n => Sys2Proof.Machine.execQcmdResume f n s
  | .qcmdReset f n => Sys2Proof.Machine.execQcmdReset f n s
  | .queueResetDone f n => Sys2Proof.Machine.execQueueResetDone f n s
  | .queuePaused f n => Sys2Proof.Machine.execQueuePaused f n s
  | .queueDrainEnd f n => Sys2Proof.Machine.execQueueDrainEnd f n s
  | .shtQheadWrite f n v => Sys2Proof.Machine.execShtQheadWrite f n v s
  | .queueContextWrite f n off v => Sys2Proof.Machine.execQueueContextWrite f n off v s
  | .fetchTimeout f tag => Sys2Proof.Machine.execFetchTimeout f tag s
  | .shuttleMoveDone n => Sys2Proof.Machine.execShuttleMoveDone n s
  | .shuttlePark n => Sys2Proof.Machine.execShuttlePark n s
  | .evtCtrlWrite f v => Sys2Proof.Machine.execEvtCtrlWrite f v s
  | .evtConsWrite f v => Sys2Proof.Machine.execEvtConsWrite f v s
  | .weaveLoad f slot => Sys2Proof.Machine.execWeaveLoad f slot s
  | .weaveClear f slot => Sys2Proof.Machine.execWeaveClear f slot s
  | .weaveCmdDone f => Sys2Proof.Machine.execWeaveCmdDone f s
  | .spurSelect f => Sys2Proof.Machine.execSpurSelect f s
  | .spurIssueCommit f => Sys2Proof.Machine.execSpurIssueCommit f s
  | .spurMaskSet f v => Sys2Proof.Machine.execSpurMaskSet f v s
  | .spurMaskClr f v => Sys2Proof.Machine.execSpurMaskClr f v s
  | .spurPendSet f v => Sys2Proof.Machine.execSpurPendSet f v s
  | .spurPendClr f v => Sys2Proof.Machine.execSpurPendClr f v s
  | .spurEoi f v => Sys2Proof.Machine.execSpurEoi f v s
  | .spurResample f src => Sys2Proof.Machine.execSpurResample f src s
  | .spurSrcCfgWrite f off v => Sys2Proof.Machine.execSpurSrcCfgWrite f off v s
  | .intxSpacingExpiry l pin => Sys2Proof.Machine.execIntxSpacingExpiry l pin s
  | .reinsPeriodExpiry f => Sys2Proof.Machine.execReinsPeriodExpiry f s
  | .lockstepMismatch core0Ok core1Ok => Sys2Proof.Machine.execLockstepMismatch core0Ok core1Ok s
  | .groomWatchdogExpiry core0Ok core1Ok => Sys2Proof.Machine.execGroomWatchdogExpiry core0Ok core1Ok s
  | .groomTakeoverDone => Sys2Proof.Machine.execGroomTakeoverDone s
  | .groomFrame pt fh be oldestUs => Sys2Proof.Machine.execGroomFrame pt fh be oldestUs s
  | .telemetryPeriodExpiry vinMv iin temps => Sys2Proof.Machine.execTelemetryPeriodExpiry vinMv iin temps s
  | .stallGroupsSectionArrival groups sdies => Sys2Proof.Machine.execStallGroupsSectionArrival groups sdies s
  | .imageCopyCheck src c => Sys2Proof.Machine.execImageCopyCheck src c s
  | .imageReady => Sys2Proof.Machine.execImageReady s
  | .imageNotReadyTimeout g => Sys2Proof.Machine.execImageNotReadyTimeout g s
  | .svnCommit => Sys2Proof.Machine.execSvnCommit s
  | .imageActivation copyB => Sys2Proof.Machine.execImageActivation copyB s
  | .pldmTransfer tr copyB bytes last => Sys2Proof.Machine.execPldmTransfer tr copyB bytes last s
  | .pldmUpdateIdleExpiry => Sys2Proof.Machine.execPldmUpdateIdleExpiry s
  | .deferredModuleReset => Sys2Proof.Machine.execDeferredModuleReset s
  | .lmsTreeReady => Sys2Proof.Machine.execLmsTreeReady s
  | .getVersion tr => Sys2Proof.Machine.execGetVersion tr s
  | .getCertificate tr slot off len => Sys2Proof.Machine.execGetCertificate tr slot off len s
  | .challenge tr slot => Sys2Proof.Machine.execChallenge tr slot s
  | .getMeasurements tr index => Sys2Proof.Machine.execGetMeasurements tr index s
  | .keyExchange tr slot => Sys2Proof.Machine.execKeyExchange tr slot s
  | .endSession tr session => Sys2Proof.Machine.execEndSession tr session s
  | .countersign tr => Sys2Proof.Machine.execCountersign tr s
  | .getHssChain tr off len => Sys2Proof.Machine.execGetHssChain tr off len s
  | .getHssState tr => Sys2Proof.Machine.execGetHssState tr s
  | .query tr session l => Sys2Proof.Machine.execQuery tr session l s
  | .keyProg tr session l stream sub tx keySet => Sys2Proof.Machine.execKeyProg tr session l stream sub tx keySet s
  | .kSetGo tr session l stream sub tx keySet => Sys2Proof.Machine.execKSetGo tr session l stream sub tx keySet s
  | .kSetStop tr session l stream sub tx keySet => Sys2Proof.Machine.execKSetStop tr session l stream sub tx keySet s
  | .lockInterfaceRequest tr session f => Sys2Proof.Machine.execLockInterfaceRequest tr session f s
  | .startInterfaceRequest tr session f => Sys2Proof.Machine.execStartInterfaceRequest tr session f s
  | .stopInterfaceRequest tr session f => Sys2Proof.Machine.execStopInterfaceRequest tr session f s
  | .getDeviceInterfaceReport tr session f => Sys2Proof.Machine.execGetDeviceInterfaceReport tr session f s
  | .doeRequest f obj => Sys2Proof.Machine.execDoeRequest f obj s
  | .setEndpointId tr eid => Sys2Proof.Machine.execSetEndpointId tr eid s
  | .registerAccessRead tr addr count => Sys2Proof.Machine.execRegisterAccessRead tr addr count s
  | .registerAccessWrite tr addr dwords => Sys2Proof.Machine.execRegisterAccessWrite tr addr dwords s
  | .moduleReset tr => Sys2Proof.Machine.execModuleReset tr s
  | .pldmSensorRead tr sensor => Sys2Proof.Machine.execPldmSensorRead tr sensor s
  | .halterFrameForward fr => Sys2Proof.Machine.execHalterFrameForward fr s
  | .discover bmcMax => Sys2Proof.Machine.execDiscover bmcMax s
  | .status => Sys2Proof.Machine.execStatus s
  | .mctp tr ty => Sys2Proof.Machine.execMctp tr ty s
  | .wake => Sys2Proof.Machine.execWake s
  | .imageData off data => Sys2Proof.Machine.execImageData off data s
  | .imageReqTimeout => Sys2Proof.Machine.execImageReqTimeout s
  | .bypass v => Sys2Proof.Machine.execBypass v s
  | .halterRejoin => Sys2Proof.Machine.execHalterRejoin s
  | .debugUnlock signatureOk => Sys2Proof.Machine.execDebugUnlock signatureOk s
  | .jtagBypass => Sys2Proof.Machine.execJtagBypass s
  | .jtagIdcode => Sys2Proof.Machine.execJtagIdcode s
  | .jtagSamplePreload load => Sys2Proof.Machine.execJtagSamplePreload load s
  | .jtagExtest => Sys2Proof.Machine.execJtagExtest s
  | .jtagClamp => Sys2Proof.Machine.execJtagClamp s
  | .jtagHighz => Sys2Proof.Machine.execJtagHighz s
  | .jtagExtestPulse => Sys2Proof.Machine.execJtagExtestPulse s
  | .jtagExtestTrain => Sys2Proof.Machine.execJtagExtestTrain s
  | .stlRefclkReturn d => Sys2Proof.Machine.execStlRefclkReturn d s
  | .linkRecovery l => Sys2Proof.Machine.execLinkRecovery l s
  | .linkReturnToL0 l rate eqs => Sys2Proof.Machine.execLinkReturnToL0 l rate s eqs
  | .nudgeArrival p => Sys2Proof.Machine.execNudgeArrival p s
  | .partnerWake p => Sys2Proof.Machine.execPartnerWake p s
  | .electricalIdleAfterMarker p => Sys2Proof.Machine.execElectricalIdleAfterMarker p s
  | .ackWaitExpiry p => Sys2Proof.Machine.execAckWaitExpiry p s
  | .vstbyRangeChange ok => Sys2Proof.Machine.execVstbyRangeChange ok s
  | .vectorControlMaskClear f vec => Sys2Proof.Machine.execVectorControlMaskClear f vec s
  | .jtagTrstNAssert => Sys2Proof.Machine.execJtagTrstNAssert s
  | .finish tr session => Sys2Proof.Machine.execFinish tr session s
  | .keyUpdate tr session => Sys2Proof.Machine.execKeyUpdate tr session s
  | .heartbeat tr session => Sys2Proof.Machine.execHeartbeat tr session s
  | .getCapabilities tr => Sys2Proof.Machine.execGetCapabilities tr s
  | .negotiateAlgorithms tr => Sys2Proof.Machine.execNegotiateAlgorithms tr s
  | .getDigests tr => Sys2Proof.Machine.execGetDigests tr s
  | .chunkSend tr last => Sys2Proof.Machine.execChunkSend tr last s
  | .chunkGet tr => Sys2Proof.Machine.execChunkGet tr s

end Sys2Proof.Machine
end

