-- ==== Sys2Proof/Safety.lean ====
section
/-! DEFINITION. What the claims about runs are stated in: tables in canonical form, and queues of commands of the interface. -/
namespace Sys2Proof.Machine

/-- Every table of the block is in its canonical form: keys strictly rising, no entry at its default. -/
def Block.tidy (b : Block) : Bool := decide (b.canon = b)

/-- Every waiting command is one of the interface. -/
def State.queueOk (s : State) : Bool := s.pending.all Instr.wf

/-- The state a step can rely on: tables in canonical form, waiting commands well formed. -/
def State.Inv (s : State) : Prop := s.blk.tidy = true ∧ s.queueOk = true

/-- A step that is neither a fault nor a refusal. -/
def State.runs (s : State) : Prop := ∃ t, step s = .next t

/-- The parts of the block beside the register fields: its counters, its records by unit, and its other state. -/
inductive Part where
  | time | freeCtr | nextId | straps | img | sg | xlb | tth | links | fns | queues | pins | groups | slots | pow | loom
  | stums | fuses | jobs | ats | buckets | parked | gated | lameSh | moves | boot | grm | halt | tap | refs | out
  | shutRot | wire | loomBack | xings
deriving DecidableEq, Repr

/-- Blocks a and b agree in a part; records are compared unit by unit. -/
def Part.same (a b : Block) : Part → Prop
  | .time => b.time = a.time
  | .freeCtr => b.freeCtr = a.freeCtr
  | .nextId => b.nextId = a.nextId
  | .straps => b.straps = a.straps
  | .img => b.img = a.img
  | .sg => b.sg = a.sg
  | .xlb => ∀ u, b.x u = a.x u
  | .tth => ∀ u, b.tt u = a.tt u
  | .links => ∀ u, b.lk u = a.lk u
  | .fns => ∀ u, b.fn u = a.fn u
  | .queues => ∀ u, b.qu u = a.qu u
  | .pins => ∀ u, b.pin u = a.pin u
  | .groups => ∀ u, b.gr u = a.gr u
  | .slots => ∀ u, b.sl u = a.sl u
  | .pow => b.pow = a.pow
  | .loom => b.loom = a.loom
  | .stums => b.stums = a.stums
  | .fuses => b.fuses = a.fuses
  | .jobs => b.jobs = a.jobs
  | .ats => b.ats = a.ats
  | .buckets => b.buckets = a.buckets
  | .parked => b.parked = a.parked
  | .gated => b.gated = a.gated
  | .lameSh => b.lameSh = a.lameSh
  | .moves => b.moves = a.moves
  | .boot => b.boot = a.boot
  | .grm => b.grm = a.grm
  | .halt => b.halt = a.halt
  | .tap => b.tap = a.tap
  | .refs => b.refs = a.refs
  | .out => b.out = a.out
  | .shutRot => b.shutRot = a.shutRot
  | .wire => b.wire = a.wire
  | .loomBack => b.loomBack = a.loomBack
  | .xings => b.xings = a.xings

/-- Frame: b reads as a does in every field but those of fs, at every unit, and is a in every part but those of ps. -/
def Block.within (fs : List Fld) (ps : List Part) (a b : Block) : Prop :=
  (∀ f, f ∉ fs → ∀ i j, b.rd f i j = a.rd f i j) ∧ ∀ p, p ∉ ps → p.same a b

/-! ### What the statements say of two blocks -/

/-- exec of c on s answers a next state with the queue of s, whose block meets p: the command completes. -/
def State.does (s : State) (c : Instr) (p : Block → Prop) : Prop :=
  ∃ t, exec c s = .next t ∧ t.pending = s.pending ∧ p t.blk

/-- The block with stream id of link l out of the Secure state. -/
def Block.streamFell (b : Block) (l id : Nat) : Block :=
  b.lkMod l (fun k => { k with ide := mapIf (fun x => x.id == id) (fun x => { x with secure := false, fell := true, keys := [] }) k.ide })

/-- Payload area of a flit (R248): bytes 2 to 181 after correction. -/
def FlitRx.area (r : FlitRx) : List Byte := ((r.bytes.drop 2).take 180).map (fun v => BitVec.ofNat 8 v)

/-- Header of a flit (Table 10.3). -/
def FlitRx.hdr (r : FlitRx) : Nat := leVals (r.bytes.take 2)

/-- The bytes l are a SKIP flit on the lanes that port p receives on (R246). -/
def Block.hearsSkip (b : Block) (p : Nat) (l : List Byte) : Bool := isSkip (b.rxMask p) (b.flag .psReversed p) l

/-- A request on a transport reaches the Groom's services and no load is being shed. -/
def Block.reaches (b : Block) (tr : Transport) : Bool :=
  b.pow.st == .on && b.carries tr && b.svcUp tr && (match tr with | .vdm _ => b.flag .svcVdmEn 0 | _ => true) && !b.flag .loadShed 0

/-- Such a request is served as it arrives: none of its transport waits in the queue. -/
def Block.serves (b : Block) (tr : Transport) : Bool := b.reaches tr && !b.grm.queue.contains tr

/-- An SPDM request on a transport is served (R343): the image is ready and the connection has come as far as `n`. -/
def Block.spdmReady (b : Block) (tr : Transport) (n : Nat) : Bool := b.serves tr && b.stage == 5 && decide (n ≤ (b.conn tr).stage)

/-- From a to b the Groom sent an SPDM response. -/
def Block.says (a b : Block) (tr : Transport) (r : SpdmRsp) : Prop := ∃ l, b.out = l ++ .mgmt tr (.spdm r) :: a.out

/-- From a to b, f's error log took one entry of a code and a DETAIL (R289): in the slot at PROD, or counted as OVERFLOW when the log is full. -/
def Block.errLogged (a b : Block) (f code detail : Nat) : Prop :=
  if (a.rd .errProd f + 65536 - a.rd .errCons f) % 65536 < 64 then
    b.rd .errProd f = (a.rd .errProd f + 1) % 65536 ∧ b.rd .ehCode f (a.rd .errProd f % 64) = code ∧
      b.rd .ehDetail f (a.rd .errProd f % 64) = detail
  else b.rd .errOverflow f = min (a.rd .errOverflow f + 1) (2 ^ (Fld.attr .errOverflow).width - 1)

/-- Queue n of f is HALTED with a cause and a DETAIL (R151). -/
def Block.qHalted (b : Block) (f n cause detail : Nat) : Prop :=
  b.rd .qState f n = 6 ∧ b.rd .qHaltCause f n = cause ∧ b.rd .qHaltDetail f n = detail

/-- R145: the 64-byte granules of the destination of descriptor dix of module queue q that hold a poisoned byte: those kept of chunks
already written, and those of the chunks that have arrived or are staged. -/
def Block.badAt (b : Block) (q dix : Nat) : List Nat :=
  optD ((b.qu q).descs.find? (fun r => r.d.ix == dix)) [] (·.pgran) ++
    ((b.qu q).chunks.filter (fun y => y.dix == dix)).flatMap (fun y =>
      if y.st == .arrived then badGranules y.dsts (b.chunkOut q y) else if y.st == .staged then badGranules y.dsts y.data else [])

/-- Message m has been handed to the Tether controller of port p and is in its replay buffer. -/
def Block.handed (b : Block) (p : Nat) (m : XMsg) : Prop := ∃ x ∈ (b.tt p).buf, x.m = m

/-- The block once its own CAPS of the exchange is out: one that the design has not provoked is answered first (R70). -/
def Block.capsOut (b : Block) (p : Nat) : Block := if (b.x p).capsSent then b else b.sendCaps p false

/-- VMAX of that CAPS: MAXVER as it stood when it was sent (R68). -/
def Block.sentVmax (b : Block) (p : Nat) : Nat := if (b.x p).capsSent then (b.x p).vmax else b.rd .xlbMaxver p

/-- The request of number rid is no longer open on port p. -/
def Block.reqEnded (b : Block) (p rid : Nat) : Prop := ∀ x ∈ (b.x p).reqs, x.rid ≠ rid

/-- The open request of the design's tag: sent, or between RETRY and its reissue. -/
def Block.reqOfTag (b : Block) (p tag : Nat) : Option XReq :=
  (b.x p).reqs.find? (fun r => r.tag == tag && (r.st != .waiting || r.retries > 0))

/-- A request of the design with opcode op is taken and judged by what it asks for (Table 2.17 has no row for it). -/
def Block.lmTakes (b : Block) (p op : Nat) (h : LmHdr) (aop asz : Nat) : Bool :=
  b.active p && !(b.x p).capsSent && !b.shut p && (b.x p).dReqh != 0 && decide (b.lmSlots p op h aop asz ≤ (b.x p).dReqd) &&
    decide (b.localOut p < b.xlimit p) && !b.lmBad p op h asz && !b.lmSize p op h aop asz

/-- The design's next request on port p crosses the Loom and has nothing ahead of it: the Loom passes, and every request already taken
has been issued. -/
def Block.lmNext (b : Block) (p : Nat) : Prop :=
  b.loom.stopped = false ∧ ∀ y ∈ (b.x p).lms, y.arr ≠ (b.x p).arr ∧ (y.ph = .issued ∨ ∃ c d, y.ph = .failing c d)

/-- The record of a request that window w decodes, before it is issued. -/
def Block.lmOf (b : Block) (p op : Nat) (h : LmHdr) (aop asz : Nat) (w : ObWin) : LmReq :=
  ⟨(b.x p).arr, h.tag.toNat, op, w.owner, b.actLink w.owner, h.addr.toNat, b.rd .obHostBase w.owner w.m * 4096 + (h.addr.toNat - w.base), lmLen h, b.xw p,
    h.data, if h.masked then h.mask else [], h.pvec.toNat, aop, asz, b.flag .obTranslated w.owner w.m,
    if b.flag .obPasidEn w.owner w.m then some (b.rd .obPasid w.owner w.m) else none,
    b.flag .obNoSnoop w.owner w.m && b.flag .cfgNoSnoopEn (b.ctlOf w.owner) (b.actSet w.owner), .queued, 0, [], 0, []⟩

/-- A response without data can go to the design at once. -/
def Block.rspFree (b : Block) (p : Nat) : Prop := (b.x p).rspQ = [] ∧ hasCr ((b.x p).cr[2]?.getD 0) 1 = true

/-- The design has been answered with a response without data. -/
def Block.told (b : Block) (p tag code cause : Nat) : Prop := b.handed p (.rsp ⟨tag, code, cause, 0, []⟩)

/-- Function f has a non-posted request of an owner for a range, with its operands. -/
def Block.asks (b : Block) (f : Nat) (own : HOwner) (addr len : Nat) (ops : List Byte) (aop : Nat) : Prop :=
  ∃ t ∈ (b.fn f).np, t.own = own ∧ t.addr = addr ∧ t.len = len ∧ t.ops = ops ∧ t.aop = aop

/-- Memory Write w of a function is on link l, sent or waiting. -/
def Block.onLink (b : Block) (l : Nat) (w : PWr) : Prop := ∃ v, { w with sent := v } ∈ (b.lk l).posted

/-- A host request decodes to an offset of a BAR of f, which serves it. -/
def Block.claims (b : Block) (r : HReq) (f : Nat) (bar : BarIx) (off : Nat) : Prop :=
  b.dlActive r.link.val = true ∧ b.streamBad r.link.val r.stream = false ∧ b.decodeBar r.link.val r.addr = some ⟨f, bar, off⟩ ∧ b.tdiServes f r = true

/-- Port p has a request of the PX896 for f, sent or waiting. -/
def Block.wants (b : Block) (p f op addr len : Nat) (orig : XOrig) : Prop :=
  ∃ q ∈ (b.x p).reqs, q.f = f ∧ q.op = op ∧ q.addr = addr ∧ q.len = len ∧ q.orig = orig

/-- The BAR of a window. -/
def winBar (winB : Bool) : BarIx := if winB then .bar4 else .bar2

/-- No cached translation of f serves a request: what is left of them is invalid. -/
def Block.untranslated (b : Block) (f : Nat) : Prop := ∀ e ∈ b.ats, e.f = f → e.valid = false

end Sys2Proof.Machine
end

