-- ==== Sys2Proof/Footprint.lean ====
section
/-! DEFINITION. What each command may change: the fields it may write, at any unit, and the parts of the block beside the fields. The
claims say that it changes nothing else. -/
namespace Sys2Proof.Machine

/-- What the end of a drain of a queue may change. -/
def queueDrainFields : List Fld :=
  [.qState, .qArmPending, .qPauseBme, .qRefetch, .qCurDesc, .qCurFrag, .qCurOffset, .qHaltCause, .qHaltDetail,
   .qHaltDesc, .qHaltFrag, .evtEvtFull, .evtProd, .srcState, .gstClkreq, .lnkLtssm, .lnkL1sub, .lnkCntRecovery,
   .psTxDoze, .cfgPmeSts, .qLastWb]

/-- What the end of a queue reset restores (R150). -/
def queueResetFields : List Fld :=
  [.qcmdEnable, .qcmdDisable, .qcmdPause, .qcmdResume, .qcmdReset, .qState, .qArmPending, .qPauseDrv, .qPauseBme,
   .qRefetch, .qResetBusy, .qHead, .qProd, .qCurDesc, .qCurFrag, .qCurOffset, .qStaged, .qHaltCause, .qHaltDetail,
   .qHaltDesc, .qHaltFrag, .qCntDone, .qCntPoisoned, .qLastWb]

/-- The error log, its sources and AER, and what stands beside them in these commands. -/
def logFields : List Fld :=
  [.xlbCntProtocol, .pfCntLost, .wvBusy, .wvLastSlot, .srcState, .srcLatch, .psTxDoze, .errProd, .errOverflow,
   .ehCode, .ehDetail, .ehPort, .ehWin, .ehQueue, .ehQvalid, .ehSeq, .ehCause, .ehAddr, .ehLen, .ehAux, .ehTimeUs,
   .cfgStatus, .cfgPmeSts, .cfgDevSta, .aerUncSts, .aerCorSts, .aerHdr]

/-- The head of a queue and the log of a refused write. -/
def queueHeadFields : List Fld :=
  [.qHead, .qProd, .qCurDesc, .qCurFrag, .qCurOffset, .srcState, .srcLatch, .errProd, .errOverflow, .ehCode,
   .ehDetail, .ehPort, .ehWin, .ehQueue, .ehQvalid, .ehSeq, .ehCause, .ehAddr, .ehLen, .ehAux, .ehTimeUs, .cfgStatus,
   .cfgPmeSts, .cfgDevSta, .aerUncSts, .aerCorSts, .aerHdr, .qLastWb]

/-- The event ring and what waits behind it. -/
def evtConsFields : List Fld :=
  [.evtEvtFull, .evtProd, .evtCons, .srcState, .srcLatch, .gstClkreq, .lnkLtssm, .lnkL1sub, .lnkCntRecovery,
   .psTxDoze, .errProd, .errOverflow, .ehCode, .ehDetail, .ehPort, .ehWin, .ehQueue, .ehQvalid, .ehSeq, .ehCause,
   .ehAddr, .ehLen, .ehAux, .ehTimeUs, .cfgStatus, .cfgPmeSts, .cfgDevSta, .aerUncSts, .aerCorSts, .aerHdr]

/-- The context of a queue and the log of a refused write (R133). -/
def queueContextFields : List Fld :=
  [.qRingBase, .qPidxAddr, .qHidxAddr, .qLog2, .qMsixEn, .qMsixVec, .qCoalCount, .qCoalTimeUs, .qHead, .srcState,
   .srcLatch, .errProd, .errOverflow, .ehCode, .ehDetail, .ehPort, .ehWin, .ehQueue, .ehQvalid, .ehSeq, .ehCause,
   .ehAddr, .ehLen, .ehAux, .ehTimeUs, .cfgStatus, .cfgPmeSts, .cfgDevSta, .aerUncSts, .aerCorSts, .aerHdr]

/-- What a host completion may change. -/
def completionFields : List Fld :=
  [.qState, .qArmPending, .qHaltCause, .qHaltDetail, .qHaltDesc, .qHaltFrag, .evtEvtFull, .evtProd, .srcState,
   .srcLatch, .gstClkreq, .lnkLtssm, .lnkL1sub, .lnkCntRecovery, .psTxDoze, .errProd, .errOverflow, .ehCode,
   .ehDetail, .ehPort, .ehWin, .ehQueue, .ehQvalid, .ehSeq, .ehCause, .ehAddr, .ehLen, .ehAux, .ehTimeUs, .cfgStatus,
   .cfgPmeSts, .cfgDevSta, .aerUncSts, .aerCorSts, .aerHdr, .qLastWb]

/-- What a read of registers may clear or change (R7). -/
def readFields : List Fld :=
  [.xlbCntTimeouts, .xlbCntLate, .xlbCntProtocol, .xlbCntFences, .pfCntLearned, .pfCntHeld, .pfCntLost,
   .pfCntUnexpected, .qCntDone, .qCntPoisoned, .spCntPreempt, .spCntStrayEoi, .gstClkreq, .lnkLtssm, .lnkL1sub,
   .lnkCntFecCorr, .lnkCntCrcFail, .lnkCntRecovery, .lnkCntL0pChg, .lnkCntLinkDown, .lnkCntRetire, .slaneErrs,
   .tlaneErrs, .pcntFecCorr, .pcntCrcFail, .pcntReplay, .pcntLinkDown, .pcntRetire, .pcntTrainFail, .stumLame,
   .errOverflow, .recFailovers, .recMoves, .gaitCurrent, .pwrCntBrownouts, .pwrCntDroops, .pwrCntThrottles,
   .pwrCntSlewExceed, .coreTakeovers, .loadShed, .svcCntBusy, .svcCntSheds, .svcCntWdt, .svcCntRefused,
   .haltCntCrcFail, .haltCntDrop, .haltCntBypasses, .msixPend]

/-- What data on its way may change: the error log, AER, the Spur, queues, prefetch counters, counters of the port. -/
def dataFields : List Fld :=
  [.xlbFenced, .xlbCntTimeouts, .xlbCntLate, .xlbCntProtocol, .xlbCntFences, .ffenceWhy, .pfCntLearned, .pfCntHeld,
   .pfCntLost, .pfCntUnexpected, .qState, .qArmPending, .qPauseDrv, .qPauseBme, .qRefetch, .qResetBusy, .qHead,
   .qProd, .qCurDesc, .qCurFrag, .qCurOffset, .qHaltCause, .qHaltDetail, .qHaltDesc, .qHaltFrag, .qCntDone,
   .qCntPoisoned, .evtEvtFull, .evtProd, .spLines, .srcState, .srcLatch, .gstClkreq, .lnkLtssm, .lnkL1sub,
   .lnkCntRecovery, .psTxDoze, .errProd, .errOverflow, .ehCode, .ehDetail, .ehPort, .ehWin, .ehQueue, .ehQvalid,
   .ehSeq, .ehCause, .ehAddr, .ehLen, .ehAux, .ehTimeUs, .cfgStatus, .cfgPmeSts, .cfgDevSta, .aerUncSts, .aerCorSts,
   .aerHdr, .qLastWb]

/-- What a CAPS exchange may change (R70). -/
def capsFields : List Fld :=
  [.xlbVersion, .xlbWidth, .xlbHalfDuplex, .xlbAtm, .xlbActive, .xlbFenced, .xlbCapsFail, .xlbCapsFailWhy,
   .xlbCntFences, .fstCapsSeen, .ffenceWhy, .pfCntLearned, .pfCntHeld, .pfCntLost, .pfCntUnexpected, .qState,
   .qArmPending, .qPauseBme, .qRefetch, .qHaltCause, .qHaltDetail, .qHaltDesc, .qHaltFrag, .evtEvtFull, .evtProd,
   .spLines, .srcState, .srcLatch, .reinsOutSent, .reinsOutPending, .gstClkreq, .lnkLtssm, .lnkL1sub, .lnkCntRecovery,
   .psState, .psTxDoze, .errProd, .errOverflow, .ehCode, .ehDetail, .ehPort, .ehWin, .ehQueue, .ehQvalid, .ehSeq,
   .ehCause, .ehAddr, .ehLen, .ehAux, .ehTimeUs, .slotLinkChg, .xlbIdent, .xlbIdrev, .msixPend, .cfgStatus,
   .cfgPmeSts, .cfgMsiPend, .cfgDevSta, .aerUncSts, .aerCorSts, .aerHdr, .tdiState, .qLastWb]

/-- What a change of mastering, translation or IDE state may change. -/
def masteringFields : List Fld :=
  [.xlbFenced, .xlbCntFences, .ffenceWhy, .pfCntLearned, .pfCntHeld, .pfCntLost, .pfCntUnexpected, .qState,
   .qArmPending, .qPauseBme, .qRefetch, .qHaltCause, .qHaltDetail, .qHaltDesc, .qHaltFrag, .evtEvtFull, .evtProd,
   .wvBusy, .wvResult, .wvSlotProgram, .spLines, .srcState, .srcLatch, .gstClkreq, .lnkLtssm, .lnkL1sub,
   .lnkCntRecovery, .psTxDoze, .errProd, .errOverflow, .ehCode, .ehDetail, .ehPort, .ehWin, .ehQueue, .ehQvalid,
   .ehSeq, .ehCause, .ehAddr, .ehLen, .ehAux, .ehTimeUs, .gaitCurrent, .loadShed, .svcCntBusy, .svcCntRefused,
   .haltCntDrop, .msixPend, .cfgBmeEff, .cfgStatus, .cfgBar0, .cfgBar2, .cfgBar4, .cfgRomBar, .cfgRomEn, .cfgPmState,
   .cfgPmeSts, .cfgMsiPend, .cfgDevSta, .aerUncSts, .aerCorSts, .aerHdr, .atsEnable, .atsStu, .pasidEnable, .tdiState,
   .qLastWb]

/-- What training of a Tether port, or a page override, may change. -/
def trainFields : List Fld :=
  [.xlbFenced, .xlbCntFences, .ffenceWhy, .pgoWin, .pgoPage, .pgoValid, .pfCntLearned, .pfCntHeld, .pfCntLost,
   .pfCntUnexpected, .qState, .qArmPending, .qPauseBme, .qRefetch, .qHaltCause, .qHaltDetail, .qHaltDesc, .qHaltFrag,
   .evtEvtFull, .evtProd, .spLines, .srcState, .srcLatch, .gstClkreq, .lnkLtssm, .lnkL1sub, .lnkCntRecovery, .psState,
   .psRate, .psWidthNeg, .psWidthRx, .psWidthTx, .psReversed, .psTxDoze, .psRxDoze, .plRxmask, .plTxmask, .tlaneFom,
   .tlaneTxpreset, .pcntTrainFail, .errProd, .errOverflow, .ehCode, .ehDetail, .ehPort, .ehWin, .ehQueue, .ehQvalid,
   .ehSeq, .ehCause, .ehAddr, .ehLen, .ehAux, .ehTimeUs, .pgoaEn, .pgoaWclass, .pgoaOrder, .pgoaSizes, .pgoaAtomics,
   .pgoaWmode, .pgoaPrefetch, .pgoaSep, .msixPend, .cfgStatus, .cfgPmeSts, .cfgMsiPend, .cfgDevSta, .aerUncSts,
   .aerCorSts, .aerHdr, .tdiState, .qLastWb]

/-- What a host read of a page may change. -/
def pageReadFields : List Fld :=
  [.xlbCntTimeouts, .xlbCntLate, .xlbCntProtocol, .xlbCntFences, .pfCntLearned, .pfCntHeld, .pfCntLost,
   .pfCntUnexpected, .qState, .qArmPending, .qHaltCause, .qHaltDetail, .qHaltDesc, .qHaltFrag, .qCntDone,
   .qCntPoisoned, .evtEvtFull, .evtProd, .spCntPreempt, .spCntStrayEoi, .srcState, .srcLatch, .gstClkreq, .lnkLtssm,
   .lnkL1sub, .lnkCntFecCorr, .lnkCntCrcFail, .lnkCntRecovery, .lnkCntL0pChg, .lnkCntLinkDown, .lnkCntRetire,
   .slaneErrs, .psTxDoze, .tlaneErrs, .pcntFecCorr, .pcntCrcFail, .pcntReplay, .pcntLinkDown, .pcntRetire,
   .pcntTrainFail, .stumLame, .errProd, .errOverflow, .recFailovers, .recMoves, .ehCode, .ehDetail, .ehPort, .ehWin,
   .ehQueue, .ehQvalid, .ehSeq, .ehCause, .ehAddr, .ehLen, .ehAux, .ehTimeUs, .pwrCntBrownouts, .pwrCntDroops,
   .pwrCntThrottles, .pwrCntSlewExceed, .coreTakeovers, .svcCntBusy, .svcCntSheds, .svcCntWdt, .svcCntRefused,
   .haltCntCrcFail, .haltCntDrop, .haltCntBypasses, .cfgStatus, .cfgPmeSts, .cfgDevSta, .aerUncSts, .aerCorSts,
   .aerHdr, .qLastWb]

/-- What the narrowing or loss of links may change. -/
def tetherFields : List Fld :=
  [.xlbActive, .xlbFenced, .xlbCntFences, .ffenceWhy, .pfCntLearned, .pfCntHeld, .pfCntLost, .pfCntUnexpected,
   .qState, .qArmPending, .qPauseBme, .qRefetch, .qHaltCause, .qHaltDetail, .qHaltDesc, .qHaltFrag, .evtEvtFull,
   .evtProd, .spLines, .srcState, .srcLatch, .gstClkreq, .lnkLtssm, .lnkL1sub, .lnkCntRecovery, .psState, .psRate,
   .psWidthRx, .psWidthTx, .psTxDoze, .psRxDoze, .plTxRetired, .plRxmask, .plTxmask, .tlaneFom, .pcntReplay,
   .pcntLinkDown, .errProd, .errOverflow, .ehCode, .ehDetail, .ehPort, .ehWin, .ehQueue, .ehQvalid, .ehSeq, .ehCause,
   .ehAddr, .ehLen, .ehAux, .ehTimeUs, .gaitCurrent, .gaitFrozen, .gaitForcedWalk, .gaitThermLimit, .pstBrownout,
   .pstDroop, .pstThrottle, .pstHwTrip, .telVinMv, .telIin, .thmTjMax, .pwrCntBrownouts, .pwrCntThrottles,
   .slotPwrInd, .slotPwrState, .slotPresenceChg, .slotPowerFault, .slotSeqDone, .slotLinkChg, .msixPend, .cfgStatus,
   .cfgPmeSts, .cfgMsiPend, .cfgDevSta, .aerUncSts, .aerCorSts, .aerHdr, .tdiState, .qLastWb]

/-- What a flit and the messages in it may change. -/
def flitFields : List Fld :=
  [.xlbVersion, .xlbWidth, .xlbHalfDuplex, .xlbAtm, .xlbActive, .xlbFenced, .xlbCapsFail, .xlbCapsFailWhy,
   .xlbCntLate, .xlbCntProtocol, .xlbCntFences, .fstCapsSeen, .ffenceWhy, .pfCntLearned, .pfCntHeld, .pfCntLost,
   .pfCntUnexpected, .qState, .qArmPending, .qPauseBme, .qRefetch, .qHaltCause, .qHaltDetail, .qHaltDesc, .qHaltFrag,
   .evtEvtFull, .evtProd, .spLines, .srcState, .srcLatch, .reinsOutSent, .reinsOutPending, .gstClkreq, .lnkLtssm,
   .lnkL1sub, .lnkCntRecovery, .psState, .psRate, .psWidthRx, .psWidthTx, .psTxDoze, .psRxDoze, .plRxRetired,
   .plRxmask, .plTxmask, .tlaneErrs, .tlaneLame, .pcntFecCorr, .pcntCrcFail, .pcntReplay, .pcntLinkDown, .pcntRetire,
   .stumLame, .errProd, .errOverflow, .ehCode, .ehDetail, .ehPort, .ehWin, .ehQueue, .ehQvalid, .ehSeq, .ehCause,
   .ehAddr, .ehLen, .ehAux, .ehTimeUs, .slotLinkChg, .xlbIdent, .xlbIdrev, .msixPend, .cfgStatus, .cfgPmeSts,
   .cfgMsiPend, .cfgDevSta, .aerUncSts, .aerCorSts, .aerHdr, .tdiState, .qLastWb]

/-- What slot power and tether reset may change (R331, R272). -/
def slotFields : List Fld :=
  [.xlbVersion, .xlbWidth, .xlbHalfDuplex, .xlbAtm, .xlbActive, .xlbFenced, .xlbCapsFail, .xlbCapsFailWhy, .xlbPxOut,
   .xlbLocalOut, .xlbCntFences, .modesLoopback, .didIdent, .drevIdrev, .drevXlbMinor, .drevWidth, .drevHalfDuplex,
   .fstPortActive, .ffenceWhy, .pfCntLearned, .pfCntHeld, .pfCntLost, .pfCntUnexpected, .qState, .qArmPending,
   .qPauseBme, .qRefetch, .qHaltCause, .qHaltDetail, .qHaltDesc, .qHaltFrag, .evtEvtFull, .evtProd, .spLines,
   .srcState, .srcLatch, .reinsInValue, .reinsInChg, .reinsOutSent, .gstClkreq, .lnkLtssm, .lnkL1sub, .lnkCntRecovery,
   .pcRetrain, .pcReset, .psState, .psRate, .psWidthNeg, .psWidthRx, .psWidthTx, .psReversed, .psTxDoze, .psRxDoze,
   .psPresent, .psPwrgd, .plRxRetired, .plTxRetired, .plRxmask, .plTxmask, .tlaneFom, .tlaneTxpreset, .tlaneLame,
   .errProd, .errOverflow, .ehCode, .ehDetail, .ehPort, .ehWin, .ehQueue, .ehQvalid, .ehSeq, .ehCause, .ehAddr,
   .ehLen, .ehAux, .ehTimeUs, .slotAtnInd, .slotPwrInd, .slotPwrState, .slotSeqDone, .slotLinkChg, .xlbIdent,
   .xlbIdrev, .msixPend, .cfgStatus, .cfgPmeSts, .cfgMsiPend, .cfgDevSta, .aerUncSts, .aerCorSts, .aerHdr, .tdiState,
   .lastRein, .reinWait, .qLastWb]

/-- What the end of a queue move may change (R154). -/
def shuttleMoveFields : List Fld :=
  [.xlbFenced, .xlbCntTimeouts, .xlbCntLate, .xlbCntProtocol, .xlbCntFences, .ffenceWhy, .pfCntLearned, .pfCntHeld,
   .pfCntLost, .pfCntUnexpected, .qRingBase, .qPidxAddr, .qHidxAddr, .qLog2, .qMsixEn, .qMsixVec, .qCoalCount,
   .qCoalTimeUs, .qState, .qArmPending, .qPauseDrv, .qPauseBme, .qRefetch, .qResetBusy, .qHead, .qProd, .qCurDesc,
   .qCurFrag, .qCurOffset, .qHaltCause, .qHaltDetail, .qHaltDesc, .qHaltFrag, .qCntDone, .qCntPoisoned, .evtEvtFull,
   .evtProd, .spLines, .spCntPreempt, .spCntStrayEoi, .srcState, .srcLatch, .gstClkreq, .lnkLtssm, .lnkL1sub,
   .lnkCntFecCorr, .lnkCntCrcFail, .lnkCntRecovery, .lnkCntL0pChg, .lnkCntLinkDown, .lnkCntRetire, .slaneErrs,
   .psTxDoze, .tlaneErrs, .pcntFecCorr, .pcntCrcFail, .pcntReplay, .pcntLinkDown, .pcntRetire, .pcntTrainFail,
   .stumLame, .errProd, .errOverflow, .recFailovers, .recMoves, .ehCode, .ehDetail, .ehPort, .ehWin, .ehQueue,
   .ehQvalid, .ehSeq, .ehCause, .ehAddr, .ehLen, .ehAux, .ehTimeUs, .pwrCntBrownouts, .pwrCntDroops, .pwrCntThrottles,
   .pwrCntSlewExceed, .coreTakeovers, .svcCntBusy, .svcCntSheds, .svcCntWdt, .svcCntRefused, .haltCntCrcFail,
   .haltCntDrop, .haltCntBypasses, .cfgStatus, .cfgPmeSts, .cfgDevSta, .aerUncSts, .aerCorSts, .aerHdr, .qLastWb]

/-- What a function reset, or the switch to the other link of a pair, may change (R202, R304). -/
def functionResetFields : List Fld :=
  [.xlbFenced, .xlbCntFences, .fstCapsSeen, .ffenceRelease, .ffenceWhy, .pgoWin, .pgoPage, .pgoValid, .pfHoldUs,
   .pfForget, .pfDisable, .pfCntLearned, .pfCntHeld, .pfCntLost, .pfCntUnexpected, .obHostBase, .obEn, .obTranslated,
   .obPasidEn, .obNoSnoop, .obAtomics, .obPasid, .qRingBase, .qPidxAddr, .qHidxAddr, .qLog2, .qMsixEn, .qMsixVec,
   .qCoalCount, .qCoalTimeUs, .qcmdEnable, .qcmdDisable, .qcmdPause, .qcmdResume, .qcmdReset, .qState, .qArmPending,
   .qPauseDrv, .qPauseBme, .qRefetch, .qResetBusy, .qHead, .qProd, .qCurDesc, .qCurFrag, .qCurOffset, .qStaged,
   .qHaltCause, .qHaltDetail, .qHaltDesc, .qHaltFrag, .qCntDone, .qCntPoisoned, .evtBase, .evtPidxAddr, .evtEn,
   .evtLog2, .evtFull, .evtEvtFull, .evtProd, .evtCons, .wvStageProgram, .wvCmdSlot, .wvCmdOp, .wvBusy, .wvLastSlot,
   .wvResult, .wvLoaded, .wvuUnit, .wvuHalfRate, .wvSlotProgram, .spMode, .spSelected, .spSelValid, .spRotate,
   .spLines, .spInternal, .spPend, .spMask, .spInservice, .spMaskSet, .spMaskClr, .spPendSet, .spPendClr, .spEoi,
   .spQpend, .spCntPreempt, .spCntStrayEoi, .srcPrio, .srcState, .srcLatch, .srcNextTgt, .srcLastVec, .reinsInChg,
   .reinsOutValue, .reinsPeriodUs, .reinsOutPending, .gstClkreq, .lnkLtssm, .lnkL1sub, .lnkCntRecovery, .psTxDoze,
   .errProd, .errOverflow, .recActiveLink, .recFailovers, .recStandbyReady, .ehCode, .ehDetail, .ehPort, .ehWin,
   .ehQueue, .ehQvalid, .ehSeq, .ehCause, .ehAddr, .ehLen, .ehAux, .ehTimeUs, .gaitCurrent, .slotPresenceChg,
   .slotButton, .slotPowerFault, .slotSeqDone, .slotLinkChg, .loadShed, .svcCntBusy, .svcCntRefused, .haltCntDrop,
   .pgoaEn, .pgoaWclass, .pgoaOrder, .pgoaSizes, .pgoaAtomics, .pgoaWmode, .pgoaPrefetch, .pgoaSep, .tgtVec, .tgtEn,
   .msixAddr, .msixData, .msixVmask, .msixPend, .cfgMse, .cfgBme, .cfgBmeEff, .cfgPer, .cfgSerr, .cfgIntDis,
   .cfgStatus, .cfgCacheLine, .cfgIntLine, .cfgBar0, .cfgBar2, .cfgBar4, .cfgRomBar, .cfgRomEn, .cfgPmState,
   .cfgPmeSts, .cfgMsiEn, .cfgMsiMme, .cfgMsiAddr, .cfgMsiData, .cfgMsiMask, .cfgMsiPend, .cfgDevErrEn, .cfgRoEn,
   .cfgExtTag, .cfgNoSnoopEn, .cfgMrrs, .cfgDevSta, .cfgCtoVal, .cfgCtoDis, .cfgAtomEn, .cfgTag10En, .cfgTag14En,
   .cfgMsixEn, .cfgMsixFmask, .aerUncSts, .aerCorSts, .aerHdr, .cfgAcsCtl, .vfEnable, .vfMse, .vfNum, .vfSysPage,
   .vfBar0, .vfBar2, .vfBar4, .atsEnable, .atsStu, .pasidEnable, .tdiState, .tdiIdent, .tdiIdrev, .selSrc, .selTgt,
   .lastRein, .reinWait, .qLastWb, .selVec]

/-- What the loss of Stall links may change (R238, R239). -/
def linkDownFields : List Fld :=
  [.xlbActive, .xlbFenced, .xlbCntFences, .fstCapsSeen, .ffenceRelease, .ffenceWhy, .pgoWin, .pgoPage, .pgoValid,
   .pfHoldUs, .pfForget, .pfDisable, .pfCntLearned, .pfCntHeld, .pfCntLost, .pfCntUnexpected, .obHostBase, .obEn,
   .obTranslated, .obPasidEn, .obNoSnoop, .obAtomics, .obPasid, .qRingBase, .qPidxAddr, .qHidxAddr, .qLog2, .qMsixEn,
   .qMsixVec, .qCoalCount, .qCoalTimeUs, .qcmdEnable, .qcmdDisable, .qcmdPause, .qcmdResume, .qcmdReset, .qState,
   .qArmPending, .qPauseDrv, .qPauseBme, .qRefetch, .qResetBusy, .qHead, .qProd, .qCurDesc, .qCurFrag, .qCurOffset,
   .qStaged, .qHaltCause, .qHaltDetail, .qHaltDesc, .qHaltFrag, .qCntDone, .qCntPoisoned, .evtBase, .evtPidxAddr,
   .evtEn, .evtLog2, .evtFull, .evtEvtFull, .evtProd, .evtCons, .wvStageProgram, .wvCmdSlot, .wvCmdOp, .wvBusy,
   .wvLastSlot, .wvResult, .wvLoaded, .wvuUnit, .wvuHalfRate, .wvSlotProgram, .spMode, .spSelected, .spSelValid,
   .spRotate, .spLines, .spInternal, .spPend, .spMask, .spInservice, .spMaskSet, .spMaskClr, .spPendSet, .spPendClr,
   .spEoi, .spQpend, .spCntPreempt, .spCntStrayEoi, .srcPrio, .srcState, .srcLatch, .srcNextTgt, .srcLastVec,
   .reinsInChg, .reinsOutValue, .reinsPeriodUs, .reinsOutPending, .gstPerst, .gstClkreq, .gstRefclkOk, .gstGated,
   .gstMode, .gstSynth, .lnkDlActive, .lnkFlit, .lnkRate, .lnkWidthNeg, .lnkWidthAct, .lnkReversed, .lnkLtssm,
   .lnkL1sub, .lnkRetired, .lnkPolarity, .lnkEq64Done, .lnkEq128Done, .lnkEq64Fail, .lnkEq128Fail, .lnkFomEnd,
   .lnkCntRecovery, .lnkCntL0pChg, .lnkCntLinkDown, .lnkCntRetire, .slaneFom, .slaneTxpreset, .slaneLame, .psState,
   .psRate, .psWidthRx, .psWidthTx, .psTxDoze, .psRxDoze, .plRxRetired, .plRxmask, .plTxmask, .tlaneLame,
   .pcntLinkDown, .pcntRetire, .stumLame, .errProd, .errCons, .errOverflow, .recStandbyReady, .ehCode, .ehDetail,
   .ehPort, .ehWin, .ehQueue, .ehQvalid, .ehSeq, .ehCause, .ehAddr, .ehLen, .ehAux, .ehTimeUs, .pstLastOff, .thmTjMax,
   .slotPresenceChg, .slotButton, .slotPowerFault, .slotSeqDone, .slotLinkChg, .coreServices, .haltInRing,
   .haltCntBypasses, .pgoaEn, .pgoaWclass, .pgoaOrder, .pgoaSizes, .pgoaAtomics, .pgoaWmode, .pgoaPrefetch, .pgoaSep,
   .tgtVec, .tgtEn, .msixAddr, .msixData, .msixVmask, .msixPend, .cfgMse, .cfgBme, .cfgBmeEff, .cfgPer, .cfgSerr,
   .cfgIntDis, .cfgStatus, .cfgCacheLine, .cfgIntLine, .cfgBar0, .cfgBar2, .cfgBar4, .cfgRomBar, .cfgRomEn,
   .cfgPmState, .cfgPmeSts, .cfgMsiEn, .cfgMsiMme, .cfgMsiAddr, .cfgMsiData, .cfgMsiMask, .cfgMsiPend, .cfgDevErrEn,
   .cfgRoEn, .cfgMps, .cfgExtTag, .cfgNoSnoopEn, .cfgMrrs, .cfgDevSta, .cfgAspm, .cfgRcb, .cfgLnkCtl, .cfgCtoVal,
   .cfgCtoDis, .cfgAtomEn, .cfgLtrEn, .cfgTag10En, .cfgTag14En, .cfgMsixEn, .cfgMsixFmask, .aerUncSts, .aerUncMask,
   .aerUncSev, .aerCorSts, .aerCorMask, .aerCtl, .aerHdr, .cfgAcsCtl, .vfEnable, .vfMse, .vfNum, .vfSysPage, .vfBar0,
   .vfBar2, .vfBar4, .atsEnable, .atsStu, .pasidEnable, .cfgL1pm1, .cfgL1pm2, .ideDw, .cfgLtrSnoop, .cfgLtrNoSnoop,
   .tdiState, .tdiIdent, .tdiIdrev, .selSrc, .selTgt, .lastRein, .reinWait, .qLastWb, .selVec]

/-- What a write of a register may change. -/
def registerFields : List Fld :=
  [.xlbMaxver, .xlbRetryLimit, .xlbRetryGap, .xlbTimeoutUs, .xlbFenceCount, .xlbFenceWindowUs, .xlbVersion, .xlbWidth,
   .xlbHalfDuplex, .xlbAtm, .xlbActive, .xlbFenced, .xlbCapsFail, .xlbCapsFailWhy, .xlbPxOut, .xlbLocalOut,
   .xlbCntFences, .modesLoopback, .didIdent, .drevIdrev, .drevXlbMinor, .drevWidth, .drevHalfDuplex, .fstPortActive,
   .fstCapsSeen, .ffenceRelease, .ffenceWhy, .pgoWin, .pgoPage, .pgoValid, .pfHoldUs, .pfForget, .pfDisable,
   .pfCntLearned, .pfCntHeld, .pfCntLost, .pfCntUnexpected, .obHostBase, .obEn, .obTranslated, .obPasidEn, .obNoSnoop,
   .obAtomics, .obPasid, .qRingBase, .qPidxAddr, .qHidxAddr, .qLog2, .qMsixEn, .qMsixVec, .qCoalCount, .qCoalTimeUs,
   .qState, .qArmPending, .qPauseDrv, .qPauseBme, .qRefetch, .qResetBusy, .qHead, .qProd, .qCurDesc, .qCurFrag,
   .qCurOffset, .qHaltCause, .qHaltDetail, .qHaltDesc, .qHaltFrag, .evtBase, .evtPidxAddr, .evtEn, .evtLog2, .evtFull,
   .evtEvtFull, .evtProd, .evtCons, .wvStageProgram, .wvCmdSlot, .wvCmdOp, .wvBusy, .wvLastSlot, .wvResult, .wvLoaded,
   .wvuUnit, .wvuHalfRate, .wvSlotProgram, .spMode, .spSelected, .spSelValid, .spRotate, .spLines, .spInternal,
   .spPend, .spMask, .spInservice, .spMaskSet, .spMaskClr, .spPendSet, .spPendClr, .spEoi, .spQpend, .spCntPreempt,
   .spCntStrayEoi, .srcPrio, .srcState, .srcLatch, .srcNextTgt, .srcLastVec, .reinsInValue, .reinsInChg,
   .reinsOutValue, .reinsOutSent, .reinsPeriodUs, .reinsOutPending, .flrBoundUs, .seqFomTarget, .seqFomRetire,
   .seqPresets, .seqBypass, .grpForm, .grpClocking, .grpMaxrate, .grpL0pEn, .grpAspmIdleUs, .gstClkreq, .lnkLtssm,
   .lnkL1sub, .lnkCntRecovery, .teqFomTarget, .teqFomRetire, .teqPresets, .pcMaxrate, .pcMaxwidth, .pcLoopback,
   .pcRetrain, .pcReset, .tlcKeepaliveUs, .tlcReplayLimit, .dozeEn, .dozeIdleNs, .dozeEcoIdleNs, .psState, .psRate,
   .psWidthNeg, .psWidthRx, .psWidthTx, .psReversed, .psTxDoze, .psRxDoze, .psPresent, .psPwrgd, .plRxRetired,
   .plTxRetired, .plRxmask, .plTxmask, .tlaneFom, .tlaneTxpreset, .tlaneLame, .pcntLinkDown, .stumThreshold,
   .stumWindowMs, .errProd, .errCons, .errOverflow, .ehCode, .ehDetail, .ehPort, .ehWin, .ehQueue, .ehQvalid, .ehSeq,
   .ehCause, .ehAddr, .ehLen, .ehAux, .ehTimeUs, .shtFetchUs, .pairDetectUs, .pwrSlew, .pwrDroopMaxUs, .pwrDroopEn,
   .broVinMv, .broIlimA, .broStlWidth, .broTthWidth, .gaitTarget, .gaitCurrent, .gaitStandEn, .thmThrottleC,
   .thmHystC, .slotAtnInd, .slotPwrInd, .slotPwrState, .slotPresenceChg, .slotButton, .slotPowerFault, .slotSeqDone,
   .slotLinkChg, .bootCtlNext, .loadShed, .svcTelemMs, .svcShedDepth, .svcVdmEn, .svcSmbSpeed, .svcCntBusy,
   .svcCntRefused, .haltInRing, .haltBypass, .haltCntDrop, .haltCntBypasses, .pgoaEn, .pgoaWclass, .pgoaOrder,
   .pgoaSizes, .pgoaAtomics, .pgoaWmode, .pgoaPrefetch, .pgoaSep, .tgtVec, .tgtEn, .xlbIdent, .xlbIdrev, .msixAddr,
   .msixData, .msixVmask, .msixPend, .cfgMse, .cfgBme, .cfgBmeEff, .cfgPer, .cfgSerr, .cfgIntDis, .cfgStatus,
   .cfgCacheLine, .cfgIntLine, .cfgBar0, .cfgBar2, .cfgBar4, .cfgRomBar, .cfgRomEn, .cfgPmState, .cfgPmeEn,
   .cfgPmeSts, .cfgMsiEn, .cfgMsiMme, .cfgMsiAddr, .cfgMsiData, .cfgMsiMask, .cfgMsiPend, .cfgDevErrEn, .cfgRoEn,
   .cfgMps, .cfgExtTag, .cfgNoSnoopEn, .cfgMrrs, .cfgDevSta, .cfgAspm, .cfgRcb, .cfgLnkCtl, .cfgCtoVal, .cfgCtoDis,
   .cfgAtomEn, .cfgLtrEn, .cfgTag10En, .cfgTag14En, .cfgMsixEn, .cfgMsixFmask, .aerUncSts, .aerUncMask, .aerUncSev,
   .aerCorSts, .aerCorMask, .aerCtl, .aerHdr, .cfgAcsCtl, .vfEnable, .vfMse, .vfNum, .vfSysPage, .vfBar0, .vfBar2,
   .vfBar4, .atsEnable, .atsStu, .pasidEnable, .cfgL1pm1, .cfgL1pm2, .ideDw, .cfgLtrSnoop, .cfgLtrNoSnoop, .tdiState,
   .tdiIdent, .tdiIdrev, .selSrc, .selTgt, .lastRein, .reinWait, .qLastWb, .selVec]

end Sys2Proof.Machine
namespace Sys2Proof
open Sys2Proof.Machine

/-- The fields a command may write; none for those that reset the module or load its image, which may change every field. -/
def Instr.writes : Instr → Option (List Fld)
  | .slotPowerEnable .. | .slotPowerOffDelayExpiry .. | .tetherResetRelease .. | .tthRefclkLoss ..
  | .coreRefclkLoss .. | .marginingCommand .. | .configRead .. | .prefetchAgeExpiry .. | .forget ..
  | .invalidateRequest .. | .invalidateCompletion .. | .capsAbandon .. | .trainBackoffExpiry .. | .replay ..
  | .skipFlit .. | .skipFlitSend .. | .alignmentMarkerSend .. | .narrow .. | .nudgeBurst .. | .loomNarrow
  | .loomWiden | .unitPowerGate .. | .shuttlePark .. | .intxSpacingExpiry .. | .svnCommit | .status
  | .imageData .. | .jtagBypass | .jtagIdcode | .jtagSamplePreload .. | .jtagExtest | .jtagClamp | .jtagHighz
  | .jtagExtestPulse | .jtagExtestTrain | .nudgeArrival .. | .jtagTrstNAssert =>
    some []
  | .tthPwrgdRise .. =>
    some [.slotPwrState]
  | .busMasterEnableWrite .. =>
    some [.cfgBme]
  | .numvfsWrite .. =>
    some [.vfNum]
  | .ltrMechanismEnableSet .. =>
    some [.cfgLtrEn]
  | .interruptDisableWrite .. =>
    some [.cfgIntDis]
  | .fcpErrConsWrite .. =>
    some [.errCons]
  | .hostAck .. | .xlbTagQuarantineExpiry .. | .release .. | .capsResend .. | .narrowReq .. | .dozeIdleExpiry ..
  | .loomTransfer .. | .ackWaitExpiry .. =>
    some [.psTxDoze]
  | .doze .. | .partnerWake .. | .electricalIdleAfterMarker .. =>
    some [.psRxDoze]
  | .spurMaskClr .. =>
    some [.spMask]
  | .spurEoi .. =>
    some [.spCntStrayEoi]
  | .spurResample .. =>
    some [.srcState]
  | .lmsTreeReady =>
    some [.lmsReady]
  | .discover .. =>
    some [.haltVersion]
  | .wake =>
    some [.gaitCurrent]
  | .halterRejoin =>
    some [.haltInRing]
  | .stlRefclkReturn .. =>
    some [.gstRefclkOk]
  | .vstbyRangeChange .. =>
    some [.pstVstbyOk]
  | .gaitTargetWrite .. | .gaitOccupancyWindow .. =>
    some [.gaitTarget, .gaitCurrent]
  | .l0pPartnerRequest .. =>
    some [.lnkWidthAct, .lnkCntL0pChg]
  | .clkreqAssert .. =>
    some [.gstClkreq, .lnkL1sub]
  | .reinsOutWrite .. =>
    some [.reinsOutValue, .reinsOutPending]
  | .tetherReceiverDetect .. =>
    some [.psState, .psRate]
  | .spurMaskSet .. =>
    some [.spMask, .srcState]
  | .lockstepMismatch .. =>
    some [.coreServices, .coreTakeovers]
  | .brownoutExit =>
    some [.psTxDoze, .gaitForcedWalk, .pstBrownout]
  | .droopWindowOpen =>
    some [.gaitFrozen, .pstDroop, .pwrCntDroops]
  | .prstDelayExpiry .. =>
    some [.srcState, .slotSeqDone, .cfgPmeSts]
  | .stlPerstNDeassert .. =>
    some [.gstPerst, .gstClkreq, .gaitCurrent]
  | .l0pOccupancyInterval .. =>
    some [.lnkCntFecCorr, .lnkCntCrcFail, .slaneFom]
  | .aspmIdleExpiry .. =>
    some [.gstClkreq, .lnkLtssm, .lnkL1sub]
  | .reinsSend .. =>
    some [.reinsOutSent, .reinsOutPending, .psTxDoze]
  | .spurPendSet .. | .spurPendClr .. =>
    some [.srcState, .srcLatch, .cfgPmeSts]
  | .groomWatchdogExpiry .. =>
    some [.coreServices, .coreTakeovers, .svcCntWdt]
  | .telemetryPeriodExpiry .. =>
    some [.telVinMv, .telIin, .thmTjMax]
  | .bypass .. =>
    some [.haltInRing, .haltBypass, .haltCntBypasses]
  | .linkRecovery .. =>
    some [.lnkLtssm, .lnkL1sub, .lnkCntRecovery]
  | .pmeTurnOff .. =>
    some [.gstClkreq, .lnkDlActive, .lnkLtssm, .lnkL1sub]
  | .poweringOffDone .. =>
    some [.srcState, .slotPwrState, .slotSeqDone, .cfgPmeSts]
  | .tthAtnbtnPress .. =>
    some [.srcState, .gaitCurrent, .slotButton, .cfgPmeSts]
  | .hostTagQuarantineExpiry .. =>
    some [.gstClkreq, .lnkLtssm, .lnkL1sub, .lnkCntRecovery]
  | .spurSrcCfgWrite .. =>
    some [.srcPrio, .srcState, .tgtVec, .tgtEn]
  | .thermalRaise .. =>
    some [.psTxDoze, .gaitCurrent, .gaitThermLimit, .pstThrottle, .thmTjMax]
  | .thermalTripEnd =>
    some [.psTxDoze, .gaitCurrent, .gaitForcedWalk, .pstHwTrip, .thmTjMax]
  | .pwrgdMsExpiry .. =>
    some [.srcState, .slotPwrState, .slotPowerFault, .slotSeqDone, .cfgPmeSts]
  | .flushAnswer .. =>
    some [.gstClkreq, .lnkLtssm, .lnkL1sub, .lnkCntRecovery, .psTxDoze]
  | .coalTimerExpiry .. =>
    some [.gstClkreq, .lnkLtssm, .lnkL1sub, .lnkCntRecovery, .qLastWb]
  | .spurSelect .. =>
    some [.spCntPreempt, .srcState, .selSrc, .selTgt, .selVec]
  | .reinsPeriodExpiry .. =>
    some [.srcState, .srcLatch, .cfgPmeSts, .lastRein, .reinWait]
  | .groomFrame .. =>
    some [.loadPtPct, .loadFhPct, .loadBePct, .loadShed, .svcCntSheds]
  | .tthPrsntInsertion .. =>
    some [.srcState, .gaitCurrent, .slotPwrState, .slotPresenceChg, .slotSeqDone, .cfgPmeSts]
  | .headWritebackAccepted .. =>
    some [.spQpend, .gstClkreq, .lnkLtssm, .lnkL1sub, .lnkCntRecovery, .msixPend, .cfgMsiPend]
  | .vectorControlMaskClear .. =>
    some [.gstClkreq, .lnkLtssm, .lnkL1sub, .lnkCntRecovery, .msixVmask, .msixPend, .cfgMsiPend, .cfgMsixFmask]
  | .deliveryFormChange .. =>
    some [.srcState, .gstClkreq, .lnkLtssm, .lnkL1sub, .lnkCntRecovery, .msixPend, .cfgMsiEn, .cfgMsiPend, .cfgMsixEn]
  | .getVersion .. | .getCertificate .. | .challenge .. | .getMeasurements .. | .keyExchange .. | .endSession ..
  | .getHssChain .. | .getHssState .. | .query .. | .keyProg .. | .getDeviceInterfaceReport .. | .setEndpointId ..
  | .pldmSensorRead .. | .debugUnlock .. | .finish .. | .keyUpdate .. | .heartbeat .. | .getCapabilities ..
  | .negotiateAlgorithms .. | .getDigests .. | .chunkSend .. | .chunkGet .. =>
    some [.gstClkreq, .lnkLtssm, .lnkL1sub, .lnkCntRecovery, .gaitCurrent, .loadShed, .svcCntBusy, .svcCntRefused,
     .haltCntDrop, .msixPend]
  | .queuePaused .. =>
    some [.qState, .evtEvtFull, .evtProd, .srcState, .gstClkreq, .lnkLtssm, .lnkL1sub, .lnkCntRecovery, .psTxDoze,
     .cfgPmeSts, .qLastWb]
  | .evtCtrlWrite .. =>
    some [.evtEn, .evtLog2, .evtEvtFull, .evtProd, .srcState, .gstClkreq, .lnkLtssm, .lnkL1sub, .lnkCntRecovery, .psTxDoze,
     .cfgPmeSts]
  | .spurIssueCommit .. =>
    some [.spRotate, .srcState, .srcLatch, .srcNextTgt, .srcLastVec, .gstClkreq, .lnkLtssm, .lnkL1sub, .lnkCntRecovery,
     .msixPend, .cfgMsiPend]
  | .kSetGo .. =>
    some [.gstClkreq, .lnkLtssm, .lnkL1sub, .lnkCntRecovery, .gaitCurrent, .loadShed, .svcCntBusy, .svcCntRefused,
     .haltCntDrop, .msixPend, .cfgMsiPend]
  | .startInterfaceRequest .. =>
    some [.gstClkreq, .lnkLtssm, .lnkL1sub, .lnkCntRecovery, .gaitCurrent, .loadShed, .svcCntBusy, .svcCntRefused,
     .haltCntDrop, .msixPend, .tdiState]
  | .doeRequest .. | .mctp .. =>
    some [.gstClkreq, .lnkLtssm, .lnkL1sub, .lnkCntRecovery, .gaitCurrent, .loadShed, .svcCntBusy, .svcCntSheds,
     .svcCntRefused, .haltCntDrop, .msixPend]
  | .countersign .. =>
    some [.gstClkreq, .lnkLtssm, .lnkL1sub, .lnkCntRecovery, .gaitCurrent, .lmsReady, .lmsIndex, .loadShed, .svcCntBusy,
     .svcCntRefused, .haltCntDrop, .msixPend]
  | .lockInterfaceRequest .. =>
    some [.gstClkreq, .lnkLtssm, .lnkL1sub, .lnkCntRecovery, .gaitCurrent, .loadShed, .svcCntBusy, .svcCntRefused,
     .haltCntDrop, .msixPend, .tdiState, .tdiIdent, .tdiIdrev]
  | .halterFrameForward .. =>
    some [.gstClkreq, .lnkLtssm, .lnkL1sub, .lnkCntRecovery, .gaitCurrent, .loadShed, .svcCntBusy, .svcCntSheds,
     .svcCntRefused, .haltDupId, .haltVersion, .haltCntCrcFail, .haltCntDrop, .msixPend]
  | .interruptFenceRelease .. =>
    some [.evtEvtFull, .evtProd, .spLines, .srcState, .srcLatch, .reinsInValue, .reinsInChg, .gstClkreq, .lnkLtssm,
     .lnkL1sub, .lnkCntRecovery, .psTxDoze, .cfgPmeSts, .lastRein, .reinWait]
  | .linkReturnToL0 .. =>
    some [.gstClkreq, .lnkRate, .lnkWidthNeg, .lnkWidthAct, .lnkReversed, .lnkLtssm, .lnkL1sub, .lnkEq64Done,
     .lnkEq128Done, .lnkEq64Fail, .lnkEq128Fail, .lnkFomEnd, .lnkCntRecovery, .slaneFom, .slaneTxpreset]
  | .linkDlUp .. =>
    some [.lnkDlActive, .lnkFlit, .lnkRate, .lnkWidthNeg, .lnkWidthAct, .lnkReversed, .lnkLtssm, .lnkPolarity,
     .lnkEq64Done, .lnkEq128Done, .lnkEq64Fail, .lnkEq128Fail, .lnkFomEnd, .slaneFom, .slaneTxpreset, .recStandbyReady]
  | .doorbell .. =>
    some [.qState, .qArmPending, .qRefetch, .qHaltCause, .qHaltDetail, .qHaltDesc, .qHaltFrag, .evtEvtFull, .evtProd,
     .srcState, .gstClkreq, .lnkLtssm, .lnkL1sub, .lnkCntRecovery, .psTxDoze, .cfgPmeSts, .qLastWb]
  | .queueDrainEnd .. => some queueDrainFields
  | .queueResetDone .. => some queueResetFields
  | .prefetchHoldExpiry .. | .credit .. | .pad .. | .weaveLoad .. | .weaveClear .. => some logFields
  | .shtQheadWrite .. => some queueHeadFields
  | .evtConsWrite .. => some evtConsFields
  | .queueContextWrite .. => some queueContextFields
  | .hostCompletion .. | .completionTimeout .. | .fetchTimeout .. => some completionFields
  | .registerAccessRead .. => some readFields
  | .hostWindowAtomic .. | .retryGapExpiry .. | .loomSliceResume | .chunkReadIssue .. | .rspDone ..
  | .rspDonePoison .. | .rspFault .. | .rspNotarget .. | .rspSidefx .. | .rspRetry .. | .rspSize ..
  | .rspSidefxDone .. | .xlbRequestTimeout .. | .translationCompletion .. | .chunkReadData .. | .localMasterRd ..
  | .localMasterWr .. | .localMasterWrf .. | .localMasterAtm .. | .localMasterFlush .. | .localMasterNop ..
  | .lines .. | .reins .. | .event .. | .vendor .. | .producerIndex .. | .qcmdEnable .. | .qcmdDisable ..
  | .qcmdPause .. | .qcmdResume .. | .qcmdReset .. | .descriptorFetchData .. | .chunkWriteDone ..
  | .fragmentTableData .. => some dataFields
  | .caps .. => some capsFields
  | .ideCheckFail .. | .d3hotEntry .. | .d0Return .. | .weaveCmdDone .. | .bmeClearEffect .. | .bmeSetEffect ..
  | .atsEnableClear .. | .pasidEnableClear .. | .stuWrite .. | .barWrite .. | .kSetStop .. => some masteringFields
  | .pgoWrite .. | .trainingBlock .. | .adaptPresetDwellExpiry .. | .tetherStateLimitExpiry .. => some trainFields
  | .hostWindowRead .. | .hostRomRead .. | .fcpRead .. => some pageReadFields
  | .brownoutEntry .. | .droopWindowClose | .droopMaxExpiry | .droopEarlyRelease .. | .nakHoldoffExpiry ..
  | .gaitUpshiftStep | .standEntry | .retrain .. | .symbolLock .. | .deskewDone .. | .nudgeCheckExpiry ..
  | .tetherKeepaliveExpiry .. | .alignmentMarker .. | .narrowSwitch .. | .thermalThrottleStep .. | .thermalTrip
  | .tthPrsntRemoval .. | .tthPwrgdFall .. => some tetherFields
  | .flit .. => some flitFields
  | .slotPowerOnRequest .. | .slotPowerOffRequest .. | .slotReset .. | .tthPrstNLow .. | .portReset .. => some slotFields
  | .shuttleMoveDone .. => some shuttleMoveFields
  | .failoverSwitch .. | .vfEnableClear .. | .vfEnableSet .. | .initiateFunctionLevelReset ..
  | .stopInterfaceRequest .. | .flrDrainEnd .. | .flrBoundExpiry .. => some functionResetFields
  | .thermalShutdown | .fomRetireWindowExpiry .. | .stlPerstNAssert .. | .stlRefclkLoss .. | .linkLoss ..
  | .hotReset .. | .linkDisable .. | .pairedDetectExpiry .. | .imageNotReadyTimeout .. | .l0pAcceptance .. => some linkDownFields
  | .configWrite .. | .hostWindowWrite .. | .registerWrite .. | .registerAccessWrite .. => some registerFields
  | .vinPowerUp .. | .vstbyPowerUp .. | .vinUvloFall | .vinOvloRise | .vinReturn | .vstbyLoss | .thermalRestart
  | .bootRomStart .. | .stumble .. | .groomTakeoverDone | .stallGroupsSectionArrival .. | .imageCopyCheck ..
  | .imageReady | .imageActivation .. | .pldmTransfer .. | .pldmUpdateIdleExpiry | .deferredModuleReset
  | .moduleReset .. | .imageReqTimeout => none

/-- The parts of the block beside the fields that a command may change. -/
def Instr.parts : Instr → List Part
  | .numvfsWrite .. | .fcpErrConsWrite .. | .skipFlit .. | .doze .. | .spurSelect .. | .spurMaskSet ..
  | .spurMaskClr .. | .spurSrcCfgWrite .. | .bypass .. | .stlRefclkReturn .. | .nudgeArrival .. | .partnerWake ..
  | .electricalIdleAfterMarker .. | .vstbyRangeChange .. =>
    []
  | .droopWindowOpen | .gaitTargetWrite .. | .gaitOccupancyWindow .. | .wake =>
    [.pow]
  | .tthRefclkLoss .. | .coreRefclkLoss .. =>
    [.refs]
  | .clkreqAssert .. | .linkRecovery .. =>
    [.links]
  | .busMasterEnableWrite .. | .prefetchAgeExpiry .. | .forget .. | .spurEoi .. =>
    [.fns]
  | .ltrMechanismEnableSet .. | .nudgeBurst .. =>
    [.out]
  | .capsAbandon .. =>
    [.xlb]
  | .trainBackoffExpiry .. | .replay .. | .narrow .. =>
    [.tth]
  | .loomNarrow =>
    [.loom]
  | .unitPowerGate .. =>
    [.gated]
  | .queueResetDone .. =>
    [.queues]
  | .groomFrame .. | .telemetryPeriodExpiry .. | .lmsTreeReady =>
    [.grm]
  | .svnCommit =>
    [.fuses]
  | .discover .. =>
    [.halt]
  | .jtagBypass | .jtagExtest | .jtagClamp | .jtagHighz | .jtagExtestPulse | .jtagExtestTrain | .jtagTrstNAssert =>
    [.tap]
  | .pmeTurnOff .. =>
    [.groups, .out]
  | .slotPowerOffDelayExpiry .. | .tetherResetRelease .. =>
    [.pins, .slots]
  | .stlPerstNDeassert .. =>
    [.groups, .pow]
  | .l0pPartnerRequest .. | .interruptDisableWrite .. | .intxSpacingExpiry .. =>
    [.links, .out]
  | .configRead .. =>
    [.freeCtr, .out]
  | .reinsOutWrite .. =>
    [.nextId, .fns]
  | .invalidateRequest .. =>
    [.fns, .ats]
  | .shuttlePark .. =>
    [.parked, .gated]
  | .lockstepMismatch .. | .groomWatchdogExpiry .. =>
    [.stums, .grm]
  | .status | .halterRejoin =>
    [.halt, .out]
  | .jtagIdcode =>
    [.tap, .out]
  | .slotPowerEnable .. =>
    [.pins, .slots, .pow]
  | .tthPwrgdRise .. =>
    [.xlb, .pins, .slots]
  | .l0pOccupancyInterval .. =>
    [.links, .pow, .out]
  | .aspmIdleExpiry .. =>
    [.links, .groups, .out]
  | .marginingCommand .. =>
    [.freeCtr, .links, .out]
  | .prefetchHoldExpiry .. | .spurPendSet .. | .spurPendClr .. | .reinsPeriodExpiry .. =>
    [.fns, .groups, .out]
  | .invalidateCompletion .. =>
    [.fns, .ats, .out]
  | .skipFlitSend .. | .alignmentMarkerSend .. | .dozeIdleExpiry .. =>
    [.tth, .out, .wire]
  | .loomWiden =>
    [.pow, .loom, .gated]
  | .spurResample .. =>
    [.links, .fns, .out]
  | .stallGroupsSectionArrival .. =>
    [.sg, .groups, .halt]
  | .imageData .. =>
    [.boot, .halt, .out]
  | .jtagSamplePreload .. =>
    [.freeCtr, .tap, .out]
  | .pwrgdMsExpiry .. =>
    [.fns, .pins, .groups, .out]
  | .tthAtnbtnPress .. =>
    [.fns, .groups, .pow, .out]
  | .tetherReceiverDetect .. =>
    [.tth, .gated, .out, .wire]
  | .narrowReq .. | .ackWaitExpiry .. =>
    [.tth, .pow, .out, .wire]
  | .shtQheadWrite .. | .queueContextWrite .. =>
    [.fns, .queues, .groups, .out]
  | .weaveLoad .. | .weaveClear .. =>
    [.nextId, .fns, .groups, .out]
  | .brownoutExit | .thermalRaise .. =>
    [.tth, .links, .pow, .out, .wire]
  | .prstDelayExpiry .. =>
    [.fns, .pins, .groups, .slots, .out]
  | .poweringOffDone .. =>
    [.xlb, .fns, .groups, .slots, .out]
  | .linkDlUp .. =>
    [.links, .fns, .groups, .gated, .out]
  | .deliveryFormChange .. | .spurIssueCommit .. | .vectorControlMaskClear .. =>
    [.links, .groups, .pow, .out, .xings]
  | .reinsSend .. | .release .. | .capsResend .. =>
    [.xlb, .tth, .pow, .out, .wire]
  | .thermalTripEnd =>
    [.freeCtr, .tth, .links, .pow, .out, .wire]
  | .hostTagQuarantineExpiry .. | .linkReturnToL0 .. =>
    [.freeCtr, .links, .fns, .groups, .pow, .out]
  | .xlbTagQuarantineExpiry .. =>
    [.freeCtr, .xlb, .tth, .pow, .out, .wire]
  | .loomTransfer .. =>
    [.xlb, .tth, .pow, .loom, .out, .wire]
  | .coalTimerExpiry .. | .headWritebackAccepted .. =>
    [.links, .queues, .groups, .pow, .out, .xings]
  | .tthPrsntInsertion .. =>
    [.xlb, .fns, .pins, .groups, .slots, .pow, .out]
  | .flrDrainEnd .. | .flrBoundExpiry .. =>
    [.links, .fns, .queues, .groups, .pow, .out, .xings]
  | .getVersion .. | .getCertificate .. | .endSession .. | .getHssChain .. | .getHssState .. | .query ..
  | .keyProg .. | .lockInterfaceRequest .. | .startInterfaceRequest .. | .getDeviceInterfaceReport ..
  | .doeRequest .. | .setEndpointId .. | .pldmSensorRead .. | .mctp .. | .finish .. | .keyUpdate ..
  | .heartbeat .. | .getCapabilities .. | .negotiateAlgorithms .. | .getDigests .. | .chunkSend .. =>
    [.links, .fns, .groups, .pow, .grm, .out, .xings]
  | .credit .. | .pad .. =>
    [.freeCtr, .xlb, .tth, .fns, .groups, .pow, .out, .wire]
  | .challenge .. | .getMeasurements .. | .kSetGo .. | .registerAccessRead .. | .chunkGet .. =>
    [.freeCtr, .links, .fns, .groups, .pow, .grm, .out, .xings]
  | .debugUnlock .. =>
    [.links, .fns, .groups, .pow, .grm, .tap, .out, .xings]
  | .interruptFenceRelease .. | .evtCtrlWrite .. | .evtConsWrite .. =>
    [.xlb, .tth, .links, .fns, .groups, .pow, .out, .wire, .xings]
  | .keyExchange .. =>
    [.freeCtr, .nextId, .links, .fns, .groups, .pow, .grm, .out, .xings]
  | .countersign .. =>
    [.freeCtr, .links, .fns, .groups, .pow, .fuses, .grm, .out, .xings]
  | .halterFrameForward .. =>
    [.links, .fns, .groups, .pow, .boot, .grm, .halt, .out, .xings]
  | .hostAck .. =>
    [.freeCtr, .xlb, .tth, .links, .queues, .pow, .out, .wire, .loomBack, .xings]
  | .queuePaused .. =>
    [.xlb, .tth, .links, .fns, .queues, .groups, .pow, .out, .wire, .xings]
  | .hostCompletion .. | .fetchTimeout .. =>
    [.freeCtr, .xlb, .tth, .links, .fns, .queues, .groups, .pow, .out, .wire, .loomBack, .xings]
  | .flushAnswer .. =>
    [.freeCtr, .nextId, .xlb, .tth, .links, .fns, .groups, .pow, .out, .wire, .loomBack, .xings]
  | .queueDrainEnd .. =>
    [.freeCtr, .nextId, .xlb, .tth, .links, .fns, .queues, .groups, .pow, .out, .wire, .xings]
  | .hostWindowRead .. | .hostWindowAtomic .. | .hostRomRead .. | .fcpRead .. | .rspDone .. | .rspDonePoison ..
  | .rspFault .. | .rspNotarget .. | .rspSidefx .. | .rspRetry .. | .rspSize .. | .rspSidefxDone ..
  | .xlbRequestTimeout .. | .retryGapExpiry .. | .lines .. | .reins .. | .event .. | .vendor .. =>
    [.freeCtr, .nextId, .xlb, .tth, .links, .fns, .queues, .groups, .pow, .jobs, .out, .wire, .loomBack, .xings]
  | .completionTimeout .. =>
    [.freeCtr, .nextId, .xlb, .tth, .links, .fns, .queues, .groups, .pow, .ats, .out, .wire, .loomBack, .xings]
  | .doorbell .. =>
    [.freeCtr, .nextId, .xlb, .tth, .links, .fns, .queues, .groups, .pow, .parked, .gated, .out, .wire, .xings]
  | .stlRefclkLoss .. | .linkLoss .. | .hotReset .. | .linkDisable .. | .l0pAcceptance .. | .pairedDetectExpiry ..
  | .initiateFunctionLevelReset .. | .translationCompletion .. | .localMasterRd .. | .localMasterWr ..
  | .localMasterWrf .. | .localMasterAtm .. | .localMasterFlush .. | .localMasterNop .. | .producerIndex ..
  | .descriptorFetchData .. | .fragmentTableData .. | .chunkReadData .. | .chunkWriteDone ..
  | .imageNotReadyTimeout .. =>
    [.freeCtr, .nextId, .xlb, .tth, .links, .fns, .queues, .groups, .pow, .jobs, .ats, .out, .wire, .loomBack, .xings]
  | .loomSliceResume =>
    [.freeCtr, .nextId, .xlb, .tth, .links, .fns, .queues, .groups, .pow, .loom, .jobs, .ats, .out, .wire, .loomBack,
     .xings]
  | .chunkReadIssue .. =>
    [.freeCtr, .nextId, .xlb, .tth, .links, .fns, .queues, .groups, .pow, .jobs, .ats, .out, .shutRot, .wire,
     .loomBack, .xings]
  | .stopInterfaceRequest .. =>
    [.freeCtr, .nextId, .xlb, .tth, .links, .fns, .queues, .groups, .pow, .jobs, .ats, .grm, .out, .wire, .loomBack,
     .xings]
  | .brownoutEntry .. | .droopEarlyRelease .. | .thermalThrottleStep .. | .thermalTrip | .standEntry | .retrain ..
  | .fomRetireWindowExpiry .. | .ideCheckFail .. | .failoverSwitch .. | .bmeClearEffect .. | .bmeSetEffect ..
  | .vfEnableClear .. | .vfEnableSet .. | .barWrite .. | .atsEnableClear .. | .pasidEnableClear .. | .stuWrite ..
  | .d3hotEntry .. | .d0Return .. | .pgoWrite .. | .caps .. | .trainingBlock .. | .adaptPresetDwellExpiry ..
  | .tetherStateLimitExpiry .. | .symbolLock .. | .deskewDone .. | .nakHoldoffExpiry .. | .alignmentMarker ..
  | .narrowSwitch .. | .nudgeCheckExpiry .. | .tetherKeepaliveExpiry .. | .qcmdEnable .. | .qcmdDisable ..
  | .qcmdPause .. | .qcmdResume .. | .qcmdReset .. | .weaveCmdDone .. =>
    [.freeCtr, .nextId, .xlb, .tth, .links, .fns, .queues, .groups, .pow, .jobs, .ats, .parked, .gated, .out, .wire,
     .loomBack, .xings]
  | .stlPerstNAssert .. =>
    [.freeCtr, .nextId, .xlb, .tth, .links, .fns, .queues, .groups, .pow, .stums, .jobs, .ats, .gated, .out, .wire,
     .loomBack, .xings]
  | .configWrite .. | .kSetStop .. =>
    [.freeCtr, .nextId, .xlb, .tth, .links, .fns, .queues, .groups, .pow, .jobs, .ats, .parked, .gated, .grm, .out,
     .wire, .loomBack, .xings]
  | .flit .. =>
    [.freeCtr, .nextId, .xlb, .tth, .links, .fns, .queues, .groups, .pow, .stums, .jobs, .ats, .parked, .gated, .out,
     .wire, .loomBack, .xings]
  | .shuttleMoveDone .. =>
    [.freeCtr, .nextId, .xlb, .tth, .links, .fns, .queues, .groups, .pow, .jobs, .ats, .parked, .gated, .moves, .out,
     .wire, .loomBack, .xings]
  | .imageCopyCheck .. | .imageReqTimeout =>
    [.freeCtr, .nextId, .sg, .xlb, .tth, .links, .fns, .queues, .groups, .pow, .jobs, .ats, .boot, .halt, .out, .wire,
     .loomBack, .xings]
  | .thermalShutdown =>
    [.freeCtr, .nextId, .xlb, .tth, .links, .fns, .queues, .pins, .groups, .pow, .jobs, .ats, .parked, .gated, .tap,
     .out, .wire, .loomBack, .xings]
  | .tthPrsntRemoval .. | .tthPwrgdFall .. =>
    [.freeCtr, .nextId, .xlb, .tth, .links, .fns, .queues, .pins, .groups, .slots, .pow, .jobs, .ats, .parked, .gated,
     .out, .wire, .loomBack, .xings]
  | .droopWindowClose | .droopMaxExpiry | .gaitUpshiftStep =>
    [.freeCtr, .nextId, .xlb, .tth, .links, .fns, .queues, .pins, .groups, .slots, .pow, .loom, .jobs, .ats, .parked,
     .gated, .out, .wire, .loomBack, .xings]
  | .slotPowerOnRequest .. | .slotPowerOffRequest .. | .slotReset .. | .tthPrstNLow .. | .portReset ..
  | .hostWindowWrite .. | .registerWrite .. =>
    [.freeCtr, .nextId, .xlb, .tth, .links, .fns, .queues, .pins, .groups, .slots, .pow, .stums, .jobs, .ats, .parked,
     .gated, .out, .wire, .loomBack, .xings]
  | .bootRomStart .. =>
    [.freeCtr, .nextId, .sg, .xlb, .tth, .links, .fns, .queues, .groups, .pow, .fuses, .jobs, .ats, .boot, .grm,
     .halt, .tap, .refs, .out, .wire, .loomBack, .xings]
  | .registerAccessWrite .. =>
    [.freeCtr, .nextId, .xlb, .tth, .links, .fns, .queues, .pins, .groups, .slots, .pow, .stums, .fuses, .jobs, .ats,
     .parked, .gated, .grm, .out, .wire, .loomBack, .xings]
  | .imageReady =>
    [.freeCtr, .nextId, .img, .sg, .xlb, .tth, .links, .fns, .queues, .groups, .slots, .pow, .stums, .jobs, .ats,
     .buckets, .gated, .boot, .grm, .halt, .out, .wire, .loomBack, .xings]
  | .thermalRestart | .imageActivation .. | .pldmUpdateIdleExpiry | .deferredModuleReset =>
    [.time, .img, .sg, .xlb, .tth, .links, .fns, .queues, .pins, .groups, .slots, .pow, .loom, .stums, .jobs, .ats,
     .buckets, .parked, .gated, .lameSh, .moves, .boot, .grm, .halt, .refs, .shutRot, .loomBack]
  | .vinReturn =>
    [.time, .img, .sg, .xlb, .tth, .links, .fns, .queues, .pins, .groups, .slots, .pow, .loom, .stums, .jobs, .ats,
     .buckets, .parked, .gated, .lameSh, .moves, .boot, .grm, .halt, .tap, .refs, .shutRot, .loomBack]
  | .vinPowerUp .. | .vstbyPowerUp .. | .vstbyLoss =>
    [.time, .straps, .img, .sg, .xlb, .tth, .links, .fns, .queues, .pins, .groups, .slots, .pow, .loom, .stums, .jobs,
     .ats, .buckets, .parked, .gated, .lameSh, .moves, .boot, .grm, .halt, .tap, .refs, .shutRot, .loomBack]
  | .moduleReset .. =>
    [.time, .img, .sg, .xlb, .tth, .links, .fns, .queues, .pins, .groups, .slots, .pow, .loom, .stums, .jobs, .ats,
     .buckets, .parked, .gated, .lameSh, .moves, .boot, .grm, .halt, .refs, .out, .shutRot, .loomBack, .xings]
  | .groomTakeoverDone | .pldmTransfer .. =>
    [.time, .img, .sg, .xlb, .tth, .links, .fns, .queues, .pins, .groups, .slots, .pow, .loom, .stums, .fuses, .jobs,
     .ats, .buckets, .parked, .gated, .lameSh, .moves, .boot, .grm, .halt, .refs, .out, .shutRot, .loomBack, .xings]
  | .stumble .. =>
    [.time, .freeCtr, .nextId, .img, .sg, .xlb, .tth, .links, .fns, .queues, .pins, .groups, .slots, .pow, .loom,
     .stums, .jobs, .ats, .buckets, .parked, .gated, .lameSh, .moves, .boot, .grm, .halt, .tap, .refs, .out, .shutRot,
     .wire, .loomBack, .xings]
  | .vinUvloFall | .vinOvloRise =>
    [.time, .freeCtr, .nextId, .straps, .img, .sg, .xlb, .tth, .links, .fns, .queues, .pins, .groups, .slots, .pow,
     .loom, .stums, .jobs, .ats, .buckets, .parked, .gated, .lameSh, .moves, .boot, .grm, .halt, .tap, .refs, .out,
     .shutRot, .wire, .loomBack, .xings]

/-- Block b is a but for what a command may change. -/
def Instr.keeps (i : Instr) (a b : Block) : Prop :=
  (match i.writes with
    | some fs => ∀ f, f ∉ fs → ∀ x j, b.rd f x j = a.rd f x j
    | none => True) ∧
  ∀ p, p ∉ i.parts → p.same a b

end Sys2Proof
end

