-- ==== Sys2Proof/Certificates/Slice0/Obligations.lean ====
section
/-! DEFINITION. The statements about the block that the provers take up, each with the rules of the specification it formalises. -/
open Sys2Proof Sys2Proof.Machine Sys2Proof.Machine.Block

/-- A step runs the command at the front of the queue; an empty queue idles (log entry 2). Chapter: 00_scope.md. -/
def Obligations.FrontFirst : Prop :=
  (∀ (s : State) (c : Instr) (rest : List Instr), step { s with pending := c :: rest } = exec c { s with pending := rest }) ∧
  (∀ s : State, s.pending = [] → ∃ t, step s = .next t ∧ t.pending = [] ∧ t.blk = { s.blk with time := s.blk.time + 1 })

/-- Every command answers a next state with its queue kept: none faults, none is refused. Chapter: 95_what_each_step_holds.md. -/
def Obligations.CommandsAnswer : Prop :=
  ∀ (c : Instr) (s : State), ∃ t, exec c s = .next t ∧ t.pending = s.pending ∧ t.blk.tidy = true

/-- Every command changes only the register fields and parts of state of its footprint. Chapter: 95_what_each_step_holds.md. -/
def Obligations.CommandFootprints : Prop :=
  ∀ (c : Instr) (s t : State), exec c s = .next t → c.keeps s.blk t.blk

/-- Every step keeps the invariant: tables in canonical form, every waiting command well formed. Chapter: 00_scope.md. -/
def Obligations.InvariantKept : Prop :=
  ∀ s t : State, s.Inv → step s = .next t → t.Inv

/-- The reset state meets the invariant. Chapter: 00_scope.md. -/
def Obligations.ResetInvariant : Prop :=
  State.reset.Inv

/-- After reset: no power, no image, and every register field with a stated reset value has it. Rules: R13, R12. -/
def Obligations.ResetState : Prop :=
  State.reset.pending = [] ∧ State.reset.blk.pow.st = .off ∧ State.reset.blk.img = none ∧ State.reset.blk.stage = 0 ∧
  ∀ (f : Fld) (i j n : Nat), (Fld.attr f).rst = .val n → State.reset.blk.rd f i j = n

/-- What power coming up, VIN leaving its range and VSTBY do to the module. Rules: R310, R311, R292. -/
def Obligations.PowerOnAndOff : Prop :=
  ((∀ (s : State) (str : Straps) (ok : Bool), s.blk.pow.st = .off →
    s.does (.vinPowerUp str ok) fun b => b.straps = str ∧ b.pow.st = .on ∧ b.time = 0 ∧ b.img = none ∧ b.fuses = s.blk.fuses ∧
      b.rd .pstVinOk 0 = 1 ∧ b.rd .pstVstbyOk 0 = b2n ok ∧
      ∀ f i j n, (Fld.attr f).rst = .val n → pinField f = false → f ≠ .pstVinOk → f ≠ .pstVstbyOk → b.rd f i j = n) ∧
  (∀ (s : State) (str : Straps), s.blk.pow.st = .off →
    s.does (.vstbyPowerUp str) fun b => b.straps = str ∧ b.pow.st = .hold ∧ b.fuses = s.blk.fuses ∧ b.rd .pstVstbyOk 0 = 1 ∧
      b.rd .pstVinOk 0 = 0) ∧
  (∀ s : State, s.blk.pow.st = .hold → s.does .vinReturn fun b => b.pow.st = .on ∧ b.rd .pstVinOk 0 = 1 ∧ b.rd .gaitCurrent 0 = 1 ∧
      (s.blk.stage ≠ 5 → b.time = 0 ∧ b.img = none))) ∧
  ((∀ s : State, (s.blk.pow.st = .on ∨ s.blk.pow.st = .stand) → s.blk.flag .pstVstbyOk 0 = true →
    (s.does .vinUvloFall fun b => b.pow.st = .hold ∧ b.rd .pstVinOk 0 = 0 ∧ b.rd .pstLastOff 0 = 4 ∧ b.rd .coreServices 0 = 0) ∧
    (s.does .vinOvloRise fun b => b.pow.st = .hold ∧ b.rd .pstVinOk 0 = 0 ∧ b.rd .pstLastOff 0 = 3 ∧ b.rd .coreServices 0 = 0)) ∧
  (∀ s : State, (s.blk.pow.st = .on ∨ s.blk.pow.st = .stand) → s.blk.flag .pstVstbyOk 0 = false →
    (s.does .vinUvloFall fun b => b.pow.st = .off ∧ b.rd .pstVinOk 0 = 0 ∧ b.fuses = s.blk.fuses) ∧
    (s.does .vinOvloRise fun b => b.pow.st = .off ∧ b.rd .pstVinOk 0 = 0 ∧ b.fuses = s.blk.fuses)) ∧
  (∀ s : State, s.blk.pow.st = .hold → s.does .vstbyLoss fun b => b.pow.st = .off ∧ b.rd .pstVstbyOk 0 = 0 ∧ b.fuses = s.blk.fuses) ∧
  (∀ (s : State) (ok : Bool), s.blk.flag .pstVinOk 0 = true → s.does (.vstbyRangeChange ok) fun b => b.rd .pstVstbyOk 0 = b2n ok))

/-- Module reset restores every field but cold-reset fields and pin levels, and asks for the reference clocks. Rules: R329, R11, R12. -/
def Obligations.ModuleResetRestores : Prop :=
  ∀ s : State, s.blk.pow.st = .thermOff → s.blk.flag .pstVinOk 0 = true → s.does .thermalRestart fun b =>
    b.pow.st = .on ∧ b.time = 0 ∧ b.img = none ∧ b.straps = s.blk.straps ∧ b.fuses = s.blk.fuses ∧
    (∀ g < 56, s.blk.flag .gstPerst g = false → b.flag .gstClkreq g = true) ∧
    ∀ f i j n, (Fld.attr f).rst = .val n → f ≠ .gstClkreq →
      b.rd f i j = if (Fld.attr f).lvl = .cold ∨ pinField f = true then s.blk.rd f i j else n

/-- Brownout forces Walk and counts; a droop window freezes the gait until it closes. Rules: R312, R313, R315, R316, R317. -/
def Obligations.BrownoutAndDroop : Prop :=
  (∀ (s : State) (v i : Nat), s.blk.inService = true → s.blk.flag .pstBrownout 0 = false →
    (v < s.blk.rd .broVinMv 0 ∨ i > 100 * s.blk.rd .broIlimA 0) → s.does (.brownoutEntry v i) fun b =>
      b.rd .pstBrownout 0 = 1 ∧ b.rd .gaitForcedWalk 0 = 1 ∧ b.rd .pwrCntBrownouts 0 = min (s.blk.rd .pwrCntBrownouts 0 + 1) (2 ^ (Fld.attr .pwrCntBrownouts).width - 1) ∧
      b.rd .telVinMv 0 = v % 2 ^ (Fld.attr .telVinMv).width ∧ b.rd .telIin 0 = i % 2 ^ (Fld.attr .telIin).width ∧
      (s.blk.pow.st = .on → b.rd .gaitCurrent 0 ≤ 1)) ∧
  (∀ s : State, s.blk.flag .pstBrownout 0 = true → s.does .brownoutExit fun b =>
      b.rd .pstBrownout 0 = 0 ∧ b.rd .gaitForcedWalk 0 = b2n (s.blk.flag .pstHwTrip 0) ∧ b.rd .gaitCurrent 0 = s.blk.rd .gaitCurrent 0) ∧
  (∀ s : State, s.blk.inService = true → s.blk.flag .pwrDroopEn 0 = true → s.blk.flag .pstDroop 0 = false → s.blk.pow.bar = false →
    s.does .droopWindowOpen fun b => b.rd .pstDroop 0 = 1 ∧ b.rd .gaitFrozen 0 = 1 ∧
      b.rd .pwrCntDroops 0 = min (s.blk.rd .pwrCntDroops 0 + 1) (2 ^ (Fld.attr .pwrCntDroops).width - 1)) ∧
  (∀ s : State, s.blk.flag .pstDroop 0 = true →
    (s.does .droopWindowClose fun b => b.rd .pstDroop 0 = 0 ∧ b.rd .gaitFrozen 0 = 0) ∧
    (s.does .droopMaxExpiry fun b => b.rd .pstDroop 0 = 0 ∧ b.rd .gaitFrozen 0 = 0)) ∧
  (∀ (s : State) (p : PortIx), (s.blk.tt p.val).held = true → s.blk.flag .psTxDoze p.val = true → (s.blk.tt p.val).nakOn = none →
    s.does (.droopEarlyRelease p) fun b => b.rd .psTxDoze p.val = 0 ∧ (b.tt p.val).held = false ∧ HeldAct.doze p.val ∉ b.pow.held)

/-- How the gait follows its target, upshifts one at a time, and Stand is entered. Rules: R314, R318, R319, R320, R326. -/
def Obligations.GaitChanges : Prop :=
  (∀ (s : State) (t : BitVec 3),
    (s.blk.groomRuns = true → 1 ≤ t.toNat → t.toNat ≤ 4 → s.does (.gaitTargetWrite t) fun b =>
      b.rd .gaitTarget 0 = s.blk.gaitClamp t.toNat % 8 ∧ b.rd .gaitCurrent 0 ≤ b.gaitLimit) ∧
    (s.blk.groomRuns = false → s.does (.gaitTargetWrite t) fun b =>
      b.rd .gaitTarget 0 = s.blk.rd .gaitTarget 0 ∧ b.rd .gaitCurrent 0 = s.blk.rd .gaitCurrent 0)) ∧
  (∀ s : State, s.blk.groomRuns = true → s.blk.rd .gaitCurrent 0 < s.blk.gaitLimit → s.blk.pow.walkHold = false →
    s.blk.flag .pstDroop 0 = false → s.blk.pow.held = [] → s.does .gaitUpshiftStep fun b =>
      b.rd .gaitCurrent 0 = (s.blk.rd .gaitCurrent 0 + 1) % 8 ∧ b.pow.ramp = true) ∧
  (∀ (s : State) (g : Nat), s.blk.groomReady = true →
    (100 * g > optD s.blk.img 70 (fun im => optD im.power 70 (·.upPct)) * s.blk.portCap (s.blk.rd .gaitCurrent 0) →
      s.does (.gaitOccupancyWindow g) fun b => b.rd .gaitTarget 0 = s.blk.gaitClamp (min 4 (s.blk.rd .gaitTarget 0 + 1)) % 8)) ∧
  (∀ s : State, s.blk.groomReady = true → s.blk.flag .gaitStandEn 0 = true → s.blk.allFns.all (fun f => s.blk.d3cold f) = true →
    (List.range 64).all (fun p => s.blk.portIdle p) = true → s.does .standEntry fun b => b.pow.st = .stand ∧ b.rd .gaitCurrent 0 = 0)

/-- Throttle steps, thermal raise, trip, its end, shutdown, and loss of a reference clock. Rules: R328, R329, R245, R27. -/
def Obligations.ThermalLimits : Prop :=
  (∀ (s : State) (tj : Nat), s.blk.groomReady = true → s.blk.rd .thmThrottleC 0 ≤ tj → s.blk.rd .gaitThermLimit 0 ≠ 1 →
    s.does (.thermalThrottleStep tj) fun b => b.rd .gaitThermLimit 0 = max 1 (s.blk.rd .gaitCurrent 0 - 1) % 8 ∧
      b.rd .thmTjMax 0 = tj % 2 ^ (Fld.attr .thmTjMax).width ∧
      b.rd .pwrCntThrottles 0 = min (s.blk.rd .pwrCntThrottles 0 + 1) (2 ^ (Fld.attr .pwrCntThrottles).width - 1)) ∧
  (∀ (s : State) (tj : Nat), s.blk.groomReady = true → tj + s.blk.rd .thmHystC 0 < s.blk.rd .thmThrottleC 0 → s.blk.rd .gaitThermLimit 0 < 4 →
    s.does (.thermalRaise tj) fun b => b.rd .gaitThermLimit 0 = s.blk.rd .gaitThermLimit 0 + 1 ∧
      b.rd .thmTjMax 0 = tj % 2 ^ (Fld.attr .thmTjMax).width) ∧
  (∀ s : State, s.blk.inService = true → s.blk.flag .pstHwTrip 0 = false → s.does .thermalTrip fun b =>
      b.rd .pstHwTrip 0 = 1 ∧ b.rd .gaitForcedWalk 0 = 1 ∧ b.rd .thmTjMax 0 = 105) ∧
  (∀ s : State, s.blk.flag .pstHwTrip 0 = true → s.does .thermalTripEnd fun b =>
      b.rd .pstHwTrip 0 = 0 ∧ b.rd .gaitForcedWalk 0 = b2n (s.blk.flag .pstBrownout 0) ∧ b.rd .thmTjMax 0 < 100) ∧
  (∀ s : State, s.blk.inService = true → s.does .thermalShutdown fun b =>
      b.pow.st = (if s.blk.offsInHour.length ≥ 2 then .dead else .thermOff) ∧ b.rd .pstLastOff 0 = 1 ∧ b.rd .thmTjMax 0 = 115 ∧ b.rd .coreServices 0 = 0) ∧
  (∀ (s : State) (t : TDieIx), s.does (.tthRefclkLoss t) fun b => t.val ∈ b.refs.synth ∧ t.val ∈ b.refs.bad) ∧
  (∀ (s : State) (t : TDieIx), s.blk.refs.core = some t.val → s.does (.coreRefclkLoss t) fun b => t.val ∈ b.refs.bad ∧
      b.refs.core = (List.range 4).find? (fun k => !b.refs.bad.contains k))

/-- What classifying a unit lame does: Loom slice, core, phase, Shuttle, Tether lane; a stumble below the limit only counts. Rules: R285, R286, R298, R300, R321, R154, R224. -/
def Obligations.LameUnits : Prop :=
  (∀ (s : State) (i : Fin 9) (x : Bool), s.blk.pow.st = .on → s.blk.loom.lame = [] → s.does (.stumble (.loomSlice i) true x []) fun b =>
      b.loom.lame = [i.val] ∧ b.loom.stopped = true ∧ b.loom.sub = some (i.val, s.blk.time) ∧
      b.rd .stumLame 0 2 = min (s.blk.rd .stumLame 0 2 + 1) (2 ^ (Fld.attr .stumLame).width - 1)) ∧
  (∀ (s : State) (i : Fin 3) (x : Bool), s.blk.pow.st = .on → bit (s.blk.rd .coreFailed 0) i.val = false → s.does (.stumble (.core i) true x []) fun b =>
      b.rd .coreFailed 0 = (s.blk.rd .coreFailed 0 ||| 2 ^ i.val) % 8) ∧
  (∀ (s : State) (i : Fin 22) (x : Bool), s.blk.pow.st = .on → i.val ∉ s.blk.pow.lamePhases → 18 ≤ s.blk.rd .pstPhases 0 → s.blk.rd .pstPhases 0 ≤ 22 →
    s.does (.stumble (.phase i) true x []) fun b =>
      b.rd .pstPhases 0 = s.blk.rd .pstPhases 0 - 1 ∧ b.rd .gaitCap 0 = capFor (s.blk.rd .pstPhases 0 - 1) ∧ b.pow.st = .on) ∧
  (∀ (s : State) (i : ShutIx) (x : Bool), s.blk.pow.st = .on → i.val ∉ s.blk.lameSh → s.does (.stumble (.shuttle i) true x []) fun b =>
      b.lameSh = s.blk.lameSh ++ [i.val] ∧
      ∀ sp, i.val ∈ s.blk.buckets → s.blk.spareFor i.val = some sp → b.buckets = s.blk.buckets.map (fun x => if x == i.val then sp else x)) ∧
  (∀ (s : State) (i : Fin 9), s.blk.pow.st = .on → i.val ∉ s.blk.loom.lame → (s.blk.stumCount (.loomSlice i)).2 = false →
    s.does (.stumble (.loomSlice i) false false []) fun b => b.stums.any (fun x => x.u == .loomSlice i && decide (1 ≤ x.count)) = true ∧ b.loom = s.blk.loom) ∧
  (∀ (s : State) (i : TLaneIx), s.blk.rd .teqFomRetire (i.val / 128) ≠ 0 → s.blk.flag .tlaneLame i.val = false →
    s.does (.fomRetireWindowExpiry (.tether i) []) fun b => b.rd .tlaneLame i.val = 1)

/-- Round-robin Loom grants under class credits, the resume after a substitution, narrow and wide, and power gating. Rules: R19, R298, R281, R28, R317. -/
def Obligations.LoomAndGating : Prop :=
  (∀ (s : State) (o : LoomIx) (offers : List (LoomIx × LoomClass)) (credits : List LoomClass) (i c : Nat) (bad : Bool),
    s.blk.loom.stopped = false → s.blk.pow.st = .on →
    pickFree (fun k => (offerFrom (fun n => credits.any (fun x => loomClass x == n)) o.val k []
      (s.blk.loom.waits ++ offers.map (fun x => (o.val, x.1.val, loomClass x.2)))).isSome) 33 (s.blk.loomPtr o.val) = some i →
    offerFrom (fun n => credits.any (fun x => loomClass x == n)) o.val i [] (s.blk.loom.waits ++ offers.map (fun x => (o.val, x.1.val, loomClass x.2))) = some c →
    s.does (.loomTransfer o offers bad credits) fun b => b.loomPtr o.val = (i + 1) % 33 ∧
      b.loom.waits = (if bad then s.blk.loom.waits ++ offers.map (fun x => (o.val, x.1.val, loomClass x.2))
        else dropFirst (fun w => w.1 == o.val && w.2.1 == i && w.2.2 == c) (s.blk.loom.waits ++ offers.map (fun x => (o.val, x.1.val, loomClass x.2))))) ∧
  (∀ (s : State) (o : LoomIx) (offers : List (LoomIx × LoomClass)) (credits : List LoomClass) (bad : Bool),
    s.blk.loom.stopped = true → s.does (.loomTransfer o offers bad credits) fun b => b.loom.ptr = s.blk.loom.ptr ∧
      b.loom.waits = s.blk.loom.waits ++ offers.map (fun x => (o.val, x.1.val, loomClass x.2))) ∧
  (∀ (s : State) (i t0 : Nat), s.blk.loom.sub = some (i, t0) → s.does .loomSliceResume fun b => b.loom.stopped = false ∧ b.loom.sub = none) ∧
  (∀ s : State, s.blk.groomReady = true → s.blk.allEconomy = true → s.does .loomNarrow fun b => b.loom.narrow = true) ∧
  (∀ s : State, s.blk.groomReady = true → s.blk.loom.narrow = true →
    (s.blk.flag .pstDroop 0 = false → s.blk.pow.ramp = false → s.does .loomWiden fun b => b.loom.narrow = false ∧ b.pow.ramp = true) ∧
    (s.blk.flag .pstDroop 0 = true → s.does .loomWiden fun b => b.loom.narrow = true ∧ HeldAct.loomWiden ∈ b.pow.held)) ∧
  (∀ (s : State) (u : GateRef), s.blk.pow.st = .on → s.blk.mayGate u = true → s.does (.unitPowerGate u) fun b => u ∈ b.gated)

/-- PERST_N, the image wait, the reference clocks and CLKREQ of a stall group. Rules: R218, R344, R220, R230. -/
def Obligations.StallGroupPins : Prop :=
  (∀ (s : State) (g : GroupIx), s.does (.stlPerstNAssert g) fun b => b.rd .gstPerst g.val = 1 ∧ (b.gr g.val).waits = false ∧
      (b.gr g.val).barred = false) ∧
  (∀ (s : State) (g : GroupIx), s.blk.flag .gstPerst g.val = true → s.does (.stlPerstNDeassert g) fun b => b.rd .gstPerst g.val = 0) ∧
  (∀ (s : State) (g : GroupIx), (s.blk.gr g.val).waits = true → s.does (.imageNotReadyTimeout g) fun b =>
      (b.gr g.val).waits = false ∧ (b.gr g.val).barred = true) ∧
  (∀ (s : State) (d : SDieIx) (k : Fin 7), s.does (.stlRefclkLoss d) fun b => b.flag .gstRefclkOk (7 * d.val + k.val) = false) ∧
  (∀ (s : State) (d : SDieIx) (k : Fin 7), s.does (.stlRefclkReturn d) fun b => b.rd .gstRefclkOk (7 * d.val + k.val) = 1) ∧
  (∀ (s : State) (g : GroupIx) (k : Fin 4), s.does (.clkreqAssert g) fun b => b.rd .gstClkreq g.val = 1 ∧
      b.rd .lnkL1sub (4 * g.val + k.val) = if s.blk.rd .lnkL1sub (4 * g.val + k.val) ≥ 2 then 1 else s.blk.rd .lnkL1sub (4 * g.val + k.val))

/-- Loss, hot reset, disable, failover, bring-up, Recovery, return to L0 and L2 of a Stall link. Rules: R238, R240, R303, R304, R323. -/
def Obligations.LinkDownAndUp : Prop :=
  (∀ (s : State) (l : LinkIx), s.blk.dlActive l.val = true →
    (s.does (.linkLoss l) fun b => b.rd .lnkDlActive l.val = 0 ∧
      b.rd .lnkCntLinkDown l.val = min (s.blk.rd .lnkCntLinkDown l.val + 1) (2 ^ (Fld.attr .lnkCntLinkDown).width - 1)) ∧
    (s.does (.hotReset l) fun b => b.rd .lnkDlActive l.val = 0 ∧ b.rd .lnkCntLinkDown l.val = s.blk.rd .lnkCntLinkDown l.val) ∧
    (s.does (.linkDisable l) fun b => b.rd .lnkDlActive l.val = 0 ∧ b.rd .lnkLtssm l.val = 7)) ∧
  (∀ (s : State) (l : LinkIx), (s.blk.lk l.val).detect = true → s.blk.rd .lnkLtssm l.val = 4 →
    (s.blk.pairReady l.val = true → s.does (.pairedDetectExpiry l) fun b => b.rd .lnkDlActive l.val = 0) ∧
    (s.blk.pairReady l.val = false → s.does (.pairedDetectExpiry l) fun b => (b.lk l.val).detect = false)) ∧
  (∀ (s : State) (l : LinkIx) (r0 : FnRec) (rs : List FnRec),
    s.blk.fnRecs.filter (fun r => r.standby.isSome && s.blk.actLink r.f == l.val) = r0 :: rs →
    (s.blk.lk l.val).failed = true → s.blk.inL0 (otherLink r0 l.val) = true → s.does (.failoverSwitch l) fun b =>
      ∀ r ∈ r0 :: rs, b.rd .recActiveLink r.f = otherLink r0 l.val % 256) ∧
  (∀ (s : State) (l : LinkIx) (u : LinkUp), s.blk.mayTrain (l.val / 4) = true → s.blk.upOk l.val u = true → s.does (.linkDlUp l u) fun b =>
      b.rd .lnkDlActive l.val = 1 ∧ b.rd .lnkFlit l.val = b2n u.flit ∧ b.rd .lnkRate l.val = u.rate % 16 ∧
      b.rd .lnkWidthNeg l.val = u.width ∧ b.rd .lnkWidthAct l.val = u.width ∧ b.rd .lnkReversed l.val = b2n u.reversed) ∧
  (∀ (s : State) (l : LinkIx), s.blk.dlActive l.val = true → (s.blk.rd .lnkLtssm l.val = 3 ∨ s.blk.rd .lnkLtssm l.val = 5) →
    s.does (.linkRecovery l) fun b => b.rd .lnkLtssm l.val = 4 ∧ b.rd .lnkL1sub l.val = 0 ∧
      b.rd .lnkCntRecovery l.val = min (s.blk.rd .lnkCntRecovery l.val + 1) (2 ^ (Fld.attr .lnkCntRecovery).width - 1)) ∧
  (∀ (s : State) (l : LinkIx) (r : Nat) (eqs : List EqRun), s.blk.dlActive l.val = true → s.blk.rd .lnkLtssm l.val = 4 →
    s.does (.linkReturnToL0 l r eqs) fun b => b.rd .lnkLtssm l.val = 3) ∧
  (∀ (s : State) (l : LinkIx), s.blk.dlActive l.val = true → s.blk.rd .lnkLtssm l.val ≠ 6 →
    s.does (.pmeTurnOff l) fun b => b.rd .lnkLtssm l.val = 6 ∧ b.rd .lnkDlActive l.val = 0 ∧ Out.msg l.val .pmeAck ∈ b.out)

/-- PME_TURN_OFF, LINK_DL_UP, PAIRED_DETECT_EXPIRY, FAILOVER_SWITCH, LINK_RECOVERY and LINK_RETURN_TO_L0 complete, and how they leave the link. Rules: R225, R229, R233, R238, R240, R303, R304, R323. -/
def Obligations.LinkEvents : Prop :=
  (∀ (s : State) (l : LinkIx), s.blk.dlActive l.val = true → s.blk.rd .lnkLtssm l.val ≠ 6 →
    ∃ t, exec (.pmeTurnOff l) s = .next t ∧ t.pending = s.pending ∧ t.blk.rd .lnkLtssm l.val = 6 ∧ t.blk.rd .lnkDlActive l.val = 0 ∧
      t.blk.rd .lnkCntLinkDown l.val = s.blk.rd .lnkCntLinkDown l.val ∧ t.blk.out = .msg l.val .pmeAck :: s.blk.out) ∧
  (∀ (s : State) (l : LinkIx) (u : LinkUp), s.blk.mayTrain (l.val / 4) = true → s.blk.upOk l.val u = true →
    ∃ t, exec (.linkDlUp l u) s = .next t ∧ t.pending = s.pending ∧ t.blk.rd .lnkDlActive l.val = 1 ∧ t.blk.rd .lnkFlit l.val = b2n u.flit ∧
      t.blk.rd .lnkRate l.val = u.rate % 16 ∧ t.blk.rd .lnkWidthAct l.val = u.width) ∧
  (∀ (s : State) (l : LinkIx), (s.blk.lk l.val).detect = true → s.blk.rd .lnkLtssm l.val = 4 →
    ∃ t, exec (.pairedDetectExpiry l) s = .next t ∧ t.pending = s.pending ∧
      (s.blk.pairReady l.val = true → t.blk.rd .lnkDlActive l.val = 0 ∧
        t.blk.rd .lnkCntLinkDown l.val = min (s.blk.rd .lnkCntLinkDown l.val + 1) (2 ^ (Fld.attr .lnkCntLinkDown).width - 1)) ∧
      (s.blk.pairReady l.val = false → (t.blk.lk l.val).detect = false ∧ t.blk.rd .lnkLtssm l.val = 4)) ∧
  (∀ (s : State) (l : LinkIx) (r0 : FnRec) (rs : List FnRec),
    s.blk.fnRecs.filter (fun r => r.standby.isSome && s.blk.actLink r.f == l.val) = r0 :: rs →
    (s.blk.lk l.val).failed = true → s.blk.inL0 (otherLink r0 l.val) = true →
    ∃ t, exec (.failoverSwitch l) s = .next t ∧ t.pending = s.pending ∧ ∀ r ∈ r0 :: rs, t.blk.rd .recActiveLink r.f = otherLink r0 l.val % 256) ∧
  (∀ (s : State) (l : LinkIx), s.blk.dlActive l.val = true → s.blk.rd .lnkLtssm l.val = 3 ∨ s.blk.rd .lnkLtssm l.val = 5 →
    ∃ t, exec (.linkRecovery l) s = .next t ∧ t.pending = s.pending ∧ t.blk.rd .lnkLtssm l.val = 4 ∧ t.blk.rd .lnkDlActive l.val = 1 ∧
      (t.blk.lk l.val).margin = [] ∧ t.blk.rd .lnkCntRecovery l.val = min (s.blk.rd .lnkCntRecovery l.val + 1) (2 ^ (Fld.attr .lnkCntRecovery).width - 1)) ∧
  (∀ (s : State) (l : LinkIx) (r : Nat) (eqs : List EqRun), s.blk.dlActive l.val = true → s.blk.rd .lnkLtssm l.val = 4 →
    ∃ t, exec (.linkReturnToL0 l r eqs) s = .next t ∧ t.pending = s.pending ∧ t.blk.rd .lnkLtssm l.val = 3)

/-- L0p widths, ECONOMY, ASPM L1, margining answers and IDE check failures of a Stall link. Rules: R225, R226, R227, R229, R278, R232, R236. -/
def Obligations.LinkWidthPowerIde : Prop :=
  ((∀ (s : State) (l : LinkIx) (w : Nat), s.blk.l0pAble l.val = true → (w = 1 ∨ w = 2 ∨ w = 4 ∨ w = 8 ∨ w = 16) →
    (w ≤ s.blk.l0pMax l.val → s.does (.l0pPartnerRequest l w) fun b => b.rd .lnkWidthAct l.val = w ∧ Out.msg l.val (.l0pAns true) ∈ b.out) ∧
    (s.blk.l0pMax l.val < w → s.does (.l0pPartnerRequest l w) fun b => b.rd .lnkWidthAct l.val = s.blk.rd .lnkWidthAct l.val ∧
      Out.msg l.val (.l0pAns false) ∈ b.out)) ∧
  (∀ (s : State) (l : LinkIx) (w why : Nat), (s.blk.lk l.val).l0p = some (w, why) → w ≤ s.blk.l0pMax l.val → w ≤ s.blk.stlCap →
    (s.blk.lk l.val).want = false → s.does (.l0pAcceptance l) fun b => b.rd .lnkWidthAct l.val = w % 32 ∧ (b.lk l.val).l0p = none ∧
      b.rd .lnkCntL0pChg l.val = min (s.blk.rd .lnkCntL0pChg l.val + 1) (2 ^ (Fld.attr .lnkCntL0pChg).width - 1)) ∧
  (∀ (s : State) (l : LinkIx) (tx rx : Nat) (obs : LinkObs), s.blk.linkEconomy l.val = true → s.blk.l0pAble l.val = true → tx < 25 → rx < 25 →
    ((s.blk.lk l.val).econLow = 9 → 1 < s.blk.rd .lnkWidthAct l.val → (s.blk.lk l.val).l0p = none →
      s.does (.l0pOccupancyInterval l tx rx false obs) fun b => (b.lk l.val).l0p = some (s.blk.rd .lnkWidthAct l.val / 2, 1)) ∧
    ((s.blk.lk l.val).econLow < 9 → s.does (.l0pOccupancyInterval l tx rx false obs) fun b => (b.lk l.val).econLow = (s.blk.lk l.val).econLow + 1)) ∧
  (∀ (s : State) (l : LinkIx) (tx rx : Nat) (w : Bool) (obs : LinkObs), s.does (.l0pOccupancyInterval l tx rx w obs) fun b =>
    (obs.crcFail ≠ 0 → b.rd .lnkCntCrcFail l.val = min 0xFFFF (s.blk.rd .lnkCntCrcFail l.val + obs.crcFail)) ∧
    (obs.fecCorr ≠ 0 → s.blk.flag .lnkFlit l.val = true →
      b.rd .lnkCntFecCorr l.val = min 0xFFFF (s.blk.rd .lnkCntFecCorr l.val + obs.fecCorr))) ∧
  (∀ (s : State) (l : LinkIx), s.blk.inL0 l.val = true → s.blk.aspmL1 l.val = true → s.blk.linkIdle l.val = true →
    s.does (.aspmIdleExpiry l) fun b => b.rd .lnkLtssm l.val = 5 ∧ Out.msg l.val .enterL1 ∈ b.out)) ∧
  ((∀ (s : State) (l : LinkIx) (lane : Nat) (pl : BitVec 8) (v : Nat), s.blk.marginLane l.val lane = true → 4 ≤ s.blk.rd .lnkRate l.val →
    marginReport (decide (6 ≤ s.blk.rd .lnkRate l.val)) pl.toNat = some v → s.does (.marginingCommand l lane 1 pl) fun b =>
      Out.msg l.val (.margin lane 1 v) ∈ b.out) ∧
  (∀ (s : State) (l : LinkIx) (lane : Nat) (ty : BitVec 3) (pl : BitVec 8), s.blk.marginLane l.val lane = true → 4 ≤ s.blk.rd .lnkRate l.val →
    (ty = 3 ∨ ty = 4) → s.does (.marginingCommand l lane ty pl) fun b =>
      (s.blk.physOf l.val (s.blk.flag .lnkReversed l.val) lane, ty.toNat, pl.toNat) ∈ (b.lk l.val).margin) ∧
  (∀ (s : State) (l : LinkIx) (id : Nat), s.blk.streamIs l.val id (·.secure) = true →
    ((s.blk.streamFell l.val id).onStream l.val id = [] → s.does (.ideCheckFail l id) fun b => b.streamIs l.val id (·.secure) = false) ∧
    (∀ f, (s.blk.streamFell l.val id).onStream l.val id = [f] → s.blk.tdiOn f = true → (s.blk.streamFell l.val id).selSecure f = false →
      s.does (.ideCheckFail l id) fun b => b.rd .tdiState f = 3)))

/-- Detection, pattern blocks, adaptation, lock, deskew, the state limit and the backoff of a Tether port. Rules: R251, R255, R256, R257, R258. -/
def Obligations.TetherTraining : Prop :=
  (∀ (s : State) (p : PortIx) (m : BitVec 8), s.blk.rd .psState p.val = 0 → s.blk.portReady p.val = true → (s.blk.tt p.val).backoff = false →
    without (without m.toNat (s.blk.rd .plRxRetired p.val)) (s.blk.rd .plTxRetired p.val) ≠ 0 → s.does (.tetherReceiverDetect p m) fun b =>
      b.rd .psState p.val = 1 ∧ b.rd .psRate p.val = 1 ∧
      (b.tt p.val).found = without (without m.toNat (s.blk.rd .plRxRetired p.val)) (s.blk.rd .plTxRetired p.val)) ∧
  (∀ (s : State) (p : PortIx) (i : Fin 8) (l : List Byte) (es : List Eye), s.blk.rd .psState p.val = 1 → bit (s.blk.tt p.val).found i.val = true →
    i.val < (s.blk.tt p.val).lanes.length → (s.blk.tt p.val).step = 1 → s.blk.farLoop p.val = false → l.length = 32 →
    ((blockOf l).good = true → (blockOf l).role = 1 → 1 ≤ (blockOf l).step → (s.blk.ln p.val i.val).n < 63 → s.does (.trainingBlock p i l es) fun b =>
      (b.ln p.val i.val).n = (s.blk.ln p.val i.val).n + 1) ∧
    ((blockOf l).good = false → s.does (.trainingBlock p i l es) fun b => (b.ln p.val i.val).n = 0)) ∧
  (∀ (s : State) (p : PortIx) (i : Fin 8) (es : List Eye), s.blk.rd .psState p.val = 1 → (s.blk.tt p.val).step = 2 → bit (s.blk.tt p.val).found i.val = true →
    i.val < (s.blk.tt p.val).lanes.length → (s.blk.ln p.val i.val).done = false →
    laneFom (decide (3 ≤ s.blk.rd .psRate p.val)) es < s.blk.rd .teqFomTarget (p.val / 16) →
    (s.blk.ln p.val i.val).preset + 1 < s.blk.rd .teqPresets (p.val / 16) → s.does (.adaptPresetDwellExpiry p i es) fun b =>
      b.rd .tlaneFom (tl p.val i.val) = laneFom (decide (3 ≤ s.blk.rd .psRate p.val)) es ∧ (b.ln p.val i.val).preset = (s.blk.ln p.val i.val).preset + 1) ∧
  (∀ (s : State) (p : PortIx), (s.blk.rd .psState p.val = 2 ∨ s.blk.rd .psState p.val = 3) → s.does (.tetherStateLimitExpiry p) fun b =>
      b.rd .psState p.val = (if s.blk.rd .pcLoopback p.val = 1 then 6 else 0) ∧
      b.rd .pcntTrainFail p.val = min (s.blk.rd .pcntTrainFail p.val + 1) (2 ^ (Fld.attr .pcntTrainFail).width - 1)) ∧
  (∀ (s : State) (p : PortIx), s.blk.rd .psState p.val = 2 → s.does (.symbolLock p) fun b =>
      (b.tt p.val).lock = true ∧ b.rd .psState p.val = if bit (s.blk.tt p.val).pStatus 0 then 3 else 2) ∧
  (∀ (s : State) (p : PortIx), s.blk.rd .psState p.val = 3 → s.blk.healthy p.val (s.blk.rd .plRxmask p.val) ≠ [] → s.does (.deskewDone p) fun b =>
      b.rd .psState p.val = if bit (s.blk.tt p.val).pStatus 1 then 4 else 3) ∧
  (∀ (s : State) (p : PortIx), s.does (.trainBackoffExpiry p) fun b => (b.tt p.val).backoff = false) ∧
  (∀ (s : State) (p : PortIx) (ms : List LaneMark) (m : LaneMark), 4 ≤ s.blk.rd .psState p.val →
    ms.find? (fun m => bit (s.blk.rd .plRxmask p.val) m.lane.val && isMark m.bytes) = some m → s.does (.alignmentMarker p ms) fun b =>
      (b.tt p.val).pStatus = msgFld m.bytes 7 1 % 4)

/-- NARROW_REQ, NARROW and the switch of a Tether port to fewer lanes, in both directions. Rules: R260, R261, R262. -/
def Obligations.TetherNarrowing : Prop :=
  (∀ (s : State) (p : PortIx) (m : BitVec 8), (s.blk.rd .psState p.val = 4 ∨ s.blk.rd .psState p.val = 5) → m.toNat ≠ 0 → without m.toNat (s.blk.tt p.val).trained = 0 →
    (s.blk.tt p.val).giveF = none → m.toNat ≠ s.blk.rd .plTxmask p.val → (s.blk.tt p.val).rxNak = false → s.blk.flag .psTxDoze p.val = false →
    s.does (.narrowReq p m) fun b => (b.tt p.val).giveF = some (m.toNat, ((s.blk.tt p.val).txPos + 64) % 65536) ∧
      Out.tth p.val (.narrow m.toNat (((s.blk.tt p.val).txPos + 64) % 65536)) ∈ b.out) ∧
  (∀ (s : State) (p : PortIx) (m : BitVec 8) (f : BitVec 16), (s.blk.tt p.val).askMask = some m.toNat → (s.blk.tt p.val).rxNak = false → s.does (.narrow p m f) fun b =>
      (b.tt p.val).askF = some (m.toNat, f.toNat)) ∧
  (∀ (s : State) (p : PortIx) (m : BitVec 8) (f : Nat), (s.blk.tt p.val).giveF = some (m.toNat, f) → (s.blk.tt p.val).giveNext = none →
    s.does (.narrowSwitch p true) fun b => b.rd .plTxmask p.val = m.toNat ∧ b.rd .psWidthTx p.val = (lanesOf m.toNat).length ∧
      b.rd .plTxRetired p.val = without (s.blk.rd .plTxRetired p.val ||| s.blk.rd .plTxmask p.val) m.toNat % 256 ∧ (b.tt p.val).giveF = none) ∧
  (∀ (s : State) (p : PortIx) (m : BitVec 8) (f : Nat), (s.blk.tt p.val).askF = some (m.toNat, f) → (s.blk.tt p.val).again = false →
    s.does (.narrowSwitch p false) fun b => b.rd .plRxmask p.val = m.toNat ∧ b.rd .psWidthRx p.val = (lanesOf m.toNat).length ∧
      (b.tt p.val).askMask = none)

/-- Doze, wake, nudges, keepalive, skip flits and alignment markers of a Tether port. Rules: R246, R251, R263, R264, R265, R266, R267. -/
def Obligations.TetherDoze : Prop :=
  (∀ (s : State) (p : PortIx), (s.blk.rd .psState p.val = 4 ∨ s.blk.rd .psState p.val = 5) →
    ((s.blk.tt p.val).rxNak = false → s.does (.doze p) fun b => b.rd .psRxDoze p.val = 1) ∧ (s.does (.electricalIdleAfterMarker p) fun b => b.rd .psRxDoze p.val = 1)) ∧
  (∀ (s : State) (p : PortIx), s.does (.partnerWake p) fun b => b.rd .psRxDoze p.val ≠ 1) ∧
  (∀ (s : State) (p : PortIx), s.blk.rd .psState p.val = 5 → s.blk.flag .dozeEn p.val = true → s.blk.flag .psTxDoze p.val = false →
    (s.blk.tt p.val).askMask = none → (s.blk.tt p.val).giveF = none → (s.blk.tt p.val).hold = none → (s.blk.tt p.val).txOut = (s.blk.tt p.val).txSeq →
    (s.blk.x p.val).rspQ = [] → s.does (.dozeIdleExpiry p) fun b => b.rd .psTxDoze p.val = 1 ∧ (b.tt p.val).rxUnack = 0 ∧ Out.tth p.val .doze ∈ b.out) ∧
  (∀ (s : State) (p : PortIx), s.blk.flag .psTxDoze p.val = true → s.does (.nudgeBurst p) fun b => b.out = .tth p.val .nudge :: s.blk.out) ∧
  (∀ (s : State) (p : PortIx), s.blk.rd .psState p.val = 5 → s.blk.flag .psRxDoze p.val = true → s.does (.nudgeCheckExpiry p) fun b =>
      b.rd .psState p.val = (if s.blk.rd .pcLoopback p.val = 1 then 6 else 0) ∧
      b.rd .pcntLinkDown p.val = min (s.blk.rd .pcntLinkDown p.val + 1) (2 ^ (Fld.attr .pcntLinkDown).width - 1) ∧ b.active p.val = false) ∧
  (∀ (s : State) (p : PortIx), (s.blk.rd .psState p.val = 4 ∨ s.blk.rd .psState p.val = 5) → s.blk.flag .psRxDoze p.val = false →
    s.does (.tetherKeepaliveExpiry p) fun b =>
      b.rd .psState p.val = (if s.blk.rd .pcLoopback p.val = 1 then 6 else 0) ∧
      b.rd .pcntLinkDown p.val = min (s.blk.rd .pcntLinkDown p.val + 1) (2 ^ (Fld.attr .pcntLinkDown).width - 1) ∧ b.active p.val = false) ∧
  (∀ (s : State) (p : PortIx), (s.blk.tt p.val).rxUnack > 0 → s.blk.flag .psTxDoze p.val = true → s.blk.flag .pstDroop 0 = false →
    s.does (.ackWaitExpiry p) fun b => b.rd .psTxDoze p.val = 0 ∧ Out.tth p.val .wake ∈ b.out) ∧
  (∀ (s : State) (p : PortIx), (s.does (.nudgeArrival p) fun b => b = s.blk.canon) ∧ (s.does (.skipFlit p) fun b => b = s.blk.canon)) ∧
  (∀ (s : State) (p : PortIx), 2 ≤ s.blk.rd .psState p.val → s.blk.flag .psTxDoze p.val = false →
    (s.does (.skipFlitSend p) fun b => b.out = .tth p.val .skip :: s.blk.out ∧ b.wire = .skip p.val (skipLanes (s.blk.rd .psRate p.val)
      (s.blk.txMask p.val) (s.blk.flag .psReversed p.val)) :: s.blk.wire) ∧
    (s.does (.alignmentMarkerSend p) fun b => (b.tt p.val).markCnt = (s.blk.tt p.val).markCnt + 1 ∧ b.out ≠ s.blk.out))

/-- RETRAIN, the port reset and its release, replay, and received flits of a Tether port. Rules: R250, R251, R253, R268, R272, R274. -/
def Obligations.TetherLossResetFlits : Prop :=
  ((∀ (s : State) (p : PortIx), s.does (.retrain p) fun b =>
      b.rd .psState p.val = (if s.blk.rd .pcLoopback p.val = 1 then 6 else 0) ∧ b.rd .pcntLinkDown p.val = s.blk.rd .pcntLinkDown p.val ∧
      b.active p.val = false) ∧
  (∀ (s : State) (p : PortIx), s.does (.portReset p) fun b =>
      (b.pin p.val).prstLow = true ∧ (b.sl p.val).rstT0 = some s.blk.time ∧ b.active p.val = false) ∧
  (∀ (s : State) (p : PortIx), (s.blk.pin p.val).prstLow = false → s.does (.tthPrstNLow p) fun b =>
      (b.pin p.val).prstLow = true ∧ (b.sl p.val).rstT0 = some s.blk.time ∧ b.active p.val = false) ∧
  (∀ (s : State) (p : PortIx), (s.blk.sl p.val).rstT0 ≠ none → s.blk.rd .slotPwrState p.val = 2 → (s.blk.sl p.val).held = false →
    (s.blk.sl p.val).relDone = false → s.does (.tetherResetRelease p) fun b => (b.sl p.val).rstT0 = none ∧ (b.pin p.val).prstLow = false) ∧
  (∀ (s : State) (p : PortIx), (s.blk.tt p.val).nakOn = none → s.does (.nakHoldoffExpiry p) fun b => (b.tt p.val).hold = none) ∧
  (∀ (s : State) (p : PortIx) (n : BitVec 12), s.blk.flitsOn p.val = true → s.does (.replay p n) fun b =>
      (b.tt p.val).rxNak = false ∧ (b.tt p.val).rxCur % 4096 = n.toNat)) ∧
  ((∀ (s : State) (p : PortIx) (l : List Byte) (r : FlitRx), l.length = 192 → s.blk.hearsSkip p.val l = false → flitCheck (l.map (·.toNat)) = r → r.fixed = [] → r.good = false →
    s.blk.flitsOn p.val = true → s.does (.flit p l) fun b =>
      b.rd .pcntCrcFail p.val = min (s.blk.rd .pcntCrcFail p.val + 1) (2 ^ (Fld.attr .pcntCrcFail).width - 1) ∧ (b.tt p.val).rxNak = true ∧
      (b.tt p.val).rxPos = (s.blk.tt p.val).rxPos + 1) ∧
  (∀ (s : State) (p : PortIx) (l : List Byte) (r : FlitRx), l.length = 192 → s.blk.hearsSkip p.val l = false → flitCheck (l.map (·.toNat)) = r → r.fixed = [] → r.good = true →
    s.blk.rd .psState p.val = 5 → r.hdr % 4 = 2 → bit r.hdr 14 = false → msgFld r.area 0 1 = 4 → (s.blk.tt p.val).rxNak = false →
    s.does (.flit p l) fun b => b.rd .psRxDoze p.val = 1) ∧
  (∀ (s : State) (p : PortIx) (l : List Byte), l.length = 192 → s.blk.hearsSkip p.val l = true → s.does (.flit p l) fun b => b = s.blk.canon))

/-- Slot power on, off and reset, the power-good and delay events, presence, fault and button. Rules: R273, R330, R331. -/
def Obligations.SlotControl : Prop :=
  ((∀ (s : State) (v : SlotVia) (p : Nat) (w : BitVec 32), s.blk.slotVia v = some p → s.blk.rd .slotPwrState p = 0 → (s.blk.pin p).prsnt = true →
    s.does (.slotPowerOnRequest v w) fun b => b.rd .slotPwrState p = 1 ∧ (b.sl p).onWait = true) ∧
  (∀ (s : State) (v : SlotVia) (p : Nat) (w : BitVec 32), s.blk.slotVia v = some p → s.blk.rd .slotPwrState p = 2 →
    s.does (.slotPowerOffRequest v w) fun b => b.rd .slotPwrState p = 3 ∧ (b.sl p).offWait = true ∧ (b.pin p).prstLow = true) ∧
  (∀ (s : State) (v : SlotVia) (p : Nat) (w : BitVec 32), s.blk.slotVia v = some p → s.blk.rd .slotPwrState p = 2 → (s.blk.sl p).held = false →
    w.toNat % 4 ≠ 1 → w.toNat % 4 ≠ 2 → s.does (.slotReset v w) fun b => (b.pin p).prstLow = true ∧ (b.sl p).rstT0 = some s.blk.time) ∧
  (∀ (s : State) (p : PortIx), s.blk.rd .slotPwrState p.val = 1 → (s.blk.sl p.val).onWait = true →
    (s.blk.flag .pstDroop 0 = false → s.blk.pow.ramp = false →
      s.does (.slotPowerEnable p) fun b => (b.pin p.val).pwren = true ∧ (b.sl p.val).onWait = false ∧ b.pow.ramp = true) ∧
    ((s.blk.flag .pstDroop 0 = true ∨ s.blk.pow.ramp = true) → s.does (.slotPowerEnable p) fun b =>
      HeldAct.slotOn p.val ∈ b.pow.held ∧ (b.pin p.val).pwren = (s.blk.pin p.val).pwren)) ∧
  (∀ (s : State) (p : PortIx), s.blk.rd .slotPwrState p.val = 1 → (s.blk.pin p.val).pwren = true →
    s.does (.tthPwrgdRise p) fun b => b.rd .slotPwrState p.val = 2 ∧ (b.pin p.val).pwrgd = true ∧ (b.sl p.val).relDone = true) ∧
  (∀ (s : State) (p : PortIx), s.blk.rd .slotPwrState p.val = 1 → (s.blk.pin p.val).pwren = true →
    s.does (.pwrgdMsExpiry p) fun b => b.rd .slotPwrState p.val = 0 ∧ (b.pin p.val).pwren = false ∧
      ∀ f ∈ s.blk.boundFns p.val, b.rd .slotPowerFault f = 1) ∧
  (∀ (s : State) (p : PortIx), s.blk.rd .slotPwrState p.val = 2 → (s.blk.sl p.val).relDone = true → (s.blk.sl p.val).rstT0 = none →
    s.does (.prstDelayExpiry p) fun b => (b.pin p.val).prstLow = false ∧ (b.sl p.val).relDone = false ∧
      ∀ f ∈ s.blk.boundFns p.val, b.rd .slotSeqDone f = 1) ∧
  (∀ (s : State) (p : PortIx), s.blk.rd .slotPwrState p.val = 3 → (s.blk.sl p.val).offWait = true →
    s.does (.slotPowerOffDelayExpiry p) fun b => (b.pin p.val).pwren = false ∧ (b.sl p.val).offWait = false) ∧
  (∀ (s : State) (p : PortIx), s.blk.rd .slotPwrState p.val = 3 → (s.blk.sl p.val).offWait = false → (s.blk.sl p.val).kept = false →
    s.does (.poweringOffDone p) fun b => b.rd .slotPwrState p.val = 0 ∧ ∀ f ∈ s.blk.boundFns p.val, b.rd .slotSeqDone f = 1)) ∧
  ((∀ (s : State) (p : PortIx), s.does (.tthPrsntInsertion p) fun b => (b.pin p.val).prsnt = true ∧
      ∀ f ∈ s.blk.boundFns p.val, b.rd .slotPresenceChg f = 1) ∧
  (∀ (s : State) (p : PortIx), s.does (.tthPrsntRemoval p) fun b => (b.pin p.val).prsnt = false ∧
      (∀ f ∈ s.blk.boundFns p.val, b.rd .slotPresenceChg f = 1) ∧ ((s.blk.pin p.val).pwren = true → (b.pin p.val).prstLow = true)) ∧
  (∀ (s : State) (p : PortIx), (s.blk.pin p.val).pwren = true → s.does (.tthPwrgdFall p) fun b =>
      (b.pin p.val).pwrgd = false ∧ (b.pin p.val).prstLow = true ∧ ∀ f ∈ s.blk.boundFns p.val, b.rd .slotPowerFault f = 1) ∧
  (∀ (s : State) (p : PortIx), s.does (.tthAtnbtnPress p) fun b => ∀ f ∈ s.blk.boundFns p.val, b.rd .slotButton f = 1))

/-- Boot ROM start, STALL_GROUPS, copy checks, image ready, SVN commit, activation and image over Halter. Rules: R338, R341, R343, R344, R346, R348, R372, R394. -/
def Obligations.BootAndImage : Prop :=
  (∀ (s : State) (good : BitVec 4), s.blk.pow.st = .on → s.blk.boot.run = false → good ≠ 0 → s.blk.grm.dead = false →
    (s.blk.straps.test = true → s.does (.bootRomStart good) fun b => b.boot.run = true ∧ b.rd .bootResultA 0 = 11 ∧ b.rd .bootResultB 0 = 11) ∧
    (s.blk.straps.test = false → s.blk.nextCopy = some .spiA → s.does (.bootRomStart good) fun b =>
      b.boot.run = true ∧ b.rd .coreServices 0 = 1 ∧ b.rd .bootSource 0 = 0 ∧ b.rd .bootStage 0 = 1 ∧
      b.refs.core = (List.range 4).find? (fun t => bit good.toNat t))) ∧
  (∀ (s : State) (gs : List GroupRec) (ds : List SDieRec), s.blk.groomRuns = true → s.blk.straps.safe = false →
    (s.blk.rd .bootStage 0 = 1 ∨ s.blk.rd .bootStage 0 = 2) → s.blk.sg.1 = [] → s.does (.stallGroupsSectionArrival gs ds) fun b =>
      b.sg = (gs, ds) ∧ b.rd .bootStage 0 = 2) ∧
  (∀ (s : State) (c : ImageCopy), s.blk.groomRuns = true → (s.blk.rd .bootStage 0 = 1 ∨ s.blk.rd .bootStage 0 = 2 ∨ s.blk.rd .bootStage 0 = 3) →
    s.blk.nextCopy = some .spiA →
    (s.blk.checkCopy c = 1 → s.does (.imageCopyCheck .spiA c) fun b =>
      b.rd .bootResultA 0 = 1 ∧ b.boot.passed = some (c.body, false) ∧ b.rd .bootStage 0 = 4) ∧
    (s.blk.checkCopy c ≠ 1 → s.blk.copyOrder.find? (fun x => !(s.blk.boot.read ++ [ImgSrc.spiA]).contains x) = some .spiB →
      s.does (.imageCopyCheck .spiA c) fun b => b.rd .bootResultA 0 = s.blk.checkCopy c ∧ b.boot.read = s.blk.boot.read ++ [.spiA] ∧
        b.rd .bootFallback 0 = 1 ∧ b.rd .bootSource 0 = 1 ∧ b.rd .bootStage 0 = 1) ∧
    (s.blk.checkCopy c ≠ 1 → s.blk.copyOrder.find? (fun x => !(s.blk.boot.read ++ [ImgSrc.spiA]).contains x) = none →
      s.does (.imageCopyCheck .spiA c) fun b => b.rd .bootSource 0 = 3 ∧ b.rd .bootStage 0 = 6)) ∧
  (∀ (s : State) (im : Image) (copyB : Bool), s.blk.boot.passed = some (im, copyB) → s.blk.groomRuns = true → s.blk.rd .bootStage 0 = 4 →
    s.does .imageReady fun b => b.img = some im ∧ b.sg = (im.groups, im.sdies) ∧ b.rd .bootStage 0 = 5 ∧ b.rd .bootCopy 0 = b2n copyB) ∧
  (∀ (s : State) (im : Image), s.blk.img = some im → s.blk.groomRuns = true → s.blk.rd .bootStage 0 = 5 → s.does .svnCommit fun b =>
      b.fuses.imgSvn = max s.blk.fuses.imgSvn (min im.svn 256) ∧ b.fuses.fwSvn = max s.blk.fuses.fwSvn (min im.fw.svn 128) ∧
      b.fuses.trees = s.blk.fuses.trees ∧ b.fuses.keyHash = s.blk.fuses.keyHash) ∧
  (∀ (s : State) (copyB : Bool), s.blk.groomRuns = true → s.blk.rd .bootStage 0 = 5 → s.does (.imageActivation copyB) fun b =>
      b.rd .bootCtlNext 0 = (if copyB then 2 else 1) ∧ (s.blk.grm.upd.isSome = true → b.grm.deferred = true) ∧
      (s.blk.grm.upd = none → b.img = none ∧ b.time = 0)) ∧
  (∀ (s : State), s.blk.groomRuns = true → s.blk.grm.treeGen = true → s.does .lmsTreeReady fun b => b.rd .lmsReady 0 = 1) ∧
  (∀ (s : State) (r : ImgReq) (data : List Byte), s.blk.groomRuns = true → s.blk.flag .haltInRing 0 = true → s.blk.boot.total = none →
    s.blk.boot.reqs.find? (fun x => x.off == 0) = some r → 12 ≤ min data.length r.len → s.does (.imageData 0 data) fun b =>
      b.boot.total = some (leNat ((data.drop 8).take 4) + 5812)) ∧
  (∀ (s : State) (r : ImgReq) (t : List ImgReq), s.blk.groomRuns = true → s.blk.boot.reqs = r :: t →
    (r.reps < 64 → s.does .imageReqTimeout fun b => b.boot.reqs = t ++ [{ r with reps := r.reps + 1 }]) ∧
    (64 ≤ r.reps → s.does .imageReqTimeout fun b => b.rd .bootStage 0 = 6 ∧ b.rd .bootSource 0 = 3 ∧ b.boot.reqs = []))

/-- Halter frames, DISCOVER, STATUS, WAKE and rejoin; the JTAG instructions and TRST_N. Rules: R4, R367, R369, R370, R374, R375, R391. -/
def Obligations.HalterAndJtag : Prop :=
  ((∀ (s : State) (fr : HFrame), s.blk.haltLive = true →
    (fr.ok = false → s.does (.halterFrameForward fr) fun b => b.out = .halt fr :: s.blk.out ∧
      b.rd .haltCntCrcFail 0 = min (s.blk.rd .haltCntCrcFail 0 + 1) (2 ^ (Fld.attr .haltCntCrcFail).width - 1)) ∧
    (fr.ok = true → fr.dst ≠ s.blk.straps.haltId.toNat → fr.dst ≠ 0x7F → fr.src ≠ s.blk.straps.haltId.toNat →
      s.does (.halterFrameForward fr) fun b => b.out = .halt fr :: s.blk.out ∧ ∀ f i j, b.rd f i j = s.blk.rd f i j) ∧
    (fr.ok = true → fr.dst = s.blk.straps.haltId.toNat → (fr.ty = 0 ∨ 6 < fr.ty) → s.does (.halterFrameForward fr) fun b =>
      b.out = s.blk.out ∧ b.rd .haltCntDrop 0 = min (s.blk.rd .haltCntDrop 0 + 1) (2 ^ (Fld.attr .haltCntDrop).width - 1))) ∧
  (∀ (s : State) (v : Nat), s.blk.haltLive = true → s.does (.discover v) fun b =>
      b.rd .haltVersion 0 = max 1 (min 2 v) ∧ b.halt.owed = true) ∧
  (∀ (s : State), s.blk.haltLive = true → s.blk.halt.owed = true → s.does .status fun b => b.halt.owed = false ∧
      ∃ fr : HFrame, b.out = .halt fr :: s.blk.out ∧ fr.ty = 2 ∧ fr.dst = 0x7E ∧ fr.src = s.blk.straps.haltId.toNat) ∧
  (∀ (s : State), s.blk.haltLive = true → s.blk.pow.st = .stand → s.blk.flag .pstDroop 0 = false → s.does .wake fun b =>
      b.pow.st = .on ∧ b.rd .gaitCurrent 0 = 1) ∧
  (∀ (s : State), s.blk.inService = true → s.blk.tap.portOn = true → s.blk.flag .haltBypass 0 = false → s.blk.inRing = false →
    s.does .halterRejoin fun b => b.rd .haltInRing 0 = 1)) ∧
  ((∀ (s : State), s.blk.tapLive = true →
    (s.does .jtagBypass fun b => b.tap.ins = .bypass) ∧ (s.does .jtagExtest fun b => b.tap.ins = .extest) ∧
    (s.does .jtagClamp fun b => b.tap.ins = .clamp) ∧ (s.does .jtagHighz fun b => b.tap.ins = .highz) ∧
    (s.does .jtagExtestPulse fun b => b.tap.ins = .extestPulse) ∧ (s.does .jtagExtestTrain fun b => b.tap.ins = .extestTrain) ∧
    (∀ l, s.does (.jtagSamplePreload (some l)) fun b => b.tap.ins = .samplePreload ∧ b.tap.bsr = l) ∧
    (s.does (.jtagSamplePreload none) fun b => b.tap.ins = .samplePreload ∧ b.out = .tdo b.tap.bsr :: s.blk.out) ∧
    (s.does .jtagIdcode fun b => b.tap.ins = .idcode ∧ ∃ l, b.out = .tdo l :: s.blk.out ∧ l.length = 32 ∧ l.head? = some true)) ∧
  (∀ (s : State), s.does .jtagTrstNAssert fun b => b.tap.ins = .reset ∧ b.tap.bsr = s.blk.tap.bsr ∧ ∀ f i j, b.rd f i j = s.blk.rd f i j))

/-- Lockstep stops and takeovers of the Groom, its frames, telemetry, MCTP and DOE arrivals. Rules: R299, R355, R357, R358, R359, R369. -/
def Obligations.GroomPairAndLoad : Prop :=
  ((∀ (s : State) (c0 c1 : Bool), s.blk.groomRuns = true → s.does (.lockstepMismatch c0 c1) fun b =>
      b.grm.stopped = true ∧ b.rd .coreServices 0 = 0 ∧ b.grm.queue = [] ∧
      b.rd .coreTakeovers 0 = min (s.blk.rd .coreTakeovers 0 + 1) (2 ^ (Fld.attr .coreTakeovers).width - 1)) ∧
  (∀ (s : State) (c0 c1 : Bool), s.blk.groomRuns = true → s.does (.groomWatchdogExpiry c0 c1) fun b =>
      b.grm.stopped = true ∧ b.rd .coreServices 0 = 0 ∧
      b.rd .svcCntWdt 0 = min (s.blk.rd .svcCntWdt 0 + 1) (2 ^ (Fld.attr .svcCntWdt).width - 1)) ∧
  (∀ (s : State) (pair : List Nat), s.blk.grm.stopped = true → pair = (List.range 3).filter (fun i => bit (s.blk.rd .coreInPair 0) i) →
    (nextPair pair s.blk.grm.okCores s.blk.grm.lamePair = none → s.does .groomTakeoverDone fun b =>
      b.grm.dead = true ∧ b.grm.stopped = false ∧ b.rd .coreInPair 0 = bitMap 3 (fun i => s.blk.grm.okCores.contains i)) ∧
    (∀ np, nextPair pair s.blk.grm.okCores s.blk.grm.lamePair = some np → s.blk.loom.stopped = false → s.does .groomTakeoverDone fun b =>
      b.grm.stopped = false ∧ b.rd .coreServices 0 = 1 ∧ b.rd .coreInPair 0 = bitMap 3 (fun i => np.contains i)))) ∧
  ((∀ (s : State) (pt fh be oldest : Nat), s.blk.groomRuns = true → s.does (.groomFrame pt fh be oldest) fun b =>
      b.grm.frames = ((pt, fh, be) :: s.blk.grm.frames).take 100 ∧
      b.rd .loadPtPct 0 = share (((pt, fh, be) :: s.blk.grm.frames).take 100) (·.1) ∧
      (s.blk.flag .loadShed 0 = false → s.blk.grm.queue ≠ [] → s.blk.rd .svcShedDepth 0 ≤ s.blk.grm.queue.length →
        s.blk.rd .svcShedDepth 0 ≤ 2 * s.blk.grm.queue.length → b.rd .loadShed 0 = 1)) ∧
  (∀ (s : State) (vin iin : Nat) (ts : List Nat), s.blk.groomRuns = true → s.does (.telemetryPeriodExpiry vin iin ts) fun b =>
      b.rd .telVinMv 0 = vin % 2 ^ (Fld.attr .telVinMv).width ∧ b.rd .telIin 0 = iin % 2 ^ (Fld.attr .telIin).width ∧
      b.rd .thmTjMax 0 = ts.foldl max 0 % 2 ^ (Fld.attr .thmTjMax).width ∧ b.grm.sensed.length = 25 ∧
      b.grm.telemMul = if s.blk.flag .loadShed 0 then min 16 (2 * s.blk.grm.telemMul) else 1) ∧
  (∀ (s : State) (tr : Transport) (ty : Nat), s.blk.reaches tr = true → typeOk tr ty = true → s.does (.mctp tr ty) fun b =>
      b.grm.queue = s.blk.grm.queue ++ [tr]) ∧
  (∀ (s : State) (f : FnIx) (n : Nat), s.blk.reaches (.doe f) = true → (n = 1 ∨ n = 2) → s.does (.doeRequest f n) fun b =>
      b.grm.queue = s.blk.grm.queue ++ [.doe f] ∧ (b.fn f.val).doe = []))

/-- Register access, module reset, PLDM sensors, endpoint IDs, Halter bypass and debug unlock. Rules: R360, R363, R364, R373, R375. -/
def Obligations.GroomServices : Prop :=
  (∀ (s : State) (tr : Transport), boardSide tr = true → s.blk.serves tr = true →
    (∀ a n, accessOk a n = true → s.does (.registerAccessRead tr a n) fun b =>
      ∃ l, b.out = .mgmt tr (.reg 0 l) :: s.blk.out ∧ l.length = n) ∧
    (∀ a n, accessOk a n = false → s.does (.registerAccessRead tr a n) fun b => b.out = .mgmt tr (.reg 2 []) :: s.blk.out) ∧
    (∀ a (w : BitVec 32) r, accessOk a 1 = true → 5 ≤ s.blk.rd .bootStage 0 → internalReg a = some r → r.reg = .haltCtrl →
      s.does (.registerAccessWrite tr a [w]) fun b => b.rd .haltBypass 0 = b2n (bit w.toNat 0) ∧ .mgmt tr (.reg 0 []) ∈ b.out) ∧
    (∀ a ws, accessOk a (ws.length) = true → s.blk.rd .bootStage 0 ≤ 4 → s.does (.registerAccessWrite tr a ws) fun b =>
      b.out = .mgmt tr (.reg 3 []) :: s.blk.out ∧ ∀ f i j, b.rd f i j = s.blk.rd f i j) ∧
    (s.blk.grm.deferred = false → s.blk.grm.upd = none → s.does (.moduleReset tr) fun b =>
      b.img = none ∧ b.time = 0 ∧ b.out = .mgmt tr (.reg 0 []) :: s.blk.out) ∧
    (s.blk.grm.deferred = false → s.blk.grm.upd ≠ none → s.does (.moduleReset tr) fun b => b.grm.deferred = true)) ∧
  (∀ (s : State) (tr : Transport), mctpSide tr = true → s.blk.serves tr = true →
    (∀ n, 1 ≤ n → n ≤ 25 → s.does (.pldmSensorRead tr n) fun b => b.out = .mgmt tr (.sensor (s.blk.grm.sensed[n - 1]?.getD 0)) :: s.blk.out) ∧
    (∀ e, 1 ≤ e → e ≤ 254 → s.does (.setEndpointId tr e) fun b => (tr, e) ∈ b.grm.eids ∧ b.out = .mgmt tr (.eid e) :: s.blk.out)) ∧
  (∀ (s : State) (v : Bool), s.blk.inService = true → s.does (.bypass v) fun b => b.rd .haltBypass 0 = b2n v ∧
      (v = true → b.flag .haltInRing 0 = false)) ∧
  (∀ (s : State) (k : Bool), s.blk.serves .smbus = true → s.does (.debugUnlock k) fun b => b.tap.debug = (s.blk.tap.debug || k))

/-- PLDM firmware update: which copy, the transfer sizes, its end and the deferred module reset. Rules: R346, R365, R366. -/
def Obligations.ImageUpdate : Prop :=
  (∀ (s : State) (tr : Transport) (copyB : Bool) (n : Nat), boardSide tr = true → s.blk.serves tr = true → 64 ≤ n → n ≤ 4096 →
    (s.blk.rd .bootStage 0 = 6 ∨ s.blk.rd .bootStage 0 = 5 ∧ s.blk.flag .bootCopy 0 ≠ copyB) → s.blk.grm.deferred = false → s.blk.grm.upd = none →
    s.does (.pldmTransfer tr copyB n none) fun b => b.grm.upd = some ⟨tr, copyB, n⟩ ∧ b.out = .mgmt tr (.pldm true) :: s.blk.out) ∧
  (∀ (s : State) (tr : Transport) (copyB : Bool) (n : Nat) (l : Option ImageCopy), boardSide tr = true → s.blk.serves tr = true →
    ¬ (64 ≤ n ∧ n ≤ 4096) → s.does (.pldmTransfer tr copyB n l) fun b =>
      b.grm.upd = s.blk.grm.upd ∧ b.out = .mgmt tr (.pldm false) :: s.blk.out) ∧
  (∀ (s : State), s.blk.grm.deferred = false → s.does .pldmUpdateIdleExpiry fun b => b.grm.upd = none ∧ ∀ f i j, b.rd f i j = s.blk.rd f i j) ∧
  (∀ (s : State), s.blk.grm.deferred = true → (s.does .pldmUpdateIdleExpiry fun b => b.img = none ∧ b.time = 0) ∧
    s.does .deferredModuleReset fun b => b.img = none ∧ b.time = 0)

/-- The SPDM requests in their order, with what each answers (error codes and order: log entry 35). Rules: R347, R349, R350, R351. -/
def Obligations.SpdmRequests : Prop :=
  (∀ (s : State) (tr : Transport), s.blk.spdmReady tr 0 = true → s.does (.getVersion tr) fun b =>
      s.blk.says b tr (.version [0x12, 0x13]) ∧ (b.conn tr).stage = 1) ∧
  (∀ (s : State) (tr : Transport), s.blk.spdmReady tr 1 = true → s.does (.getCapabilities tr) fun b =>
      s.blk.says b tr .capabilities ∧ (b.conn tr).stage = max (s.blk.conn tr).stage 2) ∧
  (∀ (s : State) (tr : Transport), s.blk.spdmReady tr 2 = true → s.does (.negotiateAlgorithms tr) fun b =>
      s.blk.says b tr .algorithms ∧ (b.conn tr).stage = 3) ∧
  (∀ (s : State) (tr : Transport), s.blk.spdmReady tr 3 = true →
    (s.does (.getDigests tr) fun b => ∃ d, s.blk.says b tr (.digests d)) ∧
    (∀ slot off n, s.does (.getCertificate tr slot off n) fun b =>
      if slot ≠ 0 ∨ (Config.certChain s.blk.grm.leafKey).length ≤ off then s.blk.says b tr (.error 1)
      else ∃ k, s.blk.says b tr (.certificate (((Config.certChain s.blk.grm.leafKey).drop off).take n) k)) ∧
    (s.does (.challenge tr 0) fun b => (∃ g, s.blk.says b tr (.challengeAuth g)) ∧ (b.conn tr).signed ≠ none ∧ (b.conn tr).stored = none) ∧
    (∀ i, i ≤ 5 → s.does (.getMeasurements tr i) fun b =>
      (∃ l g, s.blk.says b tr (.measurements 5 l g) ∧ l.map (·.1) = if i = 0 then [] else [i]) ∧ (b.conn tr).signed ≠ none) ∧
    (∀ last, s.does (.chunkSend tr last) fun b => s.blk.says b tr (.chunkSendAck last) ∧ (b.conn tr).chunks = if last then 0 else (s.blk.conn tr).chunks + 1) ∧
    ((s.blk.conn tr).rest ≠ [] → s.does (.chunkGet tr) fun b => (b.conn tr).rest.length < (s.blk.conn tr).rest.length) ∧
    (∀ off n, s.does (.getHssChain tr off n) fun b =>
      if 1 ≤ n ∧ n ≤ 1024 then s.blk.says b tr (.hssChain Config.hssChain.length ((Config.hssChain.drop off).take n)) else s.blk.says b tr (.error 1)) ∧
    (s.does (.getHssState tr) fun b => s.blk.says b tr (.hssState s.blk.fuses.trees (s.blk.rd .lmsReady 0))) ∧
    ((s.blk.conn tr).signed = none → s.does (.countersign tr) fun b => s.blk.says b tr (.countersigned 1 [] 0 [])) ∧
    (∀ d, (s.blk.conn tr).signed = some d → (s.blk.conn tr).stored = none → s.blk.flag .lmsReady 0 = true → s.blk.rd .lmsIndex 0 + 1 < 2 ^ 20 →
      s.does (.countersign tr) fun b => (b.conn tr).stored ≠ none ∧ b.rd .lmsIndex 0 = s.blk.rd .lmsIndex 0 + 1))

/-- SPDM sessions (log entry 35): key exchange, finish, key update, heartbeat and end; and in them IDE_KM: query, key programming, go and stop (log entry 36). Rules: R349, R352. -/
def Obligations.SpdmSessionsAndIdeKeys : Prop :=
  (∀ (s : State) (tr : Transport), s.blk.spdmReady tr 3 = true →
    ((s.blk.grm.sess.filter (fun x => x.tr == tr)).length < 8 → s.blk.grm.sess.length < 128 → s.does (.keyExchange tr 0) fun b =>
      b.grm.sess = s.blk.grm.sess ++ [⟨tr, s.blk.nextId, false, 0⟩] ∧ b.nextId = s.blk.nextId + 1 ∧
      ∃ g, s.blk.says b tr (.keyExchangeRsp s.blk.nextId g)) ∧
    (128 ≤ s.blk.grm.sess.length → s.does (.keyExchange tr 0) fun b => s.blk.says b tr (.error 10) ∧ b.grm.sess = s.blk.grm.sess) ∧
    (∀ id, s.blk.sessIs tr id (fun x => !x.est) = true → s.does (.finish tr id) fun b =>
      s.blk.says b tr .finishRsp ∧ b.sessIs tr id (fun x => !x.est) = false) ∧
    (∀ id, s.blk.sessIs tr id (·.est) = true →
      (s.does (.keyUpdate tr id) fun b => s.blk.says b tr .keyUpdateAck ∧
        b.grm.sess = mapIf (fun x => x.tr == tr && x.id == id) (fun x => { x with gen := x.gen + 1 }) s.blk.grm.sess) ∧
      (s.does (.heartbeat tr id) fun b => s.blk.says b tr .heartbeatAck ∧ b.grm = s.blk.grm) ∧
      (s.does (.endSession tr id) fun b => s.blk.says b tr .endSessionAck ∧ b.sessIs tr id (fun _ => true) = false ∧
        ∀ u, (b.lk u).ide = (s.blk.lk u).ide)) ∧
    (∀ id, s.blk.sessIs tr id (·.est) = false → s.does (.heartbeat tr id) fun b => s.blk.says b tr (.error 2))) ∧
  (∀ (s : State) (tr : Transport) (n : Nat) (l : LinkIx), s.blk.spdmReady tr 3 = true → s.blk.kmOk tr n l.val = true →
    (s.does (.query tr n l) fun b => ∃ q, s.blk.says b tr (.ideQuery q)) ∧
    (∀ id (i : Fin 3) (tx k : Bool), id ∈ s.blk.streamIds l.val → s.does (.keyProg tr n l id i tx k) fun b =>
      s.blk.says b tr (.ideAck true) ∧ b.streamIs l.val id (fun x => x.keys.contains ⟨i.val, tx, k, false⟩) = true) ∧
    (∀ id (i : Fin 3) (tx k : Bool), s.blk.streamIs l.val id (fun x => x.keys.any (fun y => y.at' i.val tx k)) = false →
      (s.does (.kSetGo tr n l id i tx k) fun b => s.blk.says b tr (.ideAck false)) ∧
      (s.does (.kSetStop tr n l id i tx k) fun b => s.blk.says b tr (.ideAck false))) ∧
    (∀ id (i : Fin 3) (tx k : Bool), s.blk.streamIs l.val id (fun x => x.keys.any (fun y => y.at' i.val tx k)) = true →
      (s.does (.kSetGo tr n l id i tx k) fun b => b.streamIs l.val id (fun x => x.keys.any (fun y => y.at' i.val tx k && y.go)) = true) ∧
      (s.blk.streamIs l.val id (·.secure) = false → s.does (.kSetStop tr n l id i tx k) fun b =>
        b.streamIs l.val id (fun x => x.keys.any (fun y => y.at' i.val tx k)) = false)))

/-- TDISP: lock, start, stop and report of a device interface (locked fields and errors: log entry 37). Rules: R353. -/
def Obligations.TdiRequests : Prop :=
  ∀ (s : State) (tr : Transport) (n : Nat) (f : FnIx), s.blk.spdmReady tr 3 = true → s.blk.tdiSession tr n f.val = true → s.blk.mode f.val 8 = true →
    (s.blk.lockOk f.val = true → s.does (.lockInterfaceRequest tr n f) fun b => b.rd .tdiState f.val = 1 ∧
      b.rd .tdiIdent f.val = s.blk.rd .xlbIdent (s.blk.portOf f.val) % 2 ^ (Fld.attr .tdiIdent).width ∧ s.blk.says b tr (.tdispAck true)) ∧
    (s.blk.lockOk f.val = false → s.does (.lockInterfaceRequest tr n f) fun b => b.rd .tdiState f.val = s.blk.rd .tdiState f.val ∧
      s.blk.says b tr (.tdispAck false)) ∧
    (s.blk.rd .tdiState f.val = 1 → s.does (.startInterfaceRequest tr n f) fun b => b.rd .tdiState f.val = 2 ∧ s.blk.says b tr (.tdispAck true)) ∧
    (s.blk.rd .tdiState f.val = 0 → s.does (.stopInterfaceRequest tr n f) fun b => b.rd .tdiState f.val = 0 ∧ s.blk.says b tr (.tdispAck true)) ∧
    (s.blk.rd .tdiState f.val ≠ 0 → s.does (.stopInterfaceRequest tr n f) fun b => (b.fn f.val).flr ≠ none ∧ (b.fn f.val).stopRsp = some tr) ∧
    (s.blk.tdiOn f.val = true → s.does (.getDeviceInterfaceReport tr n f) fun b => ∃ r i, s.blk.says b tr (.report r i)) ∧
    (s.blk.tdiOn f.val = false → s.does (.getDeviceInterfaceReport tr n f) fun b => s.blk.says b tr (.tdispAck false))

/-- Bus Master Enable and its effect points, D3hot and D0, and the start and end of a function reset. Rules: R193, R194, R195, R196, R202, R203, R323. -/
def Obligations.MasteringAndReset : Prop :=
  ((∀ (s : State) (f : FnIx) (alt v : Bool), s.blk.cfgOk f.val (b2n alt) = true → s.blk.flag .cfgBme f.val (b2n alt) ≠ v →
    s.does (.busMasterEnableWrite f alt v) fun b => b.rd .cfgBme f.val (b2n alt) = b2n v ∧
      b.rd .cfgBmeEff f.val (b2n alt) = s.blk.rd .cfgBmeEff f.val (b2n alt) ∧ (b.fn f.val).bmeQ = (s.blk.fn f.val).bmeQ ++ [(alt, v)]) ∧
  (∀ (s : State) (f : FnIx) (alt : Bool) (t : List (Bool × Bool)), (s.blk.fn f.val).bmeQ = (alt, true) :: t →
    s.does (.bmeSetEffect f) fun b => b.rd .cfgBmeEff f.val (b2n alt) = 1) ∧
  (∀ (s : State) (f : FnIx) (alt : Bool) (t : List (Bool × Bool)), (s.blk.fn f.val).bmeQ = (alt, false) :: t →
    s.does (.bmeClearEffect f) fun b => b.rd .cfgBmeEff f.val (b2n alt) = 0) ∧
  (∀ (s : State) (f : FnIx) (r : FnRec), s.blk.fnRec? f.val = some r → s.blk.vfOn r (s.blk.actSet f.val) = true → (s.blk.fn f.val).flr = none →
    (s.does (.d3hotEntry f) fun b => b.rd .cfgPmState f.val = 3) ∧ (s.does (.d0Return f) fun b => b.rd .cfgPmState f.val = 0))) ∧
  ((∀ (s : State) (f : FnIx) (alt : Bool), s.blk.cfgOk f.val (b2n alt) = true → b2n alt = s.blk.actSet f.val →
    s.does (.initiateFunctionLevelReset f alt) fun b => (b.fn f.val).flr ≠ none) ∧
  (∀ (s : State) (f : FnIx) (x : FlrSt), (s.blk.fn f.val).flr = some x →
    ((s.blk.fn f.val).np.any (fun t => t.st == .sent || t.st == .silent) = false → s.does (.flrDrainEnd f) fun b =>
      b.rd .evtCons f.val = 0 ∧ b.rd .evtProd f.val = 0 ∧ b.rd .wvBusy f.val = 0) ∧
    (s.does (.flrBoundExpiry f) fun b => b.rd .evtCons f.val = 0 ∧ b.rd .evtProd f.val = 0 ∧ b.rd .wvBusy f.val = 0)))

/-- VF Enable, NumVFs, BARs, ATS, PASID, STU, LTR, delivery form and Interrupt Disable. Rules: R79, R83, R89, R186, R188, R206, R212, R231. -/
def Obligations.FunctionSetup : Prop :=
  (∀ (s : State) (f : FnIx) (alt : Bool) (r : FnRec), s.blk.cfgOk f.val (b2n alt) = true → s.blk.fnRec? f.val = some r → r.vf = false → r.totalVfs ≠ 0 →
    (s.does (.vfEnableSet f alt) fun b => b.rd .vfEnable f.val (b2n alt) = 1) ∧
    (s.does (.vfEnableClear f alt) fun b => b.rd .vfEnable f.val (b2n alt) = 0) ∧
    (∀ v, s.blk.flag .vfEnable f.val (b2n alt) = false → s.does (.numvfsWrite f alt v) fun b => b.rd .vfNum f.val (b2n alt) = v.toNat)) ∧
  (∀ (s : State) (f : FnIx) (alt : Bool) (r : FnRec) (v : BitVec 64), s.blk.cfgOk f.val (b2n alt) = true → s.blk.fnRec? f.val = some r → r.vf = false →
    (s.does (.barWrite f alt .bar0 v) fun b => b.rd .cfgBar0 f.val (b2n alt) = v.toNat / 2 ^ 21 * 2 ^ 21) ∧
    (r.bar2 ≠ 0 → s.does (.barWrite f alt .bar2 v) fun b => b.rd .cfgBar2 f.val (b2n alt) = v.toNat / 2 ^ r.bar2 * 2 ^ r.bar2) ∧
    (r.bar2 = 0 → s.does (.barWrite f alt .bar2 v) fun b => b.rd .cfgBar2 f.val (b2n alt) = s.blk.rd .cfgBar2 f.val (b2n alt)) ∧
    (r.bar4 ≠ 0 → s.does (.barWrite f alt .bar4 v) fun b => b.rd .cfgBar4 f.val (b2n alt) = v.toNat / 2 ^ r.bar4 * 2 ^ r.bar4) ∧
    (romLog2 r ≠ 0 → s.does (.barWrite f alt .rom v) fun b => b.rd .cfgRomEn f.val (b2n alt) = v.toNat % 2)) ∧
  (∀ (s : State) (f : FnIx) (alt : Bool) (r : FnRec), s.blk.cfgOk f.val (b2n alt) = true → s.blk.fnRec? f.val = some r → r.privileged = true →
    (s.does (.atsEnableClear f alt) fun b => b.rd .atsEnable f.val (b2n alt) = 0) ∧
    (s.does (.pasidEnableClear f alt) fun b => b.rd .pasidEnable f.val (b2n alt) = 0) ∧
    (∀ v, s.does (.stuWrite f alt v) fun b => b.rd .atsStu f.val (b2n alt) = v.toNat)) ∧
  (∀ (s : State) (l : LinkIx) (r : FnRec), s.blk.linkF0 l.val = some r → s.blk.cfgOk r.f (setOn r l.val) = true → s.blk.flag .cfgLtrEn r.f (setOn r l.val) = false →
    s.does (.ltrMechanismEnableSet l) fun b => b.rd .cfgLtrEn r.f (setOn r l.val) = 1 ∧
      (s.blk.dlActive l.val = true → ∃ a c, b.out = .msg l.val (.ltr a c) :: s.blk.out)) ∧
  (∀ (s : State) (f : FnIx) (alt : Bool), s.blk.cfgOk f.val (b2n alt) = true →
    (∀ x m, s.does (.deliveryFormChange f alt x m) fun b => b.rd .cfgMsixEn f.val (b2n alt) = b2n x ∧ b.rd .cfgMsiEn f.val (b2n alt) = b2n m) ∧
    (∀ v, s.does (.interruptDisableWrite f alt v) fun b => b.rd .cfgIntDis f.val (b2n alt) = b2n v))

/-- Host acknowledgements, completions expected and not, timeouts and the tag quarantine. Rules: R54, R128, R199, R200, R295. -/
def Obligations.HostTraffic : Prop :=
  (∀ (s : State) (l : LinkIx) (n : Nat), (((s.blk.lk l.val).posted.filter (·.sent)).take n).all (fun w => match w.own with | .lm _ _ | .chunk _ _ => false | _ => true) = true →
    s.does (.hostAck l n) fun b => (b.lk l.val).posted = ((s.blk.lk l.val).posted.filter (·.sent)).drop n ++ (s.blk.lk l.val).posted.filter (fun w => !w.sent)) ∧
  (∀ (s : State) (l : LinkIx) (f : FnIx) (tag : Nat) (st : CplSt) (data : List Byte) (ep : Bool) (str : Option Nat), s.blk.streamBad l.val str = false →
    s.blk.fnExists f.val = true → s.blk.tableDisc f.val = false →
    (s.blk.fn f.val).np.find? (fun t => t.st != .waiting && t.tag == tag) = none → s.does (.hostCompletion l f tag st data ep str) fun b =>
      bit (b.rd .aerCorSts f.val (s.blk.actSet f.val)) 13 = true ∧ bit (b.rd .aerUncSts f.val (s.blk.actSet f.val)) 16 = true) ∧
  (∀ (s : State) (l : LinkIx) (f : FnIx) (tag : Nat) (st : CplSt) (data : List Byte) (ep : Bool) (str : Option Nat), s.blk.streamBad l.val str = true →
    s.does (.hostCompletion l f tag st data ep str) fun b => b = s.blk.canon) ∧
  (∀ (s : State) (l : LinkIx) (f : FnIx) (tag q : Nat) (data : List Byte) (t : HTag) (str : Option Nat), s.blk.streamBad l.val str = false → s.blk.loom.stopped = false →
    s.blk.fnExists f.val = true → l.val = s.blk.actLink f.val →
    (s.blk.fn f.val).np.find? (fun t => t.st != .waiting && t.tag == tag) = some t → t.st = .sent → t.own = .qIndex q → t.len ≤ (npTake t data false).length →
    s.blk.qDead (q / 32) (q % 32) = false → s.does (.hostCompletion l f tag .sc data false str) fun b =>
      (b.qu q).idxOut = false ∧ (b.qu q).idxIn = some ⟨0, 0, 0, npTake t data false⟩) ∧
  (∀ (s : State) (f : FnIx) (tag q : Nat) (t : HTag), s.blk.loom.stopped = false → t.own = .qIndex q → s.blk.qDead (q / 32) (q % 32) = false → t.st = .sent →
    ((s.blk.fn f.val).np.find? (fun t => (t.st == .sent || t.st == .silent) && t.tag == tag && t.cto.isSome) = some t → s.does (.completionTimeout f tag) fun b =>
      b.rd .qState (q / 32) (q % 32) = 6 ∧ b.rd .qHaltCause (q / 32) (q % 32) = 13 ∧ b.rd .qHaltDetail (q / 32) (q % 32) = 3) ∧
    ((s.blk.fn f.val).np.find? (fun t => (t.st == .sent || t.st == .silent) && t.tag == tag && npKind t.own == 2) = some t → s.does (.fetchTimeout f tag) fun b =>
      b.rd .qState (q / 32) (q % 32) = 6 ∧ b.rd .qHaltCause (q / 32) (q % 32) = 13 ∧ b.rd .qHaltDetail (q / 32) (q % 32) = 3)) ∧
  (∀ (s : State) (f : FnIx) (tag : Nat) (t : HTag), (s.blk.fn f.val).np.find? (fun t => (t.st == .quar || t.st == .quarSilent) && t.tag == tag && t.cto.isSome) = some t →
    s.does (.hostTagQuarantineExpiry f tag) fun b => ∀ x ∈ (b.fn f.val).np, x.id ≠ t.id)

/-- Translation completions, Invalidate Requests and their completions. Rules: R209, R213, R214. -/
def Obligations.Translations : Prop :=
  (∀ (s : State) (f : FnIx) (tag rid : Nat) (d : XlDone) (t : HTag) (x : XlReq), (s.blk.fn f.val).np.find? (fun t => t.st != .waiting && t.tag == tag) = some t →
    t.own = .xlate rid → t.st = .sent → s.blk.xreq? f.val rid = some x → d.status = .sc → s.blk.streamBad (s.blk.actLink f.val) d.stream = false → x.invs = [] → x.waits = [] → (d.rd || d.wr) = true →
    (s.blk.atsFull f.val = false ∨ (s.blk.atsVictim f.val).isSome = true) →
    s.does (.translationCompletion f tag d) fun b => ∃ e ∈ b.ats, e.f = f.val ∧ e.valid = true ∧ e.rd = d.rd ∧ e.wr = d.wr) ∧
  (∀ (s : State) (f : FnIx) (itag a n : Nat) (ps : Option Nat) (g : Bool) (str : Option Nat), s.blk.streamBad (s.blk.actLink f.val) str = false → s.does (.invalidateRequest f itag a n ps g str) fun b =>
      (∀ e ∈ b.ats, invMatch f.val a n ps g e = true → e.valid = false) ∧
      (b.fn f.val).invs = (s.blk.fn f.val).invs ++ [⟨itag, (s.blk.ats.filter (invMatch f.val a n ps g)).map (·.id)⟩]) ∧
  (∀ (s : State) (f : FnIx) (v : Inval) (vs : List Inval), (s.blk.fn f.val).invs = v :: vs → s.blk.inL0 (s.blk.actLink f.val) = true →
    (s.blk.fn f.val).np.any (fun t => (t.st == .waiting || t.st == .sent || t.st == .silent) && (match t.ent with | some e => v.ents.contains e | none => false)) = false →
    (s.blk.lk (s.blk.actLink f.val)).posted.any (fun w => !w.sent && (match w.ent with | some e => v.ents.contains e | none => false)) = false →
    s.does (.invalidateCompletion f) fun b => (b.fn f.val).invs = vs ∧ b.out = .msg (s.blk.actLink f.val) (.invalDone f.val v.itag) :: s.blk.out)

/-- Writes of SHT_QHEAD and of the context: taken when DISABLED, logged QCTX_LOCKED otherwise, held during a move. Rules: R133, R9, R154. -/
def Obligations.QueueRegisters : Prop :=
  (∀ (s : State) (f : FnIx) (n : QIx) (v : BitVec 32), s.blk.fnExists f.val = true → (s.blk.q f.val n.val).moving = false →
    (s.blk.qUnlocked f.val n.val = true → s.does (.shtQheadWrite f n v) fun b => b.rd .qHead f.val n.val = v.toNat ∧
      b.rd .qProd f.val n.val = v.toNat ∧ b.rd .qLastWb f.val n.val = v.toNat ∧ b.rd .qCurDesc f.val n.val = v.toNat ∧
      b.rd .qCurFrag f.val n.val = 0 ∧ b.rd .qCurOffset f.val n.val = 0) ∧
    (s.blk.qUnlocked f.val n.val = false → s.does (.shtQheadWrite f n v) fun b =>
      b.rd .qHead f.val n.val = s.blk.rd .qHead f.val n.val ∧ s.blk.errLogged b f.val 14 0)) ∧
  (∀ (s : State) (f : FnIx) (n : QIx) (off : Nat) (v : BitVec 32), s.blk.fnExists f.val = true → (s.blk.q f.val n.val).moving = false →
    (s.blk.qUnlocked f.val n.val = true → 28 ≤ off → off < 32 → v.toNat ≤ 1000 → s.does (.queueContextWrite f n off v) fun b =>
      b.rd .qCoalTimeUs f.val n.val = v.toNat) ∧
    (s.blk.qUnlocked f.val n.val = true → 28 ≤ off → off < 32 → 1000 < v.toNat % 2 ^ 11 → s.does (.queueContextWrite f n off v) fun b =>
      b.rd .qCoalTimeUs f.val n.val = s.blk.rd .qCoalTimeUs f.val n.val) ∧
    (s.blk.qUnlocked f.val n.val = false → off < 32 → s.does (.queueContextWrite f n off v) fun b => s.blk.errLogged b f.val 14 0)) ∧
  (∀ (s : State) (f : FnIx) (n : QIx) (v : BitVec 32), s.blk.fnExists f.val = true → (s.blk.q f.val n.val).moving = true →
    s.does (.shtQheadWrite f n v) fun b => (b.q f.val n.val).held = (s.blk.q f.val n.val).held ++ [.head v.toNat] ∧
      b.rd .qHead f.val n.val = s.blk.rd .qHead f.val n.val)

/-- RESET, PAUSE, RESUME, DISABLE and ENABLE of a Shuttle queue, state by state. Rules: R134, R148, R150, R151, R152, R153. -/
def Obligations.QueueCommands : Prop :=
  ∀ (s : State) (f : FnIx) (n : QIx), s.blk.fnExists f.val = true → (s.blk.q f.val n.val).moving = false →
    (s.does (.qcmdReset f n) fun b => b.rd .qState f.val n.val = 0 ∧ b.rd .qResetBusy f.val n.val = 1) ∧
    (s.blk.qSt f.val n.val ≠ 6 → s.blk.flag .qResetBusy f.val n.val = false →
      (s.does (.qcmdPause f n) fun b => b.rd .qPauseDrv f.val n.val = 1 ∧ b.rd .qState f.val n.val =
        if s.blk.qSt f.val n.val = 1 ∨ s.blk.qSt f.val n.val = 2 then 3 else s.blk.qSt f.val n.val) ∧
      (s.does (.qcmdResume f n) fun b => b.rd .qPauseDrv f.val n.val = 0)) ∧
    (1 ≤ s.blk.qSt f.val n.val → s.blk.qSt f.val n.val ≤ 4 → (s.blk.q f.val n.val).chunks = [] → s.does (.qcmdDisable f n) fun b =>
      b.rd .qState f.val n.val = 5) ∧
    (s.blk.qSt f.val n.val = 5 →
      (s.does (.qcmdDisable f n) fun b => b.rd .qArmPending f.val n.val = 0) ∧
      (s.does (.qcmdEnable f n) fun b => b.rd .qArmPending f.val n.val = 1)) ∧
    (s.blk.qSt f.val n.val = 0 → s.blk.val .qAvailable f.val n.val ≠ 0 → s.blk.flag .qResetBusy f.val n.val = false →
      (s.blk.ctxBad f.val n.val ≠ 0 → s.does (.qcmdEnable f n) fun b => b.qHalted f.val n.val 12 (s.blk.ctxBad f.val n.val)) ∧
      (s.blk.ctxBad f.val n.val = 0 → (s.blk.bme f.val = false ∨ s.blk.flag .qPauseDrv f.val n.val = true) →
        s.does (.qcmdEnable f n) fun b => b.rd .qState f.val n.val = 4 ∧ b.rd .qRefetch f.val n.val = 1) ∧
      (s.blk.ctxBad f.val n.val = 0 → s.blk.bme f.val = true → s.blk.flag .qPauseDrv f.val n.val = false → s.blk.ideCut f.val (some (s.blk.rd .qPidxAddr f.val n.val * 4)) = false →
        s.blk.rd .qHead f.val n.val = s.blk.rd .qLastWb f.val n.val → s.does (.qcmdEnable f n) fun b => b.rd .qState f.val n.val = 1 ∧ (b.q f.val n.val).idxOut = true))

/-- A write to SHT_QCMD performs only the command of highest precedence. Rules: R134. The rule is stated whole. -/
def Obligations.QueueCommandOrder : Prop :=
  ∀ (s : State) (r : HReq) (f : FnIx) (n : QIx) (v : BitVec 32), s.blk.claims r f.val .bar0 (0x8000 + 512 * n.val + 32) →
    s.blk.fnExists f.val = true → r.en = [true, true, true, true] → hwriteOk r = true → r.ep = false → leNat r.data = v.toNat →
    ((s.blk.q f.val n.val).moving = false → exec (.registerWrite r) s =
      if v.getLsbD 4 then exec (.qcmdReset f n) s else if v.getLsbD 1 then exec (.qcmdDisable f n) s
      else if v.getLsbD 2 then exec (.qcmdPause f n) s else if v.getLsbD 3 then exec (.qcmdResume f n) s
      else if v.getLsbD 0 then exec (.qcmdEnable f n) s else .next { s with blk := s.blk.canon }) ∧
    ((s.blk.q f.val n.val).moving = true → s.does (.registerWrite r) fun b =>
      (b.q f.val n.val).held = (s.blk.q f.val n.val).held ++ [.cmd v.toNat] ∧ ∀ y i j, b.rd y i j = s.blk.rd y i j)

/-- End of reset, pause and drain, coalescing, head write-backs, parking, and the end of a Shuttle substitution. Rules: R146, R147, R148, R150, R154, R280. -/
def Obligations.QueueProgress : Prop :=
  (∀ (s : State) (f : FnIx) (n : QIx),
    (s.blk.flag .qResetBusy f.val n.val = true → s.blk.qOpen f.val n.val = false → s.does (.queueResetDone f n) fun b =>
      b.rd .qState f.val n.val = 0 ∧ b.rd .qResetBusy f.val n.val = 0 ∧ b.rd .qHead f.val n.val = 0 ∧ b.rd .qProd f.val n.val = 0 ∧
      b.rd .qLastWb f.val n.val = 0 ∧ b.rd .qHaltCause f.val n.val = 0 ∧ b.rd .qRingBase f.val n.val = s.blk.rd .qRingBase f.val n.val) ∧
    (s.blk.qSt f.val n.val = 3 → s.blk.qQuiet f.val n.val = true → (∀ c ∈ (s.blk.q f.val n.val).chunks, c.st ≠ .writing) → s.does (.queuePaused f n) fun b => b.rd .qState f.val n.val = 4) ∧
    (s.blk.qSt f.val n.val = 5 → s.blk.qQuiet f.val n.val = true → s.blk.flag .qArmPending f.val n.val = false →
      s.does (.queueDrainEnd f n) fun b => b.rd .qState f.val n.val = 0 ∧
        b.rd .qCurDesc f.val n.val = s.blk.rd .qHead f.val n.val % 2 ^ 32 ∧ b.rd .qCurOffset f.val n.val = 0) ∧
    ((s.blk.q f.val n.val).coalT.isSome = true → s.blk.rd .qCoalTimeUs f.val n.val ≠ 0 → s.blk.bme f.val = true →
      s.blk.rd .qHead f.val n.val ≠ s.blk.rd .qLastWb f.val n.val → s.does (.coalTimerExpiry f n) fun b =>
        b.rd .qLastWb f.val n.val = s.blk.rd .qHead f.val n.val % 2 ^ 32 ∧ (b.q f.val n.val).wbOut = (s.blk.q f.val n.val).wbOut + 1) ∧
    ((s.blk.q f.val n.val).wbOut ≠ 0 → s.does (.headWritebackAccepted f n) fun b =>
      (b.q f.val n.val).wbOut = (s.blk.q f.val n.val).wbOut - 1 ∧
      (s.blk.flag .qMsixEn f.val n.val = true → s.blk.flag .qResetBusy f.val n.val = false → s.blk.delivery f.val = 3 →
        bit (b.rd .spQpend f.val) n.val = true) ∧
      (s.blk.flag .qMsixEn f.val n.val = true → s.blk.flag .qResetBusy f.val n.val = false → s.blk.delivery f.val = 1 →
        s.blk.vecMasked f.val (s.blk.rd .qMsixVec f.val n.val) = true →
        b.rd .msixPend f.val (s.blk.rd .qMsixVec f.val n.val) = 1)) ∧
    (∀ i : ShutIx, s.blk.mayPark i.val = true → s.does (.shuttlePark i) fun b => i.val ∈ b.parked ∧ .shuttle i ∈ b.gated)) ∧
  (∀ (s : State) (i : ShutIx) (m : MoveRec), s.blk.moves.find? (fun m => m.lame == i.val) = some m →
    s.does (.shuttleMoveDone i) fun b => (∀ y ∈ b.moves, y.lame ≠ i.val) ∧
      (m.qs = [] → b.out = s.blk.out ∧ b.queues = s.blk.canon.queues ∧ ∀ y j k, b.rd y j k = s.blk.rd y j k))

/-- Doorbells, producer indices and fragment tables of a Shuttle queue. Rules: R135, R136, R137, R141, R151, R152. -/
def Obligations.QueueFetch : Prop :=
  ∀ (s : State) (f : FnIx) (n : QIx), (s.blk.q f.val n.val).moving = false →
    (∀ hint, s.blk.fnExists f.val = true → (s.blk.qSt f.val n.val = 3 ∨ s.blk.qSt f.val n.val = 4) → s.does (.doorbell f n hint) fun b =>
      b.rd .qRefetch f.val n.val = 1 ∧ (b.q f.val n.val).hint = hint.map (·.toNat)) ∧
    (∀ hint, s.blk.fnExists f.val = true → (s.blk.qSt f.val n.val = 1 ∨ s.blk.qSt f.val n.val = 2) → (s.blk.q f.val n.val).idxIn = none →
      (s.blk.q f.val n.val).idxOut = false → s.blk.ideCut f.val (some (s.blk.rd .qPidxAddr f.val n.val * 4)) = false → s.does (.doorbell f n hint) fun b => (b.q f.val n.val).idxOut = true) ∧
    (∀ x, (s.blk.q f.val n.val).idxIn = some x → 1 ≤ s.blk.qSt f.val n.val → s.blk.qSt f.val n.val ≤ 5 →
      (x.st ≠ 0 → x.st < 256 → s.does (.producerIndex f n) fun b => b.qHalted f.val n.val 13 x.st) ∧
      (x.st = 0 → s.blk.qSt f.val n.val ≤ 4 → x.data.any (·.2) = false → ∀ p, p = leNat (x.data.map (·.1)) % 2 ^ 32 →
        (s.blk.ringSize f.val n.val < s.blk.qPend f.val n.val p → s.does (.producerIndex f n) fun b => b.qHalted f.val n.val 8 0) ∧
        (s.blk.qPend f.val n.val p ≤ s.blk.ringSize f.val n.val → s.blk.qPend f.val n.val p < s.blk.qPend f.val n.val (s.blk.rd .qProd f.val n.val) →
          s.does (.producerIndex f n) fun b => b.qHalted f.val n.val 9 0) ∧
        (s.blk.qPend f.val n.val p ≤ s.blk.ringSize f.val n.val → s.blk.qPend f.val n.val (s.blk.rd .qProd f.val n.val) ≤ s.blk.qPend f.val n.val p →
          s.does (.producerIndex f n) fun b => b.rd .qProd f.val n.val = p))) ∧
    (∀ x xs r, (s.blk.q f.val n.val).fragIn = x :: xs → (s.blk.q f.val n.val).descs.find? (fun r => r.d.ix == x.dix) = some r →
      1 ≤ s.blk.qSt f.val n.val → s.blk.qSt f.val n.val ≤ 4 →
      (x.st ≠ 0 → x.st < 256 → s.does (.fragmentTableData f n) fun b => b.qHalted f.val n.val 13 x.st) ∧
      (∀ l c i, x.st = 0 → fragTake r.d r.fragNext (fragSum r.frags) (parseFrags x.data) = (l, some (c, i)) → c < 256 →
        s.does (.fragmentTableData f n) fun b => b.qHalted f.val n.val c 0))

/-- Descriptors, chunk reads, staging and committed writes of a Shuttle queue. Rules: R132, R138, R140, R143, R145, R152. -/
def Obligations.QueueData : Prop :=
  ∀ (s : State) (f : FnIx) (n : QIx), (s.blk.q f.val n.val).moving = false →
    (∀ x next, next = (s.blk.rd .qHead f.val n.val + (s.blk.q f.val n.val).descs.length) % 2 ^ 32 →
      (s.blk.q f.val n.val).descIn.find? (fun x => x.start == next) = some x → 1 ≤ s.blk.qSt f.val n.val → s.blk.qSt f.val n.val ≤ 4 →
      next ≠ s.blk.rd .qProd f.val n.val → s.blk.rd .qProd f.val n.val < 2 ^ 32 →
      (x.st ≠ 0 → x.st < 256 → s.does (.descriptorFetchData f n) fun b => b.qHalted f.val n.val 13 x.st) ∧
      (∀ d, x.st = 0 → x.data.length = 64 → d = parseDesc next (x.data.map (·.1)) → (s.blk.q f.val n.val).descs = [] →
        (∀ c e, s.blk.descCheck f.val n.val d (x.data.any (·.2)) = (c, e) → c ≠ 0 → c < 256 → e < 256 → s.does (.descriptorFetchData f n) fun b =>
          b.qHalted f.val n.val c e) ∧
        (s.blk.descCheck f.val n.val d (x.data.any (·.2)) = (0, 0) → d.opcode = 0 → s.does (.descriptorFetchData f n) fun b =>
          b.rd .qHead f.val n.val = (s.blk.rd .qHead f.val n.val + 1) % 2 ^ 32))) ∧
    (∀ r len sg ds, s.blk.qSt f.val n.val = 2 → (s.blk.q f.val n.val).descs = [r] → r.d.opcode = 1 → r.cut < r.d.len →
      ((s.blk.q f.val n.val).chunks.filter (fun c => c.st == .reading)).length < 16 → s.blk.stagingUsed (s.blk.shuttleOf f.val n.val) < 64 →
      (∀ c ∈ (s.blk.q f.val n.val).chunks, c.cid ≠ (s.blk.q f.val n.val).nextCid) → s.blk.qTurn (qix f.val n.val) = true →
      nextChunk r = some (len, [sg], ds) → sg.loc = true → sg.xl = false → s.blk.shut (s.blk.portOf f.val) = false →
      s.does (.chunkReadIssue f n) fun b =>
        (b.q f.val n.val).descs = [{ r with cut := r.cut + len }] ∧
        (b.q f.val n.val).chunks = (s.blk.q f.val n.val).chunks ++ [⟨(s.blk.q f.val n.val).nextCid, r.d.ix, r.cut, len, fragShown r r.cut, [sg], ds, [], [],
          (piecesOf (64 * s.blk.cutW (s.blk.portOf f.val)) sg.addr sg.len).length, 0, false, false, .reading⟩]) ∧
    (∀ c0 c cs, (s.blk.qSt f.val n.val = 3 ∨ s.blk.qSt f.val n.val = 5) → (s.blk.q f.val n.val).chunks = c0 :: c :: cs → c0.st = .reading → c.st = .arrived →
      c0.cid ≠ c.cid → (∀ y ∈ cs, y.cid ≠ c.cid) → s.does (.chunkReadData f n) fun b =>
        (b.q f.val n.val).chunks = c0 :: { c with
          st := .staged, parts := [], data := granulePoison (s.blk.badAt (qix f.val n.val) c.dix) c.dsts (s.blk.chunkOut (qix f.val n.val) c) } ::
          cs.map (fun y => if y.dix = c.dix ∧ y.st = .staged then
            { y with data := granulePoison (s.blk.badAt (qix f.val n.val) c.dix) y.dsts y.data } else y)) ∧
    (∀ c r rs, (s.blk.qSt f.val n.val = 3 ∨ s.blk.qSt f.val n.val = 5) → (s.blk.q f.val n.val).chunks = [c] → c.st = .done → (s.blk.q f.val n.val).descs = r :: rs →
      (r.commit + c.len ≠ r.d.len → r.d.opcode = 1 → s.does (.chunkWriteDone f n) fun b =>
        b.rd .qCurDesc f.val n.val = r.d.ix % 2 ^ 32 ∧ b.rd .qCurOffset f.val n.val = (r.commit + c.len) % 2 ^ 32 ∧
        b.rd .qHead f.val n.val = s.blk.rd .qHead f.val n.val ∧ (b.q f.val n.val).chunks = []) ∧
      (r.commit + c.len = r.d.len → rs = [] → s.does (.chunkWriteDone f n) fun b =>
        b.rd .qHead f.val n.val = (s.blk.rd .qHead f.val n.val + 1) % 2 ^ 32 ∧
        b.rd .qCntDone f.val n.val = min (s.blk.rd .qCntDone f.val n.val + 1) (2 ^ (Fld.attr .qCntDone).width - 1)))

/-- Consumer indices of the error log and of the event ring, and the event ring control. Rules: R155, R159, R289. -/
def Obligations.EventsAndErrorLog : Prop :=
  ∀ (s : State) (f : FnIx), s.blk.fnExists f.val = true →
    (∀ v : BitVec 32, s.does (.fcpErrConsWrite f v) fun b => b.rd .errCons f.val =
      if consOk (s.blk.rd .errProd f.val) (s.blk.rd .errCons f.val) (v.toNat % 65536) 65536 then v.toNat % 65536 else s.blk.rd .errCons f.val) ∧
    (∀ v : BitVec 32, consOk (s.blk.rd .evtProd f.val) (s.blk.rd .evtCons f.val) v.toNat (2 ^ 32) = true → s.does (.evtConsWrite f v) fun b =>
      b.rd .evtCons f.val = v.toNat) ∧
    (∀ v : BitVec 32, consOk (s.blk.rd .evtProd f.val) (s.blk.rd .evtCons f.val) v.toNat (2 ^ 32) = false → s.does (.evtConsWrite f v) fun b =>
      b.rd .evtCons f.val = s.blk.rd .evtCons f.val ∧ s.blk.errLogged b f.val 15 0) ∧
    (∀ v : BitVec 32, s.blk.flag .evtEn f.val = false → bit v.toNat 0 = true → 4 ≤ bits v.toNat 1 5 → bits v.toNat 1 5 ≤ 16 →
      (s.blk.fn f.val).devs = [] → (s.blk.fn f.val).recs = [] → s.does (.evtCtrlWrite f v) fun b =>
        b.rd .evtEn f.val = 1 ∧ b.rd .evtLog2 f.val = bits v.toNat 1 5 ∧ b.rd .evtProd f.val = s.blk.rd .evtCons f.val % 2 ^ 32) ∧
    (∀ v : BitVec 32, s.blk.flag .evtEn f.val = true → s.does (.evtCtrlWrite f v) fun b =>
        b.rd .evtEn f.val = bits v.toNat 0 1 ∧ b.rd .evtLog2 f.val = s.blk.rd .evtLog2 f.val)

/-- Weave LOAD and CLEAR: busy, refused while busy, their results and the order of loads. Rules: R163, R166, R168. -/
def Obligations.WeaveCommands : Prop :=
  ∀ (s : State) (f : FnIx), s.blk.fnExists f.val = true →
    (∀ slot : Fin 8, s.blk.flag .wvBusy f.val = false →
      (s.does (.weaveLoad f slot) fun b => b.rd .wvBusy f.val = 1 ∧ b.rd .wvLastSlot f.val = slot.val ∧
        (b.fn f.val).wvCmd = some (slot.val, 1, s.blk.rd .wvStageProgram f.val)) ∧
      (s.does (.weaveClear f slot) fun b => b.rd .wvBusy f.val = 1 ∧ b.rd .wvLastSlot f.val = slot.val ∧
        (b.fn f.val).wvCmd = some (slot.val, 2, s.blk.rd .wvStageProgram f.val))) ∧
    (∀ slot : Fin 8, s.blk.flag .wvBusy f.val = true →
      (s.does (.weaveLoad f slot) fun b => s.blk.errLogged b f.val 16 slot.val ∧ b.rd .wvLastSlot f.val = s.blk.rd .wvLastSlot f.val) ∧
      (s.does (.weaveClear f slot) fun b => s.blk.errLogged b f.val 16 slot.val ∧ b.rd .wvLastSlot f.val = s.blk.rd .wvLastSlot f.val)) ∧
    (∀ slot op pg, (s.blk.fn f.val).wvCmd = some (slot, op, pg) → (op = 2 ∨ s.blk.weaveAhead f.val = false) →
      (s.blk.mode f.val 7 = false → s.does (.weaveCmdDone f) fun b => b.rd .wvBusy f.val = 0 ∧ b.rd .wvResult f.val = 7 ∧
        b.rd .wvSlotProgram f.val slot = s.blk.rd .wvSlotProgram f.val slot) ∧
      (s.blk.mode f.val 7 = true → op = 2 → s.does (.weaveCmdDone f) fun b => b.rd .wvBusy f.val = 0 ∧ b.rd .wvResult f.val = 0 ∧
        b.rd .wvSlotProgram f.val slot = 0) ∧
      (s.blk.mode f.val 7 = true → op = 1 → wvCheck pg ≠ 0 → s.does (.weaveCmdDone f) fun b => b.rd .wvBusy f.val = 0 ∧
        b.rd .wvResult f.val = wvCheck pg ∧ b.rd .wvSlotProgram f.val slot = s.blk.rd .wvSlotProgram f.val slot) ∧
      (s.blk.mode f.val 7 = true → op = 1 → wvCheck pg = 0 →
        (s.blk.poolUsed.contains pg = true ∨ s.blk.poolUsed.length < 256) → s.does (.weaveCmdDone f) fun b => b.rd .wvBusy f.val = 0 ∧
          b.rd .wvResult f.val = 0 ∧ b.rd .wvSlotProgram f.val slot = pg % 2 ^ (Fld.attr .wvSlotProgram).width))

/-- Spur selection, preemption, commit, resample after EOI, INTx spacing and the rein period. Rules: R176, R177, R178, R179, R182, R188, R191. -/
def Obligations.SpurSelectionAndTimers : Prop :=
  ((∀ (s : State) (f : FnIx) (k : Nat),
    s.blk.winner f.val ((s.blk.rotation f.val).filter (fun k => s.blk.selectable f.val k || s.blk.rd .srcState f.val k == 2)) = some k →
    (s.blk.selected? f.val = none → s.does (.spurSelect f) fun b =>
      b.rd .srcState f.val k = 2 ∧ b.rd .selSrc f.val = s.blk.rd .srcPrio f.val k % 2 ^ (Fld.attr .selSrc).width ∧ b.rd .selTgt f.val = s.blk.pickTgt f.val k % 2 ^ (Fld.attr .selTgt).width ∧
      b.rd .selVec f.val = s.blk.rd .tgtVec f.val (8 * k + s.blk.pickTgt f.val k) % 2 ^ (Fld.attr .selVec).width) ∧
    (∀ old, s.blk.selected? f.val = some old → old ≠ k → s.does (.spurSelect f) fun b => b.rd .srcState f.val old = 1 ∧ b.rd .srcState f.val k = 2 ∧
      b.rd .spCntPreempt f.val = min (s.blk.rd .spCntPreempt f.val + 1) (2 ^ (Fld.attr .spCntPreempt).width - 1)) ∧
    (s.blk.selected? f.val = some k → s.does (.spurSelect f) fun b => ∀ y i j, b.rd y i j = s.blk.rd y i j)) ∧
  (∀ (s : State) (f : FnIx) (k : Nat), s.blk.selected? f.val = some k →
    (s.blk.delivery f.val ≠ 0 → s.does (.spurIssueCommit f) fun b => b.rd .srcState f.val k = 3 ∧ b.rd .srcLatch f.val k = 0 ∧
      b.rd .spRotate f.val = (k + 1) % 15) ∧
    (s.blk.delivery f.val ≠ 0 → s.blk.anyTgt f.val k = true → s.does (.spurIssueCommit f) fun b =>
      b.rd .srcNextTgt f.val k = (s.blk.rd .selTgt f.val + 1) % 8 ∧
      b.rd .srcLastVec f.val k = s.blk.rd .selVec f.val % 2 ^ (Fld.attr .srcLastVec).width) ∧
    (s.blk.delivery f.val = 0 → s.does (.spurIssueCommit f) fun b => b.rd .srcState f.val k = b2n (s.blk.srcReq f.val k)))) ∧
  ((∀ (s : State) (f : FnIx) (k : SrcIx) e, (s.blk.fn f.val).eoiWait.find? (fun e => e.1 == k.val) = some e → s.blk.eoiHeld f.val k.val e.2 = false →
    s.does (.spurResample f k) fun b => b.rd .srcState f.val k.val = b2n (s.blk.srcReq f.val k.val) ∧
      (b.fn f.val).eoiWait.any (fun e => e.1 == k.val) = false) ∧
  (∀ (s : State) (l : LinkIx) (pin : Fin 4), (s.blk.lk l.val).intxBusy.length = 4 → (s.blk.lk l.val).intxLast.length = 4 →
    (s.blk.intxComb l.val pin.val = ((s.blk.lk l.val).intxLast[pin.val]?.getD false) → s.does (.intxSpacingExpiry l pin) fun b =>
      (b.lk l.val).intxBusy[pin.val]? = some false) ∧
    (s.blk.intxComb l.val pin.val ≠ ((s.blk.lk l.val).intxLast[pin.val]?.getD false) → s.blk.inL0 l.val = true → s.does (.intxSpacingExpiry l pin) fun b =>
      (b.lk l.val).intxBusy[pin.val]? = some true ∧ (b.lk l.val).intxLast[pin.val]? = some (s.blk.intxComb l.val pin.val) ∧
      b.out = .msg l.val (if s.blk.intxComb l.val pin.val then .assertIntx pin.val else .deassertIntx pin.val) :: s.blk.out)) ∧
  (∀ (s : State) (f : FnIx), s.blk.flag .reinWait f.val = true → s.does (.reinsPeriodExpiry f) fun b =>
    b.rd .reinWait f.val = 0 ∧ b.rd .lastRein f.val = (s.blk.time + 1) % 2 ^ 64 ∧
    (s.blk.rd .srcState f.val 11 ≠ 2 → b.rd .srcLatch f.val 11 = 1)))

/-- Spur mask, pend, EOI, source configuration and vector control writes. Rules: R174, R179, R180, R181, R184, R186. -/
def Obligations.SpurRegisters : Prop :=
  ∀ (s : State) (f : FnIx), s.blk.fnExists f.val = true →
    (∀ v : BitVec 32, s.does (.spurMaskSet f v) fun b =>
      b.rd .spMask f.val = (s.blk.rd .spMask f.val ||| v.toNat % 2 ^ 15) % 2 ^ 15) ∧
    (∀ (v : BitVec 32) k, s.blk.selected? f.val = some k → bit v.toNat k = true → s.does (.spurMaskSet f v) fun b =>
      b.rd .srcState f.val k = b2n (s.blk.srcReq f.val k)) ∧
    (∀ v : BitVec 32, s.does (.spurMaskClr f v) fun b =>
      b.rd .spMask f.val = (s.blk.rd .spMask f.val - (s.blk.rd .spMask f.val &&& v.toNat % 2 ^ 15)) % 2 ^ 15) ∧
    (∀ v : BitVec 32, s.does (.spurPendSet f v) fun b =>
      ∀ k < 15, bit v.toNat k = true → s.blk.rd .srcState f.val k ≠ 2 → b.rd .srcLatch f.val k = 1) ∧
    (∀ v : BitVec 32, s.does (.spurPendClr f v) fun b => ∀ k < 15, bit v.toNat k = true → b.rd .srcLatch f.val k = 0) ∧
    (∀ v : BitVec 32, s.does (.spurEoi f v) fun b =>
      ∀ k < 15, bit v.toNat k = true → s.blk.rd .srcState f.val k = 3 → (b.fn f.val).eoiWait.any (fun e => e.1 == k) = true) ∧
    (∀ (off : Nat) (v : BitVec 32) (k : Nat), off % 240 / 4 = 4 * k → s.does (.spurSrcCfgWrite f off v) fun b =>
      b.rd .srcPrio f.val k = v.toNat % 4) ∧
    (∀ (v : Fin 64), v.val < optD (s.blk.fnRec? f.val) 0 (·.vectors) → s.does (.vectorControlMaskClear f (some v)) fun b =>
      b.rd .msixVmask f.val v.val = 0) ∧
    (s.does (.vectorControlMaskClear f none) fun b => b.rd .cfgMsixFmask f.val (s.blk.actSet f.val) = 0)

/-- LINES, REINS, EVENT and VENDOR of a design, and their release from the interrupt fence. Rules: R49, R53, R116, R157, R190. -/
def Obligations.DesignMessagesAndFence : Prop :=
  (∀ (s : State) (p : PortIx) (f : FnIx), s.blk.active p.val = true → (s.blk.x p.val).capsSent = false →
    (s.blk.isBound f.val p.val = true → (s.blk.x p.val).dMsgs ≠ 0 → s.blk.shut p.val = false →
      (∀ (kind : BitVec 4) (v : BitVec 8), kind.toNat < 5 → s.does (.lines p kind f v) fun b =>
        (b.x p.val).fenceQ = (s.blk.x p.val).fenceQ ++ [⟨(s.blk.x p.val).arr, 0, f.val, v.toNat, 0, []⟩] ∧ (b.x p.val).dMsgs = (s.blk.x p.val).dMsgs - 1) ∧
      (∀ v : BitVec 32, s.does (.reins p f v) fun b =>
        (b.x p.val).fenceQ = (s.blk.x p.val).fenceQ ++ [⟨(s.blk.x p.val).arr, 1, f.val, v.toNat, 0, []⟩] ∧ (b.x p.val).dMsgs = (s.blk.x p.val).dMsgs - 1)) ∧
    (s.blk.isBound f.val p.val = true → 1 ≤ s.blk.xver p.val → unitOf 0 (s.blk.x p.val).dRec f.val ≠ 0 → s.blk.shut p.val = false →
      (∀ (code : BitVec 16) (l : List Byte), s.does (.event p f code l) fun b =>
        (b.x p.val).fenceQ = (s.blk.x p.val).fenceQ ++ [⟨(s.blk.x p.val).arr, 2, f.val, code.toNat, 0, s.blk.payTaken l⟩] ∧
        unitOf 0 (b.x p.val).dRec f.val = unitOf 0 (s.blk.x p.val).dRec f.val - 1) ∧
      (∀ (vid code : BitVec 16) (l : List Byte), s.does (.vendor p f vid code l) fun b =>
        (b.x p.val).fenceQ = (s.blk.x p.val).fenceQ ++ [⟨(s.blk.x p.val).arr, 3, f.val, code.toNat, vid.toNat, s.blk.payTaken l⟩] ∧
        unitOf 0 (b.x p.val).dRec f.val = unitOf 0 (s.blk.x p.val).dRec f.val - 1)) ∧
    (∀ (kind : BitVec 4) (v : BitVec 8), 5 ≤ kind.toNat → s.does (.lines p kind f v) fun b =>
      b.rd .xlbCntProtocol p.val = min (s.blk.rd .xlbCntProtocol p.val + 1) (2 ^ (Fld.attr .xlbCntProtocol).width - 1) ∧ (b.x p.val).fenceQ = (s.blk.x p.val).fenceQ) ∧
    ((s.blk.x p.val).dMsgs = 0 → ∀ v : BitVec 32, s.does (.reins p f v) fun b =>
      b.rd .xlbFenced p.val = 1)) ∧
  (∀ (s : State) (p : PortIx) (m : FMsg) (t : List FMsg), (s.blk.x p.val).fenceQ = m :: t →
    (s.blk.fenceOpen p.val m = false → s.does (.interruptFenceRelease p) fun b => (b.x p.val).fenceQ = m :: t ∧
      ∀ y i j, b.rd y i j = s.blk.rd y i j) ∧
    (s.blk.fenceOpen p.val m = true → m.kind = 0 → s.does (.interruptFenceRelease p) fun b => (b.x p.val).fenceQ = t ∧
      (b.x p.val).dMsgs = (s.blk.x p.val).dMsgs + 1 ∧ b.rd .spLines m.f = m.v % 2 ^ 8) ∧
    (s.blk.fenceOpen p.val m = true → m.kind = 1 → s.does (.interruptFenceRelease p) fun b => (b.x p.val).fenceQ = t ∧
      (b.x p.val).dMsgs = (s.blk.x p.val).dMsgs + 1 ∧ b.rd .reinsInValue m.f = m.v % 2 ^ 32) ∧
    (s.blk.fenceOpen p.val m = true → m.kind = 2 → s.blk.flag .evtEn m.f = false → s.does (.interruptFenceRelease p) fun b => (b.x p.val).fenceQ = t ∧
      (b.fn m.f).recs = (s.blk.fn m.f).recs ++ [⟨m.v, 0, 0, m.payload⟩]))

/-- CAPS: acceptance and refusal, RELEASE, abandonment and resending. Rules: R67, R69, R255. -/
def Obligations.CapsExchange : Prop :=
  (∀ (s : State) (p : PortIx) (c : CapsMsg), (s.blk.rd .psState p.val = 4 ∨ s.blk.rd .psState p.val = 5) →
    ((s.blk.capsOut p.val).capsWhy p.val c ≠ 0 → s.does (.caps p c) fun b => b.rd .xlbCapsFail p.val = 1 ∧ b.rd .xlbCapsFailWhy p.val = (s.blk.capsOut p.val).capsWhy p.val c ∧
      b.rd .xlbIdrev p.val = c.idrev % 2 ^ (Fld.attr .xlbIdrev).width ∧ b.rd .psState p.val = 4 ∧ b.active p.val = false) ∧
    ((s.blk.capsOut p.val).capsWhy p.val c = 0 → s.does (.caps p c) fun b => b.rd .xlbVersion p.val = min c.vmax (s.blk.sentVmax p.val) % 2 ^ (Fld.attr .xlbVersion).width ∧
      b.rd .xlbWidth p.val = (oneWidth c.widths).getD 0 ∧ b.rd .xlbIdent p.val = c.ident % 2 ^ (Fld.attr .xlbIdent).width ∧
      b.rd .xlbCapsFail p.val = 0 ∧ b.rd .psState p.val = 5 ∧ b.active p.val = true)) ∧
  (∀ (s : State) (p : PortIx) (c : CapsMsg), s.blk.rd .psState p.val ≠ 4 → s.blk.rd .psState p.val ≠ 5 → s.does (.caps p c) fun b =>
    b.active p.val = s.blk.active p.val ∧ ∀ y i j, b.rd y i j = s.blk.rd y i j) ∧
  (∀ (s : State) (f : FnIx) (r : FnRec), s.blk.fnRec? f.val = some r → r.vf = false → s.blk.fenced r.port = true → s.blk.active r.port = true →
    (s.blk.x r.port).capsSent = false → s.does (.release f) fun b => (b.x r.port).capsSent = true ∧ (b.x r.port).capsRel = true ∧
      b.handed r.port (.caps (s.blk.ownCaps r.port))) ∧
  (∀ (s : State) (p : PortIx), (s.blk.x p.val).capsRel = true → s.does (.capsAbandon p) fun b =>
    (b.x p.val).capsSent = false ∧ (b.x p.val).capsRel = false) ∧
  (∀ (s : State) (p : PortIx), s.blk.rd .psState p.val = 4 → (s.blk.x p.val).capsSent = true → s.does (.capsResend p) fun b =>
    (b.x p.val).capsSeq = ((s.blk.x p.val).capsSeq + 1) % 256 ∧ b.handed p.val (.caps (s.blk.ownCaps p.val)))

/-- XLB credits and padding, and the rein values sent to a design. Rules: R51, R192. -/
def Obligations.XlbCreditsAndReins : Prop :=
  ((∀ (s : State) (p : PortIx) (kind : BitVec 4) (cls : BitVec 8) (f : FnIx) (n : BitVec 16), s.blk.active p.val = true → (s.blk.x p.val).capsSent = false →
    (kind.toNat = 0 → cls.toNat < 5 → (s.blk.x p.val).rspQ = [] → (∀ r ∈ (s.blk.x p.val).reqs, r.st ≠ .waiting) → s.does (.credit p kind cls f n) fun b =>
      (b.x p.val).cr = (s.blk.x p.val).cr.modify cls.toNat (fun c => if c = 65535 then c else c + n.toNat)) ∧
    ((kind.toNat ≠ 0 ∧ kind.toNat ≠ 15 ∨ kind.toNat = 0 ∧ 5 ≤ cls.toNat) → s.does (.credit p kind cls f n) fun b =>
      b.rd .xlbCntProtocol p.val = min (s.blk.rd .xlbCntProtocol p.val + 1) (2 ^ (Fld.attr .xlbCntProtocol).width - 1) ∧ (b.x p.val).cr = (s.blk.x p.val).cr)) ∧
  (∀ (s : State) (p : PortIx), s.does (.pad p) fun b => b.out = s.blk.out ∧ (∀ q, b.x q = s.blk.x q) ∧ ∀ y i j, b.rd y i j = s.blk.rd y i j)) ∧
  ((∀ (s : State) (f : FnIx) (v : BitVec 32), s.blk.fnExists f.val = true → s.does (.reinsOutWrite f v) fun b =>
    b.rd .reinsOutValue f.val = v.toNat ∧ b.rd .reinsOutPending f.val = 1) ∧
  (∀ (s : State) (p : PortIx) (f : Nat), s.blk.active p.val = true → s.blk.shut p.val = false → (s.blk.x p.val).capsSent = false →
    hasCr ((s.blk.x p.val).cr[4]?.getD 0) 1 = true → (s.blk.boundFns p.val).filter (fun f => s.blk.reinReady p.val f) = [f] → s.does (.reinsSend p) fun b =>
      b.rd .reinsOutSent f = s.blk.rd .reinsOutValue f % 2 ^ 32 ∧ b.rd .reinsOutPending f = 0 ∧ (b.x p.val).reinNext = f + 1 ∧
      b.handed p.val (.reins f (s.blk.rd .reinsOutValue f))) ∧
  (∀ (s : State) (p : PortIx), hasCr ((s.blk.x p.val).cr[4]?.getD 0) 1 = false → s.does (.reinsSend p) fun b =>
    (∀ q, b.x q = s.blk.x q) ∧ ∀ y i j, b.rd y i j = s.blk.rd y i j))

/-- Prefetch entries, FORGET, page overrides and answers to speculative reads. Rules: R107, R119, R120, R121. -/
def Obligations.PrefetchAndSpeculation : Prop :=
  ((∀ (s : State) (f : FnIx) (e : Nat) (x : PfEnt), s.blk.pfOf f.val e = some x →
    (x.st = .valid → s.does (.prefetchAgeExpiry f e) fun b => b.pfOf f.val e = none) ∧
    (x.st ≠ .valid → s.does (.prefetchAgeExpiry f e) fun b => b.pfOf f.val e = some x) ∧
    (x.st = .held → s.does (.prefetchHoldExpiry f e) fun b => b.pfOf f.val e = none ∧
      (x.mute = false → (∃ k < x.len, x.used[k]?.getD false = false) → s.blk.errLogged b f.val 12 1 ∧
        b.rd .pfCntLost f.val = min (s.blk.rd .pfCntLost f.val + 1) (2 ^ (Fld.attr .pfCntLost).width - 1)))) ∧
  (∀ (s : State) (f : FnIx), s.does (.forget f) fun b => (b.fn f.val).learned = []) ∧
  (∀ (s : State) (f : FnIx) (n : Nat) (off : Nat) (v : BitVec 32), s.blk.fnExists f.val = true → n < 256 → off / 4 = 0x1400 + 4 * n + 3 →
    s.does (.pgoWrite f off v) fun b => b.rd .pgoValid f.val n = v.toNat % 2)) ∧
  (∀ (s : State) (p : PortIx) (tag : BitVec 12) (r : XReq) (id : Nat) (x : PfEnt), s.blk.active p.val = true → (s.blk.x p.val).capsSent = false →
    s.blk.loom.stopped = false → s.blk.reqOfTag p.val tag.toNat = some r → r.orig = .spec id → r.op = 1 → s.blk.pfBorn r.f id = some x →
    s.blk.pfOf r.f x.e = some x → x.st = .pending → x.mute = false → x.waits = [] → x.len ≠ 0 → ∀ cause : BitVec 8, cause.toNat < 128 →
    (s.does (.rspSidefx p tag cause) fun b => (x.port, x.lo / 4096) ∈ (b.fn r.f).learned ∧ b.pfOf r.f x.e = none) ∧
    (3 ≤ s.blk.xver p.val → ∀ pvec data, s.does (.rspSidefxDone p tag cause pvec data) fun b => (x.port, x.lo / 4096) ∈ (b.fn r.f).learned ∧
      ∃ y, b.pfOf r.f x.e = some y ∧ y.st = .held ∧ y.used = List.replicate x.len false ∧
        b.rd .pfCntHeld r.f = min (s.blk.rd .pfCntHeld r.f + 1) (2 ^ (Fld.attr .pfCntHeld).width - 1)))

/-- What each XLB answer does to a posted write and to a host read. Rules: R44, R45, R62. -/
def Obligations.HostResponses : Prop :=
  (∀ (s : State) (p : PortIx) (tag : BitVec 12) (r : XReq), s.blk.active p.val = true → (s.blk.x p.val).capsSent = false →
    s.blk.reqOfTag p.val tag.toNat = some r → r.orig = .posted → r.op = 2 → ∀ cause : BitVec 8, cause.toNat < 128 →
    (∀ pvec data, s.does (.rspDone p tag 0 cause pvec data) fun b => b.reqEnded p.val r.rid) ∧
    (s.does (.rspFault p tag cause) fun b => b.reqEnded p.val r.rid ∧ s.blk.errLogged b r.f 9 2) ∧
    (s.does (.rspNotarget p tag cause) fun b => b.reqEnded p.val r.rid ∧ s.blk.errLogged b r.f 9 3) ∧
    (s.does (.rspSize p tag cause) fun b => b.reqEnded p.val r.rid ∧ s.blk.errLogged b r.f 9 6) ∧
    (s.does (.rspRetry p tag cause) fun b => ∃ x ∈ (b.x p.val).reqs, x.rid = r.rid ∧ x.st = .gap) ∧
    (∀ pvec data, s.does (.rspDonePoison p tag cause pvec data) fun b => b.reqEnded p.val r.rid ∧
      b.rd .xlbCntProtocol p.val = min (s.blk.rd .xlbCntProtocol p.val + 1) (2 ^ (Fld.attr .xlbCntProtocol).width - 1))) ∧
  (∀ (s : State) (p : PortIx) (tag : BitVec 12) (r : XReq) (job : Nat) (j : HJob) (pc : HPiece), s.blk.active p.val = true → (s.blk.x p.val).capsSent = false →
    s.blk.reqOfTag p.val tag.toNat = some r → r.orig = .host job 0 → r.op = 1 → s.blk.job? job = some j → j.kind = .read → j.pieces = [pc] → pc.ans = none →
    j.next = 0 → j.dead = false → s.blk.streamBad j.link j.stream = false → s.blk.loom.stopped = false → ∀ cause : BitVec 8,
    (∀ pvec data, s.does (.rspDone p tag 0 cause pvec data) fun b => ∃ d ep, .cpl j.link j.req .sc d ep j.stream ∈ b.out) ∧
    (∀ pvec data, s.does (.rspDonePoison p tag cause pvec data) fun b => ∃ d ep, .cpl j.link j.req .sc d ep j.stream ∈ b.out) ∧
    (s.does (.rspFault p tag cause) fun b => .cpl j.link j.req .ca [] false j.stream ∈ b.out) ∧
    (s.does (.rspNotarget p tag cause) fun b => .cpl j.link j.req .ur [] false j.stream ∈ b.out) ∧
    (s.does (.rspSize p tag cause) fun b => .cpl j.link j.req .ca [] false j.stream ∈ b.out))

/-- Late answers, request timeouts, RETRY gaps and the XLB tag quarantine. Rules: R44, R61, R62, R63. -/
def Obligations.XlbTimers : Prop :=
  (∀ (s : State) (p : PortIx) (tag : BitVec 12) (g : XQuar) (pvec data cause), s.blk.active p.val = true → (s.blk.x p.val).capsSent = false →
    s.blk.reqOfTag p.val tag.toNat = none → (s.blk.x p.val).quar.find? (fun g => g.tag == tag.toNat) = some g → s.does (.rspDone p tag 0 cause pvec data) fun b =>
      b.rd .xlbCntLate p.val = min (s.blk.rd .xlbCntLate p.val + 1) (2 ^ (Fld.attr .xlbCntLate).width - 1) ∧
      (g.fenced = false → ∀ y ∈ (b.x p.val).quar, y.tag ≠ tag.toNat)) ∧
  (∀ (s : State) (p : PortIx) (rid : Nat) (r : XReq), (s.blk.x p.val).reqs.find? (fun r => r.rid == rid) = some r → r.orig = .posted → r.st = .sent → r.atLoom = false →
    ((s.blk.x p.val).tmos.filter (fun t => s.blk.time - t ≤ r.cfg.fwin)).length + 1 < r.cfg.fcount →
    s.does (.xlbRequestTimeout p rid) fun b => b.reqEnded p.val rid ∧ s.blk.errLogged b r.f 5 1 ∧ (∃ g ∈ (b.x p.val).quar, g.tag = r.tag ∧ g.fenced = false) ∧
      b.rd .xlbCntTimeouts p.val = min (s.blk.rd .xlbCntTimeouts p.val + 1) (2 ^ (Fld.attr .xlbCntTimeouts).width - 1)) ∧
  (∀ (s : State) (p : PortIx) (tag : BitVec 12) (r : XReq), (s.blk.x p.val).reqs.find? (fun r => r.st == .gap && r.tag == tag.toNat) = some r →
    (r.orig = .posted → r.cfg.limit ≤ r.retries → s.does (.retryGapExpiry p tag) fun b => b.reqEnded p.val r.rid ∧ s.blk.errLogged b r.f 9 2) ∧
    ((s.blk.x p.val).reqs = [r] → r.retries < r.cfg.limit → r.atLoom = false → s.blk.active p.val = true → s.blk.shut p.val = false → (s.blk.x p.val).capsSent = false →
      hasCr ((s.blk.x p.val).cr[0]?.getD 0) 1 = true → hasCr ((s.blk.x p.val).cr[1]?.getD 0) (reqSlots (s.blk.xw p.val) r) = true →
      s.does (.retryGapExpiry p tag) fun b => (b.x p.val).reqs = [{ r with st := .sent, retries := r.retries + 1 }])) ∧
  (∀ (s : State) (p : PortIx) (tag : BitVec 12), s.does (.xlbTagQuarantineExpiry p tag) fun b => ∀ g ∈ (b.x p.val).quar, g.tag = tag.toNat → g.fenced = true)

/-- Answers to NOP, FLUSH, and to local-master requests that no window or no right allows. Rules: R54, R55, R125, R127. -/
def Obligations.LocalMasterAndFlush : Prop :=
  (∀ (s : State) (p : PortIx) (h : LmHdr), s.blk.rspFree p.val →
    (s.blk.lmTakes p.val 0 h 0 0 = true → s.does (.localMasterNop p h) fun b => b.told p.val h.tag.toNat 0 0) ∧
    (s.blk.lmTakes p.val 5 h 0 0 = true → s.does (.localMasterFlush p h) fun b => ∃ m ∈ (b.x p.val).lms, m.op = 5 ∧ m.tag = h.tag.toNat ∧ m.arr = (s.blk.x p.val).arr) ∧
    (s.blk.lmWindow p.val h.addr.toNat = none → s.blk.lmNext p.val →
      (s.blk.lmTakes p.val 1 h 0 0 = true → s.does (.localMasterRd p h 1) fun b => b.told p.val h.tag.toNat 3 0) ∧
      (s.blk.lmTakes p.val 2 h 0 0 = true → s.does (.localMasterWr p h) fun b => b.told p.val h.tag.toNat 3 0) ∧
      (s.blk.lmTakes p.val 3 h 0 0 = true → s.does (.localMasterWrf p h) fun b => b.told p.val h.tag.toNat 3 0) ∧
      (∀ op sz : BitVec 2, s.blk.lmTakes p.val 4 h op.toNat sz.toNat = true → s.does (.localMasterAtm p h op sz) fun b => b.told p.val h.tag.toNat 3 0)) ∧
    (∀ w code cause, s.blk.lmWindow p.val h.addr.toNat = some w → s.blk.lmNext p.val →
      (s.blk.lmTakes p.val 1 h 0 0 = true → s.blk.lmRefuse w.owner w.m 1 h.pvec.toNat (s.blk.lmOf p.val 1 h 0 0 w).host = some (code, cause, false) →
        s.does (.localMasterRd p h 1) fun b => b.told p.val h.tag.toNat code cause) ∧
      (s.blk.lmTakes p.val 2 h 0 0 = true → s.blk.lmRefuse w.owner w.m 2 h.pvec.toNat (s.blk.lmOf p.val 2 h 0 0 w).host = some (code, cause, false) →
        s.does (.localMasterWr p h) fun b => b.told p.val h.tag.toNat code cause ∧ ∃ y ∈ (b.x p.val).wrs, y.arr = (s.blk.x p.val).arr ∧ y.code = code ∧ y.cause = cause))) ∧
  (∀ (s : State) (p : PortIx) (m : LmReq), s.blk.active p.val = true → s.blk.loom.stopped = false → (s.blk.x p.val).lms.find? (fun m => m.op == 5) = some m → s.blk.flushOpen p.val m.arr = false → m.ph = .issued →
    ((s.blk.x p.val).wrs = [] → m.zfns = [] → s.blk.rspFree p.val → s.does (.flushAnswer p) fun b =>
      b.told p.val m.tag 0 0 ∧ ∀ y ∈ (b.x p.val).lms, y.arr ≠ m.arr) ∧
    (∀ w, (s.blk.x p.val).wrs = [w] → w.arr < m.arr → w.code = 2 → s.blk.rspFree p.val → s.does (.flushAnswer p) fun b =>
      b.told p.val m.tag 2 w.cause ∧ (b.x p.val).wrs = []) ∧
    (∀ w, (s.blk.x p.val).wrs = [w] → w.arr < m.arr → w.code = 0 → m.left = 0 → (s.blk.fn w.f).flr = none → s.blk.bme w.f = true → s.does (.flushAnswer p) fun b =>
      b.asks w.f (.flushZlr p.val m.arr) 0 0 [] 0 ∧ { m with left := 1, zfns := [w.f] } ∈ (b.x p.val).lms))

/-- Local-master requests that are issued: reads, writes, writes with flush and AtomicOps on the host link. Rules: R54, R115, R125, R127, R128. -/
def Obligations.LocalMasterIssues : Prop :=
  ∀ (s : State) (p : PortIx) (h : LmHdr) (w : ObWin), s.blk.lmNext p.val → s.blk.lmWindow p.val h.addr.toNat = some w → s.blk.flag .obTranslated w.owner w.m = false →
    (s.blk.lmTakes p.val 1 h 0 0 = true → s.blk.lmRefuse w.owner w.m 1 h.pvec.toNat (s.blk.lmOf p.val 1 h 0 0 w).host = none → s.does (.localMasterRd p h 1) fun b =>
      let m := s.blk.lmOf p.val 1 h 0 0 w
      { m with ph := .issued, left := (piecesOf (s.blk.mrrs w.owner) m.host m.len).length } ∈ (b.x p.val).lms ∧
      ∀ x ∈ piecesOf (s.blk.mrrs w.owner) m.host m.len, b.asks w.owner (.lmRd p.val m.arr (x.1 - m.host)) x.1 x.2 [] 0) ∧
    (s.blk.lmTakes p.val 2 h 0 0 = true → s.blk.lmRefuse w.owner w.m 2 h.pvec.toNat (s.blk.lmOf p.val 2 h 0 0 w).host = none → s.does (.localMasterWr p h) fun b =>
      let m := s.blk.lmOf p.val 2 h 0 0 w
      ∀ y ∈ memWrites (.lm p.val m.arr) m.f (s.blk.mps w.owner) m.host (lmCells m) none false m.pasid m.ns, b.onLink m.link y) ∧
    (s.blk.lmTakes p.val 3 h 0 0 = true → s.blk.lmRefuse w.owner w.m 3 h.pvec.toNat (s.blk.lmOf p.val 3 h 0 0 w).host = none → s.does (.localMasterWrf p h) fun b =>
      let m := s.blk.lmOf p.val 3 h 0 0 w
      b.asks w.owner (.lmZlr p.val m.arr) m.host 0 [] 0 ∧
      ∀ y ∈ memWrites (.lm p.val m.arr) m.f (s.blk.mps w.owner) m.host (lmCells m) none false m.pasid m.ns, b.onLink m.link y) ∧
    (∀ op sz : BitVec 2, s.blk.lmTakes p.val 4 h op.toNat sz.toNat = true → s.blk.lmRefuse w.owner w.m 4 h.pvec.toNat (s.blk.lmOf p.val 4 h op.toNat sz.toNat w).host = none → s.does (.localMasterAtm p h op sz) fun b =>
      let m := s.blk.lmOf p.val 4 h op.toNat sz.toNat w
      { m with ph := .issued } ∈ (b.x p.val).lms ∧ b.asks w.owner (.lmAtm p.val m.arr) m.host m.len h.data op.toNat)

/-- Configuration requests: retry before the image, Unsupported Request, retry during a function reset, or served. Rules: R80, R204. -/
def Obligations.ConfigAccesses : Prop :=
  ∀ (s : State) (l : LinkIx) (fno off req : Nat) (st : Option Nat), s.blk.dlActive l.val = true → s.blk.streamBad l.val st = false →
    (s.blk.img = none → s.does (.configRead l fno off req st) (fun b => .cfg l.val req .crs 0 st ∈ b.out) ∧
      ∀ en v bus, s.does (.configWrite l fno off en v bus req st) fun b => .cfg l.val req .crs 0 st ∈ b.out) ∧
    (s.blk.img ≠ none → s.blk.cfgTarget l.val fno = none → s.does (.configRead l fno off req st) (fun b => .cfg l.val req .ur 0 st ∈ b.out) ∧
      ∀ en v bus, s.does (.configWrite l fno off en v bus req st) fun b => .cfg l.val req .ur 0 st ∈ b.out) ∧
    (∀ r, s.blk.img ≠ none → s.blk.cfgTarget l.val fno = some r →
      ((s.blk.fn r.f).flr ≠ none → s.does (.configRead l fno off req st) (fun b => .cfg l.val req .crs 0 st ∈ b.out) ∧
        ∀ en v bus, s.does (.configWrite l fno off en v bus req st) fun b => .cfg l.val req .crs 0 st ∈ b.out) ∧
      ((s.blk.fn r.f).flr = none → s.does (.configRead l fno off req st) (fun b => .cfg l.val req .sc (s.blk.cfgVal l.val r (dwordOf off)) st ∈ b.out) ∧
        (dwordOf off = 0x3C → r.vf = false → ∀ (v : BitVec 32) bus, s.does (.configWrite l fno off 1 v bus req st) fun b =>
          .cfg l.val req .sc 0 st ∈ b.out ∧ (b.lk l.val).bus = bus % 256 ∧ b.rd .cfgIntLine r.f (setOn r l.val) = v.toNat % 256)))

/-- Configuration requests during a function reset complete with Retry; other functions are answered as usual. Rules: R204. The rule is stated whole. -/
def Obligations.RetryDuringReset : Prop :=
  (∀ (s : State) (f : FnIx) (alt : Bool), s.blk.cfgOk f.val (b2n alt) = true → b2n alt = s.blk.actSet f.val →
    s.does (.initiateFunctionLevelReset f alt) fun b => (b.fn f.val).flr ≠ none) ∧
  (∀ (s : State) (l : LinkIx) (fno off req : Nat) (st : Option Nat) (r : FnRec), s.blk.dlActive l.val = true → s.blk.streamBad l.val st = false → s.blk.img ≠ none →
    s.blk.cfgTarget l.val fno = some r →
    ((s.blk.fn r.f).flr ≠ none →
      s.does (.configRead l fno off req st) (fun b => b.out = .cfg l.val req .crs 0 st :: s.blk.out ∧ ∀ y i j, b.rd y i j = s.blk.rd y i j) ∧
      ∀ en v bus, s.does (.configWrite l fno off en v bus req st) fun b => b.out = .cfg l.val req .crs 0 st :: s.blk.out ∧ ∀ y i j, b.rd y i j = s.blk.rd y i j) ∧
    ((s.blk.fn r.f).flr = none → s.does (.configRead l fno off req st) fun b => .cfg l.val req .sc (s.blk.cfgVal l.val r (dwordOf off)) st ∈ b.out)) ∧
  (∀ (s : State) (f : FnIx) (x : FlrSt), (s.blk.fn f.val).flr = some x →
    ((s.blk.fn f.val).np.any (fun t => t.st == .sent || t.st == .silent) = false → s.does (.flrDrainEnd f) fun b => (b.fn f.val).flr = none) ∧
    s.does (.flrBoundExpiry f) fun b => (b.fn f.val).flr = none)

/-- Every translation of a function is discarded at the five events of R212. Rules: R212. The rule is stated whole. -/
def Obligations.TranslationDiscards : Prop :=
  (∀ (s : State) (f : FnIx) (alt : Bool) (r : FnRec), s.blk.cfgOk f.val (b2n alt) = true → b2n alt = s.blk.actSet f.val →
    s.blk.fnRec? f.val = some r → r.privileged = true →
    (s.does (.atsEnableClear f alt) fun b => b.untranslated f.val) ∧ (s.does (.pasidEnableClear f alt) fun b => b.untranslated f.val) ∧
    ∀ v, s.does (.stuWrite f alt v) fun b => b.untranslated f.val) ∧
  (∀ (s : State) (f : FnIx) (alt : Bool), s.blk.cfgOk f.val (b2n alt) = true → b2n alt = s.blk.actSet f.val → (s.blk.fn f.val).flr = none →
    s.does (.initiateFunctionLevelReset f alt) fun b => b.untranslated f.val) ∧
  (∀ (s : State) (l : LinkIx) (f : Nat), s.blk.dlActive l.val = true → f ∈ s.blk.actFns l.val →
    (s.does (.linkLoss l) fun b => b.untranslated f) ∧ (s.does (.hotReset l) fun b => b.untranslated f) ∧
    s.does (.linkDisable l) fun b => b.untranslated f) ∧
  (∀ (b : Block) (f : Nat), b.untranslated f → ∀ pasid addr rd wr, b.xlHit f pasid addr rd wr = none)

/-- Host requests that no BAR claims, and reads and writes of the Expansion ROM. Rules: R89, R90. -/
def Obligations.UnclaimedAndRom : Prop :=
  (∀ (s : State) (r : HReq), s.blk.dlActive r.link.val = true → s.blk.streamBad r.link.val r.stream = false → s.blk.decodeBar r.link.val r.addr = none →
    (hreqOk r = true → s.does (.hostWindowRead r) (fun b => .cpl r.link.val r.req .ur [] false r.stream ∈ b.out) ∧
      s.does (.hostRomRead r) (fun b => .cpl r.link.val r.req .ur [] false r.stream ∈ b.out) ∧ s.does (.fcpRead r) fun b => .cpl r.link.val r.req .ur [] false r.stream ∈ b.out) ∧
    (∀ op, hatomicOk r op = true → s.does (.hostWindowAtomic r op) fun b => .cpl r.link.val r.req .ur [] false r.stream ∈ b.out) ∧
    (hwriteOk r = true → s.does (.hostWindowWrite r) (fun b => b.out = s.blk.out ∧ ∀ y i j, b.rd y i j = s.blk.rd y i j) ∧
      s.does (.registerWrite r) fun b => b.out = s.blk.out ∧ ∀ y i j, b.rd y i j = s.blk.rd y i j)) ∧
  (∀ (s : State) (r : HReq) (f off : Nat), s.blk.claims r f .rom off →
    (hreqOk r = true → s.does (.hostRomRead r) fun b =>
      .cpl r.link.val r.req .sc ((List.range r.en.length).map (fun k => (s.blk.romContent f)[off + k]?.getD 0)) false r.stream ∈ b.out) ∧
    (hwriteOk r = true → s.does (.hostWindowWrite r) fun b => b.out = s.blk.out ∧ ∀ y i j, b.rd y i j = s.blk.rd y i j))

/-- FCP accesses: zero-length and aligned reads, reads that are too long, AtomicOps and unaligned writes. Rules: R97, R10. -/
def Obligations.FunctionControlPage : Prop :=
  ∀ (s : State) (r : HReq) (f off : Nat), s.blk.claims r f .bar0 off →
    (hreqOk r = true →
      (hSpan r = 0 → s.does (.fcpRead r) fun b => .cpl r.link.val r.req .sc [0, 0, 0, 0] false r.stream ∈ b.out) ∧
      (64 < hSpan r → s.does (.fcpRead r) fun b => .cpl r.link.val r.req .ca [] false r.stream ∈ b.out ∧ s.blk.errLogged b f 3 0) ∧
      (r.en = [true, true, true, true] → off % 4 = 0 → off < 0x8000 ∨ 0xC000 ≤ off → s.does (.fcpRead r) fun b =>
        .cpl r.link.val r.req .sc (leBytes (s.blk.fcpDword f off).1 4) false r.stream ∈ b.out)) ∧
    (∀ op, hatomicOk r op = true → s.does (.hostWindowAtomic r op) fun b => .cpl r.link.val r.req .ca [] false r.stream ∈ b.out ∧ s.blk.errLogged b f 3 2) ∧
    (hwriteOk r = true → hSpan r ≠ 0 → off % 4 ≠ 0 → off < 0x10000 ∨ 0x30000 ≤ off → s.does (.registerWrite r) fun b => s.blk.errLogged b f 3 1)

/-- Memory writes of the FCP reach the registers: rein, error and event consumers, Spur, queue contexts and doorbells. Rules: R97, R133, R137, R159, R180, R192, R289. -/
def Obligations.RegisterWrites : Prop :=
  ∀ (s : State) (r : HReq) (f : FnIx) (off : Nat) (v : BitVec 32), s.blk.claims r f.val .bar0 off → s.blk.fnExists f.val = true → r.en = [true, true, true, true] → hwriteOk r = true →
    r.ep = false → leNat r.data = v.toNat →
    (off = 0x3008 → s.does (.registerWrite r) fun b => b.rd .reinsOutValue f.val = v.toNat ∧ b.rd .reinsOutPending f.val = 1) ∧
    (off = 0x1014 → exec (.registerWrite r) s = exec (.fcpErrConsWrite f v) s) ∧
    (off = 0x2014 → exec (.registerWrite r) s = exec (.spurMaskSet f v) s) ∧
    (off = 0x2024 → exec (.registerWrite r) s = exec (.spurEoi f v) s) ∧
    (off = 0xC018 → exec (.registerWrite r) s = exec (.evtConsWrite f v) s) ∧
    (∀ n : QIx, (off = 0x8000 + 512 * n.val + 32 → v = 16 → exec (.registerWrite r) s = exec (.qcmdReset f n) s) ∧
      (off = 0x8000 + 512 * n.val + 40 → exec (.registerWrite r) s = exec (.shtQheadWrite f n v) s) ∧
      (off = 0x10000 + 4096 * n.val → exec (.registerWrite r) s = exec (.doorbell f n (some v)) s))

/-- Window misses, size errors, fenced ports and AtomicOps that the window does not allow. Rules: R101, R103, R109, R112, R124. -/
def Obligations.WindowRefusals : Prop :=
  ∀ (s : State) (r : HReq) (f : Nat) (winB : Bool) (off : Nat), s.blk.claims r f (winBar winB) off →
    (s.blk.resolve f winB (off + hFirst r) = none →
      (hreqOk r = true → s.does (.hostWindowRead r) fun b => .cpl r.link.val r.req .ur [] false r.stream ∈ b.out ∧ s.blk.errLogged b f 1 0) ∧
      (hwriteOk r = true → s.does (.hostWindowWrite r) fun b => s.blk.errLogged b f 1 0)) ∧
    (∀ h, s.blk.resolve f winB (off + hFirst r) = some h → hSpan r ≠ 0 → sizeOk h.attr (off + hFirst r) (hSpan r) = false →
      (hreqOk r = true → s.does (.hostWindowRead r) fun b => .cpl r.link.val r.req .ca [] false r.stream ∈ b.out ∧ s.blk.errLogged b f 2 0) ∧
      (hwriteOk r = true → s.does (.hostWindowWrite r) fun b => s.blk.errLogged b f 2 0)) ∧
    (∀ op, hatomicOk r op = true →
      (s.blk.resolve f winB off = none → s.does (.hostWindowAtomic r op) fun b => .cpl r.link.val r.req .ur [] false r.stream ∈ b.out ∧ s.blk.errLogged b f 1 0) ∧
      (∀ h, s.blk.resolve f winB off = some h → s.blk.shut (s.blk.portOf f) = true → h.attr.atomics = true → h.attr.order = 0 → h.attr.wclass = 0 → s.blk.flag .xlbAtm (s.blk.portOf f) = true → s.does (.hostWindowAtomic r op) fun b => .cpl r.link.val r.req .ca [] false r.stream ∈ b.out) ∧
      (∀ h, s.blk.resolve f winB off = some h → h.attr.atomics = false ∨ h.attr.order ≠ 0 ∨ s.blk.flag .xlbAtm (s.blk.portOf f) = false → s.does (.hostWindowAtomic r op) fun b =>
        .cpl r.link.val r.req .ca [] false r.stream ∈ b.out ∧ s.blk.errLogged b f 4 0))

/-- Window accesses that cross: zero-length reads, reads, writes and AtomicOps become XLB requests. Rules: R101, R106, R111, R112, R124. -/
def Obligations.WindowRequests : Prop :=
  ∀ (s : State) (r : HReq) (f : Nat) (winB : Bool) (off : Nat), s.blk.claims r f (winBar winB) off → s.blk.shut (s.blk.portOf f) = false →
    (∀ h, s.blk.resolve f winB (off + hFirst r) = some h → hSpan r = 0 → hreqOk r = true → s.does (.hostWindowRead r) fun b =>
      b.wants (s.blk.portOf f) f 5 0 0 (.host s.blk.nextId 0)) ∧
    (∀ h, s.blk.resolve f winB (off + hFirst r) = some h → hSpan r ≠ 0 → sizeOk h.attr (off + hFirst r) (hSpan r) = true → h.attr.wclass = 0 →
      let m := mappedRange (swapG h.attr.order) h.l0 (hSpan r)
      let ps := memPieces (s.blk.cutW (s.blk.portOf f)) m.1 m.2
      (hreqOk r = true → s.blk.pfMatch f (s.blk.portOf f) m.1 m.2 = none → s.does (.hostWindowRead r) fun b =>
        ∀ x ∈ (List.range ps.length).zip ps, b.wants (s.blk.portOf f) f 1 x.2.1 x.2.2 (.host s.blk.nextId x.1)) ∧
      (hwriteOk r = true → s.does (.hostWindowWrite r) fun b =>
        ∀ x ∈ ps, b.wants (s.blk.portOf f) f (if h.attr.wmode && decide (s.blk.xver (s.blk.portOf f) ≥ 1) then 3 else 2) x.1 x.2 .posted)) ∧
    (∀ op h, hatomicOk r op = true → s.blk.resolve f winB off = some h → h.attr.atomics = true → h.attr.order = 0 → h.attr.wclass = 0 → s.blk.flag .xlbAtm (s.blk.portOf f) = true →
      s.does (.hostWindowAtomic r op) fun b => b.wants (s.blk.portOf f) f 4 h.l0 r.en.length (.host s.blk.nextId 0))
end

