-- ==== Sys2Proof/Laws/State.lean ====
section
/-! SUPPORT. One lemma per field of the block and update: an update changes its own field and no other. -/
namespace Sys2Proof.Machine.Block

/-! `wr` -/
theorem wr_regs (b : Block) (f : Fld) (i j v : Nat) : (b.wr f i j v).regs = (key f i j, v % 2 ^ (Fld.attr f).width) :: b.regs := rfl
@[simp] theorem wr_time (b : Block) (f : Fld) (i j v : Nat) : (b.wr f i j v).time = b.time := rfl
@[simp] theorem wr_freeCtr (b : Block) (f : Fld) (i j v : Nat) : (b.wr f i j v).freeCtr = b.freeCtr := rfl
@[simp] theorem wr_nextId (b : Block) (f : Fld) (i j v : Nat) : (b.wr f i j v).nextId = b.nextId := rfl
@[simp] theorem wr_straps (b : Block) (f : Fld) (i j v : Nat) : (b.wr f i j v).straps = b.straps := rfl
@[simp] theorem wr_img (b : Block) (f : Fld) (i j v : Nat) : (b.wr f i j v).img = b.img := rfl
@[simp] theorem wr_sg (b : Block) (f : Fld) (i j v : Nat) : (b.wr f i j v).sg = b.sg := rfl
@[simp] theorem wr_xlb (b : Block) (f : Fld) (i j v : Nat) : (b.wr f i j v).xlb = b.xlb := rfl
@[simp] theorem wr_tth (b : Block) (f : Fld) (i j v : Nat) : (b.wr f i j v).tth = b.tth := rfl
@[simp] theorem wr_links (b : Block) (f : Fld) (i j v : Nat) : (b.wr f i j v).links = b.links := rfl
@[simp] theorem wr_fns (b : Block) (f : Fld) (i j v : Nat) : (b.wr f i j v).fns = b.fns := rfl
@[simp] theorem wr_queues (b : Block) (f : Fld) (i j v : Nat) : (b.wr f i j v).queues = b.queues := rfl
@[simp] theorem wr_pins (b : Block) (f : Fld) (i j v : Nat) : (b.wr f i j v).pins = b.pins := rfl
@[simp] theorem wr_groups (b : Block) (f : Fld) (i j v : Nat) : (b.wr f i j v).groups = b.groups := rfl
@[simp] theorem wr_slots (b : Block) (f : Fld) (i j v : Nat) : (b.wr f i j v).slots = b.slots := rfl
@[simp] theorem wr_pow (b : Block) (f : Fld) (i j v : Nat) : (b.wr f i j v).pow = b.pow := rfl
@[simp] theorem wr_loom (b : Block) (f : Fld) (i j v : Nat) : (b.wr f i j v).loom = b.loom := rfl
@[simp] theorem wr_stums (b : Block) (f : Fld) (i j v : Nat) : (b.wr f i j v).stums = b.stums := rfl
@[simp] theorem wr_fuses (b : Block) (f : Fld) (i j v : Nat) : (b.wr f i j v).fuses = b.fuses := rfl
@[simp] theorem wr_jobs (b : Block) (f : Fld) (i j v : Nat) : (b.wr f i j v).jobs = b.jobs := rfl
@[simp] theorem wr_ats (b : Block) (f : Fld) (i j v : Nat) : (b.wr f i j v).ats = b.ats := rfl
@[simp] theorem wr_buckets (b : Block) (f : Fld) (i j v : Nat) : (b.wr f i j v).buckets = b.buckets := rfl
@[simp] theorem wr_parked (b : Block) (f : Fld) (i j v : Nat) : (b.wr f i j v).parked = b.parked := rfl
@[simp] theorem wr_gated (b : Block) (f : Fld) (i j v : Nat) : (b.wr f i j v).gated = b.gated := rfl
@[simp] theorem wr_lameSh (b : Block) (f : Fld) (i j v : Nat) : (b.wr f i j v).lameSh = b.lameSh := rfl
@[simp] theorem wr_moves (b : Block) (f : Fld) (i j v : Nat) : (b.wr f i j v).moves = b.moves := rfl
@[simp] theorem wr_boot (b : Block) (f : Fld) (i j v : Nat) : (b.wr f i j v).boot = b.boot := rfl
@[simp] theorem wr_grm (b : Block) (f : Fld) (i j v : Nat) : (b.wr f i j v).grm = b.grm := rfl
@[simp] theorem wr_halt (b : Block) (f : Fld) (i j v : Nat) : (b.wr f i j v).halt = b.halt := rfl
@[simp] theorem wr_tap (b : Block) (f : Fld) (i j v : Nat) : (b.wr f i j v).tap = b.tap := rfl
@[simp] theorem wr_refs (b : Block) (f : Fld) (i j v : Nat) : (b.wr f i j v).refs = b.refs := rfl
@[simp] theorem wr_out (b : Block) (f : Fld) (i j v : Nat) : (b.wr f i j v).out = b.out := rfl
@[simp] theorem wr_shutRot (b : Block) (f : Fld) (i j v : Nat) : (b.wr f i j v).shutRot = b.shutRot := rfl
@[simp] theorem wr_wire (b : Block) (f : Fld) (i j v : Nat) : (b.wr f i j v).wire = b.wire := rfl
@[simp] theorem wr_loomBack (b : Block) (f : Fld) (i j v : Nat) : (b.wr f i j v).loomBack = b.loomBack := rfl
@[simp] theorem wr_xings (b : Block) (f : Fld) (i j v : Nat) : (b.wr f i j v).xings = b.xings := rfl
@[simp] theorem wr_x (b : Block) (f : Fld) (i j v : Nat) (u : Nat) : (b.wr f i j v).x u = b.x u := rfl
@[simp] theorem wr_tt (b : Block) (f : Fld) (i j v : Nat) (u : Nat) : (b.wr f i j v).tt u = b.tt u := rfl
@[simp] theorem wr_lk (b : Block) (f : Fld) (i j v : Nat) (u : Nat) : (b.wr f i j v).lk u = b.lk u := rfl
@[simp] theorem wr_fn (b : Block) (f : Fld) (i j v : Nat) (u : Nat) : (b.wr f i j v).fn u = b.fn u := rfl
@[simp] theorem wr_qu (b : Block) (f : Fld) (i j v : Nat) (u : Nat) : (b.wr f i j v).qu u = b.qu u := rfl
@[simp] theorem wr_pin (b : Block) (f : Fld) (i j v : Nat) (u : Nat) : (b.wr f i j v).pin u = b.pin u := rfl
@[simp] theorem wr_gr (b : Block) (f : Fld) (i j v : Nat) (u : Nat) : (b.wr f i j v).gr u = b.gr u := rfl
@[simp] theorem wr_sl (b : Block) (f : Fld) (i j v : Nat) (u : Nat) : (b.wr f i j v).sl u = b.sl u := rfl

/-! `xMod` -/
@[simp] theorem xMod_regs (b : Block) (p : Nat) (g : XlbDyn → XlbDyn) : (b.xMod p g).regs = b.regs := rfl
@[simp] theorem xMod_time (b : Block) (p : Nat) (g : XlbDyn → XlbDyn) : (b.xMod p g).time = b.time := rfl
@[simp] theorem xMod_freeCtr (b : Block) (p : Nat) (g : XlbDyn → XlbDyn) : (b.xMod p g).freeCtr = b.freeCtr := rfl
@[simp] theorem xMod_nextId (b : Block) (p : Nat) (g : XlbDyn → XlbDyn) : (b.xMod p g).nextId = b.nextId := rfl
@[simp] theorem xMod_straps (b : Block) (p : Nat) (g : XlbDyn → XlbDyn) : (b.xMod p g).straps = b.straps := rfl
@[simp] theorem xMod_img (b : Block) (p : Nat) (g : XlbDyn → XlbDyn) : (b.xMod p g).img = b.img := rfl
@[simp] theorem xMod_sg (b : Block) (p : Nat) (g : XlbDyn → XlbDyn) : (b.xMod p g).sg = b.sg := rfl
theorem xMod_xlb (b : Block) (p : Nat) (g : XlbDyn → XlbDyn) : (b.xMod p g).xlb = (p, g (b.x p)) :: b.xlb := rfl
@[simp] theorem xMod_tth (b : Block) (p : Nat) (g : XlbDyn → XlbDyn) : (b.xMod p g).tth = b.tth := rfl
@[simp] theorem xMod_links (b : Block) (p : Nat) (g : XlbDyn → XlbDyn) : (b.xMod p g).links = b.links := rfl
@[simp] theorem xMod_fns (b : Block) (p : Nat) (g : XlbDyn → XlbDyn) : (b.xMod p g).fns = b.fns := rfl
@[simp] theorem xMod_queues (b : Block) (p : Nat) (g : XlbDyn → XlbDyn) : (b.xMod p g).queues = b.queues := rfl
@[simp] theorem xMod_pins (b : Block) (p : Nat) (g : XlbDyn → XlbDyn) : (b.xMod p g).pins = b.pins := rfl
@[simp] theorem xMod_groups (b : Block) (p : Nat) (g : XlbDyn → XlbDyn) : (b.xMod p g).groups = b.groups := rfl
@[simp] theorem xMod_slots (b : Block) (p : Nat) (g : XlbDyn → XlbDyn) : (b.xMod p g).slots = b.slots := rfl
@[simp] theorem xMod_pow (b : Block) (p : Nat) (g : XlbDyn → XlbDyn) : (b.xMod p g).pow = b.pow := rfl
@[simp] theorem xMod_loom (b : Block) (p : Nat) (g : XlbDyn → XlbDyn) : (b.xMod p g).loom = b.loom := rfl
@[simp] theorem xMod_stums (b : Block) (p : Nat) (g : XlbDyn → XlbDyn) : (b.xMod p g).stums = b.stums := rfl
@[simp] theorem xMod_fuses (b : Block) (p : Nat) (g : XlbDyn → XlbDyn) : (b.xMod p g).fuses = b.fuses := rfl
@[simp] theorem xMod_jobs (b : Block) (p : Nat) (g : XlbDyn → XlbDyn) : (b.xMod p g).jobs = b.jobs := rfl
@[simp] theorem xMod_ats (b : Block) (p : Nat) (g : XlbDyn → XlbDyn) : (b.xMod p g).ats = b.ats := rfl
@[simp] theorem xMod_buckets (b : Block) (p : Nat) (g : XlbDyn → XlbDyn) : (b.xMod p g).buckets = b.buckets := rfl
@[simp] theorem xMod_parked (b : Block) (p : Nat) (g : XlbDyn → XlbDyn) : (b.xMod p g).parked = b.parked := rfl
@[simp] theorem xMod_gated (b : Block) (p : Nat) (g : XlbDyn → XlbDyn) : (b.xMod p g).gated = b.gated := rfl
@[simp] theorem xMod_lameSh (b : Block) (p : Nat) (g : XlbDyn → XlbDyn) : (b.xMod p g).lameSh = b.lameSh := rfl
@[simp] theorem xMod_moves (b : Block) (p : Nat) (g : XlbDyn → XlbDyn) : (b.xMod p g).moves = b.moves := rfl
@[simp] theorem xMod_boot (b : Block) (p : Nat) (g : XlbDyn → XlbDyn) : (b.xMod p g).boot = b.boot := rfl
@[simp] theorem xMod_grm (b : Block) (p : Nat) (g : XlbDyn → XlbDyn) : (b.xMod p g).grm = b.grm := rfl
@[simp] theorem xMod_halt (b : Block) (p : Nat) (g : XlbDyn → XlbDyn) : (b.xMod p g).halt = b.halt := rfl
@[simp] theorem xMod_tap (b : Block) (p : Nat) (g : XlbDyn → XlbDyn) : (b.xMod p g).tap = b.tap := rfl
@[simp] theorem xMod_refs (b : Block) (p : Nat) (g : XlbDyn → XlbDyn) : (b.xMod p g).refs = b.refs := rfl
@[simp] theorem xMod_out (b : Block) (p : Nat) (g : XlbDyn → XlbDyn) : (b.xMod p g).out = b.out := rfl
@[simp] theorem xMod_shutRot (b : Block) (p : Nat) (g : XlbDyn → XlbDyn) : (b.xMod p g).shutRot = b.shutRot := rfl
@[simp] theorem xMod_wire (b : Block) (p : Nat) (g : XlbDyn → XlbDyn) : (b.xMod p g).wire = b.wire := rfl
@[simp] theorem xMod_loomBack (b : Block) (p : Nat) (g : XlbDyn → XlbDyn) : (b.xMod p g).loomBack = b.loomBack := rfl
@[simp] theorem xMod_xings (b : Block) (p : Nat) (g : XlbDyn → XlbDyn) : (b.xMod p g).xings = b.xings := rfl
@[simp] theorem xMod_tt (b : Block) (p : Nat) (g : XlbDyn → XlbDyn) (u : Nat) : (b.xMod p g).tt u = b.tt u := rfl
@[simp] theorem xMod_lk (b : Block) (p : Nat) (g : XlbDyn → XlbDyn) (u : Nat) : (b.xMod p g).lk u = b.lk u := rfl
@[simp] theorem xMod_fn (b : Block) (p : Nat) (g : XlbDyn → XlbDyn) (u : Nat) : (b.xMod p g).fn u = b.fn u := rfl
@[simp] theorem xMod_qu (b : Block) (p : Nat) (g : XlbDyn → XlbDyn) (u : Nat) : (b.xMod p g).qu u = b.qu u := rfl
@[simp] theorem xMod_pin (b : Block) (p : Nat) (g : XlbDyn → XlbDyn) (u : Nat) : (b.xMod p g).pin u = b.pin u := rfl
@[simp] theorem xMod_gr (b : Block) (p : Nat) (g : XlbDyn → XlbDyn) (u : Nat) : (b.xMod p g).gr u = b.gr u := rfl
@[simp] theorem xMod_sl (b : Block) (p : Nat) (g : XlbDyn → XlbDyn) (u : Nat) : (b.xMod p g).sl u = b.sl u := rfl
@[simp] theorem xMod_rd (b : Block) (p : Nat) (g : XlbDyn → XlbDyn) (f' : Fld) (i' j' : Nat) : (b.xMod p g).rd f' i' j' = b.rd f' i' j' := rfl
@[simp] theorem xMod_flag (b : Block) (p : Nat) (g : XlbDyn → XlbDyn) (f' : Fld) (i' j' : Nat) : (b.xMod p g).flag f' i' j' = b.flag f' i' j' := rfl

/-! `ttMod` -/
@[simp] theorem ttMod_regs (b : Block) (p : Nat) (g : TthDyn → TthDyn) : (b.ttMod p g).regs = b.regs := rfl
@[simp] theorem ttMod_time (b : Block) (p : Nat) (g : TthDyn → TthDyn) : (b.ttMod p g).time = b.time := rfl
@[simp] theorem ttMod_freeCtr (b : Block) (p : Nat) (g : TthDyn → TthDyn) : (b.ttMod p g).freeCtr = b.freeCtr := rfl
@[simp] theorem ttMod_nextId (b : Block) (p : Nat) (g : TthDyn → TthDyn) : (b.ttMod p g).nextId = b.nextId := rfl
@[simp] theorem ttMod_straps (b : Block) (p : Nat) (g : TthDyn → TthDyn) : (b.ttMod p g).straps = b.straps := rfl
@[simp] theorem ttMod_img (b : Block) (p : Nat) (g : TthDyn → TthDyn) : (b.ttMod p g).img = b.img := rfl
@[simp] theorem ttMod_sg (b : Block) (p : Nat) (g : TthDyn → TthDyn) : (b.ttMod p g).sg = b.sg := rfl
@[simp] theorem ttMod_xlb (b : Block) (p : Nat) (g : TthDyn → TthDyn) : (b.ttMod p g).xlb = b.xlb := rfl
theorem ttMod_tth (b : Block) (p : Nat) (g : TthDyn → TthDyn) : (b.ttMod p g).tth = (p, g (b.tt p)) :: b.tth := rfl
@[simp] theorem ttMod_links (b : Block) (p : Nat) (g : TthDyn → TthDyn) : (b.ttMod p g).links = b.links := rfl
@[simp] theorem ttMod_fns (b : Block) (p : Nat) (g : TthDyn → TthDyn) : (b.ttMod p g).fns = b.fns := rfl
@[simp] theorem ttMod_queues (b : Block) (p : Nat) (g : TthDyn → TthDyn) : (b.ttMod p g).queues = b.queues := rfl
@[simp] theorem ttMod_pins (b : Block) (p : Nat) (g : TthDyn → TthDyn) : (b.ttMod p g).pins = b.pins := rfl
@[simp] theorem ttMod_groups (b : Block) (p : Nat) (g : TthDyn → TthDyn) : (b.ttMod p g).groups = b.groups := rfl
@[simp] theorem ttMod_slots (b : Block) (p : Nat) (g : TthDyn → TthDyn) : (b.ttMod p g).slots = b.slots := rfl
@[simp] theorem ttMod_pow (b : Block) (p : Nat) (g : TthDyn → TthDyn) : (b.ttMod p g).pow = b.pow := rfl
@[simp] theorem ttMod_loom (b : Block) (p : Nat) (g : TthDyn → TthDyn) : (b.ttMod p g).loom = b.loom := rfl
@[simp] theorem ttMod_stums (b : Block) (p : Nat) (g : TthDyn → TthDyn) : (b.ttMod p g).stums = b.stums := rfl
@[simp] theorem ttMod_fuses (b : Block) (p : Nat) (g : TthDyn → TthDyn) : (b.ttMod p g).fuses = b.fuses := rfl
@[simp] theorem ttMod_jobs (b : Block) (p : Nat) (g : TthDyn → TthDyn) : (b.ttMod p g).jobs = b.jobs := rfl
@[simp] theorem ttMod_ats (b : Block) (p : Nat) (g : TthDyn → TthDyn) : (b.ttMod p g).ats = b.ats := rfl
@[simp] theorem ttMod_buckets (b : Block) (p : Nat) (g : TthDyn → TthDyn) : (b.ttMod p g).buckets = b.buckets := rfl
@[simp] theorem ttMod_parked (b : Block) (p : Nat) (g : TthDyn → TthDyn) : (b.ttMod p g).parked = b.parked := rfl
@[simp] theorem ttMod_gated (b : Block) (p : Nat) (g : TthDyn → TthDyn) : (b.ttMod p g).gated = b.gated := rfl
@[simp] theorem ttMod_lameSh (b : Block) (p : Nat) (g : TthDyn → TthDyn) : (b.ttMod p g).lameSh = b.lameSh := rfl
@[simp] theorem ttMod_moves (b : Block) (p : Nat) (g : TthDyn → TthDyn) : (b.ttMod p g).moves = b.moves := rfl
@[simp] theorem ttMod_boot (b : Block) (p : Nat) (g : TthDyn → TthDyn) : (b.ttMod p g).boot = b.boot := rfl
@[simp] theorem ttMod_grm (b : Block) (p : Nat) (g : TthDyn → TthDyn) : (b.ttMod p g).grm = b.grm := rfl
@[simp] theorem ttMod_halt (b : Block) (p : Nat) (g : TthDyn → TthDyn) : (b.ttMod p g).halt = b.halt := rfl
@[simp] theorem ttMod_tap (b : Block) (p : Nat) (g : TthDyn → TthDyn) : (b.ttMod p g).tap = b.tap := rfl
@[simp] theorem ttMod_refs (b : Block) (p : Nat) (g : TthDyn → TthDyn) : (b.ttMod p g).refs = b.refs := rfl
@[simp] theorem ttMod_out (b : Block) (p : Nat) (g : TthDyn → TthDyn) : (b.ttMod p g).out = b.out := rfl
@[simp] theorem ttMod_shutRot (b : Block) (p : Nat) (g : TthDyn → TthDyn) : (b.ttMod p g).shutRot = b.shutRot := rfl
@[simp] theorem ttMod_wire (b : Block) (p : Nat) (g : TthDyn → TthDyn) : (b.ttMod p g).wire = b.wire := rfl
@[simp] theorem ttMod_loomBack (b : Block) (p : Nat) (g : TthDyn → TthDyn) : (b.ttMod p g).loomBack = b.loomBack := rfl
@[simp] theorem ttMod_xings (b : Block) (p : Nat) (g : TthDyn → TthDyn) : (b.ttMod p g).xings = b.xings := rfl
@[simp] theorem ttMod_x (b : Block) (p : Nat) (g : TthDyn → TthDyn) (u : Nat) : (b.ttMod p g).x u = b.x u := rfl
@[simp] theorem ttMod_lk (b : Block) (p : Nat) (g : TthDyn → TthDyn) (u : Nat) : (b.ttMod p g).lk u = b.lk u := rfl
@[simp] theorem ttMod_fn (b : Block) (p : Nat) (g : TthDyn → TthDyn) (u : Nat) : (b.ttMod p g).fn u = b.fn u := rfl
@[simp] theorem ttMod_qu (b : Block) (p : Nat) (g : TthDyn → TthDyn) (u : Nat) : (b.ttMod p g).qu u = b.qu u := rfl
@[simp] theorem ttMod_pin (b : Block) (p : Nat) (g : TthDyn → TthDyn) (u : Nat) : (b.ttMod p g).pin u = b.pin u := rfl
@[simp] theorem ttMod_gr (b : Block) (p : Nat) (g : TthDyn → TthDyn) (u : Nat) : (b.ttMod p g).gr u = b.gr u := rfl
@[simp] theorem ttMod_sl (b : Block) (p : Nat) (g : TthDyn → TthDyn) (u : Nat) : (b.ttMod p g).sl u = b.sl u := rfl
@[simp] theorem ttMod_rd (b : Block) (p : Nat) (g : TthDyn → TthDyn) (f' : Fld) (i' j' : Nat) : (b.ttMod p g).rd f' i' j' = b.rd f' i' j' := rfl
@[simp] theorem ttMod_flag (b : Block) (p : Nat) (g : TthDyn → TthDyn) (f' : Fld) (i' j' : Nat) : (b.ttMod p g).flag f' i' j' = b.flag f' i' j' := rfl

/-! `lkMod` -/
@[simp] theorem lkMod_regs (b : Block) (l : Nat) (g : LinkDyn → LinkDyn) : (b.lkMod l g).regs = b.regs := rfl
@[simp] theorem lkMod_time (b : Block) (l : Nat) (g : LinkDyn → LinkDyn) : (b.lkMod l g).time = b.time := rfl
@[simp] theorem lkMod_freeCtr (b : Block) (l : Nat) (g : LinkDyn → LinkDyn) : (b.lkMod l g).freeCtr = b.freeCtr := rfl
@[simp] theorem lkMod_nextId (b : Block) (l : Nat) (g : LinkDyn → LinkDyn) : (b.lkMod l g).nextId = b.nextId := rfl
@[simp] theorem lkMod_straps (b : Block) (l : Nat) (g : LinkDyn → LinkDyn) : (b.lkMod l g).straps = b.straps := rfl
@[simp] theorem lkMod_img (b : Block) (l : Nat) (g : LinkDyn → LinkDyn) : (b.lkMod l g).img = b.img := rfl
@[simp] theorem lkMod_sg (b : Block) (l : Nat) (g : LinkDyn → LinkDyn) : (b.lkMod l g).sg = b.sg := rfl
@[simp] theorem lkMod_xlb (b : Block) (l : Nat) (g : LinkDyn → LinkDyn) : (b.lkMod l g).xlb = b.xlb := rfl
@[simp] theorem lkMod_tth (b : Block) (l : Nat) (g : LinkDyn → LinkDyn) : (b.lkMod l g).tth = b.tth := rfl
theorem lkMod_links (b : Block) (l : Nat) (g : LinkDyn → LinkDyn) : (b.lkMod l g).links = (l, g (b.lk l)) :: b.links := rfl
@[simp] theorem lkMod_fns (b : Block) (l : Nat) (g : LinkDyn → LinkDyn) : (b.lkMod l g).fns = b.fns := rfl
@[simp] theorem lkMod_queues (b : Block) (l : Nat) (g : LinkDyn → LinkDyn) : (b.lkMod l g).queues = b.queues := rfl
@[simp] theorem lkMod_pins (b : Block) (l : Nat) (g : LinkDyn → LinkDyn) : (b.lkMod l g).pins = b.pins := rfl
@[simp] theorem lkMod_groups (b : Block) (l : Nat) (g : LinkDyn → LinkDyn) : (b.lkMod l g).groups = b.groups := rfl
@[simp] theorem lkMod_slots (b : Block) (l : Nat) (g : LinkDyn → LinkDyn) : (b.lkMod l g).slots = b.slots := rfl
@[simp] theorem lkMod_pow (b : Block) (l : Nat) (g : LinkDyn → LinkDyn) : (b.lkMod l g).pow = b.pow := rfl
@[simp] theorem lkMod_loom (b : Block) (l : Nat) (g : LinkDyn → LinkDyn) : (b.lkMod l g).loom = b.loom := rfl
@[simp] theorem lkMod_stums (b : Block) (l : Nat) (g : LinkDyn → LinkDyn) : (b.lkMod l g).stums = b.stums := rfl
@[simp] theorem lkMod_fuses (b : Block) (l : Nat) (g : LinkDyn → LinkDyn) : (b.lkMod l g).fuses = b.fuses := rfl
@[simp] theorem lkMod_jobs (b : Block) (l : Nat) (g : LinkDyn → LinkDyn) : (b.lkMod l g).jobs = b.jobs := rfl
@[simp] theorem lkMod_ats (b : Block) (l : Nat) (g : LinkDyn → LinkDyn) : (b.lkMod l g).ats = b.ats := rfl
@[simp] theorem lkMod_buckets (b : Block) (l : Nat) (g : LinkDyn → LinkDyn) : (b.lkMod l g).buckets = b.buckets := rfl
@[simp] theorem lkMod_parked (b : Block) (l : Nat) (g : LinkDyn → LinkDyn) : (b.lkMod l g).parked = b.parked := rfl
@[simp] theorem lkMod_gated (b : Block) (l : Nat) (g : LinkDyn → LinkDyn) : (b.lkMod l g).gated = b.gated := rfl
@[simp] theorem lkMod_lameSh (b : Block) (l : Nat) (g : LinkDyn → LinkDyn) : (b.lkMod l g).lameSh = b.lameSh := rfl
@[simp] theorem lkMod_moves (b : Block) (l : Nat) (g : LinkDyn → LinkDyn) : (b.lkMod l g).moves = b.moves := rfl
@[simp] theorem lkMod_boot (b : Block) (l : Nat) (g : LinkDyn → LinkDyn) : (b.lkMod l g).boot = b.boot := rfl
@[simp] theorem lkMod_grm (b : Block) (l : Nat) (g : LinkDyn → LinkDyn) : (b.lkMod l g).grm = b.grm := rfl
@[simp] theorem lkMod_halt (b : Block) (l : Nat) (g : LinkDyn → LinkDyn) : (b.lkMod l g).halt = b.halt := rfl
@[simp] theorem lkMod_tap (b : Block) (l : Nat) (g : LinkDyn → LinkDyn) : (b.lkMod l g).tap = b.tap := rfl
@[simp] theorem lkMod_refs (b : Block) (l : Nat) (g : LinkDyn → LinkDyn) : (b.lkMod l g).refs = b.refs := rfl
@[simp] theorem lkMod_out (b : Block) (l : Nat) (g : LinkDyn → LinkDyn) : (b.lkMod l g).out = b.out := rfl
@[simp] theorem lkMod_shutRot (b : Block) (l : Nat) (g : LinkDyn → LinkDyn) : (b.lkMod l g).shutRot = b.shutRot := rfl
@[simp] theorem lkMod_wire (b : Block) (l : Nat) (g : LinkDyn → LinkDyn) : (b.lkMod l g).wire = b.wire := rfl
@[simp] theorem lkMod_loomBack (b : Block) (l : Nat) (g : LinkDyn → LinkDyn) : (b.lkMod l g).loomBack = b.loomBack := rfl
@[simp] theorem lkMod_xings (b : Block) (l : Nat) (g : LinkDyn → LinkDyn) : (b.lkMod l g).xings = b.xings := rfl
@[simp] theorem lkMod_x (b : Block) (l : Nat) (g : LinkDyn → LinkDyn) (u : Nat) : (b.lkMod l g).x u = b.x u := rfl
@[simp] theorem lkMod_tt (b : Block) (l : Nat) (g : LinkDyn → LinkDyn) (u : Nat) : (b.lkMod l g).tt u = b.tt u := rfl
@[simp] theorem lkMod_fn (b : Block) (l : Nat) (g : LinkDyn → LinkDyn) (u : Nat) : (b.lkMod l g).fn u = b.fn u := rfl
@[simp] theorem lkMod_qu (b : Block) (l : Nat) (g : LinkDyn → LinkDyn) (u : Nat) : (b.lkMod l g).qu u = b.qu u := rfl
@[simp] theorem lkMod_pin (b : Block) (l : Nat) (g : LinkDyn → LinkDyn) (u : Nat) : (b.lkMod l g).pin u = b.pin u := rfl
@[simp] theorem lkMod_gr (b : Block) (l : Nat) (g : LinkDyn → LinkDyn) (u : Nat) : (b.lkMod l g).gr u = b.gr u := rfl
@[simp] theorem lkMod_sl (b : Block) (l : Nat) (g : LinkDyn → LinkDyn) (u : Nat) : (b.lkMod l g).sl u = b.sl u := rfl
@[simp] theorem lkMod_rd (b : Block) (l : Nat) (g : LinkDyn → LinkDyn) (f' : Fld) (i' j' : Nat) : (b.lkMod l g).rd f' i' j' = b.rd f' i' j' := rfl
@[simp] theorem lkMod_flag (b : Block) (l : Nat) (g : LinkDyn → LinkDyn) (f' : Fld) (i' j' : Nat) : (b.lkMod l g).flag f' i' j' = b.flag f' i' j' := rfl

/-! `fnMod` -/
@[simp] theorem fnMod_regs (b : Block) (f : Nat) (g : FnDyn → FnDyn) : (b.fnMod f g).regs = b.regs := rfl
@[simp] theorem fnMod_time (b : Block) (f : Nat) (g : FnDyn → FnDyn) : (b.fnMod f g).time = b.time := rfl
@[simp] theorem fnMod_freeCtr (b : Block) (f : Nat) (g : FnDyn → FnDyn) : (b.fnMod f g).freeCtr = b.freeCtr := rfl
@[simp] theorem fnMod_nextId (b : Block) (f : Nat) (g : FnDyn → FnDyn) : (b.fnMod f g).nextId = b.nextId := rfl
@[simp] theorem fnMod_straps (b : Block) (f : Nat) (g : FnDyn → FnDyn) : (b.fnMod f g).straps = b.straps := rfl
@[simp] theorem fnMod_img (b : Block) (f : Nat) (g : FnDyn → FnDyn) : (b.fnMod f g).img = b.img := rfl
@[simp] theorem fnMod_sg (b : Block) (f : Nat) (g : FnDyn → FnDyn) : (b.fnMod f g).sg = b.sg := rfl
@[simp] theorem fnMod_xlb (b : Block) (f : Nat) (g : FnDyn → FnDyn) : (b.fnMod f g).xlb = b.xlb := rfl
@[simp] theorem fnMod_tth (b : Block) (f : Nat) (g : FnDyn → FnDyn) : (b.fnMod f g).tth = b.tth := rfl
@[simp] theorem fnMod_links (b : Block) (f : Nat) (g : FnDyn → FnDyn) : (b.fnMod f g).links = b.links := rfl
theorem fnMod_fns (b : Block) (f : Nat) (g : FnDyn → FnDyn) : (b.fnMod f g).fns = (f, g (b.fn f)) :: b.fns := rfl
@[simp] theorem fnMod_queues (b : Block) (f : Nat) (g : FnDyn → FnDyn) : (b.fnMod f g).queues = b.queues := rfl
@[simp] theorem fnMod_pins (b : Block) (f : Nat) (g : FnDyn → FnDyn) : (b.fnMod f g).pins = b.pins := rfl
@[simp] theorem fnMod_groups (b : Block) (f : Nat) (g : FnDyn → FnDyn) : (b.fnMod f g).groups = b.groups := rfl
@[simp] theorem fnMod_slots (b : Block) (f : Nat) (g : FnDyn → FnDyn) : (b.fnMod f g).slots = b.slots := rfl
@[simp] theorem fnMod_pow (b : Block) (f : Nat) (g : FnDyn → FnDyn) : (b.fnMod f g).pow = b.pow := rfl
@[simp] theorem fnMod_loom (b : Block) (f : Nat) (g : FnDyn → FnDyn) : (b.fnMod f g).loom = b.loom := rfl
@[simp] theorem fnMod_stums (b : Block) (f : Nat) (g : FnDyn → FnDyn) : (b.fnMod f g).stums = b.stums := rfl
@[simp] theorem fnMod_fuses (b : Block) (f : Nat) (g : FnDyn → FnDyn) : (b.fnMod f g).fuses = b.fuses := rfl
@[simp] theorem fnMod_jobs (b : Block) (f : Nat) (g : FnDyn → FnDyn) : (b.fnMod f g).jobs = b.jobs := rfl
@[simp] theorem fnMod_ats (b : Block) (f : Nat) (g : FnDyn → FnDyn) : (b.fnMod f g).ats = b.ats := rfl
@[simp] theorem fnMod_buckets (b : Block) (f : Nat) (g : FnDyn → FnDyn) : (b.fnMod f g).buckets = b.buckets := rfl
@[simp] theorem fnMod_parked (b : Block) (f : Nat) (g : FnDyn → FnDyn) : (b.fnMod f g).parked = b.parked := rfl
@[simp] theorem fnMod_gated (b : Block) (f : Nat) (g : FnDyn → FnDyn) : (b.fnMod f g).gated = b.gated := rfl
@[simp] theorem fnMod_lameSh (b : Block) (f : Nat) (g : FnDyn → FnDyn) : (b.fnMod f g).lameSh = b.lameSh := rfl
@[simp] theorem fnMod_moves (b : Block) (f : Nat) (g : FnDyn → FnDyn) : (b.fnMod f g).moves = b.moves := rfl
@[simp] theorem fnMod_boot (b : Block) (f : Nat) (g : FnDyn → FnDyn) : (b.fnMod f g).boot = b.boot := rfl
@[simp] theorem fnMod_grm (b : Block) (f : Nat) (g : FnDyn → FnDyn) : (b.fnMod f g).grm = b.grm := rfl
@[simp] theorem fnMod_halt (b : Block) (f : Nat) (g : FnDyn → FnDyn) : (b.fnMod f g).halt = b.halt := rfl
@[simp] theorem fnMod_tap (b : Block) (f : Nat) (g : FnDyn → FnDyn) : (b.fnMod f g).tap = b.tap := rfl
@[simp] theorem fnMod_refs (b : Block) (f : Nat) (g : FnDyn → FnDyn) : (b.fnMod f g).refs = b.refs := rfl
@[simp] theorem fnMod_out (b : Block) (f : Nat) (g : FnDyn → FnDyn) : (b.fnMod f g).out = b.out := rfl
@[simp] theorem fnMod_shutRot (b : Block) (f : Nat) (g : FnDyn → FnDyn) : (b.fnMod f g).shutRot = b.shutRot := rfl
@[simp] theorem fnMod_wire (b : Block) (f : Nat) (g : FnDyn → FnDyn) : (b.fnMod f g).wire = b.wire := rfl
@[simp] theorem fnMod_loomBack (b : Block) (f : Nat) (g : FnDyn → FnDyn) : (b.fnMod f g).loomBack = b.loomBack := rfl
@[simp] theorem fnMod_xings (b : Block) (f : Nat) (g : FnDyn → FnDyn) : (b.fnMod f g).xings = b.xings := rfl
@[simp] theorem fnMod_x (b : Block) (f : Nat) (g : FnDyn → FnDyn) (u : Nat) : (b.fnMod f g).x u = b.x u := rfl
@[simp] theorem fnMod_tt (b : Block) (f : Nat) (g : FnDyn → FnDyn) (u : Nat) : (b.fnMod f g).tt u = b.tt u := rfl
@[simp] theorem fnMod_lk (b : Block) (f : Nat) (g : FnDyn → FnDyn) (u : Nat) : (b.fnMod f g).lk u = b.lk u := rfl
@[simp] theorem fnMod_qu (b : Block) (f : Nat) (g : FnDyn → FnDyn) (u : Nat) : (b.fnMod f g).qu u = b.qu u := rfl
@[simp] theorem fnMod_pin (b : Block) (f : Nat) (g : FnDyn → FnDyn) (u : Nat) : (b.fnMod f g).pin u = b.pin u := rfl
@[simp] theorem fnMod_gr (b : Block) (f : Nat) (g : FnDyn → FnDyn) (u : Nat) : (b.fnMod f g).gr u = b.gr u := rfl
@[simp] theorem fnMod_sl (b : Block) (f : Nat) (g : FnDyn → FnDyn) (u : Nat) : (b.fnMod f g).sl u = b.sl u := rfl
@[simp] theorem fnMod_rd (b : Block) (f : Nat) (g : FnDyn → FnDyn) (f' : Fld) (i' j' : Nat) : (b.fnMod f g).rd f' i' j' = b.rd f' i' j' := rfl
@[simp] theorem fnMod_flag (b : Block) (f : Nat) (g : FnDyn → FnDyn) (f' : Fld) (i' j' : Nat) : (b.fnMod f g).flag f' i' j' = b.flag f' i' j' := rfl

/-! `quMod` -/
@[simp] theorem quMod_regs (b : Block) (q : Nat) (g : QDyn → QDyn) : (b.quMod q g).regs = b.regs := rfl
@[simp] theorem quMod_time (b : Block) (q : Nat) (g : QDyn → QDyn) : (b.quMod q g).time = b.time := rfl
@[simp] theorem quMod_freeCtr (b : Block) (q : Nat) (g : QDyn → QDyn) : (b.quMod q g).freeCtr = b.freeCtr := rfl
@[simp] theorem quMod_nextId (b : Block) (q : Nat) (g : QDyn → QDyn) : (b.quMod q g).nextId = b.nextId := rfl
@[simp] theorem quMod_straps (b : Block) (q : Nat) (g : QDyn → QDyn) : (b.quMod q g).straps = b.straps := rfl
@[simp] theorem quMod_img (b : Block) (q : Nat) (g : QDyn → QDyn) : (b.quMod q g).img = b.img := rfl
@[simp] theorem quMod_sg (b : Block) (q : Nat) (g : QDyn → QDyn) : (b.quMod q g).sg = b.sg := rfl
@[simp] theorem quMod_xlb (b : Block) (q : Nat) (g : QDyn → QDyn) : (b.quMod q g).xlb = b.xlb := rfl
@[simp] theorem quMod_tth (b : Block) (q : Nat) (g : QDyn → QDyn) : (b.quMod q g).tth = b.tth := rfl
@[simp] theorem quMod_links (b : Block) (q : Nat) (g : QDyn → QDyn) : (b.quMod q g).links = b.links := rfl
@[simp] theorem quMod_fns (b : Block) (q : Nat) (g : QDyn → QDyn) : (b.quMod q g).fns = b.fns := rfl
theorem quMod_queues (b : Block) (q : Nat) (g : QDyn → QDyn) : (b.quMod q g).queues = (q, g (b.qu q)) :: b.queues := rfl
@[simp] theorem quMod_pins (b : Block) (q : Nat) (g : QDyn → QDyn) : (b.quMod q g).pins = b.pins := rfl
@[simp] theorem quMod_groups (b : Block) (q : Nat) (g : QDyn → QDyn) : (b.quMod q g).groups = b.groups := rfl
@[simp] theorem quMod_slots (b : Block) (q : Nat) (g : QDyn → QDyn) : (b.quMod q g).slots = b.slots := rfl
@[simp] theorem quMod_pow (b : Block) (q : Nat) (g : QDyn → QDyn) : (b.quMod q g).pow = b.pow := rfl
@[simp] theorem quMod_loom (b : Block) (q : Nat) (g : QDyn → QDyn) : (b.quMod q g).loom = b.loom := rfl
@[simp] theorem quMod_stums (b : Block) (q : Nat) (g : QDyn → QDyn) : (b.quMod q g).stums = b.stums := rfl
@[simp] theorem quMod_fuses (b : Block) (q : Nat) (g : QDyn → QDyn) : (b.quMod q g).fuses = b.fuses := rfl
@[simp] theorem quMod_jobs (b : Block) (q : Nat) (g : QDyn → QDyn) : (b.quMod q g).jobs = b.jobs := rfl
@[simp] theorem quMod_ats (b : Block) (q : Nat) (g : QDyn → QDyn) : (b.quMod q g).ats = b.ats := rfl
@[simp] theorem quMod_buckets (b : Block) (q : Nat) (g : QDyn → QDyn) : (b.quMod q g).buckets = b.buckets := rfl
@[simp] theorem quMod_parked (b : Block) (q : Nat) (g : QDyn → QDyn) : (b.quMod q g).parked = b.parked := rfl
@[simp] theorem quMod_gated (b : Block) (q : Nat) (g : QDyn → QDyn) : (b.quMod q g).gated = b.gated := rfl
@[simp] theorem quMod_lameSh (b : Block) (q : Nat) (g : QDyn → QDyn) : (b.quMod q g).lameSh = b.lameSh := rfl
@[simp] theorem quMod_moves (b : Block) (q : Nat) (g : QDyn → QDyn) : (b.quMod q g).moves = b.moves := rfl
@[simp] theorem quMod_boot (b : Block) (q : Nat) (g : QDyn → QDyn) : (b.quMod q g).boot = b.boot := rfl
@[simp] theorem quMod_grm (b : Block) (q : Nat) (g : QDyn → QDyn) : (b.quMod q g).grm = b.grm := rfl
@[simp] theorem quMod_halt (b : Block) (q : Nat) (g : QDyn → QDyn) : (b.quMod q g).halt = b.halt := rfl
@[simp] theorem quMod_tap (b : Block) (q : Nat) (g : QDyn → QDyn) : (b.quMod q g).tap = b.tap := rfl
@[simp] theorem quMod_refs (b : Block) (q : Nat) (g : QDyn → QDyn) : (b.quMod q g).refs = b.refs := rfl
@[simp] theorem quMod_out (b : Block) (q : Nat) (g : QDyn → QDyn) : (b.quMod q g).out = b.out := rfl
@[simp] theorem quMod_shutRot (b : Block) (q : Nat) (g : QDyn → QDyn) : (b.quMod q g).shutRot = b.shutRot := rfl
@[simp] theorem quMod_wire (b : Block) (q : Nat) (g : QDyn → QDyn) : (b.quMod q g).wire = b.wire := rfl
@[simp] theorem quMod_loomBack (b : Block) (q : Nat) (g : QDyn → QDyn) : (b.quMod q g).loomBack = b.loomBack := rfl
@[simp] theorem quMod_xings (b : Block) (q : Nat) (g : QDyn → QDyn) : (b.quMod q g).xings = b.xings := rfl
@[simp] theorem quMod_x (b : Block) (q : Nat) (g : QDyn → QDyn) (u : Nat) : (b.quMod q g).x u = b.x u := rfl
@[simp] theorem quMod_tt (b : Block) (q : Nat) (g : QDyn → QDyn) (u : Nat) : (b.quMod q g).tt u = b.tt u := rfl
@[simp] theorem quMod_lk (b : Block) (q : Nat) (g : QDyn → QDyn) (u : Nat) : (b.quMod q g).lk u = b.lk u := rfl
@[simp] theorem quMod_fn (b : Block) (q : Nat) (g : QDyn → QDyn) (u : Nat) : (b.quMod q g).fn u = b.fn u := rfl
@[simp] theorem quMod_pin (b : Block) (q : Nat) (g : QDyn → QDyn) (u : Nat) : (b.quMod q g).pin u = b.pin u := rfl
@[simp] theorem quMod_gr (b : Block) (q : Nat) (g : QDyn → QDyn) (u : Nat) : (b.quMod q g).gr u = b.gr u := rfl
@[simp] theorem quMod_sl (b : Block) (q : Nat) (g : QDyn → QDyn) (u : Nat) : (b.quMod q g).sl u = b.sl u := rfl
@[simp] theorem quMod_rd (b : Block) (q : Nat) (g : QDyn → QDyn) (f' : Fld) (i' j' : Nat) : (b.quMod q g).rd f' i' j' = b.rd f' i' j' := rfl
@[simp] theorem quMod_flag (b : Block) (q : Nat) (g : QDyn → QDyn) (f' : Fld) (i' j' : Nat) : (b.quMod q g).flag f' i' j' = b.flag f' i' j' := rfl

/-! `pinMod` -/
@[simp] theorem pinMod_regs (b : Block) (p : Nat) (g : PortPins → PortPins) : (b.pinMod p g).regs = b.regs := rfl
@[simp] theorem pinMod_time (b : Block) (p : Nat) (g : PortPins → PortPins) : (b.pinMod p g).time = b.time := rfl
@[simp] theorem pinMod_freeCtr (b : Block) (p : Nat) (g : PortPins → PortPins) : (b.pinMod p g).freeCtr = b.freeCtr := rfl
@[simp] theorem pinMod_nextId (b : Block) (p : Nat) (g : PortPins → PortPins) : (b.pinMod p g).nextId = b.nextId := rfl
@[simp] theorem pinMod_straps (b : Block) (p : Nat) (g : PortPins → PortPins) : (b.pinMod p g).straps = b.straps := rfl
@[simp] theorem pinMod_img (b : Block) (p : Nat) (g : PortPins → PortPins) : (b.pinMod p g).img = b.img := rfl
@[simp] theorem pinMod_sg (b : Block) (p : Nat) (g : PortPins → PortPins) : (b.pinMod p g).sg = b.sg := rfl
@[simp] theorem pinMod_xlb (b : Block) (p : Nat) (g : PortPins → PortPins) : (b.pinMod p g).xlb = b.xlb := rfl
@[simp] theorem pinMod_tth (b : Block) (p : Nat) (g : PortPins → PortPins) : (b.pinMod p g).tth = b.tth := rfl
@[simp] theorem pinMod_links (b : Block) (p : Nat) (g : PortPins → PortPins) : (b.pinMod p g).links = b.links := rfl
@[simp] theorem pinMod_fns (b : Block) (p : Nat) (g : PortPins → PortPins) : (b.pinMod p g).fns = b.fns := rfl
@[simp] theorem pinMod_queues (b : Block) (p : Nat) (g : PortPins → PortPins) : (b.pinMod p g).queues = b.queues := rfl
theorem pinMod_pins (b : Block) (p : Nat) (g : PortPins → PortPins) : (b.pinMod p g).pins = (p, g (b.pin p)) :: b.pins := rfl
@[simp] theorem pinMod_groups (b : Block) (p : Nat) (g : PortPins → PortPins) : (b.pinMod p g).groups = b.groups := rfl
@[simp] theorem pinMod_slots (b : Block) (p : Nat) (g : PortPins → PortPins) : (b.pinMod p g).slots = b.slots := rfl
@[simp] theorem pinMod_pow (b : Block) (p : Nat) (g : PortPins → PortPins) : (b.pinMod p g).pow = b.pow := rfl
@[simp] theorem pinMod_loom (b : Block) (p : Nat) (g : PortPins → PortPins) : (b.pinMod p g).loom = b.loom := rfl
@[simp] theorem pinMod_stums (b : Block) (p : Nat) (g : PortPins → PortPins) : (b.pinMod p g).stums = b.stums := rfl
@[simp] theorem pinMod_fuses (b : Block) (p : Nat) (g : PortPins → PortPins) : (b.pinMod p g).fuses = b.fuses := rfl
@[simp] theorem pinMod_jobs (b : Block) (p : Nat) (g : PortPins → PortPins) : (b.pinMod p g).jobs = b.jobs := rfl
@[simp] theorem pinMod_ats (b : Block) (p : Nat) (g : PortPins → PortPins) : (b.pinMod p g).ats = b.ats := rfl
@[simp] theorem pinMod_buckets (b : Block) (p : Nat) (g : PortPins → PortPins) : (b.pinMod p g).buckets = b.buckets := rfl
@[simp] theorem pinMod_parked (b : Block) (p : Nat) (g : PortPins → PortPins) : (b.pinMod p g).parked = b.parked := rfl
@[simp] theorem pinMod_gated (b : Block) (p : Nat) (g : PortPins → PortPins) : (b.pinMod p g).gated = b.gated := rfl
@[simp] theorem pinMod_lameSh (b : Block) (p : Nat) (g : PortPins → PortPins) : (b.pinMod p g).lameSh = b.lameSh := rfl
@[simp] theorem pinMod_moves (b : Block) (p : Nat) (g : PortPins → PortPins) : (b.pinMod p g).moves = b.moves := rfl
@[simp] theorem pinMod_boot (b : Block) (p : Nat) (g : PortPins → PortPins) : (b.pinMod p g).boot = b.boot := rfl
@[simp] theorem pinMod_grm (b : Block) (p : Nat) (g : PortPins → PortPins) : (b.pinMod p g).grm = b.grm := rfl
@[simp] theorem pinMod_halt (b : Block) (p : Nat) (g : PortPins → PortPins) : (b.pinMod p g).halt = b.halt := rfl
@[simp] theorem pinMod_tap (b : Block) (p : Nat) (g : PortPins → PortPins) : (b.pinMod p g).tap = b.tap := rfl
@[simp] theorem pinMod_refs (b : Block) (p : Nat) (g : PortPins → PortPins) : (b.pinMod p g).refs = b.refs := rfl
@[simp] theorem pinMod_out (b : Block) (p : Nat) (g : PortPins → PortPins) : (b.pinMod p g).out = b.out := rfl
@[simp] theorem pinMod_shutRot (b : Block) (p : Nat) (g : PortPins → PortPins) : (b.pinMod p g).shutRot = b.shutRot := rfl
@[simp] theorem pinMod_wire (b : Block) (p : Nat) (g : PortPins → PortPins) : (b.pinMod p g).wire = b.wire := rfl
@[simp] theorem pinMod_loomBack (b : Block) (p : Nat) (g : PortPins → PortPins) : (b.pinMod p g).loomBack = b.loomBack := rfl
@[simp] theorem pinMod_xings (b : Block) (p : Nat) (g : PortPins → PortPins) : (b.pinMod p g).xings = b.xings := rfl
@[simp] theorem pinMod_x (b : Block) (p : Nat) (g : PortPins → PortPins) (u : Nat) : (b.pinMod p g).x u = b.x u := rfl
@[simp] theorem pinMod_tt (b : Block) (p : Nat) (g : PortPins → PortPins) (u : Nat) : (b.pinMod p g).tt u = b.tt u := rfl
@[simp] theorem pinMod_lk (b : Block) (p : Nat) (g : PortPins → PortPins) (u : Nat) : (b.pinMod p g).lk u = b.lk u := rfl
@[simp] theorem pinMod_fn (b : Block) (p : Nat) (g : PortPins → PortPins) (u : Nat) : (b.pinMod p g).fn u = b.fn u := rfl
@[simp] theorem pinMod_qu (b : Block) (p : Nat) (g : PortPins → PortPins) (u : Nat) : (b.pinMod p g).qu u = b.qu u := rfl
@[simp] theorem pinMod_gr (b : Block) (p : Nat) (g : PortPins → PortPins) (u : Nat) : (b.pinMod p g).gr u = b.gr u := rfl
@[simp] theorem pinMod_sl (b : Block) (p : Nat) (g : PortPins → PortPins) (u : Nat) : (b.pinMod p g).sl u = b.sl u := rfl
@[simp] theorem pinMod_rd (b : Block) (p : Nat) (g : PortPins → PortPins) (f' : Fld) (i' j' : Nat) : (b.pinMod p g).rd f' i' j' = b.rd f' i' j' := rfl
@[simp] theorem pinMod_flag (b : Block) (p : Nat) (g : PortPins → PortPins) (f' : Fld) (i' j' : Nat) : (b.pinMod p g).flag f' i' j' = b.flag f' i' j' := rfl

/-! `grMod` -/
@[simp] theorem grMod_regs (b : Block) (n : Nat) (g : GrpDyn → GrpDyn) : (b.grMod n g).regs = b.regs := rfl
@[simp] theorem grMod_time (b : Block) (n : Nat) (g : GrpDyn → GrpDyn) : (b.grMod n g).time = b.time := rfl
@[simp] theorem grMod_freeCtr (b : Block) (n : Nat) (g : GrpDyn → GrpDyn) : (b.grMod n g).freeCtr = b.freeCtr := rfl
@[simp] theorem grMod_nextId (b : Block) (n : Nat) (g : GrpDyn → GrpDyn) : (b.grMod n g).nextId = b.nextId := rfl
@[simp] theorem grMod_straps (b : Block) (n : Nat) (g : GrpDyn → GrpDyn) : (b.grMod n g).straps = b.straps := rfl
@[simp] theorem grMod_img (b : Block) (n : Nat) (g : GrpDyn → GrpDyn) : (b.grMod n g).img = b.img := rfl
@[simp] theorem grMod_sg (b : Block) (n : Nat) (g : GrpDyn → GrpDyn) : (b.grMod n g).sg = b.sg := rfl
@[simp] theorem grMod_xlb (b : Block) (n : Nat) (g : GrpDyn → GrpDyn) : (b.grMod n g).xlb = b.xlb := rfl
@[simp] theorem grMod_tth (b : Block) (n : Nat) (g : GrpDyn → GrpDyn) : (b.grMod n g).tth = b.tth := rfl
@[simp] theorem grMod_links (b : Block) (n : Nat) (g : GrpDyn → GrpDyn) : (b.grMod n g).links = b.links := rfl
@[simp] theorem grMod_fns (b : Block) (n : Nat) (g : GrpDyn → GrpDyn) : (b.grMod n g).fns = b.fns := rfl
@[simp] theorem grMod_queues (b : Block) (n : Nat) (g : GrpDyn → GrpDyn) : (b.grMod n g).queues = b.queues := rfl
@[simp] theorem grMod_pins (b : Block) (n : Nat) (g : GrpDyn → GrpDyn) : (b.grMod n g).pins = b.pins := rfl
theorem grMod_groups (b : Block) (n : Nat) (g : GrpDyn → GrpDyn) : (b.grMod n g).groups = (n, g (b.gr n)) :: b.groups := rfl
@[simp] theorem grMod_slots (b : Block) (n : Nat) (g : GrpDyn → GrpDyn) : (b.grMod n g).slots = b.slots := rfl
@[simp] theorem grMod_pow (b : Block) (n : Nat) (g : GrpDyn → GrpDyn) : (b.grMod n g).pow = b.pow := rfl
@[simp] theorem grMod_loom (b : Block) (n : Nat) (g : GrpDyn → GrpDyn) : (b.grMod n g).loom = b.loom := rfl
@[simp] theorem grMod_stums (b : Block) (n : Nat) (g : GrpDyn → GrpDyn) : (b.grMod n g).stums = b.stums := rfl
@[simp] theorem grMod_fuses (b : Block) (n : Nat) (g : GrpDyn → GrpDyn) : (b.grMod n g).fuses = b.fuses := rfl
@[simp] theorem grMod_jobs (b : Block) (n : Nat) (g : GrpDyn → GrpDyn) : (b.grMod n g).jobs = b.jobs := rfl
@[simp] theorem grMod_ats (b : Block) (n : Nat) (g : GrpDyn → GrpDyn) : (b.grMod n g).ats = b.ats := rfl
@[simp] theorem grMod_buckets (b : Block) (n : Nat) (g : GrpDyn → GrpDyn) : (b.grMod n g).buckets = b.buckets := rfl
@[simp] theorem grMod_parked (b : Block) (n : Nat) (g : GrpDyn → GrpDyn) : (b.grMod n g).parked = b.parked := rfl
@[simp] theorem grMod_gated (b : Block) (n : Nat) (g : GrpDyn → GrpDyn) : (b.grMod n g).gated = b.gated := rfl
@[simp] theorem grMod_lameSh (b : Block) (n : Nat) (g : GrpDyn → GrpDyn) : (b.grMod n g).lameSh = b.lameSh := rfl
@[simp] theorem grMod_moves (b : Block) (n : Nat) (g : GrpDyn → GrpDyn) : (b.grMod n g).moves = b.moves := rfl
@[simp] theorem grMod_boot (b : Block) (n : Nat) (g : GrpDyn → GrpDyn) : (b.grMod n g).boot = b.boot := rfl
@[simp] theorem grMod_grm (b : Block) (n : Nat) (g : GrpDyn → GrpDyn) : (b.grMod n g).grm = b.grm := rfl
@[simp] theorem grMod_halt (b : Block) (n : Nat) (g : GrpDyn → GrpDyn) : (b.grMod n g).halt = b.halt := rfl
@[simp] theorem grMod_tap (b : Block) (n : Nat) (g : GrpDyn → GrpDyn) : (b.grMod n g).tap = b.tap := rfl
@[simp] theorem grMod_refs (b : Block) (n : Nat) (g : GrpDyn → GrpDyn) : (b.grMod n g).refs = b.refs := rfl
@[simp] theorem grMod_out (b : Block) (n : Nat) (g : GrpDyn → GrpDyn) : (b.grMod n g).out = b.out := rfl
@[simp] theorem grMod_shutRot (b : Block) (n : Nat) (g : GrpDyn → GrpDyn) : (b.grMod n g).shutRot = b.shutRot := rfl
@[simp] theorem grMod_wire (b : Block) (n : Nat) (g : GrpDyn → GrpDyn) : (b.grMod n g).wire = b.wire := rfl
@[simp] theorem grMod_loomBack (b : Block) (n : Nat) (g : GrpDyn → GrpDyn) : (b.grMod n g).loomBack = b.loomBack := rfl
@[simp] theorem grMod_xings (b : Block) (n : Nat) (g : GrpDyn → GrpDyn) : (b.grMod n g).xings = b.xings := rfl
@[simp] theorem grMod_x (b : Block) (n : Nat) (g : GrpDyn → GrpDyn) (u : Nat) : (b.grMod n g).x u = b.x u := rfl
@[simp] theorem grMod_tt (b : Block) (n : Nat) (g : GrpDyn → GrpDyn) (u : Nat) : (b.grMod n g).tt u = b.tt u := rfl
@[simp] theorem grMod_lk (b : Block) (n : Nat) (g : GrpDyn → GrpDyn) (u : Nat) : (b.grMod n g).lk u = b.lk u := rfl
@[simp] theorem grMod_fn (b : Block) (n : Nat) (g : GrpDyn → GrpDyn) (u : Nat) : (b.grMod n g).fn u = b.fn u := rfl
@[simp] theorem grMod_qu (b : Block) (n : Nat) (g : GrpDyn → GrpDyn) (u : Nat) : (b.grMod n g).qu u = b.qu u := rfl
@[simp] theorem grMod_pin (b : Block) (n : Nat) (g : GrpDyn → GrpDyn) (u : Nat) : (b.grMod n g).pin u = b.pin u := rfl
@[simp] theorem grMod_sl (b : Block) (n : Nat) (g : GrpDyn → GrpDyn) (u : Nat) : (b.grMod n g).sl u = b.sl u := rfl
@[simp] theorem grMod_rd (b : Block) (n : Nat) (g : GrpDyn → GrpDyn) (f' : Fld) (i' j' : Nat) : (b.grMod n g).rd f' i' j' = b.rd f' i' j' := rfl
@[simp] theorem grMod_flag (b : Block) (n : Nat) (g : GrpDyn → GrpDyn) (f' : Fld) (i' j' : Nat) : (b.grMod n g).flag f' i' j' = b.flag f' i' j' := rfl

/-! `slMod` -/
@[simp] theorem slMod_regs (b : Block) (p : Nat) (g : SlotDyn → SlotDyn) : (b.slMod p g).regs = b.regs := rfl
@[simp] theorem slMod_time (b : Block) (p : Nat) (g : SlotDyn → SlotDyn) : (b.slMod p g).time = b.time := rfl
@[simp] theorem slMod_freeCtr (b : Block) (p : Nat) (g : SlotDyn → SlotDyn) : (b.slMod p g).freeCtr = b.freeCtr := rfl
@[simp] theorem slMod_nextId (b : Block) (p : Nat) (g : SlotDyn → SlotDyn) : (b.slMod p g).nextId = b.nextId := rfl
@[simp] theorem slMod_straps (b : Block) (p : Nat) (g : SlotDyn → SlotDyn) : (b.slMod p g).straps = b.straps := rfl
@[simp] theorem slMod_img (b : Block) (p : Nat) (g : SlotDyn → SlotDyn) : (b.slMod p g).img = b.img := rfl
@[simp] theorem slMod_sg (b : Block) (p : Nat) (g : SlotDyn → SlotDyn) : (b.slMod p g).sg = b.sg := rfl
@[simp] theorem slMod_xlb (b : Block) (p : Nat) (g : SlotDyn → SlotDyn) : (b.slMod p g).xlb = b.xlb := rfl
@[simp] theorem slMod_tth (b : Block) (p : Nat) (g : SlotDyn → SlotDyn) : (b.slMod p g).tth = b.tth := rfl
@[simp] theorem slMod_links (b : Block) (p : Nat) (g : SlotDyn → SlotDyn) : (b.slMod p g).links = b.links := rfl
@[simp] theorem slMod_fns (b : Block) (p : Nat) (g : SlotDyn → SlotDyn) : (b.slMod p g).fns = b.fns := rfl
@[simp] theorem slMod_queues (b : Block) (p : Nat) (g : SlotDyn → SlotDyn) : (b.slMod p g).queues = b.queues := rfl
@[simp] theorem slMod_pins (b : Block) (p : Nat) (g : SlotDyn → SlotDyn) : (b.slMod p g).pins = b.pins := rfl
@[simp] theorem slMod_groups (b : Block) (p : Nat) (g : SlotDyn → SlotDyn) : (b.slMod p g).groups = b.groups := rfl
theorem slMod_slots (b : Block) (p : Nat) (g : SlotDyn → SlotDyn) : (b.slMod p g).slots = (p, g (b.sl p)) :: b.slots := rfl
@[simp] theorem slMod_pow (b : Block) (p : Nat) (g : SlotDyn → SlotDyn) : (b.slMod p g).pow = b.pow := rfl
@[simp] theorem slMod_loom (b : Block) (p : Nat) (g : SlotDyn → SlotDyn) : (b.slMod p g).loom = b.loom := rfl
@[simp] theorem slMod_stums (b : Block) (p : Nat) (g : SlotDyn → SlotDyn) : (b.slMod p g).stums = b.stums := rfl
@[simp] theorem slMod_fuses (b : Block) (p : Nat) (g : SlotDyn → SlotDyn) : (b.slMod p g).fuses = b.fuses := rfl
@[simp] theorem slMod_jobs (b : Block) (p : Nat) (g : SlotDyn → SlotDyn) : (b.slMod p g).jobs = b.jobs := rfl
@[simp] theorem slMod_ats (b : Block) (p : Nat) (g : SlotDyn → SlotDyn) : (b.slMod p g).ats = b.ats := rfl
@[simp] theorem slMod_buckets (b : Block) (p : Nat) (g : SlotDyn → SlotDyn) : (b.slMod p g).buckets = b.buckets := rfl
@[simp] theorem slMod_parked (b : Block) (p : Nat) (g : SlotDyn → SlotDyn) : (b.slMod p g).parked = b.parked := rfl
@[simp] theorem slMod_gated (b : Block) (p : Nat) (g : SlotDyn → SlotDyn) : (b.slMod p g).gated = b.gated := rfl
@[simp] theorem slMod_lameSh (b : Block) (p : Nat) (g : SlotDyn → SlotDyn) : (b.slMod p g).lameSh = b.lameSh := rfl
@[simp] theorem slMod_moves (b : Block) (p : Nat) (g : SlotDyn → SlotDyn) : (b.slMod p g).moves = b.moves := rfl
@[simp] theorem slMod_boot (b : Block) (p : Nat) (g : SlotDyn → SlotDyn) : (b.slMod p g).boot = b.boot := rfl
@[simp] theorem slMod_grm (b : Block) (p : Nat) (g : SlotDyn → SlotDyn) : (b.slMod p g).grm = b.grm := rfl
@[simp] theorem slMod_halt (b : Block) (p : Nat) (g : SlotDyn → SlotDyn) : (b.slMod p g).halt = b.halt := rfl
@[simp] theorem slMod_tap (b : Block) (p : Nat) (g : SlotDyn → SlotDyn) : (b.slMod p g).tap = b.tap := rfl
@[simp] theorem slMod_refs (b : Block) (p : Nat) (g : SlotDyn → SlotDyn) : (b.slMod p g).refs = b.refs := rfl
@[simp] theorem slMod_out (b : Block) (p : Nat) (g : SlotDyn → SlotDyn) : (b.slMod p g).out = b.out := rfl
@[simp] theorem slMod_shutRot (b : Block) (p : Nat) (g : SlotDyn → SlotDyn) : (b.slMod p g).shutRot = b.shutRot := rfl
@[simp] theorem slMod_wire (b : Block) (p : Nat) (g : SlotDyn → SlotDyn) : (b.slMod p g).wire = b.wire := rfl
@[simp] theorem slMod_loomBack (b : Block) (p : Nat) (g : SlotDyn → SlotDyn) : (b.slMod p g).loomBack = b.loomBack := rfl
@[simp] theorem slMod_xings (b : Block) (p : Nat) (g : SlotDyn → SlotDyn) : (b.slMod p g).xings = b.xings := rfl
@[simp] theorem slMod_x (b : Block) (p : Nat) (g : SlotDyn → SlotDyn) (u : Nat) : (b.slMod p g).x u = b.x u := rfl
@[simp] theorem slMod_tt (b : Block) (p : Nat) (g : SlotDyn → SlotDyn) (u : Nat) : (b.slMod p g).tt u = b.tt u := rfl
@[simp] theorem slMod_lk (b : Block) (p : Nat) (g : SlotDyn → SlotDyn) (u : Nat) : (b.slMod p g).lk u = b.lk u := rfl
@[simp] theorem slMod_fn (b : Block) (p : Nat) (g : SlotDyn → SlotDyn) (u : Nat) : (b.slMod p g).fn u = b.fn u := rfl
@[simp] theorem slMod_qu (b : Block) (p : Nat) (g : SlotDyn → SlotDyn) (u : Nat) : (b.slMod p g).qu u = b.qu u := rfl
@[simp] theorem slMod_pin (b : Block) (p : Nat) (g : SlotDyn → SlotDyn) (u : Nat) : (b.slMod p g).pin u = b.pin u := rfl
@[simp] theorem slMod_gr (b : Block) (p : Nat) (g : SlotDyn → SlotDyn) (u : Nat) : (b.slMod p g).gr u = b.gr u := rfl
@[simp] theorem slMod_rd (b : Block) (p : Nat) (g : SlotDyn → SlotDyn) (f' : Fld) (i' j' : Nat) : (b.slMod p g).rd f' i' j' = b.rd f' i' j' := rfl
@[simp] theorem slMod_flag (b : Block) (p : Nat) (g : SlotDyn → SlotDyn) (f' : Fld) (i' j' : Nat) : (b.slMod p g).flag f' i' j' = b.flag f' i' j' := rfl

/-! `emit` -/
@[simp] theorem emit_regs (b : Block) (o : Out) : (b.emit o).regs = b.regs := rfl
@[simp] theorem emit_time (b : Block) (o : Out) : (b.emit o).time = b.time := rfl
@[simp] theorem emit_freeCtr (b : Block) (o : Out) : (b.emit o).freeCtr = b.freeCtr := rfl
@[simp] theorem emit_nextId (b : Block) (o : Out) : (b.emit o).nextId = b.nextId := rfl
@[simp] theorem emit_straps (b : Block) (o : Out) : (b.emit o).straps = b.straps := rfl
@[simp] theorem emit_img (b : Block) (o : Out) : (b.emit o).img = b.img := rfl
@[simp] theorem emit_sg (b : Block) (o : Out) : (b.emit o).sg = b.sg := rfl
@[simp] theorem emit_xlb (b : Block) (o : Out) : (b.emit o).xlb = b.xlb := rfl
@[simp] theorem emit_tth (b : Block) (o : Out) : (b.emit o).tth = b.tth := rfl
@[simp] theorem emit_links (b : Block) (o : Out) : (b.emit o).links = b.links := rfl
@[simp] theorem emit_fns (b : Block) (o : Out) : (b.emit o).fns = b.fns := rfl
@[simp] theorem emit_queues (b : Block) (o : Out) : (b.emit o).queues = b.queues := rfl
@[simp] theorem emit_pins (b : Block) (o : Out) : (b.emit o).pins = b.pins := rfl
@[simp] theorem emit_groups (b : Block) (o : Out) : (b.emit o).groups = b.groups := rfl
@[simp] theorem emit_slots (b : Block) (o : Out) : (b.emit o).slots = b.slots := rfl
@[simp] theorem emit_pow (b : Block) (o : Out) : (b.emit o).pow = b.pow := rfl
@[simp] theorem emit_loom (b : Block) (o : Out) : (b.emit o).loom = b.loom := rfl
@[simp] theorem emit_stums (b : Block) (o : Out) : (b.emit o).stums = b.stums := rfl
@[simp] theorem emit_fuses (b : Block) (o : Out) : (b.emit o).fuses = b.fuses := rfl
@[simp] theorem emit_jobs (b : Block) (o : Out) : (b.emit o).jobs = b.jobs := rfl
@[simp] theorem emit_ats (b : Block) (o : Out) : (b.emit o).ats = b.ats := rfl
@[simp] theorem emit_buckets (b : Block) (o : Out) : (b.emit o).buckets = b.buckets := rfl
@[simp] theorem emit_parked (b : Block) (o : Out) : (b.emit o).parked = b.parked := rfl
@[simp] theorem emit_gated (b : Block) (o : Out) : (b.emit o).gated = b.gated := rfl
@[simp] theorem emit_lameSh (b : Block) (o : Out) : (b.emit o).lameSh = b.lameSh := rfl
@[simp] theorem emit_moves (b : Block) (o : Out) : (b.emit o).moves = b.moves := rfl
@[simp] theorem emit_boot (b : Block) (o : Out) : (b.emit o).boot = b.boot := rfl
@[simp] theorem emit_grm (b : Block) (o : Out) : (b.emit o).grm = b.grm := rfl
@[simp] theorem emit_halt (b : Block) (o : Out) : (b.emit o).halt = b.halt := rfl
@[simp] theorem emit_tap (b : Block) (o : Out) : (b.emit o).tap = b.tap := rfl
@[simp] theorem emit_refs (b : Block) (o : Out) : (b.emit o).refs = b.refs := rfl
theorem emit_out (b : Block) (o : Out) : (b.emit o).out = o :: b.out := rfl
@[simp] theorem emit_shutRot (b : Block) (o : Out) : (b.emit o).shutRot = b.shutRot := rfl
@[simp] theorem emit_wire (b : Block) (o : Out) : (b.emit o).wire = b.wire := rfl
@[simp] theorem emit_loomBack (b : Block) (o : Out) : (b.emit o).loomBack = b.loomBack := rfl
@[simp] theorem emit_xings (b : Block) (o : Out) : (b.emit o).xings = b.xings := rfl
@[simp] theorem emit_x (b : Block) (o : Out) (u : Nat) : (b.emit o).x u = b.x u := rfl
@[simp] theorem emit_tt (b : Block) (o : Out) (u : Nat) : (b.emit o).tt u = b.tt u := rfl
@[simp] theorem emit_lk (b : Block) (o : Out) (u : Nat) : (b.emit o).lk u = b.lk u := rfl
@[simp] theorem emit_fn (b : Block) (o : Out) (u : Nat) : (b.emit o).fn u = b.fn u := rfl
@[simp] theorem emit_qu (b : Block) (o : Out) (u : Nat) : (b.emit o).qu u = b.qu u := rfl
@[simp] theorem emit_pin (b : Block) (o : Out) (u : Nat) : (b.emit o).pin u = b.pin u := rfl
@[simp] theorem emit_gr (b : Block) (o : Out) (u : Nat) : (b.emit o).gr u = b.gr u := rfl
@[simp] theorem emit_sl (b : Block) (o : Out) (u : Nat) : (b.emit o).sl u = b.sl u := rfl
@[simp] theorem emit_rd (b : Block) (o : Out) (f' : Fld) (i' j' : Nat) : (b.emit o).rd f' i' j' = b.rd f' i' j' := rfl
@[simp] theorem emit_flag (b : Block) (o : Out) (f' : Fld) (i' j' : Nat) : (b.emit o).flag f' i' j' = b.flag f' i' j' := rfl

/-! `useFree` -/
@[simp] theorem useFree_regs (b : Block) : b.useFree.regs = b.regs := rfl
@[simp] theorem useFree_time (b : Block) : b.useFree.time = b.time := rfl
theorem useFree_freeCtr (b : Block) : b.useFree.freeCtr = b.freeCtr + 1 := rfl
@[simp] theorem useFree_nextId (b : Block) : b.useFree.nextId = b.nextId := rfl
@[simp] theorem useFree_straps (b : Block) : b.useFree.straps = b.straps := rfl
@[simp] theorem useFree_img (b : Block) : b.useFree.img = b.img := rfl
@[simp] theorem useFree_sg (b : Block) : b.useFree.sg = b.sg := rfl
@[simp] theorem useFree_xlb (b : Block) : b.useFree.xlb = b.xlb := rfl
@[simp] theorem useFree_tth (b : Block) : b.useFree.tth = b.tth := rfl
@[simp] theorem useFree_links (b : Block) : b.useFree.links = b.links := rfl
@[simp] theorem useFree_fns (b : Block) : b.useFree.fns = b.fns := rfl
@[simp] theorem useFree_queues (b : Block) : b.useFree.queues = b.queues := rfl
@[simp] theorem useFree_pins (b : Block) : b.useFree.pins = b.pins := rfl
@[simp] theorem useFree_groups (b : Block) : b.useFree.groups = b.groups := rfl
@[simp] theorem useFree_slots (b : Block) : b.useFree.slots = b.slots := rfl
@[simp] theorem useFree_pow (b : Block) : b.useFree.pow = b.pow := rfl
@[simp] theorem useFree_loom (b : Block) : b.useFree.loom = b.loom := rfl
@[simp] theorem useFree_stums (b : Block) : b.useFree.stums = b.stums := rfl
@[simp] theorem useFree_fuses (b : Block) : b.useFree.fuses = b.fuses := rfl
@[simp] theorem useFree_jobs (b : Block) : b.useFree.jobs = b.jobs := rfl
@[simp] theorem useFree_ats (b : Block) : b.useFree.ats = b.ats := rfl
@[simp] theorem useFree_buckets (b : Block) : b.useFree.buckets = b.buckets := rfl
@[simp] theorem useFree_parked (b : Block) : b.useFree.parked = b.parked := rfl
@[simp] theorem useFree_gated (b : Block) : b.useFree.gated = b.gated := rfl
@[simp] theorem useFree_lameSh (b : Block) : b.useFree.lameSh = b.lameSh := rfl
@[simp] theorem useFree_moves (b : Block) : b.useFree.moves = b.moves := rfl
@[simp] theorem useFree_boot (b : Block) : b.useFree.boot = b.boot := rfl
@[simp] theorem useFree_grm (b : Block) : b.useFree.grm = b.grm := rfl
@[simp] theorem useFree_halt (b : Block) : b.useFree.halt = b.halt := rfl
@[simp] theorem useFree_tap (b : Block) : b.useFree.tap = b.tap := rfl
@[simp] theorem useFree_refs (b : Block) : b.useFree.refs = b.refs := rfl
@[simp] theorem useFree_out (b : Block) : b.useFree.out = b.out := rfl
@[simp] theorem useFree_shutRot (b : Block) : b.useFree.shutRot = b.shutRot := rfl
@[simp] theorem useFree_wire (b : Block) : b.useFree.wire = b.wire := rfl
@[simp] theorem useFree_loomBack (b : Block) : b.useFree.loomBack = b.loomBack := rfl
@[simp] theorem useFree_xings (b : Block) : b.useFree.xings = b.xings := rfl
@[simp] theorem useFree_x (b : Block)  (u : Nat) : b.useFree.x u = b.x u := rfl
@[simp] theorem useFree_tt (b : Block)  (u : Nat) : b.useFree.tt u = b.tt u := rfl
@[simp] theorem useFree_lk (b : Block)  (u : Nat) : b.useFree.lk u = b.lk u := rfl
@[simp] theorem useFree_fn (b : Block)  (u : Nat) : b.useFree.fn u = b.fn u := rfl
@[simp] theorem useFree_qu (b : Block)  (u : Nat) : b.useFree.qu u = b.qu u := rfl
@[simp] theorem useFree_pin (b : Block)  (u : Nat) : b.useFree.pin u = b.pin u := rfl
@[simp] theorem useFree_gr (b : Block)  (u : Nat) : b.useFree.gr u = b.gr u := rfl
@[simp] theorem useFree_sl (b : Block)  (u : Nat) : b.useFree.sl u = b.sl u := rfl
@[simp] theorem useFree_rd (b : Block)  (f' : Fld) (i' j' : Nat) : b.useFree.rd f' i' j' = b.rd f' i' j' := rfl
@[simp] theorem useFree_flag (b : Block)  (f' : Fld) (i' j' : Nat) : b.useFree.flag f' i' j' = b.flag f' i' j' := rfl

/-! `newId` -/
@[simp] theorem newId_regs (b : Block) : b.newId.regs = b.regs := rfl
@[simp] theorem newId_time (b : Block) : b.newId.time = b.time := rfl
@[simp] theorem newId_freeCtr (b : Block) : b.newId.freeCtr = b.freeCtr := rfl
theorem newId_nextId (b : Block) : b.newId.nextId = b.nextId + 1 := rfl
@[simp] theorem newId_straps (b : Block) : b.newId.straps = b.straps := rfl
@[simp] theorem newId_img (b : Block) : b.newId.img = b.img := rfl
@[simp] theorem newId_sg (b : Block) : b.newId.sg = b.sg := rfl
@[simp] theorem newId_xlb (b : Block) : b.newId.xlb = b.xlb := rfl
@[simp] theorem newId_tth (b : Block) : b.newId.tth = b.tth := rfl
@[simp] theorem newId_links (b : Block) : b.newId.links = b.links := rfl
@[simp] theorem newId_fns (b : Block) : b.newId.fns = b.fns := rfl
@[simp] theorem newId_queues (b : Block) : b.newId.queues = b.queues := rfl
@[simp] theorem newId_pins (b : Block) : b.newId.pins = b.pins := rfl
@[simp] theorem newId_groups (b : Block) : b.newId.groups = b.groups := rfl
@[simp] theorem newId_slots (b : Block) : b.newId.slots = b.slots := rfl
@[simp] theorem newId_pow (b : Block) : b.newId.pow = b.pow := rfl
@[simp] theorem newId_loom (b : Block) : b.newId.loom = b.loom := rfl
@[simp] theorem newId_stums (b : Block) : b.newId.stums = b.stums := rfl
@[simp] theorem newId_fuses (b : Block) : b.newId.fuses = b.fuses := rfl
@[simp] theorem newId_jobs (b : Block) : b.newId.jobs = b.jobs := rfl
@[simp] theorem newId_ats (b : Block) : b.newId.ats = b.ats := rfl
@[simp] theorem newId_buckets (b : Block) : b.newId.buckets = b.buckets := rfl
@[simp] theorem newId_parked (b : Block) : b.newId.parked = b.parked := rfl
@[simp] theorem newId_gated (b : Block) : b.newId.gated = b.gated := rfl
@[simp] theorem newId_lameSh (b : Block) : b.newId.lameSh = b.lameSh := rfl
@[simp] theorem newId_moves (b : Block) : b.newId.moves = b.moves := rfl
@[simp] theorem newId_boot (b : Block) : b.newId.boot = b.boot := rfl
@[simp] theorem newId_grm (b : Block) : b.newId.grm = b.grm := rfl
@[simp] theorem newId_halt (b : Block) : b.newId.halt = b.halt := rfl
@[simp] theorem newId_tap (b : Block) : b.newId.tap = b.tap := rfl
@[simp] theorem newId_refs (b : Block) : b.newId.refs = b.refs := rfl
@[simp] theorem newId_out (b : Block) : b.newId.out = b.out := rfl
@[simp] theorem newId_shutRot (b : Block) : b.newId.shutRot = b.shutRot := rfl
@[simp] theorem newId_wire (b : Block) : b.newId.wire = b.wire := rfl
@[simp] theorem newId_loomBack (b : Block) : b.newId.loomBack = b.loomBack := rfl
@[simp] theorem newId_xings (b : Block) : b.newId.xings = b.xings := rfl
@[simp] theorem newId_x (b : Block)  (u : Nat) : b.newId.x u = b.x u := rfl
@[simp] theorem newId_tt (b : Block)  (u : Nat) : b.newId.tt u = b.tt u := rfl
@[simp] theorem newId_lk (b : Block)  (u : Nat) : b.newId.lk u = b.lk u := rfl
@[simp] theorem newId_fn (b : Block)  (u : Nat) : b.newId.fn u = b.fn u := rfl
@[simp] theorem newId_qu (b : Block)  (u : Nat) : b.newId.qu u = b.qu u := rfl
@[simp] theorem newId_pin (b : Block)  (u : Nat) : b.newId.pin u = b.pin u := rfl
@[simp] theorem newId_gr (b : Block)  (u : Nat) : b.newId.gr u = b.gr u := rfl
@[simp] theorem newId_sl (b : Block)  (u : Nat) : b.newId.sl u = b.sl u := rfl
@[simp] theorem newId_rd (b : Block)  (f' : Fld) (i' j' : Nat) : b.newId.rd f' i' j' = b.rd f' i' j' := rfl
@[simp] theorem newId_flag (b : Block)  (f' : Fld) (i' j' : Nat) : b.newId.flag f' i' j' = b.flag f' i' j' := rfl

/-! `incSat` -/
@[simp] theorem incSat_time (b : Block) (f : Fld) (i j : Nat) : (b.incSat f i j).time = b.time := rfl
@[simp] theorem incSat_freeCtr (b : Block) (f : Fld) (i j : Nat) : (b.incSat f i j).freeCtr = b.freeCtr := rfl
@[simp] theorem incSat_nextId (b : Block) (f : Fld) (i j : Nat) : (b.incSat f i j).nextId = b.nextId := rfl
@[simp] theorem incSat_straps (b : Block) (f : Fld) (i j : Nat) : (b.incSat f i j).straps = b.straps := rfl
@[simp] theorem incSat_img (b : Block) (f : Fld) (i j : Nat) : (b.incSat f i j).img = b.img := rfl
@[simp] theorem incSat_sg (b : Block) (f : Fld) (i j : Nat) : (b.incSat f i j).sg = b.sg := rfl
@[simp] theorem incSat_xlb (b : Block) (f : Fld) (i j : Nat) : (b.incSat f i j).xlb = b.xlb := rfl
@[simp] theorem incSat_tth (b : Block) (f : Fld) (i j : Nat) : (b.incSat f i j).tth = b.tth := rfl
@[simp] theorem incSat_links (b : Block) (f : Fld) (i j : Nat) : (b.incSat f i j).links = b.links := rfl
@[simp] theorem incSat_fns (b : Block) (f : Fld) (i j : Nat) : (b.incSat f i j).fns = b.fns := rfl
@[simp] theorem incSat_queues (b : Block) (f : Fld) (i j : Nat) : (b.incSat f i j).queues = b.queues := rfl
@[simp] theorem incSat_pins (b : Block) (f : Fld) (i j : Nat) : (b.incSat f i j).pins = b.pins := rfl
@[simp] theorem incSat_groups (b : Block) (f : Fld) (i j : Nat) : (b.incSat f i j).groups = b.groups := rfl
@[simp] theorem incSat_slots (b : Block) (f : Fld) (i j : Nat) : (b.incSat f i j).slots = b.slots := rfl
@[simp] theorem incSat_pow (b : Block) (f : Fld) (i j : Nat) : (b.incSat f i j).pow = b.pow := rfl
@[simp] theorem incSat_loom (b : Block) (f : Fld) (i j : Nat) : (b.incSat f i j).loom = b.loom := rfl
@[simp] theorem incSat_stums (b : Block) (f : Fld) (i j : Nat) : (b.incSat f i j).stums = b.stums := rfl
@[simp] theorem incSat_fuses (b : Block) (f : Fld) (i j : Nat) : (b.incSat f i j).fuses = b.fuses := rfl
@[simp] theorem incSat_jobs (b : Block) (f : Fld) (i j : Nat) : (b.incSat f i j).jobs = b.jobs := rfl
@[simp] theorem incSat_ats (b : Block) (f : Fld) (i j : Nat) : (b.incSat f i j).ats = b.ats := rfl
@[simp] theorem incSat_buckets (b : Block) (f : Fld) (i j : Nat) : (b.incSat f i j).buckets = b.buckets := rfl
@[simp] theorem incSat_parked (b : Block) (f : Fld) (i j : Nat) : (b.incSat f i j).parked = b.parked := rfl
@[simp] theorem incSat_gated (b : Block) (f : Fld) (i j : Nat) : (b.incSat f i j).gated = b.gated := rfl
@[simp] theorem incSat_lameSh (b : Block) (f : Fld) (i j : Nat) : (b.incSat f i j).lameSh = b.lameSh := rfl
@[simp] theorem incSat_moves (b : Block) (f : Fld) (i j : Nat) : (b.incSat f i j).moves = b.moves := rfl
@[simp] theorem incSat_boot (b : Block) (f : Fld) (i j : Nat) : (b.incSat f i j).boot = b.boot := rfl
@[simp] theorem incSat_grm (b : Block) (f : Fld) (i j : Nat) : (b.incSat f i j).grm = b.grm := rfl
@[simp] theorem incSat_halt (b : Block) (f : Fld) (i j : Nat) : (b.incSat f i j).halt = b.halt := rfl
@[simp] theorem incSat_tap (b : Block) (f : Fld) (i j : Nat) : (b.incSat f i j).tap = b.tap := rfl
@[simp] theorem incSat_refs (b : Block) (f : Fld) (i j : Nat) : (b.incSat f i j).refs = b.refs := rfl
@[simp] theorem incSat_out (b : Block) (f : Fld) (i j : Nat) : (b.incSat f i j).out = b.out := rfl
@[simp] theorem incSat_shutRot (b : Block) (f : Fld) (i j : Nat) : (b.incSat f i j).shutRot = b.shutRot := rfl
@[simp] theorem incSat_wire (b : Block) (f : Fld) (i j : Nat) : (b.incSat f i j).wire = b.wire := rfl
@[simp] theorem incSat_loomBack (b : Block) (f : Fld) (i j : Nat) : (b.incSat f i j).loomBack = b.loomBack := rfl
@[simp] theorem incSat_xings (b : Block) (f : Fld) (i j : Nat) : (b.incSat f i j).xings = b.xings := rfl
@[simp] theorem incSat_x (b : Block) (f : Fld) (i j : Nat) (u : Nat) : (b.incSat f i j).x u = b.x u := rfl
@[simp] theorem incSat_tt (b : Block) (f : Fld) (i j : Nat) (u : Nat) : (b.incSat f i j).tt u = b.tt u := rfl
@[simp] theorem incSat_lk (b : Block) (f : Fld) (i j : Nat) (u : Nat) : (b.incSat f i j).lk u = b.lk u := rfl
@[simp] theorem incSat_fn (b : Block) (f : Fld) (i j : Nat) (u : Nat) : (b.incSat f i j).fn u = b.fn u := rfl
@[simp] theorem incSat_qu (b : Block) (f : Fld) (i j : Nat) (u : Nat) : (b.incSat f i j).qu u = b.qu u := rfl
@[simp] theorem incSat_pin (b : Block) (f : Fld) (i j : Nat) (u : Nat) : (b.incSat f i j).pin u = b.pin u := rfl
@[simp] theorem incSat_gr (b : Block) (f : Fld) (i j : Nat) (u : Nat) : (b.incSat f i j).gr u = b.gr u := rfl
@[simp] theorem incSat_sl (b : Block) (f : Fld) (i j : Nat) (u : Nat) : (b.incSat f i j).sl u = b.sl u := rfl

/-! `setBits` -/
@[simp] theorem setBits_time (b : Block) (f : Fld) (i j m : Nat) : (b.setBits f i j m).time = b.time := rfl
@[simp] theorem setBits_freeCtr (b : Block) (f : Fld) (i j m : Nat) : (b.setBits f i j m).freeCtr = b.freeCtr := rfl
@[simp] theorem setBits_nextId (b : Block) (f : Fld) (i j m : Nat) : (b.setBits f i j m).nextId = b.nextId := rfl
@[simp] theorem setBits_straps (b : Block) (f : Fld) (i j m : Nat) : (b.setBits f i j m).straps = b.straps := rfl
@[simp] theorem setBits_img (b : Block) (f : Fld) (i j m : Nat) : (b.setBits f i j m).img = b.img := rfl
@[simp] theorem setBits_sg (b : Block) (f : Fld) (i j m : Nat) : (b.setBits f i j m).sg = b.sg := rfl
@[simp] theorem setBits_xlb (b : Block) (f : Fld) (i j m : Nat) : (b.setBits f i j m).xlb = b.xlb := rfl
@[simp] theorem setBits_tth (b : Block) (f : Fld) (i j m : Nat) : (b.setBits f i j m).tth = b.tth := rfl
@[simp] theorem setBits_links (b : Block) (f : Fld) (i j m : Nat) : (b.setBits f i j m).links = b.links := rfl
@[simp] theorem setBits_fns (b : Block) (f : Fld) (i j m : Nat) : (b.setBits f i j m).fns = b.fns := rfl
@[simp] theorem setBits_queues (b : Block) (f : Fld) (i j m : Nat) : (b.setBits f i j m).queues = b.queues := rfl
@[simp] theorem setBits_pins (b : Block) (f : Fld) (i j m : Nat) : (b.setBits f i j m).pins = b.pins := rfl
@[simp] theorem setBits_groups (b : Block) (f : Fld) (i j m : Nat) : (b.setBits f i j m).groups = b.groups := rfl
@[simp] theorem setBits_slots (b : Block) (f : Fld) (i j m : Nat) : (b.setBits f i j m).slots = b.slots := rfl
@[simp] theorem setBits_pow (b : Block) (f : Fld) (i j m : Nat) : (b.setBits f i j m).pow = b.pow := rfl
@[simp] theorem setBits_loom (b : Block) (f : Fld) (i j m : Nat) : (b.setBits f i j m).loom = b.loom := rfl
@[simp] theorem setBits_stums (b : Block) (f : Fld) (i j m : Nat) : (b.setBits f i j m).stums = b.stums := rfl
@[simp] theorem setBits_fuses (b : Block) (f : Fld) (i j m : Nat) : (b.setBits f i j m).fuses = b.fuses := rfl
@[simp] theorem setBits_jobs (b : Block) (f : Fld) (i j m : Nat) : (b.setBits f i j m).jobs = b.jobs := rfl
@[simp] theorem setBits_ats (b : Block) (f : Fld) (i j m : Nat) : (b.setBits f i j m).ats = b.ats := rfl
@[simp] theorem setBits_buckets (b : Block) (f : Fld) (i j m : Nat) : (b.setBits f i j m).buckets = b.buckets := rfl
@[simp] theorem setBits_parked (b : Block) (f : Fld) (i j m : Nat) : (b.setBits f i j m).parked = b.parked := rfl
@[simp] theorem setBits_gated (b : Block) (f : Fld) (i j m : Nat) : (b.setBits f i j m).gated = b.gated := rfl
@[simp] theorem setBits_lameSh (b : Block) (f : Fld) (i j m : Nat) : (b.setBits f i j m).lameSh = b.lameSh := rfl
@[simp] theorem setBits_moves (b : Block) (f : Fld) (i j m : Nat) : (b.setBits f i j m).moves = b.moves := rfl
@[simp] theorem setBits_boot (b : Block) (f : Fld) (i j m : Nat) : (b.setBits f i j m).boot = b.boot := rfl
@[simp] theorem setBits_grm (b : Block) (f : Fld) (i j m : Nat) : (b.setBits f i j m).grm = b.grm := rfl
@[simp] theorem setBits_halt (b : Block) (f : Fld) (i j m : Nat) : (b.setBits f i j m).halt = b.halt := rfl
@[simp] theorem setBits_tap (b : Block) (f : Fld) (i j m : Nat) : (b.setBits f i j m).tap = b.tap := rfl
@[simp] theorem setBits_refs (b : Block) (f : Fld) (i j m : Nat) : (b.setBits f i j m).refs = b.refs := rfl
@[simp] theorem setBits_out (b : Block) (f : Fld) (i j m : Nat) : (b.setBits f i j m).out = b.out := rfl
@[simp] theorem setBits_shutRot (b : Block) (f : Fld) (i j m : Nat) : (b.setBits f i j m).shutRot = b.shutRot := rfl
@[simp] theorem setBits_wire (b : Block) (f : Fld) (i j m : Nat) : (b.setBits f i j m).wire = b.wire := rfl
@[simp] theorem setBits_loomBack (b : Block) (f : Fld) (i j m : Nat) : (b.setBits f i j m).loomBack = b.loomBack := rfl
@[simp] theorem setBits_xings (b : Block) (f : Fld) (i j m : Nat) : (b.setBits f i j m).xings = b.xings := rfl
@[simp] theorem setBits_x (b : Block) (f : Fld) (i j m : Nat) (u : Nat) : (b.setBits f i j m).x u = b.x u := rfl
@[simp] theorem setBits_tt (b : Block) (f : Fld) (i j m : Nat) (u : Nat) : (b.setBits f i j m).tt u = b.tt u := rfl
@[simp] theorem setBits_lk (b : Block) (f : Fld) (i j m : Nat) (u : Nat) : (b.setBits f i j m).lk u = b.lk u := rfl
@[simp] theorem setBits_fn (b : Block) (f : Fld) (i j m : Nat) (u : Nat) : (b.setBits f i j m).fn u = b.fn u := rfl
@[simp] theorem setBits_qu (b : Block) (f : Fld) (i j m : Nat) (u : Nat) : (b.setBits f i j m).qu u = b.qu u := rfl
@[simp] theorem setBits_pin (b : Block) (f : Fld) (i j m : Nat) (u : Nat) : (b.setBits f i j m).pin u = b.pin u := rfl
@[simp] theorem setBits_gr (b : Block) (f : Fld) (i j m : Nat) (u : Nat) : (b.setBits f i j m).gr u = b.gr u := rfl
@[simp] theorem setBits_sl (b : Block) (f : Fld) (i j m : Nat) (u : Nat) : (b.setBits f i j m).sl u = b.sl u := rfl

/-! `clrBits` -/
@[simp] theorem clrBits_time (b : Block) (f : Fld) (i j m : Nat) : (b.clrBits f i j m).time = b.time := rfl
@[simp] theorem clrBits_freeCtr (b : Block) (f : Fld) (i j m : Nat) : (b.clrBits f i j m).freeCtr = b.freeCtr := rfl
@[simp] theorem clrBits_nextId (b : Block) (f : Fld) (i j m : Nat) : (b.clrBits f i j m).nextId = b.nextId := rfl
@[simp] theorem clrBits_straps (b : Block) (f : Fld) (i j m : Nat) : (b.clrBits f i j m).straps = b.straps := rfl
@[simp] theorem clrBits_img (b : Block) (f : Fld) (i j m : Nat) : (b.clrBits f i j m).img = b.img := rfl
@[simp] theorem clrBits_sg (b : Block) (f : Fld) (i j m : Nat) : (b.clrBits f i j m).sg = b.sg := rfl
@[simp] theorem clrBits_xlb (b : Block) (f : Fld) (i j m : Nat) : (b.clrBits f i j m).xlb = b.xlb := rfl
@[simp] theorem clrBits_tth (b : Block) (f : Fld) (i j m : Nat) : (b.clrBits f i j m).tth = b.tth := rfl
@[simp] theorem clrBits_links (b : Block) (f : Fld) (i j m : Nat) : (b.clrBits f i j m).links = b.links := rfl
@[simp] theorem clrBits_fns (b : Block) (f : Fld) (i j m : Nat) : (b.clrBits f i j m).fns = b.fns := rfl
@[simp] theorem clrBits_queues (b : Block) (f : Fld) (i j m : Nat) : (b.clrBits f i j m).queues = b.queues := rfl
@[simp] theorem clrBits_pins (b : Block) (f : Fld) (i j m : Nat) : (b.clrBits f i j m).pins = b.pins := rfl
@[simp] theorem clrBits_groups (b : Block) (f : Fld) (i j m : Nat) : (b.clrBits f i j m).groups = b.groups := rfl
@[simp] theorem clrBits_slots (b : Block) (f : Fld) (i j m : Nat) : (b.clrBits f i j m).slots = b.slots := rfl
@[simp] theorem clrBits_pow (b : Block) (f : Fld) (i j m : Nat) : (b.clrBits f i j m).pow = b.pow := rfl
@[simp] theorem clrBits_loom (b : Block) (f : Fld) (i j m : Nat) : (b.clrBits f i j m).loom = b.loom := rfl
@[simp] theorem clrBits_stums (b : Block) (f : Fld) (i j m : Nat) : (b.clrBits f i j m).stums = b.stums := rfl
@[simp] theorem clrBits_fuses (b : Block) (f : Fld) (i j m : Nat) : (b.clrBits f i j m).fuses = b.fuses := rfl
@[simp] theorem clrBits_jobs (b : Block) (f : Fld) (i j m : Nat) : (b.clrBits f i j m).jobs = b.jobs := rfl
@[simp] theorem clrBits_ats (b : Block) (f : Fld) (i j m : Nat) : (b.clrBits f i j m).ats = b.ats := rfl
@[simp] theorem clrBits_buckets (b : Block) (f : Fld) (i j m : Nat) : (b.clrBits f i j m).buckets = b.buckets := rfl
@[simp] theorem clrBits_parked (b : Block) (f : Fld) (i j m : Nat) : (b.clrBits f i j m).parked = b.parked := rfl
@[simp] theorem clrBits_gated (b : Block) (f : Fld) (i j m : Nat) : (b.clrBits f i j m).gated = b.gated := rfl
@[simp] theorem clrBits_lameSh (b : Block) (f : Fld) (i j m : Nat) : (b.clrBits f i j m).lameSh = b.lameSh := rfl
@[simp] theorem clrBits_moves (b : Block) (f : Fld) (i j m : Nat) : (b.clrBits f i j m).moves = b.moves := rfl
@[simp] theorem clrBits_boot (b : Block) (f : Fld) (i j m : Nat) : (b.clrBits f i j m).boot = b.boot := rfl
@[simp] theorem clrBits_grm (b : Block) (f : Fld) (i j m : Nat) : (b.clrBits f i j m).grm = b.grm := rfl
@[simp] theorem clrBits_halt (b : Block) (f : Fld) (i j m : Nat) : (b.clrBits f i j m).halt = b.halt := rfl
@[simp] theorem clrBits_tap (b : Block) (f : Fld) (i j m : Nat) : (b.clrBits f i j m).tap = b.tap := rfl
@[simp] theorem clrBits_refs (b : Block) (f : Fld) (i j m : Nat) : (b.clrBits f i j m).refs = b.refs := rfl
@[simp] theorem clrBits_out (b : Block) (f : Fld) (i j m : Nat) : (b.clrBits f i j m).out = b.out := rfl
@[simp] theorem clrBits_shutRot (b : Block) (f : Fld) (i j m : Nat) : (b.clrBits f i j m).shutRot = b.shutRot := rfl
@[simp] theorem clrBits_wire (b : Block) (f : Fld) (i j m : Nat) : (b.clrBits f i j m).wire = b.wire := rfl
@[simp] theorem clrBits_loomBack (b : Block) (f : Fld) (i j m : Nat) : (b.clrBits f i j m).loomBack = b.loomBack := rfl
@[simp] theorem clrBits_xings (b : Block) (f : Fld) (i j m : Nat) : (b.clrBits f i j m).xings = b.xings := rfl
@[simp] theorem clrBits_x (b : Block) (f : Fld) (i j m : Nat) (u : Nat) : (b.clrBits f i j m).x u = b.x u := rfl
@[simp] theorem clrBits_tt (b : Block) (f : Fld) (i j m : Nat) (u : Nat) : (b.clrBits f i j m).tt u = b.tt u := rfl
@[simp] theorem clrBits_lk (b : Block) (f : Fld) (i j m : Nat) (u : Nat) : (b.clrBits f i j m).lk u = b.lk u := rfl
@[simp] theorem clrBits_fn (b : Block) (f : Fld) (i j m : Nat) (u : Nat) : (b.clrBits f i j m).fn u = b.fn u := rfl
@[simp] theorem clrBits_qu (b : Block) (f : Fld) (i j m : Nat) (u : Nat) : (b.clrBits f i j m).qu u = b.qu u := rfl
@[simp] theorem clrBits_pin (b : Block) (f : Fld) (i j m : Nat) (u : Nat) : (b.clrBits f i j m).pin u = b.pin u := rfl
@[simp] theorem clrBits_gr (b : Block) (f : Fld) (i j m : Nat) (u : Nat) : (b.clrBits f i j m).gr u = b.gr u := rfl
@[simp] theorem clrBits_sl (b : Block) (f : Fld) (i j m : Nat) (u : Nat) : (b.clrBits f i j m).sl u = b.sl u := rfl

end Sys2Proof.Machine.Block
end

