-- ==== Sys2Proof/Laws/Table.lean ====
section
/-! SUPPORT. Tables in canonical form: what a lookup finds in one, that its keys strictly rise and no entry is a default, and
that canonical tables stay as they are. -/
namespace Sys2Proof.Machine

section table
variable {κ ν : Type} [DecidableEq κ]

@[simp] theorem lookupKey_nil (k : κ) : lookupKey k ([] : List (κ × ν)) = none := rfl

@[simp] theorem lookupKey_cons_self (k : κ) (v : ν) (l : List (κ × ν)) : lookupKey k ((k, v) :: l) = some v := by
  simp [lookupKey]

theorem lookupKey_cons_ne {k k' : κ} (h : k ≠ k') (v : ν) (l : List (κ × ν)) :
    lookupKey k ((k', v) :: l) = lookupKey k l := by
  simp [lookupKey, h]

theorem lookupKey_drop_self (k : κ) (l : List (κ × ν)) : lookupKey k (dropKey k l) = none := by
  induction l with
  | nil => rfl
  | cons e t ih =>
    by_cases h : e.1 = k
    · simpa [dropKey, h] using ih
    · have : lookupKey k (e :: dropKey k t) = none := by rw [lookupKey_cons_ne (Ne.symm h)]; exact ih
      simpa [dropKey, h] using this

theorem lookupKey_drop_ne {k k' : κ} (h : k ≠ k') (l : List (κ × ν)) :
    lookupKey k (dropKey k' l) = lookupKey k l := by
  induction l with
  | nil => rfl
  | cons e t ih =>
    obtain ⟨a, v⟩ := e
    by_cases ha : a = k'
    · subst ha
      rw [lookupKey_cons_ne h]
      simpa [dropKey] using ih
    · have he : dropKey k' ((a, v) :: t) = (a, v) :: dropKey k' t := by simp [dropKey, ha]
      rw [he]
      by_cases hk : k = a
      · subst hk; simp
      · rw [lookupKey_cons_ne hk, lookupKey_cons_ne hk, ih]

theorem lookupKey_insert_self (lt : κ → κ → Bool) (k : κ) (v : ν) (l : List (κ × ν)) (h : lookupKey k l = none) :
    lookupKey k (insertKey lt k v l) = some v := by
  induction l with
  | nil => simp [insertKey]
  | cons e t ih =>
    obtain ⟨a, w⟩ := e
    have ha : k ≠ a := by rintro rfl; simp at h
    rw [lookupKey_cons_ne ha] at h
    unfold insertKey
    split
    · simp
    · rw [lookupKey_cons_ne ha]; exact ih h

theorem lookupKey_insert_ne (lt : κ → κ → Bool) {k k' : κ} (hk : k' ≠ k) (v : ν) (l : List (κ × ν)) :
    lookupKey k' (insertKey lt k v l) = lookupKey k' l := by
  induction l with
  | nil => simp [insertKey, lookupKey_cons_ne hk]
  | cons e t ih =>
    obtain ⟨a, w⟩ := e
    unfold insertKey
    split
    · exact lookupKey_cons_ne hk v _
    · by_cases ha : k' = a
      · subst ha; simp
      · rw [lookupKey_cons_ne ha, lookupKey_cons_ne ha, ih]

/-- A lookup in the canonical form: the first entry under the key, unless it is the default. -/
theorem lookupKey_canon (lt : κ → κ → Bool) (d : κ → ν → Bool) (k : κ) (l : List (κ × ν)) :
    lookupKey k (canonTable lt d l) = (lookupKey k l).filter (fun v => !d k v) := by
  induction l with
  | nil => rfl
  | cons e t ih =>
    obtain ⟨a, v⟩ := e
    by_cases h : k = a
    · subst h
      simp only [canonTable, lookupKey_cons_self]
      by_cases hd : d k v = true
      · simp [hd, lookupKey_drop_self, Option.filter]
      · simp [hd, Option.filter, lookupKey_insert_self lt k v _ (lookupKey_drop_self k _)]
    · rw [lookupKey_cons_ne h, ← ih]
      simp only [canonTable]
      split
      · exact lookupKey_drop_ne h _
      · rw [lookupKey_insert_ne lt h, lookupKey_drop_ne h]

/-- Keys strictly rising and no default entry. -/
def CanonIs (lt : κ → κ → Bool) (d : κ → ν → Bool) (l : List (κ × ν)) : Prop :=
  l.Pairwise (fun a b => lt a.1 b.1 = true) ∧ ∀ e ∈ l, d e.1 e.2 = false

theorem mem_insertKey (lt : κ → κ → Bool) (k : κ) (v : ν) (l : List (κ × ν)) (e : κ × ν) :
    e ∈ insertKey lt k v l ↔ e = (k, v) ∨ e ∈ l := by
  induction l with
  | nil => simp [insertKey]
  | cons h t ih =>
    unfold insertKey
    split
    · simp
    · simp only [List.mem_cons, ih]; tauto

theorem canonIs_canon (lt : κ → κ → Bool) (d : κ → ν → Bool)
    (tri : ∀ a b, lt a b = false → a ≠ b → lt b a = true) (tr : ∀ a b c, lt a b = true → lt b c = true → lt a c = true)
    (l : List (κ × ν)) : CanonIs lt d (canonTable lt d l) := by
  induction l with
  | nil => exact ⟨List.Pairwise.nil, by simp [canonTable]⟩
  | cons e t ih =>
    obtain ⟨k, v⟩ := e
    have hr : CanonIs lt d (dropKey k (canonTable lt d t)) :=
      ⟨ih.1.sublist List.filter_sublist, fun e he => ih.2 e (List.mem_filter.1 he).1⟩
    have hne : ∀ e ∈ dropKey k (canonTable lt d t), e.1 ≠ k := fun e he => by
      simpa [dropKey] using (List.mem_filter.1 he).2
    simp only [canonTable]
    split
    · exact hr
    · rename_i hd
      refine ⟨?_, fun e he => ?_⟩
      · generalize dropKey k (canonTable lt d t) = r at hr hne
        have hp := hr.1
        clear hr
        induction r with
        | nil => simp [insertKey]
        | cons h r ihr =>
          obtain ⟨hh, ht⟩ := List.pairwise_cons.1 hp
          unfold insertKey
          split
          · rename_i hlt
            refine List.pairwise_cons.2 ⟨fun e he => ?_, hp⟩
            rcases List.mem_cons.1 he with rfl | he
            · exact hlt
            · exact tr _ _ _ hlt (hh e he)
          · rename_i hlt
            refine List.pairwise_cons.2 ⟨fun e he => ?_, ihr (fun e he => hne e (List.mem_cons_of_mem _ he)) ht⟩
            rcases (mem_insertKey lt k v r e).1 he with rfl | he
            · exact tri _ _ (by simpa using hlt) (hne h List.mem_cons_self).symm
            · exact hh e he
      · rcases (mem_insertKey lt k v _ e).1 he with rfl | he
        · simpa using hd
        · exact hr.2 e he

/-- A table already canonical stays as it is. -/
theorem canonTable_fixed (lt : κ → κ → Bool) (d : κ → ν → Bool) (irr : ∀ a, lt a a = false)
    (l : List (κ × ν)) (h : CanonIs lt d l) : canonTable lt d l = l := by
  induction l with
  | nil => rfl
  | cons e t ih =>
    obtain ⟨k, v⟩ := e
    obtain ⟨hh, ht⟩ := List.pairwise_cons.1 h.1
    have hi := ih ⟨ht, fun e he => h.2 e (List.mem_cons_of_mem _ he)⟩
    have hd : d k v = false := h.2 (k, v) List.mem_cons_self
    have hdrop : dropKey k t = t := by
      refine List.filter_eq_self.2 fun e he => ?_
      have := hh e he
      have hne : e.1 ≠ k := by rintro rfl; simp [irr] at this
      simpa using hne
    simp only [canonTable, hi, hdrop, hd]
    cases t with
    | nil => simp [insertKey]
    | cons a t => simp [insertKey, hh a List.mem_cons_self]

end table

theorem natLt_irrefl (a : Nat) : natLt a a = false := by simp [natLt]
theorem natLt_tri (a b : Nat) (h : natLt a b = false) (n : a ≠ b) : natLt b a = true := by
  simp [natLt] at *; omega
theorem natLt_trans (a b c : Nat) (h : natLt a b = true) (k : natLt b c = true) : natLt a c = true := by
  simp [natLt] at *; omega

theorem Fld.ctorIdx_inj {a b : Fld} (h : a.ctorIdx = b.ctorIdx) : a = b := by
  rw [← Fld.ofNat_ctorIdx a, h, Fld.ofNat_ctorIdx]

theorem RKey.lt_irrefl (a : RKey) : RKey.lt a a = false := by simp [RKey.lt]
theorem RKey.lt_tri (a b : RKey) (h : RKey.lt a b = false) (n : a ≠ b) : RKey.lt b a = true := by
  obtain ⟨f, i, j⟩ := a
  obtain ⟨g, k, m⟩ := b
  by_cases hf : f.ctorIdx = g.ctorIdx
  · have := Fld.ctorIdx_inj hf
    subst this
    simp [RKey.lt] at *
    by_cases hi : i = k
    · subst hi; simp at *; omega
    · omega
  · simp [RKey.lt] at *; omega
theorem RKey.lt_trans (a b c : RKey) (h : RKey.lt a b = true) (k : RKey.lt b c = true) : RKey.lt a c = true := by
  simp [RKey.lt] at *; omega

theorem canonUnits_fixed {ν : Type} [DecidableEq ν] (d : ν) (l : List (Nat × ν)) :
    canonUnits d (canonUnits d l) = canonUnits d l :=
  canonTable_fixed _ _ natLt_irrefl _ (canonIs_canon _ _ natLt_tri natLt_trans _)

/-- The canonical form of a block is canonical. -/
theorem Block.canon_canon (b : Block) : b.canon.canon = b.canon := by
  have hr : canonTable RKey.lt (fun k v => v == resetVal b k) (canonTable RKey.lt (fun k v => v == resetVal b k) b.regs) =
      canonTable RKey.lt (fun k v => v == resetVal b k) b.regs :=
    canonTable_fixed _ _ RKey.lt_irrefl _ (canonIs_canon _ _ RKey.lt_tri RKey.lt_trans _)
  have hv : resetVal b.canon = resetVal b := rfl
  simp only [Block.canon, canonUnits_fixed] at *
  simp only [Block.mk.injEq, and_true]
  exact hr

/-! ### Records and fields through the canonical form -/

theorem unitOf_canon {ν : Type} [DecidableEq ν] (d : ν) (l : List (Nat × ν)) (k : Nat) :
    unitOf d (canonUnits d l) k = unitOf d l k := by
  simp only [unitOf, canonUnits, lookupKey_canon]
  cases h : lookupKey k l with
  | none => rfl
  | some v => by_cases hv : v = d <;> simp [hv, Option.filter]

theorem unitOf_cons_self {ν : Type} (d v : ν) (l : List (Nat × ν)) (k : Nat) : unitOf d ((k, v) :: l) k = v := by
  simp [unitOf]
theorem unitOf_cons_ne {ν : Type} (d v : ν) (l : List (Nat × ν)) {k k' : Nat} (h : k ≠ k') :
    unitOf d ((k', v) :: l) k = unitOf d l k := by
  simp [unitOf, lookupKey_cons_ne h]

namespace Block
@[simp] theorem canon_rd (b : Block) (f : Fld) (i j : Nat) : b.canon.rd f i j = b.rd f i j := by
  have : resetVal b.canon = resetVal b := rfl
  simp only [rd, this]
  simp only [canon, lookupKey_canon]
  cases h : lookupKey (key f i j) b.regs with
  | none => rfl
  | some v => by_cases hv : v = resetVal b (key f i j) <;> simp [hv, Option.filter]
@[simp] theorem canon_flag (b : Block) (f : Fld) (i j : Nat) : b.canon.flag f i j = b.flag f i j := by
  simp [flag]
@[simp] theorem canon_x (b : Block) (p : Nat) : b.canon.x p = b.x p := unitOf_canon _ _ _
@[simp] theorem canon_tt (b : Block) (p : Nat) : b.canon.tt p = b.tt p := unitOf_canon _ _ _
@[simp] theorem canon_lk (b : Block) (l : Nat) : b.canon.lk l = b.lk l := unitOf_canon _ _ _
@[simp] theorem canon_fn (b : Block) (f : Nat) : b.canon.fn f = b.fn f := unitOf_canon _ _ _
@[simp] theorem canon_qu (b : Block) (q : Nat) : b.canon.qu q = b.qu q := unitOf_canon _ _ _
@[simp] theorem canon_pin (b : Block) (p : Nat) : b.canon.pin p = b.pin p := unitOf_canon _ _ _
@[simp] theorem canon_gr (b : Block) (g : Nat) : b.canon.gr g = b.gr g := unitOf_canon _ _ _
@[simp] theorem canon_sl (b : Block) (p : Nat) : b.canon.sl p = b.sl p := unitOf_canon _ _ _
@[simp] theorem canon_time (b : Block) : b.canon.time = b.time := rfl
@[simp] theorem canon_freeCtr (b : Block) : b.canon.freeCtr = b.freeCtr := rfl
@[simp] theorem canon_nextId (b : Block) : b.canon.nextId = b.nextId := rfl
@[simp] theorem canon_straps (b : Block) : b.canon.straps = b.straps := rfl
@[simp] theorem canon_img (b : Block) : b.canon.img = b.img := rfl
@[simp] theorem canon_sg (b : Block) : b.canon.sg = b.sg := rfl
@[simp] theorem canon_pow (b : Block) : b.canon.pow = b.pow := rfl
@[simp] theorem canon_loom (b : Block) : b.canon.loom = b.loom := rfl
@[simp] theorem canon_stums (b : Block) : b.canon.stums = b.stums := rfl
@[simp] theorem canon_fuses (b : Block) : b.canon.fuses = b.fuses := rfl
@[simp] theorem canon_jobs (b : Block) : b.canon.jobs = b.jobs := rfl
@[simp] theorem canon_ats (b : Block) : b.canon.ats = b.ats := rfl
@[simp] theorem canon_buckets (b : Block) : b.canon.buckets = b.buckets := rfl
@[simp] theorem canon_parked (b : Block) : b.canon.parked = b.parked := rfl
@[simp] theorem canon_gated (b : Block) : b.canon.gated = b.gated := rfl
@[simp] theorem canon_lameSh (b : Block) : b.canon.lameSh = b.lameSh := rfl
@[simp] theorem canon_moves (b : Block) : b.canon.moves = b.moves := rfl
@[simp] theorem canon_boot (b : Block) : b.canon.boot = b.boot := rfl
@[simp] theorem canon_grm (b : Block) : b.canon.grm = b.grm := rfl
@[simp] theorem canon_halt (b : Block) : b.canon.halt = b.halt := rfl
@[simp] theorem canon_tap (b : Block) : b.canon.tap = b.tap := rfl
@[simp] theorem canon_refs (b : Block) : b.canon.refs = b.refs := rfl
@[simp] theorem canon_out (b : Block) : b.canon.out = b.out := rfl
@[simp] theorem canon_shutRot (b : Block) : b.canon.shutRot = b.shutRot := rfl
@[simp] theorem canon_wire (b : Block) : b.canon.wire = b.wire := rfl
@[simp] theorem canon_loomBack (b : Block) : b.canon.loomBack = b.loomBack := rfl
@[simp] theorem canon_xings (b : Block) : b.canon.xings = b.xings := rfl

@[simp] theorem xMod_x_self (b : Block) (p : Nat) (g : XlbDyn → XlbDyn) : (b.xMod p g).x p = g (b.x p) := unitOf_cons_self ..
theorem xMod_x_ne (b : Block) {p u : Nat} (h : u ≠ p) (g : XlbDyn → XlbDyn) : (b.xMod p g).x u = b.x u := unitOf_cons_ne _ _ _ h
@[simp] theorem ttMod_tt_self (b : Block) (p : Nat) (g : TthDyn → TthDyn) : (b.ttMod p g).tt p = g (b.tt p) := unitOf_cons_self ..
theorem ttMod_tt_ne (b : Block) {p u : Nat} (h : u ≠ p) (g : TthDyn → TthDyn) : (b.ttMod p g).tt u = b.tt u := unitOf_cons_ne _ _ _ h
@[simp] theorem lkMod_lk_self (b : Block) (l : Nat) (g : LinkDyn → LinkDyn) : (b.lkMod l g).lk l = g (b.lk l) := unitOf_cons_self ..
theorem lkMod_lk_ne (b : Block) {l u : Nat} (h : u ≠ l) (g : LinkDyn → LinkDyn) : (b.lkMod l g).lk u = b.lk u := unitOf_cons_ne _ _ _ h
@[simp] theorem fnMod_fn_self (b : Block) (f : Nat) (g : FnDyn → FnDyn) : (b.fnMod f g).fn f = g (b.fn f) := unitOf_cons_self ..
theorem fnMod_fn_ne (b : Block) {f u : Nat} (h : u ≠ f) (g : FnDyn → FnDyn) : (b.fnMod f g).fn u = b.fn u := unitOf_cons_ne _ _ _ h
@[simp] theorem quMod_qu_self (b : Block) (q : Nat) (g : QDyn → QDyn) : (b.quMod q g).qu q = g (b.qu q) := unitOf_cons_self ..
theorem quMod_qu_ne (b : Block) {q u : Nat} (h : u ≠ q) (g : QDyn → QDyn) : (b.quMod q g).qu u = b.qu u := unitOf_cons_ne _ _ _ h
@[simp] theorem pinMod_pin_self (b : Block) (p : Nat) (g : PortPins → PortPins) : (b.pinMod p g).pin p = g (b.pin p) := unitOf_cons_self ..
theorem pinMod_pin_ne (b : Block) {p u : Nat} (h : u ≠ p) (g : PortPins → PortPins) : (b.pinMod p g).pin u = b.pin u := unitOf_cons_ne _ _ _ h
@[simp] theorem grMod_gr_self (b : Block) (n : Nat) (g : GrpDyn → GrpDyn) : (b.grMod n g).gr n = g (b.gr n) := unitOf_cons_self ..
theorem grMod_gr_ne (b : Block) {n u : Nat} (h : u ≠ n) (g : GrpDyn → GrpDyn) : (b.grMod n g).gr u = b.gr u := unitOf_cons_ne _ _ _ h
@[simp] theorem slMod_sl_self (b : Block) (p : Nat) (g : SlotDyn → SlotDyn) : (b.slMod p g).sl p = g (b.sl p) := unitOf_cons_self ..
theorem slMod_sl_ne (b : Block) {p u : Nat} (h : u ≠ p) (g : SlotDyn → SlotDyn) : (b.slMod p g).sl u = b.sl u := unitOf_cons_ne _ _ _ h

@[simp] theorem wr_rd_self (b : Block) (f : Fld) (i j v : Nat) : (b.wr f i j v).rd f i j = v % 2 ^ (Fld.attr f).width := by
  simp [rd, wr]
theorem wr_rd_ne (b : Block) {f f' : Fld} {i i' j j' : Nat} (h : key f' i' j' ≠ key f i j) (v : Nat) :
    (b.wr f i j v).rd f' i' j' = b.rd f' i' j' := by
  have : resetVal (b.wr f i j v) = resetVal b := rfl
  simp only [rd, this]
  simp [wr, lookupKey_cons_ne h]
/-- A write of a field read back at any field, unit and sub-index. -/
theorem wr_rd (b : Block) (f f' : Fld) (i i' j j' v : Nat) : (b.wr f i j v).rd f' i' j' =
    if f' = f ∧ i' = i ∧ j' = j then v % 2 ^ (Fld.attr f).width else b.rd f' i' j' := by
  split
  · next h => obtain ⟨rfl, rfl, rfl⟩ := h; simp
  · next h => exact wr_rd_ne b (by simpa [key] using h) v
@[simp] theorem wr_rd_fld (b : Block) {f f' : Fld} (h : f' ≠ f) (i i' j j' v : Nat) :
    (b.wr f i j v).rd f' i' j' = b.rd f' i' j' := wr_rd_ne b (by simp [key, h]) v
end Block

/-- Every meaning ends in a next state whose block is canonical and whose waiting commands are as before. -/
theorem on_eq (s : State) (g : Block → Block) : s.on g = .next { s with blk := (g s.blk).canon } := rfl

end Sys2Proof.Machine
end

