-- ==== Sys2Proof/Laws/Frame.lean ====
section
/-! SUPPORT. Frames by bit masks: `Fr m q a b` says that b reads as a does in every field outside the mask m and is a in every part
outside the mask q; how each update and each way of putting operations together keeps such a frame. -/
namespace Sys2Proof.Machine

/-- Block b agrees with a in every field whose bit in m is 0 and in every part whose bit in q is 0. -/
structure Fr (m q : Nat) (a b : Block) : Prop where
  reg : ∀ f i j, m.testBit (Fld.ctorIdx f) = false → b.rd f i j = a.rd f i j
  part : ∀ p, q.testBit (Part.ctorIdx p) = false → p.same a b

namespace Fr
variable {m q : Nat} {a b c : Block}

theorem refl (m q : Nat) (a : Block) : Fr m q a a := ⟨fun _ _ _ _ => rfl, fun p _ => by cases p <;> simp [Part.same]⟩

theorem trans (h : Fr m q a b) (k : Fr m q b c) : Fr m q a c :=
  ⟨fun f i j hm => (k.reg f i j hm).trans (h.reg f i j hm), fun p hp => by
    have h1 := h.part p hp
    have h2 := k.part p hp
    cases p <;> simp only [Part.same] at h1 h2 ⊢ <;> first | exact h2.trans h1 | exact fun u => (h2 u).trans (h1 u)⟩

theorem bit_sub {m' m : Nat} (h : m' &&& m = m') (i : Nat) (hi : m.testBit i = false) : m'.testBit i = false := by
  rw [← h, Nat.testBit_and, hi, Bool.and_false]

theorem mono {m' q' : Nat} (h : Fr m' q' a b) (hm : m' &&& m = m') (hq : q' &&& q = q') : Fr m q a b :=
  ⟨fun f i j k => h.reg f i j (bit_sub hm _ k), fun p k => h.part p (bit_sub hq _ k)⟩

/-- One more operation with a frame of its own. -/
theorem step {m' q' : Nat} (k : Fr m' q' b c) (hm : m' &&& m = m') (hq : q' &&& q = q') (h : Fr m q a b) : Fr m q a c :=
  h.trans (k.mono hm hq)

theorem wr {f : Fld} {i j v : Nat} (hf : m.testBit (Fld.ctorIdx f) = true) (h : Fr m q a b) : Fr m q a (b.wr f i j v) :=
  ⟨fun f' i' j' k => (Block.wr_rd_fld b (by rintro rfl; rw [hf] at k; cases k) ..).trans (h.reg f' i' j' k),
    fun p hp => by have := h.part p hp; cases p <;> exact this⟩
theorem incSat {f : Fld} {i j : Nat} (hf : m.testBit (Fld.ctorIdx f) = true) (h : Fr m q a b) : Fr m q a (b.incSat f i j) := wr hf h
theorem setBits {f : Fld} {i j v : Nat} (hf : m.testBit (Fld.ctorIdx f) = true) (h : Fr m q a b) : Fr m q a (b.setBits f i j v) := wr hf h
theorem clrBits {f : Fld} {i j v : Nat} (hf : m.testBit (Fld.ctorIdx f) = true) (h : Fr m q a b) : Fr m q a (b.clrBits f i j v) := wr hf h

/-- An update of parts alone. -/
theorem upd {time' freeCtr' nextId' xlb' tth' links' fns' queues' pins' groups' slots' pow' loom' stums' fuses' jobs' ats' buckets' parked' gated' lameSh' moves' boot' grm' halt' tap' refs' out' shutRot' wire' loomBack' xings'}
    (hp : (q.testBit 0 = true ∨ time' = b.time) ∧ (q.testBit 1 = true ∨ freeCtr' = b.freeCtr) ∧ (q.testBit 2 = true ∨ nextId' = b.nextId) ∧ (q.testBit 6 = true ∨ xlb' = b.xlb) ∧ (q.testBit 7 = true ∨ tth' = b.tth) ∧ (q.testBit 8 = true ∨ links' = b.links) ∧ (q.testBit 9 = true ∨ fns' = b.fns) ∧ (q.testBit 10 = true ∨ queues' = b.queues) ∧ (q.testBit 11 = true ∨ pins' = b.pins) ∧ (q.testBit 12 = true ∨ groups' = b.groups) ∧ (q.testBit 13 = true ∨ slots' = b.slots) ∧ (q.testBit 14 = true ∨ pow' = b.pow) ∧ (q.testBit 15 = true ∨ loom' = b.loom) ∧ (q.testBit 16 = true ∨ stums' = b.stums) ∧ (q.testBit 17 = true ∨ fuses' = b.fuses) ∧ (q.testBit 18 = true ∨ jobs' = b.jobs) ∧ (q.testBit 19 = true ∨ ats' = b.ats) ∧ (q.testBit 20 = true ∨ buckets' = b.buckets) ∧ (q.testBit 21 = true ∨ parked' = b.parked) ∧ (q.testBit 22 = true ∨ gated' = b.gated) ∧ (q.testBit 23 = true ∨ lameSh' = b.lameSh) ∧ (q.testBit 24 = true ∨ moves' = b.moves) ∧ (q.testBit 25 = true ∨ boot' = b.boot) ∧ (q.testBit 26 = true ∨ grm' = b.grm) ∧ (q.testBit 27 = true ∨ halt' = b.halt) ∧ (q.testBit 28 = true ∨ tap' = b.tap) ∧ (q.testBit 29 = true ∨ refs' = b.refs) ∧ (q.testBit 30 = true ∨ out' = b.out) ∧ (q.testBit 31 = true ∨ shutRot' = b.shutRot) ∧ (q.testBit 32 = true ∨ wire' = b.wire) ∧ (q.testBit 33 = true ∨ loomBack' = b.loomBack) ∧ (q.testBit 34 = true ∨ xings' = b.xings))
    (h : Fr m q a b) : Fr m q a (Block.mk b.regs time' freeCtr' nextId' b.straps b.img b.sg xlb' tth' links' fns' queues' pins' groups' slots' pow' loom' stums' fuses' jobs' ats' buckets' parked' gated' lameSh' moves' shutRot' boot' grm' halt' tap' refs' out' wire' loomBack' xings') := by
  refine h.trans ⟨fun _ _ _ _ => rfl, fun p k => ?_⟩
  obtain ⟨htime, hfreeCtr, hnextId, hxlb, htth, hlinks, hfns, hqueues, hpins, hgroups, hslots, hpow, hloom, hstums, hfuses, hjobs, hats, hbuckets, hparked, hgated, hlameSh, hmoves, hboot, hgrm, hhalt, htap, hrefs, hout, hshutRot, hwire, hloomBack, hxings⟩ := hp
  cases p
  · rcases htime with e | e
    · exact absurd e (by rw [show q.testBit 0 = false from k]; decide)
    · subst e; exact rfl
  · rcases hfreeCtr with e | e
    · exact absurd e (by rw [show q.testBit 1 = false from k]; decide)
    · subst e; exact rfl
  · rcases hnextId with e | e
    · exact absurd e (by rw [show q.testBit 2 = false from k]; decide)
    · subst e; exact rfl
  · exact rfl
  · exact rfl
  · exact rfl
  · rcases hxlb with e | e
    · exact absurd e (by rw [show q.testBit 6 = false from k]; decide)
    · subst e; exact fun _ => rfl
  · rcases htth with e | e
    · exact absurd e (by rw [show q.testBit 7 = false from k]; decide)
    · subst e; exact fun _ => rfl
  · rcases hlinks with e | e
    · exact absurd e (by rw [show q.testBit 8 = false from k]; decide)
    · subst e; exact fun _ => rfl
  · rcases hfns with e | e
    · exact absurd e (by rw [show q.testBit 9 = false from k]; decide)
    · subst e; exact fun _ => rfl
  · rcases hqueues with e | e
    · exact absurd e (by rw [show q.testBit 10 = false from k]; decide)
    · subst e; exact fun _ => rfl
  · rcases hpins with e | e
    · exact absurd e (by rw [show q.testBit 11 = false from k]; decide)
    · subst e; exact fun _ => rfl
  · rcases hgroups with e | e
    · exact absurd e (by rw [show q.testBit 12 = false from k]; decide)
    · subst e; exact fun _ => rfl
  · rcases hslots with e | e
    · exact absurd e (by rw [show q.testBit 13 = false from k]; decide)
    · subst e; exact fun _ => rfl
  · rcases hpow with e | e
    · exact absurd e (by rw [show q.testBit 14 = false from k]; decide)
    · subst e; exact rfl
  · rcases hloom with e | e
    · exact absurd e (by rw [show q.testBit 15 = false from k]; decide)
    · subst e; exact rfl
  · rcases hstums with e | e
    · exact absurd e (by rw [show q.testBit 16 = false from k]; decide)
    · subst e; exact rfl
  · rcases hfuses with e | e
    · exact absurd e (by rw [show q.testBit 17 = false from k]; decide)
    · subst e; exact rfl
  · rcases hjobs with e | e
    · exact absurd e (by rw [show q.testBit 18 = false from k]; decide)
    · subst e; exact rfl
  · rcases hats with e | e
    · exact absurd e (by rw [show q.testBit 19 = false from k]; decide)
    · subst e; exact rfl
  · rcases hbuckets with e | e
    · exact absurd e (by rw [show q.testBit 20 = false from k]; decide)
    · subst e; exact rfl
  · rcases hparked with e | e
    · exact absurd e (by rw [show q.testBit 21 = false from k]; decide)
    · subst e; exact rfl
  · rcases hgated with e | e
    · exact absurd e (by rw [show q.testBit 22 = false from k]; decide)
    · subst e; exact rfl
  · rcases hlameSh with e | e
    · exact absurd e (by rw [show q.testBit 23 = false from k]; decide)
    · subst e; exact rfl
  · rcases hmoves with e | e
    · exact absurd e (by rw [show q.testBit 24 = false from k]; decide)
    · subst e; exact rfl
  · rcases hboot with e | e
    · exact absurd e (by rw [show q.testBit 25 = false from k]; decide)
    · subst e; exact rfl
  · rcases hgrm with e | e
    · exact absurd e (by rw [show q.testBit 26 = false from k]; decide)
    · subst e; exact rfl
  · rcases hhalt with e | e
    · exact absurd e (by rw [show q.testBit 27 = false from k]; decide)
    · subst e; exact rfl
  · rcases htap with e | e
    · exact absurd e (by rw [show q.testBit 28 = false from k]; decide)
    · subst e; exact rfl
  · rcases hrefs with e | e
    · exact absurd e (by rw [show q.testBit 29 = false from k]; decide)
    · subst e; exact rfl
  · rcases hout with e | e
    · exact absurd e (by rw [show q.testBit 30 = false from k]; decide)
    · subst e; exact rfl
  · rcases hshutRot with e | e
    · exact absurd e (by rw [show q.testBit 31 = false from k]; decide)
    · subst e; exact rfl
  · rcases hwire with e | e
    · exact absurd e (by rw [show q.testBit 32 = false from k]; decide)
    · subst e; exact rfl
  · rcases hloomBack with e | e
    · exact absurd e (by rw [show q.testBit 33 = false from k]; decide)
    · subst e; exact rfl
  · rcases hxings with e | e
    · exact absurd e (by rw [show q.testBit 34 = false from k]; decide)
    · subst e; exact rfl

theorem xMod {u : Nat} {g : XlbDyn → XlbDyn} (hq : q.testBit 6 = true) (h : Fr m q a b) : Fr m q a (b.xMod u g) :=
  h.trans ⟨fun _ _ _ _ => rfl, fun p hp => by cases p <;> first | exact fun _ => rfl | exact rfl | (change q.testBit 6 = false at hp; rw [hq] at hp; cases hp)⟩
theorem ttMod {u : Nat} {g : TthDyn → TthDyn} (hq : q.testBit 7 = true) (h : Fr m q a b) : Fr m q a (b.ttMod u g) :=
  h.trans ⟨fun _ _ _ _ => rfl, fun p hp => by cases p <;> first | exact fun _ => rfl | exact rfl | (change q.testBit 7 = false at hp; rw [hq] at hp; cases hp)⟩
theorem lkMod {u : Nat} {g : LinkDyn → LinkDyn} (hq : q.testBit 8 = true) (h : Fr m q a b) : Fr m q a (b.lkMod u g) :=
  h.trans ⟨fun _ _ _ _ => rfl, fun p hp => by cases p <;> first | exact fun _ => rfl | exact rfl | (change q.testBit 8 = false at hp; rw [hq] at hp; cases hp)⟩
theorem fnMod {u : Nat} {g : FnDyn → FnDyn} (hq : q.testBit 9 = true) (h : Fr m q a b) : Fr m q a (b.fnMod u g) :=
  h.trans ⟨fun _ _ _ _ => rfl, fun p hp => by cases p <;> first | exact fun _ => rfl | exact rfl | (change q.testBit 9 = false at hp; rw [hq] at hp; cases hp)⟩
theorem quMod {u : Nat} {g : QDyn → QDyn} (hq : q.testBit 10 = true) (h : Fr m q a b) : Fr m q a (b.quMod u g) :=
  h.trans ⟨fun _ _ _ _ => rfl, fun p hp => by cases p <;> first | exact fun _ => rfl | exact rfl | (change q.testBit 10 = false at hp; rw [hq] at hp; cases hp)⟩
theorem pinMod {u : Nat} {g : PortPins → PortPins} (hq : q.testBit 11 = true) (h : Fr m q a b) : Fr m q a (b.pinMod u g) :=
  h.trans ⟨fun _ _ _ _ => rfl, fun p hp => by cases p <;> first | exact fun _ => rfl | exact rfl | (change q.testBit 11 = false at hp; rw [hq] at hp; cases hp)⟩
theorem grMod {u : Nat} {g : GrpDyn → GrpDyn} (hq : q.testBit 12 = true) (h : Fr m q a b) : Fr m q a (b.grMod u g) :=
  h.trans ⟨fun _ _ _ _ => rfl, fun p hp => by cases p <;> first | exact fun _ => rfl | exact rfl | (change q.testBit 12 = false at hp; rw [hq] at hp; cases hp)⟩
theorem slMod {u : Nat} {g : SlotDyn → SlotDyn} (hq : q.testBit 13 = true) (h : Fr m q a b) : Fr m q a (b.slMod u g) :=
  h.trans ⟨fun _ _ _ _ => rfl, fun p hp => by cases p <;> first | exact fun _ => rfl | exact rfl | (change q.testBit 13 = false at hp; rw [hq] at hp; cases hp)⟩
theorem emit {o : Out} (hq : q.testBit 30 = true) (h : Fr m q a b) : Fr m q a (b.emit o) :=
  h.trans ⟨fun _ _ _ _ => rfl, fun p hp => by cases p <;> first | exact fun _ => rfl | exact rfl | (change q.testBit 30 = false at hp; rw [hq] at hp; cases hp)⟩
theorem useFree (hq : q.testBit 1 = true) (h : Fr m q a b) : Fr m q a b.useFree :=
  h.trans ⟨fun _ _ _ _ => rfl, fun p hp => by cases p <;> first | exact fun _ => rfl | exact rfl | (change q.testBit 1 = false at hp; rw [hq] at hp; cases hp)⟩
theorem newId (hq : q.testBit 2 = true) (h : Fr m q a b) : Fr m q a b.newId :=
  h.trans ⟨fun _ _ _ _ => rfl, fun p hp => by cases p <;> first | exact fun _ => rfl | exact rfl | (change q.testBit 2 = false at hp; rw [hq] at hp; cases hp)⟩

theorem each {α : Type} {l : List α} {g : Block → α → Block} (hg : ∀ b x, Fr m q a b → Fr m q a (g b x)) (h : Fr m q a b) :
    Fr m q a (b.each l g) := by
  unfold Block.each
  induction l generalizing b with
  | nil => exact h
  | cons x t ih => exact ih (hg b x h)

theorem eachMem {α : Type} {l : List α} {g : Block → α → Block} (hg : ∀ b x, x ∈ l → Fr m q a b → Fr m q a (g b x))
    (h : Fr m q a b) : Fr m q a (b.each l g) := by
  unfold Block.each
  induction l generalizing b with
  | nil => exact h
  | cons x t ih => exact ih (fun b y hy => hg b y (List.mem_cons_of_mem _ hy)) (hg b x List.mem_cons_self h)

theorem ite {P : Prop} [Decidable P] {x y : Block} (hx : Fr m q a x) (hy : Fr m q a y) : Fr m q a (if P then x else y) := by
  split <;> assumption

theorem canon (h : Fr m q a b) : Fr m q a b.canon :=
  h.trans ⟨fun f i j _ => Block.canon_rd b f i j, fun p _ => by cases p <;> simp [Part.same]⟩

/-- Stored values that meet a condition are dropped. -/
theorem unset {p : RKey → Bool} (hp : ∀ k, p k = true → m.testBit (Fld.ctorIdx k.fld) = true) (h : Fr m q a b) :
    Fr m q a { b with regs := b.regs.filter (fun e => !(p e.1)) } := by
  refine h.trans ⟨fun f i j hm => ?_, fun p _ => by cases p <;> simp [Part.same] <;> intro <;> rfl⟩
  have hk : p (key f i j) = false := by
    cases hh : p (key f i j) with
    | false => rfl
    | true => have := hp _ hh; simp only [key] at this; rw [hm] at this; cases this
  have hl : ∀ l : List (RKey × Nat), lookupKey (key f i j) (l.filter (fun e => !(p e.1))) = lookupKey (key f i j) l := by
    intro l
    induction l with
    | nil => rfl
    | cons e t ih =>
      obtain ⟨k, v⟩ := e
      by_cases hke : key f i j = k
      · subst hke; simp [hk]
      · rw [lookupKey_cons_ne hke]
        by_cases hpk : p k = true
        · simpa [hpk] using ih
        · simp only [List.filter_cons, hpk]
          simp only [Bool.not_false, if_true, lookupKey_cons_ne hke]
          exact ih
  simp only [Block.rd, hl]
  rfl

/-- Every field is in the mask of all fields. -/
theorem fullBit (f : Fld) : Nat.testBit 0xffffffffffffffffffffffffffffffffffffffffffffffffffffffffffffffffffffffffffffffffffffffffffffffffffffffffffffffffffffffffffffffff (Fld.ctorIdx f) = true := by cases f <;> rfl

end Fr
/-! Masks of kinds of fields -/

/-- Counters that a read clears. -/
theorem Fld.rcBit (f : Fld) (h : f.attr.acc = .rc) : Nat.testBit 0x70780400000000000780000000000d27e40000000bf00000000000c0000000060000000000f00000000000f0000 (Fld.ctorIdx f) = true := by
  cases f <;> first | rfl | (revert h; decide)
/-- Fields that a write can change. -/
theorem Fld.rwBit (f : Fld) (h : f.attr.acc = .rw ∨ f.attr.acc = .w1c) : Nat.testBit 0x7fffbfffffdffffdb9ff8807800002000f8c00300087fe000098000007cfc00000003ff5812000000d78008003fefc0bc0008000000003f (Fld.ctorIdx f) = true := by
  cases f <;> first | rfl | (revert h; decide)
/-- Fields that a function reset restores. -/
theorem Fld.fnBit (f : Fld) (h : (f.attr.unit = .fn ∨ f.attr.unit = .queue) ∧ f.attr.lvl = .function) : Nat.testBit 0xbf83ff80f71eff3ffff9ff8000000000000f8000000000000000000000000000000000000db7fff7f3fff8000003fefcffc00180000000000 (Fld.ctorIdx f) = true := by
  cases f <;> first | rfl | (revert h; decide)
/-- Fields that a queue reset restores. -/
theorem Fld.qBit (f : Fld) (h : f.attr.unit = .queue ∧ f.attr.lvl = .queue) : Nat.testBit 0x40000000000000000000000000000000000000000000000000000000000000000000000000000000000007ff9ffc000000000000000000000 (Fld.ctorIdx f) = true := by
  cases f <;> first | rfl | (revert h; decide)
/-- Fields that a link reset restores. -/
theorem Fld.linkBit (f : Fld) (h : f.attr.lvl = .link) : Nat.testBit 0x7c000008e100000000000000000000000000000000000000000000000000140fdfe00000000000000000000000000000000000000000000 (Fld.ctorIdx f) = true := by
  cases f <;> first | rfl | (revert h; decide)
/-- Sticky fields of a function. -/
theorem Fld.stickyBit (f : Fld) (h : f.attr.unit = .fn ∧ f.attr.lvl = .stallGroup) : Nat.testBit 0x7f0000000000000000000000000000000000000001ffe1c000000000000000000000000000000000000000000000000000000000000 (Fld.ctorIdx f) = true := by
  cases f <;> first | rfl | (revert h; decide)
/-- Fields of a stall group that its reset restores. -/
theorem Fld.groupBit (f : Fld) (h : f.attr.lvl = .stallGroup ∧ f.attr.unit ≠ .fn ∧ f ≠ .gstPerst ∧ f ≠ .gstRefclkOk ∧ f ≠ .gstClkreq) : Nat.testBit 0x2000200e0000000000000000000000000000000000000000000 (Fld.ctorIdx f) = true := by
  cases f <;> first | rfl | (revert h; decide)
/-- Fields that a tether reset restores. -/
theorem Fld.tetherBit (f : Fld) (h : f.attr.lvl = .tether) : Nat.testBit 0x600000000000000000000000000000000001bfff83000000000000240000800000000000000000000003f80000f7c0 (Fld.ctorIdx f) = true := by
  cases f <;> first | rfl | (revert h; decide)
/-- Masks within masks. -/
theorem Fr.sub_trans {m1 m2 m3 : Nat} (h : m1 &&& m2 = m1) (k : m2 &&& m3 = m2) : m1 &&& m3 = m1 := by
  rw [← h, Nat.and_assoc, k]

/-- A bit of a smaller mask is one of a larger. -/
theorem Fr.sub_bit {m m' i : Nat} (h : m'.testBit i = true) (hs : m' &&& m = m') : m.testBit i = true := by
  rw [← hs, Nat.testBit_and, Bool.and_eq_true] at h
  exact h.2
/-- An update of parts, the image among them, where every field may change. -/
theorem Fr.updAll {m q : Nat} {a b : Block} {time' freeCtr' nextId' straps' img' sg' xlb' tth' links' fns' queues' pins' groups' slots' pow' loom' stums' fuses' jobs' ats' buckets' parked' gated' lameSh' moves' boot' grm' halt' tap' refs' out' shutRot' wire' loomBack' xings'} (hf : 0xffffffffffffffffffffffffffffffffffffffffffffffffffffffffffffffffffffffffffffffffffffffffffffffffffffffffffffffffffffffffffffffff &&& m = 0xffffffffffffffffffffffffffffffffffffffffffffffffffffffffffffffffffffffffffffffffffffffffffffffffffffffffffffffffffffffffffffffff)
    (hp : (q.testBit 0 = true ∨ time' = b.time) ∧ (q.testBit 1 = true ∨ freeCtr' = b.freeCtr) ∧ (q.testBit 2 = true ∨ nextId' = b.nextId) ∧ (q.testBit 3 = true ∨ straps' = b.straps) ∧ (q.testBit 4 = true ∨ img' = b.img) ∧ (q.testBit 5 = true ∨ sg' = b.sg) ∧ (q.testBit 6 = true ∨ xlb' = b.xlb) ∧ (q.testBit 7 = true ∨ tth' = b.tth) ∧ (q.testBit 8 = true ∨ links' = b.links) ∧ (q.testBit 9 = true ∨ fns' = b.fns) ∧ (q.testBit 10 = true ∨ queues' = b.queues) ∧ (q.testBit 11 = true ∨ pins' = b.pins) ∧ (q.testBit 12 = true ∨ groups' = b.groups) ∧ (q.testBit 13 = true ∨ slots' = b.slots) ∧ (q.testBit 14 = true ∨ pow' = b.pow) ∧ (q.testBit 15 = true ∨ loom' = b.loom) ∧ (q.testBit 16 = true ∨ stums' = b.stums) ∧ (q.testBit 17 = true ∨ fuses' = b.fuses) ∧ (q.testBit 18 = true ∨ jobs' = b.jobs) ∧ (q.testBit 19 = true ∨ ats' = b.ats) ∧ (q.testBit 20 = true ∨ buckets' = b.buckets) ∧ (q.testBit 21 = true ∨ parked' = b.parked) ∧ (q.testBit 22 = true ∨ gated' = b.gated) ∧ (q.testBit 23 = true ∨ lameSh' = b.lameSh) ∧ (q.testBit 24 = true ∨ moves' = b.moves) ∧ (q.testBit 25 = true ∨ boot' = b.boot) ∧ (q.testBit 26 = true ∨ grm' = b.grm) ∧ (q.testBit 27 = true ∨ halt' = b.halt) ∧ (q.testBit 28 = true ∨ tap' = b.tap) ∧ (q.testBit 29 = true ∨ refs' = b.refs) ∧ (q.testBit 30 = true ∨ out' = b.out) ∧ (q.testBit 31 = true ∨ shutRot' = b.shutRot) ∧ (q.testBit 32 = true ∨ wire' = b.wire) ∧ (q.testBit 33 = true ∨ loomBack' = b.loomBack) ∧ (q.testBit 34 = true ∨ xings' = b.xings))
    (h : Fr m q a b) : Fr m q a (Block.mk b.regs time' freeCtr' nextId' straps' img' sg' xlb' tth' links' fns' queues' pins' groups' slots' pow' loom' stums' fuses' jobs' ats' buckets' parked' gated' lameSh' moves' shutRot' boot' grm' halt' tap' refs' out' wire' loomBack' xings') := by
  refine h.trans ⟨fun f _ _ hm => ?_, fun p k => ?_⟩
  · have := Fr.bit_sub hf _ hm
    rw [Fr.fullBit] at this
    cases this
  obtain ⟨htime, hfreeCtr, hnextId, hstraps, himg, hsg, hxlb, htth, hlinks, hfns, hqueues, hpins, hgroups, hslots, hpow, hloom, hstums, hfuses, hjobs, hats, hbuckets, hparked, hgated, hlameSh, hmoves, hboot, hgrm, hhalt, htap, hrefs, hout, hshutRot, hwire, hloomBack, hxings⟩ := hp
  cases p
  · rcases htime with e | e
    · exact absurd e (by rw [show q.testBit 0 = false from k]; decide)
    · subst e; exact rfl
  · rcases hfreeCtr with e | e
    · exact absurd e (by rw [show q.testBit 1 = false from k]; decide)
    · subst e; exact rfl
  · rcases hnextId with e | e
    · exact absurd e (by rw [show q.testBit 2 = false from k]; decide)
    · subst e; exact rfl
  · rcases hstraps with e | e
    · exact absurd e (by rw [show q.testBit 3 = false from k]; decide)
    · subst e; exact rfl
  · rcases himg with e | e
    · exact absurd e (by rw [show q.testBit 4 = false from k]; decide)
    · subst e; exact rfl
  · rcases hsg with e | e
    · exact absurd e (by rw [show q.testBit 5 = false from k]; decide)
    · subst e; exact rfl
  · rcases hxlb with e | e
    · exact absurd e (by rw [show q.testBit 6 = false from k]; decide)
    · subst e; exact fun _ => rfl
  · rcases htth with e | e
    · exact absurd e (by rw [show q.testBit 7 = false from k]; decide)
    · subst e; exact fun _ => rfl
  · rcases hlinks with e | e
    · exact absurd e (by rw [show q.testBit 8 = false from k]; decide)
    · subst e; exact fun _ => rfl
  · rcases hfns with e | e
    · exact absurd e (by rw [show q.testBit 9 = false from k]; decide)
    · subst e; exact fun _ => rfl
  · rcases hqueues with e | e
    · exact absurd e (by rw [show q.testBit 10 = false from k]; decide)
    · subst e; exact fun _ => rfl
  · rcases hpins with e | e
    · exact absurd e (by rw [show q.testBit 11 = false from k]; decide)
    · subst e; exact fun _ => rfl
  · rcases hgroups with e | e
    · exact absurd e (by rw [show q.testBit 12 = false from k]; decide)
    · subst e; exact fun _ => rfl
  · rcases hslots with e | e
    · exact absurd e (by rw [show q.testBit 13 = false from k]; decide)
    · subst e; exact fun _ => rfl
  · rcases hpow with e | e
    · exact absurd e (by rw [show q.testBit 14 = false from k]; decide)
    · subst e; exact rfl
  · rcases hloom with e | e
    · exact absurd e (by rw [show q.testBit 15 = false from k]; decide)
    · subst e; exact rfl
  · rcases hstums with e | e
    · exact absurd e (by rw [show q.testBit 16 = false from k]; decide)
    · subst e; exact rfl
  · rcases hfuses with e | e
    · exact absurd e (by rw [show q.testBit 17 = false from k]; decide)
    · subst e; exact rfl
  · rcases hjobs with e | e
    · exact absurd e (by rw [show q.testBit 18 = false from k]; decide)
    · subst e; exact rfl
  · rcases hats with e | e
    · exact absurd e (by rw [show q.testBit 19 = false from k]; decide)
    · subst e; exact rfl
  · rcases hbuckets with e | e
    · exact absurd e (by rw [show q.testBit 20 = false from k]; decide)
    · subst e; exact rfl
  · rcases hparked with e | e
    · exact absurd e (by rw [show q.testBit 21 = false from k]; decide)
    · subst e; exact rfl
  · rcases hgated with e | e
    · exact absurd e (by rw [show q.testBit 22 = false from k]; decide)
    · subst e; exact rfl
  · rcases hlameSh with e | e
    · exact absurd e (by rw [show q.testBit 23 = false from k]; decide)
    · subst e; exact rfl
  · rcases hmoves with e | e
    · exact absurd e (by rw [show q.testBit 24 = false from k]; decide)
    · subst e; exact rfl
  · rcases hboot with e | e
    · exact absurd e (by rw [show q.testBit 25 = false from k]; decide)
    · subst e; exact rfl
  · rcases hgrm with e | e
    · exact absurd e (by rw [show q.testBit 26 = false from k]; decide)
    · subst e; exact rfl
  · rcases hhalt with e | e
    · exact absurd e (by rw [show q.testBit 27 = false from k]; decide)
    · subst e; exact rfl
  · rcases htap with e | e
    · exact absurd e (by rw [show q.testBit 28 = false from k]; decide)
    · subst e; exact rfl
  · rcases hrefs with e | e
    · exact absurd e (by rw [show q.testBit 29 = false from k]; decide)
    · subst e; exact rfl
  · rcases hout with e | e
    · exact absurd e (by rw [show q.testBit 30 = false from k]; decide)
    · subst e; exact rfl
  · rcases hshutRot with e | e
    · exact absurd e (by rw [show q.testBit 31 = false from k]; decide)
    · subst e; exact rfl
  · rcases hwire with e | e
    · exact absurd e (by rw [show q.testBit 32 = false from k]; decide)
    · subst e; exact rfl
  · rcases hloomBack with e | e
    · exact absurd e (by rw [show q.testBit 33 = false from k]; decide)
    · subst e; exact rfl
  · rcases hxings with e | e
    · exact absurd e (by rw [show q.testBit 34 = false from k]; decide)
    · subst e; exact rfl




end Sys2Proof.Machine
end

