-- ==== Sys2Proof/Laws/FrOps.lean ====
section
/-! SUPPORT. The frame of every operation of Machine/Ops.lean: the fields and the parts it may change, by bit masks. -/
set_option linter.unusedTactic false
set_option linter.unreachableTactic false
set_option linter.unusedSimpArgs false
set_option linter.unusedVariables false
namespace Sys2Proof.Machine

/-- Frame of `takeBytes`. -/
theorem Block.takeBytes_fr {fm fq : Nat} {fa : Block} (b : Block) (n : Nat) (l : List Byte) (hm : 0x0 &&& fm = 0x0) (hq : 0x2 &&& fq = 0x2)
    (h0 : Fr fm fq fa b) : Fr fm fq fa (b.takeBytes n l).2 := by
  refine Fr.step ?_ hm hq h0
  unfold Block.takeBytes
  split
  · exact Fr.refl _ _ _
  · exact Fr.upd (by (repeat' apply And.intro) <;> first | exact Or.inl rfl | exact Or.inr rfl) (Fr.refl _ _ _)

/-- Frame of `cross`. -/
theorem Block.cross_fr {fm fq : Nat} {fa : Block} (b : Block) (i o : Option Nat) (cls bytes : Nat) (hm : 0x0 &&& fm = 0x0) (hq : 0x400000000 &&& fq = 0x400000000)
    (h0 : Fr fm fq fa b) : Fr fm fq fa (b.cross i o cls bytes) := by
  refine Fr.step ?_ hm hq h0
  clear h0 hq hm
  unfold Block.cross
  repeat' (first
    | (show _ = _; exact rfl)
    | with_reducible exact Fr.refl _ _ _
    | with_reducible assumption
    | refine Fr.upd (by (repeat' apply And.intro) <;> first | exact Or.inl rfl | exact Or.inr rfl) ?_)

/-- Frame of `secureJudge`. -/
theorem Block.secureJudge_fr {fm fq : Nat} {fa : Block} (b : Block) (l id : Nat) (hm : 0x0 &&& fm = 0x0) (hq : 0x100 &&& fq = 0x100)
    (h0 : Fr fm fq fa b) : Fr fm fq fa (b.secureJudge l id) := by
  refine Fr.step ?_ hm hq h0
  clear h0 hq hm
  unfold Block.secureJudge
  repeat' (first
    | (show _ = _; exact rfl)
    | with_reducible exact Fr.refl _ _ _
    | with_reducible assumption
    | with_reducible apply Fr.lkMod
    | dsimp only
    | refine Fr.upd (by (repeat' apply And.intro) <;> first | exact Or.inl rfl | exact Or.inr rfl) ?_)

/-- Frame of `sendCpl`. -/
theorem Block.sendCpl_fr {fm fq : Nat} {fa : Block} (b : Block) (l req : Nat) (st : CplSt) (data : List Byte) (ep : Bool) (s : Option Nat) (hm : 0x0 &&& fm = 0x0) (hq : 0x40000000 &&& fq = 0x40000000)
    (h0 : Fr fm fq fa b) : Fr fm fq fa (b.sendCpl l req st data ep s) := by
  refine Fr.step ?_ hm hq h0
  clear h0 hq hm
  unfold Block.sendCpl
  repeat' (first
    | (show _ = _; exact rfl)
    | with_reducible exact Fr.refl _ _ _
    | with_reducible assumption
    | with_reducible apply Fr.emit
    | with_reducible apply Fr.ite
    | split)

/-- Frame of `holdBack`. -/
theorem Block.holdBack_fr {fm fq : Nat} {fa : Block} (b : Block) (h : HeldAct) (hm : 0x0 &&& fm = 0x0) (hq : 0x4000 &&& fq = 0x4000)
    (h0 : Fr fm fq fa b) : Fr fm fq fa (b.holdBack h) := by
  refine Fr.step ?_ hm hq h0
  clear h0 hq hm
  unfold Block.holdBack
  repeat' (first
    | (show _ = _; exact rfl)
    | with_reducible exact Fr.refl _ _ _
    | with_reducible assumption
    | with_reducible apply Fr.ite
    | split
    | refine Fr.upd (by (repeat' apply And.intro) <;> first | exact Or.inl rfl | exact Or.inr rfl) ?_)

/-- Frame of `clkreqOn`. -/
theorem Block.clkreqOn_fr {fm fq : Nat} {fa : Block} (b : Block) (g : Nat) (hm : 0x10008000000000000000000000000000000000000000000 &&& fm = 0x10008000000000000000000000000000000000000000000) (hq : 0x0 &&& fq = 0x0)
    (h0 : Fr fm fq fa b) : Fr fm fq fa (b.clkreqOn g) := by
  refine Fr.step ?_ hm hq h0
  clear h0 hq hm
  unfold Block.clkreqOn
  repeat' (first
    | (show _ = _; exact rfl)
    | with_reducible exact Fr.refl _ _ _
    | with_reducible assumption
    | with_reducible apply Fr.wr
    | with_reducible apply Fr.each
    | with_reducible apply Fr.ite
    | (intro _ _ h)
    | split
    | dsimp only)

/-- Frame of `recovery`. -/
theorem Block.recovery_fr {fm fq : Nat} {fa : Block} (b : Block) (l : Nat) (hm : 0x4008000000000000000000000000000000000000000000000 &&& fm = 0x4008000000000000000000000000000000000000000000000) (hq : 0x100 &&& fq = 0x100)
    (h0 : Fr fm fq fa b) : Fr fm fq fa (b.recovery l) := by
  refine Fr.step ?_ hm hq h0
  clear h0 hq hm
  unfold Block.recovery
  repeat' (first
    | (show _ = _; exact rfl)
    | with_reducible exact Fr.refl _ _ _
    | with_reducible assumption
    | with_reducible apply Fr.wr
    | with_reducible apply Fr.incSat
    | with_reducible apply Fr.lkMod
    | dsimp only
    | refine Fr.upd (by (repeat' apply And.intro) <;> first | exact Or.inl rfl | exact Or.inr rfl) ?_)

/-- Frame of `l1Exit`. -/
theorem Block.l1Exit_fr {fm fq : Nat} {fa : Block} (b : Block) (l : Nat) (hm : 0x4018008000000000000000000000000000000000000000000 &&& fm = 0x4018008000000000000000000000000000000000000000000) (hq : 0x5100 &&& fq = 0x5100)
    (h0 : Fr fm fq fa b) : Fr fm fq fa (b.l1Exit l) := by
  refine Fr.step ?_ hm hq h0
  clear h0 hq hm
  unfold Block.l1Exit
  repeat' (first
    | (show _ = _; exact rfl)
    | with_reducible exact Fr.refl _ _ _
    | with_reducible assumption
    | with_reducible apply Fr.wr
    | with_reducible apply Fr.lkMod
    | with_reducible apply Fr.grMod
    | with_reducible apply Block.clkreqOn_fr
    | with_reducible apply Block.holdBack_fr
    | with_reducible apply Block.recovery_fr
    | with_reducible apply Fr.ite
    | split
    | dsimp only
    | refine Fr.upd (by (repeat' apply And.intro) <;> first | exact Or.inl rfl | exact Or.inr rfl) ?_)

/-- Frame of `postAt`. -/
theorem Block.postAt_fr {fm fq : Nat} {fa : Block} (b : Block) (l : Nat) (w : PWr) (hm : 0x4018008000000000000000000000000000000000000000000 &&& fm = 0x4018008000000000000000000000000000000000000000000) (hq : 0x40005100 &&& fq = 0x40005100)
    (h0 : Fr fm fq fa b) : Fr fm fq fa (b.postAt l w) := by
  refine Fr.step ?_ hm hq h0
  clear h0 hq hm
  unfold Block.postAt
  repeat' (first
    | (show _ = _; exact rfl)
    | with_reducible exact Fr.refl _ _ _
    | with_reducible assumption
    | with_reducible apply Fr.lkMod
    | with_reducible apply Fr.emit
    | with_reducible apply Block.l1Exit_fr
    | with_reducible apply Fr.ite
    | split
    | dsimp only
    | refine Fr.upd (by (repeat' apply And.intro) <;> first | exact Or.inl rfl | exact Or.inr rfl) ?_)

/-- Frame of `post`. -/
theorem Block.post_fr {fm fq : Nat} {fa : Block} (b : Block) (l : Nat) (w : PWr) (hm : 0x4018008000000000000000000000000000000000000000000 &&& fm = 0x4018008000000000000000000000000000000000000000000) (hq : 0x440005100 &&& fq = 0x440005100)
    (h0 : Fr fm fq fa b) : Fr fm fq fa (b.post l w) := by
  refine Fr.step ?_ hm hq h0
  clear h0 hq hm
  unfold Block.post
  repeat' (first
    | (show _ = _; exact rfl)
    | with_reducible exact Fr.refl _ _ _
    | with_reducible assumption
    | with_reducible apply Fr.lkMod
    | with_reducible apply Block.cross_fr
    | with_reducible apply Block.postAt_fr
    | with_reducible apply Fr.ite
    | split
    | dsimp only
    | refine Fr.upd (by (repeat' apply And.intro) <;> first | exact Or.inl rfl | exact Or.inr rfl) ?_)

/-- Frame of `pumpPosted`. -/
theorem Block.pumpPosted_fr {fm fq : Nat} {fa : Block} (b : Block) (l : Nat) (hm : 0x0 &&& fm = 0x0) (hq : 0x40000100 &&& fq = 0x40000100)
    (h0 : Fr fm fq fa b) : Fr fm fq fa (b.pumpPosted l) := by
  refine Fr.step ?_ hm hq h0
  clear h0 hq hm
  unfold Block.pumpPosted
  repeat' (first
    | (show _ = _; exact rfl)
    | with_reducible exact Fr.refl _ _ _
    | with_reducible assumption
    | with_reducible apply Fr.lkMod
    | with_reducible apply Fr.emit
    | with_reducible apply Fr.each
    | with_reducible apply Fr.ite
    | (intro _ _ h)
    | split
    | dsimp only
    | refine Fr.upd (by (repeat' apply And.intro) <;> first | exact Or.inl rfl | exact Or.inr rfl) ?_)

/-- Frame of `sendNp`. -/
theorem Block.sendNp_fr {fm fq : Nat} {fa : Block} (b : Block) (f id : Nat) (hm : 0x4018008000000000000000000000000000000000000000000 &&& fm = 0x4018008000000000000000000000000000000000000000000) (hq : 0x40005302 &&& fq = 0x40005302)
    (h0 : Fr fm fq fa b) : Fr fm fq fa (b.sendNp f id) := by
  refine Fr.step ?_ hm hq h0
  clear h0 hq hm
  unfold Block.sendNp
  repeat' (first
    | (show _ = _; exact rfl)
    | with_reducible exact Fr.refl _ _ _
    | with_reducible assumption
    | with_reducible apply Fr.fnMod
    | with_reducible apply Fr.emit
    | with_reducible apply Fr.useFree
    | with_reducible apply Block.l1Exit_fr
    | with_reducible apply Fr.ite
    | split
    | dsimp only
    | refine Fr.upd (by (repeat' apply And.intro) <;> first | exact Or.inl rfl | exact Or.inr rfl) ?_)

/-- Frame of `pumpNp`. -/
theorem Block.pumpNp_fr {fm fq : Nat} {fa : Block} (b : Block) (f : Nat) (hm : 0x4018008000000000000000000000000000000000000000000 &&& fm = 0x4018008000000000000000000000000000000000000000000) (hq : 0x40005302 &&& fq = 0x40005302)
    (h0 : Fr fm fq fa b) : Fr fm fq fa (b.pumpNp f) := by
  refine Fr.step ?_ hm hq h0
  clear h0 hq hm
  unfold Block.pumpNp
  repeat' (first
    | (show _ = _; exact rfl)
    | with_reducible exact Fr.refl _ _ _
    | with_reducible assumption
    | with_reducible apply Fr.each
    | with_reducible apply Block.sendNp_fr
    | (intro _ _ h)
    | dsimp only)

/-- Frame of `addNp`. -/
theorem Block.addNp_fr {fm fq : Nat} {fa : Block} (b : Block) (f : Nat) (own : HOwner) (addr len : Nat) (ent : Option Nat) (xl : Bool) (pasid : Option Nat) (ns : Bool) (ops : List Byte) (aop : Nat) (hm : 0x4018008000000000000000000000000000000000000000000 &&& fm = 0x4018008000000000000000000000000000000000000000000) (hq : 0x440005306 &&& fq = 0x440005306)
    (h0 : Fr fm fq fa b) : Fr fm fq fa (b.addNp f own addr len ent xl pasid ns ops aop) := by
  refine Fr.step ?_ hm hq h0
  clear h0 hq hm
  unfold Block.addNp
  repeat' (first
    | (show _ = _; exact rfl)
    | with_reducible exact Fr.refl _ _ _
    | with_reducible assumption
    | with_reducible apply Fr.fnMod
    | with_reducible apply Fr.newId
    | with_reducible apply Block.cross_fr
    | with_reducible apply Block.sendNp_fr
    | with_reducible apply Fr.ite
    | split
    | dsimp only
    | refine Fr.upd (by (repeat' apply And.intro) <;> first | exact Or.inl rfl | exact Or.inr rfl) ?_)

/-- Frame of `dropNp`. -/
theorem Block.dropNp_fr {fm fq : Nat} {fa : Block} (b : Block) (f : Nat) (p : HTag → Bool) (hm : 0x0 &&& fm = 0x0) (hq : 0x200 &&& fq = 0x200)
    (h0 : Fr fm fq fa b) : Fr fm fq fa (b.dropNp f p) := by
  refine Fr.step ?_ hm hq h0
  clear h0 hq hm
  unfold Block.dropNp
  repeat' (first
    | (show _ = _; exact rfl)
    | with_reducible exact Fr.refl _ _ _
    | with_reducible assumption
    | with_reducible apply Fr.fnMod
    | dsimp only
    | refine Fr.upd (by (repeat' apply And.intro) <;> first | exact Or.inl rfl | exact Or.inr rfl) ?_)

/-- Frame of `putWire`. -/
theorem Block.putWire_fr {fm fq : Nat} {fa : Block} (b : Block) (x : WireTx) (hm : 0x0 &&& fm = 0x0) (hq : 0x100000000 &&& fq = 0x100000000)
    (h0 : Fr fm fq fa b) : Fr fm fq fa (b.putWire x) := by
  refine Fr.step ?_ hm hq h0
  clear h0 hq hm
  unfold Block.putWire
  repeat' (first
    | (show _ = _; exact rfl)
    | with_reducible exact Fr.refl _ _ _
    | with_reducible assumption
    | refine Fr.upd (by (repeat' apply And.intro) <;> first | exact Or.inl rfl | exact Or.inr rfl) ?_)

/-- Frame of `putMark`. -/
theorem Block.putMark_fr {fm fq : Nat} {fa : Block} (b : Block) (p : Nat) (hm : 0x0 &&& fm = 0x0) (hq : 0x140000080 &&& fq = 0x140000080)
    (h0 : Fr fm fq fa b) : Fr fm fq fa (b.putMark p) := by
  refine Fr.step ?_ hm hq h0
  clear h0 hq hm
  unfold Block.putMark
  repeat' (first
    | (show _ = _; exact rfl)
    | with_reducible exact Fr.refl _ _ _
    | with_reducible assumption
    | with_reducible apply Fr.ttMod
    | with_reducible apply Fr.emit
    | with_reducible apply Fr.each
    | with_reducible apply Block.putWire_fr
    | (intro _ _ h)
    | dsimp only
    | refine Fr.upd (by (repeat' apply And.intro) <;> first | exact Or.inl rfl | exact Or.inr rfl) ?_)

/-- Frame of `putSkip`. -/
theorem Block.putSkip_fr {fm fq : Nat} {fa : Block} (b : Block) (p : Nat) (hm : 0x0 &&& fm = 0x0) (hq : 0x140000080 &&& fq = 0x140000080)
    (h0 : Fr fm fq fa b) : Fr fm fq fa (b.putSkip p) := by
  refine Fr.step ?_ hm hq h0
  clear h0 hq hm
  unfold Block.putSkip
  repeat' (first
    | (show _ = _; exact rfl)
    | with_reducible exact Fr.refl _ _ _
    | with_reducible assumption
    | with_reducible apply Fr.ttMod
    | with_reducible apply Fr.emit
    | with_reducible apply Block.putWire_fr
    | dsimp only
    | refine Fr.upd (by (repeat' apply And.intro) <;> first | exact Or.inl rfl | exact Or.inr rfl) ?_)

/-- Frame of `putFlit`. -/
theorem Block.putFlit_fr {fm fq : Nat} {fa : Block} (b : Block) (p ty : Nat) (area : List Byte) (hm : 0x0 &&& fm = 0x0) (hq : 0x140000080 &&& fq = 0x140000080)
    (h0 : Fr fm fq fa b) : Fr fm fq fa (b.putFlit p ty area) := by
  refine Fr.step ?_ hm hq h0
  clear h0 hq hm
  unfold Block.putFlit
  repeat' (first
    | (show _ = _; exact rfl)
    | with_reducible exact Fr.refl _ _ _
    | with_reducible assumption
    | with_reducible apply Fr.ttMod
    | with_reducible apply Block.putMark_fr
    | with_reducible apply Block.putSkip_fr
    | with_reducible apply Block.putWire_fr
    | with_reducible apply Fr.ite
    | split
    | dsimp only
    | refine Fr.upd (by (repeat' apply And.intro) <;> first | exact Or.inl rfl | exact Or.inr rfl) ?_)

/-- Frame of `putRepeats`. -/
theorem Block.putRepeats_fr {fm fq : Nat} {fa : Block} (b : Block) (p : Nat) (hm : 0x0 &&& fm = 0x0) (hq : 0x140000080 &&& fq = 0x140000080)
    (h0 : Fr fm fq fa b) : Fr fm fq fa (b.putRepeats p) := by
  refine Fr.step ?_ hm hq h0
  clear h0 hq hm
  unfold Block.putRepeats
  repeat' (first
    | (show _ = _; exact rfl)
    | with_reducible exact Fr.refl _ _ _
    | with_reducible assumption
    | with_reducible apply Block.putFlit_fr
    | with_reducible apply Fr.ite
    | split
    | dsimp only)

/-- Frame of `txFlit`. -/
theorem Block.txFlit_fr {fm fq : Nat} {fa : Block} (b : Block) (p ty : Nat) (area : List Byte) (hm : 0x0 &&& fm = 0x0) (hq : 0x140000080 &&& fq = 0x140000080)
    (h0 : Fr fm fq fa b) : Fr fm fq fa (b.txFlit p ty area) := by
  refine Fr.step ?_ hm hq h0
  clear h0 hq hm
  unfold Block.txFlit
  repeat' (first
    | (show _ = _; exact rfl)
    | with_reducible exact Fr.refl _ _ _
    | with_reducible assumption
    | with_reducible apply Block.putFlit_fr
    | with_reducible apply Block.putRepeats_fr)

/-- Frame of `txNews`. -/
theorem Block.txNews_fr {fm fq : Nat} {fa : Block} (b : Block) (p : Nat) (hm : 0x0 &&& fm = 0x0) (hq : 0x140000080 &&& fq = 0x140000080)
    (h0 : Fr fm fq fa b) : Fr fm fq fa (b.txNews p) := by
  refine Fr.step ?_ hm hq h0
  clear h0 hq hm
  unfold Block.txNews
  repeat' (first
    | (show _ = _; exact rfl)
    | with_reducible exact Fr.refl _ _ _
    | with_reducible assumption
    | with_reducible apply Block.txFlit_fr
    | with_reducible apply Fr.ite
    | split)

/-- Frame of `ttPump`. -/
theorem Block.ttPump_fr {fm fq : Nat} {fa : Block} (b : Block) (p : Nat) (k : Nat) (hm : 0x0 &&& fm = 0x0) (hq : 0x140000080 &&& fq = 0x140000080)
    (h0 : Fr fm fq fa b) : Fr fm fq fa (b.ttPump p k) := by
  refine Fr.step ?_ hm hq h0
  clear h0 hq hm
  induction k generalizing b with
  | zero => unfold Block.ttPump; exact Fr.refl _ _ _
  | succ k ih =>
  unfold Block.ttPump
  repeat' (first
    | (show _ = _; exact rfl)
    | with_reducible exact Fr.refl _ _ _
    | with_reducible assumption
    | with_reducible refine Fr.trans ?_ (ih _)
    | with_reducible apply Fr.ttMod
    | with_reducible apply Fr.emit
    | with_reducible apply Fr.each
    | with_reducible apply Block.txFlit_fr
    | with_reducible apply Fr.ite
    | (intro _ _ h)
    | split
    | dsimp only
    | refine Fr.upd (by (repeat' apply And.intro) <;> first | exact Or.inl rfl | exact Or.inr rfl) ?_)

/-- Frame of `wakeGo`. -/
theorem Block.wakeGo_fr {fm fq : Nat} {fa : Block} (b : Block) (p : Nat) (hm : 0x20000000000000000000000000000000000000000000000000000000 &&& fm = 0x20000000000000000000000000000000000000000000000000000000) (hq : 0x140000080 &&& fq = 0x140000080)
    (h0 : Fr fm fq fa b) : Fr fm fq fa (b.wakeGo p) := by
  refine Fr.step ?_ hm hq h0
  clear h0 hq hm
  unfold Block.wakeGo
  repeat' (first
    | (show _ = _; exact rfl)
    | with_reducible exact Fr.refl _ _ _
    | with_reducible assumption
    | with_reducible apply Fr.wr
    | with_reducible apply Fr.ttMod
    | with_reducible apply Fr.emit
    | with_reducible apply Block.putMark_fr
    | with_reducible apply Block.txFlit_fr
    | with_reducible apply Fr.ite
    | split
    | dsimp only
    | refine Fr.upd (by (repeat' apply And.intro) <;> first | exact Or.inl rfl | exact Or.inr rfl) ?_)

/-- Frame of `tthWake`. -/
theorem Block.tthWake_fr {fm fq : Nat} {fa : Block} (b : Block) (p : Nat) (hm : 0x20000000000000000000000000000000000000000000000000000000 &&& fm = 0x20000000000000000000000000000000000000000000000000000000) (hq : 0x140004080 &&& fq = 0x140004080)
    (h0 : Fr fm fq fa b) : Fr fm fq fa (b.tthWake p) := by
  refine Fr.step ?_ hm hq h0
  clear h0 hq hm
  unfold Block.tthWake
  repeat' (first
    | (show _ = _; exact rfl)
    | with_reducible exact Fr.refl _ _ _
    | with_reducible assumption
    | with_reducible apply Fr.ttMod
    | with_reducible apply Block.holdBack_fr
    | with_reducible apply Block.wakeGo_fr
    | with_reducible apply Fr.ite
    | split
    | dsimp only
    | refine Fr.upd (by (repeat' apply And.intro) <;> first | exact Or.inl rfl | exact Or.inr rfl) ?_)

/-- Frame of `xsend`. -/
theorem Block.xsend_fr {fm fq : Nat} {fa : Block} (b : Block) (p : Nat) (m : XMsg) (hm : 0x20000000000000000000000000000000000000000000000000000000 &&& fm = 0x20000000000000000000000000000000000000000000000000000000) (hq : 0x140004080 &&& fq = 0x140004080)
    (h0 : Fr fm fq fa b) : Fr fm fq fa (b.xsend p m) := by
  refine Fr.step ?_ hm hq h0
  clear h0 hq hm
  unfold Block.xsend
  repeat' (first
    | (show _ = _; exact rfl)
    | with_reducible exact Fr.refl _ _ _
    | with_reducible assumption
    | with_reducible apply Fr.ttMod
    | with_reducible apply Block.ttPump_fr
    | with_reducible apply Block.tthWake_fr
    | with_reducible apply Fr.ite
    | split
    | dsimp only
    | refine Fr.upd (by (repeat' apply And.intro) <;> first | exact Or.inl rfl | exact Or.inr rfl) ?_)

/-- Frame of `retReq`. -/
theorem Block.retReq_fr {fm fq : Nat} {fa : Block} (b : Block) (p n : Nat) (hm : 0x20000000000000000000000000000000000000000000000000000000 &&& fm = 0x20000000000000000000000000000000000000000000000000000000) (hq : 0x1400040c0 &&& fq = 0x1400040c0)
    (h0 : Fr fm fq fa b) : Fr fm fq fa (b.retReq p n) := by
  refine Fr.step ?_ hm hq h0
  clear h0 hq hm
  unfold Block.retReq
  repeat' (first
    | (show _ = _; exact rfl)
    | with_reducible exact Fr.refl _ _ _
    | with_reducible assumption
    | with_reducible apply Fr.xMod
    | with_reducible apply Block.xsend_fr
    | with_reducible apply Fr.ite
    | split
    | dsimp only
    | refine Fr.upd (by (repeat' apply And.intro) <;> first | exact Or.inl rfl | exact Or.inr rfl) ?_)

/-- Frame of `payReq`. -/
theorem Block.payReq_fr {fm fq : Nat} {fa : Block} (b : Block) (p : Nat) (hm : 0x20000000000000000000000000000000000000000000000000000000 &&& fm = 0x20000000000000000000000000000000000000000000000000000000) (hq : 0x1400040c0 &&& fq = 0x1400040c0)
    (h0 : Fr fm fq fa b) : Fr fm fq fa (b.payReq p) := by
  refine Fr.step ?_ hm hq h0
  clear h0 hq hm
  unfold Block.payReq
  repeat' (first
    | (show _ = _; exact rfl)
    | with_reducible exact Fr.refl _ _ _
    | with_reducible assumption
    | with_reducible apply Fr.xMod
    | with_reducible apply Block.xsend_fr
    | with_reducible apply Fr.ite
    | split
    | dsimp only
    | refine Fr.upd (by (repeat' apply And.intro) <;> first | exact Or.inl rfl | exact Or.inr rfl) ?_)

/-- Frame of `payAll`. -/
theorem Block.payAll_fr {fm fq : Nat} {fa : Block} (b : Block) (hm : 0x20000000000000000000000000000000000000000000000000000000 &&& fm = 0x20000000000000000000000000000000000000000000000000000000) (hq : 0x1400040c0 &&& fq = 0x1400040c0)
    (h0 : Fr fm fq fa b) : Fr fm fq fa (b.payAll) := by
  refine Fr.step ?_ hm hq h0
  clear h0 hq hm
  unfold Block.payAll
  repeat' (first
    | (show _ = _; exact rfl)
    | with_reducible exact Fr.refl _ _ _
    | with_reducible assumption
    | with_reducible apply Fr.each
    | with_reducible apply Block.payReq_fr
    | (intro _ _ h)
    | dsimp only)

end Sys2Proof.Machine
end

