-- ==== Sys2Proof/Laws/FrFlags.lean ====
section
/-! SUPPORT. The frame of every operation of Machine/Flags.lean: the fields and the parts it may change, by bit masks. -/
set_option linter.unusedTactic false
set_option linter.unreachableTactic false
set_option linter.unusedSimpArgs false
set_option linter.unusedVariables false
namespace Sys2Proof.Machine

/-- Frame of `pmeEvent`. -/
theorem Block.pmeEvent_fr {fm fq : Nat} {fa : Block} (b : Block) (f : Nat) (hm : 0x800000000000000000000000000000000000000000000000000000000000000000000000000000000000000000000000000 &&& fm = 0x800000000000000000000000000000000000000000000000000000000000000000000000000000000000000000000000000) (hq : 0x40001200 &&& fq = 0x40001200)
    (h0 : Fr fm fq fa b) : Fr fm fq fa (b.pmeEvent f) := by
  refine Fr.step ?_ hm hq h0
  clear h0 hq hm
  unfold Block.pmeEvent
  repeat' (first
    | (show _ = _; exact rfl)
    | with_reducible exact Fr.refl _ _ _
    | with_reducible assumption
    | with_reducible apply Fr.wr
    | with_reducible apply Fr.fnMod
    | with_reducible apply Fr.grMod
    | with_reducible apply Fr.emit
    | with_reducible apply Fr.ite
    | split
    | dsimp only
    | refine Fr.upd (by (repeat' apply And.intro) <;> first | exact Or.inl rfl | exact Or.inr rfl) ?_)

/-- Frame of `sample`. -/
theorem Block.sample_fr {fm fq : Nat} {fa : Block} (b : Block) (f s : Nat) (hm : 0x800000000000000000000000000000000000000000000000000000000000020000000000000000000000000000000000000 &&& fm = 0x800000000000000000000000000000000000000000000000000000000000020000000000000000000000000000000000000) (hq : 0x40001200 &&& fq = 0x40001200)
    (h0 : Fr fm fq fa b) : Fr fm fq fa (b.sample f s) := by
  refine Fr.step ?_ hm hq h0
  clear h0 hq hm
  unfold Block.sample
  repeat' (first
    | (show _ = _; exact rfl)
    | with_reducible exact Fr.refl _ _ _
    | with_reducible assumption
    | with_reducible apply Fr.wr
    | with_reducible apply Block.pmeEvent_fr
    | with_reducible apply Fr.ite
    | split
    | dsimp only)

/-- Frame of `sampleAll`. -/
theorem Block.sampleAll_fr {fm fq : Nat} {fa : Block} (b : Block) (f : Nat) (hm : 0x800000000000000000000000000000000000000000000000000000000000020000000000000000000000000000000000000 &&& fm = 0x800000000000000000000000000000000000000000000000000000000000020000000000000000000000000000000000000) (hq : 0x40001200 &&& fq = 0x40001200)
    (h0 : Fr fm fq fa b) : Fr fm fq fa (b.sampleAll f) := by
  refine Fr.step ?_ hm hq h0
  clear h0 hq hm
  unfold Block.sampleAll
  repeat' (first
    | (show _ = _; exact rfl)
    | with_reducible exact Fr.refl _ _ _
    | with_reducible assumption
    | with_reducible apply Fr.each
    | with_reducible apply Block.sample_fr
    | (intro _ _ h)
    | dsimp only)

/-- Frame of `raise`. -/
theorem Block.raise_fr {fm fq : Nat} {fa : Block} (b : Block) (f s : Nat) (hm : 0x800000000000000000000000000000000000000000000000000000000000060000000000000000000000000000000000000 &&& fm = 0x800000000000000000000000000000000000000000000000000000000000060000000000000000000000000000000000000) (hq : 0x40001200 &&& fq = 0x40001200)
    (h0 : Fr fm fq fa b) : Fr fm fq fa (b.raise f s) := by
  refine Fr.step ?_ hm hq h0
  clear h0 hq hm
  unfold Block.raise
  repeat' (first
    | (show _ = _; exact rfl)
    | with_reducible exact Fr.refl _ _ _
    | with_reducible assumption
    | with_reducible apply Fr.wr
    | with_reducible apply Block.sample_fr
    | with_reducible apply Fr.ite
    | split)

/-- Frame of `aerUnc`. -/
theorem Block.aerUnc_fr {fm fq : Nat} {fa : Block} (b : Block) (f e hdr : Nat) (hm : 0x41001000002000000000000000000000000000000000000000000000000000000000000000000000000000000000000000000000000 &&& fm = 0x41001000002000000000000000000000000000000000000000000000000000000000000000000000000000000000000000000000000) (hq : 0x40000000 &&& fq = 0x40000000)
    (h0 : Fr fm fq fa b) : Fr fm fq fa (b.aerUnc f e hdr) := by
  refine Fr.step ?_ hm hq h0
  clear h0 hq hm
  unfold Block.aerUnc
  repeat' (first
    | (show _ = _; exact rfl)
    | with_reducible exact Fr.refl _ _ _
    | with_reducible assumption
    | with_reducible apply Fr.wr
    | with_reducible apply Fr.setBits
    | with_reducible apply Fr.emit
    | with_reducible apply Fr.ite
    | split
    | dsimp only)

/-- Frame of `aerCor`. -/
theorem Block.aerCor_fr {fm fq : Nat} {fa : Block} (b : Block) (f e : Nat) (hm : 0x8001000000000000000000000000000000000000000000000000000000000000000000000000000000000000000000000000000000 &&& fm = 0x8001000000000000000000000000000000000000000000000000000000000000000000000000000000000000000000000000000000) (hq : 0x40000000 &&& fq = 0x40000000)
    (h0 : Fr fm fq fa b) : Fr fm fq fa (b.aerCor f e) := by
  refine Fr.step ?_ hm hq h0
  clear h0 hq hm
  unfold Block.aerCor
  repeat' (first
    | (show _ = _; exact rfl)
    | with_reducible exact Fr.refl _ _ _
    | with_reducible assumption
    | with_reducible apply Fr.setBits
    | with_reducible apply Fr.emit
    | with_reducible apply Fr.ite
    | split
    | dsimp only)

/-- Frame of `aerAdv`. -/
theorem Block.aerAdv_fr {fm fq : Nat} {fa : Block} (b : Block) (f e hdr : Nat) (hm : 0x49001000000000000000000000000000000000000000000000000000000000000000000000000000000000000000000000000000000 &&& fm = 0x49001000000000000000000000000000000000000000000000000000000000000000000000000000000000000000000000000000000) (hq : 0x40000000 &&& fq = 0x40000000)
    (h0 : Fr fm fq fa b) : Fr fm fq fa (b.aerAdv f e hdr) := by
  refine Fr.step ?_ hm hq h0
  clear h0 hq hm
  unfold Block.aerAdv
  repeat' (first
    | (show _ = _; exact rfl)
    | with_reducible exact Fr.refl _ _ _
    | with_reducible assumption
    | with_reducible apply Fr.wr
    | with_reducible apply Fr.setBits
    | with_reducible apply Block.aerCor_fr
    | with_reducible apply Fr.ite
    | split
    | dsimp only)

/-- Frame of `logOnly`. -/
theorem Block.logOnly_fr {fm fq : Nat} {fa : Block} (b : Block) (f : Nat) (e : LogE) (hm : 0x8000000000000000000000000000000001ffe14000000000000000000000060000000000000000000000000000000000000 &&& fm = 0x8000000000000000000000000000000001ffe14000000000000000000000060000000000000000000000000000000000000) (hq : 0x40001200 &&& fq = 0x40001200)
    (h0 : Fr fm fq fa b) : Fr fm fq fa (b.logOnly f e) := by
  refine Fr.step ?_ hm hq h0
  clear h0 hq hm
  unfold Block.logOnly
  repeat' (first
    | (show _ = _; exact rfl)
    | with_reducible exact Fr.refl _ _ _
    | with_reducible assumption
    | with_reducible apply Fr.wr
    | with_reducible apply Fr.incSat
    | with_reducible apply Block.raise_fr
    | with_reducible apply Fr.ite
    | split
    | dsimp only)

/-- Frame of `logErr`. -/
theorem Block.logErr_fr {fm fq : Nat} {fa : Block} (b : Block) (f : Nat) (e : LogE) (hdr : Nat) (hm : 0x490010008020000000000000000000000000000001ffe14000000000000000000000060000000000000000000000000000000000000 &&& fm = 0x490010008020000000000000000000000000000001ffe14000000000000000000000060000000000000000000000000000000000000) (hq : 0x40001200 &&& fq = 0x40001200)
    (h0 : Fr fm fq fa b) : Fr fm fq fa (b.logErr f e hdr) := by
  refine Fr.step ?_ hm hq h0
  clear h0 hq hm
  unfold Block.logErr
  repeat' (first
    | (show _ = _; exact rfl)
    | with_reducible exact Fr.refl _ _ _
    | with_reducible assumption
    | with_reducible apply Block.aerAdv_fr
    | with_reducible apply Block.aerCor_fr
    | with_reducible apply Block.aerUnc_fr
    | with_reducible apply Block.logOnly_fr
    | with_reducible apply Fr.ite
    | split
    | dsimp only)

/-- Frame of `evWrite`. -/
theorem Block.evWrite_fr {fm fq : Nat} {fa : Block} (b : Block) (f : Nat) (r : EvRec) (hm : 0x4018008000000000000200000000000000000000000000000 &&& fm = 0x4018008000000000000200000000000000000000000000000) (hq : 0x440005100 &&& fq = 0x440005100)
    (h0 : Fr fm fq fa b) : Fr fm fq fa (b.evWrite f r) := by
  refine Fr.step ?_ hm hq h0
  clear h0 hq hm
  unfold Block.evWrite
  repeat' (first
    | (show _ = _; exact rfl)
    | with_reducible exact Fr.refl _ _ _
    | with_reducible assumption
    | with_reducible apply Fr.wr
    | with_reducible apply Block.post_fr
    | dsimp only)

/-- Frame of `retRec`. -/
theorem Block.retRec_fr {fm fq : Nat} {fa : Block} (b : Block) (p f n : Nat) (hm : 0x20000000000000000000000000000000000000000000000000000000 &&& fm = 0x20000000000000000000000000000000000000000000000000000000) (hq : 0x1400040c0 &&& fq = 0x1400040c0)
    (h0 : Fr fm fq fa b) : Fr fm fq fa (b.retRec p f n) := by
  refine Fr.step ?_ hm hq h0
  clear h0 hq hm
  unfold Block.retRec
  repeat' (first
    | (show _ = _; exact rfl)
    | with_reducible exact Fr.refl _ _ _
    | with_reducible assumption
    | with_reducible apply Fr.xMod
    | with_reducible apply Block.xsend_fr
    | with_reducible apply Fr.ite
    | split
    | dsimp only
    | refine Fr.upd (by (repeat' apply And.intro) <;> first | exact Or.inl rfl | exact Or.inr rfl) ?_)

/-- Frame of `evPumpN`. -/
theorem Block.evPumpN_fr {fm fq : Nat} {fa : Block} (b : Block) (f : Nat) (k : Nat) (hm : 0x20000004018008000000000000300000000000000000000000000000 &&& fm = 0x20000004018008000000000000300000000000000000000000000000) (hq : 0x5400053c0 &&& fq = 0x5400053c0)
    (h0 : Fr fm fq fa b) : Fr fm fq fa (b.evPumpN f k) := by
  refine Fr.step ?_ hm hq h0
  clear h0 hq hm
  induction k generalizing b with
  | zero => unfold Block.evPumpN; exact Fr.refl _ _ _
  | succ k ih =>
  unfold Block.evPumpN
  repeat' (first
    | (show _ = _; exact rfl)
    | with_reducible exact Fr.refl _ _ _
    | with_reducible assumption
    | with_reducible refine Fr.trans ?_ (ih _)
    | with_reducible apply Fr.wr
    | with_reducible apply Fr.fnMod
    | with_reducible apply Block.evWrite_fr
    | with_reducible apply Block.retRec_fr
    | with_reducible apply Fr.ite
    | split
    | dsimp only
    | refine Fr.upd (by (repeat' apply And.intro) <;> first | exact Or.inl rfl | exact Or.inr rfl) ?_)

/-- Frame of `evPump`. -/
theorem Block.evPump_fr {fm fq : Nat} {fa : Block} (b : Block) (f : Nat) (hm : 0x800000000000000000000000000000000000000000020000004018008000020000000300000000000000000000000000000 &&& fm = 0x800000000000000000000000000000000000000000020000004018008000020000000300000000000000000000000000000) (hq : 0x5400053c0 &&& fq = 0x5400053c0)
    (h0 : Fr fm fq fa b) : Fr fm fq fa (b.evPump f) := by
  refine Fr.step ?_ hm hq h0
  clear h0 hq hm
  unfold Block.evPump
  repeat' (first
    | (show _ = _; exact rfl)
    | with_reducible exact Fr.refl _ _ _
    | with_reducible assumption
    | with_reducible apply Block.evPumpN_fr
    | with_reducible apply Block.sample_fr)

/-- Frame of `devEvent`. -/
theorem Block.devEvent_fr {fm fq : Nat} {fa : Block} (b : Block) (f code q info : Nat) (hm : 0x800000000000000000000000000000000000000000020000004018008000020000000300000000000000000000000000000 &&& fm = 0x800000000000000000000000000000000000000000020000004018008000020000000300000000000000000000000000000) (hq : 0x5400053c0 &&& fq = 0x5400053c0)
    (h0 : Fr fm fq fa b) : Fr fm fq fa (b.devEvent f code q info) := by
  refine Fr.step ?_ hm hq h0
  clear h0 hq hm
  unfold Block.devEvent
  repeat' (first
    | (show _ = _; exact rfl)
    | with_reducible exact Fr.refl _ _ _
    | with_reducible assumption
    | with_reducible apply Fr.fnMod
    | with_reducible apply Block.evPump_fr
    | with_reducible apply Fr.ite
    | split
    | dsimp only
    | refine Fr.upd (by (repeat' apply And.intro) <;> first | exact Or.inl rfl | exact Or.inr rfl) ?_)

end Sys2Proof.Machine
end

