-- ==== Sys2Proof/Laws/FrOperands.lean ====
section
/-! SUPPORT. The frame of every operation of Machine/Operands.lean: the fields and the parts it may change, by bit masks. -/
set_option linter.unusedTactic false
set_option linter.unreachableTactic false
set_option linter.unusedSimpArgs false
set_option linter.unusedVariables false
namespace Sys2Proof.Machine

/-- Frame of `regReadEff`. -/
theorem Block.regReadEff_fr {fm fq : Nat} {fa : Block} (b : Block) (fcp : Bool) (r : RegRef) (hm : 0x70780400000000000780000000000d27e40000000bf00000000000c0000000060000000000f00000000000f0000 &&& fm = 0x70780400000000000780000000000d27e40000000bf00000000000c0000000060000000000f00000000000f0000) (hq : 0x2 &&& fq = 0x2)
    (h0 : Fr fm fq fa b) : Fr fm fq fa (b.regReadEff fcp r) := by
  refine Fr.step ?_ hm hq h0
  unfold Block.regReadEff
  refine Fr.each ?_ ?_
  · intro b x h
    split
    · next hc => exact Fr.wr (Fld.rcBit _ (by simpa using hc)) h
    · exact h
  · split
    · exact Fr.refl _ _ _
    · exact Fr.useFree rfl (Fr.refl _ _ _)

/-- Frame of `fldWrite` by what its access type lets it write. -/
theorem Block.fldWriteOf_fr {fm fq : Nat} {fa : Block} (b : Block) (f : Fld) (i j v : Nat) (ok : Bool)
    (hf : f.attr.acc = .rw ∨ f.attr.acc = .w1c → fm.testBit (Fld.ctorIdx f) = true) (h0 : Fr fm fq fa b) :
    Fr fm fq fa (b.fldWrite f i j v ok) := by
  unfold Block.fldWrite
  split
  · next h => split
              · exact Fr.wr (hf (.inl h)) h0
              · exact h0
  · next h => exact Fr.clrBits (hf (.inr h)) h0
  · exact h0

/-- Frame of `fldWrite`. -/
theorem Block.fldWrite_fr {fm fq : Nat} {fa : Block} (b : Block) (f : Fld) (i j v : Nat) (ok : Bool)
    (hf : fm.testBit (Fld.ctorIdx f) = true) (h0 : Fr fm fq fa b) : Fr fm fq fa (b.fldWrite f i j v ok) :=
  Block.fldWriteOf_fr b f i j v ok (fun _ => hf) h0

/-- Frame of `fldWrite` of any field. -/
theorem Block.fldWriteAny_fr {fm fq : Nat} {fa : Block} (b : Block) (f : Fld) (i j v : Nat) (ok : Bool)
    (hm : 0x7fffbfffffdffffdb9ff8807800002000f8c00300087fe000098000007cfc00000003ff5812000000d78008003fefc0bc0008000000003f &&& fm = 0x7fffbfffffdffffdb9ff8807800002000f8c00300087fe000098000007cfc00000003ff5812000000d78008003fefc0bc0008000000003f) (h0 : Fr fm fq fa b) : Fr fm fq fa (b.fldWrite f i j v ok) :=
  Block.fldWriteOf_fr b f i j v ok (fun h => Fr.sub_bit (Fld.rwBit _ h) hm) h0

/-- Stored values that meet a condition are dropped. -/
theorem Block.unset_fr {fm fq : Nat} {fa : Block} (b : Block) (p : RKey → Bool)
    (hp : ∀ k, p k = true → fm.testBit (Fld.ctorIdx k.fld) = true) (h0 : Fr fm fq fa b) : Fr fm fq fa (b.unset p) :=
  Fr.unset hp h0

/-- Frame of `regWrite` by the writable fields of its register. -/
theorem Block.regWriteOf_fr {fm fq : Nat} {fa : Block} (b : Block) (fcp : Bool) (r : RegRef) (v : Nat) (ok : Fld → Nat → Bool)
    (hp : ∀ p ∈ Reg.pieces r.reg, p.fld.attr.acc = .rw ∨ p.fld.attr.acc = .w1c → fm.testBit (Fld.ctorIdx p.fld) = true)
    (h0 : Fr fm fq fa b) : Fr fm fq fa (b.regWrite fcp r v ok) := by
  unfold Block.regWrite
  refine Fr.eachMem (fun b x hx h => ?_) h0
  have hb := hp x hx
  dsimp only
  split
  · exact h
  · exact Block.fldWriteOf_fr _ _ _ _ _ _ hb h

/-- Frame of `regWrite` of any register. -/
theorem Block.regWrite_fr {fm fq : Nat} {fa : Block} (b : Block) (fcp : Bool) (r : RegRef) (v : Nat) (ok : Fld → Nat → Bool)
    (hm : 0x7fffbfffffdffffdb9ff8807800002000f8c00300087fe000098000007cfc00000003ff5812000000d78008003fefc0bc0008000000003f &&& fm = 0x7fffbfffffdffffdb9ff8807800002000f8c00300087fe000098000007cfc00000003ff5812000000d78008003fefc0bc0008000000003f) (_ : 0x0 &&& fq = 0x0) (h0 : Fr fm fq fa b) : Fr fm fq fa (b.regWrite fcp r v ok) :=
  Block.regWriteOf_fr b fcp r v ok (fun _ _ h => Fr.sub_bit (Fld.rwBit _ h) hm) h0

/-- The registers of a queue context. -/
theorem firstSome_mem {α : Type} {l : List (Option α)} {a : α} (h : firstSome l = some a) : some a ∈ l := by
  induction l with
  | nil => cases h
  | cons x t ih =>
    cases x with
    | none => exact List.mem_cons_of_mem _ (ih h)
    | some y => cases h; exact List.mem_cons_self

/-- The register of a span. -/
theorem spanReg_reg {reg : Reg} {i j base n off : Nat} {r : RegRef} (h : spanReg reg i j base n off = some r) : r.reg = reg := by
  unfold spanReg at h
  split at h
  · cases h; rfl
  · cases h

/-- The registers of a queue context. -/
theorem queueReg_mem {f n off : Nat} {r : RegRef} (h : queueReg f n off = some r) :
    r.reg ∈ [Reg.shtQringBase, Reg.shtQpidxAddr, Reg.shtQhidxAddr, Reg.shtQcfg, Reg.shtQcoalTime, Reg.shtQcmd, Reg.shtQstatus, Reg.shtQhead, Reg.shtQprod, Reg.shtQcurDesc, Reg.shtQcurFrag, Reg.shtQcurOffset, Reg.shtQstaged, Reg.shtQhalt, Reg.shtQhaltDesc, Reg.shtQhaltFrag, Reg.shtQcounts] := by
  have h1 := firstSome_mem h
  simp only [List.map_cons, List.map_nil, List.cons_append, List.nil_append, List.mem_cons, List.not_mem_nil, or_false] at h1 ⊢
  rcases h1 with h1 | h1 | h1 | h1 | h1 | h1 | h1 | h1 | h1 | h1 | h1 | h1 | h1 | h1 | h1 | h1 | h1 <;> (have := spanReg_reg h1.symm; simp [this])

end Sys2Proof.Machine
end

