-- ==== Sys2Proof/Laws/FrQueueBase.lean ====
section
/-! SUPPORT. The frame of every operation of Machine/QueueBase.lean: the fields and the parts it may change, by bit masks. -/
set_option linter.unusedTactic false
set_option linter.unreachableTactic false
set_option linter.unusedSimpArgs false
set_option linter.unusedVariables false
namespace Sys2Proof.Machine

/-- Frame of `headWb`. -/
theorem Block.headWb_fr {fm fq : Nat} {fa : Block} (b : Block) (f n : Nat) (hm : 0x40000000000000000000000000000000000000000000000000000000000000004018008000000000000000000000000000000000000000000 &&& fm = 0x40000000000000000000000000000000000000000000000000000000000000004018008000000000000000000000000000000000000000000) (hq : 0x440005500 &&& fq = 0x440005500)
    (h0 : Fr fm fq fa b) : Fr fm fq fa (b.headWb f n) := by
  refine Fr.step ?_ hm hq h0
  clear h0 hq hm
  unfold Block.headWb
  repeat' (first
    | (show _ = _; exact rfl)
    | with_reducible exact Fr.refl _ _ _
    | with_reducible assumption
    | with_reducible apply Fr.wr
    | with_reducible apply Fr.quMod
    | with_reducible apply Block.post_fr
    | with_reducible apply Fr.ite
    | split
    | dsimp only
    | refine Fr.upd (by (repeat' apply And.intro) <;> first | exact Or.inl rfl | exact Or.inr rfl) ?_)

/-- Frame of `qDropWaiting`. -/
theorem Block.qDropWaiting_fr {fm fq : Nat} {fa : Block} (b : Block) (f n : Nat) (hm : 0x0 &&& fm = 0x0) (hq : 0x600 &&& fq = 0x600)
    (h0 : Fr fm fq fa b) : Fr fm fq fa (b.qDropWaiting f n) := by
  refine Fr.step ?_ hm hq h0
  clear h0 hq hm
  unfold Block.qDropWaiting
  repeat' (first
    | (show _ = _; exact rfl)
    | with_reducible exact Fr.refl _ _ _
    | with_reducible assumption
    | with_reducible apply Fr.quMod
    | with_reducible apply Block.dropNp_fr
    | dsimp only
    | refine Fr.upd (by (repeat' apply And.intro) <;> first | exact Or.inl rfl | exact Or.inr rfl) ?_)

/-- Frame of `haltQ`. -/
theorem Block.haltQ_fr {fm fq : Nat} {fa : Block} (b : Block) (f n cause detail desc frag : Nat) (hm : 0x40000000000000800000000000000000000000000000000000000000020000004018008000020000000301e00180000000000000000000000 &&& fm = 0x40000000000000800000000000000000000000000000000000000000020000004018008000020000000301e00180000000000000000000000) (hq : 0x5400057c0 &&& fq = 0x5400057c0)
    (h0 : Fr fm fq fa b) : Fr fm fq fa (b.haltQ f n cause detail desc frag) := by
  refine Fr.step ?_ hm hq h0
  clear h0 hq hm
  unfold Block.haltQ
  repeat' (first
    | (show _ = _; exact rfl)
    | with_reducible exact Fr.refl _ _ _
    | with_reducible assumption
    | with_reducible apply Fr.wr
    | with_reducible apply Fr.quMod
    | with_reducible apply Block.devEvent_fr
    | with_reducible apply Block.headWb_fr
    | with_reducible apply Block.qDropWaiting_fr
    | with_reducible apply Block.sample_fr
    | with_reducible apply Fr.ite
    | split
    | dsimp only
    | refine Fr.upd (by (repeat' apply And.intro) <;> first | exact Or.inl rfl | exact Or.inr rfl) ?_)

/-- Frame of `qPart`. -/
theorem Block.qPart_fr {fm fq : Nat} {fa : Block} (b : Block) (q cid off : Nat) (data : List (Byte × Bool)) (hm : 0x0 &&& fm = 0x0) (hq : 0x400 &&& fq = 0x400)
    (h0 : Fr fm fq fa b) : Fr fm fq fa (b.qPart q cid off data) := by
  refine Fr.step ?_ hm hq h0
  clear h0 hq hm
  unfold Block.qPart
  repeat' (first
    | (show _ = _; exact rfl)
    | with_reducible exact Fr.refl _ _ _
    | with_reducible assumption
    | with_reducible apply Fr.quMod
    | with_reducible apply Fr.ite
    | split
    | dsimp only
    | refine Fr.upd (by (repeat' apply And.intro) <;> first | exact Or.inl rfl | exact Or.inr rfl) ?_)

/-- Frame of `qWrote`. -/
theorem Block.qWrote_fr {fm fq : Nat} {fa : Block} (b : Block) (q cid : Nat) (hm : 0x0 &&& fm = 0x0) (hq : 0x400 &&& fq = 0x400)
    (h0 : Fr fm fq fa b) : Fr fm fq fa (b.qWrote q cid) := by
  refine Fr.step ?_ hm hq h0
  clear h0 hq hm
  unfold Block.qWrote
  repeat' (first
    | (show _ = _; exact rfl)
    | with_reducible exact Fr.refl _ _ _
    | with_reducible assumption
    | with_reducible apply Fr.quMod
    | with_reducible apply Fr.ite
    | split
    | dsimp only
    | refine Fr.upd (by (repeat' apply And.intro) <;> first | exact Or.inl rfl | exact Or.inr rfl) ?_)

/-- Frame of `qFail`. -/
theorem Block.qFail_fr {fm fq : Nat} {fa : Block} (b : Block) (q cid cause detail : Nat) (hm : 0x40000000000000800000000000000000000000000000000000000000020000004018008000020000000301e00180000000000000000000000 &&& fm = 0x40000000000000800000000000000000000000000000000000000000020000004018008000020000000301e00180000000000000000000000) (hq : 0x5400057c0 &&& fq = 0x5400057c0)
    (h0 : Fr fm fq fa b) : Fr fm fq fa (b.qFail q cid cause detail) := by
  refine Fr.step ?_ hm hq h0
  clear h0 hq hm
  unfold Block.qFail
  repeat' (first
    | (show _ = _; exact rfl)
    | with_reducible exact Fr.refl _ _ _
    | with_reducible assumption
    | with_reducible apply Fr.quMod
    | with_reducible apply Block.haltQ_fr
    | with_reducible apply Fr.ite
    | split
    | dsimp only
    | refine Fr.upd (by (repeat' apply And.intro) <;> first | exact Or.inl rfl | exact Or.inr rfl) ?_)

/-- Frame of `jobMod`. -/
theorem Block.jobMod_fr {fm fq : Nat} {fa : Block} (b : Block) (id : Nat) (g : HJob → HJob) (hm : 0x0 &&& fm = 0x0) (hq : 0x40000 &&& fq = 0x40000)
    (h0 : Fr fm fq fa b) : Fr fm fq fa (b.jobMod id g) := by
  refine Fr.step ?_ hm hq h0
  clear h0 hq hm
  unfold Block.jobMod
  repeat' (first
    | (show _ = _; exact rfl)
    | with_reducible exact Fr.refl _ _ _
    | with_reducible assumption
    | refine Fr.upd (by (repeat' apply And.intro) <;> first | exact Or.inl rfl | exact Or.inr rfl) ?_)

/-- Frame of `jobDrop`. -/
theorem Block.jobDrop_fr {fm fq : Nat} {fa : Block} (b : Block) (id : Nat) (hm : 0x0 &&& fm = 0x0) (hq : 0x40000 &&& fq = 0x40000)
    (h0 : Fr fm fq fa b) : Fr fm fq fa (b.jobDrop id) := by
  refine Fr.step ?_ hm hq h0
  clear h0 hq hm
  unfold Block.jobDrop
  repeat' (first
    | (show _ = _; exact rfl)
    | with_reducible exact Fr.refl _ _ _
    | with_reducible assumption
    | dsimp only
    | refine Fr.upd (by (repeat' apply And.intro) <;> first | exact Or.inl rfl | exact Or.inr rfl) ?_)

/-- Frame of `jobCpls`. -/
theorem Block.jobCpls_fr {fm fq : Nat} {fa : Block} (b : Block) (id : Nat) (k : Nat) (hm : 0x490010008020000000000000000000000000000001ffe14000000000000000000000060000000000000000000000000000000000000 &&& fm = 0x490010008020000000000000000000000000000001ffe14000000000000000000000060000000000000000000000000000000000000) (hq : 0x40041202 &&& fq = 0x40041202)
    (h0 : Fr fm fq fa b) : Fr fm fq fa (b.jobCpls id k) := by
  refine Fr.step ?_ hm hq h0
  clear h0 hq hm
  induction k generalizing b with
  | zero => unfold Block.jobCpls; exact Fr.refl _ _ _
  | succ k ih =>
  unfold Block.jobCpls
  repeat' (first
    | (show _ = _; exact rfl)
    | with_reducible exact Fr.refl _ _ _
    | with_reducible assumption
    | with_reducible refine Fr.trans ?_ (ih _)
    | with_reducible apply Block.job_fr
    | with_reducible apply Block.jobDrop_fr
    | with_reducible apply Block.jobMod_fr
    | with_reducible apply Block.logErr_fr
    | with_reducible apply Block.sendCpl_fr
    | with_reducible apply Fr.ite
    | split
    | dsimp only
    | refine Fr.upd (by (repeat' apply And.intro) <;> first | exact Or.inl rfl | exact Or.inr rfl) ?_)

/-- Frame of `pieceAns`. -/
theorem Block.pieceAns_fr {fm fq : Nat} {fa : Block} (b : Block) (id i : Nat) (st : CplSt) (data : List (Byte × Bool)) (hm : 0x490010008020000000000000000000000000000001ffe14000000000000000000000060000000000000000000000000000000000000 &&& fm = 0x490010008020000000000000000000000000000001ffe14000000000000000000000060000000000000000000000000000000000000) (hq : 0x40041202 &&& fq = 0x40041202)
    (h0 : Fr fm fq fa b) : Fr fm fq fa (b.pieceAns id i st data) := by
  refine Fr.step ?_ hm hq h0
  clear h0 hq hm
  unfold Block.pieceAns
  repeat' (first
    | (show _ = _; exact rfl)
    | with_reducible exact Fr.refl _ _ _
    | with_reducible assumption
    | with_reducible apply Block.job_fr
    | with_reducible apply Block.jobCpls_fr
    | with_reducible apply Block.jobMod_fr
    | with_reducible apply Fr.ite
    | split
    | dsimp only
    | refine Fr.upd (by (repeat' apply And.intro) <;> first | exact Or.inl rfl | exact Or.inr rfl) ?_)

end Sys2Proof.Machine
end

