-- ==== Sys2Proof/Laws/FrXlb.lean ====
section
/-! SUPPORT. The frame of every operation of Machine/Xlb.lean: the fields and the parts it may change, by bit masks. -/
set_option linter.unusedTactic false
set_option linter.unreachableTactic false
set_option linter.unusedSimpArgs false
set_option linter.unusedVariables false
namespace Sys2Proof.Machine

/-- Frame of `pumpRsp`. -/
theorem Block.pumpRsp_fr {fm fq : Nat} {fa : Block} (b : Block) (p : Nat) (k : Nat) (hm : 0x20000000000000000000000000000000000000000000000000000000 &&& fm = 0x20000000000000000000000000000000000000000000000000000000) (hq : 0x1400040c0 &&& fq = 0x1400040c0)
    (h0 : Fr fm fq fa b) : Fr fm fq fa (b.pumpRsp p k) := by
  refine Fr.step ?_ hm hq h0
  clear h0 hq hm
  induction k generalizing b with
  | zero => unfold Block.pumpRsp; exact Fr.refl _ _ _
  | succ k ih =>
  unfold Block.pumpRsp
  repeat' (first
    | (show _ = _; exact rfl)
    | with_reducible exact Fr.refl _ _ _
    | with_reducible assumption
    | with_reducible refine Fr.trans ?_ (ih _)
    | with_reducible apply Fr.xMod
    | with_reducible apply Block.xsend_fr
    | with_reducible apply Fr.ite
    | split
    | dsimp only
    | refine Fr.upd (by (repeat' apply And.intro) <;> first | exact Or.inl rfl | exact Or.inr rfl) ?_)

/-- Frame of `respondOnly`. -/
theorem Block.respondOnly_fr {fm fq : Nat} {fa : Block} (b : Block) (p tag code cause : Nat) (pvec : Nat) (data : List Byte) (hm : 0x20000000000000000000000000000000000000000000000000000000 &&& fm = 0x20000000000000000000000000000000000000000000000000000000) (hq : 0x1400040c0 &&& fq = 0x1400040c0)
    (h0 : Fr fm fq fa b) : Fr fm fq fa (b.respondOnly p tag code cause pvec data) := by
  refine Fr.step ?_ hm hq h0
  clear h0 hq hm
  unfold Block.respondOnly
  repeat' (first
    | (show _ = _; exact rfl)
    | with_reducible exact Fr.refl _ _ _
    | with_reducible assumption
    | with_reducible apply Fr.xMod
    | with_reducible apply Block.pumpRsp_fr
    | dsimp only
    | refine Fr.upd (by (repeat' apply And.intro) <;> first | exact Or.inl rfl | exact Or.inr rfl) ?_)

/-- Frame of `pumpX`. -/
theorem Block.pumpX_fr {fm fq : Nat} {fa : Block} (b : Block) (p : Nat) (k : Nat) (hm : 0x20000000000000000000000000000000000000000000000000000000 &&& fm = 0x20000000000000000000000000000000000000000000000000000000) (hq : 0x1400040c2 &&& fq = 0x1400040c2)
    (h0 : Fr fm fq fa b) : Fr fm fq fa (b.pumpX p k) := by
  refine Fr.step ?_ hm hq h0
  clear h0 hq hm
  induction k generalizing b with
  | zero => unfold Block.pumpX; exact Fr.refl _ _ _
  | succ k ih =>
  unfold Block.pumpX
  repeat' (first
    | (show _ = _; exact rfl)
    | with_reducible exact Fr.refl _ _ _
    | with_reducible assumption
    | with_reducible refine Fr.trans ?_ (ih _)
    | with_reducible apply Fr.xMod
    | with_reducible apply Fr.useFree
    | with_reducible apply Block.xsend_fr
    | with_reducible apply Fr.ite
    | split
    | dsimp only
    | refine Fr.upd (by (repeat' apply And.intro) <;> first | exact Or.inl rfl | exact Or.inr rfl) ?_)

/-- Frame of `kick`. -/
theorem Block.kick_fr {fm fq : Nat} {fa : Block} (b : Block) (p : Nat) (hm : 0x20000000000000000000000000000000000000000000000000000000 &&& fm = 0x20000000000000000000000000000000000000000000000000000000) (hq : 0x1400040c2 &&& fq = 0x1400040c2)
    (h0 : Fr fm fq fa b) : Fr fm fq fa (b.kick p) := by
  refine Fr.step ?_ hm hq h0
  clear h0 hq hm
  unfold Block.kick
  repeat' (first
    | (show _ = _; exact rfl)
    | with_reducible exact Fr.refl _ _ _
    | with_reducible assumption
    | with_reducible apply Block.pumpX_fr
    | dsimp only)

/-- Frame of `respond`. -/
theorem Block.respond_fr {fm fq : Nat} {fa : Block} (b : Block) (p tag code cause : Nat) (pvec : Nat) (data : List Byte) (hm : 0x20000000000000000000000000000000000000000000000000000000 &&& fm = 0x20000000000000000000000000000000000000000000000000000000) (hq : 0x1400040c2 &&& fq = 0x1400040c2)
    (h0 : Fr fm fq fa b) : Fr fm fq fa (b.respond p tag code cause pvec data) := by
  refine Fr.step ?_ hm hq h0
  clear h0 hq hm
  unfold Block.respond
  repeat' (first
    | (show _ = _; exact rfl)
    | with_reducible exact Fr.refl _ _ _
    | with_reducible assumption
    | with_reducible apply Block.kick_fr
    | with_reducible apply Block.respondOnly_fr)

/-- Frame of `dropReq`. -/
theorem Block.dropReq_fr {fm fq : Nat} {fa : Block} (b : Block) (p rid : Nat) (hm : 0x0 &&& fm = 0x0) (hq : 0x40 &&& fq = 0x40)
    (h0 : Fr fm fq fa b) : Fr fm fq fa (b.dropReq p rid) := by
  refine Fr.step ?_ hm hq h0
  clear h0 hq hm
  unfold Block.dropReq
  repeat' (first
    | (show _ = _; exact rfl)
    | with_reducible exact Fr.refl _ _ _
    | with_reducible assumption
    | with_reducible apply Fr.xMod
    | dsimp only
    | refine Fr.upd (by (repeat' apply And.intro) <;> first | exact Or.inl rfl | exact Or.inr rfl) ?_)

/-- Frame of `pfFree`. -/
theorem Block.pfFree_fr {fm fq : Nat} {fa : Block} (b : Block) (f e : Nat) (hm : 0x0 &&& fm = 0x0) (hq : 0x200 &&& fq = 0x200)
    (h0 : Fr fm fq fa b) : Fr fm fq fa (b.pfFree f e) := by
  refine Fr.step ?_ hm hq h0
  clear h0 hq hm
  unfold Block.pfFree
  repeat' (first
    | (show _ = _; exact rfl)
    | with_reducible exact Fr.refl _ _ _
    | with_reducible assumption
    | with_reducible apply Fr.fnMod
    | dsimp only
    | refine Fr.upd (by (repeat' apply And.intro) <;> first | exact Or.inl rfl | exact Or.inr rfl) ?_)

/-- Frame of `pfMod`. -/
theorem Block.pfMod_fr {fm fq : Nat} {fa : Block} (b : Block) (f e : Nat) (g : PfEnt → PfEnt) (hm : 0x0 &&& fm = 0x0) (hq : 0x200 &&& fq = 0x200)
    (h0 : Fr fm fq fa b) : Fr fm fq fa (b.pfMod f e g) := by
  refine Fr.step ?_ hm hq h0
  clear h0 hq hm
  unfold Block.pfMod
  repeat' (first
    | (show _ = _; exact rfl)
    | with_reducible exact Fr.refl _ _ _
    | with_reducible assumption
    | with_reducible apply Fr.fnMod
    | dsimp only
    | refine Fr.upd (by (repeat' apply And.intro) <;> first | exact Or.inl rfl | exact Or.inr rfl) ?_)

/-- Frame of `learn`. -/
theorem Block.learn_fr {fm fq : Nat} {fa : Block} (b : Block) (f p page : Nat) (hm : 0x10000000000000000 &&& fm = 0x10000000000000000) (hq : 0x200 &&& fq = 0x200)
    (h0 : Fr fm fq fa b) : Fr fm fq fa (b.learn f p page) := by
  refine Fr.step ?_ hm hq h0
  clear h0 hq hm
  unfold Block.learn
  repeat' (first
    | (show _ = _; exact rfl)
    | with_reducible exact Fr.refl _ _ _
    | with_reducible assumption
    | with_reducible apply Fr.incSat
    | with_reducible apply Fr.fnMod
    | with_reducible apply Fr.ite
    | split
    | dsimp only
    | refine Fr.upd (by (repeat' apply And.intro) <;> first | exact Or.inl rfl | exact Or.inr rfl) ?_)

/-- Frame of `pfLost`. -/
theorem Block.pfLost_fr {fm fq : Nat} {fa : Block} (b : Block) (f : Nat) (x : PfEnt) (why : Nat) (hm : 0x490010008020000000000000000000000000000001ffe14000000000000000000000060000000000000000000040000000000000000 &&& fm = 0x490010008020000000000000000000000000000001ffe14000000000000000000000060000000000000000000040000000000000000) (hq : 0x40001200 &&& fq = 0x40001200)
    (h0 : Fr fm fq fa b) : Fr fm fq fa (b.pfLost f x why) := by
  refine Fr.step ?_ hm hq h0
  clear h0 hq hm
  unfold Block.pfLost
  repeat' (first
    | (show _ = _; exact rfl)
    | with_reducible exact Fr.refl _ _ _
    | with_reducible assumption
    | with_reducible apply Fr.incSat
    | with_reducible apply Block.logErr_fr
    | with_reducible apply Fr.ite
    | split
    | dsimp only)

/-- Frame of `putReq`. -/
theorem Block.putReq_fr {fm fq : Nat} {fa : Block} (b : Block) (p : Nat) (r : XReq) (hm : 0x0 &&& fm = 0x0) (hq : 0x44 &&& fq = 0x44)
    (h0 : Fr fm fq fa b) : Fr fm fq fa (b.putReq p r) := by
  refine Fr.step ?_ hm hq h0
  clear h0 hq hm
  unfold Block.putReq
  repeat' (first
    | (show _ = _; exact rfl)
    | with_reducible exact Fr.refl _ _ _
    | with_reducible assumption
    | with_reducible apply Fr.xMod
    | with_reducible apply Fr.newId
    | dsimp only
    | refine Fr.upd (by (repeat' apply And.intro) <;> first | exact Or.inl rfl | exact Or.inr rfl) ?_)

/-- Frame of `demandReq`. -/
theorem Block.demandReq_fr {fm fq : Nat} {fa : Block} (b : Block) (p f job i : Nat) (pc : HPiece) (hm : 0x0 &&& fm = 0x0) (hq : 0x44 &&& fq = 0x44)
    (h0 : Fr fm fq fa b) : Fr fm fq fa (b.demandReq p f job i pc) := by
  refine Fr.step ?_ hm hq h0
  clear h0 hq hm
  unfold Block.demandReq
  repeat' (first
    | (show _ = _; exact rfl)
    | with_reducible exact Fr.refl _ _ _
    | with_reducible assumption
    | with_reducible apply Block.putReq_fr)

/-- Frame of `jobSplit`. -/
theorem Block.jobSplit_fr {fm fq : Nat} {fa : Block} (b : Block) (id i : Nat) (ps : List (Nat × Nat)) (hm : 0x0 &&& fm = 0x0) (hq : 0x40000 &&& fq = 0x40000)
    (h0 : Fr fm fq fa b) : Fr fm fq fa (b.jobSplit id i ps) := by
  refine Fr.step ?_ hm hq h0
  clear h0 hq hm
  unfold Block.jobSplit
  repeat' (first
    | (show _ = _; exact rfl)
    | with_reducible exact Fr.refl _ _ _
    | with_reducible assumption
    | with_reducible apply Block.jobMod_fr
    | dsimp only
    | refine Fr.upd (by (repeat' apply And.intro) <;> first | exact Or.inl rfl | exact Or.inr rfl) ?_)

/-- Frame of `speculate`. -/
theorem Block.speculate_fr {fm fq : Nat} {fa : Block} (b : Block) (f p : Nat) (winB : Bool) (h : WinHit) (lo len : Nat) (hm : 0x0 &&& fm = 0x0) (hq : 0x400000244 &&& fq = 0x400000244)
    (h0 : Fr fm fq fa b) : Fr fm fq fa (b.speculate f p winB h lo len) := by
  refine Fr.step ?_ hm hq h0
  clear h0 hq hm
  unfold Block.speculate
  repeat' (first
    | (show _ = _; exact rfl)
    | with_reducible exact Fr.refl _ _ _
    | with_reducible assumption
    | with_reducible apply Fr.fnMod
    | with_reducible apply Block.cross_fr
    | with_reducible apply Block.pfFree_fr
    | with_reducible apply Block.putReq_fr
    | with_reducible apply Fr.ite
    | split
    | dsimp only
    | refine Fr.upd (by (repeat' apply And.intro) <;> first | exact Or.inl rfl | exact Or.inr rfl) ?_)

/-- Frame of `pfDemand`. -/
theorem Block.pfDemand_fr {fm fq : Nat} {fa : Block} (b : Block) (f : Nat) (x : PfEnt) (hm : 0x490010008020000000000000000000000000000001ffe14000000000000000000000060000000000000000000000000000000000000 &&& fm = 0x490010008020000000000000000000000000000001ffe14000000000000000000000060000000000000000000000000000000000000) (hq : 0x440041246 &&& fq = 0x440041246)
    (h0 : Fr fm fq fa b) : Fr fm fq fa (b.pfDemand f x) := by
  refine Fr.step ?_ hm hq h0
  clear h0 hq hm
  unfold Block.pfDemand
  repeat' (first
    | (show _ = _; exact rfl)
    | with_reducible exact Fr.refl _ _ _
    | with_reducible assumption
    | with_reducible apply Fr.each
    | with_reducible apply Block.demandReq_fr
    | with_reducible apply Block.job_fr
    | with_reducible apply Block.jobSplit_fr
    | with_reducible apply Block.pieceAns_fr
    | with_reducible apply Block.speculate_fr
    | with_reducible apply Fr.ite
    | (intro _ _ h)
    | split
    | dsimp only)

/-- Frame of `pfServe`. -/
theorem Block.pfServe_fr {fm fq : Nat} {fa : Block} (b : Block) (x : PfEnt) (cells : List (Byte × Bool)) (hm : 0x490010008020000000000000000000000000000001ffe14000000000000000000000060000000000000000000000000000000000000 &&& fm = 0x490010008020000000000000000000000000000001ffe14000000000000000000000060000000000000000000000000000000000000) (hq : 0x40041202 &&& fq = 0x40041202)
    (h0 : Fr fm fq fa b) : Fr fm fq fa (b.pfServe x cells) := by
  refine Fr.step ?_ hm hq h0
  clear h0 hq hm
  unfold Block.pfServe
  repeat' (first
    | (show _ = _; exact rfl)
    | with_reducible exact Fr.refl _ _ _
    | with_reducible assumption
    | with_reducible apply Fr.each
    | with_reducible apply Block.job_fr
    | with_reducible apply Block.pieceAns_fr
    | (intro _ _ h)
    | split
    | dsimp only)

/-- Frame of `pfUnexpected`. -/
theorem Block.pfUnexpected_fr {fm fq : Nat} {fa : Block} (b : Block) (f : Nat) (x : PfEnt) (code : Nat) (hm : 0x490010008020000000000000000000000000000001ffe14000000000000000000000060000000000000000000080000000000000000 &&& fm = 0x490010008020000000000000000000000000000001ffe14000000000000000000000060000000000000000000080000000000000000) (hq : 0x40001200 &&& fq = 0x40001200)
    (h0 : Fr fm fq fa b) : Fr fm fq fa (b.pfUnexpected f x code) := by
  refine Fr.step ?_ hm hq h0
  clear h0 hq hm
  unfold Block.pfUnexpected
  repeat' (first
    | (show _ = _; exact rfl)
    | with_reducible exact Fr.refl _ _ _
    | with_reducible assumption
    | with_reducible apply Fr.incSat
    | with_reducible apply Block.logErr_fr
    | with_reducible apply Fr.ite
    | split)

/-- Frame of `pfAnswer`. -/
theorem Block.pfAnswer_fr {fm fq : Nat} {fa : Block} (b : Block) (f id code : Nat) (cells : List (Byte × Bool)) (hm : 0x490010008020000000000000000000000000000001ffe140000000000000000000000600000000000000000000f0000000000000000 &&& fm = 0x490010008020000000000000000000000000000001ffe140000000000000000000000600000000000000000000f0000000000000000) (hq : 0x440041246 &&& fq = 0x440041246)
    (h0 : Fr fm fq fa b) : Fr fm fq fa (b.pfAnswer f id code cells) := by
  refine Fr.step ?_ hm hq h0
  clear h0 hq hm
  unfold Block.pfAnswer
  repeat' (first
    | (show _ = _; exact rfl)
    | with_reducible exact Fr.refl _ _ _
    | with_reducible assumption
    | with_reducible apply Fr.incSat
    | with_reducible apply Fr.each
    | with_reducible apply Block.learn_fr
    | with_reducible apply Block.pfDemand_fr
    | with_reducible apply Block.pfFree_fr
    | with_reducible apply Block.pfLost_fr
    | with_reducible apply Block.pfMod_fr
    | with_reducible apply Block.pfServe_fr
    | with_reducible apply Block.pfUnexpected_fr
    | with_reducible apply Block.pieceAns_fr
    | with_reducible apply Fr.ite
    | (intro _ _ h)
    | split
    | dsimp only
    | refine Fr.upd (by (repeat' apply And.intro) <;> first | exact Or.inl rfl | exact Or.inr rfl) ?_)

/-- Frame of `pfDiscard`. -/
theorem Block.pfDiscard_fr {fm fq : Nat} {fa : Block} (b : Block) (f : Nat) (x : PfEnt) (why : Nat) (hm : 0x490010008020000000000000000000000000000001ffe14000000000000000000000060000000000000000000040000000000000000 &&& fm = 0x490010008020000000000000000000000000000001ffe14000000000000000000000060000000000000000000040000000000000000) (hq : 0x40001200 &&& fq = 0x40001200)
    (h0 : Fr fm fq fa b) : Fr fm fq fa (b.pfDiscard f x why) := by
  refine Fr.step ?_ hm hq h0
  clear h0 hq hm
  unfold Block.pfDiscard
  repeat' (first
    | (show _ = _; exact rfl)
    | with_reducible exact Fr.refl _ _ _
    | with_reducible assumption
    | with_reducible apply Block.pfFree_fr
    | with_reducible apply Block.pfLost_fr
    | with_reducible apply Block.pfMod_fr
    | split
    | dsimp only
    | refine Fr.upd (by (repeat' apply And.intro) <;> first | exact Or.inl rfl | exact Or.inr rfl) ?_)

/-- Frame of `pfPort`. -/
theorem Block.pfPort_fr {fm fq : Nat} {fa : Block} (b : Block) (p : Nat) (hm : 0x490010008020000000000000000000000000000001ffe14000000000000000000000060000000000000000000040000000000000000 &&& fm = 0x490010008020000000000000000000000000000001ffe14000000000000000000000060000000000000000000040000000000000000) (hq : 0x40001200 &&& fq = 0x40001200)
    (h0 : Fr fm fq fa b) : Fr fm fq fa (b.pfPort p) := by
  refine Fr.step ?_ hm hq h0
  clear h0 hq hm
  unfold Block.pfPort
  repeat' (first
    | (show _ = _; exact rfl)
    | with_reducible exact Fr.refl _ _ _
    | with_reducible assumption
    | with_reducible apply Fr.each
    | with_reducible apply Block.pfDiscard_fr
    | (intro _ _ h)
    | dsimp only)

/-- Frame of `ansGo`. -/
theorem Block.ansGo_fr {fm fq : Nat} {fa : Block} (b : Block) (r : XReq) (code cause : Nat) (cells : List (Byte × Bool)) (hm : 0x400000490010008020000000000000000000000000000001ffe14000020000004018008000060000000301e001800000f0000000000000000 &&& fm = 0x400000490010008020000000000000000000000000000001ffe14000020000004018008000060000000301e001800000f0000000000000000) (hq : 0x5400457c6 &&& fq = 0x5400457c6)
    (h0 : Fr fm fq fa b) : Fr fm fq fa (b.ansGo r code cause cells) := by
  refine Fr.step ?_ hm hq h0
  clear h0 hq hm
  unfold Block.ansGo
  repeat' (first
    | (show _ = _; exact rfl)
    | with_reducible exact Fr.refl _ _ _
    | with_reducible assumption
    | with_reducible apply Block.job_fr
    | with_reducible apply Block.logErr_fr
    | with_reducible apply Block.pfAnswer_fr
    | with_reducible apply Block.pieceAns_fr
    | with_reducible apply Block.qFail_fr
    | with_reducible apply Block.qPart_fr
    | with_reducible apply Block.qWrote_fr
    | with_reducible apply Fr.ite
    | split
    | dsimp only)

/-- Frame of `endReq`. -/
theorem Block.endReq_fr {fm fq : Nat} {fa : Block} (b : Block) (p : Nat) (r : XReq) (code cause : Nat) (cells : List (Byte × Bool)) (hm : 0x400000490010008020000000000000000000000000000001ffe14000020000004018008000060000000301e001800000f0000000000000000 &&& fm = 0x400000490010008020000000000000000000000000000001ffe14000020000004018008000060000000301e001800000f0000000000000000) (hq : 0x7400457c6 &&& fq = 0x7400457c6)
    (h0 : Fr fm fq fa b) : Fr fm fq fa (b.endReq p r code cause cells) := by
  refine Fr.step ?_ hm hq h0
  clear h0 hq hm
  unfold Block.endReq
  repeat' (first
    | (show _ = _; exact rfl)
    | with_reducible exact Fr.refl _ _ _
    | with_reducible assumption
    | with_reducible apply Block.ansGo_fr
    | with_reducible apply Block.cross_fr
    | with_reducible apply Block.dropReq_fr
    | with_reducible apply Fr.ite
    | split
    | dsimp only
    | refine Fr.upd (by (repeat' apply And.intro) <;> first | exact Or.inl rfl | exact Or.inr rfl) ?_)

/-- Frame of `quarantine`. -/
theorem Block.quarantine_fr {fm fq : Nat} {fa : Block} (b : Block) (p : Nat) (r : XReq) (byFence : Bool) (hm : 0x0 &&& fm = 0x0) (hq : 0x40 &&& fq = 0x40)
    (h0 : Fr fm fq fa b) : Fr fm fq fa (b.quarantine p r byFence) := by
  refine Fr.step ?_ hm hq h0
  clear h0 hq hm
  unfold Block.quarantine
  repeat' (first
    | (show _ = _; exact rfl)
    | with_reducible exact Fr.refl _ _ _
    | with_reducible assumption
    | with_reducible apply Fr.xMod
    | with_reducible apply Fr.ite
    | split
    | dsimp only
    | refine Fr.upd (by (repeat' apply And.intro) <;> first | exact Or.inl rfl | exact Or.inr rfl) ?_)

/-- Frame of `unfence`. -/
theorem Block.unfence_fr {fm fq : Nat} {fa : Block} (b : Block) (p : Nat) (hm : 0x800000000000000000000000000000000000000000020000004018008000060000000300000000000000000400000000800 &&& fm = 0x800000000000000000000000000000000000000000020000004018008000060000000300000000000000000400000000800) (hq : 0x5400053c0 &&& fq = 0x5400053c0)
    (h0 : Fr fm fq fa b) : Fr fm fq fa (b.unfence p) := by
  refine Fr.step ?_ hm hq h0
  clear h0 hq hm
  unfold Block.unfence
  repeat' (first
    | (show _ = _; exact rfl)
    | with_reducible exact Fr.refl _ _ _
    | with_reducible assumption
    | with_reducible apply Fr.wr
    | with_reducible apply Fr.xMod
    | with_reducible apply Fr.each
    | with_reducible apply Block.devEvent_fr
    | with_reducible apply Block.raise_fr
    | with_reducible apply Fr.ite
    | (intro _ _ h)
    | split
    | dsimp only
    | refine Fr.upd (by (repeat' apply And.intro) <;> first | exact Or.inl rfl | exact Or.inr rfl) ?_)

/-- Frame of `linesDown`. -/
theorem Block.linesDown_fr {fm fq : Nat} {fa : Block} (b : Block) (p : Nat) (hm : 0x800000000000000000000000000000000000000000000000000000000000020008000000000000000000000000000000000 &&& fm = 0x800000000000000000000000000000000000000000000000000000000000020008000000000000000000000000000000000) (hq : 0x40001200 &&& fq = 0x40001200)
    (h0 : Fr fm fq fa b) : Fr fm fq fa (b.linesDown p) := by
  refine Fr.step ?_ hm hq h0
  clear h0 hq hm
  unfold Block.linesDown
  repeat' (first
    | (show _ = _; exact rfl)
    | with_reducible exact Fr.refl _ _ _
    | with_reducible assumption
    | with_reducible apply Fr.wr
    | with_reducible apply Fr.each
    | with_reducible apply Block.sampleAll_fr
    | (intro _ _ h)
    | dsimp only)

/-- Frame of `retMsg`. -/
theorem Block.retMsg_fr {fm fq : Nat} {fa : Block} (b : Block) (p : Nat) (hm : 0x20000000000000000000000000000000000000000000000000000000 &&& fm = 0x20000000000000000000000000000000000000000000000000000000) (hq : 0x1400040c0 &&& fq = 0x1400040c0)
    (h0 : Fr fm fq fa b) : Fr fm fq fa (b.retMsg p) := by
  refine Fr.step ?_ hm hq h0
  clear h0 hq hm
  unfold Block.retMsg
  repeat' (first
    | (show _ = _; exact rfl)
    | with_reducible exact Fr.refl _ _ _
    | with_reducible assumption
    | with_reducible apply Fr.xMod
    | with_reducible apply Block.xsend_fr
    | dsimp only
    | refine Fr.upd (by (repeat' apply And.intro) <;> first | exact Or.inl rfl | exact Or.inr rfl) ?_)

/-- Frame of `fenceFlush`. -/
theorem Block.fenceFlush_fr {fm fq : Nat} {fa : Block} (b : Block) (p : Nat) (hm : 0x20000000000000000000000000000000000000000000000000000000 &&& fm = 0x20000000000000000000000000000000000000000000000000000000) (hq : 0x1400040c0 &&& fq = 0x1400040c0)
    (h0 : Fr fm fq fa b) : Fr fm fq fa (b.fenceFlush p) := by
  refine Fr.step ?_ hm hq h0
  clear h0 hq hm
  unfold Block.fenceFlush
  repeat' (first
    | (show _ = _; exact rfl)
    | with_reducible exact Fr.refl _ _ _
    | with_reducible assumption
    | with_reducible apply Fr.xMod
    | with_reducible apply Fr.each
    | with_reducible apply Block.retMsg_fr
    | with_reducible apply Block.retRec_fr
    | with_reducible apply Fr.ite
    | (intro _ _ h)
    | split
    | dsimp only
    | refine Fr.upd (by (repeat' apply And.intro) <;> first | exact Or.inl rfl | exact Or.inr rfl) ?_)

/-- Frame of `fence`. -/
theorem Block.fence_fr {fm fq : Nat} {fa : Block} (b : Block) (p why : Nat) (hm : 0x400000490010008020000000000000000000000000000001ffe14000020000004018008000060008000301e001800000f0000400000080800 &&& fm = 0x400000490010008020000000000000000000000000000001ffe14000020000004018008000060008000301e001800000f0000400000080800) (hq : 0x7400457c6 &&& fq = 0x7400457c6)
    (h0 : Fr fm fq fa b) : Fr fm fq fa (b.fence p why) := by
  refine Fr.step ?_ hm hq h0
  clear h0 hq hm
  unfold Block.fence
  repeat' (first
    | (show _ = _; exact rfl)
    | with_reducible exact Fr.refl _ _ _
    | with_reducible assumption
    | with_reducible apply Fr.wr
    | with_reducible apply Fr.incSat
    | with_reducible apply Fr.xMod
    | with_reducible apply Fr.each
    | with_reducible apply Block.devEvent_fr
    | with_reducible apply Block.endReq_fr
    | with_reducible apply Block.fenceFlush_fr
    | with_reducible apply Block.linesDown_fr
    | with_reducible apply Block.logErr_fr
    | with_reducible apply Block.pfPort_fr
    | with_reducible apply Block.quarantine_fr
    | with_reducible apply Block.raise_fr
    | with_reducible apply Fr.ite
    | (intro _ _ h)
    | split
    | dsimp only
    | refine Fr.upd (by (repeat' apply And.intro) <;> first | exact Or.inl rfl | exact Or.inr rfl) ?_)

/-- Frame of `countTmo`. -/
theorem Block.countTmo_fr {fm fq : Nat} {fa : Block} (b : Block) (p : Nat) (r : XReq) (hm : 0x400000490010008020000000000000000000000000000001ffe14000020000004018008000060008000301e001800000f0000400000090800 &&& fm = 0x400000490010008020000000000000000000000000000001ffe14000020000004018008000060008000301e001800000f0000400000090800) (hq : 0x7400457c6 &&& fq = 0x7400457c6)
    (h0 : Fr fm fq fa b) : Fr fm fq fa (b.countTmo p r) := by
  refine Fr.step ?_ hm hq h0
  clear h0 hq hm
  unfold Block.countTmo
  repeat' (first
    | (show _ = _; exact rfl)
    | with_reducible exact Fr.refl _ _ _
    | with_reducible assumption
    | with_reducible apply Fr.incSat
    | with_reducible apply Fr.xMod
    | with_reducible apply Block.fence_fr
    | with_reducible apply Fr.ite
    | split
    | dsimp only
    | refine Fr.upd (by (repeat' apply And.intro) <;> first | exact Or.inl rfl | exact Or.inr rfl) ?_)

/-- Frame of `voidAll`. -/
theorem Block.voidAll_fr {fm fq : Nat} {fa : Block} (b : Block) (p : Nat) (down : Bool) (hm : 0x400000490010008020000000000000000000000000000001ffe14000020000004018008000060000000301e001800000f0000000000000000 &&& fm = 0x400000490010008020000000000000000000000000000001ffe14000020000004018008000060000000301e001800000f0000000000000000) (hq : 0x7400457c6 &&& fq = 0x7400457c6)
    (h0 : Fr fm fq fa b) : Fr fm fq fa (b.voidAll p down) := by
  refine Fr.step ?_ hm hq h0
  clear h0 hq hm
  unfold Block.voidAll
  repeat' (first
    | (show _ = _; exact rfl)
    | with_reducible exact Fr.refl _ _ _
    | with_reducible assumption
    | with_reducible apply Fr.xMod
    | with_reducible apply Fr.lkMod
    | with_reducible apply Fr.each
    | with_reducible apply Block.dropNp_fr
    | with_reducible apply Block.endReq_fr
    | with_reducible apply Block.logErr_fr
    | with_reducible apply Block.pfPort_fr
    | with_reducible apply Fr.ite
    | (intro _ _ h)
    | split
    | dsimp only
    | refine Fr.upd (by (repeat' apply And.intro) <;> first | exact Or.inl rfl | exact Or.inr rfl) ?_)

/-- Frame of `reqArrive`. -/
theorem Block.reqArrive_fr {fm fq : Nat} {fa : Block} (b : Block) (p : Nat) (r : XReq) (hm : 0x400000490010008020000000000000000000000000000001ffe14000020000004018008000060000000301e001800000f0000000000000000 &&& fm = 0x400000490010008020000000000000000000000000000001ffe14000020000004018008000060000000301e001800000f0000000000000000) (hq : 0x7400457c6 &&& fq = 0x7400457c6)
    (h0 : Fr fm fq fa b) : Fr fm fq fa (b.reqArrive p r) := by
  refine Fr.step ?_ hm hq h0
  clear h0 hq hm
  unfold Block.reqArrive
  repeat' (first
    | (show _ = _; exact rfl)
    | with_reducible exact Fr.refl _ _ _
    | with_reducible assumption
    | with_reducible apply Fr.newId
    | with_reducible apply Block.endReq_fr
    | with_reducible apply Block.putReq_fr
    | with_reducible apply Fr.ite
    | split)

/-- Frame of `addReq`. -/
theorem Block.addReq_fr {fm fq : Nat} {fa : Block} (b : Block) (p f : Nat) (orig : XOrig) (op addr len : Nat) (cells : List (Byte × Bool × Bool)) (aop asz : Nat) (grp : Nat) (hm : 0x400000490010008020000000000000000000000000000001ffe14000020000004018008000060000000301e001800000f0000000000000000 &&& fm = 0x400000490010008020000000000000000000000000000001ffe14000020000004018008000060000000301e001800000f0000000000000000) (hq : 0x7400457c6 &&& fq = 0x7400457c6)
    (h0 : Fr fm fq fa b) : Fr fm fq fa (b.addReq p f orig op addr len cells aop asz grp) := by
  refine Fr.step ?_ hm hq h0
  clear h0 hq hm
  unfold Block.addReq
  repeat' (first
    | (show _ = _; exact rfl)
    | with_reducible exact Fr.refl _ _ _
    | with_reducible assumption
    | with_reducible apply Block.cross_fr
    | with_reducible apply Block.putReq_fr
    | with_reducible apply Block.reqArrive_fr
    | with_reducible apply Fr.ite
    | split
    | dsimp only
    | refine Fr.upd (by (repeat' apply And.intro) <;> first | exact Or.inl rfl | exact Or.inr rfl) ?_)

/-- Frame of `reqsIn`. -/
theorem Block.reqsIn_fr {fm fq : Nat} {fa : Block} (b : Block) (p : Nat) (hm : 0x400000490010008020000000000000000000000000000001ffe14000020000004018008000060000000301e001800000f0000000000000000 &&& fm = 0x400000490010008020000000000000000000000000000001ffe14000020000004018008000060000000301e001800000f0000000000000000) (hq : 0x7400457c6 &&& fq = 0x7400457c6)
    (h0 : Fr fm fq fa b) : Fr fm fq fa (b.reqsIn p) := by
  refine Fr.step ?_ hm hq h0
  clear h0 hq hm
  unfold Block.reqsIn
  repeat' (first
    | (show _ = _; exact rfl)
    | with_reducible exact Fr.refl _ _ _
    | with_reducible assumption
    | with_reducible apply Fr.xMod
    | with_reducible apply Fr.each
    | with_reducible apply Block.cross_fr
    | with_reducible apply Block.endReq_fr
    | with_reducible apply Block.kick_fr
    | with_reducible apply Fr.ite
    | (intro _ _ h)
    | split
    | dsimp only
    | refine Fr.upd (by (repeat' apply And.intro) <;> first | exact Or.inl rfl | exact Or.inr rfl) ?_)

/-- Frame of `chunkAdjust`. -/
theorem Block.chunkAdjust_fr {fm fq : Nat} {fa : Block} (b : Block) (old new : List XReq) (hm : 0x0 &&& fm = 0x0) (hq : 0x400 &&& fq = 0x400)
    (h0 : Fr fm fq fa b) : Fr fm fq fa (b.chunkAdjust old new) := by
  refine Fr.step ?_ hm hq h0
  clear h0 hq hm
  unfold Block.chunkAdjust
  repeat' (first
    | (show _ = _; exact rfl)
    | with_reducible exact Fr.refl _ _ _
    | with_reducible assumption
    | with_reducible apply Fr.quMod
    | with_reducible apply Fr.each
    | with_reducible apply Fr.ite
    | (intro _ _ h)
    | split
    | dsimp only
    | refine Fr.upd (by (repeat' apply And.intro) <;> first | exact Or.inl rfl | exact Or.inr rfl) ?_)

/-- Frame of `reqSplit`. -/
theorem Block.reqSplit_fr {fm fq : Nat} {fa : Block} (b : Block) (p w rid : Nat) (hm : 0x0 &&& fm = 0x0) (hq : 0x40444 &&& fq = 0x40444)
    (h0 : Fr fm fq fa b) : Fr fm fq fa (b.reqSplit p w rid) := by
  refine Fr.step ?_ hm hq h0
  clear h0 hq hm
  unfold Block.reqSplit
  repeat' (first
    | (show _ = _; exact rfl)
    | with_reducible exact Fr.refl _ _ _
    | with_reducible assumption
    | with_reducible apply Fr.xMod
    | with_reducible apply Block.chunkAdjust_fr
    | with_reducible apply Block.jobSplit_fr
    | with_reducible apply Fr.ite
    | split
    | dsimp only
    | refine Fr.upd (by (repeat' apply And.intro) <;> first | exact Or.inl rfl | exact Or.inr rfl) ?_)

/-- Frame of `atomRefuse`. -/
theorem Block.atomRefuse_fr {fm fq : Nat} {fa : Block} (b : Block) (p : Nat) (r : XReq) (hm : 0x400000490010008020000000000000000000000000000001ffe14000020000004018008000060000000301e001800000f0000000000000000 &&& fm = 0x400000490010008020000000000000000000000000000001ffe14000020000004018008000060000000301e001800000f0000000000000000) (hq : 0x7400457c6 &&& fq = 0x7400457c6)
    (h0 : Fr fm fq fa b) : Fr fm fq fa (b.atomRefuse p r) := by
  refine Fr.step ?_ hm hq h0
  clear h0 hq hm
  unfold Block.atomRefuse
  repeat' (first
    | (show _ = _; exact rfl)
    | with_reducible exact Fr.refl _ _ _
    | with_reducible assumption
    | with_reducible apply Block.endReq_fr
    | with_reducible apply Block.job_fr
    | with_reducible apply Block.logErr_fr
    | split
    | dsimp only)

/-- Frame of `reshape`. -/
theorem Block.reshape_fr {fm fq : Nat} {fa : Block} (b : Block) (p v w : Nat) (atm : Bool) (hm : 0x400000490010008020000000000000000000000000000001ffe14000020000004018008000060000000301e001800000f0000000000000000 &&& fm = 0x400000490010008020000000000000000000000000000001ffe14000020000004018008000060000000301e001800000f0000000000000000) (hq : 0x7400457c6 &&& fq = 0x7400457c6)
    (h0 : Fr fm fq fa b) : Fr fm fq fa (b.reshape p v w atm) := by
  refine Fr.step ?_ hm hq h0
  clear h0 hq hm
  unfold Block.reshape
  repeat' (first
    | (show _ = _; exact rfl)
    | with_reducible exact Fr.refl _ _ _
    | with_reducible assumption
    | with_reducible apply Fr.xMod
    | with_reducible apply Fr.each
    | with_reducible apply Block.atomRefuse_fr
    | with_reducible apply Block.chunkAdjust_fr
    | with_reducible apply Block.endReq_fr
    | with_reducible apply Block.reqSplit_fr
    | with_reducible apply Fr.ite
    | (intro _ _ h)
    | split
    | dsimp only
    | refine Fr.upd (by (repeat' apply And.intro) <;> first | exact Or.inl rfl | exact Or.inr rfl) ?_)

end Sys2Proof.Machine
end

