-- ==== Sys2Proof/Laws/FrWindow.lean ====
section
/-! SUPPORT. The frame of every operation of Machine/Window.lean: the fields and the parts it may change, by bit masks. -/
set_option linter.unusedTactic false
set_option linter.unreachableTactic false
set_option linter.unusedSimpArgs false
set_option linter.unusedVariables false
namespace Sys2Proof.Machine

/-- Frame of `complete`. -/
theorem Block.complete_fr {fm fq : Nat} {fa : Block} (b : Block) (r : HReq) (st : CplSt) (data : List Byte) (hm : 0x0 &&& fm = 0x0) (hq : 0x40000000 &&& fq = 0x40000000)
    (h0 : Fr fm fq fa b) : Fr fm fq fa (b.complete r st data) := by
  refine Fr.step ?_ hm hq h0
  clear h0 hq hm
  unfold Block.complete
  repeat' (first
    | (show _ = _; exact rfl)
    | with_reducible exact Fr.refl _ _ _
    | with_reducible assumption
    | with_reducible apply Block.sendCpl_fr)

/-- Frame of `winMiss`. -/
theorem Block.winMiss_fr {fm fq : Nat} {fa : Block} (b : Block) (r : HReq) (f : Nat) (winB : Bool) (o : Nat) (np : Bool) (hm : 0x490010008020000000000000000000000000000001ffe14000000000000000000000060000000000000000000000000000000000000 &&& fm = 0x490010008020000000000000000000000000000001ffe14000000000000000000000060000000000000000000000000000000000000) (hq : 0x40001200 &&& fq = 0x40001200)
    (h0 : Fr fm fq fa b) : Fr fm fq fa (b.winMiss r f winB o np) := by
  refine Fr.step ?_ hm hq h0
  clear h0 hq hm
  unfold Block.winMiss
  repeat' (first
    | (show _ = _; exact rfl)
    | with_reducible exact Fr.refl _ _ _
    | with_reducible assumption
    | with_reducible apply Block.complete_fr
    | with_reducible apply Block.logErr_fr
    | with_reducible apply Fr.ite
    | split
    | dsimp only)

/-- Frame of `winSize`. -/
theorem Block.winSize_fr {fm fq : Nat} {fa : Block} (b : Block) (r : HReq) (f : Nat) (winB : Bool) (o : Nat) (np : Bool) (hm : 0x490010008020000000000000000000000000000001ffe14000000000000000000000060000000000000000000000000000000000000 &&& fm = 0x490010008020000000000000000000000000000001ffe14000000000000000000000060000000000000000000000000000000000000) (hq : 0x40001200 &&& fq = 0x40001200)
    (h0 : Fr fm fq fa b) : Fr fm fq fa (b.winSize r f winB o np) := by
  refine Fr.step ?_ hm hq h0
  clear h0 hq hm
  unfold Block.winSize
  repeat' (first
    | (show _ = _; exact rfl)
    | with_reducible exact Fr.refl _ _ _
    | with_reducible assumption
    | with_reducible apply Block.complete_fr
    | with_reducible apply Block.logErr_fr
    | with_reducible apply Fr.ite
    | split
    | dsimp only)

/-- Frame of `addJob`. -/
theorem Block.addJob_fr {fm fq : Nat} {fa : Block} (b : Block) (r : HReq) (kind : HKind) (f : Nat) (winB : Bool) (off l0 g : Nat) (ps : List (Nat × Nat)) (hm : 0x0 &&& fm = 0x0) (hq : 0x40004 &&& fq = 0x40004)
    (h0 : Fr fm fq fa b) : Fr fm fq fa (b.addJob r kind f winB off l0 g ps) := by
  refine Fr.step ?_ hm hq h0
  clear h0 hq hm
  unfold Block.addJob
  repeat' (first
    | (show _ = _; exact rfl)
    | with_reducible exact Fr.refl _ _ _
    | with_reducible assumption
    | dsimp only
    | refine Fr.upd (by (repeat' apply And.intro) <;> first | exact Or.inl rfl | exact Or.inr rfl) ?_)

/-- Frame of `winRead`. -/
theorem Block.winRead_fr {fm fq : Nat} {fa : Block} (b : Block) (r : HReq) (f : Nat) (winB : Bool) (off : Nat) (hm : 0x400000490010008020000000000000000000000000000001ffe14000020000004018008000060000000301e001800000f0000000000000000 &&& fm = 0x400000490010008020000000000000000000000000000001ffe14000020000004018008000060000000301e001800000f0000000000000000) (hq : 0x7400457c6 &&& fq = 0x7400457c6)
    (h0 : Fr fm fq fa b) : Fr fm fq fa (b.winRead r f winB off) := by
  refine Fr.step ?_ hm hq h0
  clear h0 hq hm
  unfold Block.winRead
  repeat' (first
    | (show _ = _; exact rfl)
    | with_reducible exact Fr.refl _ _ _
    | with_reducible assumption
    | with_reducible apply Fr.each
    | with_reducible apply Block.addJob_fr
    | with_reducible apply Block.addReq_fr
    | with_reducible apply Block.kick_fr
    | with_reducible apply Block.pfFree_fr
    | with_reducible apply Block.pfLost_fr
    | with_reducible apply Block.pfMod_fr
    | with_reducible apply Block.pieceAns_fr
    | with_reducible apply Block.speculate_fr
    | with_reducible apply Block.winMiss_fr
    | with_reducible apply Block.winSize_fr
    | with_reducible apply Fr.ite
    | (intro _ _ h)
    | split
    | dsimp only
    | refine Fr.upd (by (repeat' apply And.intro) <;> first | exact Or.inl rfl | exact Or.inr rfl) ?_)

/-- Frame of `pfWrite`. -/
theorem Block.pfWrite_fr {fm fq : Nat} {fa : Block} (b : Block) (f p lo len : Nat) (hm : 0x490010008020000000000000000000000000000001ffe14000000000000000000000060000000000000000000040000000000000000 &&& fm = 0x490010008020000000000000000000000000000001ffe14000000000000000000000060000000000000000000040000000000000000) (hq : 0x40001200 &&& fq = 0x40001200)
    (h0 : Fr fm fq fa b) : Fr fm fq fa (b.pfWrite f p lo len) := by
  refine Fr.step ?_ hm hq h0
  clear h0 hq hm
  unfold Block.pfWrite
  repeat' (first
    | (show _ = _; exact rfl)
    | with_reducible exact Fr.refl _ _ _
    | with_reducible assumption
    | with_reducible apply Fr.each
    | with_reducible apply Block.pfDiscard_fr
    | (intro _ _ h)
    | dsimp only)

/-- Frame of `winWrite`. -/
theorem Block.winWrite_fr {fm fq : Nat} {fa : Block} (b : Block) (r : HReq) (f : Nat) (winB : Bool) (off : Nat) (hm : 0x400000490010008020000000000000000000000000000001ffe14000020000004018008000060000000301e001800000f0000000000000000 &&& fm = 0x400000490010008020000000000000000000000000000001ffe14000020000004018008000060000000301e001800000f0000000000000000) (hq : 0x7400457c6 &&& fq = 0x7400457c6)
    (h0 : Fr fm fq fa b) : Fr fm fq fa (b.winWrite r f winB off) := by
  refine Fr.step ?_ hm hq h0
  clear h0 hq hm
  unfold Block.winWrite
  repeat' (first
    | (show _ = _; exact rfl)
    | with_reducible exact Fr.refl _ _ _
    | with_reducible assumption
    | with_reducible apply Fr.each
    | with_reducible apply Block.addReq_fr
    | with_reducible apply Block.kick_fr
    | with_reducible apply Block.logErr_fr
    | with_reducible apply Block.pfWrite_fr
    | with_reducible apply Block.winMiss_fr
    | with_reducible apply Block.winSize_fr
    | with_reducible apply Fr.ite
    | (intro _ _ h)
    | split
    | dsimp only)

/-- Frame of `winAtomic`. -/
theorem Block.winAtomic_fr {fm fq : Nat} {fa : Block} (b : Block) (r : HReq) (f : Nat) (winB : Bool) (off : Nat) (op : AtmOp) (hm : 0x400000490010008020000000000000000000000000000001ffe14000020000004018008000060000000301e001800000f0000000000000000 &&& fm = 0x400000490010008020000000000000000000000000000001ffe14000020000004018008000060000000301e001800000f0000000000000000) (hq : 0x7400457c6 &&& fq = 0x7400457c6)
    (h0 : Fr fm fq fa b) : Fr fm fq fa (b.winAtomic r f winB off op) := by
  refine Fr.step ?_ hm hq h0
  clear h0 hq hm
  unfold Block.winAtomic
  repeat' (first
    | (show _ = _; exact rfl)
    | with_reducible exact Fr.refl _ _ _
    | with_reducible assumption
    | with_reducible apply Block.addJob_fr
    | with_reducible apply Block.addReq_fr
    | with_reducible apply Block.complete_fr
    | with_reducible apply Block.kick_fr
    | with_reducible apply Block.logErr_fr
    | with_reducible apply Block.pfWrite_fr
    | with_reducible apply Block.winMiss_fr
    | with_reducible apply Fr.ite
    | split
    | dsimp only
    | refine Fr.upd (by (repeat' apply And.intro) <;> first | exact Or.inl rfl | exact Or.inr rfl) ?_)

end Sys2Proof.Machine
end

