-- ==== Sys2Proof/Laws/FrLocalMaster.lean ====
section
/-! SUPPORT. The frame of every operation of Machine/LocalMaster.lean: the fields and the parts it may change, by bit masks. -/
set_option linter.unusedTactic false
set_option linter.unreachableTactic false
set_option linter.unusedSimpArgs false
set_option linter.unusedVariables false
namespace Sys2Proof.Machine

/-- Frame of `xlTouch`. -/
theorem Block.xlTouch_fr {fm fq : Nat} {fa : Block} (b : Block) (id : Nat) (hm : 0x0 &&& fm = 0x0) (hq : 0x80004 &&& fq = 0x80004)
    (h0 : Fr fm fq fa b) : Fr fm fq fa (b.xlTouch id) := by
  refine Fr.step ?_ hm hq h0
  clear h0 hq hm
  unfold Block.xlTouch
  repeat' (first
    | (show _ = _; exact rfl)
    | with_reducible exact Fr.refl _ _ _
    | with_reducible assumption
    | dsimp only
    | refine Fr.upd (by (repeat' apply And.intro) <;> first | exact Or.inl rfl | exact Or.inr rfl) ?_)

/-- Frame of `pumpXl`. -/
theorem Block.pumpXl_fr {fm fq : Nat} {fa : Block} (b : Block) (f : Nat) (hm : 0x4018008000000000000000000000000000000000000000000 &&& fm = 0x4018008000000000000000000000000000000000000000000) (hq : 0x440005306 &&& fq = 0x440005306)
    (h0 : Fr fm fq fa b) : Fr fm fq fa (b.pumpXl f) := by
  refine Fr.step ?_ hm hq h0
  clear h0 hq hm
  unfold Block.pumpXl
  repeat' (first
    | (show _ = _; exact rfl)
    | with_reducible exact Fr.refl _ _ _
    | with_reducible assumption
    | with_reducible apply Fr.each
    | with_reducible apply Block.addNp_fr
    | with_reducible apply Fr.ite
    | (intro _ _ h)
    | split
    | dsimp only)

/-- Frame of `xlMiss`. -/
theorem Block.xlMiss_fr {fm fq : Nat} {fa : Block} (b : Block) (f : Nat) (pasid : Option Nat) (addr : Nat) (w : XlWait) (hm : 0x4018008000000000000000000000000000000000000000000 &&& fm = 0x4018008000000000000000000000000000000000000000000) (hq : 0x440005306 &&& fq = 0x440005306)
    (h0 : Fr fm fq fa b) : Fr fm fq fa (b.xlMiss f pasid addr w) := by
  refine Fr.step ?_ hm hq h0
  clear h0 hq hm
  unfold Block.xlMiss
  repeat' (first
    | (show _ = _; exact rfl)
    | with_reducible exact Fr.refl _ _ _
    | with_reducible assumption
    | with_reducible apply Fr.fnMod
    | with_reducible apply Fr.newId
    | with_reducible apply Block.pumpXl_fr
    | with_reducible apply Fr.ite
    | split
    | dsimp only
    | refine Fr.upd (by (repeat' apply And.intro) <;> first | exact Or.inl rfl | exact Or.inr rfl) ?_)

/-- Frame of `xlLog`. -/
theorem Block.xlLog_fr {fm fq : Nat} {fa : Block} (b : Block) (f reason addr len : Nat) (pasid : Option Nat) (hm : 0x490010008020000000000000000000000000000001ffe14000000000000000000000060000000000000000000000000000000000000 &&& fm = 0x490010008020000000000000000000000000000001ffe14000000000000000000000060000000000000000000000000000000000000) (hq : 0x40001200 &&& fq = 0x40001200)
    (h0 : Fr fm fq fa b) : Fr fm fq fa (b.xlLog f reason addr len pasid) := by
  refine Fr.step ?_ hm hq h0
  clear h0 hq hm
  unfold Block.xlLog
  repeat' (first
    | (show _ = _; exact rfl)
    | with_reducible exact Fr.refl _ _ _
    | with_reducible assumption
    | with_reducible apply Block.logErr_fr)

/-- Frame of `lmMod`. -/
theorem Block.lmMod_fr {fm fq : Nat} {fa : Block} (b : Block) (p arr : Nat) (g : LmReq → LmReq) (hm : 0x0 &&& fm = 0x0) (hq : 0x40 &&& fq = 0x40)
    (h0 : Fr fm fq fa b) : Fr fm fq fa (b.lmMod p arr g) := by
  refine Fr.step ?_ hm hq h0
  clear h0 hq hm
  unfold Block.lmMod
  repeat' (first
    | (show _ = _; exact rfl)
    | with_reducible exact Fr.refl _ _ _
    | with_reducible assumption
    | with_reducible apply Fr.xMod
    | dsimp only
    | refine Fr.upd (by (repeat' apply And.intro) <;> first | exact Or.inl rfl | exact Or.inr rfl) ?_)

/-- Frame of `lmAnswer`. -/
theorem Block.lmAnswer_fr {fm fq : Nat} {fa : Block} (b : Block) (p : Nat) (m : LmReq) (code cause : Nat) (pvec : Nat) (data : List Byte) (hm : 0x20000000000000000000000000000000000000000000000000000000 &&& fm = 0x20000000000000000000000000000000000000000000000000000000) (hq : 0x7400040c2 &&& fq = 0x7400040c2)
    (h0 : Fr fm fq fa b) : Fr fm fq fa (b.lmAnswer p m code cause pvec data) := by
  refine Fr.step ?_ hm hq h0
  clear h0 hq hm
  unfold Block.lmAnswer
  repeat' (first
    | (show _ = _; exact rfl)
    | with_reducible exact Fr.refl _ _ _
    | with_reducible assumption
    | with_reducible apply Fr.xMod
    | with_reducible apply Block.cross_fr
    | with_reducible apply Block.respond_fr
    | with_reducible apply Fr.ite
    | split
    | dsimp only
    | refine Fr.upd (by (repeat' apply And.intro) <;> first | exact Or.inl rfl | exact Or.inr rfl) ?_)

/-- Frame of `lmTry`. -/
theorem Block.lmTry_fr {fm fq : Nat} {fa : Block} (b : Block) (p arr : Nat) (hm : 0x20000000000000000000000000000000000000000000000000000000 &&& fm = 0x20000000000000000000000000000000000000000000000000000000) (hq : 0x7400040c2 &&& fq = 0x7400040c2)
    (h0 : Fr fm fq fa b) : Fr fm fq fa (b.lmTry p arr) := by
  refine Fr.step ?_ hm hq h0
  clear h0 hq hm
  unfold Block.lmTry
  repeat' (first
    | (show _ = _; exact rfl)
    | with_reducible exact Fr.refl _ _ _
    | with_reducible assumption
    | with_reducible apply Block.lm_fr
    | with_reducible apply Block.lmAnswer_fr
    | with_reducible apply Fr.ite
    | split
    | dsimp only)

/-- Frame of `lmFail`. -/
theorem Block.lmFail_fr {fm fq : Nat} {fa : Block} (b : Block) (p arr code cause : Nat) (hm : 0x20000000000000000000000000000000000000000000000000000000 &&& fm = 0x20000000000000000000000000000000000000000000000000000000) (hq : 0x7400040c2 &&& fq = 0x7400040c2)
    (h0 : Fr fm fq fa b) : Fr fm fq fa (b.lmFail p arr code cause) := by
  refine Fr.step ?_ hm hq h0
  clear h0 hq hm
  unfold Block.lmFail
  repeat' (first
    | (show _ = _; exact rfl)
    | with_reducible exact Fr.refl _ _ _
    | with_reducible assumption
    | with_reducible apply Block.lmMod_fr
    | with_reducible apply Block.lmTry_fr
    | split
    | dsimp only
    | refine Fr.upd (by (repeat' apply And.intro) <;> first | exact Or.inl rfl | exact Or.inr rfl) ?_)

/-- Frame of `lmIssue`. -/
theorem Block.lmIssue_fr {fm fq : Nat} {fa : Block} (b : Block) (p : Nat) (m : LmReq) (host : Nat) (ent : Option Nat) (hm : 0x490010008020000000000000000000000000000001ffe14000020000004018008000060000000000000000000000000000000000000 &&& fm = 0x490010008020000000000000000000000000000001ffe14000020000004018008000060000000000000000000000000000000000000) (hq : 0x7400053c6 &&& fq = 0x7400053c6)
    (h0 : Fr fm fq fa b) : Fr fm fq fa (b.lmIssue p m host ent) := by
  refine Fr.step ?_ hm hq h0
  clear h0 hq hm
  unfold Block.lmIssue
  repeat' (first
    | (show _ = _; exact rfl)
    | with_reducible exact Fr.refl _ _ _
    | with_reducible assumption
    | with_reducible apply Fr.each
    | with_reducible apply Block.addNp_fr
    | with_reducible apply Block.lmMod_fr
    | with_reducible apply Block.lmTry_fr
    | with_reducible apply Block.logErr_fr
    | with_reducible apply Block.post_fr
    | with_reducible apply Fr.ite
    | (intro _ _ h)
    | split
    | dsimp only
    | refine Fr.upd (by (repeat' apply And.intro) <;> first | exact Or.inl rfl | exact Or.inr rfl) ?_)

/-- Frame of `lmStart`. -/
theorem Block.lmStart_fr {fm fq : Nat} {fa : Block} (b : Block) (p : Nat) (m : LmReq) (hm : 0x490010008020000000000000000000000000000001ffe14000020000004018008000060000000000000000000000000000000000000 &&& fm = 0x490010008020000000000000000000000000000001ffe14000020000004018008000060000000000000000000000000000000000000) (hq : 0x7400853c6 &&& fq = 0x7400853c6)
    (h0 : Fr fm fq fa b) : Fr fm fq fa (b.lmStart p m) := by
  refine Fr.step ?_ hm hq h0
  clear h0 hq hm
  unfold Block.lmStart
  repeat' (first
    | (show _ = _; exact rfl)
    | with_reducible exact Fr.refl _ _ _
    | with_reducible assumption
    | with_reducible apply Block.lmAnswer_fr
    | with_reducible apply Block.lmIssue_fr
    | with_reducible apply Block.lmMod_fr
    | with_reducible apply Block.xlLog_fr
    | with_reducible apply Block.xlMiss_fr
    | with_reducible apply Block.xlTouch_fr
    | with_reducible apply Fr.ite
    | split
    | dsimp only
    | refine Fr.upd (by (repeat' apply And.intro) <;> first | exact Or.inl rfl | exact Or.inr rfl) ?_)

/-- Frame of `protoErr`. -/
theorem Block.protoErr_fr {fm fq : Nat} {fa : Block} (b : Block) (p row : Nat) (f? : Option Nat) (hdr : Nat) (hm : 0x490010008020000000000000000000000000000001ffe14000000000000000000000060000000000000000000000000000000040000 &&& fm = 0x490010008020000000000000000000000000000001ffe14000000000000000000000060000000000000000000000000000000040000) (hq : 0x40001200 &&& fq = 0x40001200)
    (h0 : Fr fm fq fa b) : Fr fm fq fa (b.protoErr p row f? hdr) := by
  refine Fr.step ?_ hm hq h0
  clear h0 hq hm
  unfold Block.protoErr
  repeat' (first
    | (show _ = _; exact rfl)
    | with_reducible exact Fr.refl _ _ _
    | with_reducible assumption
    | with_reducible apply Fr.incSat
    | with_reducible apply Block.logErr_fr
    | split
    | dsimp only)

/-- Frame of `lmTake`. -/
theorem Block.lmTake_fr {fm fq : Nat} {fa : Block} (b : Block) (p n : Nat) (hm : 0x20000000000000000000000000000000000000000000000000000000 &&& fm = 0x20000000000000000000000000000000000000000000000000000000) (hq : 0x1400040c0 &&& fq = 0x1400040c0)
    (h0 : Fr fm fq fa b) : Fr fm fq fa (b.lmTake p n) := by
  refine Fr.step ?_ hm hq h0
  clear h0 hq hm
  unfold Block.lmTake
  repeat' (first
    | (show _ = _; exact rfl)
    | with_reducible exact Fr.refl _ _ _
    | with_reducible assumption
    | with_reducible apply Fr.xMod
    | with_reducible apply Block.retReq_fr
    | dsimp only
    | refine Fr.upd (by (repeat' apply And.intro) <;> first | exact Or.inl rfl | exact Or.inr rfl) ?_)

/-- Frame of `wrNote`. -/
theorem Block.wrNote_fr {fm fq : Nat} {fa : Block} (b : Block) (p arr op code cause : Nat) (hm : 0x0 &&& fm = 0x0) (hq : 0x40 &&& fq = 0x40)
    (h0 : Fr fm fq fa b) : Fr fm fq fa (b.wrNote p arr op code cause) := by
  refine Fr.step ?_ hm hq h0
  clear h0 hq hm
  unfold Block.wrNote
  repeat' (first
    | (show _ = _; exact rfl)
    | with_reducible exact Fr.refl _ _ _
    | with_reducible assumption
    | with_reducible apply Fr.xMod
    | with_reducible apply Fr.ite
    | split
    | dsimp only
    | refine Fr.upd (by (repeat' apply And.intro) <;> first | exact Or.inl rfl | exact Or.inr rfl) ?_)

/-- Frame of `lmDecode`. -/
theorem Block.lmDecode_fr {fm fq : Nat} {fa : Block} (b : Block) (p : Nat) (m : LmReq) (hm : 0x490010008020000000000000000000000000000001ffe14000020000000000000000060000000000000000000000000000000000000 &&& fm = 0x490010008020000000000000000000000000000001ffe14000020000000000000000060000000000000000000000000000000000000) (hq : 0x7400052c2 &&& fq = 0x7400052c2)
    (h0 : Fr fm fq fa b) : Fr fm fq fa (b.lmDecode p m) := by
  refine Fr.step ?_ hm hq h0
  clear h0 hq hm
  unfold Block.lmDecode
  repeat' (first
    | (show _ = _; exact rfl)
    | with_reducible exact Fr.refl _ _ _
    | with_reducible assumption
    | with_reducible apply Block.cross_fr
    | with_reducible apply Block.lmAnswer_fr
    | with_reducible apply Block.lmMod_fr
    | with_reducible apply Block.logErr_fr
    | with_reducible apply Fr.ite
    | split
    | dsimp only
    | refine Fr.upd (by (repeat' apply And.intro) <;> first | exact Or.inl rfl | exact Or.inr rfl) ?_)

/-- Frame of `lmTurn`. -/
theorem Block.lmTurn_fr {fm fq : Nat} {fa : Block} (b : Block) (p arr : Nat) (hm : 0x490010008020000000000000000000000000000001ffe14000020000004018008000060000000000000000000000000000000000000 &&& fm = 0x490010008020000000000000000000000000000001ffe14000020000004018008000060000000000000000000000000000000000000) (hq : 0x7400853c6 &&& fq = 0x7400853c6)
    (h0 : Fr fm fq fa b) : Fr fm fq fa (b.lmTurn p arr) := by
  refine Fr.step ?_ hm hq h0
  clear h0 hq hm
  unfold Block.lmTurn
  repeat' (first
    | (show _ = _; exact rfl)
    | with_reducible exact Fr.refl _ _ _
    | with_reducible assumption
    | with_reducible apply Block.lm_fr
    | with_reducible apply Block.lmDecode_fr
    | with_reducible apply Block.lmStart_fr
    | with_reducible apply Fr.ite
    | split
    | dsimp only)

/-- Frame of `lmPump`. -/
theorem Block.lmPump_fr {fm fq : Nat} {fa : Block} (b : Block) (p : Nat) (hm : 0x490010008020000000000000000000000000000001ffe14000020000004018008000060000000000000000000000000000000000000 &&& fm = 0x490010008020000000000000000000000000000001ffe14000020000004018008000060000000000000000000000000000000000000) (hq : 0x7400853c6 &&& fq = 0x7400853c6)
    (h0 : Fr fm fq fa b) : Fr fm fq fa (b.lmPump p) := by
  refine Fr.step ?_ hm hq h0
  clear h0 hq hm
  unfold Block.lmPump
  repeat' (first
    | (show _ = _; exact rfl)
    | with_reducible exact Fr.refl _ _ _
    | with_reducible assumption
    | with_reducible apply Fr.each
    | with_reducible apply Block.lmTurn_fr
    | with_reducible apply Fr.ite
    | (intro _ _ h)
    | split
    | dsimp only)

/-- Frame of `lmArrive`. -/
theorem Block.lmArrive_fr {fm fq : Nat} {fa : Block} (b : Block) (p op : Nat) (h : LmHdr) (aop asz : Nat) (hm : 0x400000490010008020000000000000000000000000000001ffe14000020000004018008000060008000301e001800000f00004000000c0800 &&& fm = 0x400000490010008020000000000000000000000000000001ffe14000020000004018008000060008000301e001800000f00004000000c0800) (hq : 0x7400c57c6 &&& fq = 0x7400c57c6)
    (h0 : Fr fm fq fa b) : Fr fm fq fa (b.lmArrive p op h aop asz) := by
  refine Fr.step ?_ hm hq h0
  clear h0 hq hm
  unfold Block.lmArrive
  repeat' (first
    | (show _ = _; exact rfl)
    | with_reducible exact Fr.refl _ _ _
    | with_reducible assumption
    | with_reducible apply Fr.xMod
    | with_reducible apply Block.fence_fr
    | with_reducible apply Block.lmPump_fr
    | with_reducible apply Block.lmTake_fr
    | with_reducible apply Block.protoErr_fr
    | with_reducible apply Block.respond_fr
    | with_reducible apply Block.wrNote_fr
    | with_reducible apply Fr.ite
    | split
    | dsimp only
    | refine Fr.upd (by (repeat' apply And.intro) <;> first | exact Or.inl rfl | exact Or.inr rfl) ?_)

/-- Frame of `flushStep`. -/
theorem Block.flushStep_fr {fm fq : Nat} {fa : Block} (b : Block) (p : Nat) (hm : 0x20000004018008000000000000000000000000000000000000000000 &&& fm = 0x20000004018008000000000000000000000000000000000000000000) (hq : 0x7400053c6 &&& fq = 0x7400053c6)
    (h0 : Fr fm fq fa b) : Fr fm fq fa (b.flushStep p) := by
  refine Fr.step ?_ hm hq h0
  clear h0 hq hm
  unfold Block.flushStep
  repeat' (first
    | (show _ = _; exact rfl)
    | with_reducible exact Fr.refl _ _ _
    | with_reducible assumption
    | with_reducible apply Fr.xMod
    | with_reducible apply Fr.each
    | with_reducible apply Block.addNp_fr
    | with_reducible apply Block.lmAnswer_fr
    | with_reducible apply Block.lmMod_fr
    | with_reducible apply Fr.ite
    | (intro _ _ h)
    | split
    | dsimp only
    | refine Fr.upd (by (repeat' apply And.intro) <;> first | exact Or.inl rfl | exact Or.inr rfl) ?_)

end Sys2Proof.Machine
end

