-- ==== Sys2Proof/Laws/FrQueue.lean ====
section
/-! SUPPORT. The frame of every operation of Machine/Queue.lean: the fields and the parts it may change, by bit masks. -/
set_option linter.unusedTactic false
set_option linter.unreachableTactic false
set_option linter.unusedSimpArgs false
set_option linter.unusedVariables false
namespace Sys2Proof.Machine

/-- Frame of `unpark`. -/
theorem Block.unpark_fr {fm fq : Nat} {fa : Block} (b : Block) (i : Nat) (hm : 0x0 &&& fm = 0x0) (hq : 0x600000 &&& fq = 0x600000)
    (h0 : Fr fm fq fa b) : Fr fm fq fa (b.unpark i) := by
  refine Fr.step ?_ hm hq h0
  clear h0 hq hm
  unfold Block.unpark
  repeat' (first
    | (show _ = _; exact rfl)
    | with_reducible exact Fr.refl _ _ _
    | with_reducible assumption
    | split
    | dsimp only
    | refine Fr.upd (by (repeat' apply And.intro) <;> first | exact Or.inl rfl | exact Or.inr rfl) ?_)

/-- Frame of `descRead`. -/
theorem Block.descRead_fr {fm fq : Nat} {fa : Block} (b : Block) (f n k : Nat) (hm : 0x40000000000000800000000000000000000000000000000000000000020000004018008000020000000301e00180000000000000000000000 &&& fm = 0x40000000000000800000000000000000000000000000000000000000020000004018008000020000000301e00180000000000000000000000) (hq : 0x5400057c6 &&& fq = 0x5400057c6)
    (h0 : Fr fm fq fa b) : Fr fm fq fa (b.descRead f n k) := by
  refine Fr.step ?_ hm hq h0
  clear h0 hq hm
  unfold Block.descRead
  repeat' (first
    | (show _ = _; exact rfl)
    | with_reducible exact Fr.refl _ _ _
    | with_reducible assumption
    | with_reducible apply Fr.quMod
    | with_reducible apply Fr.each
    | with_reducible apply Block.addNp_fr
    | with_reducible apply Block.haltQ_fr
    | with_reducible apply Fr.ite
    | (intro _ _ h)
    | split
    | dsimp only
    | refine Fr.upd (by (repeat' apply And.intro) <;> first | exact Or.inl rfl | exact Or.inr rfl) ?_)

/-- Frame of `indexFetch`. -/
theorem Block.indexFetch_fr {fm fq : Nat} {fa : Block} (b : Block) (f n : Nat) (hint : Option Nat) (hm : 0x40000000000000800000000000000000000000000000000000000000020000004018008000020000000301e00980000000000000000000000 &&& fm = 0x40000000000000800000000000000000000000000000000000000000020000004018008000020000000301e00980000000000000000000000) (hq : 0x5400057c6 &&& fq = 0x5400057c6)
    (h0 : Fr fm fq fa b) : Fr fm fq fa (b.indexFetch f n hint) := by
  refine Fr.step ?_ hm hq h0
  clear h0 hq hm
  unfold Block.indexFetch
  repeat' (first
    | (show _ = _; exact rfl)
    | with_reducible exact Fr.refl _ _ _
    | with_reducible assumption
    | with_reducible apply Fr.wr
    | with_reducible apply Fr.quMod
    | with_reducible apply Block.addNp_fr
    | with_reducible apply Block.descRead_fr
    | with_reducible apply Block.haltQ_fr
    | with_reducible apply Fr.ite
    | split
    | dsimp only
    | refine Fr.upd (by (repeat' apply And.intro) <;> first | exact Or.inl rfl | exact Or.inr rfl) ?_)

/-- Frame of `fragRead`. -/
theorem Block.fragRead_fr {fm fq : Nat} {fa : Block} (b : Block) (f n : Nat) (r : DescRun) (hm : 0x40000000000000800000000000000000000000000000000000000000020000004018008000020000000301e00180000000000000000000000 &&& fm = 0x40000000000000800000000000000000000000000000000000000000020000004018008000020000000301e00180000000000000000000000) (hq : 0x5400057c6 &&& fq = 0x5400057c6)
    (h0 : Fr fm fq fa b) : Fr fm fq fa (b.fragRead f n r) := by
  refine Fr.step ?_ hm hq h0
  clear h0 hq hm
  unfold Block.fragRead
  repeat' (first
    | (show _ = _; exact rfl)
    | with_reducible exact Fr.refl _ _ _
    | with_reducible assumption
    | with_reducible apply Fr.quMod
    | with_reducible apply Block.addNp_fr
    | with_reducible apply Block.haltQ_fr
    | with_reducible apply Fr.ite
    | split
    | dsimp only
    | refine Fr.upd (by (repeat' apply And.intro) <;> first | exact Or.inl rfl | exact Or.inr rfl) ?_)

/-- Frame of `fragPump`. -/
theorem Block.fragPump_fr {fm fq : Nat} {fa : Block} (b : Block) (f n : Nat) (hm : 0x400000490010008020000000000000000000000000000001ffe14000020000004018008000060008000301e001800000f0000400000080800 &&& fm = 0x400000490010008020000000000000000000000000000001ffe14000020000004018008000060008000301e001800000f0000400000080800) (hq : 0x7400457c6 &&& fq = 0x7400457c6)
    (h0 : Fr fm fq fa b) : Fr fm fq fa (b.fragPump f n) := by
  refine Fr.step ?_ hm hq h0
  clear h0 hq hm
  unfold Block.fragPump
  repeat' (first
    | (show _ = _; exact rfl)
    | with_reducible exact Fr.refl _ _ _
    | with_reducible assumption
    | with_reducible apply Fr.each
    | with_reducible apply Block.fence_fr
    | with_reducible apply Block.fragRead_fr
    | with_reducible apply Fr.ite
    | (intro _ _ h)
    | split
    | dsimp only)

/-- Frame of `curShow`. -/
theorem Block.curShow_fr {fm fq : Nat} {fa : Block} (b : Block) (f n : Nat) (hm : 0xe0000000000000000000000000 &&& fm = 0xe0000000000000000000000000) (hq : 0x0 &&& fq = 0x0)
    (h0 : Fr fm fq fa b) : Fr fm fq fa (b.curShow f n) := by
  refine Fr.step ?_ hm hq h0
  clear h0 hq hm
  unfold Block.curShow
  repeat' (first
    | (show _ = _; exact rfl)
    | with_reducible exact Fr.refl _ _ _
    | with_reducible assumption
    | with_reducible apply Fr.wr
    | split)

/-- Frame of `qComplete`. -/
theorem Block.qComplete_fr {fm fq : Nat} {fa : Block} (b : Block) (f n : Nat) (r : DescRun) (hm : 0x400000000000000000000000000000000000000000000000000000000000000040180080000000000000060e8000000000000000000000000 &&& fm = 0x400000000000000000000000000000000000000000000000000000000000000040180080000000000000060e8000000000000000000000000) (hq : 0x440005500 &&& fq = 0x440005500)
    (h0 : Fr fm fq fa b) : Fr fm fq fa (b.qComplete f n r) := by
  refine Fr.step ?_ hm hq h0
  clear h0 hq hm
  unfold Block.qComplete
  repeat' (first
    | (show _ = _; exact rfl)
    | with_reducible exact Fr.refl _ _ _
    | with_reducible assumption
    | with_reducible apply Fr.wr
    | with_reducible apply Fr.incSat
    | with_reducible apply Fr.quMod
    | with_reducible apply Block.curShow_fr
    | with_reducible apply Block.headWb_fr
    | with_reducible apply Fr.ite
    | split
    | dsimp only
    | refine Fr.upd (by (repeat' apply And.intro) <;> first | exact Or.inl rfl | exact Or.inr rfl) ?_)

/-- Frame of `qRetire`. -/
theorem Block.qRetire_fr {fm fq : Nat} {fa : Block} (b : Block) (f n : Nat) (k : Nat) (hm : 0x400000000000000000000000000000000000000000000000000000000000000040180080000000000000060e8000000000000000000000000 &&& fm = 0x400000000000000000000000000000000000000000000000000000000000000040180080000000000000060e8000000000000000000000000) (hq : 0x440005500 &&& fq = 0x440005500)
    (h0 : Fr fm fq fa b) : Fr fm fq fa (b.qRetire f n k) := by
  refine Fr.step ?_ hm hq h0
  clear h0 hq hm
  induction k generalizing b with
  | zero => unfold Block.qRetire; exact Fr.refl _ _ _
  | succ k ih =>
  unfold Block.qRetire
  repeat' (first
    | (show _ = _; exact rfl)
    | with_reducible exact Fr.refl _ _ _
    | with_reducible assumption
    | with_reducible refine Fr.trans ?_ (ih _)
    | with_reducible apply Block.qComplete_fr
    | with_reducible apply Fr.ite
    | split)

/-- Frame of `qCommit`. -/
theorem Block.qCommit_fr {fm fq : Nat} {fa : Block} (b : Block) (f n : Nat) (k : Nat) (hm : 0x400000000000000000000000000000000000000000000000000000000000000040180080000000000000060e8000000000000000000000000 &&& fm = 0x400000000000000000000000000000000000000000000000000000000000000040180080000000000000060e8000000000000000000000000) (hq : 0x440005500 &&& fq = 0x440005500)
    (h0 : Fr fm fq fa b) : Fr fm fq fa (b.qCommit f n k) := by
  refine Fr.step ?_ hm hq h0
  clear h0 hq hm
  induction k generalizing b with
  | zero => unfold Block.qCommit; exact Fr.refl _ _ _
  | succ k ih =>
  unfold Block.qCommit
  repeat' (first
    | (show _ = _; exact rfl)
    | with_reducible exact Fr.refl _ _ _
    | with_reducible assumption
    | with_reducible refine Fr.trans ?_ (ih _)
    | with_reducible apply Fr.quMod
    | with_reducible apply Block.curShow_fr
    | with_reducible apply Block.qRetire_fr
    | with_reducible apply Fr.ite
    | split
    | dsimp only
    | refine Fr.upd (by (repeat' apply And.intro) <;> first | exact Or.inl rfl | exact Or.inr rfl) ?_)

/-- Frame of `touchAll`. -/
theorem Block.touchAll_fr {fm fq : Nat} {fa : Block} (b : Block) (l : List (Nat × Option Nat)) (hm : 0x0 &&& fm = 0x0) (hq : 0x80004 &&& fq = 0x80004)
    (h0 : Fr fm fq fa b) : Fr fm fq fa (b.touchAll l) := by
  refine Fr.step ?_ hm hq h0
  clear h0 hq hm
  unfold Block.touchAll
  repeat' (first
    | (show _ = _; exact rfl)
    | with_reducible exact Fr.refl _ _ _
    | with_reducible assumption
    | with_reducible apply Fr.each
    | with_reducible apply Block.xlTouch_fr
    | (intro _ _ h)
    | split
    | dsimp only)

/-- Frame of `chunkMod`. -/
theorem Block.chunkMod_fr {fm fq : Nat} {fa : Block} (b : Block) (q cid : Nat) (g : Chunk → Chunk) (hm : 0x0 &&& fm = 0x0) (hq : 0x400 &&& fq = 0x400)
    (h0 : Fr fm fq fa b) : Fr fm fq fa (b.chunkMod q cid g) := by
  refine Fr.step ?_ hm hq h0
  clear h0 hq hm
  unfold Block.chunkMod
  repeat' (first
    | (show _ = _; exact rfl)
    | with_reducible exact Fr.refl _ _ _
    | with_reducible assumption
    | with_reducible apply Fr.quMod
    | dsimp only
    | refine Fr.upd (by (repeat' apply And.intro) <;> first | exact Or.inl rfl | exact Or.inr rfl) ?_)

/-- Frame of `chunkXlHalt`. -/
theorem Block.chunkXlHalt_fr {fm fq : Nat} {fa : Block} (b : Block) (f n cid : Nat) (hm : 0x40000000000000800000000000000000000000000000000000000000020000004018008000020000000301e00180000000000000000000000 &&& fm = 0x40000000000000800000000000000000000000000000000000000000020000004018008000020000000301e00180000000000000000000000) (hq : 0x5400057c0 &&& fq = 0x5400057c0)
    (h0 : Fr fm fq fa b) : Fr fm fq fa (b.chunkXlHalt f n cid) := by
  refine Fr.step ?_ hm hq h0
  clear h0 hq hm
  unfold Block.chunkXlHalt
  repeat' (first
    | (show _ = _; exact rfl)
    | with_reducible exact Fr.refl _ _ _
    | with_reducible assumption
    | with_reducible apply Fr.quMod
    | with_reducible apply Block.haltQ_fr
    | dsimp only
    | refine Fr.upd (by (repeat' apply And.intro) <;> first | exact Or.inl rfl | exact Or.inr rfl) ?_)

/-- Frame of `chunkXlFail`. -/
theorem Block.chunkXlFail_fr {fm fq : Nat} {fa : Block} (b : Block) (f n cid why addr len : Nat) (pasid : Option Nat) (hm : 0x400000490010008020000000000000000000000000000001ffe14000020000004018008000060000000301e00180000000000000000000000 &&& fm = 0x400000490010008020000000000000000000000000000001ffe14000020000004018008000060000000301e00180000000000000000000000) (hq : 0x5400057c0 &&& fq = 0x5400057c0)
    (h0 : Fr fm fq fa b) : Fr fm fq fa (b.chunkXlFail f n cid why addr len pasid) := by
  refine Fr.step ?_ hm hq h0
  clear h0 hq hm
  unfold Block.chunkXlFail
  repeat' (first
    | (show _ = _; exact rfl)
    | with_reducible exact Fr.refl _ _ _
    | with_reducible assumption
    | with_reducible apply Block.chunkXlHalt_fr
    | with_reducible apply Block.xlLog_fr)

/-- Frame of `chunkSend`. -/
theorem Block.chunkSend_fr {fm fq : Nat} {fa : Block} (b : Block) (f n cid : Nat) (isW : Bool) (l : List CReq) (grp : Nat) (hm : 0x400000490010008020000000000000000000000000000001ffe14000020000004018008000060000000301e001800000f0000000000000000 &&& fm = 0x400000490010008020000000000000000000000000000001ffe14000020000004018008000060000000301e001800000f0000000000000000) (hq : 0x7400457c6 &&& fq = 0x7400457c6)
    (h0 : Fr fm fq fa b) : Fr fm fq fa (b.chunkSend f n cid isW l grp) := by
  refine Fr.step ?_ hm hq h0
  clear h0 hq hm
  unfold Block.chunkSend
  repeat' (first
    | (show _ = _; exact rfl)
    | with_reducible exact Fr.refl _ _ _
    | with_reducible assumption
    | with_reducible apply Fr.wr
    | with_reducible apply Fr.quMod
    | with_reducible apply Fr.each
    | with_reducible apply Block.addNp_fr
    | with_reducible apply Block.addReq_fr
    | with_reducible apply Block.chunkMod_fr
    | with_reducible apply Block.post_fr
    | with_reducible apply Block.qFail_fr
    | with_reducible apply Fr.ite
    | (intro _ _ h)
    | split
    | dsimp only
    | refine Fr.upd (by (repeat' apply And.intro) <;> first | exact Or.inl rfl | exact Or.inr rfl) ?_)

/-- Frame of `chunkReads`. -/
theorem Block.chunkReads_fr {fm fq : Nat} {fa : Block} (b : Block) (f n cid : Nat) (hm : 0x400000490010008020000000000000000000000000000001ffe14000020000004018008000060000000301e001800000f0000000000000000 &&& fm = 0x400000490010008020000000000000000000000000000001ffe14000020000004018008000060000000301e001800000f0000000000000000) (hq : 0x7400c57c6 &&& fq = 0x7400c57c6)
    (h0 : Fr fm fq fa b) : Fr fm fq fa (b.chunkReads f n cid) := by
  refine Fr.step ?_ hm hq h0
  clear h0 hq hm
  unfold Block.chunkReads
  repeat' (first
    | (show _ = _; exact rfl)
    | with_reducible exact Fr.refl _ _ _
    | with_reducible assumption
    | with_reducible apply Block.chunkMod_fr
    | with_reducible apply Block.chunkSend_fr
    | with_reducible apply Block.chunkXlFail_fr
    | with_reducible apply Block.kick_fr
    | with_reducible apply Block.touchAll_fr
    | with_reducible apply Block.xlMiss_fr
    | with_reducible apply Fr.ite
    | split
    | dsimp only
    | refine Fr.upd (by (repeat' apply And.intro) <;> first | exact Or.inl rfl | exact Or.inr rfl) ?_)

/-- Frame of `chunkWrites`. -/
theorem Block.chunkWrites_fr {fm fq : Nat} {fa : Block} (b : Block) (f n : Nat) (c : Chunk) (xs : List (Nat × Option Nat)) (hm : 0x400000490010008020000000000000000000000000000001ffe14000020000004018008000060000000301e001800000f0000000000000000 &&& fm = 0x400000490010008020000000000000000000000000000001ffe14000020000004018008000060000000301e001800000f0000000000000000) (hq : 0x7400c57c6 &&& fq = 0x7400c57c6)
    (h0 : Fr fm fq fa b) : Fr fm fq fa (b.chunkWrites f n c xs) := by
  refine Fr.step ?_ hm hq h0
  clear h0 hq hm
  unfold Block.chunkWrites
  repeat' (first
    | (show _ = _; exact rfl)
    | with_reducible exact Fr.refl _ _ _
    | with_reducible assumption
    | with_reducible apply Fr.wr
    | with_reducible apply Fr.quMod
    | with_reducible apply Block.chunkSend_fr
    | with_reducible apply Block.kick_fr
    | with_reducible apply Block.touchAll_fr
    | with_reducible apply Fr.ite
    | split
    | dsimp only
    | refine Fr.upd (by (repeat' apply And.intro) <;> first | exact Or.inl rfl | exact Or.inr rfl) ?_)

/-- Frame of `qWrites`. -/
theorem Block.qWrites_fr {fm fq : Nat} {fa : Block} (b : Block) (f n : Nat) (k : Nat) (hm : 0x400000490010008020000000000000000000000000000001ffe14000020000004018008000060000000301e001800000f0000000000000000 &&& fm = 0x400000490010008020000000000000000000000000000001ffe14000020000004018008000060000000301e001800000f0000000000000000) (hq : 0x7400c57c6 &&& fq = 0x7400c57c6)
    (h0 : Fr fm fq fa b) : Fr fm fq fa (b.qWrites f n k) := by
  refine Fr.step ?_ hm hq h0
  clear h0 hq hm
  induction k generalizing b with
  | zero => unfold Block.qWrites; exact Fr.refl _ _ _
  | succ k ih =>
  unfold Block.qWrites
  repeat' (first
    | (show _ = _; exact rfl)
    | with_reducible exact Fr.refl _ _ _
    | with_reducible assumption
    | with_reducible refine Fr.trans ?_ (ih _)
    | with_reducible apply Block.chunkMod_fr
    | with_reducible apply Block.chunkWrites_fr
    | with_reducible apply Block.chunkXlFail_fr
    | with_reducible apply Block.xlMiss_fr
    | with_reducible apply Fr.ite
    | split
    | dsimp only
    | refine Fr.upd (by (repeat' apply And.intro) <;> first | exact Or.inl rfl | exact Or.inr rfl) ?_)

/-- Frame of `qReads`. -/
theorem Block.qReads_fr {fm fq : Nat} {fa : Block} (b : Block) (f n : Nat) (hm : 0x400000490010008020000000000000000000000000000001ffe14000020000004018008000060000000301e001800000f0000000000000000 &&& fm = 0x400000490010008020000000000000000000000000000001ffe14000020000004018008000060000000301e001800000f0000000000000000) (hq : 0x7400c57c6 &&& fq = 0x7400c57c6)
    (h0 : Fr fm fq fa b) : Fr fm fq fa (b.qReads f n) := by
  refine Fr.step ?_ hm hq h0
  clear h0 hq hm
  unfold Block.qReads
  repeat' (first
    | (show _ = _; exact rfl)
    | with_reducible exact Fr.refl _ _ _
    | with_reducible assumption
    | with_reducible apply Fr.each
    | with_reducible apply Block.chunkReads_fr
    | with_reducible apply Fr.ite
    | (intro _ _ h)
    | split
    | dsimp only)

/-- Frame of `qPump`. -/
theorem Block.qPump_fr {fm fq : Nat} {fa : Block} (b : Block) (f n : Nat) (hm : 0x400000490010008020000000000000000000000000000001ffe14000020000004018008000060008000301e009800000f0000400000080800 &&& fm = 0x400000490010008020000000000000000000000000000001ffe14000020000004018008000060008000301e009800000f0000400000080800) (hq : 0x7400c57c6 &&& fq = 0x7400c57c6)
    (h0 : Fr fm fq fa b) : Fr fm fq fa (b.qPump f n) := by
  refine Fr.step ?_ hm hq h0
  clear h0 hq hm
  unfold Block.qPump
  repeat' (first
    | (show _ = _; exact rfl)
    | with_reducible exact Fr.refl _ _ _
    | with_reducible assumption
    | with_reducible apply Fr.wr
    | with_reducible apply Block.descRead_fr
    | with_reducible apply Block.fragPump_fr
    | with_reducible apply Block.headWb_fr
    | with_reducible apply Block.indexFetch_fr
    | with_reducible apply Block.qReads_fr
    | with_reducible apply Block.qWrites_fr
    | with_reducible apply Fr.ite
    | split
    | dsimp only)

/-- Frame of `qArm`. -/
theorem Block.qArm_fr {fm fq : Nat} {fa : Block} (b : Block) (f n : Nat) (hm : 0x40000000000000800000000000000000000000000000000000000000020000004018008000020000000301e00d80000000000000000000000 &&& fm = 0x40000000000000800000000000000000000000000000000000000000020000004018008000020000000301e00d80000000000000000000000) (hq : 0x5400057c6 &&& fq = 0x5400057c6)
    (h0 : Fr fm fq fa b) : Fr fm fq fa (b.qArm f n) := by
  refine Fr.step ?_ hm hq h0
  clear h0 hq hm
  unfold Block.qArm
  repeat' (first
    | (show _ = _; exact rfl)
    | with_reducible exact Fr.refl _ _ _
    | with_reducible assumption
    | with_reducible apply Fr.wr
    | with_reducible apply Fr.quMod
    | with_reducible apply Block.devEvent_fr
    | with_reducible apply Block.headWb_fr
    | with_reducible apply Block.indexFetch_fr
    | with_reducible apply Fr.ite
    | split
    | dsimp only
    | refine Fr.upd (by (repeat' apply And.intro) <;> first | exact Or.inl rfl | exact Or.inr rfl) ?_)

/-- Frame of `qUnpause`. -/
theorem Block.qUnpause_fr {fm fq : Nat} {fa : Block} (b : Block) (f n : Nat) (hm : 0x400000490010008020000000000000000000000000000001ffe14000020000004018008000060008000301e009800000f0000400000080800 &&& fm = 0x400000490010008020000000000000000000000000000001ffe14000020000004018008000060008000301e009800000f0000400000080800) (hq : 0x7406c57c6 &&& fq = 0x7406c57c6)
    (h0 : Fr fm fq fa b) : Fr fm fq fa (b.qUnpause f n) := by
  refine Fr.step ?_ hm hq h0
  clear h0 hq hm
  unfold Block.qUnpause
  repeat' (first
    | (show _ = _; exact rfl)
    | with_reducible exact Fr.refl _ _ _
    | with_reducible assumption
    | with_reducible apply Fr.wr
    | with_reducible apply Block.headWb_fr
    | with_reducible apply Block.pumpNp_fr
    | with_reducible apply Block.qPump_fr
    | with_reducible apply Block.unpark_fr
    | with_reducible apply Fr.ite
    | split
    | dsimp only)

/-- Frame of `qPausing`. -/
theorem Block.qPausing_fr {fm fq : Nat} {fa : Block} (b : Block) (f n : Nat) (hm : 0x80000000000000000000000 &&& fm = 0x80000000000000000000000) (hq : 0x0 &&& fq = 0x0)
    (h0 : Fr fm fq fa b) : Fr fm fq fa (b.qPausing f n) := by
  refine Fr.step ?_ hm hq h0
  clear h0 hq hm
  unfold Block.qPausing
  repeat' (first
    | (show _ = _; exact rfl)
    | with_reducible exact Fr.refl _ _ _
    | with_reducible assumption
    | with_reducible apply Fr.wr
    | with_reducible apply Fr.ite
    | split)

/-- Frame of `qReset`. -/
theorem Block.qReset_fr {fm fq : Nat} {fa : Block} (b : Block) (f n : Nat) (hm : 0x800000000000000000000000000000000000000000000000000000000000020000000000001080000000000000000000000 &&& fm = 0x800000000000000000000000000000000000000000000000000000000000020000000000001080000000000000000000000) (hq : 0x40001700 &&& fq = 0x40001700)
    (h0 : Fr fm fq fa b) : Fr fm fq fa (b.qReset f n) := by
  refine Fr.step ?_ hm hq h0
  clear h0 hq hm
  unfold Block.qReset
  repeat' (first
    | (show _ = _; exact rfl)
    | with_reducible exact Fr.refl _ _ _
    | with_reducible assumption
    | with_reducible apply Fr.wr
    | with_reducible apply Fr.lkMod
    | with_reducible apply Fr.quMod
    | with_reducible apply Block.qDropWaiting_fr
    | with_reducible apply Block.sample_fr
    | dsimp only
    | refine Fr.upd (by (repeat' apply And.intro) <;> first | exact Or.inl rfl | exact Or.inr rfl) ?_)

/-- Frame of `qResetEnd`. -/
theorem Block.qResetEnd_fr {fm fq : Nat} {fa : Block} (b : Block) (f n : Nat) (hm : 0x40000000000000000000000000000000000000000000000000000000000000000000000000000000000007ff9ffc000000000000000000000 &&& fm = 0x40000000000000000000000000000000000000000000000000000000000000000000000000000000000007ff9ffc000000000000000000000) (hq : 0x400 &&& fq = 0x400)
    (h0 : Fr fm fq fa b) : Fr fm fq fa (b.qResetEnd f n) := by
  refine Fr.step ?_ hm hq h0
  unfold Block.qResetEnd
  split
  · refine Fr.quMod rfl (Fr.unset (fun k hk => ?_) (Fr.refl _ _ _))
    simp only [queueKey, Bool.and_eq_true, beq_iff_eq] at hk
    exact Fld.qBit _ ⟨hk.1.2, hk.2⟩
  · exact Fr.refl _ _ _

/-- Frame of `qEnable`. -/
theorem Block.qEnable_fr {fm fq : Nat} {fa : Block} (b : Block) (f n : Nat) (hm : 0x40000000000000800000000000000000000000000000000000000000020000004018008000020000000301e00d80000000000000000000000 &&& fm = 0x40000000000000800000000000000000000000000000000000000000020000004018008000020000000301e00d80000000000000000000000) (hq : 0x5406057c6 &&& fq = 0x5406057c6)
    (h0 : Fr fm fq fa b) : Fr fm fq fa (b.qEnable f n) := by
  refine Fr.step ?_ hm hq h0
  clear h0 hq hm
  unfold Block.qEnable
  repeat' (first
    | (show _ = _; exact rfl)
    | with_reducible exact Fr.refl _ _ _
    | with_reducible assumption
    | with_reducible apply Fr.wr
    | with_reducible apply Block.haltQ_fr
    | with_reducible apply Block.qArm_fr
    | with_reducible apply Block.unpark_fr
    | with_reducible apply Fr.ite
    | split)

/-- Frame of `qDisable`. -/
theorem Block.qDisable_fr {fm fq : Nat} {fa : Block} (b : Block) (f n : Nat) (hm : 0x400000490010008020000000000000000000000000000001ffe14000020000004018008000060008000301e009800000f0000400000080800 &&& fm = 0x400000490010008020000000000000000000000000000001ffe14000020000004018008000060008000301e009800000f0000400000080800) (hq : 0x7400c57c6 &&& fq = 0x7400c57c6)
    (h0 : Fr fm fq fa b) : Fr fm fq fa (b.qDisable f n) := by
  refine Fr.step ?_ hm hq h0
  clear h0 hq hm
  unfold Block.qDisable
  repeat' (first
    | (show _ = _; exact rfl)
    | with_reducible exact Fr.refl _ _ _
    | with_reducible assumption
    | with_reducible apply Fr.wr
    | with_reducible apply Fr.quMod
    | with_reducible apply Block.qPump_fr
    | split
    | dsimp only
    | refine Fr.upd (by (repeat' apply And.intro) <;> first | exact Or.inl rfl | exact Or.inr rfl) ?_)

/-- Frame of `qPause`. -/
theorem Block.qPause_fr {fm fq : Nat} {fa : Block} (b : Block) (f n : Nat) (hm : 0x280000000000000000000000 &&& fm = 0x280000000000000000000000) (hq : 0x0 &&& fq = 0x0)
    (h0 : Fr fm fq fa b) : Fr fm fq fa (b.qPause f n) := by
  refine Fr.step ?_ hm hq h0
  clear h0 hq hm
  unfold Block.qPause
  repeat' (first
    | (show _ = _; exact rfl)
    | with_reducible exact Fr.refl _ _ _
    | with_reducible assumption
    | with_reducible apply Fr.wr
    | with_reducible apply Block.qPausing_fr
    | with_reducible apply Fr.ite
    | split)

/-- Frame of `qResume`. -/
theorem Block.qResume_fr {fm fq : Nat} {fa : Block} (b : Block) (f n : Nat) (hm : 0x400000490010008020000000000000000000000000000001ffe14000020000004018008000060008000301e00b800000f0000400000080800 &&& fm = 0x400000490010008020000000000000000000000000000001ffe14000020000004018008000060008000301e00b800000f0000400000080800) (hq : 0x7406c57c6 &&& fq = 0x7406c57c6)
    (h0 : Fr fm fq fa b) : Fr fm fq fa (b.qResume f n) := by
  refine Fr.step ?_ hm hq h0
  clear h0 hq hm
  unfold Block.qResume
  repeat' (first
    | (show _ = _; exact rfl)
    | with_reducible exact Fr.refl _ _ _
    | with_reducible assumption
    | with_reducible apply Fr.wr
    | with_reducible apply Block.qUnpause_fr
    | with_reducible apply Fr.ite
    | split)

/-- Frame of `qHold`. -/
theorem Block.qHold_fr {fm fq : Nat} {fa : Block} (b : Block) (f n : Nat) (h : Held) (hm : 0x0 &&& fm = 0x0) (hq : 0x400 &&& fq = 0x400)
    (h0 : Fr fm fq fa b) : Fr fm fq fa (b.qHold f n h) := by
  refine Fr.step ?_ hm hq h0
  clear h0 hq hm
  unfold Block.qHold
  repeat' (first
    | (show _ = _; exact rfl)
    | with_reducible exact Fr.refl _ _ _
    | with_reducible assumption
    | with_reducible apply Fr.quMod
    | dsimp only
    | refine Fr.upd (by (repeat' apply And.intro) <;> first | exact Or.inl rfl | exact Or.inr rfl) ?_)

/-- Frame of `qCmd`. -/
theorem Block.qCmd_fr {fm fq : Nat} {fa : Block} (b : Block) (f n v : Nat) (hm : 0x400000490010008020000000000000000000000000000001ffe14000020000004018008000060008000301e01f800000f0000400000080800 &&& fm = 0x400000490010008020000000000000000000000000000001ffe14000020000004018008000060008000301e01f800000f0000400000080800) (hq : 0x7406c57c6 &&& fq = 0x7406c57c6)
    (h0 : Fr fm fq fa b) : Fr fm fq fa (b.qCmd f n v) := by
  refine Fr.step ?_ hm hq h0
  clear h0 hq hm
  unfold Block.qCmd
  repeat' (first
    | (show _ = _; exact rfl)
    | with_reducible exact Fr.refl _ _ _
    | with_reducible assumption
    | with_reducible apply Block.qDisable_fr
    | with_reducible apply Block.qEnable_fr
    | with_reducible apply Block.qHold_fr
    | with_reducible apply Block.qPause_fr
    | with_reducible apply Block.qReset_fr
    | with_reducible apply Block.qResume_fr
    | with_reducible apply Fr.ite
    | split)

/-- Frame of `qLocked`. -/
theorem Block.qLocked_fr {fm fq : Nat} {fa : Block} (b : Block) (f n off v : Nat) (hm : 0x490010008020000000000000000000000000000001ffe14000000000000000000000060000000000000000000000000000000000000 &&& fm = 0x490010008020000000000000000000000000000001ffe14000000000000000000000060000000000000000000000000000000000000) (hq : 0x40001200 &&& fq = 0x40001200)
    (h0 : Fr fm fq fa b) : Fr fm fq fa (b.qLocked f n off v) := by
  refine Fr.step ?_ hm hq h0
  clear h0 hq hm
  unfold Block.qLocked
  repeat' (first
    | (show _ = _; exact rfl)
    | with_reducible exact Fr.refl _ _ _
    | with_reducible assumption
    | with_reducible apply Block.logErr_fr)

/-- Frame of `qHeadWrite`. -/
theorem Block.qHeadWrite_fr {fm fq : Nat} {fa : Block} (b : Block) (f n v : Nat) (hm : 0x400000490010008020000000000000000000000000000001ffe140000000000000000000000600000000000f8000000000000000000000000 &&& fm = 0x400000490010008020000000000000000000000000000001ffe140000000000000000000000600000000000f8000000000000000000000000) (hq : 0x40001600 &&& fq = 0x40001600)
    (h0 : Fr fm fq fa b) : Fr fm fq fa (b.qHeadWrite f n v) := by
  refine Fr.step ?_ hm hq h0
  clear h0 hq hm
  unfold Block.qHeadWrite
  repeat' (first
    | (show _ = _; exact rfl)
    | with_reducible exact Fr.refl _ _ _
    | with_reducible assumption
    | with_reducible apply Fr.wr
    | with_reducible apply Fr.quMod
    | with_reducible apply Block.qHold_fr
    | with_reducible apply Block.qLocked_fr
    | with_reducible apply Fr.ite
    | split
    | dsimp only
    | refine Fr.upd (by (repeat' apply And.intro) <;> first | exact Or.inl rfl | exact Or.inr rfl) ?_)

/-- Frame of `qCtxWrite`. -/
theorem Block.qCtxWrite_fr {fm fq : Nat} {fa : Block} (b : Block) (f n off v : Nat) (hm : 0x490010008020000000000000000000000000000001ffe14000000000000000000000060000000000008003fc0000000000000000000 &&& fm = 0x490010008020000000000000000000000000000001ffe14000000000000000000000060000000000008003fc0000000000000000000) (hq : 0x40001600 &&& fq = 0x40001600)
    (h0 : Fr fm fq fa b) : Fr fm fq fa (b.qCtxWrite f n off v) := by
  refine Fr.step ?_ hm hq h0
  clear h0 hq hm
  unfold Block.qCtxWrite
  split
  · exact Block.qHold_fr _ _ _ _ rfl rfl (Fr.refl _ _ _)
  split
  · exact Fr.refl _ _ _
  split
  · split
    · next r hr =>
      refine Block.regWriteOf_fr _ _ _ _ _ (fun p hp hw => ?_) (Fr.refl _ _ _)
      have hm := queueReg_mem hr
      revert hp hw
      generalize r.reg = g at hm
      revert p
      simp only [List.mem_cons, List.not_mem_nil, or_false] at hm
      rcases hm with hm | hm | hm | hm | hm | hm | hm | hm | hm | hm | hm | hm | hm | hm | hm | hm | hm <;> subst hm <;> decide
    · exact Fr.refl _ _ _
  · exact Block.qLocked_fr _ _ _ _ _ rfl rfl (Fr.refl _ _ _)

/-- Frame of `qBell`. -/
theorem Block.qBell_fr {fm fq : Nat} {fa : Block} (b : Block) (f n : Nat) (hint : Option Nat) (hm : 0x40000000000000800000000000000000000000000000000000000000020000004018008000020000000301e00980000000000000000000000 &&& fm = 0x40000000000000800000000000000000000000000000000000000000020000004018008000020000000301e00980000000000000000000000) (hq : 0x5406057c6 &&& fq = 0x5406057c6)
    (h0 : Fr fm fq fa b) : Fr fm fq fa (b.qBell f n hint) := by
  refine Fr.step ?_ hm hq h0
  clear h0 hq hm
  unfold Block.qBell
  repeat' (first
    | (show _ = _; exact rfl)
    | with_reducible exact Fr.refl _ _ _
    | with_reducible assumption
    | with_reducible apply Fr.wr
    | with_reducible apply Fr.quMod
    | with_reducible apply Block.indexFetch_fr
    | with_reducible apply Block.qHold_fr
    | with_reducible apply Block.unpark_fr
    | with_reducible apply Fr.ite
    | split
    | dsimp only
    | refine Fr.upd (by (repeat' apply And.intro) <;> first | exact Or.inl rfl | exact Or.inr rfl) ?_)

/-- Frame of `descTrim`. -/
theorem Block.descTrim_fr {fm fq : Nat} {fa : Block} (b : Block) (f n p : Nat) (hm : 0x0 &&& fm = 0x0) (hq : 0x600 &&& fq = 0x600)
    (h0 : Fr fm fq fa b) : Fr fm fq fa (b.descTrim f n p) := by
  refine Fr.step ?_ hm hq h0
  clear h0 hq hm
  unfold Block.descTrim
  repeat' (first
    | (show _ = _; exact rfl)
    | with_reducible exact Fr.refl _ _ _
    | with_reducible assumption
    | with_reducible apply Fr.fnMod
    | with_reducible apply Fr.quMod
    | with_reducible apply Fr.ite
    | split
    | dsimp only
    | refine Fr.upd (by (repeat' apply And.intro) <;> first | exact Or.inl rfl | exact Or.inr rfl) ?_)

/-- Frame of `qIndex`. -/
theorem Block.qIndex_fr {fm fq : Nat} {fa : Block} (b : Block) (f n : Nat) (hm : 0x400000490010008020000000000000000000000000000001ffe14000020000004018008000060008000301e109800000f0000400000080800 &&& fm = 0x400000490010008020000000000000000000000000000001ffe14000020000004018008000060008000301e109800000f0000400000080800) (hq : 0x7400c57c6 &&& fq = 0x7400c57c6)
    (h0 : Fr fm fq fa b) : Fr fm fq fa (b.qIndex f n) := by
  refine Fr.step ?_ hm hq h0
  clear h0 hq hm
  unfold Block.qIndex
  repeat' (first
    | (show _ = _; exact rfl)
    | with_reducible exact Fr.refl _ _ _
    | with_reducible assumption
    | with_reducible apply Fr.wr
    | with_reducible apply Fr.quMod
    | with_reducible apply Block.descTrim_fr
    | with_reducible apply Block.haltQ_fr
    | with_reducible apply Block.qPump_fr
    | with_reducible apply Fr.ite
    | split
    | dsimp only
    | refine Fr.upd (by (repeat' apply And.intro) <;> first | exact Or.inl rfl | exact Or.inr rfl) ?_)

/-- Frame of `descTake`. -/
theorem Block.descTake_fr {fm fq : Nat} {fa : Block} (b : Block) (f n : Nat) (k : List (Nat × List (Byte × Bool))) (hm : 0x40000000000000800000000000000000000000000000000000000000020000004018008000020000000301e00180000000000000000000000 &&& fm = 0x40000000000000800000000000000000000000000000000000000000020000004018008000020000000301e00180000000000000000000000) (hq : 0x5400057c0 &&& fq = 0x5400057c0)
    (h0 : Fr fm fq fa b) : Fr fm fq fa (b.descTake f n k) := by
  refine Fr.step ?_ hm hq h0
  clear h0 hq hm
  induction k generalizing b with
  | nil => unfold Block.descTake; exact Fr.refl _ _ _
  | cons e t ih =>
  unfold Block.descTake
  repeat' (first
    | (show _ = _; exact rfl)
    | with_reducible exact Fr.refl _ _ _
    | with_reducible assumption
    | with_reducible refine Fr.trans ?_ (ih _)
    | with_reducible apply Fr.quMod
    | with_reducible apply Block.haltQ_fr
    | with_reducible apply Fr.ite
    | split
    | dsimp only
    | refine Fr.upd (by (repeat' apply And.intro) <;> first | exact Or.inl rfl | exact Or.inr rfl) ?_)

/-- Frame of `qDescs`. -/
theorem Block.qDescs_fr {fm fq : Nat} {fa : Block} (b : Block) (f n : Nat) (hm : 0x400000490010008020000000000000000000000000000001ffe14000020000004018008000060008000307ee89800000f0000400000080800 &&& fm = 0x400000490010008020000000000000000000000000000001ffe14000020000004018008000060008000307ee89800000f0000400000080800) (hq : 0x7400c57c6 &&& fq = 0x7400c57c6)
    (h0 : Fr fm fq fa b) : Fr fm fq fa (b.qDescs f n) := by
  refine Fr.step ?_ hm hq h0
  clear h0 hq hm
  unfold Block.qDescs
  repeat' (first
    | (show _ = _; exact rfl)
    | with_reducible exact Fr.refl _ _ _
    | with_reducible assumption
    | with_reducible apply Fr.quMod
    | with_reducible apply Block.descTake_fr
    | with_reducible apply Block.haltQ_fr
    | with_reducible apply Block.qPump_fr
    | with_reducible apply Block.qRetire_fr
    | with_reducible apply Fr.ite
    | split
    | dsimp only
    | refine Fr.upd (by (repeat' apply And.intro) <;> first | exact Or.inl rfl | exact Or.inr rfl) ?_)

/-- Frame of `qFrags`. -/
theorem Block.qFrags_fr {fm fq : Nat} {fa : Block} (b : Block) (f n : Nat) (hm : 0x400000490010008020000000000000000000000000000001ffe14000020000004018008000060008000301ee09800000f0000400000080800 &&& fm = 0x400000490010008020000000000000000000000000000001ffe14000020000004018008000060008000301ee09800000f0000400000080800) (hq : 0x7400c57c6 &&& fq = 0x7400c57c6)
    (h0 : Fr fm fq fa b) : Fr fm fq fa (b.qFrags f n) := by
  refine Fr.step ?_ hm hq h0
  clear h0 hq hm
  unfold Block.qFrags
  repeat' (first
    | (show _ = _; exact rfl)
    | with_reducible exact Fr.refl _ _ _
    | with_reducible assumption
    | with_reducible apply Fr.quMod
    | with_reducible apply Block.curShow_fr
    | with_reducible apply Block.haltQ_fr
    | with_reducible apply Block.qPump_fr
    | with_reducible apply Fr.ite
    | split
    | dsimp only
    | refine Fr.upd (by (repeat' apply And.intro) <;> first | exact Or.inl rfl | exact Or.inr rfl) ?_)

/-- Frame of `qChunk`. -/
theorem Block.qChunk_fr {fm fq : Nat} {fa : Block} (b : Block) (f n : Nat) (hm : 0x400000490010008020000000000000000000000000000001ffe14000020000004018008000060000000301e001800000f0000000000000000 &&& fm = 0x400000490010008020000000000000000000000000000001ffe14000020000004018008000060000000301e001800000f0000000000000000) (hq : 0x7c00c57c6 &&& fq = 0x7c00c57c6)
    (h0 : Fr fm fq fa b) : Fr fm fq fa (b.qChunk f n) := by
  refine Fr.step ?_ hm hq h0
  clear h0 hq hm
  unfold Block.qChunk
  repeat' (first
    | (show _ = _; exact rfl)
    | with_reducible exact Fr.refl _ _ _
    | with_reducible assumption
    | with_reducible apply Fr.quMod
    | with_reducible apply Block.chunkReads_fr
    | with_reducible apply Fr.ite
    | split
    | dsimp only
    | refine Fr.upd (by (repeat' apply And.intro) <;> first | exact Or.inl rfl | exact Or.inr rfl) ?_)

/-- Frame of `qStage`. -/
theorem Block.qStage_fr {fm fq : Nat} {fa : Block} (b : Block) (f n : Nat) (hm : 0x400000490010008020000000000000000000000000000001ffe14000020000004018008000060008000301e009800000f0000400000080800 &&& fm = 0x400000490010008020000000000000000000000000000001ffe14000020000004018008000060008000301e009800000f0000400000080800) (hq : 0x7400c57c6 &&& fq = 0x7400c57c6)
    (h0 : Fr fm fq fa b) : Fr fm fq fa (b.qStage f n) := by
  refine Fr.step ?_ hm hq h0
  clear h0 hq hm
  unfold Block.qStage
  repeat' (first
    | (show _ = _; exact rfl)
    | with_reducible exact Fr.refl _ _ _
    | with_reducible assumption
    | with_reducible apply Fr.quMod
    | with_reducible apply Block.qPump_fr
    | with_reducible apply Fr.ite
    | split
    | dsimp only
    | refine Fr.upd (by (repeat' apply And.intro) <;> first | exact Or.inl rfl | exact Or.inr rfl) ?_)

/-- Frame of `qAdvance`. -/
theorem Block.qAdvance_fr {fm fq : Nat} {fa : Block} (b : Block) (f n : Nat) (hm : 0x400000490010008020000000000000000000000000000001ffe14000020000004018008000060008000307ee89800000f0000400000080800 &&& fm = 0x400000490010008020000000000000000000000000000001ffe14000020000004018008000060008000307ee89800000f0000400000080800) (hq : 0x7400c57c6 &&& fq = 0x7400c57c6)
    (h0 : Fr fm fq fa b) : Fr fm fq fa (b.qAdvance f n) := by
  refine Fr.step ?_ hm hq h0
  clear h0 hq hm
  unfold Block.qAdvance
  repeat' (first
    | (show _ = _; exact rfl)
    | with_reducible exact Fr.refl _ _ _
    | with_reducible assumption
    | with_reducible apply Block.qCommit_fr
    | with_reducible apply Block.qPump_fr
    | with_reducible apply Fr.ite
    | split)

/-- Frame of `segRetry`. -/
theorem Block.segRetry_fr {fm fq : Nat} {fa : Block} (b : Block) (q cid : Nat) (hm : 0x400000490010008020000000000000000000000000000001ffe14000020000004018008000060008000301e009800000f0000400000080800 &&& fm = 0x400000490010008020000000000000000000000000000001ffe14000020000004018008000060008000301e009800000f0000400000080800) (hq : 0x7400c57c6 &&& fq = 0x7400c57c6)
    (h0 : Fr fm fq fa b) : Fr fm fq fa (b.segRetry q cid) := by
  refine Fr.step ?_ hm hq h0
  clear h0 hq hm
  unfold Block.segRetry
  repeat' (first
    | (show _ = _; exact rfl)
    | with_reducible exact Fr.refl _ _ _
    | with_reducible assumption
    | with_reducible apply Block.chunkMod_fr
    | with_reducible apply Block.chunkReads_fr
    | with_reducible apply Block.qPump_fr
    | with_reducible apply Fr.ite
    | split
    | dsimp only
    | refine Fr.upd (by (repeat' apply And.intro) <;> first | exact Or.inl rfl | exact Or.inr rfl) ?_)

/-- Frame of `qPaused`. -/
theorem Block.qPaused_fr {fm fq : Nat} {fa : Block} (b : Block) (f n : Nat) (hm : 0x40000000000000800000000000000000000000000000000000000000020000004018008000020000000300000080000000000000000000000 &&& fm = 0x40000000000000800000000000000000000000000000000000000000020000004018008000020000000300000080000000000000000000000) (hq : 0x5400057c0 &&& fq = 0x5400057c0)
    (h0 : Fr fm fq fa b) : Fr fm fq fa (b.qPaused f n) := by
  refine Fr.step ?_ hm hq h0
  clear h0 hq hm
  unfold Block.qPaused
  repeat' (first
    | (show _ = _; exact rfl)
    | with_reducible exact Fr.refl _ _ _
    | with_reducible assumption
    | with_reducible apply Fr.wr
    | with_reducible apply Block.devEvent_fr
    | with_reducible apply Block.headWb_fr
    | with_reducible apply Fr.ite
    | split
    | dsimp only)

/-- Frame of `qDrained`. -/
theorem Block.qDrained_fr {fm fq : Nat} {fa : Block} (b : Block) (f n : Nat) (hm : 0x40000000000000800000000000000000000000000000000000000000020000004018008000020000000301ee0d80000000000000000000000 &&& fm = 0x40000000000000800000000000000000000000000000000000000000020000004018008000020000000301ee0d80000000000000000000000) (hq : 0x5400057c6 &&& fq = 0x5400057c6)
    (h0 : Fr fm fq fa b) : Fr fm fq fa (b.qDrained f n) := by
  refine Fr.step ?_ hm hq h0
  clear h0 hq hm
  unfold Block.qDrained
  repeat' (first
    | (show _ = _; exact rfl)
    | with_reducible exact Fr.refl _ _ _
    | with_reducible assumption
    | with_reducible apply Fr.wr
    | with_reducible apply Fr.lkMod
    | with_reducible apply Fr.quMod
    | with_reducible apply Block.headWb_fr
    | with_reducible apply Block.qArm_fr
    | with_reducible apply Block.qDropWaiting_fr
    | with_reducible apply Fr.ite
    | split
    | dsimp only
    | refine Fr.upd (by (repeat' apply And.intro) <;> first | exact Or.inl rfl | exact Or.inr rfl) ?_)

/-- Frame of `qPullBack`. -/
theorem Block.qPullBack_fr {fm fq : Nat} {fa : Block} (b : Block) (f n : Nat) (hm : 0x0 &&& fm = 0x0) (hq : 0x500 &&& fq = 0x500)
    (h0 : Fr fm fq fa b) : Fr fm fq fa (b.qPullBack f n) := by
  refine Fr.step ?_ hm hq h0
  clear h0 hq hm
  unfold Block.qPullBack
  repeat' (first
    | (show _ = _; exact rfl)
    | with_reducible exact Fr.refl _ _ _
    | with_reducible assumption
    | with_reducible apply Fr.lkMod
    | with_reducible apply Fr.each
    | with_reducible apply Block.chunkMod_fr
    | with_reducible apply Fr.ite
    | (intro _ _ h)
    | split
    | dsimp only
    | refine Fr.upd (by (repeat' apply And.intro) <;> first | exact Or.inl rfl | exact Or.inr rfl) ?_)

/-- Frame of `qBmeOff`. -/
theorem Block.qBmeOff_fr {fm fq : Nat} {fa : Block} (b : Block) (f : Nat) (hm : 0x480000000000000000000000 &&& fm = 0x480000000000000000000000) (hq : 0x500 &&& fq = 0x500)
    (h0 : Fr fm fq fa b) : Fr fm fq fa (b.qBmeOff f) := by
  refine Fr.step ?_ hm hq h0
  clear h0 hq hm
  unfold Block.qBmeOff
  repeat' (first
    | (show _ = _; exact rfl)
    | with_reducible exact Fr.refl _ _ _
    | with_reducible assumption
    | with_reducible apply Fr.wr
    | with_reducible apply Fr.each
    | with_reducible apply Block.qPausing_fr
    | with_reducible apply Block.qPullBack_fr
    | with_reducible apply Fr.ite
    | (intro _ _ h)
    | split
    | dsimp only)

/-- Frame of `qBmeOn`. -/
theorem Block.qBmeOn_fr {fm fq : Nat} {fa : Block} (b : Block) (f : Nat) (hm : 0x400000490010008020000000000000000000000000000001ffe14000020000004018008000060008000301e00d800000f0000400000080800 &&& fm = 0x400000490010008020000000000000000000000000000001ffe14000020000004018008000060008000301e00d800000f0000400000080800) (hq : 0x7406c57c6 &&& fq = 0x7406c57c6)
    (h0 : Fr fm fq fa b) : Fr fm fq fa (b.qBmeOn f) := by
  refine Fr.step ?_ hm hq h0
  clear h0 hq hm
  unfold Block.qBmeOn
  repeat' (first
    | (show _ = _; exact rfl)
    | with_reducible exact Fr.refl _ _ _
    | with_reducible assumption
    | with_reducible apply Fr.wr
    | with_reducible apply Fr.each
    | with_reducible apply Block.qPump_fr
    | with_reducible apply Block.qUnpause_fr
    | with_reducible apply Fr.ite
    | (intro _ _ h)
    | split
    | dsimp only)

/-- Frame of `qMoveStart`. -/
theorem Block.qMoveStart_fr {fm fq : Nat} {fa : Block} (b : Block) (q : Nat) (hm : 0x0 &&& fm = 0x0) (hq : 0x200000700 &&& fq = 0x200000700)
    (h0 : Fr fm fq fa b) : Fr fm fq fa (b.qMoveStart q) := by
  refine Fr.step ?_ hm hq h0
  clear h0 hq hm
  unfold Block.qMoveStart
  repeat' (first
    | (show _ = _; exact rfl)
    | with_reducible exact Fr.refl _ _ _
    | with_reducible assumption
    | with_reducible apply Fr.lkMod
    | with_reducible apply Fr.fnMod
    | with_reducible apply Fr.quMod
    | with_reducible apply Block.dropNp_fr
    | dsimp only
    | refine Fr.upd (by (repeat' apply And.intro) <;> first | exact Or.inl rfl | exact Or.inr rfl) ?_)

/-- Frame of `qMoveEnd`. -/
theorem Block.qMoveEnd_fr {fm fq : Nat} {fa : Block} (b : Block) (q lame : Nat) (spare : Option Nat) (lost : Option (Nat × Nat)) (hm : 0x400000490010008020000000000000000000000000000001ffe14000020000004018008000060008000301e009800000f0000400000080800 &&& fm = 0x400000490010008020000000000000000000000000000001ffe14000020000004018008000060008000301e009800000f0000400000080800) (hq : 0x7400c57c6 &&& fq = 0x7400c57c6)
    (h0 : Fr fm fq fa b) : Fr fm fq fa (b.qMoveEnd q lame spare lost) := by
  refine Fr.step ?_ hm hq h0
  clear h0 hq hm
  unfold Block.qMoveEnd
  repeat' (first
    | (show _ = _; exact rfl)
    | with_reducible exact Fr.refl _ _ _
    | with_reducible assumption
    | with_reducible apply Fr.wr
    | with_reducible apply Fr.quMod
    | with_reducible apply Block.devEvent_fr
    | with_reducible apply Block.haltQ_fr
    | with_reducible apply Block.indexFetch_fr
    | with_reducible apply Block.qPump_fr
    | with_reducible apply Fr.ite
    | split
    | dsimp only
    | refine Fr.upd (by (repeat' apply And.intro) <;> first | exact Or.inl rfl | exact Or.inr rfl) ?_)

end Sys2Proof.Machine
end

