-- ==== Sys2Proof/Laws/FrSpur.lean ====
section
/-! SUPPORT. The frame of every operation of Machine/Spur.lean: the fields and the parts it may change, by bit masks. -/
set_option linter.unusedTactic false
set_option linter.unreachableTactic false
set_option linter.unusedSimpArgs false
set_option linter.unusedVariables false
namespace Sys2Proof.Machine

/-- Frame of `vecSend`. -/
theorem Block.vecSend_fr {fm fq : Nat} {fa : Block} (b : Block) (f vec : Nat) (hm : 0x40000000000000000000000000000000000000000000004018008000000000000000000000000000000000000000000 &&& fm = 0x40000000000000000000000000000000000000000000004018008000000000000000000000000000000000000000000) (hq : 0x440005100 &&& fq = 0x440005100)
    (h0 : Fr fm fq fa b) : Fr fm fq fa (b.vecSend f vec) := by
  refine Fr.step ?_ hm hq h0
  clear h0 hq hm
  unfold Block.vecSend
  repeat' (first
    | (show _ = _; exact rfl)
    | with_reducible exact Fr.refl _ _ _
    | with_reducible assumption
    | with_reducible apply Fr.wr
    | with_reducible apply Block.post_fr
    | with_reducible apply Fr.ite
    | split)

/-- Frame of `msiSend`. -/
theorem Block.msiSend_fr {fm fq : Nat} {fa : Block} (b : Block) (f v : Nat) (hm : 0x20000000000000000000000000000000000000000000000000004018008000000000000000000000000000000000000000000 &&& fm = 0x20000000000000000000000000000000000000000000000000004018008000000000000000000000000000000000000000000) (hq : 0x440005100 &&& fq = 0x440005100)
    (h0 : Fr fm fq fa b) : Fr fm fq fa (b.msiSend f v) := by
  refine Fr.step ?_ hm hq h0
  clear h0 hq hm
  unfold Block.msiSend
  repeat' (first
    | (show _ = _; exact rfl)
    | with_reducible exact Fr.refl _ _ _
    | with_reducible assumption
    | with_reducible apply Fr.setBits
    | with_reducible apply Block.post_fr
    | with_reducible apply Fr.ite
    | split
    | dsimp only)

/-- Frame of `vecIssue`. -/
theorem Block.vecIssue_fr {fm fq : Nat} {fa : Block} (b : Block) (f vec : Nat) (hm : 0x20000040000000000000000000000000000000000000000000004018008000000000000000000000000000000000000000000 &&& fm = 0x20000040000000000000000000000000000000000000000000004018008000000000000000000000000000000000000000000) (hq : 0x440005100 &&& fq = 0x440005100)
    (h0 : Fr fm fq fa b) : Fr fm fq fa (b.vecIssue f vec) := by
  refine Fr.step ?_ hm hq h0
  clear h0 hq hm
  unfold Block.vecIssue
  repeat' (first
    | (show _ = _; exact rfl)
    | with_reducible exact Fr.refl _ _ _
    | with_reducible assumption
    | with_reducible apply Block.msiSend_fr
    | with_reducible apply Block.vecSend_fr
    | split)

/-- Frame of `pendFlush`. -/
theorem Block.pendFlush_fr {fm fq : Nat} {fa : Block} (b : Block) (f : Nat) (hm : 0x20000040000000000000000000000000000000000000000000004018008000000000000000000000000000000000000000000 &&& fm = 0x20000040000000000000000000000000000000000000000000004018008000000000000000000000000000000000000000000) (hq : 0x440005100 &&& fq = 0x440005100)
    (h0 : Fr fm fq fa b) : Fr fm fq fa (b.pendFlush f) := by
  refine Fr.step ?_ hm hq h0
  clear h0 hq hm
  unfold Block.pendFlush
  repeat' (first
    | (show _ = _; exact rfl)
    | with_reducible exact Fr.refl _ _ _
    | with_reducible assumption
    | with_reducible apply Fr.wr
    | with_reducible apply Fr.clrBits
    | with_reducible apply Fr.each
    | with_reducible apply Block.msiSend_fr
    | with_reducible apply Block.vecSend_fr
    | with_reducible apply Fr.ite
    | (intro _ _ h)
    | split
    | dsimp only)

/-- Frame of `intxSend`. -/
theorem Block.intxSend_fr {fm fq : Nat} {fa : Block} (b : Block) (l pin : Nat) (hm : 0x0 &&& fm = 0x0) (hq : 0x40000100 &&& fq = 0x40000100)
    (h0 : Fr fm fq fa b) : Fr fm fq fa (b.intxSend l pin) := by
  refine Fr.step ?_ hm hq h0
  clear h0 hq hm
  unfold Block.intxSend
  repeat' (first
    | (show _ = _; exact rfl)
    | with_reducible exact Fr.refl _ _ _
    | with_reducible assumption
    | with_reducible apply Fr.lkMod
    | with_reducible apply Fr.emit
    | with_reducible apply Fr.ite
    | split
    | dsimp only
    | refine Fr.upd (by (repeat' apply And.intro) <;> first | exact Or.inl rfl | exact Or.inr rfl) ?_)

/-- Frame of `intxF`. -/
theorem Block.intxF_fr {fm fq : Nat} {fa : Block} (b : Block) (f : Nat) (hm : 0x0 &&& fm = 0x0) (hq : 0x40000100 &&& fq = 0x40000100)
    (h0 : Fr fm fq fa b) : Fr fm fq fa (b.intxF f) := by
  refine Fr.step ?_ hm hq h0
  clear h0 hq hm
  unfold Block.intxF
  repeat' (first
    | (show _ = _; exact rfl)
    | with_reducible exact Fr.refl _ _ _
    | with_reducible assumption
    | with_reducible apply Block.fnRec_fr
    | with_reducible apply Block.intxSend_fr
    | with_reducible apply Fr.ite
    | split)

/-- Frame of `intxLink`. -/
theorem Block.intxLink_fr {fm fq : Nat} {fa : Block} (b : Block) (l : Nat) (hm : 0x0 &&& fm = 0x0) (hq : 0x40000100 &&& fq = 0x40000100)
    (h0 : Fr fm fq fa b) : Fr fm fq fa (b.intxLink l) := by
  refine Fr.step ?_ hm hq h0
  clear h0 hq hm
  unfold Block.intxLink
  repeat' (first
    | (show _ = _; exact rfl)
    | with_reducible exact Fr.refl _ _ _
    | with_reducible assumption
    | with_reducible apply Fr.each
    | with_reducible apply Block.intxSend_fr
    | (intro _ _ h)
    | dsimp only)

/-- Frame of `selTake`. -/
theorem Block.selTake_fr {fm fq : Nat} {fa : Block} (b : Block) (f s : Nat) (hm : 0x8c000000000000000000000000000000000000000000000000000000000000000000000000020000000000000000000000000000000000000 &&& fm = 0x8c000000000000000000000000000000000000000000000000000000000000000000000000020000000000000000000000000000000000000) (hq : 0x0 &&& fq = 0x0)
    (h0 : Fr fm fq fa b) : Fr fm fq fa (b.selTake f s) := by
  refine Fr.step ?_ hm hq h0
  clear h0 hq hm
  unfold Block.selTake
  repeat' (first
    | (show _ = _; exact rfl)
    | with_reducible exact Fr.refl _ _ _
    | with_reducible assumption
    | with_reducible apply Fr.wr
    | dsimp only)

/-- Frame of `spurRound`. -/
theorem Block.spurRound_fr {fm fq : Nat} {fa : Block} (b : Block) (f : Nat) (hm : 0x8c000000000000000000000000000000000000000000000000000000000000000000000000024000000000000000000000000000000000000 &&& fm = 0x8c000000000000000000000000000000000000000000000000000000000000000000000000024000000000000000000000000000000000000) (hq : 0x0 &&& fq = 0x0)
    (h0 : Fr fm fq fa b) : Fr fm fq fa (b.spurRound f) := by
  refine Fr.step ?_ hm hq h0
  clear h0 hq hm
  unfold Block.spurRound
  repeat' (first
    | (show _ = _; exact rfl)
    | with_reducible exact Fr.refl _ _ _
    | with_reducible assumption
    | with_reducible apply Fr.wr
    | with_reducible apply Fr.incSat
    | with_reducible apply Block.selTake_fr
    | with_reducible apply Block.selected_fr
    | with_reducible apply Fr.ite
    | split
    | dsimp only)

/-- Frame of `spurWithdraw`. -/
theorem Block.spurWithdraw_fr {fm fq : Nat} {fa : Block} (b : Block) (f : Nat) (hm : 0x20000000000000000000000000000000000000 &&& fm = 0x20000000000000000000000000000000000000) (hq : 0x0 &&& fq = 0x0)
    (h0 : Fr fm fq fa b) : Fr fm fq fa (b.spurWithdraw f) := by
  refine Fr.step ?_ hm hq h0
  clear h0 hq hm
  unfold Block.spurWithdraw
  repeat' (first
    | (show _ = _; exact rfl)
    | with_reducible exact Fr.refl _ _ _
    | with_reducible assumption
    | with_reducible apply Fr.wr
    | with_reducible apply Block.selected_fr
    | split)

/-- Frame of `spurCommit`. -/
theorem Block.spurCommit_fr {fm fq : Nat} {fa : Block} (b : Block) (f : Nat) (hm : 0x20000040000000000000000000000000000000000000000000004018008000360004000000000000000000000000000000000 &&& fm = 0x20000040000000000000000000000000000000000000000000004018008000360004000000000000000000000000000000000) (hq : 0x440005100 &&& fq = 0x440005100)
    (h0 : Fr fm fq fa b) : Fr fm fq fa (b.spurCommit f) := by
  refine Fr.step ?_ hm hq h0
  clear h0 hq hm
  unfold Block.spurCommit
  repeat' (first
    | (show _ = _; exact rfl)
    | with_reducible exact Fr.refl _ _ _
    | with_reducible assumption
    | with_reducible apply Fr.wr
    | with_reducible apply Block.intxF_fr
    | with_reducible apply Block.selected_fr
    | with_reducible apply Block.spurWithdraw_fr
    | with_reducible apply Block.vecIssue_fr
    | with_reducible apply Fr.ite
    | split
    | dsimp only)

/-- Frame of `spurMaskOn`. -/
theorem Block.spurMaskOn_fr {fm fq : Nat} {fa : Block} (b : Block) (f v : Nat) (hm : 0x20040000000000000000000000000000000000 &&& fm = 0x20040000000000000000000000000000000000) (hq : 0x0 &&& fq = 0x0)
    (h0 : Fr fm fq fa b) : Fr fm fq fa (b.spurMaskOn f v) := by
  refine Fr.step ?_ hm hq h0
  clear h0 hq hm
  unfold Block.spurMaskOn
  repeat' (first
    | (show _ = _; exact rfl)
    | with_reducible exact Fr.refl _ _ _
    | with_reducible assumption
    | with_reducible apply Fr.setBits
    | with_reducible apply Block.selected_fr
    | with_reducible apply Block.spurWithdraw_fr
    | with_reducible apply Fr.ite
    | split
    | dsimp only)

/-- Frame of `spurPendOff`. -/
theorem Block.spurPendOff_fr {fm fq : Nat} {fa : Block} (b : Block) (f v : Nat) (hm : 0x800000000000000000000000000000000000000000000000000000000000060000000000000000000000000000000000000 &&& fm = 0x800000000000000000000000000000000000000000000000000000000000060000000000000000000000000000000000000) (hq : 0x40001200 &&& fq = 0x40001200)
    (h0 : Fr fm fq fa b) : Fr fm fq fa (b.spurPendOff f v) := by
  refine Fr.step ?_ hm hq h0
  clear h0 hq hm
  unfold Block.spurPendOff
  repeat' (first
    | (show _ = _; exact rfl)
    | with_reducible exact Fr.refl _ _ _
    | with_reducible assumption
    | with_reducible apply Fr.wr
    | with_reducible apply Fr.each
    | with_reducible apply Block.sample_fr
    | (intro _ _ h)
    | dsimp only)

/-- Frame of `spurEoiW`. -/
theorem Block.spurEoiW_fr {fm fq : Nat} {fa : Block} (b : Block) (f v : Nat) (hm : 0x8000000000000000000000000000000000000 &&& fm = 0x8000000000000000000000000000000000000) (hq : 0x200 &&& fq = 0x200)
    (h0 : Fr fm fq fa b) : Fr fm fq fa (b.spurEoiW f v) := by
  refine Fr.step ?_ hm hq h0
  clear h0 hq hm
  unfold Block.spurEoiW
  repeat' (first
    | (show _ = _; exact rfl)
    | with_reducible exact Fr.refl _ _ _
    | with_reducible assumption
    | with_reducible apply Fr.incSat
    | with_reducible apply Fr.fnMod
    | with_reducible apply Fr.each
    | with_reducible apply Fr.ite
    | (intro _ _ h)
    | split
    | dsimp only
    | refine Fr.upd (by (repeat' apply And.intro) <;> first | exact Or.inl rfl | exact Or.inr rfl) ?_)

/-- Frame of `spurResampleS`. -/
theorem Block.spurResampleS_fr {fm fq : Nat} {fa : Block} (b : Block) (f s : Nat) (hm : 0x20000000000000000000000000000000000000 &&& fm = 0x20000000000000000000000000000000000000) (hq : 0x40000300 &&& fq = 0x40000300)
    (h0 : Fr fm fq fa b) : Fr fm fq fa (b.spurResampleS f s) := by
  refine Fr.step ?_ hm hq h0
  clear h0 hq hm
  unfold Block.spurResampleS
  repeat' (first
    | (show _ = _; exact rfl)
    | with_reducible exact Fr.refl _ _ _
    | with_reducible assumption
    | with_reducible apply Fr.wr
    | with_reducible apply Fr.fnMod
    | with_reducible apply Block.intxF_fr
    | with_reducible apply Fr.ite
    | split
    | dsimp only
    | refine Fr.upd (by (repeat' apply And.intro) <;> first | exact Or.inl rfl | exact Or.inr rfl) ?_)

/-- Frame of `spurCfgW`. -/
theorem Block.spurCfgW_fr {fm fq : Nat} {fa : Block} (b : Block) (f off v : Nat) (hm : 0x1800000000000000000000000000000000000000000000000000000030000000000000000000000000000000000000 &&& fm = 0x1800000000000000000000000000000000000000000000000000000030000000000000000000000000000000000000) (hq : 0x0 &&& fq = 0x0)
    (h0 : Fr fm fq fa b) : Fr fm fq fa (b.spurCfgW f off v) := by
  refine Fr.step ?_ hm hq h0
  clear h0 hq hm
  unfold Block.spurCfgW
  split
  · exact Fr.refl _ _ _
  · next r hr =>
    split
    · exact Fr.refl _ _ _
    · next hc =>
      have hm : r.reg = .spurSrcCfg ∨ r.reg = .spurSrcTgtLo ∨ r.reg = .spurSrcTgtHi := by
        simp only [Bool.or_eq_true, Bool.not_eq_true', not_or, Bool.not_eq_false, beq_iff_eq, or_assoc] at hc
        exact hc.2
      have hb : ∀ p ∈ Reg.pieces r.reg, p.fld.attr.acc = .rw ∨ p.fld.attr.acc = .w1c → Nat.testBit 0x1800000000000000000000000000000000000000000000000000000030000000000000000000000000000000000000 (Fld.ctorIdx p.fld) = true := by
        generalize r.reg = g at hm
        rcases hm with hm | hm | hm <;> subst hm <;> decide
      have h1 : Fr 0x1800000000000000000000000000000000000000000000000000000030000000000000000000000000000000000000 0x0 b (b.regWrite true r v (fun fld x => if fld == .tgtVec then x < optD (b.fnRec? f) 0 (·.vectors) else true)) :=
        Block.regWriteOf_fr _ _ _ _ _ hb (Fr.refl _ _ _)
      dsimp only
      split
      · split
        · exact Block.spurWithdraw_fr _ _ rfl rfl h1
        · exact h1
      · exact h1

/-- Frame of `formJudge`. -/
theorem Block.formJudge_fr {fm fq : Nat} {fa : Block} (b : Block) (f old : Nat) (hm : 0x20000040000000000000000000000000000000000000000000004018008000020000000000000000000000000000000000000 &&& fm = 0x20000040000000000000000000000000000000000000000000004018008000020000000000000000000000000000000000000) (hq : 0x440005100 &&& fq = 0x440005100)
    (h0 : Fr fm fq fa b) : Fr fm fq fa (b.formJudge f old) := by
  refine Fr.step ?_ hm hq h0
  clear h0 hq hm
  unfold Block.formJudge
  repeat' (first
    | (show _ = _; exact rfl)
    | with_reducible exact Fr.refl _ _ _
    | with_reducible assumption
    | with_reducible apply Block.intxF_fr
    | with_reducible apply Block.pendFlush_fr
    | with_reducible apply Block.spurWithdraw_fr
    | with_reducible apply Fr.ite
    | split)

/-- Frame of `formWrite`. -/
theorem Block.formWrite_fr {fm fq : Nat} {fa : Block} (b : Block) (f j : Nat) (msix msi : Bool) (hm : 0x400021000040000000000000000000000000000000000000000000004018008000020000000000000000000000000000000000000 &&& fm = 0x400021000040000000000000000000000000000000000000000000004018008000020000000000000000000000000000000000000) (hq : 0x440005100 &&& fq = 0x440005100)
    (h0 : Fr fm fq fa b) : Fr fm fq fa (b.formWrite f j msix msi) := by
  refine Fr.step ?_ hm hq h0
  clear h0 hq hm
  unfold Block.formWrite
  repeat' (first
    | (show _ = _; exact rfl)
    | with_reducible exact Fr.refl _ _ _
    | with_reducible assumption
    | with_reducible apply Fr.wr
    | with_reducible apply Block.formJudge_fr
    | dsimp only)

/-- Frame of `qSignal`. -/
theorem Block.qSignal_fr {fm fq : Nat} {fa : Block} (b : Block) (f n : Nat) (hm : 0x20000040000000000000000000000000000000000000000000004018008000002000000000000000000000000000000000000 &&& fm = 0x20000040000000000000000000000000000000000000000000004018008000002000000000000000000000000000000000000) (hq : 0x440005500 &&& fq = 0x440005500)
    (h0 : Fr fm fq fa b) : Fr fm fq fa (b.qSignal f n) := by
  refine Fr.step ?_ hm hq h0
  clear h0 hq hm
  unfold Block.qSignal
  repeat' (first
    | (show _ = _; exact rfl)
    | with_reducible exact Fr.refl _ _ _
    | with_reducible assumption
    | with_reducible apply Fr.setBits
    | with_reducible apply Fr.quMod
    | with_reducible apply Block.intxF_fr
    | with_reducible apply Block.vecIssue_fr
    | with_reducible apply Fr.ite
    | split
    | dsimp only
    | refine Fr.upd (by (repeat' apply And.intro) <;> first | exact Or.inl rfl | exact Or.inr rfl) ?_)

/-- Frame of `answer`. -/
theorem Block.answer_fr {fm fq : Nat} {fa : Block} (b : Block) (tr : Transport) (a : Ans) (hm : 0x40000000000000000000000000000000000000000000004018008000000000000000000000000000000000000000000 &&& fm = 0x40000000000000000000000000000000000000000000004018008000000000000000000000000000000000000000000) (hq : 0x440005300 &&& fq = 0x440005300)
    (h0 : Fr fm fq fa b) : Fr fm fq fa (b.answer tr a) := by
  refine Fr.step ?_ hm hq h0
  clear h0 hq hm
  unfold Block.answer
  repeat' (first
    | (show _ = _; exact rfl)
    | with_reducible exact Fr.refl _ _ _
    | with_reducible assumption
    | with_reducible apply Fr.fnMod
    | with_reducible apply Fr.emit
    | with_reducible apply Block.vecSend_fr
    | with_reducible apply Fr.ite
    | split
    | dsimp only
    | refine Fr.upd (by (repeat' apply And.intro) <;> first | exact Or.inl rfl | exact Or.inr rfl) ?_)

/-- Frame of `reinChanged`. -/
theorem Block.reinChanged_fr {fm fq : Nat} {fa : Block} (b : Block) (f m : Nat) (hm : 0x30000000000000800000000000000000000000000000000000000000000000000000000000860000000000000000000000000000000000000 &&& fm = 0x30000000000000800000000000000000000000000000000000000000000000000000000000860000000000000000000000000000000000000) (hq : 0x40001200 &&& fq = 0x40001200)
    (h0 : Fr fm fq fa b) : Fr fm fq fa (b.reinChanged f m) := by
  refine Fr.step ?_ hm hq h0
  clear h0 hq hm
  unfold Block.reinChanged
  repeat' (first
    | (show _ = _; exact rfl)
    | with_reducible exact Fr.refl _ _ _
    | with_reducible assumption
    | with_reducible apply Fr.wr
    | with_reducible apply Fr.setBits
    | with_reducible apply Block.raise_fr
    | with_reducible apply Fr.ite
    | split
    | dsimp only)

/-- Frame of `reinTake`. -/
theorem Block.reinTake_fr {fm fq : Nat} {fa : Block} (b : Block) (f v : Nat) (hm : 0x30000000000000800000000000000000000000000000000000000000000000000000000000c60000000000000000000000000000000000000 &&& fm = 0x30000000000000800000000000000000000000000000000000000000000000000000000000c60000000000000000000000000000000000000) (hq : 0x40001200 &&& fq = 0x40001200)
    (h0 : Fr fm fq fa b) : Fr fm fq fa (b.reinTake f v) := by
  refine Fr.step ?_ hm hq h0
  clear h0 hq hm
  unfold Block.reinTake
  repeat' (first
    | (show _ = _; exact rfl)
    | with_reducible exact Fr.refl _ _ _
    | with_reducible assumption
    | with_reducible apply Fr.wr
    | with_reducible apply Block.reinChanged_fr
    | dsimp only)

/-- Frame of `reinPeriod`. -/
theorem Block.reinPeriod_fr {fm fq : Nat} {fa : Block} (b : Block) (f : Nat) (hm : 0x30000000000000800000000000000000000000000000000000000000000000000000000000060000000000000000000000000000000000000 &&& fm = 0x30000000000000800000000000000000000000000000000000000000000000000000000000060000000000000000000000000000000000000) (hq : 0x40001200 &&& fq = 0x40001200)
    (h0 : Fr fm fq fa b) : Fr fm fq fa (b.reinPeriod f) := by
  refine Fr.step ?_ hm hq h0
  clear h0 hq hm
  unfold Block.reinPeriod
  repeat' (first
    | (show _ = _; exact rfl)
    | with_reducible exact Fr.refl _ _ _
    | with_reducible assumption
    | with_reducible apply Fr.wr
    | with_reducible apply Block.raise_fr
    | with_reducible apply Fr.ite
    | split)

end Sys2Proof.Machine
end

