-- ==== Sys2Proof/Laws/FrHostCpl.lean ====
section
/-! SUPPORT. The frame of every operation of Machine/HostCpl.lean: the fields and the parts it may change, by bit masks. -/
set_option linter.unusedTactic false
set_option linter.unreachableTactic false
set_option linter.unusedSimpArgs false
set_option linter.unusedVariables false
namespace Sys2Proof.Machine

/-- Frame of `ackGo`. -/
theorem Block.ackGo_fr {fm fq : Nat} {fa : Block} (b : Block) (w : PWr) (hm : 0x20000000000000000000000000000000000000000000000000000000 &&& fm = 0x20000000000000000000000000000000000000000000000000000000) (hq : 0x7400044c2 &&& fq = 0x7400044c2)
    (h0 : Fr fm fq fa b) : Fr fm fq fa (b.ackGo w) := by
  refine Fr.step ?_ hm hq h0
  clear h0 hq hm
  unfold Block.ackGo
  repeat' (first
    | (show _ = _; exact rfl)
    | with_reducible exact Fr.refl _ _ _
    | with_reducible assumption
    | with_reducible apply Block.lmTry_fr
    | with_reducible apply Block.qWrote_fr
    | split)

/-- Frame of `backTo`. -/
theorem Block.backTo_fr {fm fq : Nat} {fa : Block} (b : Block) (l q bytes : Nat) (held : LoomBack) (g : Block → Block)
    (hg : ∀ b, Fr fm fq fa b → Fr fm fq fa (g b)) (hm : 0x0 &&& fm = 0x0) (hq : 0x600000000 &&& fq = 0x600000000) (h0 : Fr fm fq fa b) :
    Fr fm fq fa (b.backTo l q bytes held g) := by
  unfold Block.backTo
  split
  · exact Fr.step (Fr.upd (m := 0x0) (q := 0x600000000) (by (repeat' apply And.intro) <;> first | exact Or.inl rfl | exact Or.inr rfl) (Fr.refl _ _ _)) hm hq h0
  · exact hg _ (Fr.step (Block.cross_fr (fm := 0x0) (fq := 0x600000000) b _ _ _ _ rfl rfl (Fr.refl _ _ _)) hm hq h0)

/-- Frame of `wAcked`. -/
theorem Block.wAcked_fr {fm fq : Nat} {fa : Block} (b : Block) (w : PWr) (hm : 0x20000000000000000000000000000000000000000000000000000000 &&& fm = 0x20000000000000000000000000000000000000000000000000000000) (hq : 0x7400044c2 &&& fq = 0x7400044c2)
    (h0 : Fr fm fq fa b) : Fr fm fq fa (b.wAcked w) := by
  refine Fr.step ?_ hm hq h0
  clear h0 hq hm
  unfold Block.wAcked
  repeat' (first
    | (show _ = _; exact rfl)
    | with_reducible exact Fr.refl _ _ _
    | with_reducible assumption
    | with_reducible apply Block.ackGo_fr
    | with_reducible apply Block.backTo_fr
    | (intro _ _ h)
    | (intro _ h)
    | split
    | dsimp only)

/-- Frame of `ackN`. -/
theorem Block.ackN_fr {fm fq : Nat} {fa : Block} (b : Block) (l n : Nat) (hm : 0x20000000000000000000000000000000000000000000000000000000 &&& fm = 0x20000000000000000000000000000000000000000000000000000000) (hq : 0x7400045c2 &&& fq = 0x7400045c2)
    (h0 : Fr fm fq fa b) : Fr fm fq fa (b.ackN l n) := by
  refine Fr.step ?_ hm hq h0
  clear h0 hq hm
  unfold Block.ackN
  repeat' (first
    | (show _ = _; exact rfl)
    | with_reducible exact Fr.refl _ _ _
    | with_reducible assumption
    | with_reducible apply Fr.lkMod
    | with_reducible apply Fr.each
    | with_reducible apply Block.wAcked_fr
    | (intro _ _ h)
    | dsimp only
    | refine Fr.upd (by (repeat' apply And.intro) <;> first | exact Or.inl rfl | exact Or.inr rfl) ?_)

/-- Frame of `fetchBad`. -/
theorem Block.fetchBad_fr {fm fq : Nat} {fa : Block} (b : Block) (q desc st : Nat) (hm : 0x40000000000000800000000000000000000000000000000000000000020000004018008000020000000301e00180000000000000000000000 &&& fm = 0x40000000000000800000000000000000000000000000000000000000020000004018008000020000000301e00180000000000000000000000) (hq : 0x5400057c0 &&& fq = 0x5400057c0)
    (h0 : Fr fm fq fa b) : Fr fm fq fa (b.fetchBad q desc st) := by
  refine Fr.step ?_ hm hq h0
  clear h0 hq hm
  unfold Block.fetchBad
  repeat' (first
    | (show _ = _; exact rfl)
    | with_reducible exact Fr.refl _ _ _
    | with_reducible assumption
    | with_reducible apply Fr.quMod
    | with_reducible apply Block.haltQ_fr
    | dsimp only
    | refine Fr.upd (by (repeat' apply And.intro) <;> first | exact Or.inl rfl | exact Or.inr rfl) ?_)

/-- Frame of `badGo`. -/
theorem Block.badGo_fr {fm fq : Nat} {fa : Block} (b : Block) (f : Nat) (t : HTag) (st : Nat) (hm : 0x40000000000000800000000000000000000000000000000000000000020000004018008000020000000301e00180000000000000000000000 &&& fm = 0x40000000000000800000000000000000000000000000000000000000020000004018008000020000000301e00180000000000000000000000) (hq : 0x7400057c2 &&& fq = 0x7400057c2)
    (h0 : Fr fm fq fa b) : Fr fm fq fa (b.badGo f t st) := by
  refine Fr.step ?_ hm hq h0
  clear h0 hq hm
  unfold Block.badGo
  repeat' (first
    | (show _ = _; exact rfl)
    | with_reducible exact Fr.refl _ _ _
    | with_reducible assumption
    | with_reducible apply Fr.quMod
    | with_reducible apply Block.fetchBad_fr
    | with_reducible apply Block.lm_fr
    | with_reducible apply Block.lmAnswer_fr
    | with_reducible apply Block.lmFail_fr
    | with_reducible apply Block.lmMod_fr
    | with_reducible apply Block.qFail_fr
    | split
    | dsimp only
    | refine Fr.upd (by (repeat' apply And.intro) <;> first | exact Or.inl rfl | exact Or.inr rfl) ?_)

/-- Frame of `npBad`. -/
theorem Block.npBad_fr {fm fq : Nat} {fa : Block} (b : Block) (f : Nat) (t : HTag) (st : Nat) (hm : 0x40000000000000800000000000000000000000000000000000000000020000004018008000020000000301e00180000000000000000000000 &&& fm = 0x40000000000000800000000000000000000000000000000000000000020000004018008000020000000301e00180000000000000000000000) (hq : 0x7400057c2 &&& fq = 0x7400057c2)
    (h0 : Fr fm fq fa b) : Fr fm fq fa (b.npBad f t st) := by
  refine Fr.step ?_ hm hq h0
  clear h0 hq hm
  unfold Block.npBad
  repeat' (first
    | (show _ = _; exact rfl)
    | with_reducible exact Fr.refl _ _ _
    | with_reducible assumption
    | with_reducible apply Block.backTo_fr
    | with_reducible apply Block.badGo_fr
    | (intro _ _ h)
    | (intro _ h)
    | split
    | dsimp only)

/-- Frame of `goodGo`. -/
theorem Block.goodGo_fr {fm fq : Nat} {fa : Block} (b : Block) (f : Nat) (t : HTag) (cells : List (Byte × Bool)) (hm : 0x20000000000000000000000000000000000000000000000000000000 &&& fm = 0x20000000000000000000000000000000000000000000000000000000) (hq : 0x7400044c2 &&& fq = 0x7400044c2)
    (h0 : Fr fm fq fa b) : Fr fm fq fa (b.goodGo f t cells) := by
  refine Fr.step ?_ hm hq h0
  clear h0 hq hm
  unfold Block.goodGo
  repeat' (first
    | (show _ = _; exact rfl)
    | with_reducible exact Fr.refl _ _ _
    | with_reducible assumption
    | with_reducible apply Fr.quMod
    | with_reducible apply Block.lm_fr
    | with_reducible apply Block.lmAnswer_fr
    | with_reducible apply Block.lmMod_fr
    | with_reducible apply Block.lmTry_fr
    | with_reducible apply Block.qPart_fr
    | with_reducible apply Fr.ite
    | split
    | dsimp only
    | refine Fr.upd (by (repeat' apply And.intro) <;> first | exact Or.inl rfl | exact Or.inr rfl) ?_)

/-- Frame of `npGood`. -/
theorem Block.npGood_fr {fm fq : Nat} {fa : Block} (b : Block) (f : Nat) (t : HTag) (cells : List (Byte × Bool)) (hm : 0x20000000000000000000000000000000000000000000000000000000 &&& fm = 0x20000000000000000000000000000000000000000000000000000000) (hq : 0x7400044c2 &&& fq = 0x7400044c2)
    (h0 : Fr fm fq fa b) : Fr fm fq fa (b.npGood f t cells) := by
  refine Fr.step ?_ hm hq h0
  clear h0 hq hm
  unfold Block.npGood
  repeat' (first
    | (show _ = _; exact rfl)
    | with_reducible exact Fr.refl _ _ _
    | with_reducible assumption
    | with_reducible apply Block.backTo_fr
    | with_reducible apply Block.goodGo_fr
    | (intro _ _ h)
    | (intro _ h)
    | split
    | dsimp only)

/-- Frame of `npDrop`. -/
theorem Block.npDrop_fr {fm fq : Nat} {fa : Block} (b : Block) (f id : Nat) (hm : 0x4018008000000000000000000000000000000000000000000 &&& fm = 0x4018008000000000000000000000000000000000000000000) (hq : 0x40005302 &&& fq = 0x40005302)
    (h0 : Fr fm fq fa b) : Fr fm fq fa (b.npDrop f id) := by
  refine Fr.step ?_ hm hq h0
  clear h0 hq hm
  unfold Block.npDrop
  repeat' (first
    | (show _ = _; exact rfl)
    | with_reducible exact Fr.refl _ _ _
    | with_reducible assumption
    | with_reducible apply Block.dropNp_fr
    | with_reducible apply Block.pumpNp_fr
    | dsimp only)

/-- Frame of `hostCpl`. -/
theorem Block.hostCpl_fr {fm fq : Nat} {fa : Block} (b : Block) (l f tag : Nat) (st : CplSt) (data : List Byte) (ep : Bool) (hm : 0x400000490010008020000000000000000000000000000001ffe14000020000004018008000060000000301e00180000000000000000000000 &&& fm = 0x400000490010008020000000000000000000000000000001ffe14000020000004018008000060000000301e00180000000000000000000000) (hq : 0x7400057c2 &&& fq = 0x7400057c2)
    (h0 : Fr fm fq fa b) : Fr fm fq fa (b.hostCpl l f tag st data ep) := by
  refine Fr.step ?_ hm hq h0
  clear h0 hq hm
  unfold Block.hostCpl
  repeat' (first
    | (show _ = _; exact rfl)
    | with_reducible exact Fr.refl _ _ _
    | with_reducible assumption
    | with_reducible apply Fr.fnMod
    | with_reducible apply Block.aerAdv_fr
    | with_reducible apply Block.logErr_fr
    | with_reducible apply Block.npBad_fr
    | with_reducible apply Block.npDrop_fr
    | with_reducible apply Block.npGood_fr
    | with_reducible apply Fr.ite
    | split
    | dsimp only
    | refine Fr.upd (by (repeat' apply And.intro) <;> first | exact Or.inl rfl | exact Or.inr rfl) ?_)

/-- Frame of `npQuar`. -/
theorem Block.npQuar_fr {fm fq : Nat} {fa : Block} (b : Block) (f id : Nat) (st : HSt) (hm : 0x0 &&& fm = 0x0) (hq : 0x200 &&& fq = 0x200)
    (h0 : Fr fm fq fa b) : Fr fm fq fa (b.npQuar f id st) := by
  refine Fr.step ?_ hm hq h0
  clear h0 hq hm
  unfold Block.npQuar
  repeat' (first
    | (show _ = _; exact rfl)
    | with_reducible exact Fr.refl _ _ _
    | with_reducible assumption
    | with_reducible apply Fr.fnMod
    | dsimp only
    | refine Fr.upd (by (repeat' apply And.intro) <;> first | exact Or.inl rfl | exact Or.inr rfl) ?_)

/-- Frame of `xreqDrop`. -/
theorem Block.xreqDrop_fr {fm fq : Nat} {fa : Block} (b : Block) (f rid : Nat) (hm : 0x0 &&& fm = 0x0) (hq : 0x200 &&& fq = 0x200)
    (h0 : Fr fm fq fa b) : Fr fm fq fa (b.xreqDrop f rid) := by
  refine Fr.step ?_ hm hq h0
  clear h0 hq hm
  unfold Block.xreqDrop
  repeat' (first
    | (show _ = _; exact rfl)
    | with_reducible exact Fr.refl _ _ _
    | with_reducible assumption
    | with_reducible apply Fr.fnMod
    | dsimp only
    | refine Fr.upd (by (repeat' apply And.intro) <;> first | exact Or.inl rfl | exact Or.inr rfl) ?_)

/-- Frame of `xlEnd`. -/
theorem Block.xlEnd_fr {fm fq : Nat} {fa : Block} (b : Block) (ws : List XlWait) (hm : 0x40000000000000800000000000000000000000000000000000000000020000004018008000020000000301e00180000000000000000000000 &&& fm = 0x40000000000000800000000000000000000000000000000000000000020000004018008000020000000301e00180000000000000000000000) (hq : 0x7400057c2 &&& fq = 0x7400057c2)
    (h0 : Fr fm fq fa b) : Fr fm fq fa (b.xlEnd ws) := by
  refine Fr.step ?_ hm hq h0
  clear h0 hq hm
  unfold Block.xlEnd
  repeat' (first
    | (show _ = _; exact rfl)
    | with_reducible exact Fr.refl _ _ _
    | with_reducible assumption
    | with_reducible apply Fr.each
    | with_reducible apply Block.chunkXlHalt_fr
    | with_reducible apply Block.lm_fr
    | with_reducible apply Block.lmAnswer_fr
    | (intro _ _ h)
    | split
    | dsimp only)

/-- Frame of `lmPumpAll`. -/
theorem Block.lmPumpAll_fr {fm fq : Nat} {fa : Block} (b : Block) (hm : 0x490010008020000000000000000000000000000001ffe14000020000004018008000060000000000000000000000000000000000000 &&& fm = 0x490010008020000000000000000000000000000001ffe14000020000004018008000060000000000000000000000000000000000000) (hq : 0x7400853c6 &&& fq = 0x7400853c6)
    (h0 : Fr fm fq fa b) : Fr fm fq fa (b.lmPumpAll) := by
  refine Fr.step ?_ hm hq h0
  clear h0 hq hm
  unfold Block.lmPumpAll
  repeat' (first
    | (show _ = _; exact rfl)
    | with_reducible exact Fr.refl _ _ _
    | with_reducible assumption
    | with_reducible apply Fr.each
    | with_reducible apply Block.lmPump_fr
    | (intro _ _ h)
    | dsimp only)

/-- Frame of `xlFailed`. -/
theorem Block.xlFailed_fr {fm fq : Nat} {fa : Block} (b : Block) (f why : Nat) (x : XlReq) (hm : 0x400000490010008020000000000000000000000000000001ffe14000020000004018008000060000000301e00180000000000000000000000 &&& fm = 0x400000490010008020000000000000000000000000000001ffe14000020000004018008000060000000301e00180000000000000000000000) (hq : 0x7400857c6 &&& fq = 0x7400857c6)
    (h0 : Fr fm fq fa b) : Fr fm fq fa (b.xlFailed f why x) := by
  refine Fr.step ?_ hm hq h0
  clear h0 hq hm
  unfold Block.xlFailed
  repeat' (first
    | (show _ = _; exact rfl)
    | with_reducible exact Fr.refl _ _ _
    | with_reducible assumption
    | with_reducible apply Block.lmPumpAll_fr
    | with_reducible apply Block.pumpXl_fr
    | with_reducible apply Block.xlEnd_fr
    | with_reducible apply Block.xlLog_fr
    | with_reducible apply Block.xreqDrop_fr
    | dsimp only)

/-- Frame of `cplTimeout`. -/
theorem Block.cplTimeout_fr {fm fq : Nat} {fa : Block} (b : Block) (f tag : Nat) (hm : 0x400000490010008020000000000000000000000000000001ffe14000020000004018008000060000000301e00180000000000000000000000 &&& fm = 0x400000490010008020000000000000000000000000000001ffe14000020000004018008000060000000301e00180000000000000000000000) (hq : 0x7400857c6 &&& fq = 0x7400857c6)
    (h0 : Fr fm fq fa b) : Fr fm fq fa (b.cplTimeout f tag) := by
  refine Fr.step ?_ hm hq h0
  clear h0 hq hm
  unfold Block.cplTimeout
  repeat' (first
    | (show _ = _; exact rfl)
    | with_reducible exact Fr.refl _ _ _
    | with_reducible assumption
    | with_reducible apply Block.logErr_fr
    | with_reducible apply Block.npBad_fr
    | with_reducible apply Block.npQuar_fr
    | with_reducible apply Block.xlFailed_fr
    | with_reducible apply Block.xreq_fr
    | with_reducible apply Fr.ite
    | split
    | dsimp only
    | refine Fr.upd (by (repeat' apply And.intro) <;> first | exact Or.inl rfl | exact Or.inr rfl) ?_)

/-- Frame of `fetchTmo`. -/
theorem Block.fetchTmo_fr {fm fq : Nat} {fa : Block} (b : Block) (f tag : Nat) (hm : 0x400000490010008020000000000000000000000000000001ffe14000020000004018008000060000000301e00180000000000000000000000 &&& fm = 0x400000490010008020000000000000000000000000000001ffe14000020000004018008000060000000301e00180000000000000000000000) (hq : 0x7400057c2 &&& fq = 0x7400057c2)
    (h0 : Fr fm fq fa b) : Fr fm fq fa (b.fetchTmo f tag) := by
  refine Fr.step ?_ hm hq h0
  clear h0 hq hm
  unfold Block.fetchTmo
  repeat' (first
    | (show _ = _; exact rfl)
    | with_reducible exact Fr.refl _ _ _
    | with_reducible assumption
    | with_reducible apply Block.logErr_fr
    | with_reducible apply Block.npBad_fr
    | with_reducible apply Block.npQuar_fr
    | with_reducible apply Fr.ite
    | split
    | dsimp only)

/-- Frame of `tagFree`. -/
theorem Block.tagFree_fr {fm fq : Nat} {fa : Block} (b : Block) (f tag : Nat) (hm : 0x4018008000000000000000000000000000000000000000000 &&& fm = 0x4018008000000000000000000000000000000000000000000) (hq : 0x40005302 &&& fq = 0x40005302)
    (h0 : Fr fm fq fa b) : Fr fm fq fa (b.tagFree f tag) := by
  refine Fr.step ?_ hm hq h0
  clear h0 hq hm
  unfold Block.tagFree
  repeat' (first
    | (show _ = _; exact rfl)
    | with_reducible exact Fr.refl _ _ _
    | with_reducible assumption
    | with_reducible apply Block.npDrop_fr
    | split
    | dsimp only)

/-- Frame of `atsDiscard`. -/
theorem Block.atsDiscard_fr {fm fq : Nat} {fa : Block} (b : Block) (p : AtsEnt → Bool) (hm : 0x0 &&& fm = 0x0) (hq : 0x80000 &&& fq = 0x80000)
    (h0 : Fr fm fq fa b) : Fr fm fq fa (b.atsDiscard p) := by
  refine Fr.step ?_ hm hq h0
  clear h0 hq hm
  unfold Block.atsDiscard
  repeat' (first
    | (show _ = _; exact rfl)
    | with_reducible exact Fr.refl _ _ _
    | with_reducible assumption
    | with_reducible apply Fr.ite
    | split
    | dsimp only
    | refine Fr.upd (by (repeat' apply And.intro) <;> first | exact Or.inl rfl | exact Or.inr rfl) ?_)

/-- Frame of `atsEvict`. -/
theorem Block.atsEvict_fr {fm fq : Nat} {fa : Block} (b : Block) (f : Nat) (hm : 0x0 &&& fm = 0x0) (hq : 0x80000 &&& fq = 0x80000)
    (h0 : Fr fm fq fa b) : Fr fm fq fa (b.atsEvict f) := by
  refine Fr.step ?_ hm hq h0
  clear h0 hq hm
  unfold Block.atsEvict
  repeat' (first
    | (show _ = _; exact rfl)
    | with_reducible exact Fr.refl _ _ _
    | with_reducible assumption
    | with_reducible apply Block.atsDiscard_fr
    | with_reducible apply Fr.ite
    | split
    | dsimp only)

/-- Frame of `atsInsert`. -/
theorem Block.atsInsert_fr {fm fq : Nat} {fa : Block} (b : Block) (f : Nat) (x : XlReq) (d : XlDone) (hm : 0x0 &&& fm = 0x0) (hq : 0x80004 &&& fq = 0x80004)
    (h0 : Fr fm fq fa b) : Fr fm fq fa (b.atsInsert f x d) := by
  refine Fr.step ?_ hm hq h0
  clear h0 hq hm
  unfold Block.atsInsert
  repeat' (first
    | (show _ = _; exact rfl)
    | with_reducible exact Fr.refl _ _ _
    | with_reducible assumption
    | with_reducible apply Fr.wr
    | dsimp only
    | refine Fr.upd (by (repeat' apply And.intro) <;> first | exact Or.inl rfl | exact Or.inr rfl) ?_)

/-- Frame of `xlServe`. -/
theorem Block.xlServe_fr {fm fq : Nat} {fa : Block} (b : Block) (f : Nat) (x : XlReq) (d : XlDone) (w : XlWait) (hm : 0x400000490010008020000000000000000000000000000001ffe14000020000004018008000060008000301e009800000f0000400000080800 &&& fm = 0x400000490010008020000000000000000000000000000001ffe14000020000004018008000060008000301e009800000f0000400000080800) (hq : 0x7400c57c6 &&& fq = 0x7400c57c6)
    (h0 : Fr fm fq fa b) : Fr fm fq fa (b.xlServe f x d w) := by
  refine Fr.step ?_ hm hq h0
  clear h0 hq hm
  unfold Block.xlServe
  repeat' (first
    | (show _ = _; exact rfl)
    | with_reducible exact Fr.refl _ _ _
    | with_reducible assumption
    | with_reducible apply Block.chunkXlFail_fr
    | with_reducible apply Block.lm_fr
    | with_reducible apply Block.lmAnswer_fr
    | with_reducible apply Block.lmStart_fr
    | with_reducible apply Block.segRetry_fr
    | with_reducible apply Block.xlLog_fr
    | with_reducible apply Fr.ite
    | split
    | dsimp only)

/-- Frame of `xlDone`. -/
theorem Block.xlDone_fr {fm fq : Nat} {fa : Block} (b : Block) (f tag : Nat) (d : XlDone) (hm : 0x400000490010008020000000000000000000000000000001ffe14000020000004018008000060008000301e009800000f0000400000080800 &&& fm = 0x400000490010008020000000000000000000000000000001ffe14000020000004018008000060008000301e009800000f0000400000080800) (hq : 0x7400c57c6 &&& fq = 0x7400c57c6)
    (h0 : Fr fm fq fa b) : Fr fm fq fa (b.xlDone f tag d) := by
  refine Fr.step ?_ hm hq h0
  clear h0 hq hm
  unfold Block.xlDone
  repeat' (first
    | (show _ = _; exact rfl)
    | with_reducible exact Fr.refl _ _ _
    | with_reducible assumption
    | with_reducible apply Fr.wr
    | with_reducible apply Fr.fnMod
    | with_reducible apply Fr.each
    | with_reducible apply Block.aerAdv_fr
    | with_reducible apply Block.atsDiscard_fr
    | with_reducible apply Block.atsEvict_fr
    | with_reducible apply Block.atsInsert_fr
    | with_reducible apply Block.lmPumpAll_fr
    | with_reducible apply Block.logErr_fr
    | with_reducible apply Block.npDrop_fr
    | with_reducible apply Block.pumpXl_fr
    | with_reducible apply Block.xlFailed_fr
    | with_reducible apply Block.xlServe_fr
    | with_reducible apply Block.xreq_fr
    | with_reducible apply Block.xreqDrop_fr
    | with_reducible apply Fr.ite
    | (intro _ _ h)
    | split
    | dsimp only
    | refine Fr.upd (by (repeat' apply And.intro) <;> first | exact Or.inl rfl | exact Or.inr rfl) ?_)

/-- Frame of `invRequest`. -/
theorem Block.invRequest_fr {fm fq : Nat} {fa : Block} (b : Block) (f itag addr size : Nat) (pasid : Option Nat) (global : Bool) (hm : 0x0 &&& fm = 0x0) (hq : 0x80200 &&& fq = 0x80200)
    (h0 : Fr fm fq fa b) : Fr fm fq fa (b.invRequest f itag addr size pasid global) := by
  refine Fr.step ?_ hm hq h0
  clear h0 hq hm
  unfold Block.invRequest
  repeat' (first
    | (show _ = _; exact rfl)
    | with_reducible exact Fr.refl _ _ _
    | with_reducible assumption
    | with_reducible apply Fr.fnMod
    | dsimp only
    | refine Fr.upd (by (repeat' apply And.intro) <;> first | exact Or.inl rfl | exact Or.inr rfl) ?_)

/-- Frame of `invDone`. -/
theorem Block.invDone_fr {fm fq : Nat} {fa : Block} (b : Block) (f : Nat) (hm : 0x0 &&& fm = 0x0) (hq : 0x40080200 &&& fq = 0x40080200)
    (h0 : Fr fm fq fa b) : Fr fm fq fa (b.invDone f) := by
  refine Fr.step ?_ hm hq h0
  clear h0 hq hm
  unfold Block.invDone
  repeat' (first
    | (show _ = _; exact rfl)
    | with_reducible exact Fr.refl _ _ _
    | with_reducible assumption
    | with_reducible apply Fr.fnMod
    | with_reducible apply Fr.emit
    | with_reducible apply Fr.ite
    | split
    | dsimp only
    | refine Fr.upd (by (repeat' apply And.intro) <;> first | exact Or.inl rfl | exact Or.inr rfl) ?_)

/-- Frame of `atsFlush`. -/
theorem Block.atsFlush_fr {fm fq : Nat} {fa : Block} (b : Block) (f : Nat) (hm : 0x0 &&& fm = 0x0) (hq : 0x80000 &&& fq = 0x80000)
    (h0 : Fr fm fq fa b) : Fr fm fq fa (b.atsFlush f) := by
  refine Fr.step ?_ hm hq h0
  clear h0 hq hm
  unfold Block.atsFlush
  repeat' (first
    | (show _ = _; exact rfl)
    | with_reducible exact Fr.refl _ _ _
    | with_reducible assumption
    | with_reducible apply Block.atsDiscard_fr
    | dsimp only)

end Sys2Proof.Machine
end

