-- ==== Sys2Proof/Laws/FrMastering.lean ====
section
/-! SUPPORT. The frame of every operation of Machine/Mastering.lean: the fields and the parts it may change, by bit masks. -/
set_option linter.unusedTactic false
set_option linter.unreachableTactic false
set_option linter.unusedSimpArgs false
set_option linter.unusedVariables false
namespace Sys2Proof.Machine

/-- Frame of `lmCut`. -/
theorem Block.lmCut_fr {fm fq : Nat} {fa : Block} (b : Block) (p : Nat) (m : LmReq) (zlrToo : Bool) (hm : 0x20000000000000000000000000000000000000000000000000000000 &&& fm = 0x20000000000000000000000000000000000000000000000000000000) (hq : 0x7400043c2 &&& fq = 0x7400043c2)
    (h0 : Fr fm fq fa b) : Fr fm fq fa (b.lmCut p m zlrToo) := by
  refine Fr.step ?_ hm hq h0
  clear h0 hq hm
  unfold Block.lmCut
  repeat' (first
    | (show _ = _; exact rfl)
    | with_reducible exact Fr.refl _ _ _
    | with_reducible assumption
    | with_reducible apply Fr.lkMod
    | with_reducible apply Block.dropNp_fr
    | with_reducible apply Block.lmAnswer_fr
    | with_reducible apply Block.lmFail_fr
    | with_reducible apply Block.lmMod_fr
    | with_reducible apply Fr.ite
    | split
    | dsimp only
    | refine Fr.upd (by (repeat' apply And.intro) <;> first | exact Or.inl rfl | exact Or.inr rfl) ?_)

/-- Frame of `flushCut`. -/
theorem Block.flushCut_fr {fm fq : Nat} {fa : Block} (b : Block) (p f : Nat) (all : Bool) (hm : 0x0 &&& fm = 0x0) (hq : 0x240 &&& fq = 0x240)
    (h0 : Fr fm fq fa b) : Fr fm fq fa (b.flushCut p f all) := by
  refine Fr.step ?_ hm hq h0
  clear h0 hq hm
  unfold Block.flushCut
  repeat' (first
    | (show _ = _; exact rfl)
    | with_reducible exact Fr.refl _ _ _
    | with_reducible assumption
    | with_reducible apply Fr.fnMod
    | with_reducible apply Fr.each
    | with_reducible apply Block.lmMod_fr
    | with_reducible apply Fr.ite
    | (intro _ _ h)
    | split
    | dsimp only
    | refine Fr.upd (by (repeat' apply And.intro) <;> first | exact Or.inl rfl | exact Or.inr rfl) ?_)

/-- Frame of `irqHold`. -/
theorem Block.irqHold_fr {fm fq : Nat} {fa : Block} (b : Block) (f : Nat) (hm : 0x20000040000000000000000000000000000000000000000000000000000000000000000000000000000000000000000000000 &&& fm = 0x20000040000000000000000000000000000000000000000000000000000000000000000000000000000000000000000000000) (hq : 0x100 &&& fq = 0x100)
    (h0 : Fr fm fq fa b) : Fr fm fq fa (b.irqHold f) := by
  refine Fr.step ?_ hm hq h0
  clear h0 hq hm
  unfold Block.irqHold
  repeat' (first
    | (show _ = _; exact rfl)
    | with_reducible exact Fr.refl _ _ _
    | with_reducible assumption
    | with_reducible apply Fr.wr
    | with_reducible apply Fr.setBits
    | with_reducible apply Fr.lkMod
    | with_reducible apply Fr.each
    | with_reducible apply Fr.ite
    | (intro _ _ h)
    | split
    | dsimp only
    | refine Fr.upd (by (repeat' apply And.intro) <;> first | exact Or.inl rfl | exact Or.inr rfl) ?_)

/-- Frame of `bmeOff`. -/
theorem Block.bmeOff_fr {fm fq : Nat} {fa : Block} (b : Block) (f : Nat) (hm : 0x490010208020400000000000000000000000000001ffe14000020000004018008000060000000000000480000000000000000000000 &&& fm = 0x490010208020400000000000000000000000000001ffe14000020000004018008000060000000000000480000000000000000000000) (hq : 0x7400857c6 &&& fq = 0x7400857c6)
    (h0 : Fr fm fq fa b) : Fr fm fq fa (b.bmeOff f) := by
  refine Fr.step ?_ hm hq h0
  clear h0 hq hm
  unfold Block.bmeOff
  repeat' (first
    | (show _ = _; exact rfl)
    | with_reducible exact Fr.refl _ _ _
    | with_reducible assumption
    | with_reducible apply Fr.fnMod
    | with_reducible apply Fr.each
    | with_reducible apply Block.flushCut_fr
    | with_reducible apply Block.irqHold_fr
    | with_reducible apply Block.lmAnswer_fr
    | with_reducible apply Block.lmCut_fr
    | with_reducible apply Block.lmPumpAll_fr
    | with_reducible apply Block.qBmeOff_fr
    | (intro _ _ h)
    | split
    | dsimp only
    | refine Fr.upd (by (repeat' apply And.intro) <;> first | exact Or.inl rfl | exact Or.inr rfl) ?_)

/-- Frame of `bmeOn`. -/
theorem Block.bmeOn_fr {fm fq : Nat} {fa : Block} (b : Block) (f : Nat) (hm : 0x400000490010208020400000000000000000000000000001ffe14000020000004018008000060008000301e00d800000f0000400000080800 &&& fm = 0x400000490010208020400000000000000000000000000001ffe14000020000004018008000060008000301e00d800000f0000400000080800) (hq : 0x7406c57c6 &&& fq = 0x7406c57c6)
    (h0 : Fr fm fq fa b) : Fr fm fq fa (b.bmeOn f) := by
  refine Fr.step ?_ hm hq h0
  clear h0 hq hm
  unfold Block.bmeOn
  repeat' (first
    | (show _ = _; exact rfl)
    | with_reducible exact Fr.refl _ _ _
    | with_reducible assumption
    | with_reducible apply Fr.lkMod
    | with_reducible apply Fr.each
    | with_reducible apply Block.evPump_fr
    | with_reducible apply Block.headWb_fr
    | with_reducible apply Block.pendFlush_fr
    | with_reducible apply Block.pumpNp_fr
    | with_reducible apply Block.pumpPosted_fr
    | with_reducible apply Block.pumpXl_fr
    | with_reducible apply Block.qBmeOn_fr
    | with_reducible apply Fr.ite
    | (intro _ _ h)
    | split
    | dsimp only
    | refine Fr.upd (by (repeat' apply And.intro) <;> first | exact Or.inl rfl | exact Or.inr rfl) ?_)

/-- Frame of `bmeJudge`. -/
theorem Block.bmeJudge_fr {fm fq : Nat} {fa : Block} (b : Block) (f : Nat) (old : Bool) (hm : 0x400000490010208020400000000000000000000000000001ffe14000020000004018008000060008000301e00d800000f0000400000080800 &&& fm = 0x400000490010208020400000000000000000000000000001ffe14000020000004018008000060008000301e00d800000f0000400000080800) (hq : 0x7406c57c6 &&& fq = 0x7406c57c6)
    (h0 : Fr fm fq fa b) : Fr fm fq fa (b.bmeJudge f old) := by
  refine Fr.step ?_ hm hq h0
  clear h0 hq hm
  unfold Block.bmeJudge
  repeat' (first
    | (show _ = _; exact rfl)
    | with_reducible exact Fr.refl _ _ _
    | with_reducible assumption
    | with_reducible apply Block.bmeOff_fr
    | with_reducible apply Block.bmeOn_fr
    | with_reducible apply Fr.ite
    | split)

/-- Frame of `tdiErr`. -/
theorem Block.tdiErr_fr {fm fq : Nat} {fa : Block} (b : Block) (f : Nat) (hm : 0x408000490010208020400000000000000000000000000001ffe14000020000004018008000060008000301e00d800000f0000400000080800 &&& fm = 0x408000490010208020400000000000000000000000000001ffe14000020000004018008000060008000301e00d800000f0000400000080800) (hq : 0x7406c57c6 &&& fq = 0x7406c57c6)
    (h0 : Fr fm fq fa b) : Fr fm fq fa (b.tdiErr f) := by
  refine Fr.step ?_ hm hq h0
  clear h0 hq hm
  unfold Block.tdiErr
  repeat' (first
    | (show _ = _; exact rfl)
    | with_reducible exact Fr.refl _ _ _
    | with_reducible assumption
    | with_reducible apply Fr.wr
    | with_reducible apply Block.bmeJudge_fr
    | with_reducible apply Fr.ite
    | split)

/-- Frame of `bmeWrite`. -/
theorem Block.bmeWrite_fr {fm fq : Nat} {fa : Block} (b : Block) (f j : Nat) (v : Bool) (hm : 0x100000000000000000000000000000000000000000000000000000000000000000000000000000000000000000000000 &&& fm = 0x100000000000000000000000000000000000000000000000000000000000000000000000000000000000000000000000) (hq : 0x200 &&& fq = 0x200)
    (h0 : Fr fm fq fa b) : Fr fm fq fa (b.bmeWrite f j v) := by
  refine Fr.step ?_ hm hq h0
  clear h0 hq hm
  unfold Block.bmeWrite
  repeat' (first
    | (show _ = _; exact rfl)
    | with_reducible exact Fr.refl _ _ _
    | with_reducible assumption
    | with_reducible apply Fr.wr
    | with_reducible apply Fr.fnMod
    | with_reducible apply Fr.ite
    | split
    | dsimp only
    | refine Fr.upd (by (repeat' apply And.intro) <;> first | exact Or.inl rfl | exact Or.inr rfl) ?_)

/-- Frame of `bmeEffect`. -/
theorem Block.bmeEffect_fr {fm fq : Nat} {fa : Block} (b : Block) (f : Nat) (v : Bool) (hm : 0x408000490010208022400000000000000000000000000001ffe14000020000004018008000060008000301e00d800000f0000400000080800 &&& fm = 0x408000490010208022400000000000000000000000000001ffe14000020000004018008000060008000301e00d800000f0000400000080800) (hq : 0x7406c57c6 &&& fq = 0x7406c57c6)
    (h0 : Fr fm fq fa b) : Fr fm fq fa (b.bmeEffect f v) := by
  refine Fr.step ?_ hm hq h0
  clear h0 hq hm
  unfold Block.bmeEffect
  repeat' (first
    | (show _ = _; exact rfl)
    | with_reducible exact Fr.refl _ _ _
    | with_reducible assumption
    | with_reducible apply Fr.wr
    | with_reducible apply Fr.fnMod
    | with_reducible apply Block.bmeJudge_fr
    | with_reducible apply Block.tdiErr_fr
    | with_reducible apply Fr.ite
    | split
    | dsimp only
    | refine Fr.upd (by (repeat' apply And.intro) <;> first | exact Or.inl rfl | exact Or.inr rfl) ?_)

/-- Frame of `barStore`. -/
theorem Block.barStore_fr {fm fq : Nat} {fa : Block} (b : Block) (f j : Nat) (r : FnRec) (bar : BarIx) (v : Nat) (hm : 0x1f0000000000000000000000000000000000000000000000000000000000000000000000000000000000000000000000000 &&& fm = 0x1f0000000000000000000000000000000000000000000000000000000000000000000000000000000000000000000000000) (hq : 0x0 &&& fq = 0x0)
    (h0 : Fr fm fq fa b) : Fr fm fq fa (b.barStore f j r bar v) := by
  refine Fr.step ?_ hm hq h0
  clear h0 hq hm
  unfold Block.barStore
  repeat' (first
    | (show _ = _; exact rfl)
    | with_reducible exact Fr.refl _ _ _
    | with_reducible assumption
    | with_reducible apply Fr.wr
    | with_reducible apply Fr.ite
    | split
    | dsimp only)

/-- Frame of `barWrite`. -/
theorem Block.barWrite_fr {fm fq : Nat} {fa : Block} (b : Block) (f j : Nat) (bar : BarIx) (v : Nat) (hm : 0x408000490010209f20400000000000000000000000000001ffe14000020000004018008000060008000301e00d800000f0000400000080800 &&& fm = 0x408000490010209f20400000000000000000000000000001ffe14000020000004018008000060008000301e00d800000f0000400000080800) (hq : 0x7406c57c6 &&& fq = 0x7406c57c6)
    (h0 : Fr fm fq fa b) : Fr fm fq fa (b.barWrite f j bar v) := by
  refine Fr.step ?_ hm hq h0
  clear h0 hq hm
  unfold Block.barWrite
  repeat' (first
    | (show _ = _; exact rfl)
    | with_reducible exact Fr.refl _ _ _
    | with_reducible assumption
    | with_reducible apply Block.barStore_fr
    | with_reducible apply Block.fnRec_fr
    | with_reducible apply Block.tdiErr_fr
    | with_reducible apply Fr.ite
    | split)

/-- Frame of `atsWrite`. -/
theorem Block.atsWrite_fr {fm fq : Nat} {fa : Block} (b : Block) (f j : Nat) (fld : Fld) (v : Nat)
    (hf : fm.testBit (Fld.ctorIdx fld) = true) (hm : 0x408000490010208020400000000000000000000000000001ffe14000020000004018008000060008000301e00d800000f0000400000080800 &&& fm = 0x408000490010208020400000000000000000000000000001ffe14000020000004018008000060008000301e00d800000f0000400000080800) (hq : 0x7406c57c6 &&& fq = 0x7406c57c6) (h0 : Fr fm fq fa b) :
    Fr fm fq fa (b.atsWrite f j fld v) := by
  have ht := Fr.step (Block.tdiErr_fr (fm := 0x408000490010208020400000000000000000000000000001ffe14000020000004018008000060008000301e00d800000f0000400000080800) (fq := 0x7406c57c6) (b.wr fld f j v) f rfl rfl (Fr.refl _ _ _)) hm hq (Fr.wr hf h0 (i := f) (j := j) (v := v))
  unfold Block.atsWrite
  split
  · exact h0
  · dsimp only
    split
    · exact Fr.step (Block.atsFlush_fr (fm := 0x408000490010208020400000000000000000000000000001ffe14000020000004018008000060008000301e00d800000f0000400000080800) (fq := 0x7406c57c6) _ _ rfl rfl (Fr.refl _ _ _)) hm hq ht
    · exact ht

/-- Frame of `ltrSend`. -/
theorem Block.ltrSend_fr {fm fq : Nat} {fa : Block} (b : Block) (l : Nat) (hm : 0x0 &&& fm = 0x0) (hq : 0x40000000 &&& fq = 0x40000000)
    (h0 : Fr fm fq fa b) : Fr fm fq fa (b.ltrSend l) := by
  refine Fr.step ?_ hm hq h0
  clear h0 hq hm
  unfold Block.ltrSend
  repeat' (first
    | (show _ = _; exact rfl)
    | with_reducible exact Fr.refl _ _ _
    | with_reducible assumption
    | with_reducible apply Fr.emit
    | split
    | dsimp only)

/-- Frame of `ltrEnable`. -/
theorem Block.ltrEnable_fr {fm fq : Nat} {fa : Block} (b : Block) (l : Nat) (hm : 0x80000000000000000000000000000000000000000000000000000000000000000000000000000000000000000000000000000000 &&& fm = 0x80000000000000000000000000000000000000000000000000000000000000000000000000000000000000000000000000000000) (hq : 0x40000000 &&& fq = 0x40000000)
    (h0 : Fr fm fq fa b) : Fr fm fq fa (b.ltrEnable l) := by
  refine Fr.step ?_ hm hq h0
  clear h0 hq hm
  unfold Block.ltrEnable
  repeat' (first
    | (show _ = _; exact rfl)
    | with_reducible exact Fr.refl _ _ _
    | with_reducible assumption
    | with_reducible apply Fr.wr
    | with_reducible apply Block.ltrSend_fr
    | with_reducible apply Fr.ite
    | split
    | dsimp only)

/-- Frame of `pmWrite`. -/
theorem Block.pmWrite_fr {fm fq : Nat} {fa : Block} (b : Block) (f v : Nat) (hm : 0x40000049001020a020400000000000000000000000000001ffe14000020000004018008000060008000301e00d800000f0000400000080800 &&& fm = 0x40000049001020a020400000000000000000000000000001ffe14000020000004018008000060008000301e00d800000f0000400000080800) (hq : 0x7406c57c6 &&& fq = 0x7406c57c6)
    (h0 : Fr fm fq fa b) : Fr fm fq fa (b.pmWrite f v) := by
  refine Fr.step ?_ hm hq h0
  clear h0 hq hm
  unfold Block.pmWrite
  repeat' (first
    | (show _ = _; exact rfl)
    | with_reducible exact Fr.refl _ _ _
    | with_reducible assumption
    | with_reducible apply Fr.wr
    | with_reducible apply Block.bmeJudge_fr
    | with_reducible apply Block.fnRec_fr
    | with_reducible apply Fr.ite
    | split
    | dsimp only)

/-- Frame of `intDisWrite`. -/
theorem Block.intDisWrite_fr {fm fq : Nat} {fa : Block} (b : Block) (f j : Nat) (v : Bool) (hm : 0x1000000000000000000000000000000000000000000000000000000000000000000000000000000000000000000000000 &&& fm = 0x1000000000000000000000000000000000000000000000000000000000000000000000000000000000000000000000000) (hq : 0x40000100 &&& fq = 0x40000100)
    (h0 : Fr fm fq fa b) : Fr fm fq fa (b.intDisWrite f j v) := by
  refine Fr.step ?_ hm hq h0
  clear h0 hq hm
  unfold Block.intDisWrite
  repeat' (first
    | (show _ = _; exact rfl)
    | with_reducible exact Fr.refl _ _ _
    | with_reducible assumption
    | with_reducible apply Fr.wr
    | with_reducible apply Block.intxF_fr
    | with_reducible apply Fr.ite
    | split)

/-- Frame of `fnCut`. -/
theorem Block.fnCut_fr {fm fq : Nat} {fa : Block} (b : Block) (f : Nat) (hm : 0xbf83ffc9f71effbffff9ff8000000000000f800000000001ffe1400002000000401800800db7fff7f3fff8001083fefcffc00180000000000 &&& fm = 0xbf83ffc9f71effbffff9ff8000000000000f800000000001ffe1400002000000401800800db7fff7f3fff8001083fefcffc00180000000000) (hq : 0x7400c57c6 &&& fq = 0x7400c57c6)
    (h0 : Fr fm fq fa b) : Fr fm fq fa (b.fnCut f) := by
  refine Fr.step ?_ hm hq h0
  clear h0 hq hm
  unfold Block.fnCut
  repeat' (first
    | (show _ = _; exact rfl)
    | with_reducible exact Fr.refl _ _ _
    | with_reducible assumption
    | with_reducible apply Fr.wr
    | with_reducible apply Fr.lkMod
    | with_reducible apply Fr.fnMod
    | with_reducible apply Fr.each
    | with_reducible apply Block.atsFlush_fr
    | with_reducible apply Block.dropNp_fr
    | with_reducible apply Block.flushCut_fr
    | with_reducible apply Block.intxF_fr
    | with_reducible apply Block.lmAnswer_fr
    | with_reducible apply Block.lmCut_fr
    | with_reducible apply Block.lmPumpAll_fr
    | with_reducible apply Block.qReset_fr
    | with_reducible apply Block.retRec_fr
    | with_reducible apply Block.spurWithdraw_fr
    | with_reducible apply Block.unset_fr
    | (intro k hk; simp only [fnKey, Bool.and_eq_true, Bool.or_eq_true, beq_iff_eq] at hk; exact Fr.sub_bit (Fld.fnBit _ (by tauto)) rfl)
    | with_reducible apply Fr.ite
    | (intro _ _ h)
    | split
    | dsimp only
    | refine Fr.upd (by (repeat' apply And.intro) <;> first | exact Or.inl rfl | exact Or.inr rfl) ?_)

/-- Frame of `fnRestore`. -/
theorem Block.fnRestore_fr {fm fq : Nat} {fa : Block} (b : Block) (f : Nat) (hm : 0xff83ff80f71effbffff9ff8000000000000f8000000000000000000000000000000000000db7fff7f3ffffff9ffffefcffc00180000000000 &&& fm = 0xff83ff80f71effbffff9ff8000000000000f8000000000000000000000000000000000000db7fff7f3ffffff9ffffefcffc00180000000000) (hq : 0x40001700 &&& fq = 0x40001700)
    (h0 : Fr fm fq fa b) : Fr fm fq fa (b.fnRestore f) := by
  refine Fr.step ?_ hm hq h0
  clear h0 hq hm
  unfold Block.fnRestore
  repeat' (first
    | (show _ = _; exact rfl)
    | with_reducible exact Fr.refl _ _ _
    | with_reducible assumption
    | with_reducible apply Fr.fnMod
    | with_reducible apply Fr.each
    | with_reducible apply Block.intxF_fr
    | with_reducible apply Block.qResetEnd_fr
    | with_reducible apply Block.sampleAll_fr
    | with_reducible apply Block.unset_fr
    | (intro k hk; simp only [fnKey, Bool.and_eq_true, Bool.or_eq_true, beq_iff_eq] at hk; exact Fr.sub_bit (Fld.fnBit _ (by tauto)) rfl)
    | (intro _ _ h)
    | dsimp only
    | refine Fr.upd (by (repeat' apply And.intro) <;> first | exact Or.inl rfl | exact Or.inr rfl) ?_)

/-- Frame of `frsTry`. -/
theorem Block.frsTry_fr {fm fq : Nat} {fa : Block} (b : Block) (f : Nat) (hm : 0x0 &&& fm = 0x0) (hq : 0x40000200 &&& fq = 0x40000200)
    (h0 : Fr fm fq fa b) : Fr fm fq fa (b.frsTry f) := by
  refine Fr.step ?_ hm hq h0
  clear h0 hq hm
  unfold Block.frsTry
  repeat' (first
    | (show _ = _; exact rfl)
    | with_reducible exact Fr.refl _ _ _
    | with_reducible assumption
    | with_reducible apply Fr.fnMod
    | with_reducible apply Fr.emit
    | with_reducible apply Fr.ite
    | split
    | dsimp only
    | refine Fr.upd (by (repeat' apply And.intro) <;> first | exact Or.inl rfl | exact Or.inr rfl) ?_)

/-- Frame of `flrBegin`. -/
theorem Block.flrBegin_fr {fm fq : Nat} {fa : Block} (b : Block) (f : Nat) (frs : Bool) (hm : 0xbf83ffc9f71effbffff9ff8000000000000f800000000001ffe1400002000000401800800db7fff7f3fff8001083fefcffc00180000000000 &&& fm = 0xbf83ffc9f71effbffff9ff8000000000000f800000000001ffe1400002000000401800800db7fff7f3fff8001083fefcffc00180000000000) (hq : 0x7400c57c6 &&& fq = 0x7400c57c6)
    (h0 : Fr fm fq fa b) : Fr fm fq fa (b.flrBegin f frs) := by
  refine Fr.step ?_ hm hq h0
  clear h0 hq hm
  unfold Block.flrBegin
  repeat' (first
    | (show _ = _; exact rfl)
    | with_reducible exact Fr.refl _ _ _
    | with_reducible assumption
    | with_reducible apply Fr.fnMod
    | with_reducible apply Block.fnCut_fr
    | with_reducible apply Fr.ite
    | split
    | dsimp only
    | refine Fr.upd (by (repeat' apply And.intro) <;> first | exact Or.inl rfl | exact Or.inr rfl) ?_)

/-- Frame of `vfsReset`. -/
theorem Block.vfsReset_fr {fm fq : Nat} {fa : Block} (b : Block) (f : Nat) (hm : 0xbf83ffc9f71effbffff9ff8000000000000f800000000001ffe1400002000000401800800db7fff7f3fff8001083fefcffc00180000000000 &&& fm = 0xbf83ffc9f71effbffff9ff8000000000000f800000000001ffe1400002000000401800800db7fff7f3fff8001083fefcffc00180000000000) (hq : 0x7400c57c6 &&& fq = 0x7400c57c6)
    (h0 : Fr fm fq fa b) : Fr fm fq fa (b.vfsReset f) := by
  refine Fr.step ?_ hm hq h0
  clear h0 hq hm
  unfold Block.vfsReset
  repeat' (first
    | (show _ = _; exact rfl)
    | with_reducible exact Fr.refl _ _ _
    | with_reducible assumption
    | with_reducible apply Fr.each
    | with_reducible apply Block.flrBegin_fr
    | (intro _ _ h)
    | dsimp only)

/-- Frame of `flrWrite`. -/
theorem Block.flrWrite_fr {fm fq : Nat} {fa : Block} (b : Block) (f j : Nat) (hm : 0xbf83ffc9f71effbffff9ff8000000000000f800000000001ffe1400002000000401800800db7fff7f3fff8001083fefcffc00180000000000 &&& fm = 0xbf83ffc9f71effbffff9ff8000000000000f800000000001ffe1400002000000401800800db7fff7f3fff8001083fefcffc00180000000000) (hq : 0x7400c57c6 &&& fq = 0x7400c57c6)
    (h0 : Fr fm fq fa b) : Fr fm fq fa (b.flrWrite f j) := by
  refine Fr.step ?_ hm hq h0
  clear h0 hq hm
  unfold Block.flrWrite
  repeat' (first
    | (show _ = _; exact rfl)
    | with_reducible exact Fr.refl _ _ _
    | with_reducible assumption
    | with_reducible apply Fr.emit
    | with_reducible apply Block.flrBegin_fr
    | with_reducible apply Block.fnRec_fr
    | with_reducible apply Block.vfsReset_fr
    | with_reducible apply Block.unset_fr
    | (intro k hk; simp only [fnKey, Bool.and_eq_true, Bool.or_eq_true, beq_iff_eq] at hk; exact Fr.sub_bit (Fld.fnBit _ (by tauto)) rfl)
    | with_reducible apply Fr.ite
    | split
    | dsimp only)

/-- Frame of `flrEnd`. -/
theorem Block.flrEnd_fr {fm fq : Nat} {fa : Block} (b : Block) (f : Nat) (bound : Bool) (hm : 0xff83ff80f71effbffff9ff8000000000000f8000000000000000000000000000401800800db7fff7f3ffffff9ffffefcffc00180000000000 &&& fm = 0xff83ff80f71effbffff9ff8000000000000f8000000000000000000000000000401800800db7fff7f3ffffff9ffffefcffc00180000000000) (hq : 0x440005700 &&& fq = 0x440005700)
    (h0 : Fr fm fq fa b) : Fr fm fq fa (b.flrEnd f bound) := by
  refine Fr.step ?_ hm hq h0
  clear h0 hq hm
  unfold Block.flrEnd
  repeat' (first
    | (show _ = _; exact rfl)
    | with_reducible exact Fr.refl _ _ _
    | with_reducible assumption
    | with_reducible apply Fr.fnMod
    | with_reducible apply Block.answer_fr
    | with_reducible apply Block.fnRec_fr
    | with_reducible apply Block.fnRestore_fr
    | with_reducible apply Block.frsTry_fr
    | with_reducible apply Fr.ite
    | split
    | dsimp only
    | refine Fr.upd (by (repeat' apply And.intro) <;> first | exact Or.inl rfl | exact Or.inr rfl) ?_)

/-- Frame of `vfEnableWrite`. -/
theorem Block.vfEnableWrite_fr {fm fq : Nat} {fa : Block} (b : Block) (f j : Nat) (v : Bool) (hm : 0xff83ffc9f71effbffff9ff8000000000000f800000000001ffe1400002000000401800800db7fffff3fff9e01d83fefcffc00580000080800 &&& fm = 0xff83ffc9f71effbffff9ff8000000000000f800000000001ffe1400002000000401800800db7fffff3fff9e01d83fefcffc00580000080800) (hq : 0x7406c57c6 &&& fq = 0x7406c57c6)
    (h0 : Fr fm fq fa b) : Fr fm fq fa (b.vfEnableWrite f j v) := by
  refine Fr.step ?_ hm hq h0
  clear h0 hq hm
  unfold Block.vfEnableWrite
  repeat' (first
    | (show _ = _; exact rfl)
    | with_reducible exact Fr.refl _ _ _
    | with_reducible assumption
    | with_reducible apply Fr.wr
    | with_reducible apply Block.fnRec_fr
    | with_reducible apply Block.tdiErr_fr
    | with_reducible apply Block.vfsReset_fr
    | with_reducible apply Fr.ite
    | split
    | dsimp only)

/-- Frame of `numVfsWrite`. -/
theorem Block.numVfsWrite_fr {fm fq : Nat} {fa : Block} (b : Block) (f j v : Nat) (hm : 0x400000000000000000000000000000000000000000000000000000000000000000000000000000000000000000000000000000000000 &&& fm = 0x400000000000000000000000000000000000000000000000000000000000000000000000000000000000000000000000000000000000) (hq : 0x0 &&& fq = 0x0)
    (h0 : Fr fm fq fa b) : Fr fm fq fa (b.numVfsWrite f j v) := by
  refine Fr.step ?_ hm hq h0
  clear h0 hq hm
  unfold Block.numVfsWrite
  repeat' (first
    | (show _ = _; exact rfl)
    | with_reducible exact Fr.refl _ _ _
    | with_reducible assumption
    | with_reducible apply Fr.wr
    | with_reducible apply Block.fnRec_fr
    | with_reducible apply Fr.ite
    | split
    | dsimp only)

end Sys2Proof.Machine
end

