-- ==== Sys2Proof/Laws/FrXlbMsg.lean ====
section
/-! SUPPORT. The frame of every operation of Machine/XlbMsg.lean: the fields and the parts it may change, by bit masks. -/
set_option linter.unusedTactic false
set_option linter.unreachableTactic false
set_option linter.unusedSimpArgs false
set_option linter.unusedVariables false
namespace Sys2Proof.Machine

/-- Frame of `ansLog`. -/
theorem Block.ansLog_fr {fm fq : Nat} {fa : Block} (b : Block) (r : XReq) (code cause : Nat) (hm : 0x490010008020000000000000000000000000000001ffe14000000000000000000000060000000000000000000000000000000000000 &&& fm = 0x490010008020000000000000000000000000000001ffe14000000000000000000000060000000000000000000000000000000000000) (hq : 0x40001200 &&& fq = 0x40001200)
    (h0 : Fr fm fq fa b) : Fr fm fq fa (b.ansLog r code cause) := by
  refine Fr.step ?_ hm hq h0
  clear h0 hq hm
  unfold Block.ansLog
  repeat' (first
    | (show _ = _; exact rfl)
    | with_reducible exact Fr.refl _ _ _
    | with_reducible assumption
    | with_reducible apply Block.logErr_fr
    | with_reducible apply Fr.ite
    | split)

/-- Frame of `rspFinal`. -/
theorem Block.rspFinal_fr {fm fq : Nat} {fa : Block} (b : Block) (p : Nat) (r : XReq) (code cause pvec : Nat) (data : List Byte) (hm : 0x400000490010008020000000000000000000000000000001ffe14000020000004018008000060000000301e001800000f0000000000000000 &&& fm = 0x400000490010008020000000000000000000000000000001ffe14000020000004018008000060000000301e001800000f0000000000000000) (hq : 0x7400457c6 &&& fq = 0x7400457c6)
    (h0 : Fr fm fq fa b) : Fr fm fq fa (b.rspFinal p r code cause pvec data) := by
  refine Fr.step ?_ hm hq h0
  clear h0 hq hm
  unfold Block.rspFinal
  repeat' (first
    | (show _ = _; exact rfl)
    | with_reducible exact Fr.refl _ _ _
    | with_reducible assumption
    | with_reducible apply Block.ansLog_fr
    | with_reducible apply Block.endReq_fr
    | with_reducible apply Block.kick_fr
    | with_reducible apply Fr.ite
    | split
    | dsimp only
    | refine Fr.upd (by (repeat' apply And.intro) <;> first | exact Or.inl rfl | exact Or.inr rfl) ?_)

/-- Frame of `rspIn`. -/
theorem Block.rspIn_fr {fm fq : Nat} {fa : Block} (b : Block) (p tag code cause pvec : Nat) (data : List Byte) (hm : 0x400000490010008020000000000000000000000000000001ffe14000020000004018008000060000000301e001800000f0000000000060000 &&& fm = 0x400000490010008020000000000000000000000000000001ffe14000020000004018008000060000000301e001800000f0000000000060000) (hq : 0x7400457c6 &&& fq = 0x7400457c6)
    (h0 : Fr fm fq fa b) : Fr fm fq fa (b.rspIn p tag code cause pvec data) := by
  refine Fr.step ?_ hm hq h0
  clear h0 hq hm
  unfold Block.rspIn
  repeat' (first
    | (show _ = _; exact rfl)
    | with_reducible exact Fr.refl _ _ _
    | with_reducible assumption
    | with_reducible apply Fr.incSat
    | with_reducible apply Fr.xMod
    | with_reducible apply Block.ansLog_fr
    | with_reducible apply Block.kick_fr
    | with_reducible apply Block.logErr_fr
    | with_reducible apply Block.protoErr_fr
    | with_reducible apply Block.rspFinal_fr
    | with_reducible apply Fr.ite
    | split
    | dsimp only
    | refine Fr.upd (by (repeat' apply And.intro) <;> first | exact Or.inl rfl | exact Or.inr rfl) ?_)

/-- Frame of `xlbTimeout`. -/
theorem Block.xlbTimeout_fr {fm fq : Nat} {fa : Block} (b : Block) (p rid : Nat) (hm : 0x400000490010008020000000000000000000000000000001ffe14000020000004018008000060008000301e001800000f0000400000090800 &&& fm = 0x400000490010008020000000000000000000000000000001ffe14000020000004018008000060008000301e001800000f0000400000090800) (hq : 0x7400457c6 &&& fq = 0x7400457c6)
    (h0 : Fr fm fq fa b) : Fr fm fq fa (b.xlbTimeout p rid) := by
  refine Fr.step ?_ hm hq h0
  clear h0 hq hm
  unfold Block.xlbTimeout
  repeat' (first
    | (show _ = _; exact rfl)
    | with_reducible exact Fr.refl _ _ _
    | with_reducible assumption
    | with_reducible apply Block.countTmo_fr
    | with_reducible apply Block.endReq_fr
    | with_reducible apply Block.kick_fr
    | with_reducible apply Block.logErr_fr
    | with_reducible apply Block.quarantine_fr
    | with_reducible apply Fr.ite
    | split
    | dsimp only)

/-- Frame of `retryGap`. -/
theorem Block.retryGap_fr {fm fq : Nat} {fa : Block} (b : Block) (p tag : Nat) (hm : 0x400000490010008020000000000000000000000000000001ffe14000020000004018008000060000000301e001800000f0000000000000000 &&& fm = 0x400000490010008020000000000000000000000000000001ffe14000020000004018008000060000000301e001800000f0000000000000000) (hq : 0x7400457c6 &&& fq = 0x7400457c6)
    (h0 : Fr fm fq fa b) : Fr fm fq fa (b.retryGap p tag) := by
  refine Fr.step ?_ hm hq h0
  clear h0 hq hm
  unfold Block.retryGap
  repeat' (first
    | (show _ = _; exact rfl)
    | with_reducible exact Fr.refl _ _ _
    | with_reducible assumption
    | with_reducible apply Fr.xMod
    | with_reducible apply Block.kick_fr
    | with_reducible apply Block.rspFinal_fr
    | with_reducible apply Fr.ite
    | split
    | dsimp only
    | refine Fr.upd (by (repeat' apply And.intro) <;> first | exact Or.inl rfl | exact Or.inr rfl) ?_)

/-- Frame of `xlbTagFree`. -/
theorem Block.xlbTagFree_fr {fm fq : Nat} {fa : Block} (b : Block) (p tag : Nat) (hm : 0x20000000000000000000000000000000000000000000000000000000 &&& fm = 0x20000000000000000000000000000000000000000000000000000000) (hq : 0x1400040c2 &&& fq = 0x1400040c2)
    (h0 : Fr fm fq fa b) : Fr fm fq fa (b.xlbTagFree p tag) := by
  refine Fr.step ?_ hm hq h0
  clear h0 hq hm
  unfold Block.xlbTagFree
  repeat' (first
    | (show _ = _; exact rfl)
    | with_reducible exact Fr.refl _ _ _
    | with_reducible assumption
    | with_reducible apply Fr.xMod
    | with_reducible apply Block.kick_fr
    | dsimp only
    | refine Fr.upd (by (repeat' apply And.intro) <;> first | exact Or.inl rfl | exact Or.inr rfl) ?_)

/-- Frame of `msgBad`. -/
theorem Block.msgBad_fr {fm fq : Nat} {fa : Block} (b : Block) (p row kind : Nat) (f? : Option Nat) (hdr : Nat) (hm : 0x490010008020000000000000000000000000000001ffe14000020000000000000000060000000000000000000000000000000040000 &&& fm = 0x490010008020000000000000000000000000000001ffe14000020000000000000000060000000000000000000000000000000040000) (hq : 0x1400052c0 &&& fq = 0x1400052c0)
    (h0 : Fr fm fq fa b) : Fr fm fq fa (b.msgBad p row kind f? hdr) := by
  refine Fr.step ?_ hm hq h0
  clear h0 hq hm
  unfold Block.msgBad
  repeat' (first
    | (show _ = _; exact rfl)
    | with_reducible exact Fr.refl _ _ _
    | with_reducible assumption
    | with_reducible apply Block.protoErr_fr
    | with_reducible apply Block.retMsg_fr
    | with_reducible apply Fr.ite
    | split
    | dsimp only)

/-- Frame of `msgTake`. -/
theorem Block.msgTake_fr {fm fq : Nat} {fa : Block} (b : Block) (p kind f : Nat) (hm : 0x0 &&& fm = 0x0) (hq : 0x40 &&& fq = 0x40)
    (h0 : Fr fm fq fa b) : Fr fm fq fa (b.msgTake p kind f) := by
  refine Fr.step ?_ hm hq h0
  clear h0 hq hm
  unfold Block.msgTake
  repeat' (first
    | (show _ = _; exact rfl)
    | with_reducible exact Fr.refl _ _ _
    | with_reducible assumption
    | with_reducible apply Fr.xMod
    | with_reducible apply Fr.ite
    | split
    | dsimp only
    | refine Fr.upd (by (repeat' apply And.intro) <;> first | exact Or.inl rfl | exact Or.inr rfl) ?_)

/-- Frame of `msgIn`. -/
theorem Block.msgIn_fr {fm fq : Nat} {fa : Block} (b : Block) (p kind f b3 v vid : Nat) (payload : List Byte) (hm : 0x400000490010008020000000000000000000000000000001ffe14000020000004018008000060008000301e001800000f00004000000c0800 &&& fm = 0x400000490010008020000000000000000000000000000001ffe14000020000004018008000060008000301e001800000f00004000000c0800) (hq : 0x7400457c6 &&& fq = 0x7400457c6)
    (h0 : Fr fm fq fa b) : Fr fm fq fa (b.msgIn p kind f b3 v vid payload) := by
  refine Fr.step ?_ hm hq h0
  clear h0 hq hm
  unfold Block.msgIn
  repeat' (first
    | (show _ = _; exact rfl)
    | with_reducible exact Fr.refl _ _ _
    | with_reducible assumption
    | with_reducible apply Fr.xMod
    | with_reducible apply Block.fence_fr
    | with_reducible apply Block.msgBad_fr
    | with_reducible apply Block.msgTake_fr
    | with_reducible apply Block.protoErr_fr
    | with_reducible apply Block.retMsg_fr
    | with_reducible apply Block.retRec_fr
    | with_reducible apply Fr.ite
    | split
    | dsimp only
    | refine Fr.upd (by (repeat' apply And.intro) <;> first | exact Or.inl rfl | exact Or.inr rfl) ?_)

/-- Frame of `linePme`. -/
theorem Block.linePme_fr {fm fq : Nat} {fa : Block} (b : Block) (f : Nat) (hm : 0x800000000000000000000000000000000000000000000000000000000000000000000000000000000000000000000000000 &&& fm = 0x800000000000000000000000000000000000000000000000000000000000000000000000000000000000000000000000000) (hq : 0x40001200 &&& fq = 0x40001200)
    (h0 : Fr fm fq fa b) : Fr fm fq fa (b.linePme f) := by
  refine Fr.step ?_ hm hq h0
  clear h0 hq hm
  unfold Block.linePme
  repeat' (first
    | (show _ = _; exact rfl)
    | with_reducible exact Fr.refl _ _ _
    | with_reducible assumption
    | with_reducible apply Block.pmeEvent_fr
    | with_reducible apply Fr.ite
    | split
    | dsimp only)

/-- Frame of `msgLeave`. -/
theorem Block.msgLeave_fr {fm fq : Nat} {fa : Block} (b : Block) (p : Nat) (m : FMsg) (hm : 0x30000000000000800000000000000000000000000000000000000000020000004018008000c60008000300000000000000000000000000000 &&& fm = 0x30000000000000800000000000000000000000000000000000000000020000004018008000c60008000300000000000000000000000000000) (hq : 0x5400053c0 &&& fq = 0x5400053c0)
    (h0 : Fr fm fq fa b) : Fr fm fq fa (b.msgLeave p m) := by
  refine Fr.step ?_ hm hq h0
  clear h0 hq hm
  unfold Block.msgLeave
  repeat' (first
    | (show _ = _; exact rfl)
    | with_reducible exact Fr.refl _ _ _
    | with_reducible assumption
    | with_reducible apply Fr.wr
    | with_reducible apply Fr.fnMod
    | with_reducible apply Block.evPump_fr
    | with_reducible apply Block.linePme_fr
    | with_reducible apply Block.reinTake_fr
    | with_reducible apply Block.retMsg_fr
    | with_reducible apply Block.sampleAll_fr
    | split
    | dsimp only
    | refine Fr.upd (by (repeat' apply And.intro) <;> first | exact Or.inl rfl | exact Or.inr rfl) ?_)

/-- Frame of `fenceStep`. -/
theorem Block.fenceStep_fr {fm fq : Nat} {fa : Block} (b : Block) (p : Nat) (hm : 0x30000000000000800000000000000000000000000000000000000000020000004018008000c60008000300000000000000000000000000000 &&& fm = 0x30000000000000800000000000000000000000000000000000000000020000004018008000c60008000300000000000000000000000000000) (hq : 0x5400053c0 &&& fq = 0x5400053c0)
    (h0 : Fr fm fq fa b) : Fr fm fq fa (b.fenceStep p) := by
  refine Fr.step ?_ hm hq h0
  clear h0 hq hm
  unfold Block.fenceStep
  repeat' (first
    | (show _ = _; exact rfl)
    | with_reducible exact Fr.refl _ _ _
    | with_reducible assumption
    | with_reducible apply Fr.xMod
    | with_reducible apply Block.msgLeave_fr
    | with_reducible apply Fr.ite
    | split
    | dsimp only
    | refine Fr.upd (by (repeat' apply And.intro) <;> first | exact Or.inl rfl | exact Or.inr rfl) ?_)

/-- Frame of `creditIn`. -/
theorem Block.creditIn_fr {fm fq : Nat} {fa : Block} (b : Block) (p kind cls count : Nat) (hm : 0x490010008020000000000000000000000000000001ffe14000020000000000000000060000000000000000000000000000000040000 &&& fm = 0x490010008020000000000000000000000000000001ffe14000020000000000000000060000000000000000000000000000000040000) (hq : 0x1400052c2 &&& fq = 0x1400052c2)
    (h0 : Fr fm fq fa b) : Fr fm fq fa (b.creditIn p kind cls count) := by
  refine Fr.step ?_ hm hq h0
  clear h0 hq hm
  unfold Block.creditIn
  repeat' (first
    | (show _ = _; exact rfl)
    | with_reducible exact Fr.refl _ _ _
    | with_reducible assumption
    | with_reducible apply Fr.xMod
    | with_reducible apply Block.kick_fr
    | with_reducible apply Block.protoErr_fr
    | with_reducible apply Block.pumpRsp_fr
    | with_reducible apply Fr.ite
    | split
    | dsimp only
    | refine Fr.upd (by (repeat' apply And.intro) <;> first | exact Or.inl rfl | exact Or.inr rfl) ?_)

/-- Frame of `reinsOut`. -/
theorem Block.reinsOut_fr {fm fq : Nat} {fa : Block} (b : Block) (f v : Nat) (hm : 0x9000000000000000000000000000000000000000 &&& fm = 0x9000000000000000000000000000000000000000) (hq : 0x204 &&& fq = 0x204)
    (h0 : Fr fm fq fa b) : Fr fm fq fa (b.reinsOut f v) := by
  refine Fr.step ?_ hm hq h0
  clear h0 hq hm
  unfold Block.reinsOut
  repeat' (first
    | (show _ = _; exact rfl)
    | with_reducible exact Fr.refl _ _ _
    | with_reducible assumption
    | with_reducible apply Fr.wr
    | with_reducible apply Fr.fnMod
    | with_reducible apply Fr.newId
    | dsimp only
    | refine Fr.upd (by (repeat' apply And.intro) <;> first | exact Or.inl rfl | exact Or.inr rfl) ?_)

/-- Frame of `reinEmit`. -/
theorem Block.reinEmit_fr {fm fq : Nat} {fa : Block} (b : Block) (p f : Nat) (hm : 0x2000000000000000a000000000000000000000000000000000000000 &&& fm = 0x2000000000000000a000000000000000000000000000000000000000) (hq : 0x140004080 &&& fq = 0x140004080)
    (h0 : Fr fm fq fa b) : Fr fm fq fa (b.reinEmit p f) := by
  refine Fr.step ?_ hm hq h0
  clear h0 hq hm
  unfold Block.reinEmit
  repeat' (first
    | (show _ = _; exact rfl)
    | with_reducible exact Fr.refl _ _ _
    | with_reducible assumption
    | with_reducible apply Fr.wr
    | with_reducible apply Block.xsend_fr
    | dsimp only)

/-- Frame of `reinFirst`. -/
theorem Block.reinFirst_fr {fm fq : Nat} {fa : Block} (b : Block) (p f : Nat) (hm : 0x2000000000000000a000000000000000000000000000000000000000 &&& fm = 0x2000000000000000a000000000000000000000000000000000000000) (hq : 0x1400040c0 &&& fq = 0x1400040c0)
    (h0 : Fr fm fq fa b) : Fr fm fq fa (b.reinFirst p f) := by
  refine Fr.step ?_ hm hq h0
  clear h0 hq hm
  unfold Block.reinFirst
  repeat' (first
    | (show _ = _; exact rfl)
    | with_reducible exact Fr.refl _ _ _
    | with_reducible assumption
    | with_reducible apply Fr.wr
    | with_reducible apply Fr.xMod
    | with_reducible apply Block.reinEmit_fr
    | with_reducible apply Fr.ite
    | split
    | dsimp only
    | refine Fr.upd (by (repeat' apply And.intro) <;> first | exact Or.inl rfl | exact Or.inr rfl) ?_)

/-- Frame of `reinsSend`. -/
theorem Block.reinsSend_fr {fm fq : Nat} {fa : Block} (b : Block) (p : Nat) (hm : 0x2000000000000000a000000000000000000000000000000000000000 &&& fm = 0x2000000000000000a000000000000000000000000000000000000000) (hq : 0x1400040c0 &&& fq = 0x1400040c0)
    (h0 : Fr fm fq fa b) : Fr fm fq fa (b.reinsSend p) := by
  refine Fr.step ?_ hm hq h0
  clear h0 hq hm
  unfold Block.reinsSend
  repeat' (first
    | (show _ = _; exact rfl)
    | with_reducible exact Fr.refl _ _ _
    | with_reducible assumption
    | with_reducible apply Fr.xMod
    | with_reducible apply Block.reinEmit_fr
    | with_reducible apply Fr.ite
    | split
    | dsimp only
    | refine Fr.upd (by (repeat' apply And.intro) <;> first | exact Or.inl rfl | exact Or.inr rfl) ?_)

/-- Frame of `sendCaps`. -/
theorem Block.sendCaps_fr {fm fq : Nat} {fa : Block} (b : Block) (p : Nat) (rel : Bool) (hm : 0x20000000000000000000000000000000000000000000000000000000 &&& fm = 0x20000000000000000000000000000000000000000000000000000000) (hq : 0x1400040c0 &&& fq = 0x1400040c0)
    (h0 : Fr fm fq fa b) : Fr fm fq fa (b.sendCaps p rel) := by
  refine Fr.step ?_ hm hq h0
  clear h0 hq hm
  unfold Block.sendCaps
  repeat' (first
    | (show _ = _; exact rfl)
    | with_reducible exact Fr.refl _ _ _
    | with_reducible assumption
    | with_reducible apply Fr.xMod
    | with_reducible apply Block.xsend_fr
    | dsimp only
    | refine Fr.upd (by (repeat' apply And.intro) <;> first | exact Or.inl rfl | exact Or.inr rfl) ?_)

/-- Frame of `slotBit`. -/
theorem Block.slotBit_fr {fm fq : Nat} {fa : Block} (b : Block) (p : Nat) (fld : Fld) (hf : fm.testBit (Fld.ctorIdx fld) = true)
    (hm : 0x800000000000000000000000000000000000000000000000000000000000020000000000000000000000000000000000000 &&& fm = 0x800000000000000000000000000000000000000000000000000000000000020000000000000000000000000000000000000) (hq : 0x40001200 &&& fq = 0x40001200) (h0 : Fr fm fq fa b) : Fr fm fq fa (b.slotBit p fld) := by
  refine Fr.each (fun b f h => ?_) h0
  have h1 := Fr.wr hf h (i := f) (j := 0) (v := 1)
  have h2 := Fr.step (Block.sample_fr (fm := 0x800000000000000000000000000000000000000000000000000000000000020000000000000000000000000000000000000) (fq := 0x40001200) (b.wr fld f 0 1) f 12 rfl rfl (Fr.refl _ _ _)) hm hq h1
  dsimp only
  split
  · exact Fr.step (Block.pmeEvent_fr (fm := 0x800000000000000000000000000000000000000000000000000000000000020000000000000000000000000000000000000) (fq := 0x40001200) _ _ rfl rfl (Fr.refl _ _ _)) hm hq h2
  · exact h2

/-- Frame of `setActive`. -/
theorem Block.setActive_fr {fm fq : Nat} {fa : Block} (b : Block) (p : Nat) (v : Bool) (hm : 0x800000000000000000000800000000000000000000000000000000000000020000000000000000000000000000000000400 &&& fm = 0x800000000000000000000800000000000000000000000000000000000000020000000000000000000000000000000000400) (hq : 0x40001200 &&& fq = 0x40001200)
    (h0 : Fr fm fq fa b) : Fr fm fq fa (b.setActive p v) := by
  refine Fr.step ?_ hm hq h0
  clear h0 hq hm
  unfold Block.setActive
  repeat' (first
    | (show _ = _; exact rfl)
    | with_reducible exact Fr.refl _ _ _
    | with_reducible assumption
    | with_reducible apply Fr.wr
    | with_reducible apply Block.slotBit_fr
    | with_reducible apply Fr.ite
    | split)

/-- Frame of `capsVoid`. -/
theorem Block.capsVoid_fr {fm fq : Nat} {fa : Block} (b : Block) (p : Nat) (hm : 0x400000490010008020000000000000000000000000000001ffe14000020000004018008000060008000301e001800000f0000080000000000 &&& fm = 0x400000490010008020000000000000000000000000000001ffe14000020000004018008000060008000301e001800000f0000080000000000) (hq : 0x7400457c6 &&& fq = 0x7400457c6)
    (h0 : Fr fm fq fa b) : Fr fm fq fa (b.capsVoid p) := by
  refine Fr.step ?_ hm hq h0
  clear h0 hq hm
  unfold Block.capsVoid
  repeat' (first
    | (show _ = _; exact rfl)
    | with_reducible exact Fr.refl _ _ _
    | with_reducible assumption
    | with_reducible apply Fr.wr
    | with_reducible apply Fr.xMod
    | with_reducible apply Fr.each
    | with_reducible apply Block.linesDown_fr
    | with_reducible apply Block.voidAll_fr
    | (intro _ _ h)
    | dsimp only
    | refine Fr.upd (by (repeat' apply And.intro) <;> first | exact Or.inl rfl | exact Or.inr rfl) ?_)

/-- Frame of `tdiIdCheck`. -/
theorem Block.tdiIdCheck_fr {fm fq : Nat} {fa : Block} (b : Block) (p ident idrev : Nat) (hm : 0x408000490010208020400000000000000000000000000001ffe14000020000004018008000060008000301e00d800000f0000400000080800 &&& fm = 0x408000490010208020400000000000000000000000000001ffe14000020000004018008000060008000301e00d800000f0000400000080800) (hq : 0x7406c57c6 &&& fq = 0x7406c57c6)
    (h0 : Fr fm fq fa b) : Fr fm fq fa (b.tdiIdCheck p ident idrev) := by
  refine Fr.step ?_ hm hq h0
  clear h0 hq hm
  unfold Block.tdiIdCheck
  repeat' (first
    | (show _ = _; exact rfl)
    | with_reducible exact Fr.refl _ _ _
    | with_reducible assumption
    | with_reducible apply Fr.each
    | with_reducible apply Block.tdiErr_fr
    | with_reducible apply Fr.ite
    | (intro _ _ h)
    | split
    | dsimp only)

/-- Frame of `capsNote`. -/
theorem Block.capsNote_fr {fm fq : Nat} {fa : Block} (b : Block) (p : Nat) (c : CapsMsg) (hm : 0x6000000000000000000000000000000000000000000000000000000000000000000000000000000000000000000100 &&& fm = 0x6000000000000000000000000000000000000000000000000000000000000000000000000000000000000000000100) (hq : 0x0 &&& fq = 0x0)
    (h0 : Fr fm fq fa b) : Fr fm fq fa (b.capsNote p c) := by
  refine Fr.step ?_ hm hq h0
  clear h0 hq hm
  unfold Block.capsNote
  repeat' (first
    | (show _ = _; exact rfl)
    | with_reducible exact Fr.refl _ _ _
    | with_reducible assumption
    | with_reducible apply Fr.wr)

/-- Frame of `capsOk`. -/
theorem Block.capsOk_fr {fm fq : Nat} {fa : Block} (b : Block) (p : Nat) (c : CapsMsg) (hm : 0x408000490010208020460000000000000008000000000001ffe1400002080000401800800a060008000301e00d800000f0000480000083fc0 &&& fm = 0x408000490010208020460000000000000008000000000001ffe1400002080000401800800a060008000301e00d800000f0000480000083fc0) (hq : 0x7406c57c6 &&& fq = 0x7406c57c6)
    (h0 : Fr fm fq fa b) : Fr fm fq fa (b.capsOk p c) := by
  refine Fr.step ?_ hm hq h0
  clear h0 hq hm
  unfold Block.capsOk
  repeat' (first
    | (show _ = _; exact rfl)
    | with_reducible exact Fr.refl _ _ _
    | with_reducible assumption
    | with_reducible apply Fr.wr
    | with_reducible apply Fr.xMod
    | with_reducible apply Fr.ttMod
    | with_reducible apply Fr.each
    | with_reducible apply Block.capsNote_fr
    | with_reducible apply Block.capsVoid_fr
    | with_reducible apply Block.devEvent_fr
    | with_reducible apply Block.kick_fr
    | with_reducible apply Block.reinFirst_fr
    | with_reducible apply Block.reshape_fr
    | with_reducible apply Block.setActive_fr
    | with_reducible apply Block.tdiIdCheck_fr
    | with_reducible apply Block.unfence_fr
    | with_reducible apply Block.xsend_fr
    | with_reducible apply Fr.ite
    | (intro _ _ h)
    | split
    | dsimp only
    | refine Fr.upd (by (repeat' apply And.intro) <;> first | exact Or.inl rfl | exact Or.inr rfl) ?_)

/-- Frame of `capsFail`. -/
theorem Block.capsFail_fr {fm fq : Nat} {fa : Block} (b : Block) (p why : Nat) (c : CapsMsg) (hm : 0x400000490010008020060000000000000008000000000001ffe14000020800004018008000060008000301e001800000f0000080000003500 &&& fm = 0x400000490010008020060000000000000008000000000001ffe14000020800004018008000060008000301e001800000f0000080000003500) (hq : 0x7400457c6 &&& fq = 0x7400457c6)
    (h0 : Fr fm fq fa b) : Fr fm fq fa (b.capsFail p why c) := by
  refine Fr.step ?_ hm hq h0
  clear h0 hq hm
  unfold Block.capsFail
  repeat' (first
    | (show _ = _; exact rfl)
    | with_reducible exact Fr.refl _ _ _
    | with_reducible assumption
    | with_reducible apply Fr.wr
    | with_reducible apply Fr.xMod
    | with_reducible apply Block.capsNote_fr
    | with_reducible apply Block.capsVoid_fr
    | with_reducible apply Block.setActive_fr
    | dsimp only
    | refine Fr.upd (by (repeat' apply And.intro) <;> first | exact Or.inl rfl | exact Or.inr rfl) ?_)

/-- Frame of `capsIn`. -/
theorem Block.capsIn_fr {fm fq : Nat} {fa : Block} (b : Block) (p : Nat) (c : CapsMsg) (hm : 0x408000490010208020460000000000000008000000000001ffe1400002080000401800800a060008000301e00d800000f0000480000083fc0 &&& fm = 0x408000490010208020460000000000000008000000000001ffe1400002080000401800800a060008000301e00d800000f0000480000083fc0) (hq : 0x7406c57c6 &&& fq = 0x7406c57c6)
    (h0 : Fr fm fq fa b) : Fr fm fq fa (b.capsIn p c) := by
  refine Fr.step ?_ hm hq h0
  clear h0 hq hm
  unfold Block.capsIn
  repeat' (first
    | (show _ = _; exact rfl)
    | with_reducible exact Fr.refl _ _ _
    | with_reducible assumption
    | with_reducible apply Block.capsFail_fr
    | with_reducible apply Block.capsOk_fr
    | with_reducible apply Block.sendCaps_fr
    | with_reducible apply Fr.ite
    | split
    | dsimp only)

/-- Frame of `releaseW`. -/
theorem Block.releaseW_fr {fm fq : Nat} {fa : Block} (b : Block) (f : Nat) (hm : 0x20000000000000000000000000000000000000000000000000000000 &&& fm = 0x20000000000000000000000000000000000000000000000000000000) (hq : 0x1400040c0 &&& fq = 0x1400040c0)
    (h0 : Fr fm fq fa b) : Fr fm fq fa (b.releaseW f) := by
  refine Fr.step ?_ hm hq h0
  clear h0 hq hm
  unfold Block.releaseW
  repeat' (first
    | (show _ = _; exact rfl)
    | with_reducible exact Fr.refl _ _ _
    | with_reducible assumption
    | with_reducible apply Block.fnRec_fr
    | with_reducible apply Block.sendCaps_fr
    | with_reducible apply Fr.ite
    | split)

/-- Frame of `capsDrop`. -/
theorem Block.capsDrop_fr {fm fq : Nat} {fa : Block} (b : Block) (p : Nat) (hm : 0x0 &&& fm = 0x0) (hq : 0x40 &&& fq = 0x40)
    (h0 : Fr fm fq fa b) : Fr fm fq fa (b.capsDrop p) := by
  refine Fr.step ?_ hm hq h0
  clear h0 hq hm
  unfold Block.capsDrop
  repeat' (first
    | (show _ = _; exact rfl)
    | with_reducible exact Fr.refl _ _ _
    | with_reducible assumption
    | with_reducible apply Fr.xMod
    | with_reducible apply Fr.ite
    | split
    | dsimp only
    | refine Fr.upd (by (repeat' apply And.intro) <;> first | exact Or.inl rfl | exact Or.inr rfl) ?_)

/-- Frame of `capsAgain`. -/
theorem Block.capsAgain_fr {fm fq : Nat} {fa : Block} (b : Block) (p : Nat) (hm : 0x20000000000000000000000000000000000000000000000000000000 &&& fm = 0x20000000000000000000000000000000000000000000000000000000) (hq : 0x1400040c0 &&& fq = 0x1400040c0)
    (h0 : Fr fm fq fa b) : Fr fm fq fa (b.capsAgain p) := by
  refine Fr.step ?_ hm hq h0
  clear h0 hq hm
  unfold Block.capsAgain
  repeat' (first
    | (show _ = _; exact rfl)
    | with_reducible exact Fr.refl _ _ _
    | with_reducible assumption
    | with_reducible apply Block.sendCaps_fr
    | with_reducible apply Fr.ite
    | split)

/-- Frame of `pfAge`. -/
theorem Block.pfAge_fr {fm fq : Nat} {fa : Block} (b : Block) (f e : Nat) (hm : 0x0 &&& fm = 0x0) (hq : 0x200 &&& fq = 0x200)
    (h0 : Fr fm fq fa b) : Fr fm fq fa (b.pfAge f e) := by
  refine Fr.step ?_ hm hq h0
  clear h0 hq hm
  unfold Block.pfAge
  repeat' (first
    | (show _ = _; exact rfl)
    | with_reducible exact Fr.refl _ _ _
    | with_reducible assumption
    | with_reducible apply Block.pfFree_fr
    | with_reducible apply Fr.ite
    | split)

/-- Frame of `pfHoldEnd`. -/
theorem Block.pfHoldEnd_fr {fm fq : Nat} {fa : Block} (b : Block) (f e : Nat) (hm : 0x490010008020000000000000000000000000000001ffe14000000000000000000000060000000000000000000040000000000000000 &&& fm = 0x490010008020000000000000000000000000000001ffe14000000000000000000000060000000000000000000040000000000000000) (hq : 0x40001200 &&& fq = 0x40001200)
    (h0 : Fr fm fq fa b) : Fr fm fq fa (b.pfHoldEnd f e) := by
  refine Fr.step ?_ hm hq h0
  clear h0 hq hm
  unfold Block.pfHoldEnd
  repeat' (first
    | (show _ = _; exact rfl)
    | with_reducible exact Fr.refl _ _ _
    | with_reducible assumption
    | with_reducible apply Block.pfFree_fr
    | with_reducible apply Block.pfLost_fr
    | with_reducible apply Fr.ite
    | split)

/-- Frame of `pgoWrite`. -/
theorem Block.pgoWrite_fr {fm fq : Nat} {fa : Block} (b : Block) (f off v : Nat) (hm : 0x408000490010208020407f80000000000000000000000001ffe14000020000004018008000060008000301e00d800000f1c00400000080800 &&& fm = 0x408000490010208020407f80000000000000000000000001ffe14000020000004018008000060008000301e00d800000f1c00400000080800) (hq : 0x7406c57c6 &&& fq = 0x7406c57c6)
    (h0 : Fr fm fq fa b) : Fr fm fq fa (b.pgoWrite f off v) := by
  refine Fr.step ?_ hm hq h0
  clear h0 hq hm
  unfold Block.pgoWrite
  split
  · exact Fr.refl _ _ _
  · next r hr =>
    split
    · exact Fr.refl _ _ _
    · next hc =>
      dsimp only
      refine Block.tdiErr_fr _ _ rfl rfl (Fr.fnMod rfl (Block.regWriteOf_fr _ _ _ _ _ (fun p hp hw => ?_) (Fr.fnMod rfl (Fr.refl _ _ _))))
      have hm : r.reg = .fcpPgoPage ∨ r.reg = .fcpPgoAttr ∨ r.reg = .fcpPgoCtrl := by
        simp only [Bool.not_eq_true', Bool.not_eq_false, Bool.or_eq_true, beq_iff_eq, or_assoc] at hc
        exact hc
      revert hp hw
      generalize r.reg = g at hm
      revert p
      rcases hm with hm | hm | hm <;> subst hm <;> decide

end Sys2Proof.Machine
end

