-- ==== Sys2Proof/Laws/FrFcpCmd.lean ====
section
/-! SUPPORT. The frame of every operation of Machine/FcpCmd.lean: the fields and the parts it may change, by bit masks. -/
set_option linter.unusedTactic false
set_option linter.unreachableTactic false
set_option linter.unusedSimpArgs false
set_option linter.unusedVariables false
namespace Sys2Proof.Machine

/-- Frame of `ifFn`. -/
theorem Block.ifFn_fr {fm fq : Nat} {fa : Block} (b : Block) (f : Nat) (g : Block → Block) (hg : ∀ b, Fr fm fq fa b → Fr fm fq fa (g b))
    (h0 : Fr fm fq fa b) : Fr fm fq fa (b.ifFn f g) := by
  unfold Block.ifFn
  split
  · exact hg _ h0
  · exact h0

/-- Frame of `errCons`. -/
theorem Block.errCons_fr {fm fq : Nat} {fa : Block} (b : Block) (f v : Nat) (hm : 0x8000000000000000000000000000000000000000000000000000000000000 &&& fm = 0x8000000000000000000000000000000000000000000000000000000000000) (hq : 0x0 &&& fq = 0x0)
    (h0 : Fr fm fq fa b) : Fr fm fq fa (b.errCons f v) := by
  refine Fr.step ?_ hm hq h0
  clear h0 hq hm
  unfold Block.errCons
  repeat' (first
    | (show _ = _; exact rfl)
    | with_reducible exact Fr.refl _ _ _
    | with_reducible assumption
    | with_reducible apply Fr.wr
    | with_reducible apply Fr.ite
    | split
    | dsimp only)

/-- Frame of `evtCtrl`. -/
theorem Block.evtCtrl_fr {fm fq : Nat} {fa : Block} (b : Block) (f v : Nat) (hm : 0x800000000000000000000000000000000000000000020000004018008000020000000360000000000000000000000000000 &&& fm = 0x800000000000000000000000000000000000000000020000004018008000020000000360000000000000000000000000000) (hq : 0x5400053c0 &&& fq = 0x5400053c0)
    (h0 : Fr fm fq fa b) : Fr fm fq fa (b.evtCtrl f v) := by
  refine Fr.step ?_ hm hq h0
  clear h0 hq hm
  unfold Block.evtCtrl
  repeat' (first
    | (show _ = _; exact rfl)
    | with_reducible exact Fr.refl _ _ _
    | with_reducible assumption
    | with_reducible apply Fr.wr
    | with_reducible apply Block.evPump_fr
    | with_reducible apply Block.fldWrite_fr
    | with_reducible apply Fr.ite
    | split
    | dsimp only)

/-- Frame of `evtConsW`. -/
theorem Block.evtConsW_fr {fm fq : Nat} {fa : Block} (b : Block) (f v : Nat) (hm : 0x490010008020000000000000000000000000000001ffe14000020000004018008000060000000700000000000000000000000000000 &&& fm = 0x490010008020000000000000000000000000000001ffe14000020000004018008000060000000700000000000000000000000000000) (hq : 0x5400053c0 &&& fq = 0x5400053c0)
    (h0 : Fr fm fq fa b) : Fr fm fq fa (b.evtConsW f v) := by
  refine Fr.step ?_ hm hq h0
  clear h0 hq hm
  unfold Block.evtConsW
  repeat' (first
    | (show _ = _; exact rfl)
    | with_reducible exact Fr.refl _ _ _
    | with_reducible assumption
    | with_reducible apply Fr.wr
    | with_reducible apply Block.evPump_fr
    | with_reducible apply Block.logErr_fr
    | with_reducible apply Fr.ite
    | split)

/-- Frame of `weaveOp`. -/
theorem Block.weaveOp_fr {fm fq : Nat} {fa : Block} (b : Block) (f slot op : Nat) (hm : 0x490010008020000000000000000000000000000001ffe1400000000000000000000006000000c000000000000000000000000000000 &&& fm = 0x490010008020000000000000000000000000000001ffe1400000000000000000000006000000c000000000000000000000000000000) (hq : 0x40001204 &&& fq = 0x40001204)
    (h0 : Fr fm fq fa b) : Fr fm fq fa (b.weaveOp f slot op) := by
  refine Fr.step ?_ hm hq h0
  clear h0 hq hm
  unfold Block.weaveOp
  repeat' (first
    | (show _ = _; exact rfl)
    | with_reducible exact Fr.refl _ _ _
    | with_reducible assumption
    | with_reducible apply Fr.wr
    | with_reducible apply Fr.fnMod
    | with_reducible apply Fr.newId
    | with_reducible apply Block.logErr_fr
    | with_reducible apply Fr.ite
    | split
    | dsimp only
    | refine Fr.upd (by (repeat' apply And.intro) <;> first | exact Or.inl rfl | exact Or.inr rfl) ?_)

/-- Frame of `weaveDone`. -/
theorem Block.weaveDone_fr {fm fq : Nat} {fa : Block} (b : Block) (f : Nat) (hm : 0x408000490010208020400000000000000000000000000001ffe14000020000004018008000060008414301e00d800000f0000400000080800 &&& fm = 0x408000490010208020400000000000000000000000000001ffe14000020000004018008000060008414301e00d800000f0000400000080800) (hq : 0x7406c57c6 &&& fq = 0x7406c57c6)
    (h0 : Fr fm fq fa b) : Fr fm fq fa (b.weaveDone f) := by
  refine Fr.step ?_ hm hq h0
  clear h0 hq hm
  unfold Block.weaveDone
  repeat' (first
    | (show _ = _; exact rfl)
    | with_reducible exact Fr.refl _ _ _
    | with_reducible assumption
    | with_reducible apply Fr.wr
    | with_reducible apply Fr.fnMod
    | with_reducible apply Block.tdiErr_fr
    | with_reducible apply Fr.ite
    | split
    | dsimp only
    | refine Fr.upd (by (repeat' apply And.intro) <;> first | exact Or.inl rfl | exact Or.inr rfl) ?_)

/-- Frame of `vecUnmask`. -/
theorem Block.vecUnmask_fr {fm fq : Nat} {fa : Block} (b : Block) (f : Nat) (vec : Option Nat) (hm : 0x800020000060000000000000000000000000000000000000000000004018008000000000000000000000000000000000000000000 &&& fm = 0x800020000060000000000000000000000000000000000000000000004018008000000000000000000000000000000000000000000) (hq : 0x440005100 &&& fq = 0x440005100)
    (h0 : Fr fm fq fa b) : Fr fm fq fa (b.vecUnmask f vec) := by
  refine Fr.step ?_ hm hq h0
  clear h0 hq hm
  unfold Block.vecUnmask
  repeat' (first
    | (show _ = _; exact rfl)
    | with_reducible exact Fr.refl _ _ _
    | with_reducible assumption
    | with_reducible apply Fr.wr
    | with_reducible apply Block.fnRec_fr
    | with_reducible apply Block.pendFlush_fr
    | with_reducible apply Fr.ite
    | split
    | dsimp only)

/-- Frame of `intxSpaced`. -/
theorem Block.intxSpaced_fr {fm fq : Nat} {fa : Block} (b : Block) (l pin : Nat) (hm : 0x0 &&& fm = 0x0) (hq : 0x40000100 &&& fq = 0x40000100)
    (h0 : Fr fm fq fa b) : Fr fm fq fa (b.intxSpaced l pin) := by
  refine Fr.step ?_ hm hq h0
  clear h0 hq hm
  unfold Block.intxSpaced
  repeat' (first
    | (show _ = _; exact rfl)
    | with_reducible exact Fr.refl _ _ _
    | with_reducible assumption
    | with_reducible apply Fr.lkMod
    | with_reducible apply Block.intxSend_fr
    | dsimp only
    | refine Fr.upd (by (repeat' apply And.intro) <;> first | exact Or.inl rfl | exact Or.inr rfl) ?_)

/-- Frame of `park`. -/
theorem Block.park_fr {fm fq : Nat} {fa : Block} (b : Block) (i : ShutIx) (hm : 0x0 &&& fm = 0x0) (hq : 0x600000 &&& fq = 0x600000)
    (h0 : Fr fm fq fa b) : Fr fm fq fa (b.park i) := by
  refine Fr.step ?_ hm hq h0
  clear h0 hq hm
  unfold Block.park
  repeat' (first
    | (show _ = _; exact rfl)
    | with_reducible exact Fr.refl _ _ _
    | with_reducible assumption
    | with_reducible apply Fr.ite
    | split
    | refine Fr.upd (by (repeat' apply And.intro) <;> first | exact Or.inl rfl | exact Or.inr rfl) ?_)

end Sys2Proof.Machine
end

