-- ==== Sys2Proof/Laws/FrTether.lean ====
section
/-! SUPPORT. The frame of every operation of Machine/Tether.lean: the fields and the parts it may change, by bit masks. -/
set_option linter.unusedTactic false
set_option linter.unreachableTactic false
set_option linter.unusedSimpArgs false
set_option linter.unusedVariables false
namespace Sys2Proof.Machine

/-- Fields that a tether reset restores have that level. -/
theorem tthKey_lvl {b : Block} {p : Nat} {k : RKey} (h : b.tthKey p k = true) : k.fld.attr.lvl = .tether :=
  eq_of_beq (Bool.and_elim_left h)

/-- Frame of `stumCount`. -/
theorem Block.stumCount_fr {fm fq : Nat} {fa : Block} (b : Block) (u : UnitRef) (hq : 0x10000 &&& fq = 0x10000) (h0 : Fr fm fq fa b) :
    Fr fm fq fa (b.stumCount u).1 := by
  refine Fr.step (m' := 0) (q' := 0x10000) ?_ (Nat.zero_and _) hq h0
  unfold Block.stumCount
  exact Fr.upd (by (repeat' apply And.intro) <;> first | exact Or.inl rfl | exact Or.inr rfl) (Fr.refl _ _ _)

/-- Frame of the block after `stumCount`. -/
theorem Block.stumCount_of {fm fq : Nat} {fa b c : Block} {u : UnitRef} {x : Bool} (h : b.stumCount u = (c, x))
    (hq : 0x10000 &&& fq = 0x10000) (h0 : Fr fm fq fa b) : Fr fm fq fa c := by
  have := Block.stumCount_fr b u hq h0
  rwa [h] at this

/-- Frame of `loopEnter`. -/
theorem Block.loopEnter_fr {fm fq : Nat} {fa : Block} (b : Block) (p : Nat) (hm : 0x408000490010208020400000000000000000000000000001ffe14000020800004018008000060008000301e00d800000f0000400000080800 &&& fm = 0x408000490010208020400000000000000000000000000001ffe14000020800004018008000060008000301e00d800000f0000400000080800) (hq : 0x7406c57c6 &&& fq = 0x7406c57c6)
    (h0 : Fr fm fq fa b) : Fr fm fq fa (b.loopEnter p) := by
  refine Fr.step ?_ hm hq h0
  clear h0 hq hm
  unfold Block.loopEnter
  repeat' (first
    | (show _ = _; exact rfl)
    | with_reducible exact Fr.refl _ _ _
    | with_reducible assumption
    | with_reducible apply Fr.wr
    | with_reducible apply Fr.each
    | with_reducible apply Block.endReq_fr
    | with_reducible apply Block.linesDown_fr
    | with_reducible apply Block.putFlit_fr
    | with_reducible apply Block.tdiErr_fr
    | (intro _ _ h)
    | dsimp only)

/-- Frame of `tthDetect`. -/
theorem Block.tthDetect_fr {fm fq : Nat} {fa : Block} (b : Block) (p : Nat) (failed : Bool) (hm : 0x408000490010208020400000000000000000000000000001ffe1400186d800004018008000060008000301e00d800000f0000400000080800 &&& fm = 0x408000490010208020400000000000000000000000000001ffe1400186d800004018008000060008000301e00d800000f0000400000080800) (hq : 0x7406c57c6 &&& fq = 0x7406c57c6)
    (h0 : Fr fm fq fa b) : Fr fm fq fa (b.tthDetect p failed) := by
  refine Fr.step ?_ hm hq h0
  clear h0 hq hm
  unfold Block.tthDetect
  repeat' (first
    | (show _ = _; exact rfl)
    | with_reducible exact Fr.refl _ _ _
    | with_reducible assumption
    | with_reducible apply Fr.wr
    | with_reducible apply Fr.ttMod
    | with_reducible apply Block.loopEnter_fr
    | with_reducible apply Fr.ite
    | split
    | dsimp only)

/-- Frame of `tthDown`. -/
theorem Block.tthDown_fr {fm fq : Nat} {fa : Block} (b : Block) (p : Nat) (hm : 0x400000490010008020000000000000000008000000000001ffe14000020000004018008000060008000301e001800000f0000000000000400 &&& fm = 0x400000490010008020000000000000000008000000000001ffe14000020000004018008000060008000301e001800000f0000000000000400) (hq : 0x7400457c6 &&& fq = 0x7400457c6)
    (h0 : Fr fm fq fa b) : Fr fm fq fa (b.tthDown p) := by
  refine Fr.step ?_ hm hq h0
  clear h0 hq hm
  unfold Block.tthDown
  repeat' (first
    | (show _ = _; exact rfl)
    | with_reducible exact Fr.refl _ _ _
    | with_reducible assumption
    | with_reducible apply Fr.xMod
    | with_reducible apply Block.linesDown_fr
    | with_reducible apply Block.setActive_fr
    | with_reducible apply Block.voidAll_fr
    | dsimp only
    | refine Fr.upd (by (repeat' apply And.intro) <;> first | exact Or.inl rfl | exact Or.inr rfl) ?_)

/-- Frame of `tthLost`. -/
theorem Block.tthLost_fr {fm fq : Nat} {fa : Block} (b : Block) (p : Nat) (counted : Bool) (hm : 0x408000490010208020400000000000000008000000000001ffe1410186d800004018008000060008000301e00d800000f0000400000080c00 &&& fm = 0x408000490010208020400000000000000008000000000001ffe1410186d800004018008000060008000301e00d800000f0000400000080c00) (hq : 0x7406c57c6 &&& fq = 0x7406c57c6)
    (h0 : Fr fm fq fa b) : Fr fm fq fa (b.tthLost p counted) := by
  refine Fr.step ?_ hm hq h0
  clear h0 hq hm
  unfold Block.tthLost
  repeat' (first
    | (show _ = _; exact rfl)
    | with_reducible exact Fr.refl _ _ _
    | with_reducible assumption
    | with_reducible apply Fr.incSat
    | with_reducible apply Block.tthDetect_fr
    | with_reducible apply Block.tthDown_fr
    | with_reducible apply Fr.ite
    | split
    | dsimp only)

/-- Frame of `trainFail`. -/
theorem Block.trainFail_fr {fm fq : Nat} {fa : Block} (b : Block) (p : Nat) (hm : 0x408000490010208020400000000000000000000000000001ffe1440186d800004018008000060008000301e00d800000f0000400000080800 &&& fm = 0x408000490010208020400000000000000000000000000001ffe1440186d800004018008000060008000301e00d800000f0000400000080800) (hq : 0x7406c57c6 &&& fq = 0x7406c57c6)
    (h0 : Fr fm fq fa b) : Fr fm fq fa (b.trainFail p) := by
  refine Fr.step ?_ hm hq h0
  clear h0 hq hm
  unfold Block.trainFail
  repeat' (first
    | (show _ = _; exact rfl)
    | with_reducible exact Fr.refl _ _ _
    | with_reducible assumption
    | with_reducible apply Fr.incSat
    | with_reducible apply Block.tthDetect_fr)

/-- Frame of `lnMod`. -/
theorem Block.lnMod_fr {fm fq : Nat} {fa : Block} (b : Block) (p lane : Nat) (g : LaneTrn → LaneTrn) (hm : 0x0 &&& fm = 0x0) (hq : 0x80 &&& fq = 0x80)
    (h0 : Fr fm fq fa b) : Fr fm fq fa (b.lnMod p lane g) := by
  refine Fr.step ?_ hm hq h0
  clear h0 hq hm
  unfold Block.lnMod
  repeat' (first
    | (show _ = _; exact rfl)
    | with_reducible exact Fr.refl _ _ _
    | with_reducible assumption
    | with_reducible apply Fr.ttMod
    | dsimp only
    | refine Fr.upd (by (repeat' apply And.intro) <;> first | exact Or.inl rfl | exact Or.inr rfl) ?_)

/-- Frame of `fomSet`. -/
theorem Block.fomSet_fr {fm fq : Nat} {fa : Block} (b : Block) (p i : Nat) (es : List Eye) (hm : 0x2000000000000000000000000000000000000000000000000000000000 &&& fm = 0x2000000000000000000000000000000000000000000000000000000000) (hq : 0x0 &&& fq = 0x0)
    (h0 : Fr fm fq fa b) : Fr fm fq fa (b.fomSet p i es) := by
  refine Fr.step ?_ hm hq h0
  clear h0 hq hm
  unfold Block.fomSet
  repeat' (first
    | (show _ = _; exact rfl)
    | with_reducible exact Fr.refl _ _ _
    | with_reducible assumption
    | with_reducible apply Fr.wr
    | with_reducible apply Fr.ite
    | split)

/-- Frame of `putBlock`. -/
theorem Block.putBlock_fr {fm fq : Nat} {fa : Block} (b : Block) (p lane : Nat) (hm : 0x0 &&& fm = 0x0) (hq : 0x100000000 &&& fq = 0x100000000)
    (h0 : Fr fm fq fa b) : Fr fm fq fa (b.putBlock p lane) := by
  refine Fr.step ?_ hm hq h0
  clear h0 hq hm
  unfold Block.putBlock
  repeat' (first
    | (show _ = _; exact rfl)
    | with_reducible exact Fr.refl _ _ _
    | with_reducible assumption
    | with_reducible apply Block.putWire_fr)

/-- Frame of `sayStep`. -/
theorem Block.sayStep_fr {fm fq : Nat} {fa : Block} (b : Block) (p s : Nat) (hm : 0x0 &&& fm = 0x0) (hq : 0x140000080 &&& fq = 0x140000080)
    (h0 : Fr fm fq fa b) : Fr fm fq fa (b.sayStep p s) := by
  refine Fr.step ?_ hm hq h0
  clear h0 hq hm
  unfold Block.sayStep
  repeat' (first
    | (show _ = _; exact rfl)
    | with_reducible exact Fr.refl _ _ _
    | with_reducible assumption
    | with_reducible apply Fr.ttMod
    | with_reducible apply Fr.emit
    | with_reducible apply Fr.each
    | with_reducible apply Block.putBlock_fr
    | (intro _ _ h)
    | dsimp only
    | refine Fr.upd (by (repeat' apply And.intro) <;> first | exact Or.inl rfl | exact Or.inr rfl) ?_)

/-- Frame of `sayPreset`. -/
theorem Block.sayPreset_fr {fm fq : Nat} {fa : Block} (b : Block) (p lane preset : Nat) (hm : 0x0 &&& fm = 0x0) (hq : 0x140000080 &&& fq = 0x140000080)
    (h0 : Fr fm fq fa b) : Fr fm fq fa (b.sayPreset p lane preset) := by
  refine Fr.step ?_ hm hq h0
  clear h0 hq hm
  unfold Block.sayPreset
  repeat' (first
    | (show _ = _; exact rfl)
    | with_reducible exact Fr.refl _ _ _
    | with_reducible assumption
    | with_reducible apply Fr.emit
    | with_reducible apply Block.lnMod_fr
    | with_reducible apply Block.putBlock_fr
    | dsimp only
    | refine Fr.upd (by (repeat' apply And.intro) <;> first | exact Or.inl rfl | exact Or.inr rfl) ?_)

/-- Frame of `rxDetect`. -/
theorem Block.rxDetect_fr {fm fq : Nat} {fa : Block} (b : Block) (p found : Nat) (hm : 0x1800000000000000000000000000000000000000000000000000000 &&& fm = 0x1800000000000000000000000000000000000000000000000000000) (hq : 0x140400080 &&& fq = 0x140400080)
    (h0 : Fr fm fq fa b) : Fr fm fq fa (b.rxDetect p found) := by
  refine Fr.step ?_ hm hq h0
  clear h0 hq hm
  unfold Block.rxDetect
  repeat' (first
    | (show _ = _; exact rfl)
    | with_reducible exact Fr.refl _ _ _
    | with_reducible assumption
    | with_reducible apply Fr.wr
    | with_reducible apply Fr.ttMod
    | with_reducible apply Block.sayStep_fr
    | with_reducible apply Fr.ite
    | split
    | dsimp only
    | refine Fr.upd (by (repeat' apply And.intro) <;> first | exact Or.inl rfl | exact Or.inr rfl) ?_)

/-- Frame of `adaptStart`. -/
theorem Block.adaptStart_fr {fm fq : Nat} {fa : Block} (b : Block) (p rate was : Nat) (hm : 0x1000000000000000000000000000000000000000000000000000000 &&& fm = 0x1000000000000000000000000000000000000000000000000000000) (hq : 0x140000080 &&& fq = 0x140000080)
    (h0 : Fr fm fq fa b) : Fr fm fq fa (b.adaptStart p rate was) := by
  refine Fr.step ?_ hm hq h0
  clear h0 hq hm
  unfold Block.adaptStart
  repeat' (first
    | (show _ = _; exact rfl)
    | with_reducible exact Fr.refl _ _ _
    | with_reducible assumption
    | with_reducible apply Fr.wr
    | with_reducible apply Fr.ttMod
    | with_reducible apply Fr.each
    | with_reducible apply Block.sayPreset_fr
    | with_reducible apply Block.sayStep_fr
    | (intro _ _ h)
    | dsimp only
    | refine Fr.upd (by (repeat' apply And.intro) <;> first | exact Or.inl rfl | exact Or.inr rfl) ?_)

/-- Frame of `baseDone`. -/
theorem Block.baseDone_fr {fm fq : Nat} {fa : Block} (b : Block) (p : Nat) (hm : 0x408000490010208020400000000000000000000000000001ffe1440187d800004018008000060008000301e00d800000f0000400000080800 &&& fm = 0x408000490010208020400000000000000000000000000001ffe1440187d800004018008000060008000301e00d800000f0000400000080800) (hq : 0x7406c57c6 &&& fq = 0x7406c57c6)
    (h0 : Fr fm fq fa b) : Fr fm fq fa (b.baseDone p) := by
  refine Fr.step ?_ hm hq h0
  clear h0 hq hm
  unfold Block.baseDone
  repeat' (first
    | (show _ = _; exact rfl)
    | with_reducible exact Fr.refl _ _ _
    | with_reducible assumption
    | with_reducible apply Fr.wr
    | with_reducible apply Fr.ttMod
    | with_reducible apply Block.adaptStart_fr
    | with_reducible apply Block.trainFail_fr
    | with_reducible apply Fr.ite
    | split
    | dsimp only
    | refine Fr.upd (by (repeat' apply And.intro) <;> first | exact Or.inl rfl | exact Or.inr rfl) ?_)

/-- Frame of `rateFall`. -/
theorem Block.rateFall_fr {fm fq : Nat} {fa : Block} (b : Block) (p : Nat) (hm : 0x408000490010208020400000000000000000000000000001ffe1440186d800004018008000060008000301e00d800000f0000400000080800 &&& fm = 0x408000490010208020400000000000000000000000000001ffe1440186d800004018008000060008000301e00d800000f0000400000080800) (hq : 0x7406c57c6 &&& fq = 0x7406c57c6)
    (h0 : Fr fm fq fa b) : Fr fm fq fa (b.rateFall p) := by
  refine Fr.step ?_ hm hq h0
  clear h0 hq hm
  unfold Block.rateFall
  repeat' (first
    | (show _ = _; exact rfl)
    | with_reducible exact Fr.refl _ _ _
    | with_reducible assumption
    | with_reducible apply Block.adaptStart_fr
    | with_reducible apply Block.trainFail_fr
    | split)

/-- Frame of `adaptDone`. -/
theorem Block.adaptDone_fr {fm fq : Nat} {fa : Block} (b : Block) (p : Nat) (hm : 0x408000490010208020400000000000000000000000000001ffe1440186f800004018008000060008000301e00d800000f0000400000080800 &&& fm = 0x408000490010208020400000000000000000000000000001ffe1440186f800004018008000060008000301e00d800000f0000400000080800) (hq : 0x7406c57c6 &&& fq = 0x7406c57c6)
    (h0 : Fr fm fq fa b) : Fr fm fq fa (b.adaptDone p) := by
  refine Fr.step ?_ hm hq h0
  clear h0 hq hm
  unfold Block.adaptDone
  repeat' (first
    | (show _ = _; exact rfl)
    | with_reducible exact Fr.refl _ _ _
    | with_reducible assumption
    | with_reducible apply Fr.wr
    | with_reducible apply Fr.ttMod
    | with_reducible apply Block.rateFall_fr
    | with_reducible apply Block.sayStep_fr
    | with_reducible apply Fr.ite
    | split
    | dsimp only
    | refine Fr.upd (by (repeat' apply And.intro) <;> first | exact Or.inl rfl | exact Or.inr rfl) ?_)

/-- Frame of `adaptCheck`. -/
theorem Block.adaptCheck_fr {fm fq : Nat} {fa : Block} (b : Block) (p : Nat) (hm : 0x408000490010208020400000000000000000000000000001ffe1440186f800004018008000060008000301e00d800000f0000400000080800 &&& fm = 0x408000490010208020400000000000000000000000000001ffe1440186f800004018008000060008000301e00d800000f0000400000080800) (hq : 0x7406c57c6 &&& fq = 0x7406c57c6)
    (h0 : Fr fm fq fa b) : Fr fm fq fa (b.adaptCheck p) := by
  refine Fr.step ?_ hm hq h0
  clear h0 hq hm
  unfold Block.adaptCheck
  repeat' (first
    | (show _ = _; exact rfl)
    | with_reducible exact Fr.refl _ _ _
    | with_reducible assumption
    | with_reducible apply Block.adaptDone_fr
    | with_reducible apply Fr.ite
    | split
    | dsimp only)

/-- Frame of `trainBlk`. -/
theorem Block.trainBlk_fr {fm fq : Nat} {fa : Block} (b : Block) (p lane : Nat) (k : TrainBlk) (hm : 0x408000490010208020400000000000000000000000000001ffe1440187f800004018008000060008000301e00d800000f0000400000080800 &&& fm = 0x408000490010208020400000000000000000000000000001ffe1440187f800004018008000060008000301e00d800000f0000400000080800) (hq : 0x7406c57c6 &&& fq = 0x7406c57c6)
    (h0 : Fr fm fq fa b) : Fr fm fq fa (b.trainBlk p lane k) := by
  refine Fr.step ?_ hm hq h0
  clear h0 hq hm
  unfold Block.trainBlk
  repeat' (first
    | (show _ = _; exact rfl)
    | with_reducible exact Fr.refl _ _ _
    | with_reducible assumption
    | with_reducible apply Fr.ttMod
    | with_reducible apply Block.adaptCheck_fr
    | with_reducible apply Block.baseDone_fr
    | with_reducible apply Block.lnMod_fr
    | with_reducible apply Block.loopEnter_fr
    | with_reducible apply Block.rateFall_fr
    | with_reducible apply Block.sayStep_fr
    | with_reducible apply Fr.ite
    | split
    | dsimp only
    | refine Fr.upd (by (repeat' apply And.intro) <;> first | exact Or.inl rfl | exact Or.inr rfl) ?_)

/-- Frame of `blockIn`. -/
theorem Block.blockIn_fr {fm fq : Nat} {fa : Block} (b : Block) (p lane : Nat) (bytes : List Byte) (es : List Eye) (hm : 0x408000490010208020400000000000000000000000000001ffe1440387f800004018008000060008000301e00d800000f0000400000080800 &&& fm = 0x408000490010208020400000000000000000000000000001ffe1440387f800004018008000060008000301e00d800000f0000400000080800) (hq : 0x7406c57c6 &&& fq = 0x7406c57c6)
    (h0 : Fr fm fq fa b) : Fr fm fq fa (b.blockIn p lane bytes es) := by
  refine Fr.step ?_ hm hq h0
  clear h0 hq hm
  unfold Block.blockIn
  repeat' (first
    | (show _ = _; exact rfl)
    | with_reducible exact Fr.refl _ _ _
    | with_reducible assumption
    | with_reducible apply Block.fomSet_fr
    | with_reducible apply Block.takeBytes_fr
    | with_reducible apply Block.trainBlk_fr
    | with_reducible apply Fr.ite
    | split
    | dsimp only)

/-- Frame of `laneKeep`. -/
theorem Block.laneKeep_fr {fm fq : Nat} {fa : Block} (b : Block) (p lane : Nat) (hm : 0xa000000000000000000000000000000000000000000000000000000000 &&& fm = 0xa000000000000000000000000000000000000000000000000000000000) (hq : 0x140000080 &&& fq = 0x140000080)
    (h0 : Fr fm fq fa b) : Fr fm fq fa (b.laneKeep p lane) := by
  refine Fr.step ?_ hm hq h0
  clear h0 hq hm
  unfold Block.laneKeep
  repeat' (first
    | (show _ = _; exact rfl)
    | with_reducible exact Fr.refl _ _ _
    | with_reducible assumption
    | with_reducible apply Fr.wr
    | with_reducible apply Block.lnMod_fr
    | with_reducible apply Block.sayPreset_fr
    | with_reducible apply Fr.ite
    | split
    | dsimp only
    | refine Fr.upd (by (repeat' apply And.intro) <;> first | exact Or.inl rfl | exact Or.inr rfl) ?_)

/-- Frame of `searchEnd`. -/
theorem Block.searchEnd_fr {fm fq : Nat} {fa : Block} (b : Block) (p : Nat) (hm : 0x408000490010208020400000000000000000000000000001ffe1440186f800004018008000060008000301e00d800000f0000400000080800 &&& fm = 0x408000490010208020400000000000000000000000000001ffe1440186f800004018008000060008000301e00d800000f0000400000080800) (hq : 0x7406c57c6 &&& fq = 0x7406c57c6)
    (h0 : Fr fm fq fa b) : Fr fm fq fa (b.searchEnd p) := by
  refine Fr.step ?_ hm hq h0
  clear h0 hq hm
  unfold Block.searchEnd
  repeat' (first
    | (show _ = _; exact rfl)
    | with_reducible exact Fr.refl _ _ _
    | with_reducible assumption
    | with_reducible apply Block.adaptCheck_fr
    | with_reducible apply Block.sayStep_fr
    | with_reducible apply Fr.ite
    | split
    | dsimp only)

/-- Frame of `dwell`. -/
theorem Block.dwell_fr {fm fq : Nat} {fa : Block} (b : Block) (p lane : Nat) (es : List Eye) (hm : 0x408000490010208020400000000000000000000000000001ffe1440b86f800004018008000060008000301e00d800000f0000400000080800 &&& fm = 0x408000490010208020400000000000000000000000000001ffe1440b86f800004018008000060008000301e00d800000f0000400000080800) (hq : 0x7406c57c6 &&& fq = 0x7406c57c6)
    (h0 : Fr fm fq fa b) : Fr fm fq fa (b.dwell p lane es) := by
  refine Fr.step ?_ hm hq h0
  clear h0 hq hm
  unfold Block.dwell
  repeat' (first
    | (show _ = _; exact rfl)
    | with_reducible exact Fr.refl _ _ _
    | with_reducible assumption
    | with_reducible apply Fr.wr
    | with_reducible apply Fr.each
    | with_reducible apply Block.laneKeep_fr
    | with_reducible apply Block.lnMod_fr
    | with_reducible apply Block.sayPreset_fr
    | with_reducible apply Block.searchEnd_fr
    | with_reducible apply Fr.ite
    | (intro _ _ h)
    | split
    | dsimp only
    | refine Fr.upd (by (repeat' apply And.intro) <;> first | exact Or.inl rfl | exact Or.inr rfl) ?_)

/-- Frame of `stateLimit`. -/
theorem Block.stateLimit_fr {fm fq : Nat} {fa : Block} (b : Block) (p : Nat) (hm : 0x408000490010208020400000000000000000000000000001ffe1440b87f800004018008000060008000301e00d800000f0000400000080800 &&& fm = 0x408000490010208020400000000000000000000000000001ffe1440b87f800004018008000060008000301e00d800000f0000400000080800) (hq : 0x7406c57c6 &&& fq = 0x7406c57c6)
    (h0 : Fr fm fq fa b) : Fr fm fq fa (b.stateLimit p) := by
  refine Fr.step ?_ hm hq h0
  clear h0 hq hm
  unfold Block.stateLimit
  repeat' (first
    | (show _ = _; exact rfl)
    | with_reducible exact Fr.refl _ _ _
    | with_reducible assumption
    | with_reducible apply Fr.incSat
    | with_reducible apply Fr.each
    | with_reducible apply Block.adaptDone_fr
    | with_reducible apply Block.baseDone_fr
    | with_reducible apply Block.laneKeep_fr
    | with_reducible apply Block.trainFail_fr
    | with_reducible apply Fr.ite
    | (intro _ _ h)
    | split
    | dsimp only)

/-- Frame of `askSend`. -/
theorem Block.askSend_fr {fm fq : Nat} {fa : Block} (b : Block) (p : Nat) (hm : 0x0 &&& fm = 0x0) (hq : 0x140000080 &&& fq = 0x140000080)
    (h0 : Fr fm fq fa b) : Fr fm fq fa (b.askSend p) := by
  refine Fr.step ?_ hm hq h0
  clear h0 hq hm
  unfold Block.askSend
  repeat' (first
    | (show _ = _; exact rfl)
    | with_reducible exact Fr.refl _ _ _
    | with_reducible assumption
    | with_reducible apply Fr.emit
    | with_reducible apply Block.putFlit_fr
    | with_reducible apply Fr.ite
    | split)

/-- Frame of `ctlIn`. -/
theorem Block.ctlIn_fr {fm fq : Nat} {fa : Block} (b : Block) (p : Nat) (g : Block → Block) (hg : ∀ b, Fr fm fq fa b → Fr fm fq fa (g b)) (hm : 0x0 &&& fm = 0x0) (hq : 0x0 &&& fq = 0x0)
    (h0 : Fr fm fq fa b) : Fr fm fq fa (b.ctlIn p g) := by
  unfold Block.ctlIn
  repeat' (first
    | (show _ = _; exact rfl)
    | with_reducible exact Fr.refl _ _ _
    | with_reducible assumption
    | with_reducible apply hg
    | exact Fr.sub_trans rfl hm
    | exact Fr.sub_trans rfl hq
    | exact Fr.sub_bit (m' := 0x0) rfl hm
    | exact Fr.sub_bit (m' := 0x0) rfl hq
    | with_reducible apply Fr.ite
    | split)

/-- Frame of `askLanes`. -/
theorem Block.askLanes_fr {fm fq : Nat} {fa : Block} (b : Block) (p m : Nat) (hm : 0x20000000000000000000000000000000000000000000000000000000 &&& fm = 0x20000000000000000000000000000000000000000000000000000000) (hq : 0x140004080 &&& fq = 0x140004080)
    (h0 : Fr fm fq fa b) : Fr fm fq fa (b.askLanes p m) := by
  refine Fr.step ?_ hm hq h0
  clear h0 hq hm
  unfold Block.askLanes
  repeat' (first
    | (show _ = _; exact rfl)
    | with_reducible exact Fr.refl _ _ _
    | with_reducible assumption
    | with_reducible apply Fr.ttMod
    | with_reducible apply Block.askSend_fr
    | with_reducible apply Block.tthWake_fr
    | with_reducible apply Fr.ite
    | split
    | dsimp only
    | refine Fr.upd (by (repeat' apply And.intro) <;> first | exact Or.inl rfl | exact Or.inr rfl) ?_)

/-- Frame of `narrowAsk`. -/
theorem Block.narrowAsk_fr {fm fq : Nat} {fa : Block} (b : Block) (p : Nat) (hm : 0x408000490010208020400000000000000008000000000001ffe1410186d800004018008000060008000301e00d800000f0000400000080c00 &&& fm = 0x408000490010208020400000000000000008000000000001ffe1410186d800004018008000060008000301e00d800000f0000400000080c00) (hq : 0x7406c57c6 &&& fq = 0x7406c57c6)
    (h0 : Fr fm fq fa b) : Fr fm fq fa (b.narrowAsk p) := by
  refine Fr.step ?_ hm hq h0
  clear h0 hq hm
  unfold Block.narrowAsk
  repeat' (first
    | (show _ = _; exact rfl)
    | with_reducible exact Fr.refl _ _ _
    | with_reducible assumption
    | with_reducible apply Block.askLanes_fr
    | with_reducible apply Block.tthLost_fr
    | with_reducible apply Fr.ite
    | split)

/-- Frame of `widenAsk`. -/
theorem Block.widenAsk_fr {fm fq : Nat} {fa : Block} (b : Block) (p : Nat) (hm : 0x20000000000000000000000000000000000000000000000000000000 &&& fm = 0x20000000000000000000000000000000000000000000000000000000) (hq : 0x140004080 &&& fq = 0x140004080)
    (h0 : Fr fm fq fa b) : Fr fm fq fa (b.widenAsk p) := by
  refine Fr.step ?_ hm hq h0
  clear h0 hq hm
  unfold Block.widenAsk
  repeat' (first
    | (show _ = _; exact rfl)
    | with_reducible exact Fr.refl _ _ _
    | with_reducible assumption
    | with_reducible apply Block.askLanes_fr
    | with_reducible apply Fr.ite
    | split)

/-- Frame of `tlaneLost`. -/
theorem Block.tlaneLost_fr {fm fq : Nat} {fa : Block} (b : Block) (i : Nat) (hm : 0x408000490010208020400000000000000008000000000001ffe16311a6d800004018008000060008000301e00d800000f0000400000080c00 &&& fm = 0x408000490010208020400000000000000008000000000001ffe16311a6d800004018008000060008000301e00d800000f0000400000080c00) (hq : 0x7406c57c6 &&& fq = 0x7406c57c6)
    (h0 : Fr fm fq fa b) : Fr fm fq fa (b.tlaneLost i) := by
  refine Fr.step ?_ hm hq h0
  clear h0 hq hm
  unfold Block.tlaneLost
  repeat' (first
    | (show _ = _; exact rfl)
    | with_reducible exact Fr.refl _ _ _
    | with_reducible assumption
    | with_reducible apply Fr.wr
    | with_reducible apply Fr.incSat
    | with_reducible apply Fr.setBits
    | with_reducible apply Block.narrowAsk_fr
    | with_reducible apply Fr.ite
    | split
    | dsimp only)

/-- Frame of `tlaneStum`. -/
theorem Block.tlaneStum_fr {fm fq : Nat} {fa : Block} (b : Block) (i : TLaneIx) (hm : 0x408000490010208020400000000000000008000000000001ffe16311a6d800004018008000060008000301e00d800000f0000400000080c00 &&& fm = 0x408000490010208020400000000000000008000000000001ffe16311a6d800004018008000060008000301e00d800000f0000400000080c00) (hq : 0x7406d57c6 &&& fq = 0x7406d57c6)
    (h0 : Fr fm fq fa b) : Fr fm fq fa (b.tlaneStum i) := by
  refine Fr.step ?_ hm hq h0
  clear h0 hq hm
  unfold Block.tlaneStum
  repeat' (first
    | (show _ = _; exact rfl)
    | with_reducible exact Fr.refl _ _ _
    | with_reducible assumption
    | with_reducible apply Block.tlaneLost_fr
    | with_reducible apply Fr.ite
    | with_reducible apply Block.stumCount_fr
    | (refine Block.stumCount_of ‹_ = (_, _)› ?_ ?_)
    | split
    | dsimp only)

/-- Frame of `giveLanes`. -/
theorem Block.giveLanes_fr {fm fq : Nat} {fa : Block} (b : Block) (p m : Nat) (hm : 0x20000000000000000000000000000000000000000000000000000000 &&& fm = 0x20000000000000000000000000000000000000000000000000000000) (hq : 0x140004080 &&& fq = 0x140004080)
    (h0 : Fr fm fq fa b) : Fr fm fq fa (b.giveLanes p m) := by
  refine Fr.step ?_ hm hq h0
  clear h0 hq hm
  unfold Block.giveLanes
  repeat' (first
    | (show _ = _; exact rfl)
    | with_reducible exact Fr.refl _ _ _
    | with_reducible assumption
    | with_reducible apply Fr.ttMod
    | with_reducible apply Fr.emit
    | with_reducible apply Block.putFlit_fr
    | with_reducible apply Block.tthWake_fr
    | with_reducible apply Fr.ite
    | split
    | dsimp only
    | refine Fr.upd (by (repeat' apply And.intro) <;> first | exact Or.inl rfl | exact Or.inr rfl) ?_)

/-- Frame of `narrowReqIn`. -/
theorem Block.narrowReqIn_fr {fm fq : Nat} {fa : Block} (b : Block) (p m : Nat) (hm : 0x20000000000000000000000000000000000000000000000000000000 &&& fm = 0x20000000000000000000000000000000000000000000000000000000) (hq : 0x140004080 &&& fq = 0x140004080)
    (h0 : Fr fm fq fa b) : Fr fm fq fa (b.narrowReqIn p m) := by
  refine Fr.step ?_ hm hq h0
  clear h0 hq hm
  unfold Block.narrowReqIn
  repeat' (first
    | (show _ = _; exact rfl)
    | with_reducible exact Fr.refl _ _ _
    | with_reducible assumption
    | with_reducible apply Fr.ttMod
    | with_reducible apply Block.giveLanes_fr
    | with_reducible apply Fr.ite
    | split
    | dsimp only
    | refine Fr.upd (by (repeat' apply And.intro) <;> first | exact Or.inl rfl | exact Or.inr rfl) ?_)

/-- Frame of `narrowIn`. -/
theorem Block.narrowIn_fr {fm fq : Nat} {fa : Block} (b : Block) (p m f : Nat) (hm : 0x0 &&& fm = 0x0) (hq : 0x80 &&& fq = 0x80)
    (h0 : Fr fm fq fa b) : Fr fm fq fa (b.narrowIn p m f) := by
  refine Fr.step ?_ hm hq h0
  clear h0 hq hm
  unfold Block.narrowIn
  repeat' (first
    | (show _ = _; exact rfl)
    | with_reducible exact Fr.refl _ _ _
    | with_reducible assumption
    | with_reducible apply Fr.ttMod
    | with_reducible apply Fr.ite
    | split
    | dsimp only
    | refine Fr.upd (by (repeat' apply And.intro) <;> first | exact Or.inl rfl | exact Or.inr rfl) ?_)

/-- Frame of `narrowTake`. -/
theorem Block.narrowTake_fr {fm fq : Nat} {fa : Block} (b : Block) (p : Nat) (tx : Bool) (hm : 0x408000490010208020400000000000000008000000000001ffe14101c6d800004018008000060008000301e00d800000f0000400000080c00 &&& fm = 0x408000490010208020400000000000000008000000000001ffe14101c6d800004018008000060008000301e00d800000f0000400000080c00) (hq : 0x7406c57c6 &&& fq = 0x7406c57c6)
    (h0 : Fr fm fq fa b) : Fr fm fq fa (b.narrowTake p tx) := by
  refine Fr.step ?_ hm hq h0
  clear h0 hq hm
  unfold Block.narrowTake
  repeat' (first
    | (show _ = _; exact rfl)
    | with_reducible exact Fr.refl _ _ _
    | with_reducible assumption
    | with_reducible apply Fr.wr
    | with_reducible apply Fr.ttMod
    | with_reducible apply Block.narrowAsk_fr
    | with_reducible apply Block.narrowReqIn_fr
    | with_reducible apply Fr.ite
    | split
    | dsimp only
    | refine Fr.upd (by (repeat' apply And.intro) <;> first | exact Or.inl rfl | exact Or.inr rfl) ?_)

/-- Frame of `capsEnter`. -/
theorem Block.capsEnter_fr {fm fq : Nat} {fa : Block} (b : Block) (p : Nat) (hm : 0x408000490010208020400000000000000008000000000001ffe1410186d800004018008000060008000301e00d800000f0000400000080c00 &&& fm = 0x408000490010208020400000000000000008000000000001ffe1410186d800004018008000060008000301e00d800000f0000400000080c00) (hq : 0x7406c57c6 &&& fq = 0x7406c57c6)
    (h0 : Fr fm fq fa b) : Fr fm fq fa (b.capsEnter p) := by
  refine Fr.step ?_ hm hq h0
  clear h0 hq hm
  unfold Block.capsEnter
  repeat' (first
    | (show _ = _; exact rfl)
    | with_reducible exact Fr.refl _ _ _
    | with_reducible assumption
    | with_reducible apply Fr.wr
    | with_reducible apply Fr.ttMod
    | with_reducible apply Block.narrowAsk_fr
    | with_reducible apply Block.sendCaps_fr
    | dsimp only
    | refine Fr.upd (by (repeat' apply And.intro) <;> first | exact Or.inl rfl | exact Or.inr rfl) ?_)

/-- Frame of `lockStep`. -/
theorem Block.lockStep_fr {fm fq : Nat} {fa : Block} (b : Block) (p : Nat) (hm : 0x408000490010208020400000000000000008000000000001ffe1410186d800004018008000060008000301e00d800000f0000400000080c00 &&& fm = 0x408000490010208020400000000000000008000000000001ffe1410186d800004018008000060008000301e00d800000f0000400000080c00) (hq : 0x7406c57c6 &&& fq = 0x7406c57c6)
    (h0 : Fr fm fq fa b) : Fr fm fq fa (b.lockStep p) := by
  refine Fr.step ?_ hm hq h0
  clear h0 hq hm
  unfold Block.lockStep
  repeat' (first
    | (show _ = _; exact rfl)
    | with_reducible exact Fr.refl _ _ _
    | with_reducible assumption
    | with_reducible apply Fr.wr
    | with_reducible apply Fr.ttMod
    | with_reducible apply Block.capsEnter_fr
    | with_reducible apply Fr.ite
    | split
    | dsimp only
    | refine Fr.upd (by (repeat' apply And.intro) <;> first | exact Or.inl rfl | exact Or.inr rfl) ?_)

/-- Frame of `markIn`. -/
theorem Block.markIn_fr {fm fq : Nat} {fa : Block} (b : Block) (p : Nat) (ms : List LaneMark) (hm : 0x408000490010208020400000000000000008000000000001ffe1410386d800004018008000060008000301e00d800000f0000400000080c00 &&& fm = 0x408000490010208020400000000000000008000000000001ffe1410386d800004018008000060008000301e00d800000f0000400000080c00) (hq : 0x7406c57c6 &&& fq = 0x7406c57c6)
    (h0 : Fr fm fq fa b) : Fr fm fq fa (b.markIn p ms) := by
  refine Fr.step ?_ hm hq h0
  clear h0 hq hm
  unfold Block.markIn
  repeat' (first
    | (show _ = _; exact rfl)
    | with_reducible exact Fr.refl _ _ _
    | with_reducible assumption
    | with_reducible apply Fr.ttMod
    | with_reducible apply Fr.each
    | with_reducible apply Block.fomSet_fr
    | with_reducible apply Block.lockStep_fr
    | with_reducible apply Fr.ite
    | (intro _ _ h)
    | split
    | dsimp only
    | refine Fr.upd (by (repeat' apply And.intro) <;> first | exact Or.inl rfl | exact Or.inr rfl) ?_)

/-- Frame of `deskFlit`. -/
theorem Block.deskFlit_fr {fm fq : Nat} {fa : Block} (b : Block) (p : Nat) (ok : Bool) (hm : 0x408000490010208020400000000000000008000000000001ffe1410186d800004018008000060008000301e00d800000f0000400000080c00 &&& fm = 0x408000490010208020400000000000000008000000000001ffe1410186d800004018008000060008000301e00d800000f0000400000080c00) (hq : 0x7406c57c6 &&& fq = 0x7406c57c6)
    (h0 : Fr fm fq fa b) : Fr fm fq fa (b.deskFlit p ok) := by
  refine Fr.step ?_ hm hq h0
  clear h0 hq hm
  unfold Block.deskFlit
  repeat' (first
    | (show _ = _; exact rfl)
    | with_reducible exact Fr.refl _ _ _
    | with_reducible assumption
    | with_reducible apply Fr.ttMod
    | with_reducible apply Block.lockStep_fr
    | with_reducible apply Fr.ite
    | split
    | dsimp only
    | refine Fr.upd (by (repeat' apply And.intro) <;> first | exact Or.inl rfl | exact Or.inr rfl) ?_)

/-- Frame of `partnerDoze`. -/
theorem Block.partnerDoze_fr {fm fq : Nat} {fa : Block} (b : Block) (p : Nat) (hm : 0x40000000000000000000000000000000000000000000000000000000 &&& fm = 0x40000000000000000000000000000000000000000000000000000000) (hq : 0x0 &&& fq = 0x0)
    (h0 : Fr fm fq fa b) : Fr fm fq fa (b.partnerDoze p) := by
  refine Fr.step ?_ hm hq h0
  clear h0 hq hm
  unfold Block.partnerDoze
  repeat' (first
    | (show _ = _; exact rfl)
    | with_reducible exact Fr.refl _ _ _
    | with_reducible assumption
    | with_reducible apply Fr.wr
    | with_reducible apply Fr.ite
    | split)

/-- Frame of `dozeIn`. -/
theorem Block.dozeIn_fr {fm fq : Nat} {fa : Block} (b : Block) (p : Nat) (hm : 0x20000000000000000000000000000000000000000000000000000000 &&& fm = 0x20000000000000000000000000000000000000000000000000000000) (hq : 0x140000080 &&& fq = 0x140000080)
    (h0 : Fr fm fq fa b) : Fr fm fq fa (b.dozeIn p) := by
  refine Fr.step ?_ hm hq h0
  clear h0 hq hm
  unfold Block.dozeIn
  repeat' (first
    | (show _ = _; exact rfl)
    | with_reducible exact Fr.refl _ _ _
    | with_reducible assumption
    | with_reducible apply Fr.wr
    | with_reducible apply Fr.emit
    | with_reducible apply Block.putFlit_fr
    | with_reducible apply Block.putMark_fr
    | with_reducible apply Fr.ite
    | split
    | dsimp only)

/-- Frame of `dozeRelease`. -/
theorem Block.dozeRelease_fr {fm fq : Nat} {fa : Block} (b : Block) (p : Nat) (hm : 0x20000000000000000000000000000000000000000000000000000000 &&& fm = 0x20000000000000000000000000000000000000000000000000000000) (hq : 0x140004080 &&& fq = 0x140004080)
    (h0 : Fr fm fq fa b) : Fr fm fq fa (b.dozeRelease p) := by
  refine Fr.step ?_ hm hq h0
  clear h0 hq hm
  unfold Block.dozeRelease
  repeat' (first
    | (show _ = _; exact rfl)
    | with_reducible exact Fr.refl _ _ _
    | with_reducible assumption
    | with_reducible apply Fr.ttMod
    | with_reducible apply Block.askSend_fr
    | with_reducible apply Block.giveLanes_fr
    | with_reducible apply Block.ttPump_fr
    | with_reducible apply Block.wakeGo_fr
    | with_reducible apply Fr.ite
    | split
    | dsimp only
    | refine Fr.upd (by (repeat' apply And.intro) <;> first | exact Or.inl rfl | exact Or.inr rfl) ?_)

/-- Frame of `tthReset`. -/
theorem Block.tthReset_fr {fm fq : Nat} {fa : Block} (b : Block) (p : Nat) (hm : 0x708000490010208020460000000000000008000000000001ffe1401bfff830004018008002c60008000301e00d800000f000043f80008ffc0 &&& fm = 0x708000490010208020460000000000000008000000000001ffe1401bfff830004018008002c60008000301e00d800000f000043f80008ffc0) (hq : 0x7406d7fc6 &&& fq = 0x7406d7fc6)
    (h0 : Fr fm fq fa b) : Fr fm fq fa (b.tthReset p) := by
  refine Fr.step ?_ hm hq h0
  clear h0 hq hm
  unfold Block.tthReset
  repeat' (first
    | (show _ = _; exact rfl)
    | with_reducible exact Fr.refl _ _ _
    | with_reducible assumption
    | with_reducible apply Fr.xMod
    | with_reducible apply Fr.pinMod
    | with_reducible apply Fr.slMod
    | with_reducible apply Fr.each
    | with_reducible apply Block.reinTake_fr
    | with_reducible apply Block.tdiErr_fr
    | with_reducible apply Block.tthDetect_fr
    | with_reducible apply Block.tthDown_fr
    | with_reducible apply Block.unfence_fr
    | with_reducible apply Block.unset_fr
    | (intro k hk; exact Fr.sub_bit (Fld.tetherBit _ (tthKey_lvl hk)) rfl)
    | with_reducible apply Fr.ite
    | (intro _ _ h)
    | split
    | dsimp only
    | refine Fr.upd (by (repeat' apply And.intro) <;> first | exact Or.inl rfl | exact Or.inr rfl) ?_)

/-- Frame of `prstRelease`. -/
theorem Block.prstRelease_fr {fm fq : Nat} {fa : Block} (b : Block) (p : Nat) (hm : 0x0 &&& fm = 0x0) (hq : 0x2800 &&& fq = 0x2800)
    (h0 : Fr fm fq fa b) : Fr fm fq fa (b.prstRelease p) := by
  refine Fr.step ?_ hm hq h0
  clear h0 hq hm
  unfold Block.prstRelease
  repeat' (first
    | (show _ = _; exact rfl)
    | with_reducible exact Fr.refl _ _ _
    | with_reducible assumption
    | with_reducible apply Fr.pinMod
    | with_reducible apply Fr.slMod
    | with_reducible apply Fr.ite
    | split
    | dsimp only
    | refine Fr.upd (by (repeat' apply And.intro) <;> first | exact Or.inl rfl | exact Or.inr rfl) ?_)

/-- Frame of `removal`. -/
theorem Block.removal_fr {fm fq : Nat} {fa : Block} (b : Block) (p : Nat) (hm : 0x408000490010208020400000000000000008000000000001ffe1410186d800004018008000060008000301e00d800000f0000400000080c00 &&& fm = 0x408000490010208020400000000000000008000000000001ffe1410186d800004018008000060008000301e00d800000f0000400000080c00) (hq : 0x7406c5fc6 &&& fq = 0x7406c5fc6)
    (h0 : Fr fm fq fa b) : Fr fm fq fa (b.removal p) := by
  refine Fr.step ?_ hm hq h0
  clear h0 hq hm
  unfold Block.removal
  repeat' (first
    | (show _ = _; exact rfl)
    | with_reducible exact Fr.refl _ _ _
    | with_reducible assumption
    | with_reducible apply Fr.pinMod
    | with_reducible apply Fr.each
    | with_reducible apply Block.devEvent_fr
    | with_reducible apply Block.fence_fr
    | with_reducible apply Block.tdiErr_fr
    | with_reducible apply Block.tthLost_fr
    | with_reducible apply Fr.ite
    | (intro _ _ h)
    | split
    | dsimp only
    | refine Fr.upd (by (repeat' apply And.intro) <;> first | exact Or.inl rfl | exact Or.inr rfl) ?_)

end Sys2Proof.Machine
end

