-- ==== Sys2Proof/Laws/FrFlit.lean ====
section
/-! SUPPORT. The frame of every operation of Machine/Flit.lean: the fields and the parts it may change, by bit masks. -/
set_option linter.unusedTactic false
set_option linter.unreachableTactic false
set_option linter.unusedSimpArgs false
set_option linter.unusedVariables false
namespace Sys2Proof.Machine

/-- Frame of `fecCount`. -/
theorem Block.fecCount_fr {fm fq : Nat} {fa : Block} (b : Block) (p k : Nat) (hm : 0x408000490010208020400000000000000008000000000001ffe16315a6d800004018008000060008000301e00d800000f0000400000080c00 &&& fm = 0x408000490010208020400000000000000008000000000001ffe16315a6d800004018008000060008000301e00d800000f0000400000080c00) (hq : 0x7406d57c6 &&& fq = 0x7406d57c6)
    (h0 : Fr fm fq fa b) : Fr fm fq fa (b.fecCount p k) := by
  refine Fr.step ?_ hm hq h0
  clear h0 hq hm
  unfold Block.fecCount
  repeat' (first
    | (show _ = _; exact rfl)
    | with_reducible exact Fr.refl _ _ _
    | with_reducible assumption
    | with_reducible apply Fr.incSat
    | with_reducible apply Block.tlaneStum_fr
    | with_reducible apply Fr.ite
    | split
    | dsimp only)

/-- Frame of `msgDeliver`. -/
theorem Block.msgDeliver_fr {fm fq : Nat} {fa : Block} (b : Block) (p : Nat) (m : List Byte) (hm : 0x408000490010208020460000000000000008000000000001ffe1400002080000401800800a060008000301e00d800000f00004800000e3fc0 &&& fm = 0x408000490010208020460000000000000008000000000001ffe1400002080000401800800a060008000301e00d800000f00004800000e3fc0) (hq : 0x7406c57c6 &&& fq = 0x7406c57c6)
    (h0 : Fr fm fq fa b) : Fr fm fq fa (b.msgDeliver p m) := by
  refine Fr.step ?_ hm hq h0
  clear h0 hq hm
  unfold Block.msgDeliver
  repeat' (first
    | (show _ = _; exact rfl)
    | with_reducible exact Fr.refl _ _ _
    | with_reducible assumption
    | with_reducible apply Block.capsIn_fr
    | with_reducible apply Block.creditIn_fr
    | with_reducible apply Block.lmArrive_fr
    | with_reducible apply Block.msgIn_fr
    | with_reducible apply Block.rspIn_fr
    | with_reducible apply Fr.ite
    | split
    | dsimp only)

/-- Frame of `slotIn`. -/
theorem Block.slotIn_fr {fm fq : Nat} {fa : Block} (b : Block) (p : Nat) (s : List Byte) (hm : 0x408000490010208020460000000000000008000000000001ffe1400002080000401800800a060008000301e00d800000f00004800000e3fc0 &&& fm = 0x408000490010208020460000000000000008000000000001ffe1400002080000401800800a060008000301e00d800000f00004800000e3fc0) (hq : 0x7406c57c6 &&& fq = 0x7406c57c6)
    (h0 : Fr fm fq fa b) : Fr fm fq fa (b.slotIn p s) := by
  refine Fr.step ?_ hm hq h0
  clear h0 hq hm
  unfold Block.slotIn
  repeat' (first
    | (show _ = _; exact rfl)
    | with_reducible exact Fr.refl _ _ _
    | with_reducible assumption
    | with_reducible apply Fr.ttMod
    | with_reducible apply Block.msgDeliver_fr
    | with_reducible apply Fr.ite
    | split
    | dsimp only
    | refine Fr.upd (by (repeat' apply And.intro) <;> first | exact Or.inl rfl | exact Or.inr rfl) ?_)

/-- Frame of `nakReplay`. -/
theorem Block.nakReplay_fr {fm fq : Nat} {fa : Block} (b : Block) (p seq : Nat) (hm : 0x408000490010208020400000000000000008000000000001ffe1418186d800004018008000060008000301e00d800000f0000400000080c00 &&& fm = 0x408000490010208020400000000000000008000000000001ffe1418186d800004018008000060008000301e00d800000f0000400000080c00) (hq : 0x7406c57c6 &&& fq = 0x7406c57c6)
    (h0 : Fr fm fq fa b) : Fr fm fq fa (b.nakReplay p seq) := by
  refine Fr.step ?_ hm hq h0
  clear h0 hq hm
  unfold Block.nakReplay
  repeat' (first
    | (show _ = _; exact rfl)
    | with_reducible exact Fr.refl _ _ _
    | with_reducible assumption
    | with_reducible apply Fr.incSat
    | with_reducible apply Fr.ttMod
    | with_reducible apply Fr.emit
    | with_reducible apply Fr.each
    | with_reducible apply Block.putFlit_fr
    | with_reducible apply Block.tthLost_fr
    | with_reducible apply Block.txFlit_fr
    | with_reducible apply Fr.ite
    | (intro _ _ h)
    | split
    | dsimp only
    | refine Fr.upd (by (repeat' apply And.intro) <;> first | exact Or.inl rfl | exact Or.inr rfl) ?_)

/-- Frame of `nakIn`. -/
theorem Block.nakIn_fr {fm fq : Nat} {fa : Block} (b : Block) (p : Nat) (hm : 0x408000490010208020400000000000000008000000000001ffe1418186d800004018008000060008000301e00d800000f0000400000080c00 &&& fm = 0x408000490010208020400000000000000008000000000001ffe1418186d800004018008000060008000301e00d800000f0000400000080c00) (hq : 0x7406c57c6 &&& fq = 0x7406c57c6)
    (h0 : Fr fm fq fa b) : Fr fm fq fa (b.nakIn p) := by
  refine Fr.step ?_ hm hq h0
  clear h0 hq hm
  unfold Block.nakIn
  repeat' (first
    | (show _ = _; exact rfl)
    | with_reducible exact Fr.refl _ _ _
    | with_reducible assumption
    | with_reducible apply Fr.ttMod
    | with_reducible apply Block.nakReplay_fr
    | with_reducible apply Block.tthWake_fr
    | with_reducible apply Fr.ite
    | split
    | dsimp only
    | refine Fr.upd (by (repeat' apply And.intro) <;> first | exact Or.inl rfl | exact Or.inr rfl) ?_)

/-- Frame of `ackIn`. -/
theorem Block.ackIn_fr {fm fq : Nat} {fa : Block} (b : Block) (p ack : Nat) (hm : 0x0 &&& fm = 0x0) (hq : 0x140000080 &&& fq = 0x140000080)
    (h0 : Fr fm fq fa b) : Fr fm fq fa (b.ackIn p ack) := by
  refine Fr.step ?_ hm hq h0
  clear h0 hq hm
  unfold Block.ackIn
  repeat' (first
    | (show _ = _; exact rfl)
    | with_reducible exact Fr.refl _ _ _
    | with_reducible assumption
    | with_reducible apply Fr.ttMod
    | with_reducible apply Block.ttPump_fr
    | with_reducible apply Fr.ite
    | split
    | dsimp only
    | refine Fr.upd (by (repeat' apply And.intro) <;> first | exact Or.inl rfl | exact Or.inr rfl) ?_)

/-- Frame of `rxBad`. -/
theorem Block.rxBad_fr {fm fq : Nat} {fa : Block} (b : Block) (p : Nat) (hm : 0x20000000000000000000000000000000000000000000000000000000 &&& fm = 0x20000000000000000000000000000000000000000000000000000000) (hq : 0x140004080 &&& fq = 0x140004080)
    (h0 : Fr fm fq fa b) : Fr fm fq fa (b.rxBad p) := by
  refine Fr.step ?_ hm hq h0
  clear h0 hq hm
  unfold Block.rxBad
  repeat' (first
    | (show _ = _; exact rfl)
    | with_reducible exact Fr.refl _ _ _
    | with_reducible assumption
    | with_reducible apply Fr.ttMod
    | with_reducible apply Block.tthWake_fr
    | with_reducible apply Block.txNews_fr
    | dsimp only
    | refine Fr.upd (by (repeat' apply And.intro) <;> first | exact Or.inl rfl | exact Or.inr rfl) ?_)

/-- Frame of `replayIn`. -/
theorem Block.replayIn_fr {fm fq : Nat} {fa : Block} (b : Block) (p seq : Nat) (hm : 0x0 &&& fm = 0x0) (hq : 0x80 &&& fq = 0x80)
    (h0 : Fr fm fq fa b) : Fr fm fq fa (b.replayIn p seq) := by
  refine Fr.step ?_ hm hq h0
  clear h0 hq hm
  unfold Block.replayIn
  repeat' (first
    | (show _ = _; exact rfl)
    | with_reducible exact Fr.refl _ _ _
    | with_reducible assumption
    | with_reducible apply Fr.ttMod
    | with_reducible apply Fr.ite
    | split
    | dsimp only
    | refine Fr.upd (by (repeat' apply And.intro) <;> first | exact Or.inl rfl | exact Or.inr rfl) ?_)

/-- Frame of `nakHoldEnd`. -/
theorem Block.nakHoldEnd_fr {fm fq : Nat} {fa : Block} (b : Block) (p : Nat) (hm : 0x408000490010208020400000000000000008000000000001ffe1418186d800004018008000060008000301e00d800000f0000400000080c00 &&& fm = 0x408000490010208020400000000000000008000000000001ffe1418186d800004018008000060008000301e00d800000f0000400000080c00) (hq : 0x7406c57c6 &&& fq = 0x7406c57c6)
    (h0 : Fr fm fq fa b) : Fr fm fq fa (b.nakHoldEnd p) := by
  refine Fr.step ?_ hm hq h0
  clear h0 hq hm
  unfold Block.nakHoldEnd
  repeat' (first
    | (show _ = _; exact rfl)
    | with_reducible exact Fr.refl _ _ _
    | with_reducible assumption
    | with_reducible apply Fr.ttMod
    | with_reducible apply Block.nakReplay_fr
    | with_reducible apply Fr.ite
    | split
    | dsimp only
    | refine Fr.upd (by (repeat' apply And.intro) <;> first | exact Or.inl rfl | exact Or.inr rfl) ?_)

/-- Frame of `dozeFree`. -/
theorem Block.dozeFree_fr {fm fq : Nat} {fa : Block} (b : Block) (p : Nat) (hm : 0x408000490010208020400000000000000008000000000001ffe1418186d800004018008000060008000301e00d800000f0000400000080c00 &&& fm = 0x408000490010208020400000000000000008000000000001ffe1418186d800004018008000060008000301e00d800000f0000400000080c00) (hq : 0x7406c57c6 &&& fq = 0x7406c57c6)
    (h0 : Fr fm fq fa b) : Fr fm fq fa (b.dozeFree p) := by
  refine Fr.step ?_ hm hq h0
  clear h0 hq hm
  unfold Block.dozeFree
  repeat' (first
    | (show _ = _; exact rfl)
    | with_reducible exact Fr.refl _ _ _
    | with_reducible assumption
    | with_reducible apply Block.dozeRelease_fr
    | with_reducible apply Block.nakReplay_fr
    | with_reducible apply Fr.ite
    | split
    | dsimp only)

/-- Frame of `payloadIn`. -/
theorem Block.payloadIn_fr {fm fq : Nat} {fa : Block} (b : Block) (p : Nat) (area : List Byte) (hm : 0x408000490010208020460000000000000008000000000001ffe1400002080000401800800a060008000301e00d800000f00004800000e3fc0 &&& fm = 0x408000490010208020460000000000000008000000000001ffe1400002080000401800800a060008000301e00d800000f00004800000e3fc0) (hq : 0x7406c57c6 &&& fq = 0x7406c57c6)
    (h0 : Fr fm fq fa b) : Fr fm fq fa (b.payloadIn p area) := by
  refine Fr.step ?_ hm hq h0
  clear h0 hq hm
  unfold Block.payloadIn
  repeat' (first
    | (show _ = _; exact rfl)
    | with_reducible exact Fr.refl _ _ _
    | with_reducible assumption
    | with_reducible apply Fr.ttMod
    | with_reducible apply Fr.each
    | with_reducible apply Block.rxBad_fr
    | with_reducible apply Block.slotIn_fr
    | with_reducible apply Block.tthWake_fr
    | with_reducible apply Block.txNews_fr
    | with_reducible apply Fr.ite
    | (intro _ _ h)
    | split
    | dsimp only
    | refine Fr.upd (by (repeat' apply And.intro) <;> first | exact Or.inl rfl | exact Or.inr rfl) ?_)

/-- Frame of `recordIn`. -/
theorem Block.recordIn_fr {fm fq : Nat} {fa : Block} (b : Block) (p : Nat) (area : List Byte) (hm : 0x60000000000000000000000000000000000000000000000000000000 &&& fm = 0x60000000000000000000000000000000000000000000000000000000) (hq : 0x140004080 &&& fq = 0x140004080)
    (h0 : Fr fm fq fa b) : Fr fm fq fa (b.recordIn p area) := by
  refine Fr.step ?_ hm hq h0
  clear h0 hq hm
  unfold Block.recordIn
  repeat' (first
    | (show _ = _; exact rfl)
    | with_reducible exact Fr.refl _ _ _
    | with_reducible assumption
    | with_reducible apply Block.ctlIn_fr
    | with_reducible apply Block.narrowIn_fr
    | with_reducible apply Block.narrowReqIn_fr
    | with_reducible apply Block.partnerDoze_fr
    | with_reducible apply Block.replayIn_fr
    | with_reducible apply Fr.ite
    | (intro _ _ h)
    | (intro _ h)
    | split
    | dsimp only)

/-- Frame of `headerIn`. -/
theorem Block.headerIn_fr {fm fq : Nat} {fa : Block} (b : Block) (p h : Nat) (hm : 0x408000490010208020400000000000000008000000000001ffe1418186d800004018008000060008000301e00d800000f0000400000080c00 &&& fm = 0x408000490010208020400000000000000008000000000001ffe1418186d800004018008000060008000301e00d800000f0000400000080c00) (hq : 0x7406c57c6 &&& fq = 0x7406c57c6)
    (h0 : Fr fm fq fa b) : Fr fm fq fa (b.headerIn p h) := by
  refine Fr.step ?_ hm hq h0
  clear h0 hq hm
  unfold Block.headerIn
  repeat' (first
    | (show _ = _; exact rfl)
    | with_reducible exact Fr.refl _ _ _
    | with_reducible assumption
    | with_reducible apply Fr.ttMod
    | with_reducible apply Block.ackIn_fr
    | with_reducible apply Block.nakIn_fr
    | with_reducible apply Fr.ite
    | split
    | dsimp only
    | refine Fr.upd (by (repeat' apply And.intro) <;> first | exact Or.inl rfl | exact Or.inr rfl) ?_)

/-- Frame of `flitUse`. -/
theorem Block.flitUse_fr {fm fq : Nat} {fa : Block} (b : Block) (p : Nat) (bytes : List Byte) (hm : 0x408000490010208020460000000000000008000000000001ffe163f5a6d80000401800800a060008000301e00d800000f00004800000e3fc0 &&& fm = 0x408000490010208020460000000000000008000000000001ffe163f5a6d80000401800800a060008000301e00d800000f00004800000e3fc0) (hq : 0x7406d57c6 &&& fq = 0x7406d57c6)
    (h0 : Fr fm fq fa b) : Fr fm fq fa (b.flitUse p bytes) := by
  refine Fr.step ?_ hm hq h0
  clear h0 hq hm
  unfold Block.flitUse
  repeat' (first
    | (show _ = _; exact rfl)
    | with_reducible exact Fr.refl _ _ _
    | with_reducible assumption
    | with_reducible apply Fr.incSat
    | with_reducible apply Fr.ttMod
    | with_reducible apply Fr.each
    | with_reducible apply Block.deskFlit_fr
    | with_reducible apply Block.fecCount_fr
    | with_reducible apply Block.headerIn_fr
    | with_reducible apply Block.payloadIn_fr
    | with_reducible apply Block.recordIn_fr
    | with_reducible apply Block.rxBad_fr
    | with_reducible apply Fr.ite
    | (intro _ _ h)
    | split
    | dsimp only
    | refine Fr.upd (by (repeat' apply And.intro) <;> first | exact Or.inl rfl | exact Or.inr rfl) ?_)

/-- Frame of `flitIn`. -/
theorem Block.flitIn_fr {fm fq : Nat} {fa : Block} (b : Block) (p : Nat) (bytes : List Byte) (hm : 0x408000490010208020460000000000000008000000000001ffe163f5a6d80000401800800a060008000301e00d800000f00004800000e3fc0 &&& fm = 0x408000490010208020460000000000000008000000000001ffe163f5a6d80000401800800a060008000301e00d800000f00004800000e3fc0) (hq : 0x7406d57c6 &&& fq = 0x7406d57c6)
    (h0 : Fr fm fq fa b) : Fr fm fq fa (b.flitIn p bytes) := by
  refine Fr.step ?_ hm hq h0
  clear h0 hq hm
  unfold Block.flitIn
  repeat' (first
    | (show _ = _; exact rfl)
    | with_reducible exact Fr.refl _ _ _
    | with_reducible assumption
    | with_reducible apply Block.flitUse_fr
    | with_reducible apply Block.takeBytes_fr
    | with_reducible apply Fr.ite
    | split
    | dsimp only)

end Sys2Proof.Machine
end

