-- ==== Sys2Proof/Laws/FrSlot.lean ====
section
/-! SUPPORT. The frame of every operation of Machine/Slot.lean: the fields and the parts it may change, by bit masks. -/
set_option linter.unusedTactic false
set_option linter.unreachableTactic false
set_option linter.unusedSimpArgs false
set_option linter.unusedVariables false
namespace Sys2Proof.Machine

/-- Frame of `standLeave`. -/
theorem Block.standLeave_fr {fm fq : Nat} {fa : Block} (b : Block) (hm : 0x80000000000000000000000000000000000000000000000000000000000000000000 &&& fm = 0x80000000000000000000000000000000000000000000000000000000000000000000) (hq : 0x4000 &&& fq = 0x4000)
    (h0 : Fr fm fq fa b) : Fr fm fq fa (b.standLeave) := by
  refine Fr.step ?_ hm hq h0
  clear h0 hq hm
  unfold Block.standLeave
  repeat' (first
    | (show _ = _; exact rfl)
    | with_reducible exact Fr.refl _ _ _
    | with_reducible assumption
    | with_reducible apply Fr.wr
    | dsimp only
    | refine Fr.upd (by (repeat' apply And.intro) <;> first | exact Or.inl rfl | exact Or.inr rfl) ?_)

/-- Frame of `standWake`. -/
theorem Block.standWake_fr {fm fq : Nat} {fa : Block} (b : Block) (hm : 0x80000000000000000000000000000000000000000000000000000000000000000000 &&& fm = 0x80000000000000000000000000000000000000000000000000000000000000000000) (hq : 0x4000 &&& fq = 0x4000)
    (h0 : Fr fm fq fa b) : Fr fm fq fa (b.standWake) := by
  refine Fr.step ?_ hm hq h0
  clear h0 hq hm
  unfold Block.standWake
  repeat' (first
    | (show _ = _; exact rfl)
    | with_reducible exact Fr.refl _ _ _
    | with_reducible assumption
    | with_reducible apply Block.holdBack_fr
    | with_reducible apply Block.standLeave_fr
    | with_reducible apply Fr.ite
    | split)

/-- Frame of `seqDone`. -/
theorem Block.seqDone_fr {fm fq : Nat} {fa : Block} (b : Block) (p : Nat) (hm : 0x800000000000000000000400000000000000000000000000000000000000020000000000000000000000000000000000000 &&& fm = 0x800000000000000000000400000000000000000000000000000000000000020000000000000000000000000000000000000) (hq : 0x40001200 &&& fq = 0x40001200)
    (h0 : Fr fm fq fa b) : Fr fm fq fa (b.seqDone p) := by
  refine Fr.step ?_ hm hq h0
  clear h0 hq hm
  unfold Block.seqDone
  repeat' (first
    | (show _ = _; exact rfl)
    | with_reducible exact Fr.refl _ _ _
    | with_reducible assumption
    | with_reducible apply Block.slotBit_fr)

/-- Frame of `pwrenOff`. -/
theorem Block.pwrenOff_fr {fm fq : Nat} {fa : Block} (b : Block) (p : Nat) (hm : 0x0 &&& fm = 0x0) (hq : 0x800 &&& fq = 0x800)
    (h0 : Fr fm fq fa b) : Fr fm fq fa (b.pwrenOff p) := by
  refine Fr.step ?_ hm hq h0
  clear h0 hq hm
  unfold Block.pwrenOff
  repeat' (first
    | (show _ = _; exact rfl)
    | with_reducible exact Fr.refl _ _ _
    | with_reducible assumption
    | with_reducible apply Fr.pinMod
    | dsimp only
    | refine Fr.upd (by (repeat' apply And.intro) <;> first | exact Or.inl rfl | exact Or.inr rfl) ?_)

/-- Frame of `powerOn`. -/
theorem Block.powerOn_fr {fm fq : Nat} {fa : Block} (b : Block) (p : Nat) (hm : 0x800000000000000000000440000000000000000000000000000000000000020000000000000000000000000000000000000 &&& fm = 0x800000000000000000000440000000000000000000000000000000000000020000000000000000000000000000000000000) (hq : 0x40003240 &&& fq = 0x40003240)
    (h0 : Fr fm fq fa b) : Fr fm fq fa (b.powerOn p) := by
  refine Fr.step ?_ hm hq h0
  clear h0 hq hm
  unfold Block.powerOn
  repeat' (first
    | (show _ = _; exact rfl)
    | with_reducible exact Fr.refl _ _ _
    | with_reducible assumption
    | with_reducible apply Fr.wr
    | with_reducible apply Fr.xMod
    | with_reducible apply Fr.slMod
    | with_reducible apply Block.seqDone_fr
    | with_reducible apply Fr.ite
    | split
    | dsimp only
    | refine Fr.upd (by (repeat' apply And.intro) <;> first | exact Or.inl rfl | exact Or.inr rfl) ?_)

/-- Frame of `slotOnReq`. -/
theorem Block.slotOnReq_fr {fm fq : Nat} {fa : Block} (b : Block) (p : Nat) (hm : 0x800000000000000000000440000000000000000000000000000000000000020000000000000000000000000000000000000 &&& fm = 0x800000000000000000000440000000000000000000000000000000000000020000000000000000000000000000000000000) (hq : 0x40003240 &&& fq = 0x40003240)
    (h0 : Fr fm fq fa b) : Fr fm fq fa (b.slotOnReq p) := by
  refine Fr.step ?_ hm hq h0
  clear h0 hq hm
  unfold Block.slotOnReq
  repeat' (first
    | (show _ = _; exact rfl)
    | with_reducible exact Fr.refl _ _ _
    | with_reducible assumption
    | with_reducible apply Fr.slMod
    | with_reducible apply Block.powerOn_fr
    | with_reducible apply Block.seqDone_fr
    | split
    | dsimp only
    | refine Fr.upd (by (repeat' apply And.intro) <;> first | exact Or.inl rfl | exact Or.inr rfl) ?_)

/-- Frame of `slotOffReq`. -/
theorem Block.slotOffReq_fr {fm fq : Nat} {fa : Block} (b : Block) (p : Nat) (hm : 0x70800049001020802046000000000000000c400000000001ffe1401bfff830004018008002c60008000301e00d800000f000043f80008ffc0 &&& fm = 0x70800049001020802046000000000000000c400000000001ffe1401bfff830004018008002c60008000301e00d800000f000043f80008ffc0) (hq : 0x7406d7fc6 &&& fq = 0x7406d7fc6)
    (h0 : Fr fm fq fa b) : Fr fm fq fa (b.slotOffReq p) := by
  refine Fr.step ?_ hm hq h0
  clear h0 hq hm
  unfold Block.slotOffReq
  repeat' (first
    | (show _ = _; exact rfl)
    | with_reducible exact Fr.refl _ _ _
    | with_reducible assumption
    | with_reducible apply Fr.wr
    | with_reducible apply Fr.slMod
    | with_reducible apply Block.pwrenOff_fr
    | with_reducible apply Block.seqDone_fr
    | with_reducible apply Block.tthReset_fr
    | split
    | dsimp only
    | refine Fr.upd (by (repeat' apply And.intro) <;> first | exact Or.inl rfl | exact Or.inr rfl) ?_)

/-- Frame of `slotResetReq`. -/
theorem Block.slotResetReq_fr {fm fq : Nat} {fa : Block} (b : Block) (p : Nat) (hm : 0x708000490010208020460000000000000008000000000001ffe1401bfff830004018008002c60008000301e00d800000f000043f80008ffc0 &&& fm = 0x708000490010208020460000000000000008000000000001ffe1401bfff830004018008002c60008000301e00d800000f000043f80008ffc0) (hq : 0x7406d7fc6 &&& fq = 0x7406d7fc6)
    (h0 : Fr fm fq fa b) : Fr fm fq fa (b.slotResetReq p) := by
  refine Fr.step ?_ hm hq h0
  clear h0 hq hm
  unfold Block.slotResetReq
  repeat' (first
    | (show _ = _; exact rfl)
    | with_reducible exact Fr.refl _ _ _
    | with_reducible assumption
    | with_reducible apply Block.tthReset_fr
    | with_reducible apply Fr.ite
    | split)

/-- Frame of `slotCtrl`. -/
theorem Block.slotCtrl_fr {fm fq : Nat} {fa : Block} (b : Block) (p v : Nat) (hm : 0x70800049001020802046000000000000000c4c0000000001ffe1401bfff830004018008002c60008000301e00d800000f000043f80008ffc0 &&& fm = 0x70800049001020802046000000000000000c4c0000000001ffe1401bfff830004018008002c60008000301e00d800000f000043f80008ffc0) (hq : 0x7406d7fc6 &&& fq = 0x7406d7fc6)
    (h0 : Fr fm fq fa b) : Fr fm fq fa (b.slotCtrl p v) := by
  refine Fr.step ?_ hm hq h0
  clear h0 hq hm
  unfold Block.slotCtrl
  repeat' (first
    | (show _ = _; exact rfl)
    | with_reducible exact Fr.refl _ _ _
    | with_reducible assumption
    | with_reducible apply Fr.wr
    | with_reducible apply Block.slotOffReq_fr
    | with_reducible apply Block.slotOnReq_fr
    | with_reducible apply Block.slotResetReq_fr
    | with_reducible apply Fr.ite
    | split
    | dsimp only)

/-- Frame of `slotWrite`. -/
theorem Block.slotWrite_fr {fm fq : Nat} {fa : Block} (b : Block) (via : SlotVia) (v : Nat) (hm : 0x70800049001020802046000000000000000c4c0000000001ffe1401bfff830004018008002c60008000301e00d800000f000043f80008ffc0 &&& fm = 0x70800049001020802046000000000000000c4c0000000001ffe1401bfff830004018008002c60008000301e00d800000f000043f80008ffc0) (hq : 0x7406d7fc6 &&& fq = 0x7406d7fc6)
    (h0 : Fr fm fq fa b) : Fr fm fq fa (b.slotWrite via v) := by
  refine Fr.step ?_ hm hq h0
  clear h0 hq hm
  unfold Block.slotWrite
  repeat' (first
    | (show _ = _; exact rfl)
    | with_reducible exact Fr.refl _ _ _
    | with_reducible assumption
    | with_reducible apply Block.slotCtrl_fr
    | split)

/-- Frame of `slotEnable`. -/
theorem Block.slotEnable_fr {fm fq : Nat} {fa : Block} (b : Block) (p : Nat) (hm : 0x0 &&& fm = 0x0) (hq : 0x6800 &&& fq = 0x6800)
    (h0 : Fr fm fq fa b) : Fr fm fq fa (b.slotEnable p) := by
  refine Fr.step ?_ hm hq h0
  clear h0 hq hm
  unfold Block.slotEnable
  repeat' (first
    | (show _ = _; exact rfl)
    | with_reducible exact Fr.refl _ _ _
    | with_reducible assumption
    | with_reducible apply Fr.pinMod
    | with_reducible apply Fr.slMod
    | with_reducible apply Block.holdBack_fr
    | with_reducible apply Fr.ite
    | split
    | dsimp only
    | refine Fr.upd (by (repeat' apply And.intro) <;> first | exact Or.inl rfl | exact Or.inr rfl) ?_)

/-- Frame of `holdCheck`. -/
theorem Block.holdCheck_fr {fm fq : Nat} {fa : Block} (b : Block) (p : Nat) (hm : 0x0 &&& fm = 0x0) (hq : 0x2040 &&& fq = 0x2040)
    (h0 : Fr fm fq fa b) : Fr fm fq fa (b.holdCheck p) := by
  refine Fr.step ?_ hm hq h0
  clear h0 hq hm
  unfold Block.holdCheck
  repeat' (first
    | (show _ = _; exact rfl)
    | with_reducible exact Fr.refl _ _ _
    | with_reducible assumption
    | with_reducible apply Fr.xMod
    | with_reducible apply Fr.slMod
    | with_reducible apply Fr.ite
    | split
    | dsimp only
    | refine Fr.upd (by (repeat' apply And.intro) <;> first | exact Or.inl rfl | exact Or.inr rfl) ?_)

/-- Frame of `goodUp`. -/
theorem Block.goodUp_fr {fm fq : Nat} {fa : Block} (b : Block) (p : Nat) (hm : 0x40000000000000000000000000000000000000000000000000000000000000000000000000000 &&& fm = 0x40000000000000000000000000000000000000000000000000000000000000000000000000000) (hq : 0x2840 &&& fq = 0x2840)
    (h0 : Fr fm fq fa b) : Fr fm fq fa (b.goodUp p) := by
  refine Fr.step ?_ hm hq h0
  clear h0 hq hm
  unfold Block.goodUp
  repeat' (first
    | (show _ = _; exact rfl)
    | with_reducible exact Fr.refl _ _ _
    | with_reducible assumption
    | with_reducible apply Fr.wr
    | with_reducible apply Fr.pinMod
    | with_reducible apply Fr.slMod
    | with_reducible apply Block.holdCheck_fr
    | with_reducible apply Fr.ite
    | split
    | dsimp only
    | refine Fr.upd (by (repeat' apply And.intro) <;> first | exact Or.inl rfl | exact Or.inr rfl) ?_)

/-- Frame of `goodLate`. -/
theorem Block.goodLate_fr {fm fq : Nat} {fa : Block} (b : Block) (p : Nat) (hm : 0x800000000000000000000640000000000000000000000000000000000000020000000000000000000000000000000000000 &&& fm = 0x800000000000000000000640000000000000000000000000000000000000020000000000000000000000000000000000000) (hq : 0x40001a00 &&& fq = 0x40001a00)
    (h0 : Fr fm fq fa b) : Fr fm fq fa (b.goodLate p) := by
  refine Fr.step ?_ hm hq h0
  clear h0 hq hm
  unfold Block.goodLate
  repeat' (first
    | (show _ = _; exact rfl)
    | with_reducible exact Fr.refl _ _ _
    | with_reducible assumption
    | with_reducible apply Fr.wr
    | with_reducible apply Block.pwrenOff_fr
    | with_reducible apply Block.seqDone_fr
    | with_reducible apply Block.slotBit_fr
    | with_reducible apply Fr.ite
    | split)

/-- Frame of `prstDelay`. -/
theorem Block.prstDelay_fr {fm fq : Nat} {fa : Block} (b : Block) (p : Nat) (hm : 0x800000000000000000000400000000000000000000000000000000000000020000000000000000000000000000000000000 &&& fm = 0x800000000000000000000400000000000000000000000000000000000000020000000000000000000000000000000000000) (hq : 0x40003a00 &&& fq = 0x40003a00)
    (h0 : Fr fm fq fa b) : Fr fm fq fa (b.prstDelay p) := by
  refine Fr.step ?_ hm hq h0
  clear h0 hq hm
  unfold Block.prstDelay
  repeat' (first
    | (show _ = _; exact rfl)
    | with_reducible exact Fr.refl _ _ _
    | with_reducible assumption
    | with_reducible apply Fr.pinMod
    | with_reducible apply Fr.slMod
    | with_reducible apply Block.seqDone_fr
    | with_reducible apply Fr.ite
    | split
    | dsimp only
    | refine Fr.upd (by (repeat' apply And.intro) <;> first | exact Or.inl rfl | exact Or.inr rfl) ?_)

/-- Frame of `offDelay`. -/
theorem Block.offDelay_fr {fm fq : Nat} {fa : Block} (b : Block) (p : Nat) (hm : 0x0 &&& fm = 0x0) (hq : 0x2800 &&& fq = 0x2800)
    (h0 : Fr fm fq fa b) : Fr fm fq fa (b.offDelay p) := by
  refine Fr.step ?_ hm hq h0
  clear h0 hq hm
  unfold Block.offDelay
  repeat' (first
    | (show _ = _; exact rfl)
    | with_reducible exact Fr.refl _ _ _
    | with_reducible assumption
    | with_reducible apply Fr.slMod
    | with_reducible apply Block.pwrenOff_fr
    | with_reducible apply Fr.ite
    | split
    | dsimp only
    | refine Fr.upd (by (repeat' apply And.intro) <;> first | exact Or.inl rfl | exact Or.inr rfl) ?_)

/-- Frame of `offDone`. -/
theorem Block.offDone_fr {fm fq : Nat} {fa : Block} (b : Block) (p : Nat) (hm : 0x800000000000000000000440000000000000000000000000000000000000020000000000000000000000000000000000000 &&& fm = 0x800000000000000000000440000000000000000000000000000000000000020000000000000000000000000000000000000) (hq : 0x40003240 &&& fq = 0x40003240)
    (h0 : Fr fm fq fa b) : Fr fm fq fa (b.offDone p) := by
  refine Fr.step ?_ hm hq h0
  clear h0 hq hm
  unfold Block.offDone
  repeat' (first
    | (show _ = _; exact rfl)
    | with_reducible exact Fr.refl _ _ _
    | with_reducible assumption
    | with_reducible apply Fr.wr
    | with_reducible apply Fr.slMod
    | with_reducible apply Block.powerOn_fr
    | with_reducible apply Block.seqDone_fr
    | with_reducible apply Fr.ite
    | split
    | dsimp only
    | refine Fr.upd (by (repeat' apply And.intro) <;> first | exact Or.inl rfl | exact Or.inr rfl) ?_)

/-- Frame of `slotGone`. -/
theorem Block.slotGone_fr {fm fq : Nat} {fa : Block} (b : Block) (p : Nat) (lost : Bool) (hm : 0x48000000000000000000000000000000000000000000000000000000000000000000000000000 &&& fm = 0x48000000000000000000000000000000000000000000000000000000000000000000000000000) (hq : 0x2800 &&& fq = 0x2800)
    (h0 : Fr fm fq fa b) : Fr fm fq fa (b.slotGone p lost) := by
  refine Fr.step ?_ hm hq h0
  clear h0 hq hm
  unfold Block.slotGone
  repeat' (first
    | (show _ = _; exact rfl)
    | with_reducible exact Fr.refl _ _ _
    | with_reducible assumption
    | with_reducible apply Fr.wr
    | with_reducible apply Fr.slMod
    | with_reducible apply Block.portRec_fr
    | with_reducible apply Block.pwrenOff_fr
    | with_reducible apply Fr.ite
    | split
    | dsimp only
    | refine Fr.upd (by (repeat' apply And.intro) <;> first | exact Or.inl rfl | exact Or.inr rfl) ?_)

/-- Frame of `insertion`. -/
theorem Block.insertion_fr {fm fq : Nat} {fa : Block} (b : Block) (p : Nat) (hm : 0x8000000000000000000004c0000000080000000000000000000000000000020000000000000000000000000000000000000 &&& fm = 0x8000000000000000000004c0000000080000000000000000000000000000020000000000000000000000000000000000000) (hq : 0x40007a40 &&& fq = 0x40007a40)
    (h0 : Fr fm fq fa b) : Fr fm fq fa (b.insertion p) := by
  refine Fr.step ?_ hm hq h0
  clear h0 hq hm
  unfold Block.insertion
  repeat' (first
    | (show _ = _; exact rfl)
    | with_reducible exact Fr.refl _ _ _
    | with_reducible assumption
    | with_reducible apply Fr.pinMod
    | with_reducible apply Fr.slMod
    | with_reducible apply Block.holdCheck_fr
    | with_reducible apply Block.portRec_fr
    | with_reducible apply Block.powerOn_fr
    | with_reducible apply Block.slotBit_fr
    | with_reducible apply Block.standWake_fr
    | with_reducible apply Fr.ite
    | split
    | dsimp only
    | refine Fr.upd (by (repeat' apply And.intro) <;> first | exact Or.inl rfl | exact Or.inr rfl) ?_)

/-- Frame of `presenceLost`. -/
theorem Block.presenceLost_fr {fm fq : Nat} {fa : Block} (b : Block) (p : Nat) (hm : 0x408000490010208020400000000000000008c80000000801ffe1410186d800004018008000060008000301e00d800000f0000400000080c00 &&& fm = 0x408000490010208020400000000000000008c80000000801ffe1410186d800004018008000060008000301e00d800000f0000400000080c00) (hq : 0x7406c7fc6 &&& fq = 0x7406c7fc6)
    (h0 : Fr fm fq fa b) : Fr fm fq fa (b.presenceLost p) := by
  refine Fr.step ?_ hm hq h0
  clear h0 hq hm
  unfold Block.presenceLost
  repeat' (first
    | (show _ = _; exact rfl)
    | with_reducible exact Fr.refl _ _ _
    | with_reducible assumption
    | with_reducible apply Fr.pinMod
    | with_reducible apply Block.removal_fr
    | with_reducible apply Block.slotBit_fr
    | with_reducible apply Block.slotGone_fr
    | with_reducible apply Block.standWake_fr
    | with_reducible apply Fr.ite
    | split
    | dsimp only
    | refine Fr.upd (by (repeat' apply And.intro) <;> first | exact Or.inl rfl | exact Or.inr rfl) ?_)

/-- Frame of `goodLost`. -/
theorem Block.goodLost_fr {fm fq : Nat} {fa : Block} (b : Block) (p : Nat) (hm : 0x40800049001020802040000000000000000e480000000801ffe1410186d800004018008000060008000301e00d800000f0000400000080c00 &&& fm = 0x40800049001020802040000000000000000e480000000801ffe1410186d800004018008000060008000301e00d800000f0000400000080c00) (hq : 0x7406c7fc6 &&& fq = 0x7406c7fc6)
    (h0 : Fr fm fq fa b) : Fr fm fq fa (b.goodLost p) := by
  refine Fr.step ?_ hm hq h0
  clear h0 hq hm
  unfold Block.goodLost
  repeat' (first
    | (show _ = _; exact rfl)
    | with_reducible exact Fr.refl _ _ _
    | with_reducible assumption
    | with_reducible apply Fr.pinMod
    | with_reducible apply Block.offDone_fr
    | with_reducible apply Block.removal_fr
    | with_reducible apply Block.slotBit_fr
    | with_reducible apply Block.slotGone_fr
    | with_reducible apply Block.standWake_fr
    | with_reducible apply Fr.ite
    | split
    | dsimp only
    | refine Fr.upd (by (repeat' apply And.intro) <;> first | exact Or.inl rfl | exact Or.inr rfl) ?_)

end Sys2Proof.Machine
end

