-- ==== Sys2Proof/Laws/FrStall.lean ====
section
/-! SUPPORT. The frame of every operation of Machine/Stall.lean: the fields and the parts it may change, by bit masks. -/
set_option linter.unusedTactic false
set_option linter.unreachableTactic false
set_option linter.unusedSimpArgs false
set_option linter.unusedVariables false
namespace Sys2Proof.Machine

/-- Fields that a link reset restores have that level. -/
theorem linkKey_lvl {b : Block} {l : Nat} {k : RKey} (h : b.linkKey l k = true) : k.fld.attr.lvl = .link :=
  eq_of_beq (Bool.and_elim_left h)

/-- Fields that a stall-group reset restores. -/
theorem groupUnit {g : Nat} {k : RKey} (h : groupKey g k = true) :
    k.fld.attr.lvl = .stallGroup ∧ k.fld.attr.unit ≠ .fn ∧ k.fld ≠ .gstPerst ∧ k.fld ≠ .gstRefclkOk ∧ k.fld ≠ .gstClkreq := by
  refine ⟨eq_of_beq (Bool.and_elim_left h), ?_⟩
  obtain ⟨f, i, j⟩ := k
  unfold groupKey at h
  cases f <;> simp only [Fld.attr, Bool.and_false, Bool.false_eq_true] at h ⊢ <;> first | exact h.elim | simp_all

/-- Frame of `dlDownFn`. -/
theorem Block.dlDownFn_fr {fm fq : Nat} {fa : Block} (b : Block) (f l : Nat) (keep : PWr → Bool) (hm : 0x20000000000000000000000000000000000000000000000000000000 &&& fm = 0x20000000000000000000000000000000000000000000000000000000) (hq : 0x7400c43c2 &&& fq = 0x7400c43c2)
    (h0 : Fr fm fq fa b) : Fr fm fq fa (b.dlDownFn f l keep) := by
  refine Fr.step ?_ hm hq h0
  clear h0 hq hm
  unfold Block.dlDownFn
  repeat' (first
    | (show _ = _; exact rfl)
    | with_reducible exact Fr.refl _ _ _
    | with_reducible assumption
    | with_reducible apply Fr.lkMod
    | with_reducible apply Fr.fnMod
    | with_reducible apply Fr.each
    | with_reducible apply Block.atsFlush_fr
    | with_reducible apply Block.dropNp_fr
    | with_reducible apply Block.lmAnswer_fr
    | with_reducible apply Block.lmMod_fr
    | with_reducible apply Fr.ite
    | (intro _ _ h)
    | split
    | dsimp only
    | refine Fr.upd (by (repeat' apply And.intro) <;> first | exact Or.inl rfl | exact Or.inr rfl) ?_)

/-- Frame of `linkFnReset`. -/
theorem Block.linkFnReset_fr {fm fq : Nat} {fa : Block} (b : Block) (f l : Nat) (hm : 0xff83ffc9f71effbffff9ff8000000000000f800000000001ffe1400002000000401800800db7fff7f3ffffff9ffffefcffc00180000000000 &&& fm = 0xff83ffc9f71effbffff9ff8000000000000f800000000001ffe1400002000000401800800db7fff7f3ffffff9ffffefcffc00180000000000) (hq : 0x7400c57c6 &&& fq = 0x7400c57c6)
    (h0 : Fr fm fq fa b) : Fr fm fq fa (b.linkFnReset f l) := by
  refine Fr.step ?_ hm hq h0
  clear h0 hq hm
  unfold Block.linkFnReset
  repeat' (first
    | (show _ = _; exact rfl)
    | with_reducible exact Fr.refl _ _ _
    | with_reducible assumption
    | with_reducible apply Fr.fnMod
    | with_reducible apply Block.dlDownFn_fr
    | with_reducible apply Block.fnCut_fr
    | with_reducible apply Block.fnRestore_fr
    | dsimp only
    | refine Fr.upd (by (repeat' apply And.intro) <;> first | exact Or.inl rfl | exact Or.inr rfl) ?_)

/-- Frame of `setReset`. -/
theorem Block.setReset_fr {fm fq : Nat} {fa : Block} (b : Block) (r : FnRec) (l : Nat) (hm : 0xbf83ffc9f71effbffff9ff8000000000000f800000000001ffe1400002000000401800800db7fff7f3fff8001083fefcffc00180000000000 &&& fm = 0xbf83ffc9f71effbffff9ff8000000000000f800000000001ffe1400002000000401800800db7fff7f3fff8001083fefcffc00180000000000) (hq : 0x7400c57c6 &&& fq = 0x7400c57c6)
    (h0 : Fr fm fq fa b) : Fr fm fq fa (b.setReset r l) := by
  refine Fr.step ?_ hm hq h0
  clear h0 hq hm
  unfold Block.setReset
  repeat' (first
    | (show _ = _; exact rfl)
    | with_reducible exact Fr.refl _ _ _
    | with_reducible assumption
    | with_reducible apply Block.flrWrite_fr
    | with_reducible apply Block.unset_fr
    | (intro k hk; simp only [fnKey, Bool.and_eq_true, Bool.or_eq_true, beq_iff_eq] at hk; exact Fr.sub_bit (Fld.fnBit _ (by tauto)) rfl)
    | dsimp only)

/-- Frame of `linkState`. -/
theorem Block.linkState_fr {fm fq : Nat} {fa : Block} (b : Block) (l : Nat) (hm : 0x7c000008e100000000000000000000000000000000000000000000000000140fdfe00000000000000000000000000000000000000000000 &&& fm = 0x7c000008e100000000000000000000000000000000000000000000000000140fdfe00000000000000000000000000000000000000000000) (hq : 0x100 &&& fq = 0x100)
    (h0 : Fr fm fq fa b) : Fr fm fq fa (b.linkState l) := by
  refine Fr.step ?_ hm hq h0
  clear h0 hq hm
  unfold Block.linkState
  repeat' (first
    | (show _ = _; exact rfl)
    | with_reducible exact Fr.refl _ _ _
    | with_reducible assumption
    | with_reducible apply Block.unset_fr
    | (intro k hk; exact Fr.sub_bit (Fld.linkBit _ (linkKey_lvl hk)) rfl)
    | dsimp only
    | refine Fr.upd (by (repeat' apply And.intro) <;> first | exact Or.inl rfl | exact Or.inr rfl) ?_)

/-- Frame of `linkReset`. -/
theorem Block.linkReset_fr {fm fq : Nat} {fa : Block} (b : Block) (l : Nat) (hm : 0xffffffc9ffffffbffff9ff8000000000000f800000000001ffe14000020000144fdfe0800db7fff7f3ffffff9ffffefcffc00180000000000 &&& fm = 0xffffffc9ffffffbffff9ff8000000000000f800000000001ffe14000020000144fdfe0800db7fff7f3ffffff9ffffefcffc00180000000000) (hq : 0x7400c57c6 &&& fq = 0x7400c57c6)
    (h0 : Fr fm fq fa b) : Fr fm fq fa (b.linkReset l) := by
  refine Fr.step ?_ hm hq h0
  clear h0 hq hm
  unfold Block.linkReset
  repeat' (first
    | (show _ = _; exact rfl)
    | with_reducible exact Fr.refl _ _ _
    | with_reducible assumption
    | with_reducible apply Fr.each
    | with_reducible apply Block.dlDownFn_fr
    | with_reducible apply Block.linkFnReset_fr
    | with_reducible apply Block.linkState_fr
    | (intro _ _ h)
    | dsimp only)

/-- Frame of `failQueues`. -/
theorem Block.failQueues_fr {fm fq : Nat} {fa : Block} (b : Block) (f : Nat) (hm : 0x40000000000000800000000000000000000000000000000000000000020000004018008000020000000301e00980000000000000000000000 &&& fm = 0x40000000000000800000000000000000000000000000000000000000020000004018008000020000000301e00980000000000000000000000) (hq : 0x7400057c6 &&& fq = 0x7400057c6)
    (h0 : Fr fm fq fa b) : Fr fm fq fa (b.failQueues f) := by
  refine Fr.step ?_ hm hq h0
  clear h0 hq hm
  unfold Block.failQueues
  repeat' (first
    | (show _ = _; exact rfl)
    | with_reducible exact Fr.refl _ _ _
    | with_reducible assumption
    | with_reducible apply Fr.wr
    | with_reducible apply Fr.quMod
    | with_reducible apply Fr.each
    | with_reducible apply Block.haltQ_fr
    | with_reducible apply Block.indexFetch_fr
    | with_reducible apply Block.qMoveStart_fr
    | with_reducible apply Fr.ite
    | (intro _ _ h)
    | split
    | dsimp only
    | refine Fr.upd (by (repeat' apply And.intro) <;> first | exact Or.inl rfl | exact Or.inr rfl) ?_)

/-- Frame of `failStart`. -/
theorem Block.failStart_fr {fm fq : Nat} {fa : Block} (b : Block) (l : Nat) (hm : 0xffffffc9ffffffbffff9ff8000000000000f800000000001fff14000020000144fdfe0800db7fff7f3fff9e01983fefcffc00180000000000 &&& fm = 0xffffffc9ffffffbffff9ff8000000000000f800000000001fff14000020000144fdfe0800db7fff7f3fff9e01983fefcffc00180000000000) (hq : 0x7400c57c6 &&& fq = 0x7400c57c6)
    (h0 : Fr fm fq fa b) : Fr fm fq fa (b.failStart l) := by
  refine Fr.step ?_ hm hq h0
  clear h0 hq hm
  unfold Block.failStart
  repeat' (first
    | (show _ = _; exact rfl)
    | with_reducible exact Fr.refl _ _ _
    | with_reducible assumption
    | with_reducible apply Fr.wr
    | with_reducible apply Fr.lkMod
    | with_reducible apply Fr.each
    | with_reducible apply Block.dlDownFn_fr
    | with_reducible apply Block.failQueues_fr
    | with_reducible apply Block.fnRec_fr
    | with_reducible apply Block.formJudge_fr
    | with_reducible apply Block.linkState_fr
    | with_reducible apply Block.setReset_fr
    | (intro _ _ h)
    | dsimp only
    | refine Fr.upd (by (repeat' apply And.intro) <;> first | exact Or.inl rfl | exact Or.inr rfl) ?_)

/-- Frame of `standbyLost`. -/
theorem Block.standbyLost_fr {fm fq : Nat} {fa : Block} (b : Block) (l : Nat) (hm : 0xffffffc9ffffffbffff9ff8000000000000f800000000001fff14000020000144fdfe0800db7fff7f3ffffff9ffffefcffc00180000000000 &&& fm = 0xffffffc9ffffffbffff9ff8000000000000f800000000001fff14000020000144fdfe0800db7fff7f3ffffff9ffffefcffc00180000000000) (hq : 0x7400c57c6 &&& fq = 0x7400c57c6)
    (h0 : Fr fm fq fa b) : Fr fm fq fa (b.standbyLost l) := by
  refine Fr.step ?_ hm hq h0
  clear h0 hq hm
  unfold Block.standbyLost
  repeat' (first
    | (show _ = _; exact rfl)
    | with_reducible exact Fr.refl _ _ _
    | with_reducible assumption
    | with_reducible apply Fr.wr
    | with_reducible apply Fr.each
    | with_reducible apply Block.linkReset_fr
    | with_reducible apply Block.setReset_fr
    | (intro _ _ h)
    | split
    | dsimp only)

/-- Frame of `failAgain`. -/
theorem Block.failAgain_fr {fm fq : Nat} {fa : Block} (b : Block) (l : Nat) (hm : 0xbfffffc9ffffffbffff9ff8000000000000f800000000001ffe14000020000144fdfe0800db7fff7f3fff8001083fefcffc00180000000000 &&& fm = 0xbfffffc9ffffffbffff9ff8000000000000f800000000001ffe14000020000144fdfe0800db7fff7f3fff8001083fefcffc00180000000000) (hq : 0x7400c57c6 &&& fq = 0x7400c57c6)
    (h0 : Fr fm fq fa b) : Fr fm fq fa (b.failAgain l) := by
  refine Fr.step ?_ hm hq h0
  clear h0 hq hm
  unfold Block.failAgain
  repeat' (first
    | (show _ = _; exact rfl)
    | with_reducible exact Fr.refl _ _ _
    | with_reducible assumption
    | with_reducible apply Fr.lkMod
    | with_reducible apply Fr.each
    | with_reducible apply Block.dlDownFn_fr
    | with_reducible apply Block.linkState_fr
    | with_reducible apply Block.setReset_fr
    | (intro _ _ h)
    | dsimp only
    | refine Fr.upd (by (repeat' apply And.intro) <;> first | exact Or.inl rfl | exact Or.inr rfl) ?_)

/-- Frame of `clkreqJudge`. -/
theorem Block.clkreqJudge_fr {fm fq : Nat} {fa : Block} (b : Block) (g : Nat) (hm : 0x10008000000000000000000000000000000000000000000 &&& fm = 0x10008000000000000000000000000000000000000000000) (hq : 0x1000 &&& fq = 0x1000)
    (h0 : Fr fm fq fa b) : Fr fm fq fa (b.clkreqJudge g) := by
  refine Fr.step ?_ hm hq h0
  clear h0 hq hm
  unfold Block.clkreqJudge
  repeat' (first
    | (show _ = _; exact rfl)
    | with_reducible exact Fr.refl _ _ _
    | with_reducible assumption
    | with_reducible apply Fr.wr
    | with_reducible apply Fr.grMod
    | with_reducible apply Fr.each
    | with_reducible apply Fr.ite
    | (intro _ _ h)
    | split
    | dsimp only
    | refine Fr.upd (by (repeat' apply And.intro) <;> first | exact Or.inl rfl | exact Or.inr rfl) ?_)

/-- Frame of `linkDown`. -/
theorem Block.linkDown_fr {fm fq : Nat} {fa : Block} (b : Block) (l : Nat) (counted : Bool) (hm : 0xffffffc9ffffffbffff9ff8000000000000f800000000001fff14000020000154fdfe0800db7fff7f3ffffff9ffffefcffc00180000000000 &&& fm = 0xffffffc9ffffffbffff9ff8000000000000f800000000001fff14000020000154fdfe0800db7fff7f3ffffff9ffffefcffc00180000000000) (hq : 0x7400c57c6 &&& fq = 0x7400c57c6)
    (h0 : Fr fm fq fa b) : Fr fm fq fa (b.linkDown l counted) := by
  refine Fr.step ?_ hm hq h0
  clear h0 hq hm
  unfold Block.linkDown
  repeat' (first
    | (show _ = _; exact rfl)
    | with_reducible exact Fr.refl _ _ _
    | with_reducible assumption
    | with_reducible apply Fr.incSat
    | with_reducible apply Block.clkreqJudge_fr
    | with_reducible apply Block.failAgain_fr
    | with_reducible apply Block.failStart_fr
    | with_reducible apply Block.linkReset_fr
    | with_reducible apply Block.standbyLost_fr
    | with_reducible apply Fr.ite
    | split
    | dsimp only)

/-- Frame of `failSwitch`. -/
theorem Block.failSwitch_fr {fm fq : Nat} {fa : Block} (b : Block) (l : Nat) (hm : 0xff83ffc9f71effbffff9ff8000000000000f800000000001fff7400002000000401800800db7fffff3fff9e01d83fefcffc00580000080800 &&& fm = 0xff83ffc9f71effbffff9ff8000000000000f800000000001fff7400002000000401800800db7fffff3fff9e01d83fefcffc00580000080800) (hq : 0x7406c57c6 &&& fq = 0x7406c57c6)
    (h0 : Fr fm fq fa b) : Fr fm fq fa (b.failSwitch l) := by
  refine Fr.step ?_ hm hq h0
  clear h0 hq hm
  unfold Block.failSwitch
  repeat' (first
    | (show _ = _; exact rfl)
    | with_reducible exact Fr.refl _ _ _
    | with_reducible assumption
    | with_reducible apply Fr.wr
    | with_reducible apply Fr.incSat
    | with_reducible apply Fr.lkMod
    | with_reducible apply Fr.each
    | with_reducible apply Block.atsFlush_fr
    | with_reducible apply Block.bmeOff_fr
    | with_reducible apply Block.bmeOn_fr
    | with_reducible apply Block.flrBegin_fr
    | with_reducible apply Block.formJudge_fr
    | with_reducible apply Block.intxLink_fr
    | with_reducible apply Block.logErr_fr
    | with_reducible apply Fr.ite
    | (intro _ _ h)
    | split
    | dsimp only
    | refine Fr.upd (by (repeat' apply And.intro) <;> first | exact Or.inl rfl | exact Or.inr rfl) ?_)

/-- Frame of `stickyReset`. -/
theorem Block.stickyReset_fr {fm fq : Nat} {fa : Block} (b : Block) (g : Nat) (r : FnRec) (hm : 0x7f0000000000000000000000000000000000000001ffe1c000000000000000000000000000000000000000000000000000000000000 &&& fm = 0x7f0000000000000000000000000000000000000001ffe1c000000000000000000000000000000000000000000000000000000000000) (hq : 0x200 &&& fq = 0x200)
    (h0 : Fr fm fq fa b) : Fr fm fq fa (b.stickyReset g r) := by
  refine Fr.step ?_ hm hq h0
  clear h0 hq hm
  unfold Block.stickyReset
  repeat' (first
    | (show _ = _; exact rfl)
    | with_reducible exact Fr.refl _ _ _
    | with_reducible assumption
    | with_reducible apply Fr.fnMod
    | with_reducible apply Block.unset_fr
    | (intro k hk; simp only [stickyKey, Bool.and_eq_true, Bool.or_eq_true, beq_iff_eq] at hk; exact Fr.sub_bit (Fld.stickyBit _ (by tauto)) rfl)
    | with_reducible apply Fr.ite
    | split
    | dsimp only
    | refine Fr.upd (by (repeat' apply And.intro) <;> first | exact Or.inl rfl | exact Or.inr rfl) ?_)

/-- Frame of `clockIn`. -/
theorem Block.clockIn_fr {fm fq : Nat} {fa : Block} (b : Block) (g : Nat) (hm : 0xc0000000000000000000000000000000000000000000 &&& fm = 0xc0000000000000000000000000000000000000000000) (hq : 0x0 &&& fq = 0x0)
    (h0 : Fr fm fq fa b) : Fr fm fq fa (b.clockIn g) := by
  refine Fr.step ?_ hm hq h0
  clear h0 hq hm
  unfold Block.clockIn
  repeat' (first
    | (show _ = _; exact rfl)
    | with_reducible exact Fr.refl _ _ _
    | with_reducible assumption
    | with_reducible apply Fr.wr
    | dsimp only)

/-- Frame of `clkreqPin`. -/
theorem Block.clkreqPin_fr {fm fq : Nat} {fa : Block} (b : Block) (g : Nat) (low : Bool) (hm : 0x8000000000000000000000000000000000000000000 &&& fm = 0x8000000000000000000000000000000000000000000) (hq : 0x1000 &&& fq = 0x1000)
    (h0 : Fr fm fq fa b) : Fr fm fq fa (b.clkreqPin g low) := by
  refine Fr.step ?_ hm hq h0
  clear h0 hq hm
  unfold Block.clkreqPin
  repeat' (first
    | (show _ = _; exact rfl)
    | with_reducible exact Fr.refl _ _ _
    | with_reducible assumption
    | with_reducible apply Fr.wr
    | with_reducible apply Fr.grMod
    | dsimp only
    | refine Fr.upd (by (repeat' apply And.intro) <;> first | exact Or.inl rfl | exact Or.inr rfl) ?_)

/-- Frame of `groupReset`. -/
theorem Block.groupReset_fr {fm fq : Nat} {fa : Block} (b : Block) (g : Nat) (hm : 0xffffffffffffffbffff9ff8000000000000f800000000001fff1c000020000354fffee800db7fff7f3ffffff9ffffefcffc00180000000000 &&& fm = 0xffffffffffffffbffff9ff8000000000000f800000000001fff1c000020000354fffee800db7fff7f3ffffff9ffffefcffc00180000000000) (hq : 0x7404d57c6 &&& fq = 0x7404d57c6)
    (h0 : Fr fm fq fa b) : Fr fm fq fa (b.groupReset g) := by
  refine Fr.step ?_ hm hq h0
  clear h0 hq hm
  unfold Block.groupReset
  repeat' (first
    | (show _ = _; exact rfl)
    | with_reducible exact Fr.refl _ _ _
    | with_reducible assumption
    | with_reducible apply Fr.grMod
    | with_reducible apply Fr.each
    | with_reducible apply Block.clkreqPin_fr
    | with_reducible apply Block.clockIn_fr
    | with_reducible apply Block.linkDown_fr
    | with_reducible apply Block.stickyReset_fr
    | with_reducible apply Block.unset_fr
    | (intro k hk; exact Fr.sub_bit (Fld.groupBit _ (groupUnit hk)) rfl)
    | (intro _ _ h)
    | split
    | dsimp only
    | refine Fr.upd (by (repeat' apply And.intro) <;> first | exact Or.inl rfl | exact Or.inr rfl) ?_)

/-- Frame of `perstOn`. -/
theorem Block.perstOn_fr {fm fq : Nat} {fa : Block} (b : Block) (g : Nat) (hm : 0xffffffffffffffbffff9ff8000000000000f800000000001fff1c000020000354fffeec00db7fff7f3ffffff9ffffefcffc00180000000000 &&& fm = 0xffffffffffffffbffff9ff8000000000000f800000000001fff1c000020000354fffeec00db7fff7f3ffffff9ffffefcffc00180000000000) (hq : 0x7404d57c6 &&& fq = 0x7404d57c6)
    (h0 : Fr fm fq fa b) : Fr fm fq fa (b.perstOn g) := by
  refine Fr.step ?_ hm hq h0
  clear h0 hq hm
  unfold Block.perstOn
  repeat' (first
    | (show _ = _; exact rfl)
    | with_reducible exact Fr.refl _ _ _
    | with_reducible assumption
    | with_reducible apply Fr.wr
    | with_reducible apply Fr.grMod
    | with_reducible apply Block.groupReset_fr
    | dsimp only
    | refine Fr.upd (by (repeat' apply And.intro) <;> first | exact Or.inl rfl | exact Or.inr rfl) ?_)

/-- Frame of `perstOff`. -/
theorem Block.perstOff_fr {fm fq : Nat} {fa : Block} (b : Block) (g : Nat) (hm : 0x8000000000000000000000000c000000000000000000000000000000000000000000 &&& fm = 0x8000000000000000000000000c000000000000000000000000000000000000000000) (hq : 0x5000 &&& fq = 0x5000)
    (h0 : Fr fm fq fa b) : Fr fm fq fa (b.perstOff g) := by
  refine Fr.step ?_ hm hq h0
  clear h0 hq hm
  unfold Block.perstOff
  repeat' (first
    | (show _ = _; exact rfl)
    | with_reducible exact Fr.refl _ _ _
    | with_reducible assumption
    | with_reducible apply Fr.wr
    | with_reducible apply Fr.grMod
    | with_reducible apply Block.clkreqPin_fr
    | with_reducible apply Block.standWake_fr
    | with_reducible apply Fr.ite
    | split
    | dsimp only
    | refine Fr.upd (by (repeat' apply And.intro) <;> first | exact Or.inl rfl | exact Or.inr rfl) ?_)

/-- Frame of `imageLate`. -/
theorem Block.imageLate_fr {fm fq : Nat} {fa : Block} (b : Block) (g : Nat) (hm : 0xffffffc9ffffffbffff9ff8000000000000f800000000001fff14000020000154fdfe0800db7fff7f3ffffff9ffffefcffc00180000000000 &&& fm = 0xffffffc9ffffffbffff9ff8000000000000f800000000001fff14000020000154fdfe0800db7fff7f3ffffff9ffffefcffc00180000000000) (hq : 0x7400c57c6 &&& fq = 0x7400c57c6)
    (h0 : Fr fm fq fa b) : Fr fm fq fa (b.imageLate g) := by
  refine Fr.step ?_ hm hq h0
  clear h0 hq hm
  unfold Block.imageLate
  repeat' (first
    | (show _ = _; exact rfl)
    | with_reducible exact Fr.refl _ _ _
    | with_reducible assumption
    | with_reducible apply Fr.grMod
    | with_reducible apply Fr.each
    | with_reducible apply Block.linkDown_fr
    | with_reducible apply Fr.ite
    | (intro _ _ h)
    | split
    | dsimp only
    | refine Fr.upd (by (repeat' apply And.intro) <;> first | exact Or.inl rfl | exact Or.inr rfl) ?_)

/-- Frame of `equalise`. -/
theorem Block.equalise_fr {fm fq : Nat} {fa : Block} (b : Block) (l : Nat) (q : EqRun) (hm : 0x40f80000000000000000000000000000000000000000000000 &&& fm = 0x40f80000000000000000000000000000000000000000000000) (hq : 0x100 &&& fq = 0x100)
    (h0 : Fr fm fq fa b) : Fr fm fq fa (b.equalise l q) := by
  refine Fr.step ?_ hm hq h0
  clear h0 hq hm
  unfold Block.equalise
  repeat' (first
    | (show _ = _; exact rfl)
    | with_reducible exact Fr.refl _ _ _
    | with_reducible assumption
    | with_reducible apply Fr.wr
    | with_reducible apply Fr.lkMod
    | with_reducible apply Fr.each
    | with_reducible apply Fr.ite
    | (intro _ _ h)
    | split
    | dsimp only
    | refine Fr.upd (by (repeat' apply And.intro) <;> first | exact Or.inl rfl | exact Or.inr rfl) ?_)

/-- Frame of `presetShow`. -/
theorem Block.presetShow_fr {fm fq : Nat} {fa : Block} (b : Block) (l : Nat) (hm : 0x100000000000000000000000000000000000000000000000000 &&& fm = 0x100000000000000000000000000000000000000000000000000) (hq : 0x0 &&& fq = 0x0)
    (h0 : Fr fm fq fa b) : Fr fm fq fa (b.presetShow l) := by
  refine Fr.step ?_ hm hq h0
  clear h0 hq hm
  unfold Block.presetShow
  repeat' (first
    | (show _ = _; exact rfl)
    | with_reducible exact Fr.refl _ _ _
    | with_reducible assumption
    | with_reducible apply Fr.wr
    | with_reducible apply Fr.each
    | (intro _ _ h)
    | dsimp only)

/-- Frame of `fomSee`. -/
theorem Block.fomSee_fr {fm fq : Nat} {fa : Block} (b : Block) (l : Nat) (eyes : List (List Eye)) (hm : 0x40000000000000000000000000000000000000000000000000 &&& fm = 0x40000000000000000000000000000000000000000000000000) (hq : 0x0 &&& fq = 0x0)
    (h0 : Fr fm fq fa b) : Fr fm fq fa (b.fomSee l eyes) := by
  refine Fr.step ?_ hm hq h0
  clear h0 hq hm
  unfold Block.fomSee
  repeat' (first
    | (show _ = _; exact rfl)
    | with_reducible exact Fr.refl _ _ _
    | with_reducible assumption
    | with_reducible apply Fr.wr
    | with_reducible apply Fr.each
    | with_reducible apply Fr.ite
    | (intro _ _ h)
    | split
    | dsimp only)

/-- Frame of `linkSee`. -/
theorem Block.linkSee_fr {fm fq : Nat} {fa : Block} (b : Block) (l : Nat) (o : LinkObs) (hm : 0x43000000000000000000000000000000000000000000000000 &&& fm = 0x43000000000000000000000000000000000000000000000000) (hq : 0x0 &&& fq = 0x0)
    (h0 : Fr fm fq fa b) : Fr fm fq fa (b.linkSee l o) := by
  refine Fr.step ?_ hm hq h0
  clear h0 hq hm
  unfold Block.linkSee
  repeat' (first
    | (show _ = _; exact rfl)
    | with_reducible exact Fr.refl _ _ _
    | with_reducible assumption
    | with_reducible apply Fr.wr
    | with_reducible apply Block.fomSee_fr
    | with_reducible apply Fr.ite
    | split
    | dsimp only)

/-- Frame of `linkUp`. -/
theorem Block.linkUp_fr {fm fq : Nat} {fa : Block} (b : Block) (l : Nat) (u : LinkUp) (hm : 0x100000000000140fcfe00000000000000000000000000000000000000000000 &&& fm = 0x100000000000140fcfe00000000000000000000000000000000000000000000) (hq : 0x40401300 &&& fq = 0x40401300)
    (h0 : Fr fm fq fa b) : Fr fm fq fa (b.linkUp l u) := by
  refine Fr.step ?_ hm hq h0
  clear h0 hq hm
  unfold Block.linkUp
  repeat' (first
    | (show _ = _; exact rfl)
    | with_reducible exact Fr.refl _ _ _
    | with_reducible assumption
    | with_reducible apply Fr.wr
    | with_reducible apply Fr.lkMod
    | with_reducible apply Fr.fnMod
    | with_reducible apply Fr.grMod
    | with_reducible apply Fr.emit
    | with_reducible apply Fr.each
    | with_reducible apply Block.equalise_fr
    | with_reducible apply Block.frsTry_fr
    | with_reducible apply Block.intxLink_fr
    | with_reducible apply Block.ltrSend_fr
    | with_reducible apply Block.presetShow_fr
    | with_reducible apply Block.pumpPosted_fr
    | with_reducible apply Fr.ite
    | (intro _ _ h)
    | split
    | dsimp only
    | refine Fr.upd (by (repeat' apply And.intro) <;> first | exact Or.inl rfl | exact Or.inr rfl) ?_)

/-- Frame of `enterRec`. -/
theorem Block.enterRec_fr {fm fq : Nat} {fa : Block} (b : Block) (l : Nat) (hm : 0x4018000000000000000000000000000000000000000000000 &&& fm = 0x4018000000000000000000000000000000000000000000000) (hq : 0x100 &&& fq = 0x100)
    (h0 : Fr fm fq fa b) : Fr fm fq fa (b.enterRec l) := by
  refine Fr.step ?_ hm hq h0
  clear h0 hq hm
  unfold Block.enterRec
  repeat' (first
    | (show _ = _; exact rfl)
    | with_reducible exact Fr.refl _ _ _
    | with_reducible assumption
    | with_reducible apply Fr.wr
    | with_reducible apply Fr.lkMod
    | with_reducible apply Block.recovery_fr
    | with_reducible apply Fr.ite
    | split
    | dsimp only
    | refine Fr.upd (by (repeat' apply And.intro) <;> first | exact Or.inl rfl | exact Or.inr rfl) ?_)

/-- Frame of `linkGo`. -/
theorem Block.linkGo_fr {fm fq : Nat} {fa : Block} (b : Block) (l : Nat) (hm : 0x4018008000000000000000000000000000000000000000000 &&& fm = 0x4018008000000000000000000000000000000000000000000) (hq : 0x40005302 &&& fq = 0x40005302)
    (h0 : Fr fm fq fa b) : Fr fm fq fa (b.linkGo l) := by
  refine Fr.step ?_ hm hq h0
  clear h0 hq hm
  unfold Block.linkGo
  repeat' (first
    | (show _ = _; exact rfl)
    | with_reducible exact Fr.refl _ _ _
    | with_reducible assumption
    | with_reducible apply Fr.each
    | with_reducible apply Block.intxLink_fr
    | with_reducible apply Block.pumpNp_fr
    | with_reducible apply Block.pumpPosted_fr
    | (intro _ _ h)
    | dsimp only)

/-- Frame of `backToL0`. -/
theorem Block.backToL0_fr {fm fq : Nat} {fa : Block} (b : Block) (l rate : Nat) (eqs : List EqRun) (hm : 0x144f9f808000000000000000000000000000000000000000000 &&& fm = 0x144f9f808000000000000000000000000000000000000000000) (hq : 0x40005302 &&& fq = 0x40005302)
    (h0 : Fr fm fq fa b) : Fr fm fq fa (b.backToL0 l rate eqs) := by
  refine Fr.step ?_ hm hq h0
  clear h0 hq hm
  unfold Block.backToL0
  repeat' (first
    | (show _ = _; exact rfl)
    | with_reducible exact Fr.refl _ _ _
    | with_reducible assumption
    | with_reducible apply Fr.wr
    | with_reducible apply Fr.lkMod
    | with_reducible apply Fr.each
    | with_reducible apply Block.equalise_fr
    | with_reducible apply Block.linkGo_fr
    | with_reducible apply Block.presetShow_fr
    | with_reducible apply Fr.ite
    | (intro _ _ h)
    | split
    | dsimp only
    | refine Fr.upd (by (repeat' apply And.intro) <;> first | exact Or.inl rfl | exact Or.inr rfl) ?_)

/-- Frame of `l0pAsk`. -/
theorem Block.l0pAsk_fr {fm fq : Nat} {fa : Block} (b : Block) (l w why : Nat) (hm : 0x0 &&& fm = 0x0) (hq : 0x40000100 &&& fq = 0x40000100)
    (h0 : Fr fm fq fa b) : Fr fm fq fa (b.l0pAsk l w why) := by
  refine Fr.step ?_ hm hq h0
  clear h0 hq hm
  unfold Block.l0pAsk
  repeat' (first
    | (show _ = _; exact rfl)
    | with_reducible exact Fr.refl _ _ _
    | with_reducible assumption
    | with_reducible apply Fr.lkMod
    | with_reducible apply Fr.emit
    | dsimp only
    | refine Fr.upd (by (repeat' apply And.intro) <;> first | exact Or.inl rfl | exact Or.inr rfl) ?_)

/-- Frame of `chooseWidth`. -/
theorem Block.chooseWidth_fr {fm fq : Nat} {fa : Block} (b : Block) (l : Nat) (hm : 0xffffffc9ffffffbffff9ff8000000000000f800000000001fff14000020000154fdfe0800db7fff7f3ffffff9ffffefcffc00180000000000 &&& fm = 0xffffffc9ffffffbffff9ff8000000000000f800000000001fff14000020000154fdfe0800db7fff7f3ffffff9ffffefcffc00180000000000) (hq : 0x7400c57c6 &&& fq = 0x7400c57c6)
    (h0 : Fr fm fq fa b) : Fr fm fq fa (b.chooseWidth l) := by
  refine Fr.step ?_ hm hq h0
  clear h0 hq hm
  unfold Block.chooseWidth
  repeat' (first
    | (show _ = _; exact rfl)
    | with_reducible exact Fr.refl _ _ _
    | with_reducible assumption
    | with_reducible apply Fr.lkMod
    | with_reducible apply Block.enterRec_fr
    | with_reducible apply Block.l0pAsk_fr
    | with_reducible apply Block.linkDown_fr
    | with_reducible apply Fr.ite
    | split
    | dsimp only
    | refine Fr.upd (by (repeat' apply And.intro) <;> first | exact Or.inl rfl | exact Or.inr rfl) ?_)

/-- Frame of `slaneMark`. -/
theorem Block.slaneMark_fr {fm fq : Nat} {fa : Block} (b : Block) (i : Nat) (hm : 0x2000000000220020000000000000000000000000000000000000000000000 &&& fm = 0x2000000000220020000000000000000000000000000000000000000000000) (hq : 0x100 &&& fq = 0x100)
    (h0 : Fr fm fq fa b) : Fr fm fq fa (b.slaneMark i) := by
  refine Fr.step ?_ hm hq h0
  clear h0 hq hm
  unfold Block.slaneMark
  repeat' (first
    | (show _ = _; exact rfl)
    | with_reducible exact Fr.refl _ _ _
    | with_reducible assumption
    | with_reducible apply Fr.wr
    | with_reducible apply Fr.incSat
    | with_reducible apply Fr.setBits
    | with_reducible apply Fr.lkMod
    | with_reducible apply Fr.ite
    | split
    | dsimp only
    | refine Fr.upd (by (repeat' apply And.intro) <;> first | exact Or.inl rfl | exact Or.inr rfl) ?_)

/-- Frame of `slanesLost`. -/
theorem Block.slanesLost_fr {fm fq : Nat} {fa : Block} (b : Block) (is : List Nat) (hm : 0xffffffc9ffffffbffff9ff8000000000000f800000000001fff16000020000374fffe0800db7fff7f3ffffff9ffffefcffc00180000000000 &&& fm = 0xffffffc9ffffffbffff9ff8000000000000f800000000001fff16000020000374fffe0800db7fff7f3ffffff9ffffefcffc00180000000000) (hq : 0x7400c57c6 &&& fq = 0x7400c57c6)
    (h0 : Fr fm fq fa b) : Fr fm fq fa (b.slanesLost is) := by
  refine Fr.step ?_ hm hq h0
  clear h0 hq hm
  unfold Block.slanesLost
  repeat' (first
    | (show _ = _; exact rfl)
    | with_reducible exact Fr.refl _ _ _
    | with_reducible assumption
    | with_reducible apply Fr.each
    | with_reducible apply Block.chooseWidth_fr
    | with_reducible apply Block.slaneMark_fr
    | (intro _ _ h)
    | dsimp only)

/-- Frame of `slaneStum`. -/
theorem Block.slaneStum_fr {fm fq : Nat} {fa : Block} (b : Block) (i : SLaneIx) (hm : 0x80000000000000000000000000000000000000000000000000 &&& fm = 0x80000000000000000000000000000000000000000000000000) (hq : 0x10000 &&& fq = 0x10000)
    (h0 : Fr fm fq fa b) : Fr fm fq fa (b.slaneStum i).1 := by
  refine Fr.step ?_ hm hq h0
  have h1 := Fr.incSat (m := 0x80000000000000000000000000000000000000000000000000) (q := 0x10000) (f := .slaneErrs) (i := i.val) (j := 0) rfl (Fr.refl _ _ b)
  unfold Block.slaneStum
  dsimp only
  split
  · exact h1
  · exact Block.stumCount_fr _ _ rfl h1

/-- Frame of the stumbles of some lanes, one after another. -/
theorem Block.slaneFold_fr {fm fq : Nat} {fa : Block} (is : List SLaneIx) (hm : 0x80000000000000000000000000000000000000000000000000 &&& fm = 0x80000000000000000000000000000000000000000000000000) (hq : 0x10000 &&& fq = 0x10000) :
    ∀ x : Block × List Nat, Fr fm fq fa x.1 → Fr fm fq fa (is.foldl (fun (x : Block × List Nat) i =>
      ((x.1.slaneStum i).1, if (x.1.slaneStum i).2 then x.2 ++ [i.val] else x.2)) x).1 := by
  induction is with
  | nil => exact fun _ h => h
  | cons i t ih => exact fun x h => ih _ (Block.slaneStum_fr x.1 i hm hq h)

/-- Frame of `slaneStums`. -/
theorem Block.slaneStums_fr {fm fq : Nat} {fa : Block} (b : Block) (is : List SLaneIx) (hm : 0xffffffc9ffffffbffff9ff8000000000000f800000000001fff160000200003f4fffe0800db7fff7f3ffffff9ffffefcffc00180000000000 &&& fm = 0xffffffc9ffffffbffff9ff8000000000000f800000000001fff160000200003f4fffe0800db7fff7f3ffffff9ffffefcffc00180000000000) (hq : 0x7400d57c6 &&& fq = 0x7400d57c6)
    (h0 : Fr fm fq fa b) : Fr fm fq fa (b.slaneStums is) := by
  refine Fr.step ?_ hm hq h0
  exact Block.slanesLost_fr _ _ rfl rfl (Block.slaneFold_fr is rfl rfl (b, []) (Fr.refl _ _ _))

/-- Frame of `l0pSet`. -/
theorem Block.l0pSet_fr {fm fq : Nat} {fa : Block} (b : Block) (l w : Nat) (hm : 0x8002000000000000000000000000000000000000000000000 &&& fm = 0x8002000000000000000000000000000000000000000000000) (hq : 0x100 &&& fq = 0x100)
    (h0 : Fr fm fq fa b) : Fr fm fq fa (b.l0pSet l w) := by
  refine Fr.step ?_ hm hq h0
  clear h0 hq hm
  unfold Block.l0pSet
  repeat' (first
    | (show _ = _; exact rfl)
    | with_reducible exact Fr.refl _ _ _
    | with_reducible assumption
    | with_reducible apply Fr.wr
    | with_reducible apply Fr.incSat
    | with_reducible apply Fr.lkMod
    | dsimp only
    | refine Fr.upd (by (repeat' apply And.intro) <;> first | exact Or.inl rfl | exact Or.inr rfl) ?_)

/-- Frame of `l0pWiden`. -/
theorem Block.l0pWiden_fr {fm fq : Nat} {fa : Block} (b : Block) (l : Nat) (hm : 0x0 &&& fm = 0x0) (hq : 0x40004100 &&& fq = 0x40004100)
    (h0 : Fr fm fq fa b) : Fr fm fq fa (b.l0pWiden l) := by
  refine Fr.step ?_ hm hq h0
  clear h0 hq hm
  unfold Block.l0pWiden
  repeat' (first
    | (show _ = _; exact rfl)
    | with_reducible exact Fr.refl _ _ _
    | with_reducible assumption
    | with_reducible apply Fr.lkMod
    | with_reducible apply Block.holdBack_fr
    | with_reducible apply Block.l0pAsk_fr
    | with_reducible apply Fr.ite
    | split
    | dsimp only
    | refine Fr.upd (by (repeat' apply And.intro) <;> first | exact Or.inl rfl | exact Or.inr rfl) ?_)

/-- Frame of `l0pTaken`. -/
theorem Block.l0pTaken_fr {fm fq : Nat} {fa : Block} (b : Block) (l : Nat) (hm : 0xffffffc9ffffffbffff9ff8000000000000f800000000001fff1400002000015cfdfe0800db7fff7f3ffffff9ffffefcffc00180000000000 &&& fm = 0xffffffc9ffffffbffff9ff8000000000000f800000000001fff1400002000015cfdfe0800db7fff7f3ffffff9ffffefcffc00180000000000) (hq : 0x7400c57c6 &&& fq = 0x7400c57c6)
    (h0 : Fr fm fq fa b) : Fr fm fq fa (b.l0pTaken l) := by
  refine Fr.step ?_ hm hq h0
  clear h0 hq hm
  unfold Block.l0pTaken
  repeat' (first
    | (show _ = _; exact rfl)
    | with_reducible exact Fr.refl _ _ _
    | with_reducible assumption
    | with_reducible apply Fr.lkMod
    | with_reducible apply Block.chooseWidth_fr
    | with_reducible apply Block.l0pAsk_fr
    | with_reducible apply Block.l0pSet_fr
    | with_reducible apply Block.l0pWiden_fr
    | with_reducible apply Fr.ite
    | split
    | dsimp only
    | refine Fr.upd (by (repeat' apply And.intro) <;> first | exact Or.inl rfl | exact Or.inr rfl) ?_)

/-- Frame of `l0pPartner`. -/
theorem Block.l0pPartner_fr {fm fq : Nat} {fa : Block} (b : Block) (l w : Nat) (hm : 0x8002000000000000000000000000000000000000000000000 &&& fm = 0x8002000000000000000000000000000000000000000000000) (hq : 0x40000100 &&& fq = 0x40000100)
    (h0 : Fr fm fq fa b) : Fr fm fq fa (b.l0pPartner l w) := by
  refine Fr.step ?_ hm hq h0
  clear h0 hq hm
  unfold Block.l0pPartner
  repeat' (first
    | (show _ = _; exact rfl)
    | with_reducible exact Fr.refl _ _ _
    | with_reducible assumption
    | with_reducible apply Fr.emit
    | with_reducible apply Block.l0pSet_fr
    | with_reducible apply Fr.ite
    | split)

/-- Frame of `l0pInterval`. -/
theorem Block.l0pInterval_fr {fm fq : Nat} {fa : Block} (b : Block) (l tx rx : Nat) (waited : Bool) (hm : 0x0 &&& fm = 0x0) (hq : 0x40004100 &&& fq = 0x40004100)
    (h0 : Fr fm fq fa b) : Fr fm fq fa (b.l0pInterval l tx rx waited) := by
  refine Fr.step ?_ hm hq h0
  clear h0 hq hm
  unfold Block.l0pInterval
  repeat' (first
    | (show _ = _; exact rfl)
    | with_reducible exact Fr.refl _ _ _
    | with_reducible assumption
    | with_reducible apply Fr.lkMod
    | with_reducible apply Block.l0pAsk_fr
    | with_reducible apply Block.l0pWiden_fr
    | with_reducible apply Fr.ite
    | split
    | dsimp only
    | refine Fr.upd (by (repeat' apply And.intro) <;> first | exact Or.inl rfl | exact Or.inr rfl) ?_)

/-- Frame of `l1Ask`. -/
theorem Block.l1Ask_fr {fm fq : Nat} {fa : Block} (b : Block) (l : Nat) (hm : 0x10008000000000000000000000000000000000000000000 &&& fm = 0x10008000000000000000000000000000000000000000000) (hq : 0x1100 &&& fq = 0x1100)
    (h0 : Fr fm fq fa b) : Fr fm fq fa (b.l1Ask l) := by
  refine Fr.step ?_ hm hq h0
  clear h0 hq hm
  unfold Block.l1Ask
  repeat' (first
    | (show _ = _; exact rfl)
    | with_reducible exact Fr.refl _ _ _
    | with_reducible assumption
    | with_reducible apply Fr.lkMod
    | with_reducible apply Block.clkreqJudge_fr
    | dsimp only
    | refine Fr.upd (by (repeat' apply And.intro) <;> first | exact Or.inl rfl | exact Or.inr rfl) ?_)

/-- Frame of `aspmIdle`. -/
theorem Block.aspmIdle_fr {fm fq : Nat} {fa : Block} (b : Block) (l : Nat) (hm : 0x18008000000000000000000000000000000000000000000 &&& fm = 0x18008000000000000000000000000000000000000000000) (hq : 0x40001100 &&& fq = 0x40001100)
    (h0 : Fr fm fq fa b) : Fr fm fq fa (b.aspmIdle l) := by
  refine Fr.step ?_ hm hq h0
  clear h0 hq hm
  unfold Block.aspmIdle
  repeat' (first
    | (show _ = _; exact rfl)
    | with_reducible exact Fr.refl _ _ _
    | with_reducible assumption
    | with_reducible apply Fr.wr
    | with_reducible apply Fr.emit
    | with_reducible apply Block.l1Ask_fr
    | with_reducible apply Fr.ite
    | split
    | dsimp only)

/-- Frame of `clkreqIn`. -/
theorem Block.clkreqIn_fr {fm fq : Nat} {fa : Block} (b : Block) (g : Nat) (hm : 0x10008000000000000000000000000000000000000000000 &&& fm = 0x10008000000000000000000000000000000000000000000) (hq : 0x100 &&& fq = 0x100)
    (h0 : Fr fm fq fa b) : Fr fm fq fa (b.clkreqIn g) := by
  refine Fr.step ?_ hm hq h0
  clear h0 hq hm
  unfold Block.clkreqIn
  repeat' (first
    | (show _ = _; exact rfl)
    | with_reducible exact Fr.refl _ _ _
    | with_reducible assumption
    | with_reducible apply Fr.lkMod
    | with_reducible apply Fr.each
    | with_reducible apply Block.clkreqOn_fr
    | (intro _ _ h)
    | dsimp only
    | refine Fr.upd (by (repeat' apply And.intro) <;> first | exact Or.inl rfl | exact Or.inr rfl) ?_)

/-- Frame of `pmeOff`. -/
theorem Block.pmeOff_fr {fm fq : Nat} {fa : Block} (b : Block) (l : Nat) (hm : 0x18208000000000000000000000000000000000000000000 &&& fm = 0x18208000000000000000000000000000000000000000000) (hq : 0x40001000 &&& fq = 0x40001000)
    (h0 : Fr fm fq fa b) : Fr fm fq fa (b.pmeOff l) := by
  refine Fr.step ?_ hm hq h0
  clear h0 hq hm
  unfold Block.pmeOff
  repeat' (first
    | (show _ = _; exact rfl)
    | with_reducible exact Fr.refl _ _ _
    | with_reducible assumption
    | with_reducible apply Fr.wr
    | with_reducible apply Fr.emit
    | with_reducible apply Block.clkreqJudge_fr
    | with_reducible apply Fr.ite
    | split
    | dsimp only)

/-- Frame of `marginCmd`. -/
theorem Block.marginCmd_fr {fm fq : Nat} {fa : Block} (b : Block) (l lane ty payload : Nat) (hm : 0x0 &&& fm = 0x0) (hq : 0x40000102 &&& fq = 0x40000102)
    (h0 : Fr fm fq fa b) : Fr fm fq fa (b.marginCmd l lane ty payload) := by
  refine Fr.step ?_ hm hq h0
  clear h0 hq hm
  unfold Block.marginCmd
  repeat' (first
    | (show _ = _; exact rfl)
    | with_reducible exact Fr.refl _ _ _
    | with_reducible assumption
    | with_reducible apply Fr.lkMod
    | with_reducible apply Fr.emit
    | with_reducible apply Fr.ite
    | split
    | dsimp only
    | refine Fr.upd (by (repeat' apply And.intro) <;> first | exact Or.inl rfl | exact Or.inr rfl) ?_)

/-- Frame of `streamCut`. -/
theorem Block.streamCut_fr {fm fq : Nat} {fa : Block} (b : Block) (f : Nat) (hm : 0x400000490010208020400000000000000000000000000001ffe14000020000004018008000060000000301e00180000000000000000000000 &&& fm = 0x400000490010208020400000000000000000000000000001ffe14000020000004018008000060000000301e00180000000000000000000000) (hq : 0x7400857c6 &&& fq = 0x7400857c6)
    (h0 : Fr fm fq fa b) : Fr fm fq fa (b.streamCut f) := by
  refine Fr.step ?_ hm hq h0
  clear h0 hq hm
  unfold Block.streamCut
  repeat' (first
    | (show _ = _; exact rfl)
    | with_reducible exact Fr.refl _ _ _
    | with_reducible assumption
    | with_reducible apply Fr.lkMod
    | with_reducible apply Fr.each
    | with_reducible apply Block.dropNp_fr
    | with_reducible apply Block.haltQ_fr
    | with_reducible apply Block.irqHold_fr
    | with_reducible apply Block.lmAnswer_fr
    | with_reducible apply Block.lmFail_fr
    | with_reducible apply Block.lmMod_fr
    | with_reducible apply Block.lmPumpAll_fr
    | with_reducible apply Block.qDropWaiting_fr
    | with_reducible apply Fr.ite
    | (intro _ _ h)
    | split
    | dsimp only
    | refine Fr.upd (by (repeat' apply And.intro) <;> first | exact Or.inl rfl | exact Or.inr rfl) ?_)

/-- Frame of `ideFail`. -/
theorem Block.ideFail_fr {fm fq : Nat} {fa : Block} (b : Block) (l id : Nat) (hm : 0x408000490010208020400000000000000000000000000001ffe14000020000004018008000060008000301e00d800000f0000400000080800 &&& fm = 0x408000490010208020400000000000000000000000000001ffe14000020000004018008000060008000301e00d800000f0000400000080800) (hq : 0x7406c57c6 &&& fq = 0x7406c57c6)
    (h0 : Fr fm fq fa b) : Fr fm fq fa (b.ideFail l id) := by
  refine Fr.step ?_ hm hq h0
  clear h0 hq hm
  unfold Block.ideFail
  repeat' (first
    | (show _ = _; exact rfl)
    | with_reducible exact Fr.refl _ _ _
    | with_reducible assumption
    | with_reducible apply Fr.lkMod
    | with_reducible apply Fr.each
    | with_reducible apply Block.logErr_fr
    | with_reducible apply Block.streamCut_fr
    | with_reducible apply Block.tdiErr_fr
    | with_reducible apply Fr.ite
    | (intro _ _ h)
    | split
    | dsimp only
    | refine Fr.upd (by (repeat' apply And.intro) <;> first | exact Or.inl rfl | exact Or.inr rfl) ?_)

/-- Frame of `refLoss`. -/
theorem Block.refLoss_fr {fm fq : Nat} {fa : Block} (b : Block) (d : Nat) (hm : 0xffffffc9ffffffbffff9ff8000000000000f800000000001fff14000020000154fdfe9800db7fff7f3ffffff9ffffefcffc00180000000000 &&& fm = 0xffffffc9ffffffbffff9ff8000000000000f800000000001fff14000020000154fdfe9800db7fff7f3ffffff9ffffefcffc00180000000000) (hq : 0x7400c57c6 &&& fq = 0x7400c57c6)
    (h0 : Fr fm fq fa b) : Fr fm fq fa (b.refLoss d) := by
  refine Fr.step ?_ hm hq h0
  clear h0 hq hm
  unfold Block.refLoss
  repeat' (first
    | (show _ = _; exact rfl)
    | with_reducible exact Fr.refl _ _ _
    | with_reducible assumption
    | with_reducible apply Fr.wr
    | with_reducible apply Fr.each
    | with_reducible apply Block.enterRec_fr
    | with_reducible apply Block.linkDown_fr
    | with_reducible apply Fr.ite
    | (intro _ _ h)
    | split
    | dsimp only)

/-- Frame of `refBack`. -/
theorem Block.refBack_fr {fm fq : Nat} {fa : Block} (b : Block) (d : Nat) (hm : 0x10000000000000000000000000000000000000000000 &&& fm = 0x10000000000000000000000000000000000000000000) (hq : 0x0 &&& fq = 0x0)
    (h0 : Fr fm fq fa b) : Fr fm fq fa (b.refBack d) := by
  refine Fr.step ?_ hm hq h0
  clear h0 hq hm
  unfold Block.refBack
  repeat' (first
    | (show _ = _; exact rfl)
    | with_reducible exact Fr.refl _ _ _
    | with_reducible assumption
    | with_reducible apply Fr.wr
    | with_reducible apply Fr.each
    | (intro _ _ h)
    | dsimp only)

end Sys2Proof.Machine
end

