-- ==== Sys2Proof/Laws/FrConfigSpace.lean ====
section
/-! SUPPORT. The frame of every operation of Machine/ConfigSpace.lean: the fields and the parts it may change, by bit masks. -/
set_option linter.unusedTactic false
set_option linter.unreachableTactic false
set_option linter.unusedSimpArgs false
set_option linter.unusedVariables false
namespace Sys2Proof.Machine

/-- Frame of `vfBarW`. -/
theorem Block.vfBarW_fr {fm fq : Nat} {fa : Block} (b : Block) (f j : Nat) (fld : Fld) (v n : Nat)
    (hf : fm.testBit (Fld.ctorIdx fld) = true) (hm : 0x408000490010208020400000000000000000000000000001ffe14000020000004018008000060008000301e00d800000f0000400000080800 &&& fm = 0x408000490010208020400000000000000000000000000001ffe14000020000004018008000060008000301e00d800000f0000400000080800) (hq : 0x7406c57c6 &&& fq = 0x7406c57c6) (h0 : Fr fm fq fa b) :
    Fr fm fq fa (b.vfBarW f j fld v n) :=
  Fr.each (fun b x h => Block.tdiErr_fr _ _ hm hq h) (Fr.wr hf h0)

/-- Frame of `cfgFldW`. -/
theorem Block.cfgFldW_fr {fm fq : Nat} {fa : Block} (b : Block) (l : Nat) (r : FnRec) (fld : Fld) (v : Nat) (hm : 0xfffffffffffffffffff9ff8807800002000f8c00300087ffffe1d8000207cfc0401800bffdb7fffff3fff9e09d83fefcffc0058000008083f &&& fm = 0xfffffffffffffffffff9ff8807800002000f8c00300087ffffe1d8000207cfc0401800bffdb7fffff3fff9e09d83fefcffc0058000008083f) (hq : 0x7406c57c6 &&& fq = 0x7406c57c6)
    (h0 : Fr fm fq fa b) : Fr fm fq fa (b.cfgFldW l r fld v) := by
  refine Fr.step ?_ hm hq h0
  clear h0 hq hm
  unfold Block.cfgFldW
  repeat' (first
    | (show _ = _; exact rfl)
    | with_reducible exact Fr.refl _ _ _
    | with_reducible assumption
    | with_reducible apply Fr.wr
    | with_reducible apply Fr.clrBits
    | with_reducible apply Block.atsWrite_fr
    | with_reducible apply Block.barWrite_fr
    | with_reducible apply Block.bmeWrite_fr
    | with_reducible apply Block.formWrite_fr
    | with_reducible apply Block.intDisWrite_fr
    | with_reducible apply Block.ltrEnable_fr
    | with_reducible apply Block.numVfsWrite_fr
    | with_reducible apply Block.pendFlush_fr
    | with_reducible apply Block.pmWrite_fr
    | with_reducible apply Block.tdiErr_fr
    | with_reducible apply Block.vfBarW_fr
    | with_reducible apply Block.vfEnableWrite_fr
    | with_reducible apply Block.fldWriteAny_fr
    | with_reducible apply Fr.ite
    | split
    | dsimp only)

/-- Frame of `ideWrite`. -/
theorem Block.ideWrite_fr {fm fq : Nat} {fa : Block} (b : Block) (l j v : Nat) (hm : 0x409000490010208020400000000000000000000000000001ffe14000020000004018008000060008000301e00d800000f0000400000080800 &&& fm = 0x409000490010208020400000000000000000000000000001ffe14000020000004018008000060008000301e00d800000f0000400000080800) (hq : 0x7406c57c6 &&& fq = 0x7406c57c6)
    (h0 : Fr fm fq fa b) : Fr fm fq fa (b.ideWrite l j v) := by
  refine Fr.step ?_ hm hq h0
  clear h0 hq hm
  unfold Block.ideWrite
  repeat' (first
    | (show _ = _; exact rfl)
    | with_reducible exact Fr.refl _ _ _
    | with_reducible assumption
    | with_reducible apply Fr.wr
    | with_reducible apply Fr.lkMod
    | with_reducible apply Fr.each
    | with_reducible apply Block.ideFail_fr
    | with_reducible apply Block.secureJudge_fr
    | with_reducible apply Block.tdiErr_fr
    | with_reducible apply Fr.ite
    | (intro _ _ h)
    | split
    | dsimp only
    | refine Fr.upd (by (repeat' apply And.intro) <;> first | exact Or.inl rfl | exact Or.inr rfl) ?_)

/-- Frame of `doeWrite`. -/
theorem Block.doeWrite_fr {fm fq : Nat} {fa : Block} (b : Block) (f o v : Nat) (hm : 0x0 &&& fm = 0x0) (hq : 0x4000200 &&& fq = 0x4000200)
    (h0 : Fr fm fq fa b) : Fr fm fq fa (b.doeWrite f o v) := by
  refine Fr.step ?_ hm hq h0
  clear h0 hq hm
  unfold Block.doeWrite
  repeat' (first
    | (show _ = _; exact rfl)
    | with_reducible exact Fr.refl _ _ _
    | with_reducible assumption
    | with_reducible apply Fr.fnMod
    | with_reducible apply Fr.ite
    | split
    | dsimp only
    | refine Fr.upd (by (repeat' apply And.intro) <;> first | exact Or.inl rfl | exact Or.inr rfl) ?_)

/-- Frame of `cfgWrite`. -/
theorem Block.cfgWrite_fr {fm fq : Nat} {fa : Block} (b : Block) (l : Nat) (r : FnRec) (off en v : Nat) (hm : 0xfffffffffffffffffff9ff8807800002000f8c00300087ffffe1d8000207cfc0401800bffdb7fffff3fff9e09d83fefcffc0058000008083f &&& fm = 0xfffffffffffffffffff9ff8807800002000f8c00300087ffffe1d8000207cfc0401800bffdb7fffff3fff9e09d83fefcffc0058000008083f) (hq : 0x7446c57c6 &&& fq = 0x7446c57c6)
    (h0 : Fr fm fq fa b) : Fr fm fq fa (b.cfgWrite l r off en v) := by
  refine Fr.step ?_ hm hq h0
  clear h0 hq hm
  unfold Block.cfgWrite
  repeat' (first
    | (show _ = _; exact rfl)
    | with_reducible exact Fr.refl _ _ _
    | with_reducible assumption
    | with_reducible apply Fr.each
    | with_reducible apply Block.cfgFldW_fr
    | with_reducible apply Block.doeWrite_fr
    | with_reducible apply Block.flrWrite_fr
    | with_reducible apply Block.ideWrite_fr
    | with_reducible apply Fr.ite
    | (intro _ _ h)
    | split
    | dsimp only)

/-- Frame of `cfgReq`. -/
theorem Block.cfgReq_fr {fm fq : Nat} {fa : Block} (b : Block) (l fno req : Nat) (st : Option Nat) (g : FnRec → Block → Block) (hg : ∀ y0 b, Fr fm fq fa b → Fr fm fq fa (g y0 b)) (hm : 0x0 &&& fm = 0x0) (hq : 0x40000000 &&& fq = 0x40000000)
    (h0 : Fr fm fq fa b) : Fr fm fq fa (b.cfgReq l fno req st g) := by
  unfold Block.cfgReq
  repeat' (first
    | (show _ = _; exact rfl)
    | with_reducible exact Fr.refl _ _ _
    | with_reducible assumption
    | with_reducible apply hg
    | exact Fr.sub_trans rfl hm
    | exact Fr.sub_trans rfl hq
    | exact Fr.sub_bit (m' := 0x0) rfl hm
    | exact Fr.sub_bit (m' := 0x40000000) rfl hq
    | with_reducible apply Fr.emit
    | with_reducible apply Fr.ite
    | split)

/-- Frame of `cfgRead`. -/
theorem Block.cfgRead_fr {fm fq : Nat} {fa : Block} (b : Block) (l fno off req : Nat) (st : Option Nat) (hm : 0x0 &&& fm = 0x0) (hq : 0x40000002 &&& fq = 0x40000002)
    (h0 : Fr fm fq fa b) : Fr fm fq fa (b.cfgRead l fno off req st) := by
  refine Fr.step ?_ hm hq h0
  clear h0 hq hm
  unfold Block.cfgRead
  repeat' (first
    | (show _ = _; exact rfl)
    | with_reducible exact Fr.refl _ _ _
    | with_reducible assumption
    | with_reducible apply Fr.emit
    | with_reducible apply Fr.useFree
    | with_reducible apply Block.cfgReq_fr
    | with_reducible apply Fr.ite
    | (intro _ _ h)
    | (intro _ h)
    | split
    | dsimp only)

/-- Frame of `cfgWriteReq`. -/
theorem Block.cfgWriteReq_fr {fm fq : Nat} {fa : Block} (b : Block) (l fno off en v bus req : Nat) (st : Option Nat) (hm : 0xfffffffffffffffffff9ff8807800002000f8c00300087ffffe1d8000207cfc0401800bffdb7fffff3fff9e09d83fefcffc0058000008083f &&& fm = 0xfffffffffffffffffff9ff8807800002000f8c00300087ffffe1d8000207cfc0401800bffdb7fffff3fff9e09d83fefcffc0058000008083f) (hq : 0x7446c57c6 &&& fq = 0x7446c57c6)
    (h0 : Fr fm fq fa b) : Fr fm fq fa (b.cfgWriteReq l fno off en v bus req st) := by
  refine Fr.step ?_ hm hq h0
  clear h0 hq hm
  unfold Block.cfgWriteReq
  repeat' (first
    | (show _ = _; exact rfl)
    | with_reducible exact Fr.refl _ _ _
    | with_reducible assumption
    | with_reducible apply Fr.lkMod
    | with_reducible apply Fr.emit
    | with_reducible apply Block.cfgReq_fr
    | with_reducible apply Block.cfgWrite_fr
    | (intro _ _ h)
    | (intro _ h)
    | dsimp only
    | refine Fr.upd (by (repeat' apply And.intro) <;> first | exact Or.inl rfl | exact Or.inr rfl) ?_)

end Sys2Proof.Machine
end

