-- ==== Sys2Proof/Laws/FrRom.lean ====
section
/-! SUPPORT. The frame of every operation of Machine/Rom.lean: the fields and the parts it may change, by bit masks. -/
set_option linter.unusedTactic false
set_option linter.unreachableTactic false
set_option linter.unusedSimpArgs false
set_option linter.unusedVariables false
namespace Sys2Proof.Machine

/-- Frame of `romRead`. -/
theorem Block.romRead_fr {fm fq : Nat} {fa : Block} (b : Block) (r : HReq) (f off : Nat) (hm : 0x0 &&& fm = 0x0) (hq : 0x40000000 &&& fq = 0x40000000)
    (h0 : Fr fm fq fa b) : Fr fm fq fa (b.romRead r f off) := by
  refine Fr.step ?_ hm hq h0
  clear h0 hq hm
  unfold Block.romRead
  repeat' (first
    | (show _ = _; exact rfl)
    | with_reducible exact Fr.refl _ _ _
    | with_reducible assumption
    | with_reducible apply Block.complete_fr
    | dsimp only)

end Sys2Proof.Machine
end

