-- ==== Sys2Proof/Laws/FrHostReq.lean ====
section
/-! SUPPORT. The frame of every operation of Machine/HostReq.lean: the fields and the parts it may change, by bit masks. -/
set_option linter.unusedTactic false
set_option linter.unreachableTactic false
set_option linter.unusedSimpArgs false
set_option linter.unusedVariables false
namespace Sys2Proof.Machine

/-- Frame of `fcpDword`. -/
theorem Block.fcpDword_fr {fm fq : Nat} {fa : Block} (b : Block) (f off : Nat) (hm : 0x70780400000000000780000000000d27e40000000bf00000000000c0000000060000000000f00000000000f0000 &&& fm = 0x70780400000000000780000000000d27e40000000bf00000000000c0000000060000000000f00000000000f0000) (hq : 0x2 &&& fq = 0x2)
    (h0 : Fr fm fq fa b) : Fr fm fq fa (b.fcpDword f off).2 := by
  unfold Block.fcpDword
  split; · exact h0
  split; · exact h0
  split; · exact h0
  split
  · exact Block.regReadEff_fr _ _ _ hm hq h0
  · exact h0

/-- Frame of `fcpDwords`. -/
theorem Block.fcpDwords_fr {fm fq : Nat} {fa : Block} (b : Block) (f off k : Nat) (hm : 0x70780400000000000780000000000d27e40000000bf00000000000c0000000060000000000f00000000000f0000 &&& fm = 0x70780400000000000780000000000d27e40000000bf00000000000c0000000060000000000f00000000000f0000) (hq : 0x2 &&& fq = 0x2)
    (h0 : Fr fm fq fa b) : Fr fm fq fa (b.fcpDwords f off k).2 := by
  induction k generalizing b off with
  | zero => exact h0
  | succ k ih => exact ih _ _ (Block.fcpDword_fr _ _ _ hm hq h0)

/-- Frame of `fcpServe`. -/
theorem Block.fcpServe_fr {fm fq : Nat} {fa : Block} (b : Block) (r : HReq) (f off : Nat) (hm : 0x70780400000000000780000000000d27e40000000bf00000000000c0000000060000000000f00000000000f0000 &&& fm = 0x70780400000000000780000000000d27e40000000bf00000000000c0000000060000000000f00000000000f0000) (hq : 0x40000002 &&& fq = 0x40000002)
    (h0 : Fr fm fq fa b) : Fr fm fq fa (b.fcpServe r f off) := by
  refine Fr.step ?_ hm hq h0
  clear h0 hq hm
  unfold Block.fcpServe
  repeat' (first
    | (show _ = _; exact rfl)
    | with_reducible exact Fr.refl _ _ _
    | with_reducible assumption
    | with_reducible apply Block.complete_fr
    | with_reducible apply Block.fcpDwords_fr
    | with_reducible apply Fr.ite
    | split
    | dsimp only
    | refine Fr.upd (by (repeat' apply And.intro) <;> first | exact Or.inl rfl | exact Or.inr rfl) ?_)

/-- Frame of `fcpBad`. -/
theorem Block.fcpBad_fr {fm fq : Nat} {fa : Block} (b : Block) (r : HReq) (f off detail : Nat) (hm : 0x490010008020000000000000000000000000000001ffe14000000000000000000000060000000000000000000000000000000000000 &&& fm = 0x490010008020000000000000000000000000000001ffe14000000000000000000000060000000000000000000000000000000000000) (hq : 0x40001200 &&& fq = 0x40001200)
    (h0 : Fr fm fq fa b) : Fr fm fq fa (b.fcpBad r f off detail) := by
  refine Fr.step ?_ hm hq h0
  clear h0 hq hm
  unfold Block.fcpBad
  repeat' (first
    | (show _ = _; exact rfl)
    | with_reducible exact Fr.refl _ _ _
    | with_reducible assumption
    | with_reducible apply Block.logErr_fr)

/-- Frame of `fcpReadReq`. -/
theorem Block.fcpReadReq_fr {fm fq : Nat} {fa : Block} (b : Block) (r : HReq) (f off : Nat) (hm : 0x490010008020000070780400000000000780000001ffed67e40000000bf00000000006c0000000060000000000f00000000000f0000 &&& fm = 0x490010008020000070780400000000000780000001ffed67e40000000bf00000000006c0000000060000000000f00000000000f0000) (hq : 0x40001602 &&& fq = 0x40001602)
    (h0 : Fr fm fq fa b) : Fr fm fq fa (b.fcpReadReq r f off) := by
  refine Fr.step ?_ hm hq h0
  clear h0 hq hm
  unfold Block.fcpReadReq
  repeat' (first
    | (show _ = _; exact rfl)
    | with_reducible exact Fr.refl _ _ _
    | with_reducible assumption
    | with_reducible apply Block.complete_fr
    | with_reducible apply Block.fcpBad_fr
    | with_reducible apply Block.fcpServe_fr
    | with_reducible apply Block.qHold_fr
    | with_reducible apply Fr.ite
    | split
    | dsimp only)

/-- Frame of `msixWrite`. -/
theorem Block.msixWrite_fr {fm fq : Nat} {fa : Block} (b : Block) (f o v : Nat) (hm : 0x800020000078000000000000000000000000000000000000000000004018008000000000000000000000000000000000000000000 &&& fm = 0x800020000078000000000000000000000000000000000000000000004018008000000000000000000000000000000000000000000) (hq : 0x440005100 &&& fq = 0x440005100)
    (h0 : Fr fm fq fa b) : Fr fm fq fa (b.msixWrite f o v) := by
  refine Fr.step ?_ hm hq h0
  clear h0 hq hm
  unfold Block.msixWrite
  repeat' (first
    | (show _ = _; exact rfl)
    | with_reducible exact Fr.refl _ _ _
    | with_reducible assumption
    | with_reducible apply Fr.wr
    | with_reducible apply Block.fnRec_fr
    | with_reducible apply Block.vecUnmask_fr
    | with_reducible apply Fr.ite
    | split
    | dsimp only)

/-- Frame of `obWrite`. -/
theorem Block.obWrite_fr {fm fq : Nat} {fa : Block} (b : Block) (f off v : Nat) (r : RegRef) (hm : 0x40fffffffffffffffdf9ff8807800002000f8c00300087ffffe1d8000207cfc0401800bff5872008000f79e08d83fefcfbc0048000008083f &&& fm = 0x40fffffffffffffffdf9ff8807800002000f8c00300087ffffe1d8000207cfc0401800bff5872008000f79e08d83fefcfbc0048000008083f) (hq : 0x7406c57c6 &&& fq = 0x7406c57c6)
    (h0 : Fr fm fq fa b) : Fr fm fq fa (b.obWrite f off v r) := by
  refine Fr.step ?_ hm hq h0
  clear h0 hq hm
  unfold Block.obWrite
  repeat' (first
    | (show _ = _; exact rfl)
    | with_reducible exact Fr.refl _ _ _
    | with_reducible assumption
    | with_reducible apply Block.fnRec_fr
    | with_reducible apply Block.regWrite_fr
    | with_reducible apply Block.tdiErr_fr
    | with_reducible apply Fr.ite
    | split
    | dsimp only)

/-- Frame of `fcpDwordW`. -/
theorem Block.fcpDwordW_fr {fm fq : Nat} {fa : Block} (b : Block) (f off v : Nat) (hm : 0x70fffffffffffffffdffff8807800002000fcc00300087ffffe1d81bffffffc0401800bfffc7a04800cf79ef9f83fefcfbc004bf80008ffff &&& fm = 0x70fffffffffffffffdffff8807800002000fcc00300087ffffe1d81bffffffc0401800bfffc7a04800cf79ef9f83fefcfbc004bf80008ffff) (hq : 0x7406d7fc6 &&& fq = 0x7406d7fc6)
    (h0 : Fr fm fq fa b) : Fr fm fq fa (b.fcpDwordW f off v) := by
  refine Fr.step ?_ hm hq h0
  clear h0 hq hm
  unfold Block.fcpDwordW
  repeat' (first
    | (show _ = _; exact rfl)
    | with_reducible exact Fr.refl _ _ _
    | with_reducible assumption
    | with_reducible apply Fr.clrBits
    | with_reducible apply Fr.fnMod
    | with_reducible apply Fr.each
    | with_reducible apply Block.errCons_fr
    | with_reducible apply Block.evtConsW_fr
    | with_reducible apply Block.evtCtrl_fr
    | with_reducible apply Block.intxF_fr
    | with_reducible apply Block.msixWrite_fr
    | with_reducible apply Block.obWrite_fr
    | with_reducible apply Block.pgoWrite_fr
    | with_reducible apply Block.qCmd_fr
    | with_reducible apply Block.qCtxWrite_fr
    | with_reducible apply Block.qHeadWrite_fr
    | with_reducible apply Block.raise_fr
    | with_reducible apply Block.regWrite_fr
    | with_reducible apply Block.reinsOut_fr
    | with_reducible apply Block.releaseW_fr
    | with_reducible apply Block.sampleAll_fr
    | with_reducible apply Block.slotWrite_fr
    | with_reducible apply Block.spurCfgW_fr
    | with_reducible apply Block.spurEoiW_fr
    | with_reducible apply Block.spurMaskOn_fr
    | with_reducible apply Block.spurPendOff_fr
    | with_reducible apply Block.weaveOp_fr
    | with_reducible apply Fr.ite
    | (intro _ _ h)
    | split
    | dsimp only
    | refine Fr.upd (by (repeat' apply And.intro) <;> first | exact Or.inl rfl | exact Or.inr rfl) ?_)

/-- Frame of `bellWrite`. -/
theorem Block.bellWrite_fr {fm fq : Nat} {fa : Block} (b : Block) (r : HReq) (f off : Nat) (hm : 0x40000000000000800000000000000000000000000000000000000000020000004018008000020000000301e00980000000000000000000000 &&& fm = 0x40000000000000800000000000000000000000000000000000000000020000004018008000020000000301e00980000000000000000000000) (hq : 0x5406057c6 &&& fq = 0x5406057c6)
    (h0 : Fr fm fq fa b) : Fr fm fq fa (b.bellWrite r f off) := by
  refine Fr.step ?_ hm hq h0
  clear h0 hq hm
  unfold Block.bellWrite
  repeat' (first
    | (show _ = _; exact rfl)
    | with_reducible exact Fr.refl _ _ _
    | with_reducible assumption
    | with_reducible apply Block.qBell_fr
    | with_reducible apply Fr.ite
    | split
    | dsimp only)

/-- Frame of `fcpWriteReq`. -/
theorem Block.fcpWriteReq_fr {fm fq : Nat} {fa : Block} (b : Block) (r : HReq) (f off : Nat) (hm : 0x70fffffffffffffffdffff8807800002000fcc00300087ffffe1d81bffffffc0401800bfffc7a04800cf79ef9f83fefcfbc004bf80008ffff &&& fm = 0x70fffffffffffffffdffff8807800002000fcc00300087ffffe1d81bffffffc0401800bfffc7a04800cf79ef9f83fefcfbc004bf80008ffff) (hq : 0x7406d7fc6 &&& fq = 0x7406d7fc6)
    (h0 : Fr fm fq fa b) : Fr fm fq fa (b.fcpWriteReq r f off) := by
  refine Fr.step ?_ hm hq h0
  clear h0 hq hm
  unfold Block.fcpWriteReq
  repeat' (first
    | (show _ = _; exact rfl)
    | with_reducible exact Fr.refl _ _ _
    | with_reducible assumption
    | with_reducible apply Fr.each
    | with_reducible apply Block.aerUnc_fr
    | with_reducible apply Block.bellWrite_fr
    | with_reducible apply Block.fcpBad_fr
    | with_reducible apply Block.fcpDwordW_fr
    | with_reducible apply Fr.ite
    | (intro _ _ h)
    | split
    | dsimp only)

/-- Frame of `hostMem`. -/
theorem Block.hostMem_fr {fm fq : Nat} {fa : Block} (b : Block) (r : HReq) (np : Bool) (g : BarHit → Block → Block) (hg : ∀ y0 b, Fr fm fq fa b → Fr fm fq fa (g y0 b)) (hm : 0x0 &&& fm = 0x0) (hq : 0x40000000 &&& fq = 0x40000000)
    (h0 : Fr fm fq fa b) : Fr fm fq fa (b.hostMem r np g) := by
  unfold Block.hostMem
  repeat' (first
    | (show _ = _; exact rfl)
    | with_reducible exact Fr.refl _ _ _
    | with_reducible assumption
    | with_reducible apply hg
    | exact Fr.sub_trans rfl hm
    | exact Fr.sub_trans rfl hq
    | exact Fr.sub_bit (m' := 0x0) rfl hm
    | exact Fr.sub_bit (m' := 0x40000000) rfl hq
    | with_reducible apply Block.complete_fr
    | with_reducible apply Fr.ite
    | split)

/-- Frame of `hreqFit`. -/
theorem Block.hreqFit_fr {fm fq : Nat} {fa : Block} (b : Block) (r : HReq) (n : Nat → Nat) (hm : 0x0 &&& fm = 0x0) (hq : 0x2 &&& fq = 0x2)
    (h0 : Fr fm fq fa b) : Fr fm fq fa (b.hreqFit r n).2 :=
  Block.takeBytes_fr b _ _ hm hq h0

/-- Frame of `hostRead`. -/
theorem Block.hostRead_fr {fm fq : Nat} {fa : Block} (b : Block) (r : HReq) (hm : 0x400000490010008020000070780400000000000780000001ffed67e40200000bf01800800006c000000307e001800000f00000000000f0000 &&& fm = 0x400000490010008020000070780400000000000780000001ffed67e40200000bf01800800006c000000307e001800000f00000000000f0000) (hq : 0x7400457c6 &&& fq = 0x7400457c6)
    (h0 : Fr fm fq fa b) : Fr fm fq fa (b.hostRead r) := by
  refine Fr.step ?_ hm hq h0
  clear h0 hq hm
  unfold Block.hostRead
  repeat' (first
    | (show _ = _; exact rfl)
    | with_reducible exact Fr.refl _ _ _
    | with_reducible assumption
    | with_reducible apply Block.fcpReadReq_fr
    | with_reducible apply Block.hostMem_fr
    | with_reducible apply Block.hreqFit_fr
    | with_reducible apply Block.romRead_fr
    | with_reducible apply Block.winRead_fr
    | (intro _ _ h)
    | (intro _ h)
    | split
    | dsimp only)

/-- Frame of `hostWrite`. -/
theorem Block.hostWrite_fr {fm fq : Nat} {fa : Block} (b : Block) (r : HReq) (hm : 0x70fffffffffffffffdffff8807800002000fcc00300087ffffe1d81bffffffc0401800bfffc7a04800cf79ef9f83fefcfbc004bf80008ffff &&& fm = 0x70fffffffffffffffdffff8807800002000fcc00300087ffffe1d81bffffffc0401800bfffc7a04800cf79ef9f83fefcfbc004bf80008ffff) (hq : 0x7406d7fc6 &&& fq = 0x7406d7fc6)
    (h0 : Fr fm fq fa b) : Fr fm fq fa (b.hostWrite r) := by
  refine Fr.step ?_ hm hq h0
  clear h0 hq hm
  unfold Block.hostWrite
  repeat' (first
    | (show _ = _; exact rfl)
    | with_reducible exact Fr.refl _ _ _
    | with_reducible assumption
    | with_reducible apply Block.fcpWriteReq_fr
    | with_reducible apply Block.hostMem_fr
    | with_reducible apply Block.hreqFit_fr
    | with_reducible apply Block.winWrite_fr
    | (intro _ _ h)
    | (intro _ h)
    | split
    | dsimp only)

/-- Frame of `hostAtomic`. -/
theorem Block.hostAtomic_fr {fm fq : Nat} {fa : Block} (b : Block) (r : HReq) (op : AtmOp) (hm : 0x400000490010008020000000000000000000000000000001ffe14000020000004018008000060000000301e001800000f0000000000000000 &&& fm = 0x400000490010008020000000000000000000000000000001ffe14000020000004018008000060000000301e001800000f0000000000000000) (hq : 0x7400457c6 &&& fq = 0x7400457c6)
    (h0 : Fr fm fq fa b) : Fr fm fq fa (b.hostAtomic r op) := by
  refine Fr.step ?_ hm hq h0
  clear h0 hq hm
  unfold Block.hostAtomic
  repeat' (first
    | (show _ = _; exact rfl)
    | with_reducible exact Fr.refl _ _ _
    | with_reducible assumption
    | with_reducible apply Block.complete_fr
    | with_reducible apply Block.fcpBad_fr
    | with_reducible apply Block.hostMem_fr
    | with_reducible apply Block.hreqFit_fr
    | with_reducible apply Block.winAtomic_fr
    | with_reducible apply Fr.ite
    | (intro _ _ h)
    | (intro _ h)
    | split
    | dsimp only)

/-- Frame of `heldGo`. -/
theorem Block.heldGo_fr {fm fq : Nat} {fa : Block} (b : Block) (f n : Nat) (h : Held) (hm : 0x400000490010008020000070780400000000000780000001ffed67e40200000bf01800800006c008000307ef9f83fc00f00004000000f0800 &&& fm = 0x400000490010008020000070780400000000000780000001ffed67e40200000bf01800800006c008000307ef9f83fc00f00004000000f0800) (hq : 0x7406c57c6 &&& fq = 0x7406c57c6)
    (h0 : Fr fm fq fa b) : Fr fm fq fa (b.heldGo f n h) := by
  refine Fr.step ?_ hm hq h0
  clear h0 hq hm
  unfold Block.heldGo
  repeat' (first
    | (show _ = _; exact rfl)
    | with_reducible exact Fr.refl _ _ _
    | with_reducible assumption
    | with_reducible apply Block.fcpServe_fr
    | with_reducible apply Block.qBell_fr
    | with_reducible apply Block.qCmd_fr
    | with_reducible apply Block.qCtxWrite_fr
    | with_reducible apply Block.qHeadWrite_fr
    | split)

/-- Frame of `moveDone`. -/
theorem Block.moveDone_fr {fm fq : Nat} {fa : Block} (b : Block) (i : Nat) (hm : 0x400000490010008020000070780400000000000780000001ffed67e40200000bf01800800006c008000307ef9f83fc00f00004000000f0800 &&& fm = 0x400000490010008020000070780400000000000780000001ffed67e40200000bf01800800006c008000307ef9f83fc00f00004000000f0800) (hq : 0x7416c57c6 &&& fq = 0x7416c57c6)
    (h0 : Fr fm fq fa b) : Fr fm fq fa (b.moveDone i) := by
  refine Fr.step ?_ hm hq h0
  clear h0 hq hm
  unfold Block.moveDone
  repeat' (first
    | (show _ = _; exact rfl)
    | with_reducible exact Fr.refl _ _ _
    | with_reducible assumption
    | with_reducible apply Fr.incSat
    | with_reducible apply Fr.quMod
    | with_reducible apply Fr.each
    | with_reducible apply Block.heldGo_fr
    | with_reducible apply Block.logErr_fr
    | with_reducible apply Block.qMoveEnd_fr
    | (intro _ _ h)
    | split
    | dsimp only
    | refine Fr.upd (by (repeat' apply And.intro) <;> first | exact Or.inl rfl | exact Or.inr rfl) ?_)

end Sys2Proof.Machine
end

