-- ==== Sys2Proof/Laws/FrReset.lean ====
section
/-! SUPPORT. The frame of every operation of Machine/Reset.lean: the fields and the parts it may change, by bit masks. -/
set_option linter.unusedTactic false
set_option linter.unreachableTactic false
set_option linter.unusedSimpArgs false
set_option linter.unusedVariables false
namespace Sys2Proof.Machine

/-- Frame of `moduleReset`. -/
theorem Block.moduleReset_fr {fm fq : Nat} {fa : Block} (b : Block) (hm : 0xffffffffffffffffffffffffffffffffffffffffffffffffffffffffffffffffffffffffffffffffffffffffffffffffffffffffffffffffffffffffffffffff &&& fm = 0xffffffffffffffffffffffffffffffffffffffffffffffffffffffffffffffffffffffffffffffffffffffffffffffffffffffffffffffffffffffffffffffff) (hq : 0x2affdfff1 &&& fq = 0x2affdfff1)
    (h0 : Fr fm fq fa b) : Fr fm fq fa (b.moduleReset) := by
  refine Fr.step ?_ hm hq h0
  unfold Block.moduleReset
  dsimp only
  refine Fr.each (fun b g h => ?_) ⟨fun f _ _ h => (by rw [Fr.fullBit] at h; cases h), fun p hp => by cases p <;> first | exact absurd hp (by decide) | exact rfl⟩
  split
  · exact h
  · exact Fr.grMod rfl (Fr.wr rfl h)

/-- Frame of `coldReset`. -/
theorem Block.coldReset_fr {fm fq : Nat} {fa : Block} (b : Block) (hm : 0xffffffffffffffffffffffffffffffffffffffffffffffffffffffffffffffffffffffffffffffffffffffffffffffffffffffffffffffffffffffffffffffff &&& fm = 0xffffffffffffffffffffffffffffffffffffffffffffffffffffffffffffffffffffffffffffffffffffffffffffffffffffffffffffffffffffffffffffffff) (hq : 0x2bffdfff9 &&& fq = 0x2bffdfff9)
    (h0 : Fr fm fq fa b) : Fr fm fq fa (b.coldReset) := by
  refine Fr.step ?_ hm hq h0
  exact ⟨fun f _ _ h => (by rw [Fr.fullBit] at h; cases h), fun p hp => by cases p <;> first | exact absurd hp (by decide) | exact rfl⟩

/-- Frame of `askReset`. -/
theorem Block.askReset_fr {fm fq : Nat} {fa : Block} (b : Block) (hm : 0xffffffffffffffffffffffffffffffffffffffffffffffffffffffffffffffffffffffffffffffffffffffffffffffffffffffffffffffffffffffffffffffff &&& fm = 0xffffffffffffffffffffffffffffffffffffffffffffffffffffffffffffffffffffffffffffffffffffffffffffffffffffffffffffffffffffffffffffffff) (hq : 0x2affdfff1 &&& fq = 0x2affdfff1)
    (h0 : Fr fm fq fa b) : Fr fm fq fa (b.askReset) := by
  refine Fr.step ?_ hm hq h0
  clear h0 hq hm
  unfold Block.askReset
  repeat' (first
    | (show _ = _; exact rfl)
    | with_reducible exact Fr.refl _ _ _
    | with_reducible assumption
    | with_reducible apply Block.moduleReset_fr
    | with_reducible apply Fr.ite
    | exact Fr.fullBit _
    | split
    | refine Fr.upd (by (repeat' apply And.intro) <;> first | exact Or.inl rfl | exact Or.inr rfl) ?_)

/-- Frame of `allLost`. -/
theorem Block.allLost_fr {fm fq : Nat} {fa : Block} (b : Block) (hm : 0xffffffc9ffffffbffff9ff8000000000000f800000000001fff1410186d800154fdfe0800db7fffff3ffffff9ffffefcffc00580000080c00 &&& fm = 0xffffffc9ffffffbffff9ff8000000000000f800000000001fff1410186d800154fdfe0800db7fffff3ffffff9ffffefcffc00580000080c00) (hq : 0x7406c57c6 &&& fq = 0x7406c57c6)
    (h0 : Fr fm fq fa b) : Fr fm fq fa (b.allLost) := by
  refine Fr.step ?_ hm hq h0
  clear h0 hq hm
  unfold Block.allLost
  repeat' (first
    | (show _ = _; exact rfl)
    | with_reducible exact Fr.refl _ _ _
    | with_reducible assumption
    | with_reducible apply Fr.each
    | with_reducible apply Block.linkDown_fr
    | with_reducible apply Block.tthLost_fr
    | with_reducible apply Fr.ite
    | (intro _ _ h)
    | split
    | dsimp only)

/-- Frame of `bypassClose`. -/
theorem Block.bypassClose_fr {fm fq : Nat} {fa : Block} (b : Block) (hm : 0x4100000000000000000000000000000000000000000000000000000000000000000000000000000000000000000 &&& fm = 0x4100000000000000000000000000000000000000000000000000000000000000000000000000000000000000000) (hq : 0x0 &&& fq = 0x0)
    (h0 : Fr fm fq fa b) : Fr fm fq fa (b.bypassClose) := by
  refine Fr.step ?_ hm hq h0
  clear h0 hq hm
  unfold Block.bypassClose
  repeat' (first
    | (show _ = _; exact rfl)
    | with_reducible exact Fr.refl _ _ _
    | with_reducible assumption
    | with_reducible apply Fr.wr
    | with_reducible apply Fr.incSat
    | with_reducible apply Fr.ite
    | split)

/-- Frame of `powerDown`. -/
theorem Block.powerDown_fr {fm fq : Nat} {fa : Block} (b : Block) (st : PwrSt) (why : Nat) (hm : 0xffffffc9ffffffbffff9ffc100020000000f800001000001fff1410186d800154fdfe0800db7fffff3ffffff9ffffefcffc00580000080c00 &&& fm = 0xffffffc9ffffffbffff9ffc100020000000f800001000001fff1410186d800154fdfe0800db7fffff3ffffff9ffffefcffc00580000080c00) (hq : 0x7506c57c6 &&& fq = 0x7506c57c6)
    (h0 : Fr fm fq fa b) : Fr fm fq fa (b.powerDown st why) := by
  refine Fr.step ?_ hm hq h0
  clear h0 hq hm
  unfold Block.powerDown
  repeat' (first
    | (show _ = _; exact rfl)
    | with_reducible exact Fr.refl _ _ _
    | with_reducible assumption
    | with_reducible apply Fr.wr
    | with_reducible apply Block.allLost_fr
    | with_reducible apply Block.bypassClose_fr
    | dsimp only
    | refine Fr.upd (by (repeat' apply And.intro) <;> first | exact Or.inl rfl | exact Or.inr rfl) ?_)

/-- Frame of `vinGone`. -/
theorem Block.vinGone_fr {fm fq : Nat} {fa : Block} (b : Block) (why : Nat) (hm : 0xffffffffffffffffffffffffffffffffffffffffffffffffffffffffffffffffffffffffffffffffffffffffffffffffffffffffffffffffffffffffffffffff &&& fm = 0xffffffffffffffffffffffffffffffffffffffffffffffffffffffffffffffffffffffffffffffffffffffffffffffffffffffffffffffffffffffffffffffff) (hq : 0x7fffdffff &&& fq = 0x7fffdffff)
    (h0 : Fr fm fq fa b) : Fr fm fq fa (b.vinGone why) := by
  refine Fr.step ?_ hm hq h0
  clear h0 hq hm
  unfold Block.vinGone
  repeat' (first
    | (show _ = _; exact rfl)
    | with_reducible exact Fr.refl _ _ _
    | with_reducible assumption
    | with_reducible apply Fr.wr
    | with_reducible apply Block.coldReset_fr
    | with_reducible apply Block.powerDown_fr
    | with_reducible apply Fr.ite
    | exact Fr.fullBit _
    | split)

/-- Frame of `powerUp`. -/
theorem Block.powerUp_fr {fm fq : Nat} {fa : Block} (b : Block) (s : Straps) (vstbyOk : Bool) (hm : 0xffffffffffffffffffffffffffffffffffffffffffffffffffffffffffffffffffffffffffffffffffffffffffffffffffffffffffffffffffffffffffffffff &&& fm = 0xffffffffffffffffffffffffffffffffffffffffffffffffffffffffffffffffffffffffffffffffffffffffffffffffffffffffffffffffffffffffffffffff) (hq : 0x2bffdfff9 &&& fq = 0x2bffdfff9)
    (h0 : Fr fm fq fa b) : Fr fm fq fa (b.powerUp s vstbyOk) := by
  refine Fr.step ?_ hm hq h0
  unfold Block.powerUp
  split
  · exact Fr.refl _ _ _
  · have h1 : Fr 0xffffffffffffffffffffffffffffffffffffffffffffffffffffffffffffffffffffffffffffffffffffffffffffffffffffffffffffffffffffffffffffffff 0x2bffdfff9 b (Block.mk b.coldReset.regs b.coldReset.time b.coldReset.freeCtr b.coldReset.nextId s b.coldReset.img
        b.coldReset.sg [] [] [] [] [] b.coldReset.pins [] [] b.coldReset.pow b.coldReset.loom b.coldReset.stums b.coldReset.fuses
        b.coldReset.jobs b.coldReset.ats b.coldReset.buckets b.coldReset.parked b.coldReset.gated b.coldReset.lameSh b.coldReset.moves
        b.coldReset.shutRot b.coldReset.boot b.coldReset.grm b.coldReset.halt b.coldReset.tap b.coldReset.refs b.coldReset.out b.coldReset.wire b.coldReset.loomBack b.coldReset.xings) := ⟨fun f _ _ h => (by rw [Fr.fullBit] at h; cases h), fun p hp => by cases p <;> first | exact absurd hp (by decide) | exact rfl⟩
    have h2 := Block.moduleReset_fr _ rfl rfl (Fr.wr (f := .pstVstbyOk) (i := 0) (j := 0) (v := b2n vstbyOk) rfl
      (Fr.wr (f := .pstVinOk) (i := 0) (j := 0) (v := 1) rfl h1))
    exact Fr.upd (by (repeat' apply And.intro) <;> first | exact Or.inl rfl | exact Or.inr rfl) h2

/-- Frame of `standbyUp`. -/
theorem Block.standbyUp_fr {fm fq : Nat} {fa : Block} (b : Block) (s : Straps) (hm : 0xffffffffffffffffffffffffffffffffffffffffffffffffffffffffffffffffffffffffffffffffffffffffffffffffffffffffffffffffffffffffffffffff &&& fm = 0xffffffffffffffffffffffffffffffffffffffffffffffffffffffffffffffffffffffffffffffffffffffffffffffffffffffffffffffffffffffffffffffff) (hq : 0x2bffdfff9 &&& fq = 0x2bffdfff9)
    (h0 : Fr fm fq fa b) : Fr fm fq fa (b.standbyUp s) := by
  refine Fr.step ?_ hm hq h0
  unfold Block.standbyUp
  split
  · exact Fr.refl _ _ _
  · exact ⟨fun f _ _ h => (by rw [Fr.fullBit] at h; cases h), fun p hp => by cases p <;> first | exact absurd hp (by decide) | exact rfl⟩

/-- Frame of `vinBack`. -/
theorem Block.vinBack_fr {fm fq : Nat} {fa : Block} (b : Block) (hm : 0xffffffffffffffffffffffffffffffffffffffffffffffffffffffffffffffffffffffffffffffffffffffffffffffffffffffffffffffffffffffffffffffff &&& fm = 0xffffffffffffffffffffffffffffffffffffffffffffffffffffffffffffffffffffffffffffffffffffffffffffffffffffffffffffffffffffffffffffffff) (hq : 0x2bffdfff1 &&& fq = 0x2bffdfff1)
    (h0 : Fr fm fq fa b) : Fr fm fq fa (b.vinBack) := by
  refine Fr.step ?_ hm hq h0
  clear h0 hq hm
  unfold Block.vinBack
  repeat' (first
    | (show _ = _; exact rfl)
    | with_reducible exact Fr.refl _ _ _
    | with_reducible assumption
    | with_reducible apply Fr.wr
    | with_reducible apply Block.moduleReset_fr
    | with_reducible apply Fr.ite
    | exact Fr.fullBit _
    | split
    | dsimp only
    | refine Fr.upd (by (repeat' apply And.intro) <;> first | exact Or.inl rfl | exact Or.inr rfl) ?_)

/-- Frame of `vstbyGone`. -/
theorem Block.vstbyGone_fr {fm fq : Nat} {fa : Block} (b : Block) (hm : 0xffffffffffffffffffffffffffffffffffffffffffffffffffffffffffffffffffffffffffffffffffffffffffffffffffffffffffffffffffffffffffffffff &&& fm = 0xffffffffffffffffffffffffffffffffffffffffffffffffffffffffffffffffffffffffffffffffffffffffffffffffffffffffffffffffffffffffffffffff) (hq : 0x2bffdfff9 &&& fq = 0x2bffdfff9)
    (h0 : Fr fm fq fa b) : Fr fm fq fa (b.vstbyGone) := by
  refine Fr.step ?_ hm hq h0
  clear h0 hq hm
  unfold Block.vstbyGone
  repeat' (first
    | (show _ = _; exact rfl)
    | with_reducible exact Fr.refl _ _ _
    | with_reducible assumption
    | with_reducible apply Block.coldReset_fr
    | with_reducible apply Fr.ite
    | exact Fr.fullBit _
    | split)

/-- Frame of `vstbyRange`. -/
theorem Block.vstbyRange_fr {fm fq : Nat} {fa : Block} (b : Block) (ok : Bool) (hm : 0x4000000000000000000000000000000000000000000000000000000000000000000000 &&& fm = 0x4000000000000000000000000000000000000000000000000000000000000000000000) (hq : 0x0 &&& fq = 0x0)
    (h0 : Fr fm fq fa b) : Fr fm fq fa (b.vstbyRange ok) := by
  refine Fr.step ?_ hm hq h0
  clear h0 hq hm
  unfold Block.vstbyRange
  repeat' (first
    | (show _ = _; exact rfl)
    | with_reducible exact Fr.refl _ _ _
    | with_reducible assumption
    | with_reducible apply Fr.wr
    | with_reducible apply Fr.ite
    | split)

end Sys2Proof.Machine
end

