-- ==== Sys2Proof/Laws/FrFaults.lean ====
section
/-! SUPPORT. The frame of every operation of Machine/Faults.lean: the fields and the parts it may change, by bit masks. -/
set_option linter.unusedTactic false
set_option linter.unreachableTactic false
set_option linter.unusedSimpArgs false
set_option linter.unusedVariables false
namespace Sys2Proof.Machine

/-- Frame of `escalate`. -/
theorem Block.escalate_fr {fm fq : Nat} {fa : Block} (b : Block) (slice : Nat) (hm : 0xffffffffffffffffffffffffffffffffffffffffffffffffffffffffffffffffffffffffffffffffffffffffffffffffffffffffffffffffffffffffffffffff &&& fm = 0xffffffffffffffffffffffffffffffffffffffffffffffffffffffffffffffffffffffffffffffffffffffffffffffffffffffffffffffffffffffffffffffff) (hq : 0x2effdfff1 &&& fq = 0x2effdfff1)
    (h0 : Fr fm fq fa b) : Fr fm fq fa (b.escalate slice) := by
  refine Fr.step ?_ hm hq h0
  clear h0 hq hm
  unfold Block.escalate
  repeat' (first
    | (show _ = _; exact rfl)
    | with_reducible exact Fr.refl _ _ _
    | with_reducible assumption
    | with_reducible apply Fr.each
    | with_reducible apply Block.askReset_fr
    | with_reducible apply Block.logErr_fr
    | with_reducible apply Fr.ite
    | exact Fr.fullBit _
    | (intro _ _ h)
    | split
    | dsimp only)

/-- Frame of `sliceLame`. -/
theorem Block.sliceLame_fr {fm fq : Nat} {fa : Block} (b : Block) (i : Nat) (hm : 0xffffffffffffffffffffffffffffffffffffffffffffffffffffffffffffffffffffffffffffffffffffffffffffffffffffffffffffffffffffffffffffffff &&& fm = 0xffffffffffffffffffffffffffffffffffffffffffffffffffffffffffffffffffffffffffffffffffffffffffffffffffffffffffffffffffffffffffffffff) (hq : 0x2effdfff1 &&& fq = 0x2effdfff1)
    (h0 : Fr fm fq fa b) : Fr fm fq fa (b.sliceLame i) := by
  refine Fr.step ?_ hm hq h0
  clear h0 hq hm
  unfold Block.sliceLame
  repeat' (first
    | (show _ = _; exact rfl)
    | with_reducible exact Fr.refl _ _ _
    | with_reducible assumption
    | with_reducible apply Fr.incSat
    | with_reducible apply Block.escalate_fr
    | with_reducible apply Fr.ite
    | exact Fr.fullBit _
    | split
    | dsimp only
    | refine Fr.upd (by (repeat' apply And.intro) <;> first | exact Or.inl rfl | exact Or.inr rfl) ?_)

/-- Frame of `backGo`. -/
theorem Block.backGo_fr {fm fq : Nat} {fa : Block} (b : Block) (x : LoomBack) (hm : 0x400000490010008020000000000000000000000000000001ffe14000020000004018008000060000000301e001800000f0000000000000000 &&& fm = 0x400000490010008020000000000000000000000000000001ffe14000020000004018008000060000000301e001800000f0000000000000000) (hq : 0x7400457c6 &&& fq = 0x7400457c6)
    (h0 : Fr fm fq fa b) : Fr fm fq fa (b.backGo x) := by
  refine Fr.step ?_ hm hq h0
  clear h0 hq hm
  unfold Block.backGo
  repeat' (first
    | (show _ = _; exact rfl)
    | with_reducible exact Fr.refl _ _ _
    | with_reducible assumption
    | with_reducible apply Block.ansGo_fr
    | with_reducible apply Block.backTo_fr
    | with_reducible apply Block.badGo_fr
    | with_reducible apply Block.cross_fr
    | with_reducible apply Block.goodGo_fr
    | with_reducible apply Block.respond_fr
    | with_reducible apply Block.wAcked_fr
    | (intro _ _ h)
    | (intro _ h)
    | split
    | dsimp only)

/-- Frame of `postedIn`. -/
theorem Block.postedIn_fr {fm fq : Nat} {fa : Block} (b : Block) (l : Nat) (hm : 0x0 &&& fm = 0x0) (hq : 0x440000100 &&& fq = 0x440000100)
    (h0 : Fr fm fq fa b) : Fr fm fq fa (b.postedIn l) := by
  refine Fr.step ?_ hm hq h0
  clear h0 hq hm
  unfold Block.postedIn
  repeat' (first
    | (show _ = _; exact rfl)
    | with_reducible exact Fr.refl _ _ _
    | with_reducible assumption
    | with_reducible apply Fr.lkMod
    | with_reducible apply Fr.each
    | with_reducible apply Block.cross_fr
    | with_reducible apply Block.pumpPosted_fr
    | (intro _ _ h)
    | split
    | dsimp only
    | refine Fr.upd (by (repeat' apply And.intro) <;> first | exact Or.inl rfl | exact Or.inr rfl) ?_)

/-- Frame of `npsIn`. -/
theorem Block.npsIn_fr {fm fq : Nat} {fa : Block} (b : Block) (f : Nat) (hm : 0x4018008000000000000000000000000000000000000000000 &&& fm = 0x4018008000000000000000000000000000000000000000000) (hq : 0x440005302 &&& fq = 0x440005302)
    (h0 : Fr fm fq fa b) : Fr fm fq fa (b.npsIn f) := by
  refine Fr.step ?_ hm hq h0
  clear h0 hq hm
  unfold Block.npsIn
  repeat' (first
    | (show _ = _; exact rfl)
    | with_reducible exact Fr.refl _ _ _
    | with_reducible assumption
    | with_reducible apply Fr.fnMod
    | with_reducible apply Fr.each
    | with_reducible apply Block.cross_fr
    | with_reducible apply Block.pumpNp_fr
    | (intro _ _ h)
    | split
    | dsimp only
    | refine Fr.upd (by (repeat' apply And.intro) <;> first | exact Or.inl rfl | exact Or.inr rfl) ?_)

/-- Frame of `loomRelease`. -/
theorem Block.loomRelease_fr {fm fq : Nat} {fa : Block} (b : Block) (hm : 0x400000490010008020000000000000000000000000000001ffe14000020000004018008000060000000301e001800000f0000000000000000 &&& fm = 0x400000490010008020000000000000000000000000000001ffe14000020000004018008000060000000301e001800000f0000000000000000) (hq : 0x7400c57c6 &&& fq = 0x7400c57c6)
    (h0 : Fr fm fq fa b) : Fr fm fq fa (b.loomRelease) := by
  refine Fr.step ?_ hm hq h0
  clear h0 hq hm
  unfold Block.loomRelease
  repeat' (first
    | (show _ = _; exact rfl)
    | with_reducible exact Fr.refl _ _ _
    | with_reducible assumption
    | with_reducible apply Fr.each
    | with_reducible apply Block.backGo_fr
    | with_reducible apply Block.lmPumpAll_fr
    | with_reducible apply Block.npsIn_fr
    | with_reducible apply Block.payAll_fr
    | with_reducible apply Block.postedIn_fr
    | with_reducible apply Block.reqsIn_fr
    | with_reducible apply Fr.ite
    | (intro _ _ h)
    | split
    | dsimp only
    | refine Fr.upd (by (repeat' apply And.intro) <;> first | exact Or.inl rfl | exact Or.inr rfl) ?_)

/-- Frame of `sliceResume`. -/
theorem Block.sliceResume_fr {fm fq : Nat} {fa : Block} (b : Block) (hm : 0x400000490010008020000000000000000000000000000001ffe14000020000004018008000060000000301e001800000f0000000000000000 &&& fm = 0x400000490010008020000000000000000000000000000001ffe14000020000004018008000060000000301e001800000f0000000000000000) (hq : 0x7400cd7c6 &&& fq = 0x7400cd7c6)
    (h0 : Fr fm fq fa b) : Fr fm fq fa (b.sliceResume) := by
  refine Fr.step ?_ hm hq h0
  clear h0 hq hm
  unfold Block.sliceResume
  repeat' (first
    | (show _ = _; exact rfl)
    | with_reducible exact Fr.refl _ _ _
    | with_reducible assumption
    | with_reducible apply Fr.each
    | with_reducible apply Block.logErr_fr
    | with_reducible apply Block.loomRelease_fr
    | (intro _ _ h)
    | split
    | dsimp only
    | refine Fr.upd (by (repeat' apply And.intro) <;> first | exact Or.inl rfl | exact Or.inr rfl) ?_)

/-- Frame of `loomMove`. -/
theorem Block.loomMove_fr {fm fq : Nat} {fa : Block} (b : Block) (o : Nat) (offers : List (LoomIx × LoomClass)) (credits : List LoomClass) (crcFail : Bool) (hm : 0x20000000000000000000000000000000000000000000000000000000 &&& fm = 0x20000000000000000000000000000000000000000000000000000000) (hq : 0x14000c0c0 &&& fq = 0x14000c0c0)
    (h0 : Fr fm fq fa b) : Fr fm fq fa (b.loomMove o offers credits crcFail) := by
  refine Fr.step ?_ hm hq h0
  clear h0 hq hm
  unfold Block.loomMove
  repeat' (first
    | (show _ = _; exact rfl)
    | with_reducible exact Fr.refl _ _ _
    | with_reducible assumption
    | with_reducible apply Block.payAll_fr
    | with_reducible apply Fr.ite
    | split
    | dsimp only
    | refine Fr.upd (by (repeat' apply And.intro) <;> first | exact Or.inl rfl | exact Or.inr rfl) ?_)

/-- Frame of `loomNarrowGo`. -/
theorem Block.loomNarrowGo_fr {fm fq : Nat} {fa : Block} (b : Block) (hm : 0x0 &&& fm = 0x0) (hq : 0x8000 &&& fq = 0x8000)
    (h0 : Fr fm fq fa b) : Fr fm fq fa (b.loomNarrowGo) := by
  refine Fr.step ?_ hm hq h0
  clear h0 hq hm
  unfold Block.loomNarrowGo
  repeat' (first
    | (show _ = _; exact rfl)
    | with_reducible exact Fr.refl _ _ _
    | with_reducible assumption
    | with_reducible apply Fr.ite
    | split
    | refine Fr.upd (by (repeat' apply And.intro) <;> first | exact Or.inl rfl | exact Or.inr rfl) ?_)

/-- Frame of `loomWidenGo`. -/
theorem Block.loomWidenGo_fr {fm fq : Nat} {fa : Block} (b : Block) (hm : 0x0 &&& fm = 0x0) (hq : 0x40c000 &&& fq = 0x40c000)
    (h0 : Fr fm fq fa b) : Fr fm fq fa (b.loomWidenGo) := by
  refine Fr.step ?_ hm hq h0
  clear h0 hq hm
  unfold Block.loomWidenGo
  repeat' (first
    | (show _ = _; exact rfl)
    | with_reducible exact Fr.refl _ _ _
    | with_reducible assumption
    | with_reducible apply Block.holdBack_fr
    | with_reducible apply Fr.ite
    | split
    | dsimp only
    | refine Fr.upd (by (repeat' apply And.intro) <;> first | exact Or.inl rfl | exact Or.inr rfl) ?_)

/-- Frame of `bucketFill`. -/
theorem Block.bucketFill_fr {fm fq : Nat} {fa : Block} (b : Block) (hm : 0x0 &&& fm = 0x0) (hq : 0x100000 &&& fq = 0x100000)
    (h0 : Fr fm fq fa b) : Fr fm fq fa (b.bucketFill) := by
  refine Fr.step ?_ hm hq h0
  clear h0 hq hm
  unfold Block.bucketFill
  repeat' (first
    | (show _ = _; exact rfl)
    | with_reducible exact Fr.refl _ _ _
    | with_reducible assumption
    | with_reducible apply Fr.each
    | (intro _ _ h)
    | dsimp only
    | refine Fr.upd (by (repeat' apply And.intro) <;> first | exact Or.inl rfl | exact Or.inr rfl) ?_)

/-- Frame of `shuttleLame`. -/
theorem Block.shuttleLame_fr {fm fq : Nat} {fa : Block} (b : Block) (i : Nat) (hm : 0x2000000000000000000000000000000000000000000000000000000000000 &&& fm = 0x2000000000000000000000000000000000000000000000000000000000000) (hq : 0x201f00700 &&& fq = 0x201f00700)
    (h0 : Fr fm fq fa b) : Fr fm fq fa (b.shuttleLame i) := by
  refine Fr.step ?_ hm hq h0
  clear h0 hq hm
  unfold Block.shuttleLame
  repeat' (first
    | (show _ = _; exact rfl)
    | with_reducible exact Fr.refl _ _ _
    | with_reducible assumption
    | with_reducible apply Fr.incSat
    | with_reducible apply Fr.each
    | with_reducible apply Block.qMoveStart_fr
    | with_reducible apply Fr.ite
    | (intro _ _ h)
    | split
    | dsimp only
    | refine Fr.upd (by (repeat' apply And.intro) <;> first | exact Or.inl rfl | exact Or.inr rfl) ?_)

/-- Frame of `gaitDown`. -/
theorem Block.gaitDown_fr {fm fq : Nat} {fa : Block} (b : Block) (hm : 0x80000000000000000000000000000000000000000000000000000000000000000000 &&& fm = 0x80000000000000000000000000000000000000000000000000000000000000000000) (hq : 0x0 &&& fq = 0x0)
    (h0 : Fr fm fq fa b) : Fr fm fq fa (b.gaitDown) := by
  refine Fr.step ?_ hm hq h0
  clear h0 hq hm
  unfold Block.gaitDown
  repeat' (first
    | (show _ = _; exact rfl)
    | with_reducible exact Fr.refl _ _ _
    | with_reducible assumption
    | with_reducible apply Fr.wr
    | with_reducible apply Fr.ite
    | split)

/-- Frame of `phaseLame`. -/
theorem Block.phaseLame_fr {fm fq : Nat} {fa : Block} (b : Block) (i : Nat) (hm : 0xffffffc9ffffffbffff9ffc100020000000f800001801801fff1610186d800154fdfe0800db7fffff3ffffff9ffffefcffc00580000080c00 &&& fm = 0xffffffc9ffffffbffff9ffc100020000000f800001801801fff1610186d800154fdfe0800db7fffff3ffffff9ffffefcffc00580000080c00) (hq : 0x7506c5fc6 &&& fq = 0x7506c5fc6)
    (h0 : Fr fm fq fa b) : Fr fm fq fa (b.phaseLame i) := by
  refine Fr.step ?_ hm hq h0
  clear h0 hq hm
  unfold Block.phaseLame
  repeat' (first
    | (show _ = _; exact rfl)
    | with_reducible exact Fr.refl _ _ _
    | with_reducible assumption
    | with_reducible apply Fr.wr
    | with_reducible apply Fr.incSat
    | with_reducible apply Fr.pinMod
    | with_reducible apply Fr.each
    | with_reducible apply Block.gaitDown_fr
    | with_reducible apply Block.powerDown_fr
    | with_reducible apply Fr.ite
    | (intro _ _ h)
    | split
    | dsimp only
    | refine Fr.upd (by (repeat' apply And.intro) <;> first | exact Or.inl rfl | exact Or.inr rfl) ?_)

/-- Frame of `stumble`. -/
theorem Block.stumble_fr {fm fq : Nat} {fa : Block} (b : Block) (u : UnitRef) (now : Bool) (hm : 0xffffffffffffffffffffffffffffffffffffffffffffffffffffffffffffffffffffffffffffffffffffffffffffffffffffffffffffffffffffffffffffffff &&& fm = 0xffffffffffffffffffffffffffffffffffffffffffffffffffffffffffffffffffffffffffffffffffffffffffffffffffffffffffffffffffffffffffffffff) (hq : 0x7fffdfff7 &&& fq = 0x7fffdfff7)
    (h0 : Fr fm fq fa b) : Fr fm fq fa (b.stumble u now) := by
  refine Fr.step ?_ hm hq h0
  clear h0 hq hm
  unfold Block.stumble
  repeat' (first
    | (show _ = _; exact rfl)
    | with_reducible exact Fr.refl _ _ _
    | with_reducible assumption
    | with_reducible apply Fr.incSat
    | with_reducible apply Fr.setBits
    | with_reducible apply Block.phaseLame_fr
    | with_reducible apply Block.shuttleLame_fr
    | with_reducible apply Block.slaneStums_fr
    | with_reducible apply Block.sliceLame_fr
    | with_reducible apply Block.tlaneStum_fr
    | with_reducible apply Fr.ite
    | exact Fr.fullBit _
    | with_reducible apply Block.stumCount_fr
    | (refine Block.stumCount_of ‹_ = (_, _)› ?_ ?_)
    | split
    | dsimp only)

/-- Frame of `stumbles`. -/
theorem Block.stumbles_fr {fm fq : Nat} {fa : Block} (b : Block) (us : List (UnitRef × Bool)) (hm : 0xffffffffffffffffffffffffffffffffffffffffffffffffffffffffffffffffffffffffffffffffffffffffffffffffffffffffffffffffffffffffffffffff &&& fm = 0xffffffffffffffffffffffffffffffffffffffffffffffffffffffffffffffffffffffffffffffffffffffffffffffffffffffffffffffffffffffffffffffff) (hq : 0x7fffdfff7 &&& fq = 0x7fffdfff7)
    (h0 : Fr fm fq fa b) : Fr fm fq fa (b.stumbles us) := by
  refine Fr.step ?_ hm hq h0
  clear h0 hq hm
  unfold Block.stumbles
  repeat' (first
    | (show _ = _; exact rfl)
    | with_reducible exact Fr.refl _ _ _
    | with_reducible assumption
    | with_reducible apply Fr.each
    | with_reducible apply Block.slaneStums_fr
    | with_reducible apply Block.stumble_fr
    | exact Fr.fullBit _
    | (intro _ _ h)
    | split
    | dsimp only)

/-- Frame of `fomLow`. -/
theorem Block.fomLow_fr {fm fq : Nat} {fa : Block} (b : Block) (rs : List LaneRef) (hm : 0xffffffc9ffffffbffff9ff8000000000000f800000000001fff16311a6d800374fffe0800db7fffff3ffffff9ffffefcffc00580000080c00 &&& fm = 0xffffffc9ffffffbffff9ff8000000000000f800000000001fff16311a6d800374fffe0800db7fffff3ffffff9ffffefcffc00580000080c00) (hq : 0x7406c57c6 &&& fq = 0x7406c57c6)
    (h0 : Fr fm fq fa b) : Fr fm fq fa (b.fomLow rs) := by
  refine Fr.step ?_ hm hq h0
  clear h0 hq hm
  unfold Block.fomLow
  repeat' (first
    | (show _ = _; exact rfl)
    | with_reducible exact Fr.refl _ _ _
    | with_reducible assumption
    | with_reducible apply Fr.each
    | with_reducible apply Block.slanesLost_fr
    | with_reducible apply Block.tlaneLost_fr
    | with_reducible apply Fr.ite
    | (intro _ _ h)
    | split
    | dsimp only)

/-- Frame of `gateUnit`. -/
theorem Block.gateUnit_fr {fm fq : Nat} {fa : Block} (b : Block) (u : GateRef) (hm : 0x0 &&& fm = 0x0) (hq : 0x400000 &&& fq = 0x400000)
    (h0 : Fr fm fq fa b) : Fr fm fq fa (b.gateUnit u) := by
  refine Fr.step ?_ hm hq h0
  clear h0 hq hm
  unfold Block.gateUnit
  repeat' (first
    | (show _ = _; exact rfl)
    | with_reducible exact Fr.refl _ _ _
    | with_reducible assumption
    | with_reducible apply Fr.ite
    | split
    | refine Fr.upd (by (repeat' apply And.intro) <;> first | exact Or.inl rfl | exact Or.inr rfl) ?_)

end Sys2Proof.Machine
end

