-- ==== Sys2Proof/Laws/FrPower.lean ====
section
/-! SUPPORT. The frame of every operation of Machine/Power.lean: the fields and the parts it may change, by bit masks. -/
set_option linter.unusedTactic false
set_option linter.unreachableTactic false
set_option linter.unusedSimpArgs false
set_option linter.unusedVariables false
namespace Sys2Proof.Machine

/-- Frame of `narrowBit`. -/
theorem Block.narrowBit_fr {fm fq : Nat} {fa : Block} (b : Block) (i : Nat) (v : Bool) (hm : 0x0 &&& fm = 0x0) (hq : 0x4000 &&& fq = 0x4000)
    (h0 : Fr fm fq fa b) : Fr fm fq fa (b.narrowBit i v) := by
  refine Fr.step ?_ hm hq h0
  clear h0 hq hm
  unfold Block.narrowBit
  repeat' (first
    | (show _ = _; exact rfl)
    | with_reducible exact Fr.refl _ _ _
    | with_reducible assumption
    | with_reducible apply Fr.ite
    | split
    | dsimp only
    | refine Fr.upd (by (repeat' apply And.intro) <;> first | exact Or.inl rfl | exact Or.inr rfl) ?_)

/-- Frame of `gaitUp`. -/
theorem Block.gaitUp_fr {fm fq : Nat} {fa : Block} (b : Block) (hm : 0x80000000000000000000000000000000000000000000000000000000000000000000 &&& fm = 0x80000000000000000000000000000000000000000000000000000000000000000000) (hq : 0x4000 &&& fq = 0x4000)
    (h0 : Fr fm fq fa b) : Fr fm fq fa (b.gaitUp) := by
  refine Fr.step ?_ hm hq h0
  clear h0 hq hm
  unfold Block.gaitUp
  repeat' (first
    | (show _ = _; exact rfl)
    | with_reducible exact Fr.refl _ _ _
    | with_reducible assumption
    | with_reducible apply Fr.wr
    | with_reducible apply Block.holdBack_fr
    | with_reducible apply Fr.ite
    | split
    | refine Fr.upd (by (repeat' apply And.intro) <;> first | exact Or.inl rfl | exact Or.inr rfl) ?_)

/-- Frame of `gaitFollow`. -/
theorem Block.gaitFollow_fr {fm fq : Nat} {fa : Block} (b : Block) (hm : 0x80000000000000000000000000000000000000000000000000000000000000000000 &&& fm = 0x80000000000000000000000000000000000000000000000000000000000000000000) (hq : 0x4000 &&& fq = 0x4000)
    (h0 : Fr fm fq fa b) : Fr fm fq fa (b.gaitFollow) := by
  refine Fr.step ?_ hm hq h0
  clear h0 hq hm
  unfold Block.gaitFollow
  repeat' (first
    | (show _ = _; exact rfl)
    | with_reducible exact Fr.refl _ _ _
    | with_reducible assumption
    | with_reducible apply Block.gaitDown_fr
    | with_reducible apply Block.gaitUp_fr)

/-- Frame of `targetWrite`. -/
theorem Block.targetWrite_fr {fm fq : Nat} {fa : Block} (b : Block) (t : Nat) (hm : 0xc0000000000000000000000000000000000000000000000000000000000000000000 &&& fm = 0xc0000000000000000000000000000000000000000000000000000000000000000000) (hq : 0x4000 &&& fq = 0x4000)
    (h0 : Fr fm fq fa b) : Fr fm fq fa (b.targetWrite t) := by
  refine Fr.step ?_ hm hq h0
  clear h0 hq hm
  unfold Block.targetWrite
  repeat' (first
    | (show _ = _; exact rfl)
    | with_reducible exact Fr.refl _ _ _
    | with_reducible assumption
    | with_reducible apply Fr.wr
    | with_reducible apply Block.gaitFollow_fr
    | with_reducible apply Fr.ite
    | split
    | dsimp only
    | refine Fr.upd (by (repeat' apply And.intro) <;> first | exact Or.inl rfl | exact Or.inr rfl) ?_)

/-- Frame of `gaitWindow`. -/
theorem Block.gaitWindow_fr {fm fq : Nat} {fa : Block} (b : Block) (gbps : Nat) (hm : 0xc0000000000000000000000000000000000000000000000000000000000000000000 &&& fm = 0xc0000000000000000000000000000000000000000000000000000000000000000000) (hq : 0x4000 &&& fq = 0x4000)
    (h0 : Fr fm fq fa b) : Fr fm fq fa (b.gaitWindow gbps) := by
  refine Fr.step ?_ hm hq h0
  clear h0 hq hm
  unfold Block.gaitWindow
  repeat' (first
    | (show _ = _; exact rfl)
    | with_reducible exact Fr.refl _ _ _
    | with_reducible assumption
    | with_reducible apply Block.targetWrite_fr
    | with_reducible apply Fr.ite
    | split
    | dsimp only
    | refine Fr.upd (by (repeat' apply And.intro) <;> first | exact Or.inl rfl | exact Or.inr rfl) ?_)

/-- Frame of `linksNarrow`. -/
theorem Block.linksNarrow_fr {fm fq : Nat} {fa : Block} (b : Block) (hm : 0x408000490010208020400000000000000008000000000001ffe1410186d800004018008000060008000301e00d800000f0000400000080c00 &&& fm = 0x408000490010208020400000000000000008000000000001ffe1410186d800004018008000060008000301e00d800000f0000400000080c00) (hq : 0x7406c57c6 &&& fq = 0x7406c57c6)
    (h0 : Fr fm fq fa b) : Fr fm fq fa (b.linksNarrow) := by
  refine Fr.step ?_ hm hq h0
  clear h0 hq hm
  unfold Block.linksNarrow
  repeat' (first
    | (show _ = _; exact rfl)
    | with_reducible exact Fr.refl _ _ _
    | with_reducible assumption
    | with_reducible apply Fr.each
    | with_reducible apply Block.l0pAsk_fr
    | with_reducible apply Block.narrowAsk_fr
    | with_reducible apply Fr.ite
    | (intro _ _ h)
    | split
    | dsimp only)

/-- Frame of `linksWiden`. -/
theorem Block.linksWiden_fr {fm fq : Nat} {fa : Block} (b : Block) (hm : 0x20000000000000000000000000000000000000000000000000000000 &&& fm = 0x20000000000000000000000000000000000000000000000000000000) (hq : 0x140004180 &&& fq = 0x140004180)
    (h0 : Fr fm fq fa b) : Fr fm fq fa (b.linksWiden) := by
  refine Fr.step ?_ hm hq h0
  clear h0 hq hm
  unfold Block.linksWiden
  repeat' (first
    | (show _ = _; exact rfl)
    | with_reducible exact Fr.refl _ _ _
    | with_reducible assumption
    | with_reducible apply Fr.each
    | with_reducible apply Block.l0pAsk_fr
    | with_reducible apply Block.widenAsk_fr
    | with_reducible apply Fr.ite
    | (intro _ _ h)
    | split
    | dsimp only)

/-- Frame of `widenBack`. -/
theorem Block.widenBack_fr {fm fq : Nat} {fa : Block} (b : Block) (hm : 0x20000000000000000000000000000000000000000000000000000000 &&& fm = 0x20000000000000000000000000000000000000000000000000000000) (hq : 0x140004180 &&& fq = 0x140004180)
    (h0 : Fr fm fq fa b) : Fr fm fq fa (b.widenBack) := by
  refine Fr.step ?_ hm hq h0
  clear h0 hq hm
  unfold Block.widenBack
  repeat' (first
    | (show _ = _; exact rfl)
    | with_reducible exact Fr.refl _ _ _
    | with_reducible assumption
    | with_reducible apply Block.holdBack_fr
    | with_reducible apply Block.linksWiden_fr
    | with_reducible apply Fr.ite
    | split)

/-- Frame of `forceWalk`. -/
theorem Block.forceWalk_fr {fm fq : Nat} {fa : Block} (b : Block) (hm : 0x480000000000000000000000000000000000000000000000000000000000000000000 &&& fm = 0x480000000000000000000000000000000000000000000000000000000000000000000) (hq : 0x4000 &&& fq = 0x4000)
    (h0 : Fr fm fq fa b) : Fr fm fq fa (b.forceWalk) := by
  refine Fr.step ?_ hm hq h0
  clear h0 hq hm
  unfold Block.forceWalk
  repeat' (first
    | (show _ = _; exact rfl)
    | with_reducible exact Fr.refl _ _ _
    | with_reducible assumption
    | with_reducible apply Fr.wr
    | with_reducible apply Block.gaitFollow_fr)

/-- Frame of `brownIn`. -/
theorem Block.brownIn_fr {fm fq : Nat} {fa : Block} (b : Block) (vin iin : Nat) (hm : 0x40800049001020802040000000000000000800008c084801ffe1410186d800004018008000060008000301e00d800000f0000400000080c00 &&& fm = 0x40800049001020802040000000000000000800008c084801ffe1410186d800004018008000060008000301e00d800000f0000400000080c00) (hq : 0x7406c57c6 &&& fq = 0x7406c57c6)
    (h0 : Fr fm fq fa b) : Fr fm fq fa (b.brownIn vin iin) := by
  refine Fr.step ?_ hm hq h0
  clear h0 hq hm
  unfold Block.brownIn
  repeat' (first
    | (show _ = _; exact rfl)
    | with_reducible exact Fr.refl _ _ _
    | with_reducible assumption
    | with_reducible apply Fr.wr
    | with_reducible apply Fr.incSat
    | with_reducible apply Block.forceWalk_fr
    | with_reducible apply Block.linksNarrow_fr
    | with_reducible apply Block.narrowBit_fr
    | with_reducible apply Fr.ite
    | split)

/-- Frame of `brownOut`. -/
theorem Block.brownOut_fr {fm fq : Nat} {fa : Block} (b : Block) (hm : 0x8400000000000020000000000000000000000000000000000000000000000000000000 &&& fm = 0x8400000000000020000000000000000000000000000000000000000000000000000000) (hq : 0x140004180 &&& fq = 0x140004180)
    (h0 : Fr fm fq fa b) : Fr fm fq fa (b.brownOut) := by
  refine Fr.step ?_ hm hq h0
  clear h0 hq hm
  unfold Block.brownOut
  repeat' (first
    | (show _ = _; exact rfl)
    | with_reducible exact Fr.refl _ _ _
    | with_reducible assumption
    | with_reducible apply Fr.wr
    | with_reducible apply Block.narrowBit_fr
    | with_reducible apply Block.widenBack_fr
    | with_reducible apply Fr.ite
    | split
    | dsimp only
    | refine Fr.upd (by (repeat' apply And.intro) <;> first | exact Or.inl rfl | exact Or.inr rfl) ?_)

/-- Frame of `droopOpen`. -/
theorem Block.droopOpen_fr {fm fq : Nat} {fa : Block} (b : Block) (hm : 0x10010200000000000000000000000000000000000000000000000000000000000000000000 &&& fm = 0x10010200000000000000000000000000000000000000000000000000000000000000000000) (hq : 0x4000 &&& fq = 0x4000)
    (h0 : Fr fm fq fa b) : Fr fm fq fa (b.droopOpen) := by
  refine Fr.step ?_ hm hq h0
  clear h0 hq hm
  unfold Block.droopOpen
  repeat' (first
    | (show _ = _; exact rfl)
    | with_reducible exact Fr.refl _ _ _
    | with_reducible assumption
    | with_reducible apply Fr.wr
    | with_reducible apply Fr.incSat
    | with_reducible apply Fr.ite
    | split
    | dsimp only
    | refine Fr.upd (by (repeat' apply And.intro) <;> first | exact Or.inl rfl | exact Or.inr rfl) ?_)

/-- Frame of `heldAct`. -/
theorem Block.heldAct_fr {fm fq : Nat} {fa : Block} (b : Block) (h : HeldAct) (hm : 0x408000490010208020400000000000000008000000000801ffe1418186d800004018008000060008000301e00d800000f0000400000080c00 &&& fm = 0x408000490010208020400000000000000008000000000801ffe1418186d800004018008000060008000301e00d800000f0000400000080c00) (hq : 0x7406cffc6 &&& fq = 0x7406cffc6)
    (h0 : Fr fm fq fa b) : Fr fm fq fa (b.heldAct h) := by
  refine Fr.step ?_ hm hq h0
  clear h0 hq hm
  unfold Block.heldAct
  repeat' (first
    | (show _ = _; exact rfl)
    | with_reducible exact Fr.refl _ _ _
    | with_reducible assumption
    | with_reducible apply Block.clkreqOn_fr
    | with_reducible apply Block.dozeFree_fr
    | with_reducible apply Block.gaitUp_fr
    | with_reducible apply Block.l0pWiden_fr
    | with_reducible apply Block.l1Exit_fr
    | with_reducible apply Block.loomWidenGo_fr
    | with_reducible apply Block.slotEnable_fr
    | with_reducible apply Block.standWake_fr
    | with_reducible apply Block.widenBack_fr
    | split)

/-- Frame of `heldGoAll`. -/
theorem Block.heldGoAll_fr {fm fq : Nat} {fa : Block} (b : Block) (hm : 0x408000490010208020400000000000000008000000000801ffe1418186d800004018008000060008000301e00d800000f0000400000080c00 &&& fm = 0x408000490010208020400000000000000008000000000801ffe1418186d800004018008000060008000301e00d800000f0000400000080c00) (hq : 0x7406cffc6 &&& fq = 0x7406cffc6)
    (h0 : Fr fm fq fa b) : Fr fm fq fa (b.heldGoAll) := by
  refine Fr.step ?_ hm hq h0
  clear h0 hq hm
  unfold Block.heldGoAll
  repeat' (first
    | (show _ = _; exact rfl)
    | with_reducible exact Fr.refl _ _ _
    | with_reducible assumption
    | with_reducible apply Fr.each
    | with_reducible apply Block.heldAct_fr
    | (intro _ _ h)
    | dsimp only
    | refine Fr.upd (by (repeat' apply And.intro) <;> first | exact Or.inl rfl | exact Or.inr rfl) ?_)

/-- Frame of `droopEnd`. -/
theorem Block.droopEnd_fr {fm fq : Nat} {fa : Block} (b : Block) (hm : 0x408000490010208020400000000000000008000000102801ffe1418186d800004018008000060008000301e00d800000f0000400000080c00 &&& fm = 0x408000490010208020400000000000000008000000102801ffe1418186d800004018008000060008000301e00d800000f0000400000080c00) (hq : 0x7406cffc6 &&& fq = 0x7406cffc6)
    (h0 : Fr fm fq fa b) : Fr fm fq fa (b.droopEnd) := by
  refine Fr.step ?_ hm hq h0
  clear h0 hq hm
  unfold Block.droopEnd
  repeat' (first
    | (show _ = _; exact rfl)
    | with_reducible exact Fr.refl _ _ _
    | with_reducible assumption
    | with_reducible apply Fr.wr
    | with_reducible apply Block.heldGoAll_fr
    | with_reducible apply Fr.ite
    | split)

/-- Frame of `settled`. -/
theorem Block.settled_fr {fm fq : Nat} {fa : Block} (b : Block) (hm : 0x408000490010208020400000000000000008000000000801ffe1418186d800004018008000060008000301e00d800000f0000400000080c00 &&& fm = 0x408000490010208020400000000000000008000000000801ffe1418186d800004018008000060008000301e00d800000f0000400000080c00) (hq : 0x7406cffc6 &&& fq = 0x7406cffc6)
    (h0 : Fr fm fq fa b) : Fr fm fq fa (b.settled) := by
  refine Fr.step ?_ hm hq h0
  clear h0 hq hm
  unfold Block.settled
  repeat' (first
    | (show _ = _; exact rfl)
    | with_reducible exact Fr.refl _ _ _
    | with_reducible assumption
    | with_reducible apply Block.gaitUp_fr
    | with_reducible apply Block.heldGoAll_fr
    | with_reducible apply Fr.ite
    | split
    | dsimp only
    | refine Fr.upd (by (repeat' apply And.intro) <;> first | exact Or.inl rfl | exact Or.inr rfl) ?_)

/-- Frame of `droopHigh`. -/
theorem Block.droopHigh_fr {fm fq : Nat} {fa : Block} (b : Block) (hm : 0x408000490010208020400000000000000008000000102801ffe1418186d800004018008000060008000301e00d800000f0000400000080c00 &&& fm = 0x408000490010208020400000000000000008000000102801ffe1418186d800004018008000060008000301e00d800000f0000400000080c00) (hq : 0x7406cffc6 &&& fq = 0x7406cffc6)
    (h0 : Fr fm fq fa b) : Fr fm fq fa (b.droopHigh) := by
  refine Fr.step ?_ hm hq h0
  clear h0 hq hm
  unfold Block.droopHigh
  repeat' (first
    | (show _ = _; exact rfl)
    | with_reducible exact Fr.refl _ _ _
    | with_reducible assumption
    | with_reducible apply Block.droopEnd_fr
    | with_reducible apply Fr.ite
    | split
    | refine Fr.upd (by (repeat' apply And.intro) <;> first | exact Or.inl rfl | exact Or.inr rfl) ?_)

/-- Frame of `droopMax`. -/
theorem Block.droopMax_fr {fm fq : Nat} {fa : Block} (b : Block) (hm : 0x408000490010208020400000000000000008000000102801ffe1418186d800004018008000060008000301e00d800000f0000400000080c00 &&& fm = 0x408000490010208020400000000000000008000000102801ffe1418186d800004018008000060008000301e00d800000f0000400000080c00) (hq : 0x7406cffc6 &&& fq = 0x7406cffc6)
    (h0 : Fr fm fq fa b) : Fr fm fq fa (b.droopMax) := by
  refine Fr.step ?_ hm hq h0
  clear h0 hq hm
  unfold Block.droopMax
  repeat' (first
    | (show _ = _; exact rfl)
    | with_reducible exact Fr.refl _ _ _
    | with_reducible assumption
    | with_reducible apply Block.droopEnd_fr
    | with_reducible apply Fr.ite
    | split
    | refine Fr.upd (by (repeat' apply And.intro) <;> first | exact Or.inl rfl | exact Or.inr rfl) ?_)

/-- Frame of `droopEarly`. -/
theorem Block.droopEarly_fr {fm fq : Nat} {fa : Block} (b : Block) (p : Nat) (hm : 0x408000490010208020400000000000000008000000000001ffe1418186d800004018008000060008000301e00d800000f0000400000080c00 &&& fm = 0x408000490010208020400000000000000008000000000001ffe1418186d800004018008000060008000301e00d800000f0000400000080c00) (hq : 0x7406c57c6 &&& fq = 0x7406c57c6)
    (h0 : Fr fm fq fa b) : Fr fm fq fa (b.droopEarly p) := by
  refine Fr.step ?_ hm hq h0
  clear h0 hq hm
  unfold Block.droopEarly
  repeat' (first
    | (show _ = _; exact rfl)
    | with_reducible exact Fr.refl _ _ _
    | with_reducible assumption
    | with_reducible apply Block.dozeFree_fr
    | with_reducible apply Fr.ite
    | split
    | dsimp only
    | refine Fr.upd (by (repeat' apply And.intro) <;> first | exact Or.inl rfl | exact Or.inr rfl) ?_)

/-- Frame of `throttleBit`. -/
theorem Block.throttleBit_fr {fm fq : Nat} {fa : Block} (b : Block) (hm : 0x20000000000000000000000000000000000000000000000000000000000000000000000 &&& fm = 0x20000000000000000000000000000000000000000000000000000000000000000000000) (hq : 0x0 &&& fq = 0x0)
    (h0 : Fr fm fq fa b) : Fr fm fq fa (b.throttleBit) := by
  refine Fr.step ?_ hm hq h0
  clear h0 hq hm
  unfold Block.throttleBit
  repeat' (first
    | (show _ = _; exact rfl)
    | with_reducible exact Fr.refl _ _ _
    | with_reducible assumption
    | with_reducible apply Fr.wr)

/-- Frame of `throttle`. -/
theorem Block.throttle_fr {fm fq : Nat} {fa : Block} (b : Block) (tj : Nat) (hm : 0x408000490010208020400000000000000008000240210801ffe1410186d800004018008000060008000301e00d800000f0000400000080c00 &&& fm = 0x408000490010208020400000000000000008000240210801ffe1410186d800004018008000060008000301e00d800000f0000400000080c00) (hq : 0x7406c57c6 &&& fq = 0x7406c57c6)
    (h0 : Fr fm fq fa b) : Fr fm fq fa (b.throttle tj) := by
  refine Fr.step ?_ hm hq h0
  clear h0 hq hm
  unfold Block.throttle
  repeat' (first
    | (show _ = _; exact rfl)
    | with_reducible exact Fr.refl _ _ _
    | with_reducible assumption
    | with_reducible apply Fr.wr
    | with_reducible apply Fr.incSat
    | with_reducible apply Block.gaitFollow_fr
    | with_reducible apply Block.linksNarrow_fr
    | with_reducible apply Block.narrowBit_fr
    | with_reducible apply Block.throttleBit_fr
    | with_reducible apply Fr.ite
    | split
    | dsimp only)

/-- Frame of `thermUp`. -/
theorem Block.thermUp_fr {fm fq : Nat} {fa : Block} (b : Block) (tj : Nat) (hm : 0x4021080000000000020000000000000000000000000000000000000000000000000000000 &&& fm = 0x4021080000000000020000000000000000000000000000000000000000000000000000000) (hq : 0x140004180 &&& fq = 0x140004180)
    (h0 : Fr fm fq fa b) : Fr fm fq fa (b.thermUp tj) := by
  refine Fr.step ?_ hm hq h0
  clear h0 hq hm
  unfold Block.thermUp
  repeat' (first
    | (show _ = _; exact rfl)
    | with_reducible exact Fr.refl _ _ _
    | with_reducible assumption
    | with_reducible apply Fr.wr
    | with_reducible apply Block.gaitFollow_fr
    | with_reducible apply Block.narrowBit_fr
    | with_reducible apply Block.throttleBit_fr
    | with_reducible apply Block.widenBack_fr
    | with_reducible apply Fr.ite
    | split
    | dsimp only)

/-- Frame of `trip`. -/
theorem Block.trip_fr {fm fq : Nat} {fa : Block} (b : Block) (hm : 0x408000490010208020400000000000000008000240404801ffe1410186d800004018008000060008000301e00d800000f0000400000080c00 &&& fm = 0x408000490010208020400000000000000008000240404801ffe1410186d800004018008000060008000301e00d800000f0000400000080c00) (hq : 0x7406c57c6 &&& fq = 0x7406c57c6)
    (h0 : Fr fm fq fa b) : Fr fm fq fa (b.trip) := by
  refine Fr.step ?_ hm hq h0
  clear h0 hq hm
  unfold Block.trip
  repeat' (first
    | (show _ = _; exact rfl)
    | with_reducible exact Fr.refl _ _ _
    | with_reducible assumption
    | with_reducible apply Fr.wr
    | with_reducible apply Fr.incSat
    | with_reducible apply Block.forceWalk_fr
    | with_reducible apply Block.linksNarrow_fr
    | with_reducible apply Block.narrowBit_fr
    | with_reducible apply Fr.ite
    | split)

/-- Frame of `tripEnd`. -/
theorem Block.tripEnd_fr {fm fq : Nat} {fa : Block} (b : Block) (hm : 0x4040480000000000020000000000000000000000000000000000000000000000000000000 &&& fm = 0x4040480000000000020000000000000000000000000000000000000000000000000000000) (hq : 0x140004182 &&& fq = 0x140004182)
    (h0 : Fr fm fq fa b) : Fr fm fq fa (b.tripEnd) := by
  refine Fr.step ?_ hm hq h0
  clear h0 hq hm
  unfold Block.tripEnd
  repeat' (first
    | (show _ = _; exact rfl)
    | with_reducible exact Fr.refl _ _ _
    | with_reducible assumption
    | with_reducible apply Fr.wr
    | with_reducible apply Fr.useFree
    | with_reducible apply Block.forceWalk_fr
    | with_reducible apply Block.narrowBit_fr
    | with_reducible apply Block.widenBack_fr
    | with_reducible apply Fr.ite
    | split)

/-- Frame of `thermOff`. -/
theorem Block.thermOff_fr {fm fq : Nat} {fa : Block} (b : Block) (hm : 0xffffffc9ffffffbffff9ffc100020000000f800041000001fff1410186d800154fdfe0800db7fffff3ffffff9ffffefcffc00580000080c00 &&& fm = 0xffffffc9ffffffbffff9ffc100020000000f800041000001fff1410186d800154fdfe0800db7fffff3ffffff9ffffefcffc00580000080c00) (hq : 0x7506c5fc6 &&& fq = 0x7506c5fc6)
    (h0 : Fr fm fq fa b) : Fr fm fq fa (b.thermOff) := by
  refine Fr.step ?_ hm hq h0
  clear h0 hq hm
  unfold Block.thermOff
  repeat' (first
    | (show _ = _; exact rfl)
    | with_reducible exact Fr.refl _ _ _
    | with_reducible assumption
    | with_reducible apply Fr.wr
    | with_reducible apply Fr.pinMod
    | with_reducible apply Fr.each
    | with_reducible apply Block.powerDown_fr
    | with_reducible apply Fr.ite
    | (intro _ _ h)
    | split
    | dsimp only
    | refine Fr.upd (by (repeat' apply And.intro) <;> first | exact Or.inl rfl | exact Or.inr rfl) ?_)

/-- Frame of `thermOn`. -/
theorem Block.thermOn_fr {fm fq : Nat} {fa : Block} (b : Block) (hm : 0xffffffffffffffffffffffffffffffffffffffffffffffffffffffffffffffffffffffffffffffffffffffffffffffffffffffffffffffffffffffffffffffff &&& fm = 0xffffffffffffffffffffffffffffffffffffffffffffffffffffffffffffffffffffffffffffffffffffffffffffffffffffffffffffffffffffffffffffffff) (hq : 0x2affdfff1 &&& fq = 0x2affdfff1)
    (h0 : Fr fm fq fa b) : Fr fm fq fa (b.thermOn) := by
  refine Fr.step ?_ hm hq h0
  clear h0 hq hm
  unfold Block.thermOn
  repeat' (first
    | (show _ = _; exact rfl)
    | with_reducible exact Fr.refl _ _ _
    | with_reducible assumption
    | with_reducible apply Block.moduleReset_fr
    | with_reducible apply Fr.ite
    | exact Fr.fullBit _
    | split)

/-- Frame of `standIn`. -/
theorem Block.standIn_fr {fm fq : Nat} {fa : Block} (b : Block) (hm : 0x408000490010208020400000000000000008000000000801ffe1410186d800004018008000060008000301e00d800000f0000400000080c00 &&& fm = 0x408000490010208020400000000000000008000000000801ffe1410186d800004018008000060008000301e00d800000f0000400000080c00) (hq : 0x7406c57c6 &&& fq = 0x7406c57c6)
    (h0 : Fr fm fq fa b) : Fr fm fq fa (b.standIn) := by
  refine Fr.step ?_ hm hq h0
  clear h0 hq hm
  unfold Block.standIn
  repeat' (first
    | (show _ = _; exact rfl)
    | with_reducible exact Fr.refl _ _ _
    | with_reducible assumption
    | with_reducible apply Fr.wr
    | with_reducible apply Fr.each
    | with_reducible apply Block.tthLost_fr
    | with_reducible apply Fr.ite
    | (intro _ _ h)
    | split
    | dsimp only
    | refine Fr.upd (by (repeat' apply And.intro) <;> first | exact Or.inl rfl | exact Or.inr rfl) ?_)

/-- Frame of `refBad`. -/
theorem Block.refBad_fr {fm fq : Nat} {fa : Block} (b : Block) (t : Nat) (hm : 0x0 &&& fm = 0x0) (hq : 0x20000000 &&& fq = 0x20000000)
    (h0 : Fr fm fq fa b) : Fr fm fq fa (b.refBad t) := by
  refine Fr.step ?_ hm hq h0
  clear h0 hq hm
  unfold Block.refBad
  repeat' (first
    | (show _ = _; exact rfl)
    | with_reducible exact Fr.refl _ _ _
    | with_reducible assumption
    | with_reducible apply Fr.ite
    | split
    | dsimp only
    | refine Fr.upd (by (repeat' apply And.intro) <;> first | exact Or.inl rfl | exact Or.inr rfl) ?_)

/-- Frame of `tthRef`. -/
theorem Block.tthRef_fr {fm fq : Nat} {fa : Block} (b : Block) (t : Nat) (hm : 0x0 &&& fm = 0x0) (hq : 0x20000000 &&& fq = 0x20000000)
    (h0 : Fr fm fq fa b) : Fr fm fq fa (b.tthRef t) := by
  refine Fr.step ?_ hm hq h0
  clear h0 hq hm
  unfold Block.tthRef
  repeat' (first
    | (show _ = _; exact rfl)
    | with_reducible exact Fr.refl _ _ _
    | with_reducible assumption
    | with_reducible apply Block.refBad_fr
    | with_reducible apply Fr.ite
    | split
    | dsimp only
    | refine Fr.upd (by (repeat' apply And.intro) <;> first | exact Or.inl rfl | exact Or.inr rfl) ?_)

/-- Frame of `coreRef`. -/
theorem Block.coreRef_fr {fm fq : Nat} {fa : Block} (b : Block) (t : Nat) (hm : 0x0 &&& fm = 0x0) (hq : 0x20000000 &&& fq = 0x20000000)
    (h0 : Fr fm fq fa b) : Fr fm fq fa (b.coreRef t) := by
  refine Fr.step ?_ hm hq h0
  clear h0 hq hm
  unfold Block.coreRef
  repeat' (first
    | (show _ = _; exact rfl)
    | with_reducible exact Fr.refl _ _ _
    | with_reducible assumption
    | with_reducible apply Block.refBad_fr)

end Sys2Proof.Machine
end

