-- ==== Sys2Proof/Laws/FrBoot.lean ====
section
/-! SUPPORT. The frame of every operation of Machine/Boot.lean: the fields and the parts it may change, by bit masks. -/
set_option linter.unusedTactic false
set_option linter.unreachableTactic false
set_option linter.unusedSimpArgs false
set_option linter.unusedVariables false
namespace Sys2Proof.Machine

/-- Frame of `haltSend`. -/
theorem Block.haltSend_fr {fm fq : Nat} {fa : Block} (b : Block) (ty : Nat) (payload : List Byte) (hm : 0x0 &&& fm = 0x0) (hq : 0x48000000 &&& fq = 0x48000000)
    (h0 : Fr fm fq fa b) : Fr fm fq fa (b.haltSend ty payload) := by
  refine Fr.step ?_ hm hq h0
  clear h0 hq hm
  unfold Block.haltSend
  repeat' (first
    | (show _ = _; exact rfl)
    | with_reducible exact Fr.refl _ _ _
    | with_reducible assumption
    | with_reducible apply Fr.emit
    | with_reducible apply Fr.ite
    | split
    | dsimp only
    | refine Fr.upd (by (repeat' apply And.intro) <;> first | exact Or.inl rfl | exact Or.inr rfl) ?_)

/-- Frame of `setStage`. -/
theorem Block.setStage_fr {fm fq : Nat} {fa : Block} (b : Block) (n : Nat) (hm : 0x1000000000000000000000000000000000000000000000000000000000000000000000000000000 &&& fm = 0x1000000000000000000000000000000000000000000000000000000000000000000000000000000) (hq : 0x8000000 &&& fq = 0x8000000)
    (h0 : Fr fm fq fa b) : Fr fm fq fa (b.setStage n) := by
  refine Fr.step ?_ hm hq h0
  clear h0 hq hm
  unfold Block.setStage
  repeat' (first
    | (show _ = _; exact rfl)
    | with_reducible exact Fr.refl _ _ _
    | with_reducible assumption
    | with_reducible apply Fr.wr
    | with_reducible apply Fr.ite
    | split
    | refine Fr.upd (by (repeat' apply And.intro) <;> first | exact Or.inl rfl | exact Or.inr rfl) ?_)

/-- Frame of `takeTree`. -/
theorem Block.takeTree_fr {fm fq : Nat} {fa : Block} (b : Block) (hm : 0x600000000000000000000000000000000000000000000000000000000000000000000000000000000000 &&& fm = 0x600000000000000000000000000000000000000000000000000000000000000000000000000000000000) (hq : 0x4020000 &&& fq = 0x4020000)
    (h0 : Fr fm fq fa b) : Fr fm fq fa (b.takeTree) := by
  refine Fr.step ?_ hm hq h0
  clear h0 hq hm
  unfold Block.takeTree
  repeat' (first
    | (show _ = _; exact rfl)
    | with_reducible exact Fr.refl _ _ _
    | with_reducible assumption
    | with_reducible apply Fr.wr
    | with_reducible apply Fr.ite
    | split
    | dsimp only
    | refine Fr.upd (by (repeat' apply And.intro) <;> first | exact Or.inl rfl | exact Or.inr rfl) ?_)

/-- Frame of `treeDone`. -/
theorem Block.treeDone_fr {fm fq : Nat} {fa : Block} (b : Block) (hm : 0x200000000000000000000000000000000000000000000000000000000000000000000000000000000000 &&& fm = 0x200000000000000000000000000000000000000000000000000000000000000000000000000000000000) (hq : 0x4000000 &&& fq = 0x4000000)
    (h0 : Fr fm fq fa b) : Fr fm fq fa (b.treeDone) := by
  refine Fr.step ?_ hm hq h0
  clear h0 hq hm
  unfold Block.treeDone
  repeat' (first
    | (show _ = _; exact rfl)
    | with_reducible exact Fr.refl _ _ _
    | with_reducible assumption
    | with_reducible apply Fr.wr
    | with_reducible apply Fr.ite
    | split
    | refine Fr.upd (by (repeat' apply And.intro) <;> first | exact Or.inl rfl | exact Or.inr rfl) ?_)

/-- Frame of `setResult`. -/
theorem Block.setResult_fr {fm fq : Nat} {fa : Block} (b : Block) (copyB : Bool) (n : Nat) (hm : 0x30000000000000000000000000000000000000000000000000000000000000000000000000000000 &&& fm = 0x30000000000000000000000000000000000000000000000000000000000000000000000000000000) (hq : 0x0 &&& fq = 0x0)
    (h0 : Fr fm fq fa b) : Fr fm fq fa (b.setResult copyB n) := by
  refine Fr.step ?_ hm hq h0
  clear h0 hq hm
  unfold Block.setResult
  repeat' (first
    | (show _ = _; exact rfl)
    | with_reducible exact Fr.refl _ _ _
    | with_reducible assumption
    | with_reducible apply Fr.wr
    | with_reducible apply Fr.ite
    | split)

/-- Frame of `recoveryIn`. -/
theorem Block.recoveryIn_fr {fm fq : Nat} {fa : Block} (b : Block) (hm : 0xffffffffffffffffffffffffffffffffffffffffffffffffffffffffffffffffffffffffffffffffffffffffffffffffffffffffffffffffffffffffffffffff &&& fm = 0xffffffffffffffffffffffffffffffffffffffffffffffffffffffffffffffffffffffffffffffffffffffffffffffffffffffffffffffffffffffffffffffff) (hq : 0x74a0c57e6 &&& fq = 0x74a0c57e6)
    (h0 : Fr fm fq fa b) : Fr fm fq fa (b.recoveryIn) := by
  refine Fr.step ?_ hm hq h0
  clear h0 hq hm
  unfold Block.recoveryIn
  repeat' (first
    | (show _ = _; exact rfl)
    | with_reducible exact Fr.refl _ _ _
    | with_reducible assumption
    | with_reducible apply Fr.wr
    | with_reducible apply Fr.each
    | with_reducible apply Block.linkDown_fr
    | with_reducible apply Block.setStage_fr
    | with_reducible apply Fr.ite
    | exact Fr.fullBit _
    | (intro _ _ h)
    | split
    | dsimp only
    | refine Fr.updAll rfl (by (repeat' apply And.intro) <;> first | exact Or.inl rfl | exact Or.inr rfl) ?_
    | (intro _ _; exact Fr.fullBit _))

/-- Frame of `imgReqSend`. -/
theorem Block.imgReqSend_fr {fm fq : Nat} {fa : Block} (b : Block) (r : ImgReq) (hm : 0x0 &&& fm = 0x0) (hq : 0x48000000 &&& fq = 0x48000000)
    (h0 : Fr fm fq fa b) : Fr fm fq fa (b.imgReqSend r) := by
  refine Fr.step ?_ hm hq h0
  clear h0 hq hm
  unfold Block.imgReqSend
  repeat' (first
    | (show _ = _; exact rfl)
    | with_reducible exact Fr.refl _ _ _
    | with_reducible assumption
    | with_reducible apply Block.haltSend_fr)

/-- Frame of `imgPump`. -/
theorem Block.imgPump_fr {fm fq : Nat} {fa : Block} (b : Block) (k : Nat) (hm : 0x0 &&& fm = 0x0) (hq : 0x4a000000 &&& fq = 0x4a000000)
    (h0 : Fr fm fq fa b) : Fr fm fq fa (b.imgPump  k) := by
  refine Fr.step ?_ hm hq h0
  clear h0 hq hm
  induction k generalizing b with
  | zero => unfold Block.imgPump; exact Fr.refl _ _ _
  | succ k ih =>
  unfold Block.imgPump
  repeat' (first
    | (show _ = _; exact rfl)
    | with_reducible exact Fr.refl _ _ _
    | with_reducible assumption
    | with_reducible refine Fr.trans ?_ (ih _)
    | with_reducible apply Block.imgReqSend_fr
    | with_reducible apply Fr.ite
    | split
    | dsimp only
    | refine Fr.upd (by (repeat' apply And.intro) <;> first | exact Or.inl rfl | exact Or.inr rfl) ?_)

/-- Frame of `imgData`. -/
theorem Block.imgData_fr {fm fq : Nat} {fa : Block} (b : Block) (off : Nat) (data : List Byte) (hm : 0x0 &&& fm = 0x0) (hq : 0x4a000000 &&& fq = 0x4a000000)
    (h0 : Fr fm fq fa b) : Fr fm fq fa (b.imgData off data) := by
  refine Fr.step ?_ hm hq h0
  clear h0 hq hm
  unfold Block.imgData
  repeat' (first
    | (show _ = _; exact rfl)
    | with_reducible exact Fr.refl _ _ _
    | with_reducible assumption
    | with_reducible apply Block.imgPump_fr
    | with_reducible apply Block.imgReqSend_fr
    | with_reducible apply Fr.ite
    | split
    | dsimp only
    | refine Fr.upd (by (repeat' apply And.intro) <;> first | exact Or.inl rfl | exact Or.inr rfl) ?_)

/-- Frame of `imgLate`. -/
theorem Block.imgLate_fr {fm fq : Nat} {fa : Block} (b : Block) (hm : 0xffffffffffffffffffffffffffffffffffffffffffffffffffffffffffffffffffffffffffffffffffffffffffffffffffffffffffffffffffffffffffffffff &&& fm = 0xffffffffffffffffffffffffffffffffffffffffffffffffffffffffffffffffffffffffffffffffffffffffffffffffffffffffffffffffffffffffffffffff) (hq : 0x74a0c57e6 &&& fq = 0x74a0c57e6)
    (h0 : Fr fm fq fa b) : Fr fm fq fa (b.imgLate) := by
  refine Fr.step ?_ hm hq h0
  clear h0 hq hm
  unfold Block.imgLate
  repeat' (first
    | (show _ = _; exact rfl)
    | with_reducible exact Fr.refl _ _ _
    | with_reducible assumption
    | with_reducible apply Block.imgReqSend_fr
    | with_reducible apply Block.recoveryIn_fr
    | with_reducible apply Fr.ite
    | exact Fr.fullBit _
    | split
    | refine Fr.upd (by (repeat' apply And.intro) <;> first | exact Or.inl rfl | exact Or.inr rfl) ?_)

/-- Frame of `readNext`. -/
theorem Block.readNext_fr {fm fq : Nat} {fa : Block} (b : Block) (hm : 0xffffffffffffffffffffffffffffffffffffffffffffffffffffffffffffffffffffffffffffffffffffffffffffffffffffffffffffffffffffffffffffffff &&& fm = 0xffffffffffffffffffffffffffffffffffffffffffffffffffffffffffffffffffffffffffffffffffffffffffffffffffffffffffffffffffffffffffffffff) (hq : 0x74a0c57e6 &&& fq = 0x74a0c57e6)
    (h0 : Fr fm fq fa b) : Fr fm fq fa (b.readNext) := by
  refine Fr.step ?_ hm hq h0
  clear h0 hq hm
  unfold Block.readNext
  repeat' (first
    | (show _ = _; exact rfl)
    | with_reducible exact Fr.refl _ _ _
    | with_reducible assumption
    | with_reducible apply Fr.wr
    | with_reducible apply Block.imgPump_fr
    | with_reducible apply Block.recoveryIn_fr
    | with_reducible apply Block.setStage_fr
    | exact Fr.fullBit _
    | split)

/-- Frame of `bootGo`. -/
theorem Block.bootGo_fr {fm fq : Nat} {fa : Block} (b : Block) (good : Nat → Bool) (hm : 0xffffffffffffffffffffffffffffffffffffffffffffffffffffffffffffffffffffffffffffffffffffffffffffffffffffffffffffffffffffffffffffffff &&& fm = 0xffffffffffffffffffffffffffffffffffffffffffffffffffffffffffffffffffffffffffffffffffffffffffffffffffffffffffffffffffffffffffffffff) (hq : 0x77e0e57e6 &&& fq = 0x77e0e57e6)
    (h0 : Fr fm fq fa b) : Fr fm fq fa (b.bootGo good) := by
  refine Fr.step ?_ hm hq h0
  clear h0 hq hm
  unfold Block.bootGo
  repeat' (first
    | (show _ = _; exact rfl)
    | with_reducible exact Fr.refl _ _ _
    | with_reducible assumption
    | with_reducible apply Fr.wr
    | with_reducible apply Block.readNext_fr
    | with_reducible apply Block.setResult_fr
    | with_reducible apply Block.takeTree_fr
    | with_reducible apply Fr.ite
    | exact Fr.fullBit _
    | split
    | dsimp only
    | refine Fr.upd (by (repeat' apply And.intro) <;> first | exact Or.inl rfl | exact Or.inr rfl) ?_)

/-- Frame of `groupsIn`. -/
theorem Block.groupsIn_fr {fm fq : Nat} {fa : Block} (b : Block) (gs : List GroupRec) (ds : List SDieRec) (hm : 0xffffffffffffffffffffffffffffffffffffffffffffffffffffffffffffffffffffffffffffffffffffffffffffffffffffffffffffffffffffffffffffffff &&& fm = 0xffffffffffffffffffffffffffffffffffffffffffffffffffffffffffffffffffffffffffffffffffffffffffffffffffffffffffffffffffffffffffffffff) (hq : 0x8001020 &&& fq = 0x8001020)
    (h0 : Fr fm fq fa b) : Fr fm fq fa (b.groupsIn gs ds) := by
  refine Fr.step ?_ hm hq h0
  clear h0 hq hm
  unfold Block.groupsIn
  repeat' (first
    | (show _ = _; exact rfl)
    | with_reducible exact Fr.refl _ _ _
    | with_reducible assumption
    | with_reducible apply Fr.grMod
    | with_reducible apply Fr.each
    | with_reducible apply Block.clockIn_fr
    | with_reducible apply Block.setStage_fr
    | with_reducible apply Fr.ite
    | exact Fr.fullBit _
    | (intro _ _ h)
    | split
    | dsimp only
    | refine Fr.updAll rfl (by (repeat' apply And.intro) <;> first | exact Or.inl rfl | exact Or.inr rfl) ?_
    | (intro _ _; exact Fr.fullBit _))

/-- Frame of `flashSeen`. -/
theorem Block.flashSeen_fr {fm fq : Nat} {fa : Block} (b : Block) (src : ImgSrc) (c : ImageCopy) (hm : 0x7800000000000000000000000000000000000000000000000000000000000000000000000000000000000 &&& fm = 0x7800000000000000000000000000000000000000000000000000000000000000000000000000000000000) (hq : 0x0 &&& fq = 0x0)
    (h0 : Fr fm fq fa b) : Fr fm fq fa (b.flashSeen src c) := by
  refine Fr.step ?_ hm hq h0
  clear h0 hq hm
  unfold Block.flashSeen
  repeat' (first
    | (show _ = _; exact rfl)
    | with_reducible exact Fr.refl _ _ _
    | with_reducible assumption
    | with_reducible apply Fr.wr
    | with_reducible apply Fr.ite
    | split)

/-- Frame of `copyDone`. -/
theorem Block.copyDone_fr {fm fq : Nat} {fa : Block} (b : Block) (src : ImgSrc) (c : ImageCopy) (hm : 0xffffffffffffffffffffffffffffffffffffffffffffffffffffffffffffffffffffffffffffffffffffffffffffffffffffffffffffffffffffffffffffffff &&& fm = 0xffffffffffffffffffffffffffffffffffffffffffffffffffffffffffffffffffffffffffffffffffffffffffffffffffffffffffffffffffffffffffffffff) (hq : 0x74a0c57e6 &&& fq = 0x74a0c57e6)
    (h0 : Fr fm fq fa b) : Fr fm fq fa (b.copyDone src c) := by
  refine Fr.step ?_ hm hq h0
  clear h0 hq hm
  unfold Block.copyDone
  repeat' (first
    | (show _ = _; exact rfl)
    | with_reducible exact Fr.refl _ _ _
    | with_reducible assumption
    | with_reducible apply Fr.wr
    | with_reducible apply Block.flashSeen_fr
    | with_reducible apply Block.readNext_fr
    | with_reducible apply Block.setResult_fr
    | with_reducible apply Block.setStage_fr
    | with_reducible apply Fr.ite
    | exact Fr.fullBit _
    | split
    | dsimp only
    | refine Fr.upd (by (repeat' apply And.intro) <;> first | exact Or.inl rfl | exact Or.inr rfl) ?_)

/-- Frame of `ready`. -/
theorem Block.ready_fr {fm fq : Nat} {fa : Block} (b : Block) (hm : 0xffffffffffffffffffffffffffffffffffffffffffffffffffffffffffffffffffffffffffffffffffffffffffffffffffffffffffffffffffffffffffffffff &&& fm = 0xffffffffffffffffffffffffffffffffffffffffffffffffffffffffffffffffffffffffffffffffffffffffffffffffffffffffffffffffffffffffffffffff) (hq : 0x74e5d77f6 &&& fq = 0x74e5d77f6)
    (h0 : Fr fm fq fa b) : Fr fm fq fa (b.ready) := by
  refine Fr.step ?_ hm hq h0
  clear h0 hq hm
  unfold Block.ready
  repeat' (first
    | (show _ = _; exact rfl)
    | with_reducible exact Fr.refl _ _ _
    | with_reducible assumption
    | with_reducible apply Fr.wr
    | with_reducible apply Fr.grMod
    | with_reducible apply Fr.useFree
    | with_reducible apply Fr.each
    | with_reducible apply Block.bucketFill_fr
    | with_reducible apply Block.clockIn_fr
    | with_reducible apply Block.gaitFollow_fr
    | with_reducible apply Block.groupReset_fr
    | with_reducible apply Block.portRec_fr
    | with_reducible apply Block.powerOn_fr
    | with_reducible apply Block.setStage_fr
    | with_reducible apply Block.unset_fr
    | with_reducible apply Fr.ite
    | exact Fr.fullBit _
    | (intro _ _ h)
    | split
    | dsimp only
    | refine Fr.updAll rfl (by (repeat' apply And.intro) <;> first | exact Or.inl rfl | exact Or.inr rfl) ?_
    | (intro _ _; exact Fr.fullBit _))

/-- Frame of `svnAdvance`. -/
theorem Block.svnAdvance_fr {fm fq : Nat} {fa : Block} (b : Block) (hm : 0x0 &&& fm = 0x0) (hq : 0x20000 &&& fq = 0x20000)
    (h0 : Fr fm fq fa b) : Fr fm fq fa (b.svnAdvance) := by
  refine Fr.step ?_ hm hq h0
  clear h0 hq hm
  unfold Block.svnAdvance
  repeat' (first
    | (show _ = _; exact rfl)
    | with_reducible exact Fr.refl _ _ _
    | with_reducible assumption
    | with_reducible apply Fr.ite
    | split
    | refine Fr.upd (by (repeat' apply And.intro) <;> first | exact Or.inl rfl | exact Or.inr rfl) ?_)

/-- Frame of `activate`. -/
theorem Block.activate_fr {fm fq : Nat} {fa : Block} (b : Block) (copyB : Bool) (hm : 0xffffffffffffffffffffffffffffffffffffffffffffffffffffffffffffffffffffffffffffffffffffffffffffffffffffffffffffffffffffffffffffffff &&& fm = 0xffffffffffffffffffffffffffffffffffffffffffffffffffffffffffffffffffffffffffffffffffffffffffffffffffffffffffffffffffffffffffffffff) (hq : 0x2affdfff1 &&& fq = 0x2affdfff1)
    (h0 : Fr fm fq fa b) : Fr fm fq fa (b.activate copyB) := by
  refine Fr.step ?_ hm hq h0
  clear h0 hq hm
  unfold Block.activate
  repeat' (first
    | (show _ = _; exact rfl)
    | with_reducible exact Fr.refl _ _ _
    | with_reducible assumption
    | with_reducible apply Fr.wr
    | with_reducible apply Block.askReset_fr
    | with_reducible apply Fr.ite
    | exact Fr.fullBit _
    | split)

end Sys2Proof.Machine
end

