-- ==== Sys2Proof/Laws/FrGroom.lean ====
section
/-! SUPPORT. The frame of every operation of Machine/Groom.lean: the fields and the parts it may change, by bit masks. -/
set_option linter.unusedTactic false
set_option linter.unreachableTactic false
set_option linter.unusedSimpArgs false
set_option linter.unusedVariables false
namespace Sys2Proof.Machine

/-- Frame of `gMod`. -/
theorem Block.gMod_fr {fm fq : Nat} {fa : Block} (b : Block) (g : GroomDyn → GroomDyn) (hm : 0x0 &&& fm = 0x0) (hq : 0x4000000 &&& fq = 0x4000000)
    (h0 : Fr fm fq fa b) : Fr fm fq fa (b.gMod g) := by
  refine Fr.step ?_ hm hq h0
  clear h0 hq hm
  unfold Block.gMod
  repeat' (first
    | (show _ = _; exact rfl)
    | with_reducible exact Fr.refl _ _ _
    | with_reducible assumption
    | refine Fr.upd (by (repeat' apply And.intro) <;> first | exact Or.inl rfl | exact Or.inr rfl) ?_)

/-- Frame of `pairStop`. -/
theorem Block.pairStop_fr {fm fq : Nat} {fa : Block} (b : Block) (ok0 ok1 wdt : Bool) (hm : 0x60000000000000000000000000000000000000000000000000000000000000000000000000000000000000 &&& fm = 0x60000000000000000000000000000000000000000000000000000000000000000000000000000000000000) (hq : 0x4010000 &&& fq = 0x4010000)
    (h0 : Fr fm fq fa b) : Fr fm fq fa (b.pairStop ok0 ok1 wdt) := by
  refine Fr.step ?_ hm hq h0
  clear h0 hq hm
  unfold Block.pairStop
  repeat' (first
    | (show _ = _; exact rfl)
    | with_reducible exact Fr.refl _ _ _
    | with_reducible assumption
    | with_reducible apply Fr.wr
    | with_reducible apply Fr.incSat
    | with_reducible apply Block.gMod_fr
    | with_reducible apply Fr.ite
    | with_reducible apply Block.stumCount_fr
    | (refine Block.stumCount_of ‹_ = (_, _)› ?_ ?_)
    | split
    | dsimp only
    | refine Fr.upd (by (repeat' apply And.intro) <;> first | exact Or.inl rfl | exact Or.inr rfl) ?_)

/-- Frame of `busy`. -/
theorem Block.busy_fr {fm fq : Nat} {fa : Block} (b : Block) (tr : Transport) (hm : 0x40000008000000000000000000000000000000000000004018008000000000000000000000000000000000000000000 &&& fm = 0x40000008000000000000000000000000000000000000004018008000000000000000000000000000000000000000000) (hq : 0x440005300 &&& fq = 0x440005300)
    (h0 : Fr fm fq fa b) : Fr fm fq fa (b.busy tr) := by
  refine Fr.step ?_ hm hq h0
  clear h0 hq hm
  unfold Block.busy
  repeat' (first
    | (show _ = _; exact rfl)
    | with_reducible exact Fr.refl _ _ _
    | with_reducible assumption
    | with_reducible apply Fr.incSat
    | with_reducible apply Block.answer_fr)

/-- Frame of `takeover`. -/
theorem Block.takeover_fr {fm fq : Nat} {fa : Block} (b : Block) (hm : 0xffffffffffffffffffffffffffffffffffffffffffffffffffffffffffffffffffffffffffffffffffffffffffffffffffffffffffffffffffffffffffffffff &&& fm = 0xffffffffffffffffffffffffffffffffffffffffffffffffffffffffffffffffffffffffffffffffffffffffffffffffffffffffffffffffffffffffffffffff) (hq : 0x6effffff1 &&& fq = 0x6effffff1)
    (h0 : Fr fm fq fa b) : Fr fm fq fa (b.takeover) := by
  refine Fr.step ?_ hm hq h0
  clear h0 hq hm
  unfold Block.takeover
  repeat' (first
    | (show _ = _; exact rfl)
    | with_reducible exact Fr.refl _ _ _
    | with_reducible assumption
    | with_reducible apply Fr.wr
    | with_reducible apply Fr.incSat
    | with_reducible apply Fr.setBits
    | with_reducible apply Fr.each
    | with_reducible apply Block.busy_fr
    | with_reducible apply Block.escalate_fr
    | with_reducible apply Block.gMod_fr
    | with_reducible apply Block.gaitUp_fr
    | with_reducible apply Block.takeTree_fr
    | with_reducible apply Fr.ite
    | exact Fr.fullBit _
    | (intro _ _ h)
    | split
    | dsimp only
    | refine Fr.upd (by (repeat' apply And.intro) <;> first | exact Or.inl rfl | exact Or.inr rfl) ?_)

/-- Frame of `shedUp`. -/
theorem Block.shedUp_fr {fm fq : Nat} {fa : Block} (b : Block) (oldestUs : Nat) (hm : 0x10400000000000000000000000000000000000000000000000000000000000000000000000000000000000000 &&& fm = 0x10400000000000000000000000000000000000000000000000000000000000000000000000000000000000000) (hq : 0x0 &&& fq = 0x0)
    (h0 : Fr fm fq fa b) : Fr fm fq fa (b.shedUp oldestUs) := by
  refine Fr.step ?_ hm hq h0
  clear h0 hq hm
  unfold Block.shedUp
  repeat' (first
    | (show _ = _; exact rfl)
    | with_reducible exact Fr.refl _ _ _
    | with_reducible assumption
    | with_reducible apply Fr.wr
    | with_reducible apply Fr.incSat
    | with_reducible apply Fr.ite
    | split
    | dsimp only)

/-- Frame of `shedDown`. -/
theorem Block.shedDown_fr {fm fq : Nat} {fa : Block} (b : Block) (oldestUs : Nat) (hm : 0x400000000000000000000000000000000000000000000000000000000000000000000000000000000000000 &&& fm = 0x400000000000000000000000000000000000000000000000000000000000000000000000000000000000000) (hq : 0x0 &&& fq = 0x0)
    (h0 : Fr fm fq fa b) : Fr fm fq fa (b.shedDown oldestUs) := by
  refine Fr.step ?_ hm hq h0
  clear h0 hq hm
  unfold Block.shedDown
  repeat' (first
    | (show _ = _; exact rfl)
    | with_reducible exact Fr.refl _ _ _
    | with_reducible assumption
    | with_reducible apply Fr.wr
    | with_reducible apply Fr.ite
    | split
    | dsimp only)

/-- Frame of `frame`. -/
theorem Block.frame_fr {fm fq : Nat} {fa : Block} (b : Block) (pt fh be oldest : Nat) (hm : 0x10780000000000000000000000000000000000000000000000000000000000000000000000000000000000000 &&& fm = 0x10780000000000000000000000000000000000000000000000000000000000000000000000000000000000000) (hq : 0x4000000 &&& fq = 0x4000000)
    (h0 : Fr fm fq fa b) : Fr fm fq fa (b.frame pt fh be oldest) := by
  refine Fr.step ?_ hm hq h0
  clear h0 hq hm
  unfold Block.frame
  repeat' (first
    | (show _ = _; exact rfl)
    | with_reducible exact Fr.refl _ _ _
    | with_reducible assumption
    | with_reducible apply Fr.wr
    | with_reducible apply Block.gMod_fr
    | with_reducible apply Block.shedDown_fr
    | with_reducible apply Block.shedUp_fr
    | with_reducible apply Fr.ite
    | split
    | dsimp only
    | refine Fr.upd (by (repeat' apply And.intro) <;> first | exact Or.inl rfl | exact Or.inr rfl) ?_)

/-- Frame of `arrive`. -/
theorem Block.arrive_fr {fm fq : Nat} {fa : Block} (b : Block) (tr : Transport) (accepted : Bool) (g : Block → Block) (hg : ∀ b, Fr fm fq fa b → Fr fm fq fa (g b)) (hm : 0x2040000000000000000000080000000000000000000000000000000000000000000000000000000000000000000 &&& fm = 0x2040000000000000000000080000000000000000000000000000000000000000000000000000000000000000000) (hq : 0x4000 &&& fq = 0x4000)
    (h0 : Fr fm fq fa b) : Fr fm fq fa (b.arrive tr accepted g) := by
  unfold Block.arrive
  repeat' (first
    | (show _ = _; exact rfl)
    | with_reducible exact Fr.refl _ _ _
    | with_reducible assumption
    | with_reducible apply hg
    | exact Fr.sub_trans rfl hm
    | exact Fr.sub_trans rfl hq
    | exact Fr.sub_bit (m' := 0x2040000000000000000000080000000000000000000000000000000000000000000000000000000000000000000) rfl hm
    | exact Fr.sub_bit (m' := 0x4000) rfl hq
    | with_reducible apply Fr.incSat
    | with_reducible apply Block.standWake_fr
    | with_reducible apply Fr.ite
    | split
    | dsimp only)

/-- Frame of `serve`. -/
theorem Block.serve_fr {fm fq : Nat} {fa : Block} (b : Block) (tr : Transport) (accepted : Bool) (g : Block → Block) (hg : ∀ b, Fr fm fq fa b → Fr fm fq fa (g b)) (hm : 0x40002048400000000000000000080000000000000000004018008000000000000000000000000000000000000000000 &&& fm = 0x40002048400000000000000000080000000000000000004018008000000000000000000000000000000000000000000) (hq : 0x444005300 &&& fq = 0x444005300)
    (h0 : Fr fm fq fa b) : Fr fm fq fa (b.serve tr accepted g) := by
  unfold Block.serve
  repeat' (first
    | (show _ = _; exact rfl)
    | with_reducible exact Fr.refl _ _ _
    | with_reducible assumption
    | with_reducible apply hg
    | exact Fr.sub_trans rfl hm
    | exact Fr.sub_trans rfl hq
    | exact Fr.sub_bit (m' := 0x40002048400000000000000000080000000000000000004018008000000000000000000000000000000000000000000) rfl hm
    | exact Fr.sub_bit (m' := 0x444005300) rfl hq
    | with_reducible apply Block.arrive_fr
    | with_reducible apply Block.busy_fr
    | with_reducible apply Block.gMod_fr
    | with_reducible apply Block.shedDown_fr
    | with_reducible apply Fr.ite
    | (intro _ _ h)
    | (intro _ h)
    | split
    | dsimp only
    | refine Fr.upd (by (repeat' apply And.intro) <;> first | exact Or.inl rfl | exact Or.inr rfl) ?_)

/-- Frame of `mctpIn`. -/
theorem Block.mctpIn_fr {fm fq : Nat} {fa : Block} (b : Block) (tr : Transport) (ty : Nat) (hm : 0x40002058400000000000000000080000000000000000004018008000000000000000000000000000000000000000000 &&& fm = 0x40002058400000000000000000080000000000000000004018008000000000000000000000000000000000000000000) (hq : 0x444005300 &&& fq = 0x444005300)
    (h0 : Fr fm fq fa b) : Fr fm fq fa (b.mctpIn tr ty) := by
  refine Fr.step ?_ hm hq h0
  clear h0 hq hm
  unfold Block.mctpIn
  repeat' (first
    | (show _ = _; exact rfl)
    | with_reducible exact Fr.refl _ _ _
    | with_reducible assumption
    | with_reducible apply Block.arrive_fr
    | with_reducible apply Block.busy_fr
    | with_reducible apply Block.gMod_fr
    | with_reducible apply Block.shedUp_fr
    | with_reducible apply Fr.ite
    | (intro _ _ h)
    | (intro _ h)
    | split
    | dsimp only
    | refine Fr.upd (by (repeat' apply And.intro) <;> first | exact Or.inl rfl | exact Or.inr rfl) ?_)

/-- Frame of `doeIn`. -/
theorem Block.doeIn_fr {fm fq : Nat} {fa : Block} (b : Block) (f : FnIx) (obj : Nat) (hm : 0x40002058400000000000000000080000000000000000004018008000000000000000000000000000000000000000000 &&& fm = 0x40002058400000000000000000080000000000000000004018008000000000000000000000000000000000000000000) (hq : 0x444005300 &&& fq = 0x444005300)
    (h0 : Fr fm fq fa b) : Fr fm fq fa (b.doeIn f obj) := by
  refine Fr.step ?_ hm hq h0
  clear h0 hq hm
  unfold Block.doeIn
  repeat' (first
    | (show _ = _; exact rfl)
    | with_reducible exact Fr.refl _ _ _
    | with_reducible assumption
    | with_reducible apply Fr.incSat
    | with_reducible apply Fr.fnMod
    | with_reducible apply Block.answer_fr
    | with_reducible apply Block.arrive_fr
    | with_reducible apply Block.gMod_fr
    | with_reducible apply Block.shedUp_fr
    | with_reducible apply Fr.ite
    | (intro _ _ h)
    | (intro _ h)
    | split
    | dsimp only
    | refine Fr.upd (by (repeat' apply And.intro) <;> first | exact Or.inl rfl | exact Or.inr rfl) ?_)

/-- Frame of `telemetry`. -/
theorem Block.telemetry_fr {fm fq : Nat} {fa : Block} (b : Block) (vin iin : Nat) (temps : List Nat) (hm : 0x4c00000000000000000000000000000000000000000000000000000000000000000000000 &&& fm = 0x4c00000000000000000000000000000000000000000000000000000000000000000000000) (hq : 0x4000000 &&& fq = 0x4000000)
    (h0 : Fr fm fq fa b) : Fr fm fq fa (b.telemetry vin iin temps) := by
  refine Fr.step ?_ hm hq h0
  clear h0 hq hm
  unfold Block.telemetry
  repeat' (first
    | (show _ = _; exact rfl)
    | with_reducible exact Fr.refl _ _ _
    | with_reducible assumption
    | with_reducible apply Fr.wr
    | with_reducible apply Block.gMod_fr
    | with_reducible apply Fr.ite
    | split
    | dsimp only
    | refine Fr.upd (by (repeat' apply And.intro) <;> first | exact Or.inl rfl | exact Or.inr rfl) ?_)

/-- Frame of `regsRead`. -/
theorem Block.regsRead_fr {fm fq : Nat} {fa : Block} (b : Block) (a k : Nat) (acc : List Nat) (hm : 0x70780400000000000780000000000d27e40000000bf00000000000c0000000060000000000f00000000000f0000 &&& fm = 0x70780400000000000780000000000d27e40000000bf00000000000c0000000060000000000f00000000000f0000) (hq : 0x2 &&& fq = 0x2)
    (h0 : Fr fm fq fa b) : Fr fm fq fa (b.regsRead a k acc).1 := by
  induction k generalizing b a acc with
  | zero => exact h0
  | succ k ih =>
    unfold Block.regsRead
    split
    · exact ih _ _ _ (Block.regReadEff_fr _ _ _ hm hq h0)
    · exact ih _ _ _ h0

/-- Frame of `bypassWrite`. -/
theorem Block.bypassWrite_fr {fm fq : Nat} {fa : Block} (b : Block) (v : Bool) (hm : 0x4900000000000000000000000000000000000000000000000000000000000000000000000000000000000000000 &&& fm = 0x4900000000000000000000000000000000000000000000000000000000000000000000000000000000000000000) (hq : 0x0 &&& fq = 0x0)
    (h0 : Fr fm fq fa b) : Fr fm fq fa (b.bypassWrite v) := by
  refine Fr.step ?_ hm hq h0
  clear h0 hq hm
  unfold Block.bypassWrite
  repeat' (first
    | (show _ = _; exact rfl)
    | with_reducible exact Fr.refl _ _ _
    | with_reducible assumption
    | with_reducible apply Fr.wr
    | with_reducible apply Block.bypassClose_fr
    | with_reducible apply Fr.ite
    | split
    | dsimp only)

/-- Frame of `internalWrite`. -/
theorem Block.internalWrite_fr {fm fq : Nat} {fa : Block} (b : Block) (a v : Nat) (hm : 0x70fffffffffffffffdffffc907800002000f8c0030008fffffe1d91bffffffc0401800bff7c72008000f79e08d83fefcfbc004bf80008ffff &&& fm = 0x70fffffffffffffffdffffc907800002000f8c0030008fffffe1d91bffffffc0401800bff7c72008000f79e08d83fefcfbc004bf80008ffff) (hq : 0x7406f7fc6 &&& fq = 0x7406f7fc6)
    (h0 : Fr fm fq fa b) : Fr fm fq fa (b.internalWrite a v) := by
  refine Fr.step ?_ hm hq h0
  clear h0 hq hm
  unfold Block.internalWrite
  repeat' (first
    | (show _ = _; exact rfl)
    | with_reducible exact Fr.refl _ _ _
    | with_reducible assumption
    | with_reducible apply Fr.ttMod
    | with_reducible apply Block.bypassWrite_fr
    | with_reducible apply Block.linksNarrow_fr
    | with_reducible apply Block.regWrite_fr
    | with_reducible apply Block.svnAdvance_fr
    | with_reducible apply Block.targetWrite_fr
    | with_reducible apply Block.tthLost_fr
    | with_reducible apply Block.tthReset_fr
    | with_reducible apply Fr.ite
    | split
    | dsimp only
    | refine Fr.upd (by (repeat' apply And.intro) <;> first | exact Or.inl rfl | exact Or.inr rfl) ?_)

/-- Frame of `accRead`. -/
theorem Block.accRead_fr {fm fq : Nat} {fa : Block} (b : Block) (tr : Transport) (a n : Nat) (hm : 0x400070784400000000000780000800000d27e40000000bf01800800000c0000000060000000000f00000000000f0000 &&& fm = 0x400070784400000000000780000800000d27e40000000bf01800800000c0000000060000000000f00000000000f0000) (hq : 0x444005302 &&& fq = 0x444005302)
    (h0 : Fr fm fq fa b) : Fr fm fq fa (b.accRead tr a n) := by
  refine Fr.step ?_ hm hq h0
  clear h0 hq hm
  unfold Block.accRead
  repeat' (first
    | (show _ = _; exact rfl)
    | with_reducible exact Fr.refl _ _ _
    | with_reducible assumption
    | with_reducible apply Block.answer_fr
    | with_reducible apply Block.regsRead_fr
    | with_reducible apply Block.serve_fr
    | with_reducible apply Fr.ite
    | (intro _ _ h)
    | (intro _ h)
    | split
    | dsimp only)

/-- Frame of `accWrite`. -/
theorem Block.accWrite_fr {fm fq : Nat} {fa : Block} (b : Block) (tr : Transport) (a : Nat) (ds : List Nat) (hm : 0x70fffffffffffffffdffffe94fc00002000f8c0030008fffffe1d91bffffffc0401800bff7c72008000f79e08d83fefcfbc004bf80008ffff &&& fm = 0x70fffffffffffffffdffffe94fc00002000f8c0030008fffffe1d91bffffffc0401800bff7c72008000f79e08d83fefcfbc004bf80008ffff) (hq : 0x7446f7fc6 &&& fq = 0x7446f7fc6)
    (h0 : Fr fm fq fa b) : Fr fm fq fa (b.accWrite tr a ds) := by
  refine Fr.step ?_ hm hq h0
  clear h0 hq hm
  unfold Block.accWrite
  repeat' (first
    | (show _ = _; exact rfl)
    | with_reducible exact Fr.refl _ _ _
    | with_reducible assumption
    | with_reducible apply Fr.each
    | with_reducible apply Block.answer_fr
    | with_reducible apply Block.internalWrite_fr
    | with_reducible apply Block.serve_fr
    | with_reducible apply Fr.ite
    | (intro _ _ h)
    | (intro _ h)
    | split
    | dsimp only)

/-- Frame of `accReset`. -/
theorem Block.accReset_fr {fm fq : Nat} {fa : Block} (b : Block) (tr : Transport) (hm : 0xffffffffffffffffffffffffffffffffffffffffffffffffffffffffffffffffffffffffffffffffffffffffffffffffffffffffffffffffffffffffffffffff &&& fm = 0xffffffffffffffffffffffffffffffffffffffffffffffffffffffffffffffffffffffffffffffffffffffffffffffffffffffffffffffffffffffffffffffff) (hq : 0x6effdfff1 &&& fq = 0x6effdfff1)
    (h0 : Fr fm fq fa b) : Fr fm fq fa (b.accReset tr) := by
  refine Fr.step ?_ hm hq h0
  clear h0 hq hm
  unfold Block.accReset
  repeat' (first
    | (show _ = _; exact rfl)
    | with_reducible exact Fr.refl _ _ _
    | with_reducible assumption
    | with_reducible apply Block.answer_fr
    | with_reducible apply Block.askReset_fr
    | with_reducible apply Block.serve_fr
    | with_reducible apply Fr.ite
    | exact Fr.fullBit _
    | (intro _ _ h)
    | (intro _ h)
    | split
    | dsimp only)

/-- Frame of `sensorRead`. -/
theorem Block.sensorRead_fr {fm fq : Nat} {fa : Block} (b : Block) (tr : Transport) (n : Nat) (hm : 0x40002048400000000000000000080000000000000000004018008000000000000000000000000000000000000000000 &&& fm = 0x40002048400000000000000000080000000000000000004018008000000000000000000000000000000000000000000) (hq : 0x444005300 &&& fq = 0x444005300)
    (h0 : Fr fm fq fa b) : Fr fm fq fa (b.sensorRead tr n) := by
  refine Fr.step ?_ hm hq h0
  clear h0 hq hm
  unfold Block.sensorRead
  repeat' (first
    | (show _ = _; exact rfl)
    | with_reducible exact Fr.refl _ _ _
    | with_reducible assumption
    | with_reducible apply Block.answer_fr
    | with_reducible apply Block.serve_fr
    | with_reducible apply Fr.ite
    | (intro _ _ h)
    | (intro _ h)
    | split
    | dsimp only)

/-- Frame of `eidSet`. -/
theorem Block.eidSet_fr {fm fq : Nat} {fa : Block} (b : Block) (tr : Transport) (e : Nat) (hm : 0x40002048400000000000000000080000000000000000004018008000000000000000000000000000000000000000000 &&& fm = 0x40002048400000000000000000080000000000000000004018008000000000000000000000000000000000000000000) (hq : 0x444005300 &&& fq = 0x444005300)
    (h0 : Fr fm fq fa b) : Fr fm fq fa (b.eidSet tr e) := by
  refine Fr.step ?_ hm hq h0
  clear h0 hq hm
  unfold Block.eidSet
  repeat' (first
    | (show _ = _; exact rfl)
    | with_reducible exact Fr.refl _ _ _
    | with_reducible assumption
    | with_reducible apply Block.answer_fr
    | with_reducible apply Block.gMod_fr
    | with_reducible apply Block.serve_fr
    | with_reducible apply Fr.ite
    | (intro _ _ h)
    | (intro _ h)
    | split
    | dsimp only
    | refine Fr.upd (by (repeat' apply And.intro) <;> first | exact Or.inl rfl | exact Or.inr rfl) ?_)

/-- Frame of `updateEnd`. -/
theorem Block.updateEnd_fr {fm fq : Nat} {fa : Block} (b : Block) (tr : Transport) (copyB : Bool) (c : ImageCopy) (hm : 0xffffffffffffffffffffffffffffffffffffffffffffffffffffffffffffffffffffffffffffffffffffffffffffffffffffffffffffffffffffffffffffffff &&& fm = 0xffffffffffffffffffffffffffffffffffffffffffffffffffffffffffffffffffffffffffffffffffffffffffffffffffffffffffffffffffffffffffffffff) (hq : 0x6effffff1 &&& fq = 0x6effffff1)
    (h0 : Fr fm fq fa b) : Fr fm fq fa (b.updateEnd tr copyB c) := by
  refine Fr.step ?_ hm hq h0
  clear h0 hq hm
  unfold Block.updateEnd
  repeat' (first
    | (show _ = _; exact rfl)
    | with_reducible exact Fr.refl _ _ _
    | with_reducible assumption
    | with_reducible apply Block.answer_fr
    | with_reducible apply Block.gMod_fr
    | with_reducible apply Block.moduleReset_fr
    | with_reducible apply Block.setResult_fr
    | with_reducible apply Fr.ite
    | exact Fr.fullBit _
    | split
    | dsimp only
    | refine Fr.upd (by (repeat' apply And.intro) <;> first | exact Or.inl rfl | exact Or.inr rfl) ?_)

/-- Frame of `pldm`. -/
theorem Block.pldm_fr {fm fq : Nat} {fa : Block} (b : Block) (tr : Transport) (copyB : Bool) (bytes : Nat) (last : Option ImageCopy) (hm : 0xffffffffffffffffffffffffffffffffffffffffffffffffffffffffffffffffffffffffffffffffffffffffffffffffffffffffffffffffffffffffffffffff &&& fm = 0xffffffffffffffffffffffffffffffffffffffffffffffffffffffffffffffffffffffffffffffffffffffffffffffffffffffffffffffffffffffffffffffff) (hq : 0x6effffff1 &&& fq = 0x6effffff1)
    (h0 : Fr fm fq fa b) : Fr fm fq fa (b.pldm tr copyB bytes last) := by
  refine Fr.step ?_ hm hq h0
  clear h0 hq hm
  unfold Block.pldm
  repeat' (first
    | (show _ = _; exact rfl)
    | with_reducible exact Fr.refl _ _ _
    | with_reducible assumption
    | with_reducible apply Block.answer_fr
    | with_reducible apply Block.gMod_fr
    | with_reducible apply Block.serve_fr
    | with_reducible apply Block.updateEnd_fr
    | with_reducible apply Fr.ite
    | exact Fr.fullBit _
    | (intro _ _ h)
    | (intro _ h)
    | split
    | dsimp only
    | refine Fr.upd (by (repeat' apply And.intro) <;> first | exact Or.inl rfl | exact Or.inr rfl) ?_)

/-- Frame of `updateIdle`. -/
theorem Block.updateIdle_fr {fm fq : Nat} {fa : Block} (b : Block) (hm : 0xffffffffffffffffffffffffffffffffffffffffffffffffffffffffffffffffffffffffffffffffffffffffffffffffffffffffffffffffffffffffffffffff &&& fm = 0xffffffffffffffffffffffffffffffffffffffffffffffffffffffffffffffffffffffffffffffffffffffffffffffffffffffffffffffffffffffffffffffff) (hq : 0x2affdfff1 &&& fq = 0x2affdfff1)
    (h0 : Fr fm fq fa b) : Fr fm fq fa (b.updateIdle) := by
  refine Fr.step ?_ hm hq h0
  clear h0 hq hm
  unfold Block.updateIdle
  repeat' (first
    | (show _ = _; exact rfl)
    | with_reducible exact Fr.refl _ _ _
    | with_reducible assumption
    | with_reducible apply Block.gMod_fr
    | with_reducible apply Block.moduleReset_fr
    | with_reducible apply Fr.ite
    | exact Fr.fullBit _
    | split
    | dsimp only
    | refine Fr.upd (by (repeat' apply And.intro) <;> first | exact Or.inl rfl | exact Or.inr rfl) ?_)

/-- Frame of `deferredGo`. -/
theorem Block.deferredGo_fr {fm fq : Nat} {fa : Block} (b : Block) (hm : 0xffffffffffffffffffffffffffffffffffffffffffffffffffffffffffffffffffffffffffffffffffffffffffffffffffffffffffffffffffffffffffffffff &&& fm = 0xffffffffffffffffffffffffffffffffffffffffffffffffffffffffffffffffffffffffffffffffffffffffffffffffffffffffffffffffffffffffffffffff) (hq : 0x2affdfff1 &&& fq = 0x2affdfff1)
    (h0 : Fr fm fq fa b) : Fr fm fq fa (b.deferredGo) := by
  refine Fr.step ?_ hm hq h0
  clear h0 hq hm
  unfold Block.deferredGo
  repeat' (first
    | (show _ = _; exact rfl)
    | with_reducible exact Fr.refl _ _ _
    | with_reducible assumption
    | with_reducible apply Block.moduleReset_fr
    | with_reducible apply Fr.ite
    | exact Fr.fullBit _
    | split)

end Sys2Proof.Machine
end

