-- ==== Sys2Proof/Laws/FrHalter.lean ====
section
/-! SUPPORT. The frame of every operation of Machine/Halter.lean: the fields and the parts it may change, by bit masks. -/
set_option linter.unusedTactic false
set_option linter.unreachableTactic false
set_option linter.unusedSimpArgs false
set_option linter.unusedVariables false
namespace Sys2Proof.Machine

/-- Frame of `discovered`. -/
theorem Block.discovered_fr {fm fq : Nat} {fa : Block} (b : Block) (bmcMax : Nat) (hm : 0x400000000000000000000000000000000000000000000000000000000000000000000000000000000000000000 &&& fm = 0x400000000000000000000000000000000000000000000000000000000000000000000000000000000000000000) (hq : 0x8000000 &&& fq = 0x8000000)
    (h0 : Fr fm fq fa b) : Fr fm fq fa (b.discovered bmcMax) := by
  refine Fr.step ?_ hm hq h0
  clear h0 hq hm
  unfold Block.discovered
  repeat' (first
    | (show _ = _; exact rfl)
    | with_reducible exact Fr.refl _ _ _
    | with_reducible assumption
    | with_reducible apply Fr.wr
    | with_reducible apply Fr.ite
    | split
    | refine Fr.upd (by (repeat' apply And.intro) <;> first | exact Or.inl rfl | exact Or.inr rfl) ?_)

/-- Frame of `statusSend`. -/
theorem Block.statusSend_fr {fm fq : Nat} {fa : Block} (b : Block) (hm : 0x0 &&& fm = 0x0) (hq : 0x48000000 &&& fq = 0x48000000)
    (h0 : Fr fm fq fa b) : Fr fm fq fa (b.statusSend) := by
  refine Fr.step ?_ hm hq h0
  clear h0 hq hm
  unfold Block.statusSend
  repeat' (first
    | (show _ = _; exact rfl)
    | with_reducible exact Fr.refl _ _ _
    | with_reducible assumption
    | with_reducible apply Block.haltSend_fr
    | with_reducible apply Fr.ite
    | split
    | refine Fr.upd (by (repeat' apply And.intro) <;> first | exact Or.inl rfl | exact Or.inr rfl) ?_)

/-- Frame of `frameTake`. -/
theorem Block.frameTake_fr {fm fq : Nat} {fa : Block} (b : Block) (fr : HFrame) (hm : 0x40002658400000000000000000080000000000000000004018008000000000000000000000000000000000000000000 &&& fm = 0x40002658400000000000000000080000000000000000004018008000000000000000000000000000000000000000000) (hq : 0x44e005300 &&& fq = 0x44e005300)
    (h0 : Fr fm fq fa b) : Fr fm fq fa (b.frameTake fr) := by
  refine Fr.step ?_ hm hq h0
  clear h0 hq hm
  unfold Block.frameTake
  repeat' (first
    | (show _ = _; exact rfl)
    | with_reducible exact Fr.refl _ _ _
    | with_reducible assumption
    | with_reducible apply Fr.wr
    | with_reducible apply Fr.incSat
    | with_reducible apply Block.discovered_fr
    | with_reducible apply Block.imgData_fr
    | with_reducible apply Block.mctpIn_fr
    | with_reducible apply Block.standWake_fr
    | with_reducible apply Fr.ite
    | split
    | dsimp only)

/-- Frame of `frameIn`. -/
theorem Block.frameIn_fr {fm fq : Nat} {fa : Block} (b : Block) (fr : HFrame) (hm : 0x40003658400000000000000000080000000000000000004018008000000000000000000000000000000000000000000 &&& fm = 0x40003658400000000000000000080000000000000000004018008000000000000000000000000000000000000000000) (hq : 0x44e005300 &&& fq = 0x44e005300)
    (h0 : Fr fm fq fa b) : Fr fm fq fa (b.frameIn fr) := by
  refine Fr.step ?_ hm hq h0
  clear h0 hq hm
  unfold Block.frameIn
  repeat' (first
    | (show _ = _; exact rfl)
    | with_reducible exact Fr.refl _ _ _
    | with_reducible assumption
    | with_reducible apply Fr.incSat
    | with_reducible apply Fr.emit
    | with_reducible apply Block.frameTake_fr
    | with_reducible apply Fr.ite
    | split
    | dsimp only)

/-- Frame of `rejoin`. -/
theorem Block.rejoin_fr {fm fq : Nat} {fa : Block} (b : Block) (hm : 0x100000000000000000000000000000000000000000000000000000000000000000000000000000000000000000 &&& fm = 0x100000000000000000000000000000000000000000000000000000000000000000000000000000000000000000) (hq : 0x48000000 &&& fq = 0x48000000)
    (h0 : Fr fm fq fa b) : Fr fm fq fa (b.rejoin) := by
  refine Fr.step ?_ hm hq h0
  clear h0 hq hm
  unfold Block.rejoin
  repeat' (first
    | (show _ = _; exact rfl)
    | with_reducible exact Fr.refl _ _ _
    | with_reducible assumption
    | with_reducible apply Fr.wr
    | with_reducible apply Fr.each
    | with_reducible apply Block.imgReqSend_fr
    | with_reducible apply Fr.ite
    | (intro _ _ h)
    | split
    | dsimp only)

/-- Frame of `tapSet`. -/
theorem Block.tapSet_fr {fm fq : Nat} {fa : Block} (b : Block) (i : TapIns) (hm : 0x0 &&& fm = 0x0) (hq : 0x10000000 &&& fq = 0x10000000)
    (h0 : Fr fm fq fa b) : Fr fm fq fa (b.tapSet i) := by
  refine Fr.step ?_ hm hq h0
  clear h0 hq hm
  unfold Block.tapSet
  repeat' (first
    | (show _ = _; exact rfl)
    | with_reducible exact Fr.refl _ _ _
    | with_reducible assumption
    | with_reducible apply Fr.ite
    | split
    | refine Fr.upd (by (repeat' apply And.intro) <;> first | exact Or.inl rfl | exact Or.inr rfl) ?_)

/-- Frame of `tapIdcode`. -/
theorem Block.tapIdcode_fr {fm fq : Nat} {fa : Block} (b : Block) (hm : 0x0 &&& fm = 0x0) (hq : 0x50000000 &&& fq = 0x50000000)
    (h0 : Fr fm fq fa b) : Fr fm fq fa (b.tapIdcode) := by
  refine Fr.step ?_ hm hq h0
  clear h0 hq hm
  unfold Block.tapIdcode
  repeat' (first
    | (show _ = _; exact rfl)
    | with_reducible exact Fr.refl _ _ _
    | with_reducible assumption
    | with_reducible apply Fr.emit
    | with_reducible apply Block.tapSet_fr
    | with_reducible apply Fr.ite
    | split
    | dsimp only)

/-- Frame of `tapSample`. -/
theorem Block.tapSample_fr {fm fq : Nat} {fa : Block} (b : Block) (load : Option (List Bool)) (hm : 0x0 &&& fm = 0x0) (hq : 0x50000002 &&& fq = 0x50000002)
    (h0 : Fr fm fq fa b) : Fr fm fq fa (b.tapSample load) := by
  refine Fr.step ?_ hm hq h0
  clear h0 hq hm
  unfold Block.tapSample
  repeat' (first
    | (show _ = _; exact rfl)
    | with_reducible exact Fr.refl _ _ _
    | with_reducible assumption
    | with_reducible apply Fr.emit
    | with_reducible apply Fr.useFree
    | with_reducible apply Block.tapSet_fr
    | with_reducible apply Fr.ite
    | split
    | dsimp only
    | refine Fr.upd (by (repeat' apply And.intro) <;> first | exact Or.inl rfl | exact Or.inr rfl) ?_)

end Sys2Proof.Machine
end

