-- ==== Sys2Proof/Laws/FrTrust.lean ====
section
/-! SUPPORT. The frame of every operation of Machine/Trust.lean: the fields and the parts it may change, by bit masks. -/
set_option linter.unusedTactic false
set_option linter.unreachableTactic false
set_option linter.unusedSimpArgs false
set_option linter.unusedVariables false
namespace Sys2Proof.Machine

/-- Frame of `connMod`. -/
theorem Block.connMod_fr {fm fq : Nat} {fa : Block} (b : Block) (tr : Transport) (g : Conn → Conn) (hm : 0x0 &&& fm = 0x0) (hq : 0x4000000 &&& fq = 0x4000000)
    (h0 : Fr fm fq fa b) : Fr fm fq fa (b.connMod tr g) := by
  refine Fr.step ?_ hm hq h0
  clear h0 hq hm
  unfold Block.connMod
  repeat' (first
    | (show _ = _; exact rfl)
    | with_reducible exact Fr.refl _ _ _
    | with_reducible assumption
    | with_reducible apply Block.gMod_fr
    | dsimp only
    | refine Fr.upd (by (repeat' apply And.intro) <;> first | exact Or.inl rfl | exact Or.inr rfl) ?_)

/-- Frame of `sessMod`. -/
theorem Block.sessMod_fr {fm fq : Nat} {fa : Block} (b : Block) (tr : Transport) (id : Nat) (g : Sess → Sess) (hm : 0x0 &&& fm = 0x0) (hq : 0x4000000 &&& fq = 0x4000000)
    (h0 : Fr fm fq fa b) : Fr fm fq fa (b.sessMod tr id g) := by
  refine Fr.step ?_ hm hq h0
  clear h0 hq hm
  unfold Block.sessMod
  repeat' (first
    | (show _ = _; exact rfl)
    | with_reducible exact Fr.refl _ _ _
    | with_reducible assumption
    | with_reducible apply Block.gMod_fr
    | dsimp only
    | refine Fr.upd (by (repeat' apply And.intro) <;> first | exact Or.inl rfl | exact Or.inr rfl) ?_)

/-- Frame of `spdm`. -/
theorem Block.spdm_fr {fm fq : Nat} {fa : Block} (b : Block) (tr : Transport) (r : SpdmRsp) (hm : 0x40000000000000000000000000000000000000000000004018008000000000000000000000000000000000000000000 &&& fm = 0x40000000000000000000000000000000000000000000004018008000000000000000000000000000000000000000000) (hq : 0x440005300 &&& fq = 0x440005300)
    (h0 : Fr fm fq fa b) : Fr fm fq fa (b.spdm tr r) := by
  refine Fr.step ?_ hm hq h0
  clear h0 hq hm
  unfold Block.spdm
  repeat' (first
    | (show _ = _; exact rfl)
    | with_reducible exact Fr.refl _ _ _
    | with_reducible assumption
    | with_reducible apply Block.answer_fr)

/-- Frame of `spdmServe`. -/
theorem Block.spdmServe_fr {fm fq : Nat} {fa : Block} (b : Block) (tr : Transport) (stage : Nat) (g : Block → Block) (hg : ∀ b, Fr fm fq fa b → Fr fm fq fa (g b)) (hm : 0x40002048400000000000000000080000000000000000004018008000000000000000000000000000000000000000000 &&& fm = 0x40002048400000000000000000080000000000000000004018008000000000000000000000000000000000000000000) (hq : 0x444005300 &&& fq = 0x444005300)
    (h0 : Fr fm fq fa b) : Fr fm fq fa (b.spdmServe tr stage g) := by
  unfold Block.spdmServe
  repeat' (first
    | (show _ = _; exact rfl)
    | with_reducible exact Fr.refl _ _ _
    | with_reducible assumption
    | with_reducible apply hg
    | exact Fr.sub_trans rfl hm
    | exact Fr.sub_trans rfl hq
    | exact Fr.sub_bit (m' := 0x40002048400000000000000000080000000000000000004018008000000000000000000000000000000000000000000) rfl hm
    | exact Fr.sub_bit (m' := 0x444005300) rfl hq
    | with_reducible apply Block.serve_fr
    | with_reducible apply Block.spdm_fr
    | with_reducible apply Fr.ite
    | (intro _ _ h)
    | (intro _ h)
    | split
    | dsimp only)

/-- Frame of `signRsp`. -/
theorem Block.signRsp_fr {fm fq : Nat} {fa : Block} (b : Block) (tr : Transport) (rsp : List Byte → SpdmRsp) (hm : 0x40000000000000000000000000000000000000000000004018008000000000000000000000000000000000000000000 &&& fm = 0x40000000000000000000000000000000000000000000004018008000000000000000000000000000000000000000000) (hq : 0x444005302 &&& fq = 0x444005302)
    (h0 : Fr fm fq fa b) : Fr fm fq fa (b.signRsp tr rsp) := by
  refine Fr.step ?_ hm hq h0
  clear h0 hq hm
  unfold Block.signRsp
  repeat' (first
    | (show _ = _; exact rfl)
    | with_reducible exact Fr.refl _ _ _
    | with_reducible assumption
    | with_reducible apply Fr.useFree
    | with_reducible apply Block.connMod_fr
    | with_reducible apply Block.spdm_fr
    | dsimp only
    | refine Fr.upd (by (repeat' apply And.intro) <;> first | exact Or.inl rfl | exact Or.inr rfl) ?_)

/-- Frame of `getMeas`. -/
theorem Block.getMeas_fr {fm fq : Nat} {fa : Block} (b : Block) (tr : Transport) (ix : Nat) (hm : 0x40000000000000000000000000000000000000000000004018008000000000000000000000000000000000000000000 &&& fm = 0x40000000000000000000000000000000000000000000004018008000000000000000000000000000000000000000000) (hq : 0x444005302 &&& fq = 0x444005302)
    (h0 : Fr fm fq fa b) : Fr fm fq fa (b.getMeas tr ix) := by
  refine Fr.step ?_ hm hq h0
  clear h0 hq hm
  unfold Block.getMeas
  repeat' (first
    | (show _ = _; exact rfl)
    | with_reducible exact Fr.refl _ _ _
    | with_reducible assumption
    | with_reducible apply Block.signRsp_fr
    | with_reducible apply Block.spdm_fr
    | with_reducible apply Fr.ite
    | split
    | dsimp only)

/-- Frame of `getCert`. -/
theorem Block.getCert_fr {fm fq : Nat} {fa : Block} (b : Block) (tr : Transport) (slot off len : Nat) (hm : 0x40000000000000000000000000000000000000000000004018008000000000000000000000000000000000000000000 &&& fm = 0x40000000000000000000000000000000000000000000004018008000000000000000000000000000000000000000000) (hq : 0x440005300 &&& fq = 0x440005300)
    (h0 : Fr fm fq fa b) : Fr fm fq fa (b.getCert tr slot off len) := by
  refine Fr.step ?_ hm hq h0
  clear h0 hq hm
  unfold Block.getCert
  repeat' (first
    | (show _ = _; exact rfl)
    | with_reducible exact Fr.refl _ _ _
    | with_reducible assumption
    | with_reducible apply Block.spdm_fr
    | with_reducible apply Fr.ite
    | split
    | dsimp only)

/-- Frame of `keyEx`. -/
theorem Block.keyEx_fr {fm fq : Nat} {fa : Block} (b : Block) (tr : Transport) (slot : Nat) (hm : 0x40000000000000000000000000000000000000000000004018008000000000000000000000000000000000000000000 &&& fm = 0x40000000000000000000000000000000000000000000004018008000000000000000000000000000000000000000000) (hq : 0x444005306 &&& fq = 0x444005306)
    (h0 : Fr fm fq fa b) : Fr fm fq fa (b.keyEx tr slot) := by
  refine Fr.step ?_ hm hq h0
  clear h0 hq hm
  unfold Block.keyEx
  repeat' (first
    | (show _ = _; exact rfl)
    | with_reducible exact Fr.refl _ _ _
    | with_reducible assumption
    | with_reducible apply Fr.newId
    | with_reducible apply Block.gMod_fr
    | with_reducible apply Block.signRsp_fr
    | with_reducible apply Block.spdm_fr
    | with_reducible apply Fr.ite
    | split
    | dsimp only
    | refine Fr.upd (by (repeat' apply And.intro) <;> first | exact Or.inl rfl | exact Or.inr rfl) ?_)

/-- Frame of `counterSign`. -/
theorem Block.counterSign_fr {fm fq : Nat} {fa : Block} (b : Block) (tr : Transport) (hm : 0x40000000000600000000000000000000000000000000004018008000000000000000000000000000000000000000000 &&& fm = 0x40000000000600000000000000000000000000000000004018008000000000000000000000000000000000000000000) (hq : 0x444025302 &&& fq = 0x444025302)
    (h0 : Fr fm fq fa b) : Fr fm fq fa (b.counterSign tr) := by
  refine Fr.step ?_ hm hq h0
  clear h0 hq hm
  unfold Block.counterSign
  repeat' (first
    | (show _ = _; exact rfl)
    | with_reducible exact Fr.refl _ _ _
    | with_reducible assumption
    | with_reducible apply Fr.wr
    | with_reducible apply Fr.useFree
    | with_reducible apply Block.connMod_fr
    | with_reducible apply Block.spdm_fr
    | with_reducible apply Block.takeTree_fr
    | with_reducible apply Fr.ite
    | split
    | dsimp only
    | refine Fr.upd (by (repeat' apply And.intro) <;> first | exact Or.inl rfl | exact Or.inr rfl) ?_)

/-- Frame of `chunkNext`. -/
theorem Block.chunkNext_fr {fm fq : Nat} {fa : Block} (b : Block) (tr : Transport) (hm : 0x40000000000000000000000000000000000000000000004018008000000000000000000000000000000000000000000 &&& fm = 0x40000000000000000000000000000000000000000000004018008000000000000000000000000000000000000000000) (hq : 0x444005302 &&& fq = 0x444005302)
    (h0 : Fr fm fq fa b) : Fr fm fq fa (b.chunkNext tr) := by
  refine Fr.step ?_ hm hq h0
  clear h0 hq hm
  unfold Block.chunkNext
  repeat' (first
    | (show _ = _; exact rfl)
    | with_reducible exact Fr.refl _ _ _
    | with_reducible assumption
    | with_reducible apply Fr.useFree
    | with_reducible apply Block.connMod_fr
    | with_reducible apply Block.spdm_fr
    | with_reducible apply Fr.ite
    | split
    | dsimp only
    | refine Fr.upd (by (repeat' apply And.intro) <;> first | exact Or.inl rfl | exact Or.inr rfl) ?_)

/-- Frame of `kmServe`. -/
theorem Block.kmServe_fr {fm fq : Nat} {fa : Block} (b : Block) (tr : Transport) (session l : Nat) (g : Block → Block) (hg : ∀ b, Fr fm fq fa b → Fr fm fq fa (g b)) (hm : 0x40002048400000000000000000080000000000000000004018008000000000000000000000000000000000000000000 &&& fm = 0x40002048400000000000000000080000000000000000004018008000000000000000000000000000000000000000000) (hq : 0x444005300 &&& fq = 0x444005300)
    (h0 : Fr fm fq fa b) : Fr fm fq fa (b.kmServe tr session l g) := by
  unfold Block.kmServe
  repeat' (first
    | (show _ = _; exact rfl)
    | with_reducible exact Fr.refl _ _ _
    | with_reducible assumption
    | with_reducible apply hg
    | exact Fr.sub_trans rfl hm
    | exact Fr.sub_trans rfl hq
    | exact Fr.sub_bit (m' := 0x40002048400000000000000000080000000000000000004018008000000000000000000000000000000000000000000) rfl hm
    | exact Fr.sub_bit (m' := 0x444005300) rfl hq
    | with_reducible apply Block.spdm_fr
    | with_reducible apply Block.spdmServe_fr
    | with_reducible apply Fr.ite
    | (intro _ _ h)
    | (intro _ h)
    | split
    | dsimp only)

/-- Frame of `ideQuery`. -/
theorem Block.ideQuery_fr {fm fq : Nat} {fa : Block} (b : Block) (tr : Transport) (l : Nat) (hm : 0x40000000000000000000000000000000000000000000004018008000000000000000000000000000000000000000000 &&& fm = 0x40000000000000000000000000000000000000000000004018008000000000000000000000000000000000000000000) (hq : 0x440005300 &&& fq = 0x440005300)
    (h0 : Fr fm fq fa b) : Fr fm fq fa (b.ideQuery tr l) := by
  refine Fr.step ?_ hm hq h0
  clear h0 hq hm
  unfold Block.ideQuery
  repeat' (first
    | (show _ = _; exact rfl)
    | with_reducible exact Fr.refl _ _ _
    | with_reducible assumption
    | with_reducible apply Block.spdm_fr
    | dsimp only)

/-- Frame of `strMod`. -/
theorem Block.strMod_fr {fm fq : Nat} {fa : Block} (b : Block) (l id : Nat) (g : IdeStr → IdeStr) (hm : 0x0 &&& fm = 0x0) (hq : 0x100 &&& fq = 0x100)
    (h0 : Fr fm fq fa b) : Fr fm fq fa (b.strMod l id g) := by
  refine Fr.step ?_ hm hq h0
  clear h0 hq hm
  unfold Block.strMod
  repeat' (first
    | (show _ = _; exact rfl)
    | with_reducible exact Fr.refl _ _ _
    | with_reducible assumption
    | with_reducible apply Fr.lkMod
    | with_reducible apply Fr.ite
    | split
    | dsimp only
    | refine Fr.upd (by (repeat' apply And.intro) <;> first | exact Or.inl rfl | exact Or.inr rfl) ?_)

/-- Frame of `keyProg`. -/
theorem Block.keyProg_fr {fm fq : Nat} {fa : Block} (b : Block) (tr : Transport) (l id sub : Nat) (tx k : Bool) (hm : 0x40000000000000000000000000000000000000000000004018008000000000000000000000000000000000000000000 &&& fm = 0x40000000000000000000000000000000000000000000004018008000000000000000000000000000000000000000000) (hq : 0x440005300 &&& fq = 0x440005300)
    (h0 : Fr fm fq fa b) : Fr fm fq fa (b.keyProg tr l id sub tx k) := by
  refine Fr.step ?_ hm hq h0
  clear h0 hq hm
  unfold Block.keyProg
  repeat' (first
    | (show _ = _; exact rfl)
    | with_reducible exact Fr.refl _ _ _
    | with_reducible assumption
    | with_reducible apply Block.spdm_fr
    | with_reducible apply Block.strMod_fr
    | with_reducible apply Fr.ite
    | split
    | dsimp only
    | refine Fr.upd (by (repeat' apply And.intro) <;> first | exact Or.inl rfl | exact Or.inr rfl) ?_)

/-- Frame of `keyGo`. -/
theorem Block.keyGo_fr {fm fq : Nat} {fa : Block} (b : Block) (tr : Transport) (l id sub : Nat) (tx k : Bool) (hm : 0x20000040000000000000000000000000000000000000000000004018008000000000000000000000000000000000000000000 &&& fm = 0x20000040000000000000000000000000000000000000000000004018008000000000000000000000000000000000000000000) (hq : 0x440005302 &&& fq = 0x440005302)
    (h0 : Fr fm fq fa b) : Fr fm fq fa (b.keyGo tr l id sub tx k) := by
  refine Fr.step ?_ hm hq h0
  clear h0 hq hm
  unfold Block.keyGo
  repeat' (first
    | (show _ = _; exact rfl)
    | with_reducible exact Fr.refl _ _ _
    | with_reducible assumption
    | with_reducible apply Fr.each
    | with_reducible apply Block.linkGo_fr
    | with_reducible apply Block.pendFlush_fr
    | with_reducible apply Block.secureJudge_fr
    | with_reducible apply Block.spdm_fr
    | with_reducible apply Block.strMod_fr
    | with_reducible apply Fr.ite
    | (intro _ _ h)
    | split
    | dsimp only
    | refine Fr.upd (by (repeat' apply And.intro) <;> first | exact Or.inl rfl | exact Or.inr rfl) ?_)

/-- Frame of `keyStop`. -/
theorem Block.keyStop_fr {fm fq : Nat} {fa : Block} (b : Block) (tr : Transport) (l id sub : Nat) (tx k : Bool) (hm : 0x408000490010208020400000000000000000000000000001ffe14000020000004018008000060008000301e00d800000f0000400000080800 &&& fm = 0x408000490010208020400000000000000000000000000001ffe14000020000004018008000060008000301e00d800000f0000400000080800) (hq : 0x7406c57c6 &&& fq = 0x7406c57c6)
    (h0 : Fr fm fq fa b) : Fr fm fq fa (b.keyStop tr l id sub tx k) := by
  refine Fr.step ?_ hm hq h0
  clear h0 hq hm
  unfold Block.keyStop
  repeat' (first
    | (show _ = _; exact rfl)
    | with_reducible exact Fr.refl _ _ _
    | with_reducible assumption
    | with_reducible apply Block.ideFail_fr
    | with_reducible apply Block.spdm_fr
    | with_reducible apply Block.strMod_fr
    | with_reducible apply Fr.ite
    | split
    | dsimp only
    | refine Fr.upd (by (repeat' apply And.intro) <;> first | exact Or.inl rfl | exact Or.inr rfl) ?_)

/-- Frame of `tdiServe`. -/
theorem Block.tdiServe_fr {fm fq : Nat} {fa : Block} (b : Block) (tr : Transport) (session f : Nat) (g : Block → Block) (hg : ∀ b, Fr fm fq fa b → Fr fm fq fa (g b)) (hm : 0x40002048400000000000000000080000000000000000004018008000000000000000000000000000000000000000000 &&& fm = 0x40002048400000000000000000080000000000000000004018008000000000000000000000000000000000000000000) (hq : 0x444005300 &&& fq = 0x444005300)
    (h0 : Fr fm fq fa b) : Fr fm fq fa (b.tdiServe tr session f g) := by
  unfold Block.tdiServe
  repeat' (first
    | (show _ = _; exact rfl)
    | with_reducible exact Fr.refl _ _ _
    | with_reducible assumption
    | with_reducible apply hg
    | exact Fr.sub_trans rfl hm
    | exact Fr.sub_trans rfl hq
    | exact Fr.sub_bit (m' := 0x40002048400000000000000000080000000000000000004018008000000000000000000000000000000000000000000) rfl hm
    | exact Fr.sub_bit (m' := 0x444005300) rfl hq
    | with_reducible apply Block.spdm_fr
    | with_reducible apply Block.spdmServe_fr
    | with_reducible apply Fr.ite
    | (intro _ _ h)
    | (intro _ h)
    | split
    | dsimp only)

/-- Frame of `tdiLock`. -/
theorem Block.tdiLock_fr {fm fq : Nat} {fa : Block} (b : Block) (tr : Transport) (f : Nat) (hm : 0x3800000000000000040000000000000000000000000000000000000000000004018008000000000000000000000000000000000000000000 &&& fm = 0x3800000000000000040000000000000000000000000000000000000000000004018008000000000000000000000000000000000000000000) (hq : 0x440005300 &&& fq = 0x440005300)
    (h0 : Fr fm fq fa b) : Fr fm fq fa (b.tdiLock tr f) := by
  refine Fr.step ?_ hm hq h0
  clear h0 hq hm
  unfold Block.tdiLock
  repeat' (first
    | (show _ = _; exact rfl)
    | with_reducible exact Fr.refl _ _ _
    | with_reducible assumption
    | with_reducible apply Fr.wr
    | with_reducible apply Block.spdm_fr
    | with_reducible apply Fr.ite
    | split)

/-- Frame of `tdiStart`. -/
theorem Block.tdiStart_fr {fm fq : Nat} {fa : Block} (b : Block) (tr : Transport) (f : Nat) (hm : 0x800000000000000040000000000000000000000000000000000000000000004018008000000000000000000000000000000000000000000 &&& fm = 0x800000000000000040000000000000000000000000000000000000000000004018008000000000000000000000000000000000000000000) (hq : 0x440005300 &&& fq = 0x440005300)
    (h0 : Fr fm fq fa b) : Fr fm fq fa (b.tdiStart tr f) := by
  refine Fr.step ?_ hm hq h0
  clear h0 hq hm
  unfold Block.tdiStart
  repeat' (first
    | (show _ = _; exact rfl)
    | with_reducible exact Fr.refl _ _ _
    | with_reducible assumption
    | with_reducible apply Fr.wr
    | with_reducible apply Block.spdm_fr
    | with_reducible apply Fr.ite
    | split)

/-- Frame of `tdiStop`. -/
theorem Block.tdiStop_fr {fm fq : Nat} {fa : Block} (b : Block) (tr : Transport) (f : Nat) (hm : 0xbf83ffc9f71effbffff9ff8000000000000f800000000001ffe1400002000000401800800db7fff7f3fff8001083fefcffc00180000000000 &&& fm = 0xbf83ffc9f71effbffff9ff8000000000000f800000000001ffe1400002000000401800800db7fff7f3fff8001083fefcffc00180000000000) (hq : 0x7400c57c6 &&& fq = 0x7400c57c6)
    (h0 : Fr fm fq fa b) : Fr fm fq fa (b.tdiStop tr f) := by
  refine Fr.step ?_ hm hq h0
  clear h0 hq hm
  unfold Block.tdiStop
  repeat' (first
    | (show _ = _; exact rfl)
    | with_reducible exact Fr.refl _ _ _
    | with_reducible assumption
    | with_reducible apply Fr.fnMod
    | with_reducible apply Block.flrBegin_fr
    | with_reducible apply Block.spdm_fr
    | with_reducible apply Block.vfsReset_fr
    | with_reducible apply Fr.ite
    | split
    | dsimp only
    | refine Fr.upd (by (repeat' apply And.intro) <;> first | exact Or.inl rfl | exact Or.inr rfl) ?_)

/-- Frame of `tdiReport`. -/
theorem Block.tdiReport_fr {fm fq : Nat} {fa : Block} (b : Block) (tr : Transport) (f : Nat) (hm : 0x40000000000000000000000000000000000000000000004018008000000000000000000000000000000000000000000 &&& fm = 0x40000000000000000000000000000000000000000000004018008000000000000000000000000000000000000000000) (hq : 0x440005300 &&& fq = 0x440005300)
    (h0 : Fr fm fq fa b) : Fr fm fq fa (b.tdiReport tr f) := by
  refine Fr.step ?_ hm hq h0
  clear h0 hq hm
  unfold Block.tdiReport
  repeat' (first
    | (show _ = _; exact rfl)
    | with_reducible exact Fr.refl _ _ _
    | with_reducible assumption
    | with_reducible apply Block.fnRec_fr
    | with_reducible apply Block.spdm_fr
    | with_reducible apply Fr.ite
    | split
    | dsimp only)

end Sys2Proof.Machine
end

