-- ==== Sys2Proof/Laws/PerInstr.lean ====
section
/-! SUPPORT. Per command, two families. Total: it is an effect on the block alone, so it answers a next
state. Frame: what a command may change. -/
namespace Sys2Proof.Laws.Total
open Sys2Proof.Machine

/-- What every command does to the state as a whole: it changes the block and nothing else, and the block comes out canonical. -/
def Statement (i : Instr) : Prop := ∀ s : State, ∃ g : Block → Block, exec i s = s.on g

theorem vinPowerUp : ∀ x0 x1, Statement (.vinPowerUp x0 x1) := by intro x0 x1; exact fun s => ⟨_, by show execVinPowerUp x0 x1 s = _; unfold execVinPowerUp; rfl⟩
theorem vstbyPowerUp : ∀ x0, Statement (.vstbyPowerUp x0) := by intro x0; exact fun s => ⟨_, by show execVstbyPowerUp x0 s = _; unfold execVstbyPowerUp; rfl⟩
theorem vinUvloFall : Statement .vinUvloFall := by exact fun s => ⟨_, by show execVinUvloFall s = _; unfold execVinUvloFall; rfl⟩
theorem vinOvloRise : Statement .vinOvloRise := by exact fun s => ⟨_, by show execVinOvloRise s = _; unfold execVinOvloRise; rfl⟩
theorem vinReturn : Statement .vinReturn := by exact fun s => ⟨_, by show execVinReturn s = _; unfold execVinReturn; rfl⟩
theorem vstbyLoss : Statement .vstbyLoss := by exact fun s => ⟨_, by show execVstbyLoss s = _; unfold execVstbyLoss; rfl⟩
theorem brownoutEntry : ∀ x0 x1, Statement (.brownoutEntry x0 x1) := by intro x0 x1; exact fun s => ⟨_, by show execBrownoutEntry x0 x1 s = _; unfold execBrownoutEntry; rfl⟩
theorem brownoutExit : Statement .brownoutExit := by exact fun s => ⟨_, by show execBrownoutExit s = _; unfold execBrownoutExit; rfl⟩
theorem droopWindowOpen : Statement .droopWindowOpen := by exact fun s => ⟨_, by show execDroopWindowOpen s = _; unfold execDroopWindowOpen; rfl⟩
theorem droopWindowClose : Statement .droopWindowClose := by exact fun s => ⟨_, by show execDroopWindowClose s = _; unfold execDroopWindowClose; rfl⟩
theorem droopMaxExpiry : Statement .droopMaxExpiry := by exact fun s => ⟨_, by show execDroopMaxExpiry s = _; unfold execDroopMaxExpiry; rfl⟩
theorem droopEarlyRelease : ∀ x0, Statement (.droopEarlyRelease x0) := by intro x0; exact fun s => ⟨_, by show execDroopEarlyRelease x0 s = _; unfold execDroopEarlyRelease; rfl⟩
theorem gaitTargetWrite : ∀ x0, Statement (.gaitTargetWrite x0) := by intro x0; exact fun s => ⟨_, by show execGaitTargetWrite x0 s = _; unfold execGaitTargetWrite; rfl⟩
theorem gaitUpshiftStep : Statement .gaitUpshiftStep := by exact fun s => ⟨_, by show execGaitUpshiftStep s = _; unfold execGaitUpshiftStep; rfl⟩
theorem gaitOccupancyWindow : ∀ x0, Statement (.gaitOccupancyWindow x0) := by intro x0; exact fun s => ⟨_, by show execGaitOccupancyWindow x0 s = _; unfold execGaitOccupancyWindow; rfl⟩
theorem thermalThrottleStep : ∀ x0, Statement (.thermalThrottleStep x0) := by intro x0; exact fun s => ⟨_, by show execThermalThrottleStep x0 s = _; unfold execThermalThrottleStep; rfl⟩
theorem thermalRaise : ∀ x0, Statement (.thermalRaise x0) := by intro x0; exact fun s => ⟨_, by show execThermalRaise x0 s = _; unfold execThermalRaise; rfl⟩
theorem thermalTrip : Statement .thermalTrip := by exact fun s => ⟨_, by show execThermalTrip s = _; unfold execThermalTrip; rfl⟩
theorem thermalTripEnd : Statement .thermalTripEnd := by exact fun s => ⟨_, by show execThermalTripEnd s = _; unfold execThermalTripEnd; rfl⟩
theorem thermalShutdown : Statement .thermalShutdown := by exact fun s => ⟨_, by show execThermalShutdown s = _; unfold execThermalShutdown; rfl⟩
theorem thermalRestart : Statement .thermalRestart := by exact fun s => ⟨_, by show execThermalRestart s = _; unfold execThermalRestart; rfl⟩
theorem standEntry : Statement .standEntry := by exact fun s => ⟨_, by show execStandEntry s = _; unfold execStandEntry; rfl⟩
theorem pmeTurnOff : ∀ x0, Statement (.pmeTurnOff x0) := by intro x0; exact fun s => ⟨_, by show execPmeTurnOff x0 s = _; unfold execPmeTurnOff; rfl⟩
theorem slotPowerOnRequest : ∀ x0 x1, Statement (.slotPowerOnRequest x0 x1) := by intro x0 x1; exact fun s => ⟨_, by show execSlotPowerOnRequest x0 x1 s = _; unfold execSlotPowerOnRequest; rfl⟩
theorem slotPowerOffRequest : ∀ x0 x1, Statement (.slotPowerOffRequest x0 x1) := by intro x0 x1; exact fun s => ⟨_, by show execSlotPowerOffRequest x0 x1 s = _; unfold execSlotPowerOffRequest; rfl⟩
theorem slotReset : ∀ x0 x1, Statement (.slotReset x0 x1) := by intro x0 x1; exact fun s => ⟨_, by show execSlotReset x0 x1 s = _; unfold execSlotReset; rfl⟩
theorem slotPowerEnable : ∀ x0, Statement (.slotPowerEnable x0) := by intro x0; exact fun s => ⟨_, by show execSlotPowerEnable x0 s = _; unfold execSlotPowerEnable; rfl⟩
theorem tthPwrgdRise : ∀ x0, Statement (.tthPwrgdRise x0) := by intro x0; exact fun s => ⟨_, by show execTthPwrgdRise x0 s = _; unfold execTthPwrgdRise; rfl⟩
theorem pwrgdMsExpiry : ∀ x0, Statement (.pwrgdMsExpiry x0) := by intro x0; exact fun s => ⟨_, by show execPwrgdMsExpiry x0 s = _; unfold execPwrgdMsExpiry; rfl⟩
theorem prstDelayExpiry : ∀ x0, Statement (.prstDelayExpiry x0) := by intro x0; exact fun s => ⟨_, by show execPrstDelayExpiry x0 s = _; unfold execPrstDelayExpiry; rfl⟩
theorem slotPowerOffDelayExpiry : ∀ x0, Statement (.slotPowerOffDelayExpiry x0) := by intro x0; exact fun s => ⟨_, by show execSlotPowerOffDelayExpiry x0 s = _; unfold execSlotPowerOffDelayExpiry; rfl⟩
theorem poweringOffDone : ∀ x0, Statement (.poweringOffDone x0) := by intro x0; exact fun s => ⟨_, by show execPoweringOffDone x0 s = _; unfold execPoweringOffDone; rfl⟩
theorem tthPrsntInsertion : ∀ x0, Statement (.tthPrsntInsertion x0) := by intro x0; exact fun s => ⟨_, by show execTthPrsntInsertion x0 s = _; unfold execTthPrsntInsertion; rfl⟩
theorem tthPrsntRemoval : ∀ x0, Statement (.tthPrsntRemoval x0) := by intro x0; exact fun s => ⟨_, by show execTthPrsntRemoval x0 s = _; unfold execTthPrsntRemoval; rfl⟩
theorem tthPwrgdFall : ∀ x0, Statement (.tthPwrgdFall x0) := by intro x0; exact fun s => ⟨_, by show execTthPwrgdFall x0 s = _; unfold execTthPwrgdFall; rfl⟩
theorem tthAtnbtnPress : ∀ x0, Statement (.tthAtnbtnPress x0) := by intro x0; exact fun s => ⟨_, by show execTthAtnbtnPress x0 s = _; unfold execTthAtnbtnPress; rfl⟩
theorem tthPrstNLow : ∀ x0, Statement (.tthPrstNLow x0) := by intro x0; exact fun s => ⟨_, by show execTthPrstNLow x0 s = _; unfold execTthPrstNLow; rfl⟩
theorem tetherResetRelease : ∀ x0, Statement (.tetherResetRelease x0) := by intro x0; exact fun s => ⟨_, by show execTetherResetRelease x0 s = _; unfold execTetherResetRelease; rfl⟩
theorem portReset : ∀ x0, Statement (.portReset x0) := by intro x0; exact fun s => ⟨_, by show execPortReset x0 s = _; unfold execPortReset; rfl⟩
theorem retrain : ∀ x0, Statement (.retrain x0) := by intro x0; exact fun s => ⟨_, by show execRetrain x0 s = _; unfold execRetrain; rfl⟩
theorem stlPerstNAssert : ∀ x0, Statement (.stlPerstNAssert x0) := by intro x0; exact fun s => ⟨_, by show execStlPerstNAssert x0 s = _; unfold execStlPerstNAssert; rfl⟩
theorem stlPerstNDeassert : ∀ x0, Statement (.stlPerstNDeassert x0) := by intro x0; exact fun s => ⟨_, by show execStlPerstNDeassert x0 s = _; unfold execStlPerstNDeassert; rfl⟩
theorem stlRefclkLoss : ∀ x0, Statement (.stlRefclkLoss x0) := by intro x0; exact fun s => ⟨_, by show execStlRefclkLoss x0 s = _; unfold execStlRefclkLoss; rfl⟩
theorem tthRefclkLoss : ∀ x0, Statement (.tthRefclkLoss x0) := by intro x0; exact fun s => ⟨_, by show execTthRefclkLoss x0 s = _; unfold execTthRefclkLoss; rfl⟩
theorem coreRefclkLoss : ∀ x0, Statement (.coreRefclkLoss x0) := by intro x0; exact fun s => ⟨_, by show execCoreRefclkLoss x0 s = _; unfold execCoreRefclkLoss; rfl⟩
theorem bootRomStart : ∀ x0, Statement (.bootRomStart x0) := by intro x0; exact fun s => ⟨_, by show execBootRomStart s x0 = _; unfold execBootRomStart; rfl⟩
theorem linkDlUp : ∀ x0 x1, Statement (.linkDlUp x0 x1) := by intro x0 x1; exact fun s => ⟨_, by show execLinkDlUp x0 x1 s = _; unfold execLinkDlUp; rfl⟩
theorem linkLoss : ∀ x0, Statement (.linkLoss x0) := by intro x0; exact fun s => ⟨_, by show execLinkLoss x0 s = _; unfold execLinkLoss; rfl⟩
theorem hotReset : ∀ x0, Statement (.hotReset x0) := by intro x0; exact fun s => ⟨_, by show execHotReset x0 s = _; unfold execHotReset; rfl⟩
theorem linkDisable : ∀ x0, Statement (.linkDisable x0) := by intro x0; exact fun s => ⟨_, by show execLinkDisable x0 s = _; unfold execLinkDisable; rfl⟩
theorem stumble : ∀ x0 x1 x2 x3, Statement (.stumble x0 x1 x2 x3) := by intro x0 x1 x2 x3; exact fun s => ⟨_, by show execStumble x0 x1 x2 s x3 = _; unfold execStumble; rfl⟩
theorem fomRetireWindowExpiry : ∀ x0 x1, Statement (.fomRetireWindowExpiry x0 x1) := by intro x0 x1; exact fun s => ⟨_, by show execFomRetireWindowExpiry x0 s x1 = _; unfold execFomRetireWindowExpiry; rfl⟩
theorem l0pPartnerRequest : ∀ x0 x1, Statement (.l0pPartnerRequest x0 x1) := by intro x0 x1; exact fun s => ⟨_, by show execL0pPartnerRequest x0 x1 s = _; unfold execL0pPartnerRequest; rfl⟩
theorem l0pAcceptance : ∀ x0, Statement (.l0pAcceptance x0) := by intro x0; exact fun s => ⟨_, by show execL0pAcceptance x0 s = _; unfold execL0pAcceptance; rfl⟩
theorem l0pOccupancyInterval : ∀ x0 x1 x2 x3 x4, Statement (.l0pOccupancyInterval x0 x1 x2 x3 x4) := by intro x0 x1 x2 x3 x4; exact fun s => ⟨_, by show execL0pOccupancyInterval x0 x1 x2 x3 s x4 = _; unfold execL0pOccupancyInterval; rfl⟩
theorem aspmIdleExpiry : ∀ x0, Statement (.aspmIdleExpiry x0) := by intro x0; exact fun s => ⟨_, by show execAspmIdleExpiry x0 s = _; unfold execAspmIdleExpiry; rfl⟩
theorem clkreqAssert : ∀ x0, Statement (.clkreqAssert x0) := by intro x0; exact fun s => ⟨_, by show execClkreqAssert x0 s = _; unfold execClkreqAssert; rfl⟩
theorem marginingCommand : ∀ x0 x1 x2 x3, Statement (.marginingCommand x0 x1 x2 x3) := by intro x0 x1 x2 x3; exact fun s => ⟨_, by show execMarginingCommand x0 x1 x2 x3 s = _; unfold execMarginingCommand; rfl⟩
theorem ideCheckFail : ∀ x0 x1, Statement (.ideCheckFail x0 x1) := by intro x0 x1; exact fun s => ⟨_, by show execIdeCheckFail x0 x1 s = _; unfold execIdeCheckFail; rfl⟩
theorem pairedDetectExpiry : ∀ x0, Statement (.pairedDetectExpiry x0) := by intro x0; exact fun s => ⟨_, by show execPairedDetectExpiry x0 s = _; unfold execPairedDetectExpiry; rfl⟩
theorem failoverSwitch : ∀ x0, Statement (.failoverSwitch x0) := by intro x0; exact fun s => ⟨_, by show execFailoverSwitch x0 s = _; unfold execFailoverSwitch; rfl⟩
theorem configRead : ∀ x0 x1 x2 x3 x4, Statement (.configRead x0 x1 x2 x3 x4) := by intro x0 x1 x2 x3 x4; exact fun s => ⟨_, by show execConfigRead x0 x1 x2 x3 s x4 = _; unfold execConfigRead; rfl⟩
theorem configWrite : ∀ x0 x1 x2 x3 x4 x5 x6 x7, Statement (.configWrite x0 x1 x2 x3 x4 x5 x6 x7) := by intro x0 x1 x2 x3 x4 x5 x6 x7; exact fun s => ⟨_, by show execConfigWrite x0 x1 x2 x3 x4 x5 x6 s x7 = _; unfold execConfigWrite; rfl⟩
theorem busMasterEnableWrite : ∀ x0 x1 x2, Statement (.busMasterEnableWrite x0 x1 x2) := by intro x0 x1 x2; exact fun s => ⟨_, by show execBusMasterEnableWrite x0 x1 x2 s = _; unfold execBusMasterEnableWrite; rfl⟩
theorem bmeClearEffect : ∀ x0, Statement (.bmeClearEffect x0) := by intro x0; exact fun s => ⟨_, by show execBmeClearEffect x0 s = _; unfold execBmeClearEffect; rfl⟩
theorem bmeSetEffect : ∀ x0, Statement (.bmeSetEffect x0) := by intro x0; exact fun s => ⟨_, by show execBmeSetEffect x0 s = _; unfold execBmeSetEffect; rfl⟩
theorem initiateFunctionLevelReset : ∀ x0 x1, Statement (.initiateFunctionLevelReset x0 x1) := by intro x0 x1; exact fun s => ⟨_, by show execInitiateFunctionLevelReset x0 x1 s = _; unfold execInitiateFunctionLevelReset; rfl⟩
theorem flrDrainEnd : ∀ x0, Statement (.flrDrainEnd x0) := by intro x0; exact fun s => ⟨_, by show execFlrDrainEnd x0 s = _; unfold execFlrDrainEnd; rfl⟩
theorem flrBoundExpiry : ∀ x0, Statement (.flrBoundExpiry x0) := by intro x0; exact fun s => ⟨_, by show execFlrBoundExpiry x0 s = _; unfold execFlrBoundExpiry; rfl⟩
theorem vfEnableClear : ∀ x0 x1, Statement (.vfEnableClear x0 x1) := by intro x0 x1; exact fun s => ⟨_, by show execVfEnableClear x0 x1 s = _; unfold execVfEnableClear; rfl⟩
theorem vfEnableSet : ∀ x0 x1, Statement (.vfEnableSet x0 x1) := by intro x0 x1; exact fun s => ⟨_, by show execVfEnableSet x0 x1 s = _; unfold execVfEnableSet; rfl⟩
theorem numvfsWrite : ∀ x0 x1 x2, Statement (.numvfsWrite x0 x1 x2) := by intro x0 x1 x2; exact fun s => ⟨_, by show execNumvfsWrite x0 x1 x2 s = _; unfold execNumvfsWrite; rfl⟩
theorem barWrite : ∀ x0 x1 x2 x3, Statement (.barWrite x0 x1 x2 x3) := by intro x0 x1 x2 x3; exact fun s => ⟨_, by show execBarWrite x0 x1 x2 x3 s = _; unfold execBarWrite; rfl⟩
theorem atsEnableClear : ∀ x0 x1, Statement (.atsEnableClear x0 x1) := by intro x0 x1; exact fun s => ⟨_, by show execAtsEnableClear x0 x1 s = _; unfold execAtsEnableClear; rfl⟩
theorem pasidEnableClear : ∀ x0 x1, Statement (.pasidEnableClear x0 x1) := by intro x0 x1; exact fun s => ⟨_, by show execPasidEnableClear x0 x1 s = _; unfold execPasidEnableClear; rfl⟩
theorem stuWrite : ∀ x0 x1 x2, Statement (.stuWrite x0 x1 x2) := by intro x0 x1 x2; exact fun s => ⟨_, by show execStuWrite x0 x1 x2 s = _; unfold execStuWrite; rfl⟩
theorem ltrMechanismEnableSet : ∀ x0, Statement (.ltrMechanismEnableSet x0) := by intro x0; exact fun s => ⟨_, by show execLtrMechanismEnableSet x0 s = _; unfold execLtrMechanismEnableSet; rfl⟩
theorem d3hotEntry : ∀ x0, Statement (.d3hotEntry x0) := by intro x0; exact fun s => ⟨_, by show execD3hotEntry x0 s = _; unfold execD3hotEntry; rfl⟩
theorem d0Return : ∀ x0, Statement (.d0Return x0) := by intro x0; exact fun s => ⟨_, by show execD0Return x0 s = _; unfold execD0Return; rfl⟩
theorem deliveryFormChange : ∀ x0 x1 x2 x3, Statement (.deliveryFormChange x0 x1 x2 x3) := by intro x0 x1 x2 x3; exact fun s => ⟨_, by show execDeliveryFormChange x0 x1 x2 x3 s = _; unfold execDeliveryFormChange; rfl⟩
theorem interruptDisableWrite : ∀ x0 x1 x2, Statement (.interruptDisableWrite x0 x1 x2) := by intro x0 x1 x2; exact fun s => ⟨_, by show execInterruptDisableWrite x0 x1 x2 s = _; unfold execInterruptDisableWrite; rfl⟩
theorem hostWindowRead : ∀ x0, Statement (.hostWindowRead x0) := by intro x0; exact fun s => ⟨_, by show execHostWindowRead x0 s = _; unfold execHostWindowRead; rfl⟩
theorem hostWindowWrite : ∀ x0, Statement (.hostWindowWrite x0) := by intro x0; exact fun s => ⟨_, by show execHostWindowWrite x0 s = _; unfold execHostWindowWrite; rfl⟩
theorem hostWindowAtomic : ∀ x0 x1, Statement (.hostWindowAtomic x0 x1) := by intro x0 x1; exact fun s => ⟨_, by show execHostWindowAtomic x0 x1 s = _; unfold execHostWindowAtomic; rfl⟩
theorem hostRomRead : ∀ x0, Statement (.hostRomRead x0) := by intro x0; exact fun s => ⟨_, by show execHostRomRead x0 s = _; unfold execHostRomRead; rfl⟩
theorem fcpRead : ∀ x0, Statement (.fcpRead x0) := by intro x0; exact fun s => ⟨_, by show execFcpRead x0 s = _; unfold execFcpRead; rfl⟩
theorem registerWrite : ∀ x0, Statement (.registerWrite x0) := by intro x0; exact fun s => ⟨_, by show execRegisterWrite x0 s = _; unfold execRegisterWrite; rfl⟩
theorem fcpErrConsWrite : ∀ x0 x1, Statement (.fcpErrConsWrite x0 x1) := by intro x0 x1; exact fun s => ⟨_, by show execFcpErrConsWrite x0 x1 s = _; unfold execFcpErrConsWrite; rfl⟩
theorem prefetchAgeExpiry : ∀ x0 x1, Statement (.prefetchAgeExpiry x0 x1) := by intro x0 x1; exact fun s => ⟨_, by show execPrefetchAgeExpiry x0 x1 s = _; unfold execPrefetchAgeExpiry; rfl⟩
theorem prefetchHoldExpiry : ∀ x0 x1, Statement (.prefetchHoldExpiry x0 x1) := by intro x0 x1; exact fun s => ⟨_, by show execPrefetchHoldExpiry x0 x1 s = _; unfold execPrefetchHoldExpiry; rfl⟩
theorem forget : ∀ x0, Statement (.forget x0) := by intro x0; exact fun s => ⟨_, by show execForget x0 s = _; unfold execForget; rfl⟩
theorem pgoWrite : ∀ x0 x1 x2, Statement (.pgoWrite x0 x1 x2) := by intro x0 x1 x2; exact fun s => ⟨_, by show execPgoWrite x0 x1 x2 s = _; unfold execPgoWrite; rfl⟩
theorem reinsOutWrite : ∀ x0 x1, Statement (.reinsOutWrite x0 x1) := by intro x0 x1; exact fun s => ⟨_, by show execReinsOutWrite x0 x1 s = _; unfold execReinsOutWrite; rfl⟩
theorem reinsSend : ∀ x0, Statement (.reinsSend x0) := by intro x0; exact fun s => ⟨_, by show execReinsSend x0 s = _; unfold execReinsSend; rfl⟩
theorem interruptFenceRelease : ∀ x0, Statement (.interruptFenceRelease x0) := by intro x0; exact fun s => ⟨_, by show execInterruptFenceRelease x0 s = _; unfold execInterruptFenceRelease; rfl⟩
theorem hostAck : ∀ x0 x1, Statement (.hostAck x0 x1) := by intro x0 x1; exact fun s => ⟨_, by show execHostAck x0 x1 s = _; unfold execHostAck; rfl⟩
theorem hostCompletion : ∀ x0 x1 x2 x3 x4 x5 x6, Statement (.hostCompletion x0 x1 x2 x3 x4 x5 x6) := by intro x0 x1 x2 x3 x4 x5 x6; exact fun s => ⟨_, by show execHostCompletion x0 x1 x2 x3 x4 x5 s x6 = _; unfold execHostCompletion; rfl⟩
theorem completionTimeout : ∀ x0 x1, Statement (.completionTimeout x0 x1) := by intro x0 x1; exact fun s => ⟨_, by show execCompletionTimeout x0 x1 s = _; unfold execCompletionTimeout; rfl⟩
theorem hostTagQuarantineExpiry : ∀ x0 x1, Statement (.hostTagQuarantineExpiry x0 x1) := by intro x0 x1; exact fun s => ⟨_, by show execHostTagQuarantineExpiry x0 x1 s = _; unfold execHostTagQuarantineExpiry; rfl⟩
theorem translationCompletion : ∀ x0 x1 x2, Statement (.translationCompletion x0 x1 x2) := by intro x0 x1 x2; exact fun s => ⟨_, by show execTranslationCompletion x0 x1 x2 s = _; unfold execTranslationCompletion; rfl⟩
theorem invalidateRequest : ∀ x0 x1 x2 x3 x4 x5 x6, Statement (.invalidateRequest x0 x1 x2 x3 x4 x5 x6) := by intro x0 x1 x2 x3 x4 x5 x6; exact fun s => ⟨_, by show execInvalidateRequest x0 x1 x2 x3 x4 x5 s x6 = _; unfold execInvalidateRequest; rfl⟩
theorem invalidateCompletion : ∀ x0, Statement (.invalidateCompletion x0) := by intro x0; exact fun s => ⟨_, by show execInvalidateCompletion x0 s = _; unfold execInvalidateCompletion; rfl⟩
theorem localMasterRd : ∀ x0 x1 x2, Statement (.localMasterRd x0 x1 x2) := by intro x0 x1 x2; exact fun s => ⟨_, by show execLocalMasterRd x0 x1 x2 s = _; unfold execLocalMasterRd; rfl⟩
theorem localMasterWr : ∀ x0 x1, Statement (.localMasterWr x0 x1) := by intro x0 x1; exact fun s => ⟨_, by show execLocalMasterWr x0 x1 s = _; unfold execLocalMasterWr; rfl⟩
theorem localMasterWrf : ∀ x0 x1, Statement (.localMasterWrf x0 x1) := by intro x0 x1; exact fun s => ⟨_, by show execLocalMasterWrf x0 x1 s = _; unfold execLocalMasterWrf; rfl⟩
theorem localMasterAtm : ∀ x0 x1 x2 x3, Statement (.localMasterAtm x0 x1 x2 x3) := by intro x0 x1 x2 x3; exact fun s => ⟨_, by show execLocalMasterAtm x0 x1 x2 x3 s = _; unfold execLocalMasterAtm; rfl⟩
theorem localMasterFlush : ∀ x0 x1, Statement (.localMasterFlush x0 x1) := by intro x0 x1; exact fun s => ⟨_, by show execLocalMasterFlush x0 x1 s = _; unfold execLocalMasterFlush; rfl⟩
theorem localMasterNop : ∀ x0 x1, Statement (.localMasterNop x0 x1) := by intro x0 x1; exact fun s => ⟨_, by show execLocalMasterNop x0 x1 s = _; unfold execLocalMasterNop; rfl⟩
theorem flushAnswer : ∀ x0, Statement (.flushAnswer x0) := by intro x0; exact fun s => ⟨_, by show execFlushAnswer x0 s = _; unfold execFlushAnswer; rfl⟩
theorem rspDone : ∀ x0 x1 x2 x3 x4 x5, Statement (.rspDone x0 x1 x2 x3 x4 x5) := by intro x0 x1 x2 x3 x4 x5; exact fun s => ⟨_, by show execRspDone x0 x1 x2 x3 x4 x5 s = _; unfold execRspDone; rfl⟩
theorem rspDonePoison : ∀ x0 x1 x2 x3 x4, Statement (.rspDonePoison x0 x1 x2 x3 x4) := by intro x0 x1 x2 x3 x4; exact fun s => ⟨_, by show execRspDonePoison x0 x1 x2 x3 x4 s = _; unfold execRspDonePoison; rfl⟩
theorem rspFault : ∀ x0 x1 x2, Statement (.rspFault x0 x1 x2) := by intro x0 x1 x2; exact fun s => ⟨_, by show execRspFault x0 x1 x2 s = _; unfold execRspFault; rfl⟩
theorem rspNotarget : ∀ x0 x1 x2, Statement (.rspNotarget x0 x1 x2) := by intro x0 x1 x2; exact fun s => ⟨_, by show execRspNotarget x0 x1 x2 s = _; unfold execRspNotarget; rfl⟩
theorem rspSidefx : ∀ x0 x1 x2, Statement (.rspSidefx x0 x1 x2) := by intro x0 x1 x2; exact fun s => ⟨_, by show execRspSidefx x0 x1 x2 s = _; unfold execRspSidefx; rfl⟩
theorem rspRetry : ∀ x0 x1 x2, Statement (.rspRetry x0 x1 x2) := by intro x0 x1 x2; exact fun s => ⟨_, by show execRspRetry x0 x1 x2 s = _; unfold execRspRetry; rfl⟩
theorem rspSize : ∀ x0 x1 x2, Statement (.rspSize x0 x1 x2) := by intro x0 x1 x2; exact fun s => ⟨_, by show execRspSize x0 x1 x2 s = _; unfold execRspSize; rfl⟩
theorem rspSidefxDone : ∀ x0 x1 x2 x3 x4, Statement (.rspSidefxDone x0 x1 x2 x3 x4) := by intro x0 x1 x2 x3 x4; exact fun s => ⟨_, by show execRspSidefxDone x0 x1 x2 x3 x4 s = _; unfold execRspSidefxDone; rfl⟩
theorem xlbRequestTimeout : ∀ x0 x1, Statement (.xlbRequestTimeout x0 x1) := by intro x0 x1; exact fun s => ⟨_, by show execXlbRequestTimeout x0 x1 s = _; unfold execXlbRequestTimeout; rfl⟩
theorem retryGapExpiry : ∀ x0 x1, Statement (.retryGapExpiry x0 x1) := by intro x0 x1; exact fun s => ⟨_, by show execRetryGapExpiry x0 x1 s = _; unfold execRetryGapExpiry; rfl⟩
theorem xlbTagQuarantineExpiry : ∀ x0 x1, Statement (.xlbTagQuarantineExpiry x0 x1) := by intro x0 x1; exact fun s => ⟨_, by show execXlbTagQuarantineExpiry x0 x1 s = _; unfold execXlbTagQuarantineExpiry; rfl⟩
theorem lines : ∀ x0 x1 x2 x3, Statement (.lines x0 x1 x2 x3) := by intro x0 x1 x2 x3; exact fun s => ⟨_, by show execLines x0 x1 x2 x3 s = _; unfold execLines; rfl⟩
theorem reins : ∀ x0 x1 x2, Statement (.reins x0 x1 x2) := by intro x0 x1 x2; exact fun s => ⟨_, by show execReins x0 x1 x2 s = _; unfold execReins; rfl⟩
theorem event : ∀ x0 x1 x2 x3, Statement (.event x0 x1 x2 x3) := by intro x0 x1 x2 x3; exact fun s => ⟨_, by show execEvent x0 x1 x2 x3 s = _; unfold execEvent; rfl⟩
theorem vendor : ∀ x0 x1 x2 x3 x4, Statement (.vendor x0 x1 x2 x3 x4) := by intro x0 x1 x2 x3 x4; exact fun s => ⟨_, by show execVendor x0 x1 x2 x3 x4 s = _; unfold execVendor; rfl⟩
theorem caps : ∀ x0 x1, Statement (.caps x0 x1) := by intro x0 x1; exact fun s => ⟨_, by show execCaps x0 x1 s = _; unfold execCaps; rfl⟩
theorem credit : ∀ x0 x1 x2 x3 x4, Statement (.credit x0 x1 x2 x3 x4) := by intro x0 x1 x2 x3 x4; exact fun s => ⟨_, by show execCredit x0 x1 x2 x3 x4 s = _; unfold execCredit; rfl⟩
theorem pad : ∀ x0, Statement (.pad x0) := by intro x0; exact fun s => ⟨_, by show execPad x0 s = _; unfold execPad; rfl⟩
theorem release : ∀ x0, Statement (.release x0) := by intro x0; exact fun s => ⟨_, by show execRelease x0 s = _; unfold execRelease; rfl⟩
theorem capsAbandon : ∀ x0, Statement (.capsAbandon x0) := by intro x0; exact fun s => ⟨_, by show execCapsAbandon x0 s = _; unfold execCapsAbandon; rfl⟩
theorem tetherReceiverDetect : ∀ x0 x1, Statement (.tetherReceiverDetect x0 x1) := by intro x0 x1; exact fun s => ⟨_, by show execTetherReceiverDetect x0 x1 s = _; unfold execTetherReceiverDetect; rfl⟩
theorem trainingBlock : ∀ x0 x1 x2 x3, Statement (.trainingBlock x0 x1 x2 x3) := by intro x0 x1 x2 x3; exact fun s => ⟨_, by show execTrainingBlock x0 x1 x2 s x3 = _; unfold execTrainingBlock; rfl⟩
theorem adaptPresetDwellExpiry : ∀ x0 x1 x2, Statement (.adaptPresetDwellExpiry x0 x1 x2) := by intro x0 x1 x2; exact fun s => ⟨_, by show execAdaptPresetDwellExpiry x0 x1 x2 s = _; unfold execAdaptPresetDwellExpiry; rfl⟩
theorem tetherStateLimitExpiry : ∀ x0, Statement (.tetherStateLimitExpiry x0) := by intro x0; exact fun s => ⟨_, by show execTetherStateLimitExpiry x0 s = _; unfold execTetherStateLimitExpiry; rfl⟩
theorem symbolLock : ∀ x0, Statement (.symbolLock x0) := by intro x0; exact fun s => ⟨_, by show execSymbolLock x0 s = _; unfold execSymbolLock; rfl⟩
theorem deskewDone : ∀ x0, Statement (.deskewDone x0) := by intro x0; exact fun s => ⟨_, by show execDeskewDone x0 s = _; unfold execDeskewDone; rfl⟩
theorem capsResend : ∀ x0, Statement (.capsResend x0) := by intro x0; exact fun s => ⟨_, by show execCapsResend x0 s = _; unfold execCapsResend; rfl⟩
theorem trainBackoffExpiry : ∀ x0, Statement (.trainBackoffExpiry x0) := by intro x0; exact fun s => ⟨_, by show execTrainBackoffExpiry x0 s = _; unfold execTrainBackoffExpiry; rfl⟩
theorem flit : ∀ x0 x1, Statement (.flit x0 x1) := by intro x0 x1; exact fun s => ⟨_, by show execFlit x0 x1 s = _; unfold execFlit; rfl⟩
theorem nakHoldoffExpiry : ∀ x0, Statement (.nakHoldoffExpiry x0) := by intro x0; exact fun s => ⟨_, by show execNakHoldoffExpiry x0 s = _; unfold execNakHoldoffExpiry; rfl⟩
theorem replay : ∀ x0 x1, Statement (.replay x0 x1) := by intro x0 x1; exact fun s => ⟨_, by show execReplay x0 x1 s = _; unfold execReplay; rfl⟩
theorem skipFlit : ∀ x0, Statement (.skipFlit x0) := by intro x0; exact fun s => ⟨_, by show execSkipFlit x0 s = _; unfold execSkipFlit; rfl⟩
theorem skipFlitSend : ∀ x0, Statement (.skipFlitSend x0) := by intro x0; exact fun s => ⟨_, by show execSkipFlitSend x0 s = _; unfold execSkipFlitSend; rfl⟩
theorem alignmentMarker : ∀ x0 x1, Statement (.alignmentMarker x0 x1) := by intro x0 x1; exact fun s => ⟨_, by show execAlignmentMarker x0 x1 s = _; unfold execAlignmentMarker; rfl⟩
theorem alignmentMarkerSend : ∀ x0, Statement (.alignmentMarkerSend x0) := by intro x0; exact fun s => ⟨_, by show execAlignmentMarkerSend x0 s = _; unfold execAlignmentMarkerSend; rfl⟩
theorem narrowReq : ∀ x0 x1, Statement (.narrowReq x0 x1) := by intro x0 x1; exact fun s => ⟨_, by show execNarrowReq x0 x1 s = _; unfold execNarrowReq; rfl⟩
theorem narrow : ∀ x0 x1 x2, Statement (.narrow x0 x1 x2) := by intro x0 x1 x2; exact fun s => ⟨_, by show execNarrow x0 x1 x2 s = _; unfold execNarrow; rfl⟩
theorem narrowSwitch : ∀ x0 x1, Statement (.narrowSwitch x0 x1) := by intro x0 x1; exact fun s => ⟨_, by show execNarrowSwitch x0 x1 s = _; unfold execNarrowSwitch; rfl⟩
theorem doze : ∀ x0, Statement (.doze x0) := by intro x0; exact fun s => ⟨_, by show execDoze x0 s = _; unfold execDoze; rfl⟩
theorem dozeIdleExpiry : ∀ x0, Statement (.dozeIdleExpiry x0) := by intro x0; exact fun s => ⟨_, by show execDozeIdleExpiry x0 s = _; unfold execDozeIdleExpiry; rfl⟩
theorem nudgeBurst : ∀ x0, Statement (.nudgeBurst x0) := by intro x0; exact fun s => ⟨_, by show execNudgeBurst x0 s = _; unfold execNudgeBurst; rfl⟩
theorem nudgeCheckExpiry : ∀ x0, Statement (.nudgeCheckExpiry x0) := by intro x0; exact fun s => ⟨_, by show execNudgeCheckExpiry x0 s = _; unfold execNudgeCheckExpiry; rfl⟩
theorem tetherKeepaliveExpiry : ∀ x0, Statement (.tetherKeepaliveExpiry x0) := by intro x0; exact fun s => ⟨_, by show execTetherKeepaliveExpiry x0 s = _; unfold execTetherKeepaliveExpiry; rfl⟩
theorem loomTransfer : ∀ x0 x1 x2 x3, Statement (.loomTransfer x0 x1 x2 x3) := by intro x0 x1 x2 x3; exact fun s => ⟨_, by show execLoomTransfer x0 x1 x2 s x3 = _; unfold execLoomTransfer; rfl⟩
theorem loomSliceResume : Statement .loomSliceResume := by exact fun s => ⟨_, by show execLoomSliceResume s = _; unfold execLoomSliceResume; rfl⟩
theorem loomNarrow : Statement .loomNarrow := by exact fun s => ⟨_, by show execLoomNarrow s = _; unfold execLoomNarrow; rfl⟩
theorem loomWiden : Statement .loomWiden := by exact fun s => ⟨_, by show execLoomWiden s = _; unfold execLoomWiden; rfl⟩
theorem unitPowerGate : ∀ x0, Statement (.unitPowerGate x0) := by intro x0; exact fun s => ⟨_, by show execUnitPowerGate x0 s = _; unfold execUnitPowerGate; rfl⟩
theorem doorbell : ∀ x0 x1 x2, Statement (.doorbell x0 x1 x2) := by intro x0 x1 x2; exact fun s => ⟨_, by show execDoorbell x0 x1 x2 s = _; unfold execDoorbell; rfl⟩
theorem producerIndex : ∀ x0 x1, Statement (.producerIndex x0 x1) := by intro x0 x1; exact fun s => ⟨_, by show execProducerIndex x0 x1 s = _; unfold execProducerIndex; rfl⟩
theorem descriptorFetchData : ∀ x0 x1, Statement (.descriptorFetchData x0 x1) := by intro x0 x1; exact fun s => ⟨_, by show execDescriptorFetchData x0 x1 s = _; unfold execDescriptorFetchData; rfl⟩
theorem fragmentTableData : ∀ x0 x1, Statement (.fragmentTableData x0 x1) := by intro x0 x1; exact fun s => ⟨_, by show execFragmentTableData x0 x1 s = _; unfold execFragmentTableData; rfl⟩
theorem chunkReadIssue : ∀ x0 x1, Statement (.chunkReadIssue x0 x1) := by intro x0 x1; exact fun s => ⟨_, by show execChunkReadIssue x0 x1 s = _; unfold execChunkReadIssue; rfl⟩
theorem chunkReadData : ∀ x0 x1, Statement (.chunkReadData x0 x1) := by intro x0 x1; exact fun s => ⟨_, by show execChunkReadData x0 x1 s = _; unfold execChunkReadData; rfl⟩
theorem chunkWriteDone : ∀ x0 x1, Statement (.chunkWriteDone x0 x1) := by intro x0 x1; exact fun s => ⟨_, by show execChunkWriteDone x0 x1 s = _; unfold execChunkWriteDone; rfl⟩
theorem coalTimerExpiry : ∀ x0 x1, Statement (.coalTimerExpiry x0 x1) := by intro x0 x1; exact fun s => ⟨_, by show execCoalTimerExpiry x0 x1 s = _; unfold execCoalTimerExpiry; rfl⟩
theorem headWritebackAccepted : ∀ x0 x1, Statement (.headWritebackAccepted x0 x1) := by intro x0 x1; exact fun s => ⟨_, by show execHeadWritebackAccepted x0 x1 s = _; unfold execHeadWritebackAccepted; rfl⟩
theorem qcmdEnable : ∀ x0 x1, Statement (.qcmdEnable x0 x1) := by intro x0 x1; exact fun s => ⟨_, by show execQcmdEnable x0 x1 s = _; unfold execQcmdEnable; rfl⟩
theorem qcmdDisable : ∀ x0 x1, Statement (.qcmdDisable x0 x1) := by intro x0 x1; exact fun s => ⟨_, by show execQcmdDisable x0 x1 s = _; unfold execQcmdDisable; rfl⟩
theorem qcmdPause : ∀ x0 x1, Statement (.qcmdPause x0 x1) := by intro x0 x1; exact fun s => ⟨_, by show execQcmdPause x0 x1 s = _; unfold execQcmdPause; rfl⟩
theorem qcmdResume : ∀ x0 x1, Statement (.qcmdResume x0 x1) := by intro x0 x1; exact fun s => ⟨_, by show execQcmdResume x0 x1 s = _; unfold execQcmdResume; rfl⟩
theorem qcmdReset : ∀ x0 x1, Statement (.qcmdReset x0 x1) := by intro x0 x1; exact fun s => ⟨_, by show execQcmdReset x0 x1 s = _; unfold execQcmdReset; rfl⟩
theorem queueResetDone : ∀ x0 x1, Statement (.queueResetDone x0 x1) := by intro x0 x1; exact fun s => ⟨_, by show execQueueResetDone x0 x1 s = _; unfold execQueueResetDone; rfl⟩
theorem queuePaused : ∀ x0 x1, Statement (.queuePaused x0 x1) := by intro x0 x1; exact fun s => ⟨_, by show execQueuePaused x0 x1 s = _; unfold execQueuePaused; rfl⟩
theorem queueDrainEnd : ∀ x0 x1, Statement (.queueDrainEnd x0 x1) := by intro x0 x1; exact fun s => ⟨_, by show execQueueDrainEnd x0 x1 s = _; unfold execQueueDrainEnd; rfl⟩
theorem shtQheadWrite : ∀ x0 x1 x2, Statement (.shtQheadWrite x0 x1 x2) := by intro x0 x1 x2; exact fun s => ⟨_, by show execShtQheadWrite x0 x1 x2 s = _; unfold execShtQheadWrite; rfl⟩
theorem queueContextWrite : ∀ x0 x1 x2 x3, Statement (.queueContextWrite x0 x1 x2 x3) := by intro x0 x1 x2 x3; exact fun s => ⟨_, by show execQueueContextWrite x0 x1 x2 x3 s = _; unfold execQueueContextWrite; rfl⟩
theorem fetchTimeout : ∀ x0 x1, Statement (.fetchTimeout x0 x1) := by intro x0 x1; exact fun s => ⟨_, by show execFetchTimeout x0 x1 s = _; unfold execFetchTimeout; rfl⟩
theorem shuttleMoveDone : ∀ x0, Statement (.shuttleMoveDone x0) := by intro x0; exact fun s => ⟨_, by show execShuttleMoveDone x0 s = _; unfold execShuttleMoveDone; rfl⟩
theorem shuttlePark : ∀ x0, Statement (.shuttlePark x0) := by intro x0; exact fun s => ⟨_, by show execShuttlePark x0 s = _; unfold execShuttlePark; rfl⟩
theorem evtCtrlWrite : ∀ x0 x1, Statement (.evtCtrlWrite x0 x1) := by intro x0 x1; exact fun s => ⟨_, by show execEvtCtrlWrite x0 x1 s = _; unfold execEvtCtrlWrite; rfl⟩
theorem evtConsWrite : ∀ x0 x1, Statement (.evtConsWrite x0 x1) := by intro x0 x1; exact fun s => ⟨_, by show execEvtConsWrite x0 x1 s = _; unfold execEvtConsWrite; rfl⟩
theorem weaveLoad : ∀ x0 x1, Statement (.weaveLoad x0 x1) := by intro x0 x1; exact fun s => ⟨_, by show execWeaveLoad x0 x1 s = _; unfold execWeaveLoad; rfl⟩
theorem weaveClear : ∀ x0 x1, Statement (.weaveClear x0 x1) := by intro x0 x1; exact fun s => ⟨_, by show execWeaveClear x0 x1 s = _; unfold execWeaveClear; rfl⟩
theorem weaveCmdDone : ∀ x0, Statement (.weaveCmdDone x0) := by intro x0; exact fun s => ⟨_, by show execWeaveCmdDone x0 s = _; unfold execWeaveCmdDone; rfl⟩
theorem spurSelect : ∀ x0, Statement (.spurSelect x0) := by intro x0; exact fun s => ⟨_, by show execSpurSelect x0 s = _; unfold execSpurSelect; rfl⟩
theorem spurIssueCommit : ∀ x0, Statement (.spurIssueCommit x0) := by intro x0; exact fun s => ⟨_, by show execSpurIssueCommit x0 s = _; unfold execSpurIssueCommit; rfl⟩
theorem spurMaskSet : ∀ x0 x1, Statement (.spurMaskSet x0 x1) := by intro x0 x1; exact fun s => ⟨_, by show execSpurMaskSet x0 x1 s = _; unfold execSpurMaskSet; rfl⟩
theorem spurMaskClr : ∀ x0 x1, Statement (.spurMaskClr x0 x1) := by intro x0 x1; exact fun s => ⟨_, by show execSpurMaskClr x0 x1 s = _; unfold execSpurMaskClr; rfl⟩
theorem spurPendSet : ∀ x0 x1, Statement (.spurPendSet x0 x1) := by intro x0 x1; exact fun s => ⟨_, by show execSpurPendSet x0 x1 s = _; unfold execSpurPendSet; rfl⟩
theorem spurPendClr : ∀ x0 x1, Statement (.spurPendClr x0 x1) := by intro x0 x1; exact fun s => ⟨_, by show execSpurPendClr x0 x1 s = _; unfold execSpurPendClr; rfl⟩
theorem spurEoi : ∀ x0 x1, Statement (.spurEoi x0 x1) := by intro x0 x1; exact fun s => ⟨_, by show execSpurEoi x0 x1 s = _; unfold execSpurEoi; rfl⟩
theorem spurResample : ∀ x0 x1, Statement (.spurResample x0 x1) := by intro x0 x1; exact fun s => ⟨_, by show execSpurResample x0 x1 s = _; unfold execSpurResample; rfl⟩
theorem spurSrcCfgWrite : ∀ x0 x1 x2, Statement (.spurSrcCfgWrite x0 x1 x2) := by intro x0 x1 x2; exact fun s => ⟨_, by show execSpurSrcCfgWrite x0 x1 x2 s = _; unfold execSpurSrcCfgWrite; rfl⟩
theorem intxSpacingExpiry : ∀ x0 x1, Statement (.intxSpacingExpiry x0 x1) := by intro x0 x1; exact fun s => ⟨_, by show execIntxSpacingExpiry x0 x1 s = _; unfold execIntxSpacingExpiry; rfl⟩
theorem reinsPeriodExpiry : ∀ x0, Statement (.reinsPeriodExpiry x0) := by intro x0; exact fun s => ⟨_, by show execReinsPeriodExpiry x0 s = _; unfold execReinsPeriodExpiry; rfl⟩
theorem lockstepMismatch : ∀ x0 x1, Statement (.lockstepMismatch x0 x1) := by intro x0 x1; exact fun s => ⟨_, by show execLockstepMismatch x0 x1 s = _; unfold execLockstepMismatch; rfl⟩
theorem groomWatchdogExpiry : ∀ x0 x1, Statement (.groomWatchdogExpiry x0 x1) := by intro x0 x1; exact fun s => ⟨_, by show execGroomWatchdogExpiry x0 x1 s = _; unfold execGroomWatchdogExpiry; rfl⟩
theorem groomTakeoverDone : Statement .groomTakeoverDone := by exact fun s => ⟨_, by show execGroomTakeoverDone s = _; unfold execGroomTakeoverDone; rfl⟩
theorem groomFrame : ∀ x0 x1 x2 x3, Statement (.groomFrame x0 x1 x2 x3) := by intro x0 x1 x2 x3; exact fun s => ⟨_, by show execGroomFrame x0 x1 x2 x3 s = _; unfold execGroomFrame; rfl⟩
theorem telemetryPeriodExpiry : ∀ x0 x1 x2, Statement (.telemetryPeriodExpiry x0 x1 x2) := by intro x0 x1 x2; exact fun s => ⟨_, by show execTelemetryPeriodExpiry x0 x1 x2 s = _; unfold execTelemetryPeriodExpiry; rfl⟩
theorem stallGroupsSectionArrival : ∀ x0 x1, Statement (.stallGroupsSectionArrival x0 x1) := by intro x0 x1; exact fun s => ⟨_, by show execStallGroupsSectionArrival x0 x1 s = _; unfold execStallGroupsSectionArrival; rfl⟩
theorem imageCopyCheck : ∀ x0 x1, Statement (.imageCopyCheck x0 x1) := by intro x0 x1; exact fun s => ⟨_, by show execImageCopyCheck x0 x1 s = _; unfold execImageCopyCheck; rfl⟩
theorem imageReady : Statement .imageReady := by exact fun s => ⟨_, by show execImageReady s = _; unfold execImageReady; rfl⟩
theorem imageNotReadyTimeout : ∀ x0, Statement (.imageNotReadyTimeout x0) := by intro x0; exact fun s => ⟨_, by show execImageNotReadyTimeout x0 s = _; unfold execImageNotReadyTimeout; rfl⟩
theorem svnCommit : Statement .svnCommit := by exact fun s => ⟨_, by show execSvnCommit s = _; unfold execSvnCommit; rfl⟩
theorem imageActivation : ∀ x0, Statement (.imageActivation x0) := by intro x0; exact fun s => ⟨_, by show execImageActivation x0 s = _; unfold execImageActivation; rfl⟩
theorem pldmTransfer : ∀ x0 x1 x2 x3, Statement (.pldmTransfer x0 x1 x2 x3) := by intro x0 x1 x2 x3; exact fun s => ⟨_, by show execPldmTransfer x0 x1 x2 x3 s = _; unfold execPldmTransfer; rfl⟩
theorem pldmUpdateIdleExpiry : Statement .pldmUpdateIdleExpiry := by exact fun s => ⟨_, by show execPldmUpdateIdleExpiry s = _; unfold execPldmUpdateIdleExpiry; rfl⟩
theorem deferredModuleReset : Statement .deferredModuleReset := by exact fun s => ⟨_, by show execDeferredModuleReset s = _; unfold execDeferredModuleReset; rfl⟩
theorem lmsTreeReady : Statement .lmsTreeReady := by exact fun s => ⟨_, by show execLmsTreeReady s = _; unfold execLmsTreeReady; rfl⟩
theorem getVersion : ∀ x0, Statement (.getVersion x0) := by intro x0; exact fun s => ⟨_, by show execGetVersion x0 s = _; unfold execGetVersion; rfl⟩
theorem getCertificate : ∀ x0 x1 x2 x3, Statement (.getCertificate x0 x1 x2 x3) := by intro x0 x1 x2 x3; exact fun s => ⟨_, by show execGetCertificate x0 x1 x2 x3 s = _; unfold execGetCertificate; rfl⟩
theorem challenge : ∀ x0 x1, Statement (.challenge x0 x1) := by intro x0 x1; exact fun s => ⟨_, by show execChallenge x0 x1 s = _; unfold execChallenge; rfl⟩
theorem getMeasurements : ∀ x0 x1, Statement (.getMeasurements x0 x1) := by intro x0 x1; exact fun s => ⟨_, by show execGetMeasurements x0 x1 s = _; unfold execGetMeasurements; rfl⟩
theorem keyExchange : ∀ x0 x1, Statement (.keyExchange x0 x1) := by intro x0 x1; exact fun s => ⟨_, by show execKeyExchange x0 x1 s = _; unfold execKeyExchange; rfl⟩
theorem endSession : ∀ x0 x1, Statement (.endSession x0 x1) := by intro x0 x1; exact fun s => ⟨_, by show execEndSession x0 x1 s = _; unfold execEndSession; rfl⟩
theorem countersign : ∀ x0, Statement (.countersign x0) := by intro x0; exact fun s => ⟨_, by show execCountersign x0 s = _; unfold execCountersign; rfl⟩
theorem getHssChain : ∀ x0 x1 x2, Statement (.getHssChain x0 x1 x2) := by intro x0 x1 x2; exact fun s => ⟨_, by show execGetHssChain x0 x1 x2 s = _; unfold execGetHssChain; rfl⟩
theorem getHssState : ∀ x0, Statement (.getHssState x0) := by intro x0; exact fun s => ⟨_, by show execGetHssState x0 s = _; unfold execGetHssState; rfl⟩
theorem query : ∀ x0 x1 x2, Statement (.query x0 x1 x2) := by intro x0 x1 x2; exact fun s => ⟨_, by show execQuery x0 x1 x2 s = _; unfold execQuery; rfl⟩
theorem keyProg : ∀ x0 x1 x2 x3 x4 x5 x6, Statement (.keyProg x0 x1 x2 x3 x4 x5 x6) := by intro x0 x1 x2 x3 x4 x5 x6; exact fun s => ⟨_, by show execKeyProg x0 x1 x2 x3 x4 x5 x6 s = _; unfold execKeyProg; rfl⟩
theorem kSetGo : ∀ x0 x1 x2 x3 x4 x5 x6, Statement (.kSetGo x0 x1 x2 x3 x4 x5 x6) := by intro x0 x1 x2 x3 x4 x5 x6; exact fun s => ⟨_, by show execKSetGo x0 x1 x2 x3 x4 x5 x6 s = _; unfold execKSetGo; rfl⟩
theorem kSetStop : ∀ x0 x1 x2 x3 x4 x5 x6, Statement (.kSetStop x0 x1 x2 x3 x4 x5 x6) := by intro x0 x1 x2 x3 x4 x5 x6; exact fun s => ⟨_, by show execKSetStop x0 x1 x2 x3 x4 x5 x6 s = _; unfold execKSetStop; rfl⟩
theorem lockInterfaceRequest : ∀ x0 x1 x2, Statement (.lockInterfaceRequest x0 x1 x2) := by intro x0 x1 x2; exact fun s => ⟨_, by show execLockInterfaceRequest x0 x1 x2 s = _; unfold execLockInterfaceRequest; rfl⟩
theorem startInterfaceRequest : ∀ x0 x1 x2, Statement (.startInterfaceRequest x0 x1 x2) := by intro x0 x1 x2; exact fun s => ⟨_, by show execStartInterfaceRequest x0 x1 x2 s = _; unfold execStartInterfaceRequest; rfl⟩
theorem stopInterfaceRequest : ∀ x0 x1 x2, Statement (.stopInterfaceRequest x0 x1 x2) := by intro x0 x1 x2; exact fun s => ⟨_, by show execStopInterfaceRequest x0 x1 x2 s = _; unfold execStopInterfaceRequest; rfl⟩
theorem getDeviceInterfaceReport : ∀ x0 x1 x2, Statement (.getDeviceInterfaceReport x0 x1 x2) := by intro x0 x1 x2; exact fun s => ⟨_, by show execGetDeviceInterfaceReport x0 x1 x2 s = _; unfold execGetDeviceInterfaceReport; rfl⟩
theorem doeRequest : ∀ x0 x1, Statement (.doeRequest x0 x1) := by intro x0 x1; exact fun s => ⟨_, by show execDoeRequest x0 x1 s = _; unfold execDoeRequest; rfl⟩
theorem setEndpointId : ∀ x0 x1, Statement (.setEndpointId x0 x1) := by intro x0 x1; exact fun s => ⟨_, by show execSetEndpointId x0 x1 s = _; unfold execSetEndpointId; rfl⟩
theorem registerAccessRead : ∀ x0 x1 x2, Statement (.registerAccessRead x0 x1 x2) := by intro x0 x1 x2; exact fun s => ⟨_, by show execRegisterAccessRead x0 x1 x2 s = _; unfold execRegisterAccessRead; rfl⟩
theorem registerAccessWrite : ∀ x0 x1 x2, Statement (.registerAccessWrite x0 x1 x2) := by intro x0 x1 x2; exact fun s => ⟨_, by show execRegisterAccessWrite x0 x1 x2 s = _; unfold execRegisterAccessWrite; rfl⟩
theorem moduleReset : ∀ x0, Statement (.moduleReset x0) := by intro x0; exact fun s => ⟨_, by show execModuleReset x0 s = _; unfold execModuleReset; rfl⟩
theorem pldmSensorRead : ∀ x0 x1, Statement (.pldmSensorRead x0 x1) := by intro x0 x1; exact fun s => ⟨_, by show execPldmSensorRead x0 x1 s = _; unfold execPldmSensorRead; rfl⟩
theorem halterFrameForward : ∀ x0, Statement (.halterFrameForward x0) := by intro x0; exact fun s => ⟨_, by show execHalterFrameForward x0 s = _; unfold execHalterFrameForward; rfl⟩
theorem discover : ∀ x0, Statement (.discover x0) := by intro x0; exact fun s => ⟨_, by show execDiscover x0 s = _; unfold execDiscover; rfl⟩
theorem status : Statement .status := by exact fun s => ⟨_, by show execStatus s = _; unfold execStatus; rfl⟩
theorem mctp : ∀ x0 x1, Statement (.mctp x0 x1) := by intro x0 x1; exact fun s => ⟨_, by show execMctp x0 x1 s = _; unfold execMctp; rfl⟩
theorem wake : Statement .wake := by exact fun s => ⟨_, by show execWake s = _; unfold execWake; rfl⟩
theorem imageData : ∀ x0 x1, Statement (.imageData x0 x1) := by intro x0 x1; exact fun s => ⟨_, by show execImageData x0 x1 s = _; unfold execImageData; rfl⟩
theorem imageReqTimeout : Statement .imageReqTimeout := by exact fun s => ⟨_, by show execImageReqTimeout s = _; unfold execImageReqTimeout; rfl⟩
theorem bypass : ∀ x0, Statement (.bypass x0) := by intro x0; exact fun s => ⟨_, by show execBypass x0 s = _; unfold execBypass; rfl⟩
theorem halterRejoin : Statement .halterRejoin := by exact fun s => ⟨_, by show execHalterRejoin s = _; unfold execHalterRejoin; rfl⟩
theorem debugUnlock : ∀ x0, Statement (.debugUnlock x0) := by intro x0; exact fun s => ⟨_, by show execDebugUnlock x0 s = _; unfold execDebugUnlock; rfl⟩
theorem jtagBypass : Statement .jtagBypass := by exact fun s => ⟨_, by show execJtagBypass s = _; unfold execJtagBypass; rfl⟩
theorem jtagIdcode : Statement .jtagIdcode := by exact fun s => ⟨_, by show execJtagIdcode s = _; unfold execJtagIdcode; rfl⟩
theorem jtagSamplePreload : ∀ x0, Statement (.jtagSamplePreload x0) := by intro x0; exact fun s => ⟨_, by show execJtagSamplePreload x0 s = _; unfold execJtagSamplePreload; rfl⟩
theorem jtagExtest : Statement .jtagExtest := by exact fun s => ⟨_, by show execJtagExtest s = _; unfold execJtagExtest; rfl⟩
theorem jtagClamp : Statement .jtagClamp := by exact fun s => ⟨_, by show execJtagClamp s = _; unfold execJtagClamp; rfl⟩
theorem jtagHighz : Statement .jtagHighz := by exact fun s => ⟨_, by show execJtagHighz s = _; unfold execJtagHighz; rfl⟩
theorem jtagExtestPulse : Statement .jtagExtestPulse := by exact fun s => ⟨_, by show execJtagExtestPulse s = _; unfold execJtagExtestPulse; rfl⟩
theorem jtagExtestTrain : Statement .jtagExtestTrain := by exact fun s => ⟨_, by show execJtagExtestTrain s = _; unfold execJtagExtestTrain; rfl⟩
theorem stlRefclkReturn : ∀ x0, Statement (.stlRefclkReturn x0) := by intro x0; exact fun s => ⟨_, by show execStlRefclkReturn x0 s = _; unfold execStlRefclkReturn; rfl⟩
theorem linkRecovery : ∀ x0, Statement (.linkRecovery x0) := by intro x0; exact fun s => ⟨_, by show execLinkRecovery x0 s = _; unfold execLinkRecovery; rfl⟩
theorem linkReturnToL0 : ∀ x0 x1 x2, Statement (.linkReturnToL0 x0 x1 x2) := by intro x0 x1 x2; exact fun s => ⟨_, by show execLinkReturnToL0 x0 x1 s x2 = _; unfold execLinkReturnToL0; rfl⟩
theorem nudgeArrival : ∀ x0, Statement (.nudgeArrival x0) := by intro x0; exact fun s => ⟨_, by show execNudgeArrival x0 s = _; unfold execNudgeArrival; rfl⟩
theorem partnerWake : ∀ x0, Statement (.partnerWake x0) := by intro x0; exact fun s => ⟨_, by show execPartnerWake x0 s = _; unfold execPartnerWake; rfl⟩
theorem electricalIdleAfterMarker : ∀ x0, Statement (.electricalIdleAfterMarker x0) := by intro x0; exact fun s => ⟨_, by show execElectricalIdleAfterMarker x0 s = _; unfold execElectricalIdleAfterMarker; rfl⟩
theorem ackWaitExpiry : ∀ x0, Statement (.ackWaitExpiry x0) := by intro x0; exact fun s => ⟨_, by show execAckWaitExpiry x0 s = _; unfold execAckWaitExpiry; rfl⟩
theorem vstbyRangeChange : ∀ x0, Statement (.vstbyRangeChange x0) := by intro x0; exact fun s => ⟨_, by show execVstbyRangeChange x0 s = _; unfold execVstbyRangeChange; rfl⟩
theorem vectorControlMaskClear : ∀ x0 x1, Statement (.vectorControlMaskClear x0 x1) := by intro x0 x1; exact fun s => ⟨_, by show execVectorControlMaskClear x0 x1 s = _; unfold execVectorControlMaskClear; rfl⟩
theorem jtagTrstNAssert : Statement .jtagTrstNAssert := by exact fun s => ⟨_, by show execJtagTrstNAssert s = _; unfold execJtagTrstNAssert; rfl⟩
theorem finish : ∀ x0 x1, Statement (.finish x0 x1) := by intro x0 x1; exact fun s => ⟨_, by show execFinish x0 x1 s = _; unfold execFinish; rfl⟩
theorem keyUpdate : ∀ x0 x1, Statement (.keyUpdate x0 x1) := by intro x0 x1; exact fun s => ⟨_, by show execKeyUpdate x0 x1 s = _; unfold execKeyUpdate; rfl⟩
theorem heartbeat : ∀ x0 x1, Statement (.heartbeat x0 x1) := by intro x0 x1; exact fun s => ⟨_, by show execHeartbeat x0 x1 s = _; unfold execHeartbeat; rfl⟩
theorem getCapabilities : ∀ x0, Statement (.getCapabilities x0) := by intro x0; exact fun s => ⟨_, by show execGetCapabilities x0 s = _; unfold execGetCapabilities; rfl⟩
theorem negotiateAlgorithms : ∀ x0, Statement (.negotiateAlgorithms x0) := by intro x0; exact fun s => ⟨_, by show execNegotiateAlgorithms x0 s = _; unfold execNegotiateAlgorithms; rfl⟩
theorem getDigests : ∀ x0, Statement (.getDigests x0) := by intro x0; exact fun s => ⟨_, by show execGetDigests x0 s = _; unfold execGetDigests; rfl⟩
theorem chunkSend : ∀ x0 x1, Statement (.chunkSend x0 x1) := by intro x0 x1; exact fun s => ⟨_, by show execChunkSend x0 x1 s = _; unfold execChunkSend; rfl⟩
theorem chunkGet : ∀ x0, Statement (.chunkGet x0) := by intro x0; exact fun s => ⟨_, by show execChunkGet x0 s = _; unfold execChunkGet; rfl⟩

end Sys2Proof.Laws.Total

set_option linter.unusedTactic false
set_option linter.unreachableTactic false
namespace Sys2Proof.Laws.Frame
open Sys2Proof.Machine

/-- A command that completes changes nothing but what the footprint table gives it. -/
def Statement (i : Instr) : Prop := ∀ s t : State, exec i s = .next t → i.keeps s.blk t.blk

/-- The bit of a field, as a product of small powers. -/
def fieldBit (f : Fld) : Nat := 2 ^ (Fld.ctorIdx f % 200) * (2 ^ 200) ^ (Fld.ctorIdx f / 200)

/-- The mask of some fields. -/
def fieldMask : List Fld → Nat
  | [] => 0
  | f :: l => fieldBit f ||| fieldMask l

/-- The mask of some parts. -/
def partMask : List Machine.Part → Nat
  | [] => 0
  | p :: l => 2 ^ Machine.Part.ctorIdx p ||| partMask l

theorem fieldBit_eq (f : Fld) : fieldBit f = 2 ^ Fld.ctorIdx f := by
  rw [fieldBit, ← Nat.pow_mul, ← Nat.pow_add, Nat.mod_add_div]

theorem fieldMask_not {fs : List Fld} {f : Fld} (h : f ∉ fs) : (fieldMask fs).testBit (Fld.ctorIdx f) = false := by
  induction fs with
  | nil => simp [fieldMask]
  | cons g l ih =>
    have hg : Fld.ctorIdx g ≠ Fld.ctorIdx f := fun e => h (by rw [Fld.ctorIdx_inj e]; exact List.mem_cons_self)
    simp [fieldMask, fieldBit_eq, Nat.testBit_or, hg, ih (fun k => h (List.mem_cons_of_mem _ k))]

theorem partMask_not {ps : List Machine.Part} {p : Machine.Part} (h : p ∉ ps) : (partMask ps).testBit (Machine.Part.ctorIdx p) = false := by
  induction ps with
  | nil => simp [partMask]
  | cons g l ih =>
    have hg : Machine.Part.ctorIdx g ≠ Machine.Part.ctorIdx p := fun e => h (by
      rw [← Machine.Part.ofNat_ctorIdx p, ← e, Machine.Part.ofNat_ctorIdx]; exact List.mem_cons_self)
    simp [partMask, Nat.testBit_or, hg, ih (fun k => h (List.mem_cons_of_mem _ k))]

/-- The block after a command that completes. -/
theorem on_next {s t : State} {f : Block → Block} (e : s.on f = .next t) : t.blk = (f s.blk).canon := by
  rw [← Host.Outcome.next.inj e]

/-- From the frame by masks to the footprint by lists. -/
theorem of_fr {m q : Nat} {i : Instr} {s t : State} {f : Block → Block} {fs : List Fld} {ps : List Machine.Part} (hw : i.writes = some fs)
    (hp : i.parts = ps) (em : fieldMask fs = m) (eq : partMask ps = q) (e : s.on f = .next t) (g : Fr m q s.blk (f s.blk)) :
    i.keeps s.blk t.blk := by
  subst em eq
  have h := Fr.canon g
  rw [← on_next e] at h
  refine ⟨?_, fun p k => h.part p (partMask_not (hp ▸ k))⟩
  rw [hw]
  exact fun f k x j => h.reg f x j (fieldMask_not k)

theorem of_full {m q : Nat} {i : Instr} {s t : State} {f : Block → Block} {ps : List Machine.Part} (hw : i.writes = none) (hp : i.parts = ps)
    (eq : partMask ps = q) (e : s.on f = .next t) (g : Fr m q s.blk (f s.blk)) : i.keeps s.blk t.blk := by
  subst eq
  have h := Fr.canon g
  rw [← on_next e] at h
  refine ⟨?_, fun p k => h.part p (partMask_not (hp ▸ k))⟩
  rw [hw]
  trivial

set_option maxRecDepth 8000 in
theorem tetherFields_mask : fieldMask tetherFields = 0x40800049001020802040000000000000000ec802cc796801ffe14183c6d800004018008000060008000301e00d800000f0000400000080c00 := by decide

set_option maxRecDepth 8000 in
theorem linkDownFields_mask : fieldMask linkDownFields = 0xffffffffffffffbffff9ffc100020000000f800041000001fff1e311a6d80037cfffefc00db7fffff3ffffff9ffffefcffc00580000080c00 := by decide

set_option maxRecDepth 8000 in
theorem slotFields_mask : fieldMask slotFields = 0x70800049001020802046000000000000000c4c0000000001ffe1401bfff830004018008002c60008000301e00d800000f000043f80008ffc0 := by decide

set_option maxRecDepth 8000 in
theorem masteringFields_mask : fieldMask masteringFields = 0x40838049001020bf22400020484000000000000000000801ffe14000020000004018008000060008414301e00d800000f0000400000080800 := by decide

set_option maxRecDepth 8000 in
theorem functionResetFields_mask : fieldMask functionResetFields = 0xff83ffc9f71effbffff9ffa048400000000f800000000801fff7400002000000401800800db7fffff3ffffff9ffffefcffc00580000080800 := by decide

set_option maxRecDepth 8000 in
theorem registerFields_mask : fieldMask registerFields = 0xffffffffffffffffffffffe94fc00002000fcc0030008fffffe1d91bffffffc0401800bffff7fffff3fff9ef9f83fefcffc005bf80008ffff := by decide

set_option maxRecDepth 8000 in
theorem pageReadFields_mask : fieldMask pageReadFields = 0x400000490010008020000070780400000000000780000001ffed67e40200000bf01800800006c000000307e001800000f00000000000f0000 := by decide

set_option maxRecDepth 8000 in
theorem dataFields_mask : fieldMask dataFields = 0x400000490010008020000000000000000000000000000001ffe14000020000004018008000060008000307ef9f800000f00004000000f0800 := by decide

set_option maxRecDepth 8000 in
theorem logFields_mask : fieldMask logFields = 0x490010008020000000000000000000000000000001ffe1400002000000000000000006000000c000000000000040000000000040000 := by decide

set_option maxRecDepth 8000 in
theorem trainFields_mask : fieldMask trainFields = 0x408000490010208020407f80000000000000000000000001ffe1440b87f800004018008000060008000301e00d800000f1c00400000080800 := by decide

set_option maxRecDepth 8000 in
theorem completionFields_mask : fieldMask completionFields = 0x400000490010008020000000000000000000000000000001ffe14000020000004018008000060000000301e00180000000000000000000000 := by decide

set_option maxRecDepth 8000 in
theorem capsFields_mask : fieldMask capsFields = 0x408000490010208020460000000000000008000000000001ffe1400002080000401800800a060008000301e00d800000f0000480000083fc0 := by decide

set_option maxRecDepth 8000 in
theorem flitFields_mask : fieldMask flitFields = 0x408000490010208020460000000000000008000000000001ffe163f5a6d80000401800800a060008000301e00d800000f00004800000e3fc0 := by decide

set_option maxRecDepth 8000 in
theorem queueResetFields_mask : fieldMask queueResetFields = 0x40000000000000000000000000000000000000000000000000000000000000000000000000000000000007ff9ffc000000000000000000000 := by decide

set_option maxRecDepth 8000 in
theorem queueDrainFields_mask : fieldMask queueDrainFields = 0x40000000000000800000000000000000000000000000000000000000020000004018008000020000000301ee0d80000000000000000000000 := by decide

set_option maxRecDepth 8000 in
theorem queueHeadFields_mask : fieldMask queueHeadFields = 0x400000490010008020000000000000000000000000000001ffe140000000000000000000000600000000000f8000000000000000000000000 := by decide

set_option maxRecDepth 8000 in
theorem queueContextFields_mask : fieldMask queueContextFields = 0x490010008020000000000000000000000000000001ffe14000000000000000000000060000000000008003fc0000000000000000000 := by decide

set_option maxRecDepth 8000 in
theorem shuttleMoveFields_mask : fieldMask shuttleMoveFields = 0x400000490010008020000070780400000000000780000001ffed67e40200000bf01800800006c008000307ef9f83fc00f00004000000f0800 := by decide

set_option maxRecDepth 8000 in
theorem evtConsFields_mask : fieldMask evtConsFields = 0x490010008020000000000000000000000000000001ffe14000020000004018008000060000000700000000000000000000000000000 := by decide

set_option maxRecDepth 8000 in
theorem readFields_mask : fieldMask readFields = 0x400070784400000000000780000800000d27e40000000bf01800800000c0000000060000000000f00000000000f0000 := by decide

theorem vinPowerUp : ∀ x0 x1, Statement (.vinPowerUp x0 x1) := by
  intro x0 x1 s t h
  have e : execVinPowerUp x0 x1 s = .next t := h
  unfold execVinPowerUp at e
  refine of_full (m := 0xffffffffffffffffffffffffffffffffffffffffffffffffffffffffffffffffffffffffffffffffffffffffffffffffffffffffffffffffffffffffffffffff) (q := 0x2bffdfff9) (ps := [.time, .straps, .img, .sg, .xlb, .tth, .links, .fns, .queues, .pins, .groups, .slots, .pow, .loom, .stums, .jobs, .ats, .buckets, .parked, .gated, .lameSh, .moves, .boot, .grm, .halt, .tap, .refs, .shutRot, .loomBack]) rfl rfl (by decide) e ?_
  repeat' (first
    | (show _ = _; exact rfl)
    | with_reducible exact Fr.refl _ _ _
    | with_reducible assumption
    | with_reducible apply Block.powerUp_fr
    | dsimp only)

theorem vstbyPowerUp : ∀ x0, Statement (.vstbyPowerUp x0) := by
  intro x0 s t h
  have e : execVstbyPowerUp x0 s = .next t := h
  unfold execVstbyPowerUp at e
  refine of_full (m := 0xffffffffffffffffffffffffffffffffffffffffffffffffffffffffffffffffffffffffffffffffffffffffffffffffffffffffffffffffffffffffffffffff) (q := 0x2bffdfff9) (ps := [.time, .straps, .img, .sg, .xlb, .tth, .links, .fns, .queues, .pins, .groups, .slots, .pow, .loom, .stums, .jobs, .ats, .buckets, .parked, .gated, .lameSh, .moves, .boot, .grm, .halt, .tap, .refs, .shutRot, .loomBack]) rfl rfl (by decide) e ?_
  repeat' (first
    | (show _ = _; exact rfl)
    | with_reducible exact Fr.refl _ _ _
    | with_reducible assumption
    | with_reducible apply Block.standbyUp_fr
    | dsimp only)

theorem vinUvloFall : Statement .vinUvloFall := by
  intro s t h
  have e : execVinUvloFall s = .next t := h
  unfold execVinUvloFall at e
  refine of_full (m := 0xffffffffffffffffffffffffffffffffffffffffffffffffffffffffffffffffffffffffffffffffffffffffffffffffffffffffffffffffffffffffffffffff) (q := 0x7fffdffff) (ps := [.time, .freeCtr, .nextId, .straps, .img, .sg, .xlb, .tth, .links, .fns, .queues, .pins, .groups, .slots, .pow, .loom, .stums, .jobs, .ats, .buckets, .parked, .gated, .lameSh, .moves, .boot, .grm, .halt, .tap, .refs, .out, .shutRot, .wire, .loomBack, .xings]) rfl rfl (by decide) e ?_
  repeat' (first
    | (show _ = _; exact rfl)
    | with_reducible exact Fr.refl _ _ _
    | with_reducible assumption
    | with_reducible apply Block.vinGone_fr
    | dsimp only)

theorem vinOvloRise : Statement .vinOvloRise := by
  intro s t h
  have e : execVinOvloRise s = .next t := h
  unfold execVinOvloRise at e
  refine of_full (m := 0xffffffffffffffffffffffffffffffffffffffffffffffffffffffffffffffffffffffffffffffffffffffffffffffffffffffffffffffffffffffffffffffff) (q := 0x7fffdffff) (ps := [.time, .freeCtr, .nextId, .straps, .img, .sg, .xlb, .tth, .links, .fns, .queues, .pins, .groups, .slots, .pow, .loom, .stums, .jobs, .ats, .buckets, .parked, .gated, .lameSh, .moves, .boot, .grm, .halt, .tap, .refs, .out, .shutRot, .wire, .loomBack, .xings]) rfl rfl (by decide) e ?_
  repeat' (first
    | (show _ = _; exact rfl)
    | with_reducible exact Fr.refl _ _ _
    | with_reducible assumption
    | with_reducible apply Block.vinGone_fr
    | dsimp only)

theorem vinReturn : Statement .vinReturn := by
  intro s t h
  have e : execVinReturn s = .next t := h
  unfold execVinReturn at e
  refine of_full (m := 0xffffffffffffffffffffffffffffffffffffffffffffffffffffffffffffffffffffffffffffffffffffffffffffffffffffffffffffffffffffffffffffffff) (q := 0x2bffdfff1) (ps := [.time, .img, .sg, .xlb, .tth, .links, .fns, .queues, .pins, .groups, .slots, .pow, .loom, .stums, .jobs, .ats, .buckets, .parked, .gated, .lameSh, .moves, .boot, .grm, .halt, .tap, .refs, .shutRot, .loomBack]) rfl rfl (by decide) e ?_
  repeat' (first
    | (show _ = _; exact rfl)
    | with_reducible exact Fr.refl _ _ _
    | with_reducible assumption
    | with_reducible apply Block.vinBack_fr
    | dsimp only)

theorem vstbyLoss : Statement .vstbyLoss := by
  intro s t h
  have e : execVstbyLoss s = .next t := h
  unfold execVstbyLoss at e
  refine of_full (m := 0xffffffffffffffffffffffffffffffffffffffffffffffffffffffffffffffffffffffffffffffffffffffffffffffffffffffffffffffffffffffffffffffff) (q := 0x2bffdfff9) (ps := [.time, .straps, .img, .sg, .xlb, .tth, .links, .fns, .queues, .pins, .groups, .slots, .pow, .loom, .stums, .jobs, .ats, .buckets, .parked, .gated, .lameSh, .moves, .boot, .grm, .halt, .tap, .refs, .shutRot, .loomBack]) rfl rfl (by decide) e ?_
  repeat' (first
    | (show _ = _; exact rfl)
    | with_reducible exact Fr.refl _ _ _
    | with_reducible assumption
    | with_reducible apply Block.vstbyGone_fr
    | dsimp only)

theorem brownoutEntry : ∀ x0 x1, Statement (.brownoutEntry x0 x1) := by
  intro x0 x1 s t h
  have e : execBrownoutEntry x0 x1 s = .next t := h
  unfold execBrownoutEntry at e
  refine of_fr (m := 0x40800049001020802040000000000000000ec802cc796801ffe14183c6d800004018008000060008000301e00d800000f0000400000080c00) (q := 0x7406c57c6) (fs := tetherFields) (ps := [.freeCtr, .nextId, .xlb, .tth, .links, .fns, .queues, .groups, .pow, .jobs, .ats, .parked, .gated, .out, .wire, .loomBack, .xings]) rfl rfl tetherFields_mask (by decide) e ?_
  repeat' (first
    | (show _ = _; exact rfl)
    | with_reducible exact Fr.refl _ _ _
    | with_reducible assumption
    | with_reducible apply Block.brownIn_fr
    | dsimp only)

theorem brownoutExit : Statement .brownoutExit := by
  intro s t h
  have e : execBrownoutExit s = .next t := h
  unfold execBrownoutExit at e
  refine of_fr (m := 0x8400000000000020000000000000000000000000000000000000000000000000000000) (q := 0x140004180) (fs := [.psTxDoze, .gaitForcedWalk, .pstBrownout]) (ps := [.tth, .links, .pow, .out, .wire]) rfl rfl (by decide) (by decide) e ?_
  repeat' (first
    | (show _ = _; exact rfl)
    | with_reducible exact Fr.refl _ _ _
    | with_reducible assumption
    | with_reducible apply Block.brownOut_fr
    | dsimp only)

theorem droopWindowOpen : Statement .droopWindowOpen := by
  intro s t h
  have e : execDroopWindowOpen s = .next t := h
  unfold execDroopWindowOpen at e
  refine of_fr (m := 0x10010200000000000000000000000000000000000000000000000000000000000000000000) (q := 0x4000) (fs := [.gaitFrozen, .pstDroop, .pwrCntDroops]) (ps := [.pow]) rfl rfl (by decide) (by decide) e ?_
  repeat' (first
    | (show _ = _; exact rfl)
    | with_reducible exact Fr.refl _ _ _
    | with_reducible assumption
    | with_reducible apply Block.droopOpen_fr
    | dsimp only)

theorem droopWindowClose : Statement .droopWindowClose := by
  intro s t h
  have e : execDroopWindowClose s = .next t := h
  unfold execDroopWindowClose at e
  refine of_fr (m := 0x40800049001020802040000000000000000ec802cc796801ffe14183c6d800004018008000060008000301e00d800000f0000400000080c00) (q := 0x7406cffc6) (fs := tetherFields) (ps := [.freeCtr, .nextId, .xlb, .tth, .links, .fns, .queues, .pins, .groups, .slots, .pow, .loom, .jobs, .ats, .parked, .gated, .out, .wire, .loomBack, .xings]) rfl rfl tetherFields_mask (by decide) e ?_
  repeat' (first
    | (show _ = _; exact rfl)
    | with_reducible exact Fr.refl _ _ _
    | with_reducible assumption
    | with_reducible apply Block.droopHigh_fr
    | dsimp only)

theorem droopMaxExpiry : Statement .droopMaxExpiry := by
  intro s t h
  have e : execDroopMaxExpiry s = .next t := h
  unfold execDroopMaxExpiry at e
  refine of_fr (m := 0x40800049001020802040000000000000000ec802cc796801ffe14183c6d800004018008000060008000301e00d800000f0000400000080c00) (q := 0x7406cffc6) (fs := tetherFields) (ps := [.freeCtr, .nextId, .xlb, .tth, .links, .fns, .queues, .pins, .groups, .slots, .pow, .loom, .jobs, .ats, .parked, .gated, .out, .wire, .loomBack, .xings]) rfl rfl tetherFields_mask (by decide) e ?_
  repeat' (first
    | (show _ = _; exact rfl)
    | with_reducible exact Fr.refl _ _ _
    | with_reducible assumption
    | with_reducible apply Block.droopMax_fr
    | dsimp only)

theorem droopEarlyRelease : ∀ x0, Statement (.droopEarlyRelease x0) := by
  intro x0 s t h
  have e : execDroopEarlyRelease x0 s = .next t := h
  unfold execDroopEarlyRelease at e
  refine of_fr (m := 0x40800049001020802040000000000000000ec802cc796801ffe14183c6d800004018008000060008000301e00d800000f0000400000080c00) (q := 0x7406c57c6) (fs := tetherFields) (ps := [.freeCtr, .nextId, .xlb, .tth, .links, .fns, .queues, .groups, .pow, .jobs, .ats, .parked, .gated, .out, .wire, .loomBack, .xings]) rfl rfl tetherFields_mask (by decide) e ?_
  repeat' (first
    | (show _ = _; exact rfl)
    | with_reducible exact Fr.refl _ _ _
    | with_reducible assumption
    | with_reducible apply Block.droopEarly_fr
    | dsimp only)

theorem gaitTargetWrite : ∀ x0, Statement (.gaitTargetWrite x0) := by
  intro x0 s t h
  have e : execGaitTargetWrite x0 s = .next t := h
  unfold execGaitTargetWrite at e
  refine of_fr (m := 0xc0000000000000000000000000000000000000000000000000000000000000000000) (q := 0x4000) (fs := [.gaitTarget, .gaitCurrent]) (ps := [.pow]) rfl rfl (by decide) (by decide) e ?_
  repeat' (first
    | (show _ = _; exact rfl)
    | with_reducible exact Fr.refl _ _ _
    | with_reducible assumption
    | with_reducible apply Block.targetWrite_fr
    | dsimp only)

theorem gaitUpshiftStep : Statement .gaitUpshiftStep := by
  intro s t h
  have e : execGaitUpshiftStep s = .next t := h
  unfold execGaitUpshiftStep at e
  refine of_fr (m := 0x40800049001020802040000000000000000ec802cc796801ffe14183c6d800004018008000060008000301e00d800000f0000400000080c00) (q := 0x7406cffc6) (fs := tetherFields) (ps := [.freeCtr, .nextId, .xlb, .tth, .links, .fns, .queues, .pins, .groups, .slots, .pow, .loom, .jobs, .ats, .parked, .gated, .out, .wire, .loomBack, .xings]) rfl rfl tetherFields_mask (by decide) e ?_
  repeat' (first
    | (show _ = _; exact rfl)
    | with_reducible exact Fr.refl _ _ _
    | with_reducible assumption
    | with_reducible apply Block.settled_fr
    | dsimp only)

theorem gaitOccupancyWindow : ∀ x0, Statement (.gaitOccupancyWindow x0) := by
  intro x0 s t h
  have e : execGaitOccupancyWindow x0 s = .next t := h
  unfold execGaitOccupancyWindow at e
  refine of_fr (m := 0xc0000000000000000000000000000000000000000000000000000000000000000000) (q := 0x4000) (fs := [.gaitTarget, .gaitCurrent]) (ps := [.pow]) rfl rfl (by decide) (by decide) e ?_
  repeat' (first
    | (show _ = _; exact rfl)
    | with_reducible exact Fr.refl _ _ _
    | with_reducible assumption
    | with_reducible apply Block.gaitWindow_fr
    | dsimp only)

theorem thermalThrottleStep : ∀ x0, Statement (.thermalThrottleStep x0) := by
  intro x0 s t h
  have e : execThermalThrottleStep x0 s = .next t := h
  unfold execThermalThrottleStep at e
  refine of_fr (m := 0x40800049001020802040000000000000000ec802cc796801ffe14183c6d800004018008000060008000301e00d800000f0000400000080c00) (q := 0x7406c57c6) (fs := tetherFields) (ps := [.freeCtr, .nextId, .xlb, .tth, .links, .fns, .queues, .groups, .pow, .jobs, .ats, .parked, .gated, .out, .wire, .loomBack, .xings]) rfl rfl tetherFields_mask (by decide) e ?_
  repeat' (first
    | (show _ = _; exact rfl)
    | with_reducible exact Fr.refl _ _ _
    | with_reducible assumption
    | with_reducible apply Block.throttle_fr
    | dsimp only)

theorem thermalRaise : ∀ x0, Statement (.thermalRaise x0) := by
  intro x0 s t h
  have e : execThermalRaise x0 s = .next t := h
  unfold execThermalRaise at e
  refine of_fr (m := 0x4021080000000000020000000000000000000000000000000000000000000000000000000) (q := 0x140004180) (fs := [.psTxDoze, .gaitCurrent, .gaitThermLimit, .pstThrottle, .thmTjMax]) (ps := [.tth, .links, .pow, .out, .wire]) rfl rfl (by decide) (by decide) e ?_
  repeat' (first
    | (show _ = _; exact rfl)
    | with_reducible exact Fr.refl _ _ _
    | with_reducible assumption
    | with_reducible apply Block.thermUp_fr
    | dsimp only)

theorem thermalTrip : Statement .thermalTrip := by
  intro s t h
  have e : execThermalTrip s = .next t := h
  unfold execThermalTrip at e
  refine of_fr (m := 0x40800049001020802040000000000000000ec802cc796801ffe14183c6d800004018008000060008000301e00d800000f0000400000080c00) (q := 0x7406c57c6) (fs := tetherFields) (ps := [.freeCtr, .nextId, .xlb, .tth, .links, .fns, .queues, .groups, .pow, .jobs, .ats, .parked, .gated, .out, .wire, .loomBack, .xings]) rfl rfl tetherFields_mask (by decide) e ?_
  repeat' (first
    | (show _ = _; exact rfl)
    | with_reducible exact Fr.refl _ _ _
    | with_reducible assumption
    | with_reducible apply Block.trip_fr
    | dsimp only)

theorem thermalTripEnd : Statement .thermalTripEnd := by
  intro s t h
  have e : execThermalTripEnd s = .next t := h
  unfold execThermalTripEnd at e
  refine of_fr (m := 0x4040480000000000020000000000000000000000000000000000000000000000000000000) (q := 0x140004182) (fs := [.psTxDoze, .gaitCurrent, .gaitForcedWalk, .pstHwTrip, .thmTjMax]) (ps := [.freeCtr, .tth, .links, .pow, .out, .wire]) rfl rfl (by decide) (by decide) e ?_
  repeat' (first
    | (show _ = _; exact rfl)
    | with_reducible exact Fr.refl _ _ _
    | with_reducible assumption
    | with_reducible apply Block.tripEnd_fr
    | dsimp only)

theorem thermalShutdown : Statement .thermalShutdown := by
  intro s t h
  have e : execThermalShutdown s = .next t := h
  unfold execThermalShutdown at e
  refine of_fr (m := 0xffffffffffffffbffff9ffc100020000000f800041000001fff1e311a6d80037cfffefc00db7fffff3ffffff9ffffefcffc00580000080c00) (q := 0x7506c5fc6) (fs := linkDownFields) (ps := [.freeCtr, .nextId, .xlb, .tth, .links, .fns, .queues, .pins, .groups, .pow, .jobs, .ats, .parked, .gated, .tap, .out, .wire, .loomBack, .xings]) rfl rfl linkDownFields_mask (by decide) e ?_
  repeat' (first
    | (show _ = _; exact rfl)
    | with_reducible exact Fr.refl _ _ _
    | with_reducible assumption
    | with_reducible apply Block.thermOff_fr
    | dsimp only)

theorem thermalRestart : Statement .thermalRestart := by
  intro s t h
  have e : execThermalRestart s = .next t := h
  unfold execThermalRestart at e
  refine of_full (m := 0xffffffffffffffffffffffffffffffffffffffffffffffffffffffffffffffffffffffffffffffffffffffffffffffffffffffffffffffffffffffffffffffff) (q := 0x2affdfff1) (ps := [.time, .img, .sg, .xlb, .tth, .links, .fns, .queues, .pins, .groups, .slots, .pow, .loom, .stums, .jobs, .ats, .buckets, .parked, .gated, .lameSh, .moves, .boot, .grm, .halt, .refs, .shutRot, .loomBack]) rfl rfl (by decide) e ?_
  repeat' (first
    | (show _ = _; exact rfl)
    | with_reducible exact Fr.refl _ _ _
    | with_reducible assumption
    | with_reducible apply Block.thermOn_fr
    | dsimp only)

theorem standEntry : Statement .standEntry := by
  intro s t h
  have e : execStandEntry s = .next t := h
  unfold execStandEntry at e
  refine of_fr (m := 0x40800049001020802040000000000000000ec802cc796801ffe14183c6d800004018008000060008000301e00d800000f0000400000080c00) (q := 0x7406c57c6) (fs := tetherFields) (ps := [.freeCtr, .nextId, .xlb, .tth, .links, .fns, .queues, .groups, .pow, .jobs, .ats, .parked, .gated, .out, .wire, .loomBack, .xings]) rfl rfl tetherFields_mask (by decide) e ?_
  repeat' (first
    | (show _ = _; exact rfl)
    | with_reducible exact Fr.refl _ _ _
    | with_reducible assumption
    | with_reducible apply Block.standIn_fr
    | dsimp only)

theorem pmeTurnOff : ∀ x0, Statement (.pmeTurnOff x0) := by
  intro x0 s t h
  have e : execPmeTurnOff x0 s = .next t := h
  unfold execPmeTurnOff at e
  refine of_fr (m := 0x18208000000000000000000000000000000000000000000) (q := 0x40001000) (fs := [.gstClkreq, .lnkDlActive, .lnkLtssm, .lnkL1sub]) (ps := [.groups, .out]) rfl rfl (by decide) (by decide) e ?_
  repeat' (first
    | (show _ = _; exact rfl)
    | with_reducible exact Fr.refl _ _ _
    | with_reducible assumption
    | with_reducible apply Block.pmeOff_fr
    | dsimp only)

theorem slotPowerOnRequest : ∀ x0 x1, Statement (.slotPowerOnRequest x0 x1) := by
  intro x0 x1 s t h
  have e : execSlotPowerOnRequest x0 x1 s = .next t := h
  unfold execSlotPowerOnRequest at e
  refine of_fr (m := 0x70800049001020802046000000000000000c4c0000000001ffe1401bfff830004018008002c60008000301e00d800000f000043f80008ffc0) (q := 0x7406d7fc6) (fs := slotFields) (ps := [.freeCtr, .nextId, .xlb, .tth, .links, .fns, .queues, .pins, .groups, .slots, .pow, .stums, .jobs, .ats, .parked, .gated, .out, .wire, .loomBack, .xings]) rfl rfl slotFields_mask (by decide) e ?_
  repeat' (first
    | (show _ = _; exact rfl)
    | with_reducible exact Fr.refl _ _ _
    | with_reducible assumption
    | with_reducible apply Block.slotWrite_fr
    | dsimp only)

theorem slotPowerOffRequest : ∀ x0 x1, Statement (.slotPowerOffRequest x0 x1) := by
  intro x0 x1 s t h
  have e : execSlotPowerOffRequest x0 x1 s = .next t := h
  unfold execSlotPowerOffRequest at e
  refine of_fr (m := 0x70800049001020802046000000000000000c4c0000000001ffe1401bfff830004018008002c60008000301e00d800000f000043f80008ffc0) (q := 0x7406d7fc6) (fs := slotFields) (ps := [.freeCtr, .nextId, .xlb, .tth, .links, .fns, .queues, .pins, .groups, .slots, .pow, .stums, .jobs, .ats, .parked, .gated, .out, .wire, .loomBack, .xings]) rfl rfl slotFields_mask (by decide) e ?_
  repeat' (first
    | (show _ = _; exact rfl)
    | with_reducible exact Fr.refl _ _ _
    | with_reducible assumption
    | with_reducible apply Block.slotWrite_fr
    | dsimp only)

theorem slotReset : ∀ x0 x1, Statement (.slotReset x0 x1) := by
  intro x0 x1 s t h
  have e : execSlotReset x0 x1 s = .next t := h
  unfold execSlotReset at e
  refine of_fr (m := 0x70800049001020802046000000000000000c4c0000000001ffe1401bfff830004018008002c60008000301e00d800000f000043f80008ffc0) (q := 0x7406d7fc6) (fs := slotFields) (ps := [.freeCtr, .nextId, .xlb, .tth, .links, .fns, .queues, .pins, .groups, .slots, .pow, .stums, .jobs, .ats, .parked, .gated, .out, .wire, .loomBack, .xings]) rfl rfl slotFields_mask (by decide) e ?_
  repeat' (first
    | (show _ = _; exact rfl)
    | with_reducible exact Fr.refl _ _ _
    | with_reducible assumption
    | with_reducible apply Block.slotWrite_fr
    | dsimp only)

theorem slotPowerEnable : ∀ x0, Statement (.slotPowerEnable x0) := by
  intro x0 s t h
  have e : execSlotPowerEnable x0 s = .next t := h
  unfold execSlotPowerEnable at e
  refine of_fr (m := 0x0) (q := 0x6800) (fs := []) (ps := [.pins, .slots, .pow]) rfl rfl (by decide) (by decide) e ?_
  repeat' (first
    | (show _ = _; exact rfl)
    | with_reducible exact Fr.refl _ _ _
    | with_reducible assumption
    | with_reducible apply Block.slotEnable_fr
    | dsimp only)

theorem tthPwrgdRise : ∀ x0, Statement (.tthPwrgdRise x0) := by
  intro x0 s t h
  have e : execTthPwrgdRise x0 s = .next t := h
  unfold execTthPwrgdRise at e
  refine of_fr (m := 0x40000000000000000000000000000000000000000000000000000000000000000000000000000) (q := 0x2840) (fs := [.slotPwrState]) (ps := [.xlb, .pins, .slots]) rfl rfl (by decide) (by decide) e ?_
  repeat' (first
    | (show _ = _; exact rfl)
    | with_reducible exact Fr.refl _ _ _
    | with_reducible assumption
    | with_reducible apply Block.goodUp_fr
    | dsimp only)

theorem pwrgdMsExpiry : ∀ x0, Statement (.pwrgdMsExpiry x0) := by
  intro x0 s t h
  have e : execPwrgdMsExpiry x0 s = .next t := h
  unfold execPwrgdMsExpiry at e
  refine of_fr (m := 0x800000000000000000000640000000000000000000000000000000000000020000000000000000000000000000000000000) (q := 0x40001a00) (fs := [.srcState, .slotPwrState, .slotPowerFault, .slotSeqDone, .cfgPmeSts]) (ps := [.fns, .pins, .groups, .out]) rfl rfl (by decide) (by decide) e ?_
  repeat' (first
    | (show _ = _; exact rfl)
    | with_reducible exact Fr.refl _ _ _
    | with_reducible assumption
    | with_reducible apply Block.goodLate_fr
    | dsimp only)

theorem prstDelayExpiry : ∀ x0, Statement (.prstDelayExpiry x0) := by
  intro x0 s t h
  have e : execPrstDelayExpiry x0 s = .next t := h
  unfold execPrstDelayExpiry at e
  refine of_fr (m := 0x800000000000000000000400000000000000000000000000000000000000020000000000000000000000000000000000000) (q := 0x40003a00) (fs := [.srcState, .slotSeqDone, .cfgPmeSts]) (ps := [.fns, .pins, .groups, .slots, .out]) rfl rfl (by decide) (by decide) e ?_
  repeat' (first
    | (show _ = _; exact rfl)
    | with_reducible exact Fr.refl _ _ _
    | with_reducible assumption
    | with_reducible apply Block.prstDelay_fr
    | dsimp only)

theorem slotPowerOffDelayExpiry : ∀ x0, Statement (.slotPowerOffDelayExpiry x0) := by
  intro x0 s t h
  have e : execSlotPowerOffDelayExpiry x0 s = .next t := h
  unfold execSlotPowerOffDelayExpiry at e
  refine of_fr (m := 0x0) (q := 0x2800) (fs := []) (ps := [.pins, .slots]) rfl rfl (by decide) (by decide) e ?_
  repeat' (first
    | (show _ = _; exact rfl)
    | with_reducible exact Fr.refl _ _ _
    | with_reducible assumption
    | with_reducible apply Block.offDelay_fr
    | dsimp only)

theorem poweringOffDone : ∀ x0, Statement (.poweringOffDone x0) := by
  intro x0 s t h
  have e : execPoweringOffDone x0 s = .next t := h
  unfold execPoweringOffDone at e
  refine of_fr (m := 0x800000000000000000000440000000000000000000000000000000000000020000000000000000000000000000000000000) (q := 0x40003240) (fs := [.srcState, .slotPwrState, .slotSeqDone, .cfgPmeSts]) (ps := [.xlb, .fns, .groups, .slots, .out]) rfl rfl (by decide) (by decide) e ?_
  repeat' (first
    | (show _ = _; exact rfl)
    | with_reducible exact Fr.refl _ _ _
    | with_reducible assumption
    | with_reducible apply Block.offDone_fr
    | dsimp only)

theorem tthPrsntInsertion : ∀ x0, Statement (.tthPrsntInsertion x0) := by
  intro x0 s t h
  have e : execTthPrsntInsertion x0 s = .next t := h
  unfold execTthPrsntInsertion at e
  refine of_fr (m := 0x8000000000000000000004c0000000080000000000000000000000000000020000000000000000000000000000000000000) (q := 0x40007a40) (fs := [.srcState, .gaitCurrent, .slotPwrState, .slotPresenceChg, .slotSeqDone, .cfgPmeSts]) (ps := [.xlb, .fns, .pins, .groups, .slots, .pow, .out]) rfl rfl (by decide) (by decide) e ?_
  repeat' (first
    | (show _ = _; exact rfl)
    | with_reducible exact Fr.refl _ _ _
    | with_reducible assumption
    | with_reducible apply Block.insertion_fr
    | dsimp only)

theorem tthPrsntRemoval : ∀ x0, Statement (.tthPrsntRemoval x0) := by
  intro x0 s t h
  have e : execTthPrsntRemoval x0 s = .next t := h
  unfold execTthPrsntRemoval at e
  refine of_fr (m := 0x40800049001020802040000000000000000ec802cc796801ffe14183c6d800004018008000060008000301e00d800000f0000400000080c00) (q := 0x7406c7fc6) (fs := tetherFields) (ps := [.freeCtr, .nextId, .xlb, .tth, .links, .fns, .queues, .pins, .groups, .slots, .pow, .jobs, .ats, .parked, .gated, .out, .wire, .loomBack, .xings]) rfl rfl tetherFields_mask (by decide) e ?_
  repeat' (first
    | (show _ = _; exact rfl)
    | with_reducible exact Fr.refl _ _ _
    | with_reducible assumption
    | with_reducible apply Block.presenceLost_fr
    | dsimp only)

theorem tthPwrgdFall : ∀ x0, Statement (.tthPwrgdFall x0) := by
  intro x0 s t h
  have e : execTthPwrgdFall x0 s = .next t := h
  unfold execTthPwrgdFall at e
  refine of_fr (m := 0x40800049001020802040000000000000000ec802cc796801ffe14183c6d800004018008000060008000301e00d800000f0000400000080c00) (q := 0x7406c7fc6) (fs := tetherFields) (ps := [.freeCtr, .nextId, .xlb, .tth, .links, .fns, .queues, .pins, .groups, .slots, .pow, .jobs, .ats, .parked, .gated, .out, .wire, .loomBack, .xings]) rfl rfl tetherFields_mask (by decide) e ?_
  repeat' (first
    | (show _ = _; exact rfl)
    | with_reducible exact Fr.refl _ _ _
    | with_reducible assumption
    | with_reducible apply Block.goodLost_fr
    | dsimp only)

theorem tthAtnbtnPress : ∀ x0, Statement (.tthAtnbtnPress x0) := by
  intro x0 s t h
  have e : execTthAtnbtnPress x0 s = .next t := h
  unfold execTthAtnbtnPress at e
  refine of_fr (m := 0x800000000000000000000100000000080000000000000000000000000000020000000000000000000000000000000000000) (q := 0x40005200) (fs := [.srcState, .gaitCurrent, .slotButton, .cfgPmeSts]) (ps := [.fns, .groups, .pow, .out]) rfl rfl (by decide) (by decide) e ?_
  repeat' (first
    | (show _ = _; exact rfl)
    | with_reducible exact Fr.refl _ _ _
    | with_reducible assumption
    | with_reducible apply Block.slotBit_fr
    | with_reducible apply Block.standWake_fr
    | dsimp only)

theorem tthPrstNLow : ∀ x0, Statement (.tthPrstNLow x0) := by
  intro x0 s t h
  have e : execTthPrstNLow x0 s = .next t := h
  unfold execTthPrstNLow at e
  refine of_fr (m := 0x70800049001020802046000000000000000c4c0000000001ffe1401bfff830004018008002c60008000301e00d800000f000043f80008ffc0) (q := 0x7406d7fc6) (fs := slotFields) (ps := [.freeCtr, .nextId, .xlb, .tth, .links, .fns, .queues, .pins, .groups, .slots, .pow, .stums, .jobs, .ats, .parked, .gated, .out, .wire, .loomBack, .xings]) rfl rfl slotFields_mask (by decide) e ?_
  repeat' (first
    | (show _ = _; exact rfl)
    | with_reducible exact Fr.refl _ _ _
    | with_reducible assumption
    | with_reducible apply Block.tthReset_fr
    | with_reducible apply Fr.ite
    | split
    | dsimp only)

theorem tetherResetRelease : ∀ x0, Statement (.tetherResetRelease x0) := by
  intro x0 s t h
  have e : execTetherResetRelease x0 s = .next t := h
  unfold execTetherResetRelease at e
  refine of_fr (m := 0x0) (q := 0x2800) (fs := []) (ps := [.pins, .slots]) rfl rfl (by decide) (by decide) e ?_
  repeat' (first
    | (show _ = _; exact rfl)
    | with_reducible exact Fr.refl _ _ _
    | with_reducible assumption
    | with_reducible apply Block.prstRelease_fr
    | dsimp only)

theorem portReset : ∀ x0, Statement (.portReset x0) := by
  intro x0 s t h
  have e : execPortReset x0 s = .next t := h
  unfold execPortReset at e
  refine of_fr (m := 0x70800049001020802046000000000000000c4c0000000001ffe1401bfff830004018008002c60008000301e00d800000f000043f80008ffc0) (q := 0x7406d7fc6) (fs := slotFields) (ps := [.freeCtr, .nextId, .xlb, .tth, .links, .fns, .queues, .pins, .groups, .slots, .pow, .stums, .jobs, .ats, .parked, .gated, .out, .wire, .loomBack, .xings]) rfl rfl slotFields_mask (by decide) e ?_
  repeat' (first
    | (show _ = _; exact rfl)
    | with_reducible exact Fr.refl _ _ _
    | with_reducible assumption
    | with_reducible apply Block.tthReset_fr
    | dsimp only)

theorem retrain : ∀ x0, Statement (.retrain x0) := by
  intro x0 s t h
  have e : execRetrain x0 s = .next t := h
  unfold execRetrain at e
  refine of_fr (m := 0x40800049001020802040000000000000000ec802cc796801ffe14183c6d800004018008000060008000301e00d800000f0000400000080c00) (q := 0x7406c57c6) (fs := tetherFields) (ps := [.freeCtr, .nextId, .xlb, .tth, .links, .fns, .queues, .groups, .pow, .jobs, .ats, .parked, .gated, .out, .wire, .loomBack, .xings]) rfl rfl tetherFields_mask (by decide) e ?_
  repeat' (first
    | (show _ = _; exact rfl)
    | with_reducible exact Fr.refl _ _ _
    | with_reducible assumption
    | with_reducible apply Block.tthLost_fr
    | dsimp only)

theorem stlPerstNAssert : ∀ x0, Statement (.stlPerstNAssert x0) := by
  intro x0 s t h
  have e : execStlPerstNAssert x0 s = .next t := h
  unfold execStlPerstNAssert at e
  refine of_fr (m := 0xffffffffffffffbffff9ffc100020000000f800041000001fff1e311a6d80037cfffefc00db7fffff3ffffff9ffffefcffc00580000080c00) (q := 0x7404d57c6) (fs := linkDownFields) (ps := [.freeCtr, .nextId, .xlb, .tth, .links, .fns, .queues, .groups, .pow, .stums, .jobs, .ats, .gated, .out, .wire, .loomBack, .xings]) rfl rfl linkDownFields_mask (by decide) e ?_
  repeat' (first
    | (show _ = _; exact rfl)
    | with_reducible exact Fr.refl _ _ _
    | with_reducible assumption
    | with_reducible apply Block.perstOn_fr
    | dsimp only)

theorem stlPerstNDeassert : ∀ x0, Statement (.stlPerstNDeassert x0) := by
  intro x0 s t h
  have e : execStlPerstNDeassert x0 s = .next t := h
  unfold execStlPerstNDeassert at e
  refine of_fr (m := 0x8000000000000000000000000c000000000000000000000000000000000000000000) (q := 0x5000) (fs := [.gstPerst, .gstClkreq, .gaitCurrent]) (ps := [.groups, .pow]) rfl rfl (by decide) (by decide) e ?_
  repeat' (first
    | (show _ = _; exact rfl)
    | with_reducible exact Fr.refl _ _ _
    | with_reducible assumption
    | with_reducible apply Block.perstOff_fr
    | dsimp only)

theorem stlRefclkLoss : ∀ x0, Statement (.stlRefclkLoss x0) := by
  intro x0 s t h
  have e : execStlRefclkLoss x0 s = .next t := h
  unfold execStlRefclkLoss at e
  refine of_fr (m := 0xffffffffffffffbffff9ffc100020000000f800041000001fff1e311a6d80037cfffefc00db7fffff3ffffff9ffffefcffc00580000080c00) (q := 0x7400c57c6) (fs := linkDownFields) (ps := [.freeCtr, .nextId, .xlb, .tth, .links, .fns, .queues, .groups, .pow, .jobs, .ats, .out, .wire, .loomBack, .xings]) rfl rfl linkDownFields_mask (by decide) e ?_
  repeat' (first
    | (show _ = _; exact rfl)
    | with_reducible exact Fr.refl _ _ _
    | with_reducible assumption
    | with_reducible apply Block.refLoss_fr
    | dsimp only)

theorem tthRefclkLoss : ∀ x0, Statement (.tthRefclkLoss x0) := by
  intro x0 s t h
  have e : execTthRefclkLoss x0 s = .next t := h
  unfold execTthRefclkLoss at e
  refine of_fr (m := 0x0) (q := 0x20000000) (fs := []) (ps := [.refs]) rfl rfl (by decide) (by decide) e ?_
  repeat' (first
    | (show _ = _; exact rfl)
    | with_reducible exact Fr.refl _ _ _
    | with_reducible assumption
    | with_reducible apply Block.tthRef_fr
    | dsimp only)

theorem coreRefclkLoss : ∀ x0, Statement (.coreRefclkLoss x0) := by
  intro x0 s t h
  have e : execCoreRefclkLoss x0 s = .next t := h
  unfold execCoreRefclkLoss at e
  refine of_fr (m := 0x0) (q := 0x20000000) (fs := []) (ps := [.refs]) rfl rfl (by decide) (by decide) e ?_
  repeat' (first
    | (show _ = _; exact rfl)
    | with_reducible exact Fr.refl _ _ _
    | with_reducible assumption
    | with_reducible apply Block.coreRef_fr
    | dsimp only)

theorem bootRomStart : ∀ x0, Statement (.bootRomStart x0) := by
  intro x0 s t h
  have e : execBootRomStart s x0 = .next t := h
  unfold execBootRomStart at e
  refine of_full (m := 0xffffffffffffffffffffffffffffffffffffffffffffffffffffffffffffffffffffffffffffffffffffffffffffffffffffffffffffffffffffffffffffffff) (q := 0x77e0e57e6) (ps := [.freeCtr, .nextId, .sg, .xlb, .tth, .links, .fns, .queues, .groups, .pow, .fuses, .jobs, .ats, .boot, .grm, .halt, .tap, .refs, .out, .wire, .loomBack, .xings]) rfl rfl (by decide) e ?_
  repeat' (first
    | (show _ = _; exact rfl)
    | with_reducible exact Fr.refl _ _ _
    | with_reducible assumption
    | with_reducible apply Block.bootGo_fr
    | dsimp only)

theorem linkDlUp : ∀ x0 x1, Statement (.linkDlUp x0 x1) := by
  intro x0 x1 s t h
  have e : execLinkDlUp x0 x1 s = .next t := h
  unfold execLinkDlUp at e
  refine of_fr (m := 0x100000000000140fcfe00000000000000000000000000000000000000000000) (q := 0x40401300) (fs := [.lnkDlActive, .lnkFlit, .lnkRate, .lnkWidthNeg, .lnkWidthAct, .lnkReversed, .lnkLtssm, .lnkPolarity, .lnkEq64Done, .lnkEq128Done, .lnkEq64Fail, .lnkEq128Fail, .lnkFomEnd, .slaneFom, .slaneTxpreset, .recStandbyReady]) (ps := [.links, .fns, .groups, .gated, .out]) rfl rfl (by decide) (by decide) e ?_
  repeat' (first
    | (show _ = _; exact rfl)
    | with_reducible exact Fr.refl _ _ _
    | with_reducible assumption
    | with_reducible apply Block.linkUp_fr
    | dsimp only)

theorem linkLoss : ∀ x0, Statement (.linkLoss x0) := by
  intro x0 s t h
  have e : execLinkLoss x0 s = .next t := h
  unfold execLinkLoss at e
  refine of_fr (m := 0xffffffffffffffbffff9ffc100020000000f800041000001fff1e311a6d80037cfffefc00db7fffff3ffffff9ffffefcffc00580000080c00) (q := 0x7400c57c6) (fs := linkDownFields) (ps := [.freeCtr, .nextId, .xlb, .tth, .links, .fns, .queues, .groups, .pow, .jobs, .ats, .out, .wire, .loomBack, .xings]) rfl rfl linkDownFields_mask (by decide) e ?_
  repeat' (first
    | (show _ = _; exact rfl)
    | with_reducible exact Fr.refl _ _ _
    | with_reducible assumption
    | with_reducible apply Block.linkDown_fr
    | with_reducible apply Fr.ite
    | split
    | dsimp only)

theorem hotReset : ∀ x0, Statement (.hotReset x0) := by
  intro x0 s t h
  have e : execHotReset x0 s = .next t := h
  unfold execHotReset at e
  refine of_fr (m := 0xffffffffffffffbffff9ffc100020000000f800041000001fff1e311a6d80037cfffefc00db7fffff3ffffff9ffffefcffc00580000080c00) (q := 0x7400c57c6) (fs := linkDownFields) (ps := [.freeCtr, .nextId, .xlb, .tth, .links, .fns, .queues, .groups, .pow, .jobs, .ats, .out, .wire, .loomBack, .xings]) rfl rfl linkDownFields_mask (by decide) e ?_
  repeat' (first
    | (show _ = _; exact rfl)
    | with_reducible exact Fr.refl _ _ _
    | with_reducible assumption
    | with_reducible apply Block.linkDown_fr
    | with_reducible apply Fr.ite
    | split
    | dsimp only)

theorem linkDisable : ∀ x0, Statement (.linkDisable x0) := by
  intro x0 s t h
  have e : execLinkDisable x0 s = .next t := h
  unfold execLinkDisable at e
  refine of_fr (m := 0xffffffffffffffbffff9ffc100020000000f800041000001fff1e311a6d80037cfffefc00db7fffff3ffffff9ffffefcffc00580000080c00) (q := 0x7400c57c6) (fs := linkDownFields) (ps := [.freeCtr, .nextId, .xlb, .tth, .links, .fns, .queues, .groups, .pow, .jobs, .ats, .out, .wire, .loomBack, .xings]) rfl rfl linkDownFields_mask (by decide) e ?_
  repeat' (first
    | (show _ = _; exact rfl)
    | with_reducible exact Fr.refl _ _ _
    | with_reducible assumption
    | with_reducible apply Fr.wr
    | with_reducible apply Block.linkDown_fr
    | with_reducible apply Fr.ite
    | split
    | dsimp only)

theorem stumble : ∀ x0 x1 x2 x3, Statement (.stumble x0 x1 x2 x3) := by
  intro x0 x1 x2 x3 s t h
  have e : execStumble x0 x1 x2 s x3 = .next t := h
  unfold execStumble at e
  refine of_full (m := 0xffffffffffffffffffffffffffffffffffffffffffffffffffffffffffffffffffffffffffffffffffffffffffffffffffffffffffffffffffffffffffffffff) (q := 0x7fffdfff7) (ps := [.time, .freeCtr, .nextId, .img, .sg, .xlb, .tth, .links, .fns, .queues, .pins, .groups, .slots, .pow, .loom, .stums, .jobs, .ats, .buckets, .parked, .gated, .lameSh, .moves, .boot, .grm, .halt, .tap, .refs, .out, .shutRot, .wire, .loomBack, .xings]) rfl rfl (by decide) e ?_
  repeat' (first
    | (show _ = _; exact rfl)
    | with_reducible exact Fr.refl _ _ _
    | with_reducible assumption
    | with_reducible apply Block.stumbles_fr
    | with_reducible apply Fr.ite
    | split
    | dsimp only)

theorem fomRetireWindowExpiry : ∀ x0 x1, Statement (.fomRetireWindowExpiry x0 x1) := by
  intro x0 x1 s t h
  have e : execFomRetireWindowExpiry x0 s x1 = .next t := h
  unfold execFomRetireWindowExpiry at e
  refine of_fr (m := 0xffffffffffffffbffff9ffc100020000000f800041000001fff1e311a6d80037cfffefc00db7fffff3ffffff9ffffefcffc00580000080c00) (q := 0x7406c57c6) (fs := linkDownFields) (ps := [.freeCtr, .nextId, .xlb, .tth, .links, .fns, .queues, .groups, .pow, .jobs, .ats, .parked, .gated, .out, .wire, .loomBack, .xings]) rfl rfl linkDownFields_mask (by decide) e ?_
  repeat' (first
    | (show _ = _; exact rfl)
    | with_reducible exact Fr.refl _ _ _
    | with_reducible assumption
    | with_reducible apply Block.fomLow_fr
    | dsimp only)

theorem l0pPartnerRequest : ∀ x0 x1, Statement (.l0pPartnerRequest x0 x1) := by
  intro x0 x1 s t h
  have e : execL0pPartnerRequest x0 x1 s = .next t := h
  unfold execL0pPartnerRequest at e
  refine of_fr (m := 0x8002000000000000000000000000000000000000000000000) (q := 0x40000100) (fs := [.lnkWidthAct, .lnkCntL0pChg]) (ps := [.links, .out]) rfl rfl (by decide) (by decide) e ?_
  repeat' (first
    | (show _ = _; exact rfl)
    | with_reducible exact Fr.refl _ _ _
    | with_reducible assumption
    | with_reducible apply Block.l0pPartner_fr
    | dsimp only)

theorem l0pAcceptance : ∀ x0, Statement (.l0pAcceptance x0) := by
  intro x0 s t h
  have e : execL0pAcceptance x0 s = .next t := h
  unfold execL0pAcceptance at e
  refine of_fr (m := 0xffffffffffffffbffff9ffc100020000000f800041000001fff1e311a6d80037cfffefc00db7fffff3ffffff9ffffefcffc00580000080c00) (q := 0x7400c57c6) (fs := linkDownFields) (ps := [.freeCtr, .nextId, .xlb, .tth, .links, .fns, .queues, .groups, .pow, .jobs, .ats, .out, .wire, .loomBack, .xings]) rfl rfl linkDownFields_mask (by decide) e ?_
  repeat' (first
    | (show _ = _; exact rfl)
    | with_reducible exact Fr.refl _ _ _
    | with_reducible assumption
    | with_reducible apply Block.l0pTaken_fr
    | dsimp only)

theorem l0pOccupancyInterval : ∀ x0 x1 x2 x3 x4, Statement (.l0pOccupancyInterval x0 x1 x2 x3 x4) := by
  intro x0 x1 x2 x3 x4 s t h
  have e : execL0pOccupancyInterval x0 x1 x2 x3 s x4 = .next t := h
  unfold execL0pOccupancyInterval at e
  refine of_fr (m := 0x43000000000000000000000000000000000000000000000000) (q := 0x40004100) (fs := [.lnkCntFecCorr, .lnkCntCrcFail, .slaneFom]) (ps := [.links, .pow, .out]) rfl rfl (by decide) (by decide) e ?_
  repeat' (first
    | (show _ = _; exact rfl)
    | with_reducible exact Fr.refl _ _ _
    | with_reducible assumption
    | with_reducible apply Block.l0pInterval_fr
    | with_reducible apply Block.linkSee_fr
    | dsimp only)

theorem aspmIdleExpiry : ∀ x0, Statement (.aspmIdleExpiry x0) := by
  intro x0 s t h
  have e : execAspmIdleExpiry x0 s = .next t := h
  unfold execAspmIdleExpiry at e
  refine of_fr (m := 0x18008000000000000000000000000000000000000000000) (q := 0x40001100) (fs := [.gstClkreq, .lnkLtssm, .lnkL1sub]) (ps := [.links, .groups, .out]) rfl rfl (by decide) (by decide) e ?_
  repeat' (first
    | (show _ = _; exact rfl)
    | with_reducible exact Fr.refl _ _ _
    | with_reducible assumption
    | with_reducible apply Block.aspmIdle_fr
    | dsimp only)

theorem clkreqAssert : ∀ x0, Statement (.clkreqAssert x0) := by
  intro x0 s t h
  have e : execClkreqAssert x0 s = .next t := h
  unfold execClkreqAssert at e
  refine of_fr (m := 0x10008000000000000000000000000000000000000000000) (q := 0x100) (fs := [.gstClkreq, .lnkL1sub]) (ps := [.links]) rfl rfl (by decide) (by decide) e ?_
  repeat' (first
    | (show _ = _; exact rfl)
    | with_reducible exact Fr.refl _ _ _
    | with_reducible assumption
    | with_reducible apply Block.clkreqIn_fr
    | dsimp only)

theorem marginingCommand : ∀ x0 x1 x2 x3, Statement (.marginingCommand x0 x1 x2 x3) := by
  intro x0 x1 x2 x3 s t h
  have e : execMarginingCommand x0 x1 x2 x3 s = .next t := h
  unfold execMarginingCommand at e
  refine of_fr (m := 0x0) (q := 0x40000102) (fs := []) (ps := [.freeCtr, .links, .out]) rfl rfl (by decide) (by decide) e ?_
  repeat' (first
    | (show _ = _; exact rfl)
    | with_reducible exact Fr.refl _ _ _
    | with_reducible assumption
    | with_reducible apply Block.marginCmd_fr
    | dsimp only)

theorem ideCheckFail : ∀ x0 x1, Statement (.ideCheckFail x0 x1) := by
  intro x0 x1 s t h
  have e : execIdeCheckFail x0 x1 s = .next t := h
  unfold execIdeCheckFail at e
  refine of_fr (m := 0x40838049001020bf22400020484000000000000000000801ffe14000020000004018008000060008414301e00d800000f0000400000080800) (q := 0x7406c57c6) (fs := masteringFields) (ps := [.freeCtr, .nextId, .xlb, .tth, .links, .fns, .queues, .groups, .pow, .jobs, .ats, .parked, .gated, .out, .wire, .loomBack, .xings]) rfl rfl masteringFields_mask (by decide) e ?_
  repeat' (first
    | (show _ = _; exact rfl)
    | with_reducible exact Fr.refl _ _ _
    | with_reducible assumption
    | with_reducible apply Block.ideFail_fr
    | dsimp only)

theorem pairedDetectExpiry : ∀ x0, Statement (.pairedDetectExpiry x0) := by
  intro x0 s t h
  have e : execPairedDetectExpiry x0 s = .next t := h
  unfold execPairedDetectExpiry at e
  refine of_fr (m := 0xffffffffffffffbffff9ffc100020000000f800041000001fff1e311a6d80037cfffefc00db7fffff3ffffff9ffffefcffc00580000080c00) (q := 0x7400c57c6) (fs := linkDownFields) (ps := [.freeCtr, .nextId, .xlb, .tth, .links, .fns, .queues, .groups, .pow, .jobs, .ats, .out, .wire, .loomBack, .xings]) rfl rfl linkDownFields_mask (by decide) e ?_
  repeat' (first
    | (show _ = _; exact rfl)
    | with_reducible exact Fr.refl _ _ _
    | with_reducible assumption
    | with_reducible apply Fr.lkMod
    | with_reducible apply Block.linkDown_fr
    | with_reducible apply Fr.ite
    | split
    | dsimp only
    | refine Fr.upd (by (repeat' apply And.intro) <;> first | exact Or.inl rfl | exact Or.inr rfl) ?_)

theorem failoverSwitch : ∀ x0, Statement (.failoverSwitch x0) := by
  intro x0 s t h
  have e : execFailoverSwitch x0 s = .next t := h
  unfold execFailoverSwitch at e
  refine of_fr (m := 0xff83ffc9f71effbffff9ffa048400000000f800000000801fff7400002000000401800800db7fffff3ffffff9ffffefcffc00580000080800) (q := 0x7406c57c6) (fs := functionResetFields) (ps := [.freeCtr, .nextId, .xlb, .tth, .links, .fns, .queues, .groups, .pow, .jobs, .ats, .parked, .gated, .out, .wire, .loomBack, .xings]) rfl rfl functionResetFields_mask (by decide) e ?_
  repeat' (first
    | (show _ = _; exact rfl)
    | with_reducible exact Fr.refl _ _ _
    | with_reducible assumption
    | with_reducible apply Block.failSwitch_fr
    | dsimp only)

theorem configRead : ∀ x0 x1 x2 x3 x4, Statement (.configRead x0 x1 x2 x3 x4) := by
  intro x0 x1 x2 x3 x4 s t h
  have e : execConfigRead x0 x1 x2 x3 s x4 = .next t := h
  unfold execConfigRead at e
  refine of_fr (m := 0x0) (q := 0x40000002) (fs := []) (ps := [.freeCtr, .out]) rfl rfl (by decide) (by decide) e ?_
  repeat' (first
    | (show _ = _; exact rfl)
    | with_reducible exact Fr.refl _ _ _
    | with_reducible assumption
    | with_reducible apply Block.cfgRead_fr
    | dsimp only)

theorem configWrite : ∀ x0 x1 x2 x3 x4 x5 x6 x7, Statement (.configWrite x0 x1 x2 x3 x4 x5 x6 x7) := by
  intro x0 x1 x2 x3 x4 x5 x6 x7 s t h
  have e : execConfigWrite x0 x1 x2 x3 x4 x5 x6 s x7 = .next t := h
  unfold execConfigWrite at e
  refine of_fr (m := 0xffffffffffffffffffffffe94fc00002000fcc0030008fffffe1d91bffffffc0401800bffff7fffff3fff9ef9f83fefcffc005bf80008ffff) (q := 0x7446c57c6) (fs := registerFields) (ps := [.freeCtr, .nextId, .xlb, .tth, .links, .fns, .queues, .groups, .pow, .jobs, .ats, .parked, .gated, .grm, .out, .wire, .loomBack, .xings]) rfl rfl registerFields_mask (by decide) e ?_
  repeat' (first
    | (show _ = _; exact rfl)
    | with_reducible exact Fr.refl _ _ _
    | with_reducible assumption
    | with_reducible apply Block.cfgWriteReq_fr
    | dsimp only)

theorem busMasterEnableWrite : ∀ x0 x1 x2, Statement (.busMasterEnableWrite x0 x1 x2) := by
  intro x0 x1 x2 s t h
  have e : execBusMasterEnableWrite x0 x1 x2 s = .next t := h
  unfold execBusMasterEnableWrite at e
  refine of_fr (m := 0x100000000000000000000000000000000000000000000000000000000000000000000000000000000000000000000000) (q := 0x200) (fs := [.cfgBme]) (ps := [.fns]) rfl rfl (by decide) (by decide) e ?_
  repeat' (first
    | (show _ = _; exact rfl)
    | with_reducible exact Fr.refl _ _ _
    | with_reducible assumption
    | with_reducible apply Block.bmeWrite_fr
    | dsimp only)

theorem bmeClearEffect : ∀ x0, Statement (.bmeClearEffect x0) := by
  intro x0 s t h
  have e : execBmeClearEffect x0 s = .next t := h
  unfold execBmeClearEffect at e
  refine of_fr (m := 0x40838049001020bf22400020484000000000000000000801ffe14000020000004018008000060008414301e00d800000f0000400000080800) (q := 0x7406c57c6) (fs := masteringFields) (ps := [.freeCtr, .nextId, .xlb, .tth, .links, .fns, .queues, .groups, .pow, .jobs, .ats, .parked, .gated, .out, .wire, .loomBack, .xings]) rfl rfl masteringFields_mask (by decide) e ?_
  repeat' (first
    | (show _ = _; exact rfl)
    | with_reducible exact Fr.refl _ _ _
    | with_reducible assumption
    | with_reducible apply Block.bmeEffect_fr
    | dsimp only)

theorem bmeSetEffect : ∀ x0, Statement (.bmeSetEffect x0) := by
  intro x0 s t h
  have e : execBmeSetEffect x0 s = .next t := h
  unfold execBmeSetEffect at e
  refine of_fr (m := 0x40838049001020bf22400020484000000000000000000801ffe14000020000004018008000060008414301e00d800000f0000400000080800) (q := 0x7406c57c6) (fs := masteringFields) (ps := [.freeCtr, .nextId, .xlb, .tth, .links, .fns, .queues, .groups, .pow, .jobs, .ats, .parked, .gated, .out, .wire, .loomBack, .xings]) rfl rfl masteringFields_mask (by decide) e ?_
  repeat' (first
    | (show _ = _; exact rfl)
    | with_reducible exact Fr.refl _ _ _
    | with_reducible assumption
    | with_reducible apply Block.bmeEffect_fr
    | dsimp only)

theorem initiateFunctionLevelReset : ∀ x0 x1, Statement (.initiateFunctionLevelReset x0 x1) := by
  intro x0 x1 s t h
  have e : execInitiateFunctionLevelReset x0 x1 s = .next t := h
  unfold execInitiateFunctionLevelReset at e
  refine of_fr (m := 0xff83ffc9f71effbffff9ffa048400000000f800000000801fff7400002000000401800800db7fffff3ffffff9ffffefcffc00580000080800) (q := 0x7400c57c6) (fs := functionResetFields) (ps := [.freeCtr, .nextId, .xlb, .tth, .links, .fns, .queues, .groups, .pow, .jobs, .ats, .out, .wire, .loomBack, .xings]) rfl rfl functionResetFields_mask (by decide) e ?_
  repeat' (first
    | (show _ = _; exact rfl)
    | with_reducible exact Fr.refl _ _ _
    | with_reducible assumption
    | with_reducible apply Block.flrWrite_fr
    | dsimp only)

theorem flrDrainEnd : ∀ x0, Statement (.flrDrainEnd x0) := by
  intro x0 s t h
  have e : execFlrDrainEnd x0 s = .next t := h
  unfold execFlrDrainEnd at e
  refine of_fr (m := 0xff83ffc9f71effbffff9ffa048400000000f800000000801fff7400002000000401800800db7fffff3ffffff9ffffefcffc00580000080800) (q := 0x440005700) (fs := functionResetFields) (ps := [.links, .fns, .queues, .groups, .pow, .out, .xings]) rfl rfl functionResetFields_mask (by decide) e ?_
  repeat' (first
    | (show _ = _; exact rfl)
    | with_reducible exact Fr.refl _ _ _
    | with_reducible assumption
    | with_reducible apply Block.flrEnd_fr
    | dsimp only)

theorem flrBoundExpiry : ∀ x0, Statement (.flrBoundExpiry x0) := by
  intro x0 s t h
  have e : execFlrBoundExpiry x0 s = .next t := h
  unfold execFlrBoundExpiry at e
  refine of_fr (m := 0xff83ffc9f71effbffff9ffa048400000000f800000000801fff7400002000000401800800db7fffff3ffffff9ffffefcffc00580000080800) (q := 0x440005700) (fs := functionResetFields) (ps := [.links, .fns, .queues, .groups, .pow, .out, .xings]) rfl rfl functionResetFields_mask (by decide) e ?_
  repeat' (first
    | (show _ = _; exact rfl)
    | with_reducible exact Fr.refl _ _ _
    | with_reducible assumption
    | with_reducible apply Block.flrEnd_fr
    | dsimp only)

theorem vfEnableClear : ∀ x0 x1, Statement (.vfEnableClear x0 x1) := by
  intro x0 x1 s t h
  have e : execVfEnableClear x0 x1 s = .next t := h
  unfold execVfEnableClear at e
  refine of_fr (m := 0xff83ffc9f71effbffff9ffa048400000000f800000000801fff7400002000000401800800db7fffff3ffffff9ffffefcffc00580000080800) (q := 0x7406c57c6) (fs := functionResetFields) (ps := [.freeCtr, .nextId, .xlb, .tth, .links, .fns, .queues, .groups, .pow, .jobs, .ats, .parked, .gated, .out, .wire, .loomBack, .xings]) rfl rfl functionResetFields_mask (by decide) e ?_
  repeat' (first
    | (show _ = _; exact rfl)
    | with_reducible exact Fr.refl _ _ _
    | with_reducible assumption
    | with_reducible apply Block.vfEnableWrite_fr
    | dsimp only)

theorem vfEnableSet : ∀ x0 x1, Statement (.vfEnableSet x0 x1) := by
  intro x0 x1 s t h
  have e : execVfEnableSet x0 x1 s = .next t := h
  unfold execVfEnableSet at e
  refine of_fr (m := 0xff83ffc9f71effbffff9ffa048400000000f800000000801fff7400002000000401800800db7fffff3ffffff9ffffefcffc00580000080800) (q := 0x7406c57c6) (fs := functionResetFields) (ps := [.freeCtr, .nextId, .xlb, .tth, .links, .fns, .queues, .groups, .pow, .jobs, .ats, .parked, .gated, .out, .wire, .loomBack, .xings]) rfl rfl functionResetFields_mask (by decide) e ?_
  repeat' (first
    | (show _ = _; exact rfl)
    | with_reducible exact Fr.refl _ _ _
    | with_reducible assumption
    | with_reducible apply Block.vfEnableWrite_fr
    | dsimp only)

theorem numvfsWrite : ∀ x0 x1 x2, Statement (.numvfsWrite x0 x1 x2) := by
  intro x0 x1 x2 s t h
  have e : execNumvfsWrite x0 x1 x2 s = .next t := h
  unfold execNumvfsWrite at e
  refine of_fr (m := 0x400000000000000000000000000000000000000000000000000000000000000000000000000000000000000000000000000000000000) (q := 0x0) (fs := [.vfNum]) (ps := []) rfl rfl (by decide) (by decide) e ?_
  repeat' (first
    | (show _ = _; exact rfl)
    | with_reducible exact Fr.refl _ _ _
    | with_reducible assumption
    | with_reducible apply Block.numVfsWrite_fr
    | dsimp only)

theorem barWrite : ∀ x0 x1 x2 x3, Statement (.barWrite x0 x1 x2 x3) := by
  intro x0 x1 x2 x3 s t h
  have e : execBarWrite x0 x1 x2 x3 s = .next t := h
  unfold execBarWrite at e
  refine of_fr (m := 0x40838049001020bf22400020484000000000000000000801ffe14000020000004018008000060008414301e00d800000f0000400000080800) (q := 0x7406c57c6) (fs := masteringFields) (ps := [.freeCtr, .nextId, .xlb, .tth, .links, .fns, .queues, .groups, .pow, .jobs, .ats, .parked, .gated, .out, .wire, .loomBack, .xings]) rfl rfl masteringFields_mask (by decide) e ?_
  repeat' (first
    | (show _ = _; exact rfl)
    | with_reducible exact Fr.refl _ _ _
    | with_reducible assumption
    | with_reducible apply Block.barWrite_fr
    | dsimp only)

theorem atsEnableClear : ∀ x0 x1, Statement (.atsEnableClear x0 x1) := by
  intro x0 x1 s t h
  have e : execAtsEnableClear x0 x1 s = .next t := h
  unfold execAtsEnableClear at e
  refine of_fr (m := 0x40838049001020bf22400020484000000000000000000801ffe14000020000004018008000060008414301e00d800000f0000400000080800) (q := 0x7406c57c6) (fs := masteringFields) (ps := [.freeCtr, .nextId, .xlb, .tth, .links, .fns, .queues, .groups, .pow, .jobs, .ats, .parked, .gated, .out, .wire, .loomBack, .xings]) rfl rfl masteringFields_mask (by decide) e ?_
  repeat' (first
    | (show _ = _; exact rfl)
    | with_reducible exact Fr.refl _ _ _
    | with_reducible assumption
    | with_reducible apply Block.atsWrite_fr
    | dsimp only)

theorem pasidEnableClear : ∀ x0 x1, Statement (.pasidEnableClear x0 x1) := by
  intro x0 x1 s t h
  have e : execPasidEnableClear x0 x1 s = .next t := h
  unfold execPasidEnableClear at e
  refine of_fr (m := 0x40838049001020bf22400020484000000000000000000801ffe14000020000004018008000060008414301e00d800000f0000400000080800) (q := 0x7406c57c6) (fs := masteringFields) (ps := [.freeCtr, .nextId, .xlb, .tth, .links, .fns, .queues, .groups, .pow, .jobs, .ats, .parked, .gated, .out, .wire, .loomBack, .xings]) rfl rfl masteringFields_mask (by decide) e ?_
  repeat' (first
    | (show _ = _; exact rfl)
    | with_reducible exact Fr.refl _ _ _
    | with_reducible assumption
    | with_reducible apply Block.atsWrite_fr
    | dsimp only)

theorem stuWrite : ∀ x0 x1 x2, Statement (.stuWrite x0 x1 x2) := by
  intro x0 x1 x2 s t h
  have e : execStuWrite x0 x1 x2 s = .next t := h
  unfold execStuWrite at e
  refine of_fr (m := 0x40838049001020bf22400020484000000000000000000801ffe14000020000004018008000060008414301e00d800000f0000400000080800) (q := 0x7406c57c6) (fs := masteringFields) (ps := [.freeCtr, .nextId, .xlb, .tth, .links, .fns, .queues, .groups, .pow, .jobs, .ats, .parked, .gated, .out, .wire, .loomBack, .xings]) rfl rfl masteringFields_mask (by decide) e ?_
  repeat' (first
    | (show _ = _; exact rfl)
    | with_reducible exact Fr.refl _ _ _
    | with_reducible assumption
    | with_reducible apply Block.atsWrite_fr
    | dsimp only)

theorem ltrMechanismEnableSet : ∀ x0, Statement (.ltrMechanismEnableSet x0) := by
  intro x0 s t h
  have e : execLtrMechanismEnableSet x0 s = .next t := h
  unfold execLtrMechanismEnableSet at e
  refine of_fr (m := 0x80000000000000000000000000000000000000000000000000000000000000000000000000000000000000000000000000000000) (q := 0x40000000) (fs := [.cfgLtrEn]) (ps := [.out]) rfl rfl (by decide) (by decide) e ?_
  repeat' (first
    | (show _ = _; exact rfl)
    | with_reducible exact Fr.refl _ _ _
    | with_reducible assumption
    | with_reducible apply Block.ltrEnable_fr
    | dsimp only)

theorem d3hotEntry : ∀ x0, Statement (.d3hotEntry x0) := by
  intro x0 s t h
  have e : execD3hotEntry x0 s = .next t := h
  unfold execD3hotEntry at e
  refine of_fr (m := 0x40838049001020bf22400020484000000000000000000801ffe14000020000004018008000060008414301e00d800000f0000400000080800) (q := 0x7406c57c6) (fs := masteringFields) (ps := [.freeCtr, .nextId, .xlb, .tth, .links, .fns, .queues, .groups, .pow, .jobs, .ats, .parked, .gated, .out, .wire, .loomBack, .xings]) rfl rfl masteringFields_mask (by decide) e ?_
  repeat' (first
    | (show _ = _; exact rfl)
    | with_reducible exact Fr.refl _ _ _
    | with_reducible assumption
    | with_reducible apply Block.pmWrite_fr
    | dsimp only)

theorem d0Return : ∀ x0, Statement (.d0Return x0) := by
  intro x0 s t h
  have e : execD0Return x0 s = .next t := h
  unfold execD0Return at e
  refine of_fr (m := 0x40838049001020bf22400020484000000000000000000801ffe14000020000004018008000060008414301e00d800000f0000400000080800) (q := 0x7406c57c6) (fs := masteringFields) (ps := [.freeCtr, .nextId, .xlb, .tth, .links, .fns, .queues, .groups, .pow, .jobs, .ats, .parked, .gated, .out, .wire, .loomBack, .xings]) rfl rfl masteringFields_mask (by decide) e ?_
  repeat' (first
    | (show _ = _; exact rfl)
    | with_reducible exact Fr.refl _ _ _
    | with_reducible assumption
    | with_reducible apply Block.pmWrite_fr
    | dsimp only)

theorem deliveryFormChange : ∀ x0 x1 x2 x3, Statement (.deliveryFormChange x0 x1 x2 x3) := by
  intro x0 x1 x2 x3 s t h
  have e : execDeliveryFormChange x0 x1 x2 x3 s = .next t := h
  unfold execDeliveryFormChange at e
  refine of_fr (m := 0x400021000040000000000000000000000000000000000000000000004018008000020000000000000000000000000000000000000) (q := 0x440005100) (fs := [.srcState, .gstClkreq, .lnkLtssm, .lnkL1sub, .lnkCntRecovery, .msixPend, .cfgMsiEn, .cfgMsiPend, .cfgMsixEn]) (ps := [.links, .groups, .pow, .out, .xings]) rfl rfl (by decide) (by decide) e ?_
  repeat' (first
    | (show _ = _; exact rfl)
    | with_reducible exact Fr.refl _ _ _
    | with_reducible assumption
    | with_reducible apply Block.formWrite_fr
    | with_reducible apply Fr.ite
    | split
    | dsimp only)

theorem interruptDisableWrite : ∀ x0 x1 x2, Statement (.interruptDisableWrite x0 x1 x2) := by
  intro x0 x1 x2 s t h
  have e : execInterruptDisableWrite x0 x1 x2 s = .next t := h
  unfold execInterruptDisableWrite at e
  refine of_fr (m := 0x1000000000000000000000000000000000000000000000000000000000000000000000000000000000000000000000000) (q := 0x40000100) (fs := [.cfgIntDis]) (ps := [.links, .out]) rfl rfl (by decide) (by decide) e ?_
  repeat' (first
    | (show _ = _; exact rfl)
    | with_reducible exact Fr.refl _ _ _
    | with_reducible assumption
    | with_reducible apply Block.intDisWrite_fr
    | dsimp only)

theorem hostWindowRead : ∀ x0, Statement (.hostWindowRead x0) := by
  intro x0 s t h
  have e : execHostWindowRead x0 s = .next t := h
  unfold execHostWindowRead at e
  refine of_fr (m := 0x400000490010008020000070780400000000000780000001ffed67e40200000bf01800800006c000000307e001800000f00000000000f0000) (q := 0x7400457c6) (fs := pageReadFields) (ps := [.freeCtr, .nextId, .xlb, .tth, .links, .fns, .queues, .groups, .pow, .jobs, .out, .wire, .loomBack, .xings]) rfl rfl pageReadFields_mask (by decide) e ?_
  repeat' (first
    | (show _ = _; exact rfl)
    | with_reducible exact Fr.refl _ _ _
    | with_reducible assumption
    | with_reducible apply Block.hostRead_fr
    | dsimp only)

theorem hostWindowWrite : ∀ x0, Statement (.hostWindowWrite x0) := by
  intro x0 s t h
  have e : execHostWindowWrite x0 s = .next t := h
  unfold execHostWindowWrite at e
  refine of_fr (m := 0xffffffffffffffffffffffe94fc00002000fcc0030008fffffe1d91bffffffc0401800bffff7fffff3fff9ef9f83fefcffc005bf80008ffff) (q := 0x7406d7fc6) (fs := registerFields) (ps := [.freeCtr, .nextId, .xlb, .tth, .links, .fns, .queues, .pins, .groups, .slots, .pow, .stums, .jobs, .ats, .parked, .gated, .out, .wire, .loomBack, .xings]) rfl rfl registerFields_mask (by decide) e ?_
  repeat' (first
    | (show _ = _; exact rfl)
    | with_reducible exact Fr.refl _ _ _
    | with_reducible assumption
    | with_reducible apply Block.hostWrite_fr
    | dsimp only)

theorem hostWindowAtomic : ∀ x0 x1, Statement (.hostWindowAtomic x0 x1) := by
  intro x0 x1 s t h
  have e : execHostWindowAtomic x0 x1 s = .next t := h
  unfold execHostWindowAtomic at e
  refine of_fr (m := 0x400000490010008020000000000000000000000000000001ffe14000020000004018008000060008000307ef9f800000f00004000000f0800) (q := 0x7400457c6) (fs := dataFields) (ps := [.freeCtr, .nextId, .xlb, .tth, .links, .fns, .queues, .groups, .pow, .jobs, .out, .wire, .loomBack, .xings]) rfl rfl dataFields_mask (by decide) e ?_
  repeat' (first
    | (show _ = _; exact rfl)
    | with_reducible exact Fr.refl _ _ _
    | with_reducible assumption
    | with_reducible apply Block.hostAtomic_fr
    | dsimp only)

theorem hostRomRead : ∀ x0, Statement (.hostRomRead x0) := by
  intro x0 s t h
  have e : execHostRomRead x0 s = .next t := h
  unfold execHostRomRead at e
  refine of_fr (m := 0x400000490010008020000070780400000000000780000001ffed67e40200000bf01800800006c000000307e001800000f00000000000f0000) (q := 0x7400457c6) (fs := pageReadFields) (ps := [.freeCtr, .nextId, .xlb, .tth, .links, .fns, .queues, .groups, .pow, .jobs, .out, .wire, .loomBack, .xings]) rfl rfl pageReadFields_mask (by decide) e ?_
  repeat' (first
    | (show _ = _; exact rfl)
    | with_reducible exact Fr.refl _ _ _
    | with_reducible assumption
    | with_reducible apply Block.hostRead_fr
    | dsimp only)

theorem fcpRead : ∀ x0, Statement (.fcpRead x0) := by
  intro x0 s t h
  have e : execFcpRead x0 s = .next t := h
  unfold execFcpRead at e
  refine of_fr (m := 0x400000490010008020000070780400000000000780000001ffed67e40200000bf01800800006c000000307e001800000f00000000000f0000) (q := 0x7400457c6) (fs := pageReadFields) (ps := [.freeCtr, .nextId, .xlb, .tth, .links, .fns, .queues, .groups, .pow, .jobs, .out, .wire, .loomBack, .xings]) rfl rfl pageReadFields_mask (by decide) e ?_
  repeat' (first
    | (show _ = _; exact rfl)
    | with_reducible exact Fr.refl _ _ _
    | with_reducible assumption
    | with_reducible apply Block.hostRead_fr
    | dsimp only)

theorem registerWrite : ∀ x0, Statement (.registerWrite x0) := by
  intro x0 s t h
  have e : execRegisterWrite x0 s = .next t := h
  unfold execRegisterWrite at e
  refine of_fr (m := 0xffffffffffffffffffffffe94fc00002000fcc0030008fffffe1d91bffffffc0401800bffff7fffff3fff9ef9f83fefcffc005bf80008ffff) (q := 0x7406d7fc6) (fs := registerFields) (ps := [.freeCtr, .nextId, .xlb, .tth, .links, .fns, .queues, .pins, .groups, .slots, .pow, .stums, .jobs, .ats, .parked, .gated, .out, .wire, .loomBack, .xings]) rfl rfl registerFields_mask (by decide) e ?_
  repeat' (first
    | (show _ = _; exact rfl)
    | with_reducible exact Fr.refl _ _ _
    | with_reducible assumption
    | with_reducible apply Block.hostWrite_fr
    | dsimp only)

theorem fcpErrConsWrite : ∀ x0 x1, Statement (.fcpErrConsWrite x0 x1) := by
  intro x0 x1 s t h
  have e : execFcpErrConsWrite x0 x1 s = .next t := h
  unfold execFcpErrConsWrite at e
  refine of_fr (m := 0x8000000000000000000000000000000000000000000000000000000000000) (q := 0x0) (fs := [.errCons]) (ps := []) rfl rfl (by decide) (by decide) e ?_
  repeat' (first
    | (show _ = _; exact rfl)
    | with_reducible exact Fr.refl _ _ _
    | with_reducible assumption
    | with_reducible apply Block.errCons_fr
    | with_reducible apply Block.ifFn_fr
    | (intro _ _ h)
    | (intro _ h)
    | dsimp only)

theorem prefetchAgeExpiry : ∀ x0 x1, Statement (.prefetchAgeExpiry x0 x1) := by
  intro x0 x1 s t h
  have e : execPrefetchAgeExpiry x0 x1 s = .next t := h
  unfold execPrefetchAgeExpiry at e
  refine of_fr (m := 0x0) (q := 0x200) (fs := []) (ps := [.fns]) rfl rfl (by decide) (by decide) e ?_
  repeat' (first
    | (show _ = _; exact rfl)
    | with_reducible exact Fr.refl _ _ _
    | with_reducible assumption
    | with_reducible apply Block.pfAge_fr
    | dsimp only)

theorem prefetchHoldExpiry : ∀ x0 x1, Statement (.prefetchHoldExpiry x0 x1) := by
  intro x0 x1 s t h
  have e : execPrefetchHoldExpiry x0 x1 s = .next t := h
  unfold execPrefetchHoldExpiry at e
  refine of_fr (m := 0x490010008020000000000000000000000000000001ffe1400002000000000000000006000000c000000000000040000000000040000) (q := 0x40001200) (fs := logFields) (ps := [.fns, .groups, .out]) rfl rfl logFields_mask (by decide) e ?_
  repeat' (first
    | (show _ = _; exact rfl)
    | with_reducible exact Fr.refl _ _ _
    | with_reducible assumption
    | with_reducible apply Block.pfHoldEnd_fr
    | dsimp only)

theorem forget : ∀ x0, Statement (.forget x0) := by
  intro x0 s t h
  have e : execForget x0 s = .next t := h
  unfold execForget at e
  refine of_fr (m := 0x0) (q := 0x200) (fs := []) (ps := [.fns]) rfl rfl (by decide) (by decide) e ?_
  repeat' (first
    | (show _ = _; exact rfl)
    | with_reducible exact Fr.refl _ _ _
    | with_reducible assumption
    | with_reducible apply Fr.fnMod
    | dsimp only
    | refine Fr.upd (by (repeat' apply And.intro) <;> first | exact Or.inl rfl | exact Or.inr rfl) ?_)

theorem pgoWrite : ∀ x0 x1 x2, Statement (.pgoWrite x0 x1 x2) := by
  intro x0 x1 x2 s t h
  have e : execPgoWrite x0 x1 x2 s = .next t := h
  unfold execPgoWrite at e
  refine of_fr (m := 0x408000490010208020407f80000000000000000000000001ffe1440b87f800004018008000060008000301e00d800000f1c00400000080800) (q := 0x7406c57c6) (fs := trainFields) (ps := [.freeCtr, .nextId, .xlb, .tth, .links, .fns, .queues, .groups, .pow, .jobs, .ats, .parked, .gated, .out, .wire, .loomBack, .xings]) rfl rfl trainFields_mask (by decide) e ?_
  repeat' (first
    | (show _ = _; exact rfl)
    | with_reducible exact Fr.refl _ _ _
    | with_reducible assumption
    | with_reducible apply Block.pgoWrite_fr
    | with_reducible apply Fr.ite
    | split
    | dsimp only)

theorem reinsOutWrite : ∀ x0 x1, Statement (.reinsOutWrite x0 x1) := by
  intro x0 x1 s t h
  have e : execReinsOutWrite x0 x1 s = .next t := h
  unfold execReinsOutWrite at e
  refine of_fr (m := 0x9000000000000000000000000000000000000000) (q := 0x204) (fs := [.reinsOutValue, .reinsOutPending]) (ps := [.nextId, .fns]) rfl rfl (by decide) (by decide) e ?_
  repeat' (first
    | (show _ = _; exact rfl)
    | with_reducible exact Fr.refl _ _ _
    | with_reducible assumption
    | with_reducible apply Block.reinsOut_fr
    | with_reducible apply Fr.ite
    | split
    | dsimp only)

theorem reinsSend : ∀ x0, Statement (.reinsSend x0) := by
  intro x0 s t h
  have e : execReinsSend x0 s = .next t := h
  unfold execReinsSend at e
  refine of_fr (m := 0x2000000000000000a000000000000000000000000000000000000000) (q := 0x1400040c0) (fs := [.reinsOutSent, .reinsOutPending, .psTxDoze]) (ps := [.xlb, .tth, .pow, .out, .wire]) rfl rfl (by decide) (by decide) e ?_
  repeat' (first
    | (show _ = _; exact rfl)
    | with_reducible exact Fr.refl _ _ _
    | with_reducible assumption
    | with_reducible apply Block.reinsSend_fr
    | dsimp only)

theorem interruptFenceRelease : ∀ x0, Statement (.interruptFenceRelease x0) := by
  intro x0 s t h
  have e : execInterruptFenceRelease x0 s = .next t := h
  unfold execInterruptFenceRelease at e
  refine of_fr (m := 0x30000000000000800000000000000000000000000000000000000000020000004018008000c60008000300000000000000000000000000000) (q := 0x5400053c0) (fs := [.evtEvtFull, .evtProd, .spLines, .srcState, .srcLatch, .reinsInValue, .reinsInChg, .gstClkreq, .lnkLtssm, .lnkL1sub, .lnkCntRecovery, .psTxDoze, .cfgPmeSts, .lastRein, .reinWait]) (ps := [.xlb, .tth, .links, .fns, .groups, .pow, .out, .wire, .xings]) rfl rfl (by decide) (by decide) e ?_
  repeat' (first
    | (show _ = _; exact rfl)
    | with_reducible exact Fr.refl _ _ _
    | with_reducible assumption
    | with_reducible apply Block.fenceStep_fr
    | dsimp only)

theorem hostAck : ∀ x0 x1, Statement (.hostAck x0 x1) := by
  intro x0 x1 s t h
  have e : execHostAck x0 x1 s = .next t := h
  unfold execHostAck at e
  refine of_fr (m := 0x20000000000000000000000000000000000000000000000000000000) (q := 0x7400045c2) (fs := [.psTxDoze]) (ps := [.freeCtr, .xlb, .tth, .links, .queues, .pow, .out, .wire, .loomBack, .xings]) rfl rfl (by decide) (by decide) e ?_
  repeat' (first
    | (show _ = _; exact rfl)
    | with_reducible exact Fr.refl _ _ _
    | with_reducible assumption
    | with_reducible apply Block.ackN_fr
    | dsimp only)

theorem hostCompletion : ∀ x0 x1 x2 x3 x4 x5 x6, Statement (.hostCompletion x0 x1 x2 x3 x4 x5 x6) := by
  intro x0 x1 x2 x3 x4 x5 x6 s t h
  have e : execHostCompletion x0 x1 x2 x3 x4 x5 s x6 = .next t := h
  unfold execHostCompletion at e
  refine of_fr (m := 0x400000490010008020000000000000000000000000000001ffe14000020000004018008000060000000301e00180000000000000000000000) (q := 0x7400057c2) (fs := completionFields) (ps := [.freeCtr, .xlb, .tth, .links, .fns, .queues, .groups, .pow, .out, .wire, .loomBack, .xings]) rfl rfl completionFields_mask (by decide) e ?_
  repeat' (first
    | (show _ = _; exact rfl)
    | with_reducible exact Fr.refl _ _ _
    | with_reducible assumption
    | with_reducible apply Block.hostCpl_fr
    | with_reducible apply Fr.ite
    | split
    | dsimp only)

theorem completionTimeout : ∀ x0 x1, Statement (.completionTimeout x0 x1) := by
  intro x0 x1 s t h
  have e : execCompletionTimeout x0 x1 s = .next t := h
  unfold execCompletionTimeout at e
  refine of_fr (m := 0x400000490010008020000000000000000000000000000001ffe14000020000004018008000060000000301e00180000000000000000000000) (q := 0x7400857c6) (fs := completionFields) (ps := [.freeCtr, .nextId, .xlb, .tth, .links, .fns, .queues, .groups, .pow, .ats, .out, .wire, .loomBack, .xings]) rfl rfl completionFields_mask (by decide) e ?_
  repeat' (first
    | (show _ = _; exact rfl)
    | with_reducible exact Fr.refl _ _ _
    | with_reducible assumption
    | with_reducible apply Block.cplTimeout_fr
    | dsimp only)

theorem hostTagQuarantineExpiry : ∀ x0 x1, Statement (.hostTagQuarantineExpiry x0 x1) := by
  intro x0 x1 s t h
  have e : execHostTagQuarantineExpiry x0 x1 s = .next t := h
  unfold execHostTagQuarantineExpiry at e
  refine of_fr (m := 0x4018008000000000000000000000000000000000000000000) (q := 0x40005302) (fs := [.gstClkreq, .lnkLtssm, .lnkL1sub, .lnkCntRecovery]) (ps := [.freeCtr, .links, .fns, .groups, .pow, .out]) rfl rfl (by decide) (by decide) e ?_
  repeat' (first
    | (show _ = _; exact rfl)
    | with_reducible exact Fr.refl _ _ _
    | with_reducible assumption
    | with_reducible apply Block.tagFree_fr
    | dsimp only)

theorem translationCompletion : ∀ x0 x1 x2, Statement (.translationCompletion x0 x1 x2) := by
  intro x0 x1 x2 s t h
  have e : execTranslationCompletion x0 x1 x2 s = .next t := h
  unfold execTranslationCompletion at e
  refine of_fr (m := 0x400000490010008020000000000000000000000000000001ffe14000020000004018008000060008000307ef9f800000f00004000000f0800) (q := 0x7400c57c6) (fs := dataFields) (ps := [.freeCtr, .nextId, .xlb, .tth, .links, .fns, .queues, .groups, .pow, .jobs, .ats, .out, .wire, .loomBack, .xings]) rfl rfl dataFields_mask (by decide) e ?_
  repeat' (first
    | (show _ = _; exact rfl)
    | with_reducible exact Fr.refl _ _ _
    | with_reducible assumption
    | with_reducible apply Block.xlDone_fr
    | with_reducible apply Fr.ite
    | split
    | dsimp only)

theorem invalidateRequest : ∀ x0 x1 x2 x3 x4 x5 x6, Statement (.invalidateRequest x0 x1 x2 x3 x4 x5 x6) := by
  intro x0 x1 x2 x3 x4 x5 x6 s t h
  have e : execInvalidateRequest x0 x1 x2 x3 x4 x5 s x6 = .next t := h
  unfold execInvalidateRequest at e
  refine of_fr (m := 0x0) (q := 0x80200) (fs := []) (ps := [.fns, .ats]) rfl rfl (by decide) (by decide) e ?_
  repeat' (first
    | (show _ = _; exact rfl)
    | with_reducible exact Fr.refl _ _ _
    | with_reducible assumption
    | with_reducible apply Block.invRequest_fr
    | with_reducible apply Fr.ite
    | split
    | dsimp only)

theorem invalidateCompletion : ∀ x0, Statement (.invalidateCompletion x0) := by
  intro x0 s t h
  have e : execInvalidateCompletion x0 s = .next t := h
  unfold execInvalidateCompletion at e
  refine of_fr (m := 0x0) (q := 0x40080200) (fs := []) (ps := [.fns, .ats, .out]) rfl rfl (by decide) (by decide) e ?_
  repeat' (first
    | (show _ = _; exact rfl)
    | with_reducible exact Fr.refl _ _ _
    | with_reducible assumption
    | with_reducible apply Block.invDone_fr
    | dsimp only)

theorem localMasterRd : ∀ x0 x1 x2, Statement (.localMasterRd x0 x1 x2) := by
  intro x0 x1 x2 s t h
  have e : execLocalMasterRd x0 x1 x2 s = .next t := h
  unfold execLocalMasterRd at e
  refine of_fr (m := 0x400000490010008020000000000000000000000000000001ffe14000020000004018008000060008000307ef9f800000f00004000000f0800) (q := 0x7400c57c6) (fs := dataFields) (ps := [.freeCtr, .nextId, .xlb, .tth, .links, .fns, .queues, .groups, .pow, .jobs, .ats, .out, .wire, .loomBack, .xings]) rfl rfl dataFields_mask (by decide) e ?_
  repeat' (first
    | (show _ = _; exact rfl)
    | with_reducible exact Fr.refl _ _ _
    | with_reducible assumption
    | with_reducible apply Block.lmArrive_fr
    | with_reducible apply Fr.ite
    | split
    | dsimp only)

theorem localMasterWr : ∀ x0 x1, Statement (.localMasterWr x0 x1) := by
  intro x0 x1 s t h
  have e : execLocalMasterWr x0 x1 s = .next t := h
  unfold execLocalMasterWr at e
  refine of_fr (m := 0x400000490010008020000000000000000000000000000001ffe14000020000004018008000060008000307ef9f800000f00004000000f0800) (q := 0x7400c57c6) (fs := dataFields) (ps := [.freeCtr, .nextId, .xlb, .tth, .links, .fns, .queues, .groups, .pow, .jobs, .ats, .out, .wire, .loomBack, .xings]) rfl rfl dataFields_mask (by decide) e ?_
  repeat' (first
    | (show _ = _; exact rfl)
    | with_reducible exact Fr.refl _ _ _
    | with_reducible assumption
    | with_reducible apply Block.lmArrive_fr
    | dsimp only)

theorem localMasterWrf : ∀ x0 x1, Statement (.localMasterWrf x0 x1) := by
  intro x0 x1 s t h
  have e : execLocalMasterWrf x0 x1 s = .next t := h
  unfold execLocalMasterWrf at e
  refine of_fr (m := 0x400000490010008020000000000000000000000000000001ffe14000020000004018008000060008000307ef9f800000f00004000000f0800) (q := 0x7400c57c6) (fs := dataFields) (ps := [.freeCtr, .nextId, .xlb, .tth, .links, .fns, .queues, .groups, .pow, .jobs, .ats, .out, .wire, .loomBack, .xings]) rfl rfl dataFields_mask (by decide) e ?_
  repeat' (first
    | (show _ = _; exact rfl)
    | with_reducible exact Fr.refl _ _ _
    | with_reducible assumption
    | with_reducible apply Block.lmArrive_fr
    | dsimp only)

theorem localMasterAtm : ∀ x0 x1 x2 x3, Statement (.localMasterAtm x0 x1 x2 x3) := by
  intro x0 x1 x2 x3 s t h
  have e : execLocalMasterAtm x0 x1 x2 x3 s = .next t := h
  unfold execLocalMasterAtm at e
  refine of_fr (m := 0x400000490010008020000000000000000000000000000001ffe14000020000004018008000060008000307ef9f800000f00004000000f0800) (q := 0x7400c57c6) (fs := dataFields) (ps := [.freeCtr, .nextId, .xlb, .tth, .links, .fns, .queues, .groups, .pow, .jobs, .ats, .out, .wire, .loomBack, .xings]) rfl rfl dataFields_mask (by decide) e ?_
  repeat' (first
    | (show _ = _; exact rfl)
    | with_reducible exact Fr.refl _ _ _
    | with_reducible assumption
    | with_reducible apply Block.lmArrive_fr
    | dsimp only)

theorem localMasterFlush : ∀ x0 x1, Statement (.localMasterFlush x0 x1) := by
  intro x0 x1 s t h
  have e : execLocalMasterFlush x0 x1 s = .next t := h
  unfold execLocalMasterFlush at e
  refine of_fr (m := 0x400000490010008020000000000000000000000000000001ffe14000020000004018008000060008000307ef9f800000f00004000000f0800) (q := 0x7400c57c6) (fs := dataFields) (ps := [.freeCtr, .nextId, .xlb, .tth, .links, .fns, .queues, .groups, .pow, .jobs, .ats, .out, .wire, .loomBack, .xings]) rfl rfl dataFields_mask (by decide) e ?_
  repeat' (first
    | (show _ = _; exact rfl)
    | with_reducible exact Fr.refl _ _ _
    | with_reducible assumption
    | with_reducible apply Block.lmArrive_fr
    | dsimp only)

theorem localMasterNop : ∀ x0 x1, Statement (.localMasterNop x0 x1) := by
  intro x0 x1 s t h
  have e : execLocalMasterNop x0 x1 s = .next t := h
  unfold execLocalMasterNop at e
  refine of_fr (m := 0x400000490010008020000000000000000000000000000001ffe14000020000004018008000060008000307ef9f800000f00004000000f0800) (q := 0x7400c57c6) (fs := dataFields) (ps := [.freeCtr, .nextId, .xlb, .tth, .links, .fns, .queues, .groups, .pow, .jobs, .ats, .out, .wire, .loomBack, .xings]) rfl rfl dataFields_mask (by decide) e ?_
  repeat' (first
    | (show _ = _; exact rfl)
    | with_reducible exact Fr.refl _ _ _
    | with_reducible assumption
    | with_reducible apply Block.lmArrive_fr
    | dsimp only)

theorem flushAnswer : ∀ x0, Statement (.flushAnswer x0) := by
  intro x0 s t h
  have e : execFlushAnswer x0 s = .next t := h
  unfold execFlushAnswer at e
  refine of_fr (m := 0x20000004018008000000000000000000000000000000000000000000) (q := 0x7400053c6) (fs := [.gstClkreq, .lnkLtssm, .lnkL1sub, .lnkCntRecovery, .psTxDoze]) (ps := [.freeCtr, .nextId, .xlb, .tth, .links, .fns, .groups, .pow, .out, .wire, .loomBack, .xings]) rfl rfl (by decide) (by decide) e ?_
  repeat' (first
    | (show _ = _; exact rfl)
    | with_reducible exact Fr.refl _ _ _
    | with_reducible assumption
    | with_reducible apply Block.flushStep_fr
    | dsimp only)

theorem rspDone : ∀ x0 x1 x2 x3 x4 x5, Statement (.rspDone x0 x1 x2 x3 x4 x5) := by
  intro x0 x1 x2 x3 x4 x5 s t h
  have e : execRspDone x0 x1 x2 x3 x4 x5 s = .next t := h
  unfold execRspDone at e
  refine of_fr (m := 0x400000490010008020000000000000000000000000000001ffe14000020000004018008000060008000307ef9f800000f00004000000f0800) (q := 0x7400457c6) (fs := dataFields) (ps := [.freeCtr, .nextId, .xlb, .tth, .links, .fns, .queues, .groups, .pow, .jobs, .out, .wire, .loomBack, .xings]) rfl rfl dataFields_mask (by decide) e ?_
  repeat' (first
    | (show _ = _; exact rfl)
    | with_reducible exact Fr.refl _ _ _
    | with_reducible assumption
    | with_reducible apply Block.rspIn_fr
    | with_reducible apply Fr.ite
    | split
    | dsimp only)

theorem rspDonePoison : ∀ x0 x1 x2 x3 x4, Statement (.rspDonePoison x0 x1 x2 x3 x4) := by
  intro x0 x1 x2 x3 x4 s t h
  have e : execRspDonePoison x0 x1 x2 x3 x4 s = .next t := h
  unfold execRspDonePoison at e
  refine of_fr (m := 0x400000490010008020000000000000000000000000000001ffe14000020000004018008000060008000307ef9f800000f00004000000f0800) (q := 0x7400457c6) (fs := dataFields) (ps := [.freeCtr, .nextId, .xlb, .tth, .links, .fns, .queues, .groups, .pow, .jobs, .out, .wire, .loomBack, .xings]) rfl rfl dataFields_mask (by decide) e ?_
  repeat' (first
    | (show _ = _; exact rfl)
    | with_reducible exact Fr.refl _ _ _
    | with_reducible assumption
    | with_reducible apply Block.rspIn_fr
    | dsimp only)

theorem rspFault : ∀ x0 x1 x2, Statement (.rspFault x0 x1 x2) := by
  intro x0 x1 x2 s t h
  have e : execRspFault x0 x1 x2 s = .next t := h
  unfold execRspFault at e
  refine of_fr (m := 0x400000490010008020000000000000000000000000000001ffe14000020000004018008000060008000307ef9f800000f00004000000f0800) (q := 0x7400457c6) (fs := dataFields) (ps := [.freeCtr, .nextId, .xlb, .tth, .links, .fns, .queues, .groups, .pow, .jobs, .out, .wire, .loomBack, .xings]) rfl rfl dataFields_mask (by decide) e ?_
  repeat' (first
    | (show _ = _; exact rfl)
    | with_reducible exact Fr.refl _ _ _
    | with_reducible assumption
    | with_reducible apply Block.rspIn_fr
    | dsimp only)

theorem rspNotarget : ∀ x0 x1 x2, Statement (.rspNotarget x0 x1 x2) := by
  intro x0 x1 x2 s t h
  have e : execRspNotarget x0 x1 x2 s = .next t := h
  unfold execRspNotarget at e
  refine of_fr (m := 0x400000490010008020000000000000000000000000000001ffe14000020000004018008000060008000307ef9f800000f00004000000f0800) (q := 0x7400457c6) (fs := dataFields) (ps := [.freeCtr, .nextId, .xlb, .tth, .links, .fns, .queues, .groups, .pow, .jobs, .out, .wire, .loomBack, .xings]) rfl rfl dataFields_mask (by decide) e ?_
  repeat' (first
    | (show _ = _; exact rfl)
    | with_reducible exact Fr.refl _ _ _
    | with_reducible assumption
    | with_reducible apply Block.rspIn_fr
    | dsimp only)

theorem rspSidefx : ∀ x0 x1 x2, Statement (.rspSidefx x0 x1 x2) := by
  intro x0 x1 x2 s t h
  have e : execRspSidefx x0 x1 x2 s = .next t := h
  unfold execRspSidefx at e
  refine of_fr (m := 0x400000490010008020000000000000000000000000000001ffe14000020000004018008000060008000307ef9f800000f00004000000f0800) (q := 0x7400457c6) (fs := dataFields) (ps := [.freeCtr, .nextId, .xlb, .tth, .links, .fns, .queues, .groups, .pow, .jobs, .out, .wire, .loomBack, .xings]) rfl rfl dataFields_mask (by decide) e ?_
  repeat' (first
    | (show _ = _; exact rfl)
    | with_reducible exact Fr.refl _ _ _
    | with_reducible assumption
    | with_reducible apply Block.rspIn_fr
    | dsimp only)

theorem rspRetry : ∀ x0 x1 x2, Statement (.rspRetry x0 x1 x2) := by
  intro x0 x1 x2 s t h
  have e : execRspRetry x0 x1 x2 s = .next t := h
  unfold execRspRetry at e
  refine of_fr (m := 0x400000490010008020000000000000000000000000000001ffe14000020000004018008000060008000307ef9f800000f00004000000f0800) (q := 0x7400457c6) (fs := dataFields) (ps := [.freeCtr, .nextId, .xlb, .tth, .links, .fns, .queues, .groups, .pow, .jobs, .out, .wire, .loomBack, .xings]) rfl rfl dataFields_mask (by decide) e ?_
  repeat' (first
    | (show _ = _; exact rfl)
    | with_reducible exact Fr.refl _ _ _
    | with_reducible assumption
    | with_reducible apply Block.rspIn_fr
    | dsimp only)

theorem rspSize : ∀ x0 x1 x2, Statement (.rspSize x0 x1 x2) := by
  intro x0 x1 x2 s t h
  have e : execRspSize x0 x1 x2 s = .next t := h
  unfold execRspSize at e
  refine of_fr (m := 0x400000490010008020000000000000000000000000000001ffe14000020000004018008000060008000307ef9f800000f00004000000f0800) (q := 0x7400457c6) (fs := dataFields) (ps := [.freeCtr, .nextId, .xlb, .tth, .links, .fns, .queues, .groups, .pow, .jobs, .out, .wire, .loomBack, .xings]) rfl rfl dataFields_mask (by decide) e ?_
  repeat' (first
    | (show _ = _; exact rfl)
    | with_reducible exact Fr.refl _ _ _
    | with_reducible assumption
    | with_reducible apply Block.rspIn_fr
    | dsimp only)

theorem rspSidefxDone : ∀ x0 x1 x2 x3 x4, Statement (.rspSidefxDone x0 x1 x2 x3 x4) := by
  intro x0 x1 x2 x3 x4 s t h
  have e : execRspSidefxDone x0 x1 x2 x3 x4 s = .next t := h
  unfold execRspSidefxDone at e
  refine of_fr (m := 0x400000490010008020000000000000000000000000000001ffe14000020000004018008000060008000307ef9f800000f00004000000f0800) (q := 0x7400457c6) (fs := dataFields) (ps := [.freeCtr, .nextId, .xlb, .tth, .links, .fns, .queues, .groups, .pow, .jobs, .out, .wire, .loomBack, .xings]) rfl rfl dataFields_mask (by decide) e ?_
  repeat' (first
    | (show _ = _; exact rfl)
    | with_reducible exact Fr.refl _ _ _
    | with_reducible assumption
    | with_reducible apply Block.rspIn_fr
    | dsimp only)

theorem xlbRequestTimeout : ∀ x0 x1, Statement (.xlbRequestTimeout x0 x1) := by
  intro x0 x1 s t h
  have e : execXlbRequestTimeout x0 x1 s = .next t := h
  unfold execXlbRequestTimeout at e
  refine of_fr (m := 0x400000490010008020000000000000000000000000000001ffe14000020000004018008000060008000307ef9f800000f00004000000f0800) (q := 0x7400457c6) (fs := dataFields) (ps := [.freeCtr, .nextId, .xlb, .tth, .links, .fns, .queues, .groups, .pow, .jobs, .out, .wire, .loomBack, .xings]) rfl rfl dataFields_mask (by decide) e ?_
  repeat' (first
    | (show _ = _; exact rfl)
    | with_reducible exact Fr.refl _ _ _
    | with_reducible assumption
    | with_reducible apply Block.xlbTimeout_fr
    | dsimp only)

theorem retryGapExpiry : ∀ x0 x1, Statement (.retryGapExpiry x0 x1) := by
  intro x0 x1 s t h
  have e : execRetryGapExpiry x0 x1 s = .next t := h
  unfold execRetryGapExpiry at e
  refine of_fr (m := 0x400000490010008020000000000000000000000000000001ffe14000020000004018008000060008000307ef9f800000f00004000000f0800) (q := 0x7400457c6) (fs := dataFields) (ps := [.freeCtr, .nextId, .xlb, .tth, .links, .fns, .queues, .groups, .pow, .jobs, .out, .wire, .loomBack, .xings]) rfl rfl dataFields_mask (by decide) e ?_
  repeat' (first
    | (show _ = _; exact rfl)
    | with_reducible exact Fr.refl _ _ _
    | with_reducible assumption
    | with_reducible apply Block.retryGap_fr
    | dsimp only)

theorem xlbTagQuarantineExpiry : ∀ x0 x1, Statement (.xlbTagQuarantineExpiry x0 x1) := by
  intro x0 x1 s t h
  have e : execXlbTagQuarantineExpiry x0 x1 s = .next t := h
  unfold execXlbTagQuarantineExpiry at e
  refine of_fr (m := 0x20000000000000000000000000000000000000000000000000000000) (q := 0x1400040c2) (fs := [.psTxDoze]) (ps := [.freeCtr, .xlb, .tth, .pow, .out, .wire]) rfl rfl (by decide) (by decide) e ?_
  repeat' (first
    | (show _ = _; exact rfl)
    | with_reducible exact Fr.refl _ _ _
    | with_reducible assumption
    | with_reducible apply Block.xlbTagFree_fr
    | dsimp only)

theorem lines : ∀ x0 x1 x2 x3, Statement (.lines x0 x1 x2 x3) := by
  intro x0 x1 x2 x3 s t h
  have e : execLines x0 x1 x2 x3 s = .next t := h
  unfold execLines at e
  refine of_fr (m := 0x400000490010008020000000000000000000000000000001ffe14000020000004018008000060008000307ef9f800000f00004000000f0800) (q := 0x7400457c6) (fs := dataFields) (ps := [.freeCtr, .nextId, .xlb, .tth, .links, .fns, .queues, .groups, .pow, .jobs, .out, .wire, .loomBack, .xings]) rfl rfl dataFields_mask (by decide) e ?_
  repeat' (first
    | (show _ = _; exact rfl)
    | with_reducible exact Fr.refl _ _ _
    | with_reducible assumption
    | with_reducible apply Block.msgIn_fr
    | with_reducible apply Fr.ite
    | split
    | dsimp only)

theorem reins : ∀ x0 x1 x2, Statement (.reins x0 x1 x2) := by
  intro x0 x1 x2 s t h
  have e : execReins x0 x1 x2 s = .next t := h
  unfold execReins at e
  refine of_fr (m := 0x400000490010008020000000000000000000000000000001ffe14000020000004018008000060008000307ef9f800000f00004000000f0800) (q := 0x7400457c6) (fs := dataFields) (ps := [.freeCtr, .nextId, .xlb, .tth, .links, .fns, .queues, .groups, .pow, .jobs, .out, .wire, .loomBack, .xings]) rfl rfl dataFields_mask (by decide) e ?_
  repeat' (first
    | (show _ = _; exact rfl)
    | with_reducible exact Fr.refl _ _ _
    | with_reducible assumption
    | with_reducible apply Block.msgIn_fr
    | dsimp only)

theorem event : ∀ x0 x1 x2 x3, Statement (.event x0 x1 x2 x3) := by
  intro x0 x1 x2 x3 s t h
  have e : execEvent x0 x1 x2 x3 s = .next t := h
  unfold execEvent at e
  refine of_fr (m := 0x400000490010008020000000000000000000000000000001ffe14000020000004018008000060008000307ef9f800000f00004000000f0800) (q := 0x7400457c6) (fs := dataFields) (ps := [.freeCtr, .nextId, .xlb, .tth, .links, .fns, .queues, .groups, .pow, .jobs, .out, .wire, .loomBack, .xings]) rfl rfl dataFields_mask (by decide) e ?_
  repeat' (first
    | (show _ = _; exact rfl)
    | with_reducible exact Fr.refl _ _ _
    | with_reducible assumption
    | with_reducible apply Block.msgIn_fr
    | dsimp only)

theorem vendor : ∀ x0 x1 x2 x3 x4, Statement (.vendor x0 x1 x2 x3 x4) := by
  intro x0 x1 x2 x3 x4 s t h
  have e : execVendor x0 x1 x2 x3 x4 s = .next t := h
  unfold execVendor at e
  refine of_fr (m := 0x400000490010008020000000000000000000000000000001ffe14000020000004018008000060008000307ef9f800000f00004000000f0800) (q := 0x7400457c6) (fs := dataFields) (ps := [.freeCtr, .nextId, .xlb, .tth, .links, .fns, .queues, .groups, .pow, .jobs, .out, .wire, .loomBack, .xings]) rfl rfl dataFields_mask (by decide) e ?_
  repeat' (first
    | (show _ = _; exact rfl)
    | with_reducible exact Fr.refl _ _ _
    | with_reducible assumption
    | with_reducible apply Block.msgIn_fr
    | dsimp only)

theorem caps : ∀ x0 x1, Statement (.caps x0 x1) := by
  intro x0 x1 s t h
  have e : execCaps x0 x1 s = .next t := h
  unfold execCaps at e
  refine of_fr (m := 0x408000490010208020460000000000000008000000000001ffe1400002080000401800800a060008000301e00d800000f0000480000083fc0) (q := 0x7406c57c6) (fs := capsFields) (ps := [.freeCtr, .nextId, .xlb, .tth, .links, .fns, .queues, .groups, .pow, .jobs, .ats, .parked, .gated, .out, .wire, .loomBack, .xings]) rfl rfl capsFields_mask (by decide) e ?_
  repeat' (first
    | (show _ = _; exact rfl)
    | with_reducible exact Fr.refl _ _ _
    | with_reducible assumption
    | with_reducible apply Block.capsIn_fr
    | dsimp only)

theorem credit : ∀ x0 x1 x2 x3 x4, Statement (.credit x0 x1 x2 x3 x4) := by
  intro x0 x1 x2 x3 x4 s t h
  have e : execCredit x0 x1 x2 x3 x4 s = .next t := h
  unfold execCredit at e
  refine of_fr (m := 0x490010008020000000000000000000000000000001ffe1400002000000000000000006000000c000000000000040000000000040000) (q := 0x1400052c2) (fs := logFields) (ps := [.freeCtr, .xlb, .tth, .fns, .groups, .pow, .out, .wire]) rfl rfl logFields_mask (by decide) e ?_
  repeat' (first
    | (show _ = _; exact rfl)
    | with_reducible exact Fr.refl _ _ _
    | with_reducible assumption
    | with_reducible apply Block.creditIn_fr
    | dsimp only)

theorem pad : ∀ x0, Statement (.pad x0) := by
  intro x0 s t h
  have e : execPad x0 s = .next t := h
  unfold execPad at e
  refine of_fr (m := 0x490010008020000000000000000000000000000001ffe1400002000000000000000006000000c000000000000040000000000040000) (q := 0x1400052c2) (fs := logFields) (ps := [.freeCtr, .xlb, .tth, .fns, .groups, .pow, .out, .wire]) rfl rfl logFields_mask (by decide) e ?_
  repeat' (first
    | (show _ = _; exact rfl)
    | with_reducible exact Fr.refl _ _ _
    | with_reducible assumption
    | with_reducible apply Block.creditIn_fr
    | dsimp only)

theorem release : ∀ x0, Statement (.release x0) := by
  intro x0 s t h
  have e : execRelease x0 s = .next t := h
  unfold execRelease at e
  refine of_fr (m := 0x20000000000000000000000000000000000000000000000000000000) (q := 0x1400040c0) (fs := [.psTxDoze]) (ps := [.xlb, .tth, .pow, .out, .wire]) rfl rfl (by decide) (by decide) e ?_
  repeat' (first
    | (show _ = _; exact rfl)
    | with_reducible exact Fr.refl _ _ _
    | with_reducible assumption
    | with_reducible apply Block.releaseW_fr
    | dsimp only)

theorem capsAbandon : ∀ x0, Statement (.capsAbandon x0) := by
  intro x0 s t h
  have e : execCapsAbandon x0 s = .next t := h
  unfold execCapsAbandon at e
  refine of_fr (m := 0x0) (q := 0x40) (fs := []) (ps := [.xlb]) rfl rfl (by decide) (by decide) e ?_
  repeat' (first
    | (show _ = _; exact rfl)
    | with_reducible exact Fr.refl _ _ _
    | with_reducible assumption
    | with_reducible apply Block.capsDrop_fr
    | dsimp only)

theorem tetherReceiverDetect : ∀ x0 x1, Statement (.tetherReceiverDetect x0 x1) := by
  intro x0 x1 s t h
  have e : execTetherReceiverDetect x0 x1 s = .next t := h
  unfold execTetherReceiverDetect at e
  refine of_fr (m := 0x1800000000000000000000000000000000000000000000000000000) (q := 0x140400080) (fs := [.psState, .psRate]) (ps := [.tth, .gated, .out, .wire]) rfl rfl (by decide) (by decide) e ?_
  repeat' (first
    | (show _ = _; exact rfl)
    | with_reducible exact Fr.refl _ _ _
    | with_reducible assumption
    | with_reducible apply Block.rxDetect_fr
    | dsimp only)

theorem trainingBlock : ∀ x0 x1 x2 x3, Statement (.trainingBlock x0 x1 x2 x3) := by
  intro x0 x1 x2 x3 s t h
  have e : execTrainingBlock x0 x1 x2 s x3 = .next t := h
  unfold execTrainingBlock at e
  refine of_fr (m := 0x408000490010208020407f80000000000000000000000001ffe1440b87f800004018008000060008000301e00d800000f1c00400000080800) (q := 0x7406c57c6) (fs := trainFields) (ps := [.freeCtr, .nextId, .xlb, .tth, .links, .fns, .queues, .groups, .pow, .jobs, .ats, .parked, .gated, .out, .wire, .loomBack, .xings]) rfl rfl trainFields_mask (by decide) e ?_
  repeat' (first
    | (show _ = _; exact rfl)
    | with_reducible exact Fr.refl _ _ _
    | with_reducible assumption
    | with_reducible apply Block.blockIn_fr
    | dsimp only)

theorem adaptPresetDwellExpiry : ∀ x0 x1 x2, Statement (.adaptPresetDwellExpiry x0 x1 x2) := by
  intro x0 x1 x2 s t h
  have e : execAdaptPresetDwellExpiry x0 x1 x2 s = .next t := h
  unfold execAdaptPresetDwellExpiry at e
  refine of_fr (m := 0x408000490010208020407f80000000000000000000000001ffe1440b87f800004018008000060008000301e00d800000f1c00400000080800) (q := 0x7406c57c6) (fs := trainFields) (ps := [.freeCtr, .nextId, .xlb, .tth, .links, .fns, .queues, .groups, .pow, .jobs, .ats, .parked, .gated, .out, .wire, .loomBack, .xings]) rfl rfl trainFields_mask (by decide) e ?_
  repeat' (first
    | (show _ = _; exact rfl)
    | with_reducible exact Fr.refl _ _ _
    | with_reducible assumption
    | with_reducible apply Block.dwell_fr
    | dsimp only)

theorem tetherStateLimitExpiry : ∀ x0, Statement (.tetherStateLimitExpiry x0) := by
  intro x0 s t h
  have e : execTetherStateLimitExpiry x0 s = .next t := h
  unfold execTetherStateLimitExpiry at e
  refine of_fr (m := 0x408000490010208020407f80000000000000000000000001ffe1440b87f800004018008000060008000301e00d800000f1c00400000080800) (q := 0x7406c57c6) (fs := trainFields) (ps := [.freeCtr, .nextId, .xlb, .tth, .links, .fns, .queues, .groups, .pow, .jobs, .ats, .parked, .gated, .out, .wire, .loomBack, .xings]) rfl rfl trainFields_mask (by decide) e ?_
  repeat' (first
    | (show _ = _; exact rfl)
    | with_reducible exact Fr.refl _ _ _
    | with_reducible assumption
    | with_reducible apply Block.stateLimit_fr
    | dsimp only)

theorem symbolLock : ∀ x0, Statement (.symbolLock x0) := by
  intro x0 s t h
  have e : execSymbolLock x0 s = .next t := h
  unfold execSymbolLock at e
  refine of_fr (m := 0x40800049001020802040000000000000000ec802cc796801ffe14183c6d800004018008000060008000301e00d800000f0000400000080c00) (q := 0x7406c57c6) (fs := tetherFields) (ps := [.freeCtr, .nextId, .xlb, .tth, .links, .fns, .queues, .groups, .pow, .jobs, .ats, .parked, .gated, .out, .wire, .loomBack, .xings]) rfl rfl tetherFields_mask (by decide) e ?_
  repeat' (first
    | (show _ = _; exact rfl)
    | with_reducible exact Fr.refl _ _ _
    | with_reducible assumption
    | with_reducible apply Fr.ttMod
    | with_reducible apply Block.lockStep_fr
    | with_reducible apply Fr.ite
    | split
    | dsimp only
    | refine Fr.upd (by (repeat' apply And.intro) <;> first | exact Or.inl rfl | exact Or.inr rfl) ?_)

theorem deskewDone : ∀ x0, Statement (.deskewDone x0) := by
  intro x0 s t h
  have e : execDeskewDone x0 s = .next t := h
  unfold execDeskewDone at e
  refine of_fr (m := 0x40800049001020802040000000000000000ec802cc796801ffe14183c6d800004018008000060008000301e00d800000f0000400000080c00) (q := 0x7406c57c6) (fs := tetherFields) (ps := [.freeCtr, .nextId, .xlb, .tth, .links, .fns, .queues, .groups, .pow, .jobs, .ats, .parked, .gated, .out, .wire, .loomBack, .xings]) rfl rfl tetherFields_mask (by decide) e ?_
  repeat' (first
    | (show _ = _; exact rfl)
    | with_reducible exact Fr.refl _ _ _
    | with_reducible assumption
    | with_reducible apply Fr.ttMod
    | with_reducible apply Block.lockStep_fr
    | with_reducible apply Fr.ite
    | split
    | dsimp only
    | refine Fr.upd (by (repeat' apply And.intro) <;> first | exact Or.inl rfl | exact Or.inr rfl) ?_)

theorem capsResend : ∀ x0, Statement (.capsResend x0) := by
  intro x0 s t h
  have e : execCapsResend x0 s = .next t := h
  unfold execCapsResend at e
  refine of_fr (m := 0x20000000000000000000000000000000000000000000000000000000) (q := 0x1400040c0) (fs := [.psTxDoze]) (ps := [.xlb, .tth, .pow, .out, .wire]) rfl rfl (by decide) (by decide) e ?_
  repeat' (first
    | (show _ = _; exact rfl)
    | with_reducible exact Fr.refl _ _ _
    | with_reducible assumption
    | with_reducible apply Block.capsAgain_fr
    | dsimp only)

theorem trainBackoffExpiry : ∀ x0, Statement (.trainBackoffExpiry x0) := by
  intro x0 s t h
  have e : execTrainBackoffExpiry x0 s = .next t := h
  unfold execTrainBackoffExpiry at e
  refine of_fr (m := 0x0) (q := 0x80) (fs := []) (ps := [.tth]) rfl rfl (by decide) (by decide) e ?_
  repeat' (first
    | (show _ = _; exact rfl)
    | with_reducible exact Fr.refl _ _ _
    | with_reducible assumption
    | with_reducible apply Fr.ttMod
    | dsimp only
    | refine Fr.upd (by (repeat' apply And.intro) <;> first | exact Or.inl rfl | exact Or.inr rfl) ?_)

theorem flit : ∀ x0 x1, Statement (.flit x0 x1) := by
  intro x0 x1 s t h
  have e : execFlit x0 x1 s = .next t := h
  unfold execFlit at e
  refine of_fr (m := 0x408000490010208020460000000000000008000000000001ffe163f5a6d80000401800800a060008000301e00d800000f00004800000e3fc0) (q := 0x7406d57c6) (fs := flitFields) (ps := [.freeCtr, .nextId, .xlb, .tth, .links, .fns, .queues, .groups, .pow, .stums, .jobs, .ats, .parked, .gated, .out, .wire, .loomBack, .xings]) rfl rfl flitFields_mask (by decide) e ?_
  repeat' (first
    | (show _ = _; exact rfl)
    | with_reducible exact Fr.refl _ _ _
    | with_reducible assumption
    | with_reducible apply Block.flitIn_fr
    | dsimp only)

theorem nakHoldoffExpiry : ∀ x0, Statement (.nakHoldoffExpiry x0) := by
  intro x0 s t h
  have e : execNakHoldoffExpiry x0 s = .next t := h
  unfold execNakHoldoffExpiry at e
  refine of_fr (m := 0x40800049001020802040000000000000000ec802cc796801ffe14183c6d800004018008000060008000301e00d800000f0000400000080c00) (q := 0x7406c57c6) (fs := tetherFields) (ps := [.freeCtr, .nextId, .xlb, .tth, .links, .fns, .queues, .groups, .pow, .jobs, .ats, .parked, .gated, .out, .wire, .loomBack, .xings]) rfl rfl tetherFields_mask (by decide) e ?_
  repeat' (first
    | (show _ = _; exact rfl)
    | with_reducible exact Fr.refl _ _ _
    | with_reducible assumption
    | with_reducible apply Block.nakHoldEnd_fr
    | dsimp only)

theorem replay : ∀ x0 x1, Statement (.replay x0 x1) := by
  intro x0 x1 s t h
  have e : execReplay x0 x1 s = .next t := h
  unfold execReplay at e
  refine of_fr (m := 0x0) (q := 0x80) (fs := []) (ps := [.tth]) rfl rfl (by decide) (by decide) e ?_
  repeat' (first
    | (show _ = _; exact rfl)
    | with_reducible exact Fr.refl _ _ _
    | with_reducible assumption
    | with_reducible apply Block.replayIn_fr
    | dsimp only)

theorem skipFlit : ∀ x0, Statement (.skipFlit x0) := by
  intro x0 s t h
  have e : execSkipFlit x0 s = .next t := h
  unfold execSkipFlit at e
  refine of_fr (m := 0x0) (q := 0x0) (fs := []) (ps := []) rfl rfl (by decide) (by decide) e ?_
  repeat' (first
    | (show _ = _; exact rfl)
    | with_reducible exact Fr.refl _ _ _
    | with_reducible assumption
    | dsimp only)

theorem skipFlitSend : ∀ x0, Statement (.skipFlitSend x0) := by
  intro x0 s t h
  have e : execSkipFlitSend x0 s = .next t := h
  unfold execSkipFlitSend at e
  refine of_fr (m := 0x0) (q := 0x140000080) (fs := []) (ps := [.tth, .out, .wire]) rfl rfl (by decide) (by decide) e ?_
  repeat' (first
    | (show _ = _; exact rfl)
    | with_reducible exact Fr.refl _ _ _
    | with_reducible assumption
    | with_reducible apply Block.putSkip_fr
    | with_reducible apply Fr.ite
    | split
    | dsimp only)

theorem alignmentMarker : ∀ x0 x1, Statement (.alignmentMarker x0 x1) := by
  intro x0 x1 s t h
  have e : execAlignmentMarker x0 x1 s = .next t := h
  unfold execAlignmentMarker at e
  refine of_fr (m := 0x40800049001020802040000000000000000ec802cc796801ffe14183c6d800004018008000060008000301e00d800000f0000400000080c00) (q := 0x7406c57c6) (fs := tetherFields) (ps := [.freeCtr, .nextId, .xlb, .tth, .links, .fns, .queues, .groups, .pow, .jobs, .ats, .parked, .gated, .out, .wire, .loomBack, .xings]) rfl rfl tetherFields_mask (by decide) e ?_
  repeat' (first
    | (show _ = _; exact rfl)
    | with_reducible exact Fr.refl _ _ _
    | with_reducible assumption
    | with_reducible apply Block.markIn_fr
    | dsimp only)

theorem alignmentMarkerSend : ∀ x0, Statement (.alignmentMarkerSend x0) := by
  intro x0 s t h
  have e : execAlignmentMarkerSend x0 s = .next t := h
  unfold execAlignmentMarkerSend at e
  refine of_fr (m := 0x0) (q := 0x140000080) (fs := []) (ps := [.tth, .out, .wire]) rfl rfl (by decide) (by decide) e ?_
  repeat' (first
    | (show _ = _; exact rfl)
    | with_reducible exact Fr.refl _ _ _
    | with_reducible assumption
    | with_reducible apply Block.putMark_fr
    | with_reducible apply Fr.ite
    | split
    | dsimp only)

theorem narrowReq : ∀ x0 x1, Statement (.narrowReq x0 x1) := by
  intro x0 x1 s t h
  have e : execNarrowReq x0 x1 s = .next t := h
  unfold execNarrowReq at e
  refine of_fr (m := 0x20000000000000000000000000000000000000000000000000000000) (q := 0x140004080) (fs := [.psTxDoze]) (ps := [.tth, .pow, .out, .wire]) rfl rfl (by decide) (by decide) e ?_
  repeat' (first
    | (show _ = _; exact rfl)
    | with_reducible exact Fr.refl _ _ _
    | with_reducible assumption
    | with_reducible apply Block.ctlIn_fr
    | with_reducible apply Block.narrowReqIn_fr
    | (intro _ _ h)
    | (intro _ h)
    | dsimp only)

theorem narrow : ∀ x0 x1 x2, Statement (.narrow x0 x1 x2) := by
  intro x0 x1 x2 s t h
  have e : execNarrow x0 x1 x2 s = .next t := h
  unfold execNarrow at e
  refine of_fr (m := 0x0) (q := 0x80) (fs := []) (ps := [.tth]) rfl rfl (by decide) (by decide) e ?_
  repeat' (first
    | (show _ = _; exact rfl)
    | with_reducible exact Fr.refl _ _ _
    | with_reducible assumption
    | with_reducible apply Block.ctlIn_fr
    | with_reducible apply Block.narrowIn_fr
    | (intro _ _ h)
    | (intro _ h)
    | dsimp only)

theorem narrowSwitch : ∀ x0 x1, Statement (.narrowSwitch x0 x1) := by
  intro x0 x1 s t h
  have e : execNarrowSwitch x0 x1 s = .next t := h
  unfold execNarrowSwitch at e
  refine of_fr (m := 0x40800049001020802040000000000000000ec802cc796801ffe14183c6d800004018008000060008000301e00d800000f0000400000080c00) (q := 0x7406c57c6) (fs := tetherFields) (ps := [.freeCtr, .nextId, .xlb, .tth, .links, .fns, .queues, .groups, .pow, .jobs, .ats, .parked, .gated, .out, .wire, .loomBack, .xings]) rfl rfl tetherFields_mask (by decide) e ?_
  repeat' (first
    | (show _ = _; exact rfl)
    | with_reducible exact Fr.refl _ _ _
    | with_reducible assumption
    | with_reducible apply Block.narrowTake_fr
    | dsimp only)

theorem doze : ∀ x0, Statement (.doze x0) := by
  intro x0 s t h
  have e : execDoze x0 s = .next t := h
  unfold execDoze at e
  refine of_fr (m := 0x40000000000000000000000000000000000000000000000000000000) (q := 0x0) (fs := [.psRxDoze]) (ps := []) rfl rfl (by decide) (by decide) e ?_
  repeat' (first
    | (show _ = _; exact rfl)
    | with_reducible exact Fr.refl _ _ _
    | with_reducible assumption
    | with_reducible apply Block.ctlIn_fr
    | with_reducible apply Block.partnerDoze_fr
    | (intro _ _ h)
    | (intro _ h)
    | dsimp only)

theorem dozeIdleExpiry : ∀ x0, Statement (.dozeIdleExpiry x0) := by
  intro x0 s t h
  have e : execDozeIdleExpiry x0 s = .next t := h
  unfold execDozeIdleExpiry at e
  refine of_fr (m := 0x20000000000000000000000000000000000000000000000000000000) (q := 0x140000080) (fs := [.psTxDoze]) (ps := [.tth, .out, .wire]) rfl rfl (by decide) (by decide) e ?_
  repeat' (first
    | (show _ = _; exact rfl)
    | with_reducible exact Fr.refl _ _ _
    | with_reducible assumption
    | with_reducible apply Block.dozeIn_fr
    | dsimp only)

theorem nudgeBurst : ∀ x0, Statement (.nudgeBurst x0) := by
  intro x0 s t h
  have e : execNudgeBurst x0 s = .next t := h
  unfold execNudgeBurst at e
  refine of_fr (m := 0x0) (q := 0x40000000) (fs := []) (ps := [.out]) rfl rfl (by decide) (by decide) e ?_
  repeat' (first
    | (show _ = _; exact rfl)
    | with_reducible exact Fr.refl _ _ _
    | with_reducible assumption
    | with_reducible apply Fr.emit
    | with_reducible apply Fr.ite
    | split
    | dsimp only)

theorem nudgeCheckExpiry : ∀ x0, Statement (.nudgeCheckExpiry x0) := by
  intro x0 s t h
  have e : execNudgeCheckExpiry x0 s = .next t := h
  unfold execNudgeCheckExpiry at e
  refine of_fr (m := 0x40800049001020802040000000000000000ec802cc796801ffe14183c6d800004018008000060008000301e00d800000f0000400000080c00) (q := 0x7406c57c6) (fs := tetherFields) (ps := [.freeCtr, .nextId, .xlb, .tth, .links, .fns, .queues, .groups, .pow, .jobs, .ats, .parked, .gated, .out, .wire, .loomBack, .xings]) rfl rfl tetherFields_mask (by decide) e ?_
  repeat' (first
    | (show _ = _; exact rfl)
    | with_reducible exact Fr.refl _ _ _
    | with_reducible assumption
    | with_reducible apply Block.tthLost_fr
    | with_reducible apply Fr.ite
    | split
    | dsimp only)

theorem tetherKeepaliveExpiry : ∀ x0, Statement (.tetherKeepaliveExpiry x0) := by
  intro x0 s t h
  have e : execTetherKeepaliveExpiry x0 s = .next t := h
  unfold execTetherKeepaliveExpiry at e
  refine of_fr (m := 0x40800049001020802040000000000000000ec802cc796801ffe14183c6d800004018008000060008000301e00d800000f0000400000080c00) (q := 0x7406c57c6) (fs := tetherFields) (ps := [.freeCtr, .nextId, .xlb, .tth, .links, .fns, .queues, .groups, .pow, .jobs, .ats, .parked, .gated, .out, .wire, .loomBack, .xings]) rfl rfl tetherFields_mask (by decide) e ?_
  repeat' (first
    | (show _ = _; exact rfl)
    | with_reducible exact Fr.refl _ _ _
    | with_reducible assumption
    | with_reducible apply Block.tthLost_fr
    | with_reducible apply Fr.ite
    | split
    | dsimp only)

theorem loomTransfer : ∀ x0 x1 x2 x3, Statement (.loomTransfer x0 x1 x2 x3) := by
  intro x0 x1 x2 x3 s t h
  have e : execLoomTransfer x0 x1 x2 s x3 = .next t := h
  unfold execLoomTransfer at e
  refine of_fr (m := 0x20000000000000000000000000000000000000000000000000000000) (q := 0x14000c0c0) (fs := [.psTxDoze]) (ps := [.xlb, .tth, .pow, .loom, .out, .wire]) rfl rfl (by decide) (by decide) e ?_
  repeat' (first
    | (show _ = _; exact rfl)
    | with_reducible exact Fr.refl _ _ _
    | with_reducible assumption
    | with_reducible apply Block.loomMove_fr
    | dsimp only)

theorem loomSliceResume : Statement .loomSliceResume := by
  intro s t h
  have e : execLoomSliceResume s = .next t := h
  unfold execLoomSliceResume at e
  refine of_fr (m := 0x400000490010008020000000000000000000000000000001ffe14000020000004018008000060008000307ef9f800000f00004000000f0800) (q := 0x7400cd7c6) (fs := dataFields) (ps := [.freeCtr, .nextId, .xlb, .tth, .links, .fns, .queues, .groups, .pow, .loom, .jobs, .ats, .out, .wire, .loomBack, .xings]) rfl rfl dataFields_mask (by decide) e ?_
  repeat' (first
    | (show _ = _; exact rfl)
    | with_reducible exact Fr.refl _ _ _
    | with_reducible assumption
    | with_reducible apply Block.sliceResume_fr
    | dsimp only)

theorem loomNarrow : Statement .loomNarrow := by
  intro s t h
  have e : execLoomNarrow s = .next t := h
  unfold execLoomNarrow at e
  refine of_fr (m := 0x0) (q := 0x8000) (fs := []) (ps := [.loom]) rfl rfl (by decide) (by decide) e ?_
  repeat' (first
    | (show _ = _; exact rfl)
    | with_reducible exact Fr.refl _ _ _
    | with_reducible assumption
    | with_reducible apply Block.loomNarrowGo_fr
    | dsimp only)

theorem loomWiden : Statement .loomWiden := by
  intro s t h
  have e : execLoomWiden s = .next t := h
  unfold execLoomWiden at e
  refine of_fr (m := 0x0) (q := 0x40c000) (fs := []) (ps := [.pow, .loom, .gated]) rfl rfl (by decide) (by decide) e ?_
  repeat' (first
    | (show _ = _; exact rfl)
    | with_reducible exact Fr.refl _ _ _
    | with_reducible assumption
    | with_reducible apply Block.loomWidenGo_fr
    | dsimp only)

theorem unitPowerGate : ∀ x0, Statement (.unitPowerGate x0) := by
  intro x0 s t h
  have e : execUnitPowerGate x0 s = .next t := h
  unfold execUnitPowerGate at e
  refine of_fr (m := 0x0) (q := 0x400000) (fs := []) (ps := [.gated]) rfl rfl (by decide) (by decide) e ?_
  repeat' (first
    | (show _ = _; exact rfl)
    | with_reducible exact Fr.refl _ _ _
    | with_reducible assumption
    | with_reducible apply Block.gateUnit_fr
    | dsimp only)

theorem doorbell : ∀ x0 x1 x2, Statement (.doorbell x0 x1 x2) := by
  intro x0 x1 x2 s t h
  have e : execDoorbell x0 x1 x2 s = .next t := h
  unfold execDoorbell at e
  refine of_fr (m := 0x40000000000000800000000000000000000000000000000000000000020000004018008000020000000301e00980000000000000000000000) (q := 0x5406057c6) (fs := [.qState, .qArmPending, .qRefetch, .qHaltCause, .qHaltDetail, .qHaltDesc, .qHaltFrag, .evtEvtFull, .evtProd, .srcState, .gstClkreq, .lnkLtssm, .lnkL1sub, .lnkCntRecovery, .psTxDoze, .cfgPmeSts, .qLastWb]) (ps := [.freeCtr, .nextId, .xlb, .tth, .links, .fns, .queues, .groups, .pow, .parked, .gated, .out, .wire, .xings]) rfl rfl (by decide) (by decide) e ?_
  repeat' (first
    | (show _ = _; exact rfl)
    | with_reducible exact Fr.refl _ _ _
    | with_reducible assumption
    | with_reducible apply Block.ifFn_fr
    | with_reducible apply Block.qBell_fr
    | (intro _ _ h)
    | (intro _ h)
    | dsimp only)

theorem producerIndex : ∀ x0 x1, Statement (.producerIndex x0 x1) := by
  intro x0 x1 s t h
  have e : execProducerIndex x0 x1 s = .next t := h
  unfold execProducerIndex at e
  refine of_fr (m := 0x400000490010008020000000000000000000000000000001ffe14000020000004018008000060008000307ef9f800000f00004000000f0800) (q := 0x7400c57c6) (fs := dataFields) (ps := [.freeCtr, .nextId, .xlb, .tth, .links, .fns, .queues, .groups, .pow, .jobs, .ats, .out, .wire, .loomBack, .xings]) rfl rfl dataFields_mask (by decide) e ?_
  repeat' (first
    | (show _ = _; exact rfl)
    | with_reducible exact Fr.refl _ _ _
    | with_reducible assumption
    | with_reducible apply Block.qIndex_fr
    | dsimp only)

theorem descriptorFetchData : ∀ x0 x1, Statement (.descriptorFetchData x0 x1) := by
  intro x0 x1 s t h
  have e : execDescriptorFetchData x0 x1 s = .next t := h
  unfold execDescriptorFetchData at e
  refine of_fr (m := 0x400000490010008020000000000000000000000000000001ffe14000020000004018008000060008000307ef9f800000f00004000000f0800) (q := 0x7400c57c6) (fs := dataFields) (ps := [.freeCtr, .nextId, .xlb, .tth, .links, .fns, .queues, .groups, .pow, .jobs, .ats, .out, .wire, .loomBack, .xings]) rfl rfl dataFields_mask (by decide) e ?_
  repeat' (first
    | (show _ = _; exact rfl)
    | with_reducible exact Fr.refl _ _ _
    | with_reducible assumption
    | with_reducible apply Block.qDescs_fr
    | dsimp only)

theorem fragmentTableData : ∀ x0 x1, Statement (.fragmentTableData x0 x1) := by
  intro x0 x1 s t h
  have e : execFragmentTableData x0 x1 s = .next t := h
  unfold execFragmentTableData at e
  refine of_fr (m := 0x400000490010008020000000000000000000000000000001ffe14000020000004018008000060008000307ef9f800000f00004000000f0800) (q := 0x7400c57c6) (fs := dataFields) (ps := [.freeCtr, .nextId, .xlb, .tth, .links, .fns, .queues, .groups, .pow, .jobs, .ats, .out, .wire, .loomBack, .xings]) rfl rfl dataFields_mask (by decide) e ?_
  repeat' (first
    | (show _ = _; exact rfl)
    | with_reducible exact Fr.refl _ _ _
    | with_reducible assumption
    | with_reducible apply Block.qFrags_fr
    | dsimp only)

theorem chunkReadIssue : ∀ x0 x1, Statement (.chunkReadIssue x0 x1) := by
  intro x0 x1 s t h
  have e : execChunkReadIssue x0 x1 s = .next t := h
  unfold execChunkReadIssue at e
  refine of_fr (m := 0x400000490010008020000000000000000000000000000001ffe14000020000004018008000060008000307ef9f800000f00004000000f0800) (q := 0x7c00c57c6) (fs := dataFields) (ps := [.freeCtr, .nextId, .xlb, .tth, .links, .fns, .queues, .groups, .pow, .jobs, .ats, .out, .shutRot, .wire, .loomBack, .xings]) rfl rfl dataFields_mask (by decide) e ?_
  repeat' (first
    | (show _ = _; exact rfl)
    | with_reducible exact Fr.refl _ _ _
    | with_reducible assumption
    | with_reducible apply Block.qChunk_fr
    | dsimp only)

theorem chunkReadData : ∀ x0 x1, Statement (.chunkReadData x0 x1) := by
  intro x0 x1 s t h
  have e : execChunkReadData x0 x1 s = .next t := h
  unfold execChunkReadData at e
  refine of_fr (m := 0x400000490010008020000000000000000000000000000001ffe14000020000004018008000060008000307ef9f800000f00004000000f0800) (q := 0x7400c57c6) (fs := dataFields) (ps := [.freeCtr, .nextId, .xlb, .tth, .links, .fns, .queues, .groups, .pow, .jobs, .ats, .out, .wire, .loomBack, .xings]) rfl rfl dataFields_mask (by decide) e ?_
  repeat' (first
    | (show _ = _; exact rfl)
    | with_reducible exact Fr.refl _ _ _
    | with_reducible assumption
    | with_reducible apply Block.qStage_fr
    | dsimp only)

theorem chunkWriteDone : ∀ x0 x1, Statement (.chunkWriteDone x0 x1) := by
  intro x0 x1 s t h
  have e : execChunkWriteDone x0 x1 s = .next t := h
  unfold execChunkWriteDone at e
  refine of_fr (m := 0x400000490010008020000000000000000000000000000001ffe14000020000004018008000060008000307ef9f800000f00004000000f0800) (q := 0x7400c57c6) (fs := dataFields) (ps := [.freeCtr, .nextId, .xlb, .tth, .links, .fns, .queues, .groups, .pow, .jobs, .ats, .out, .wire, .loomBack, .xings]) rfl rfl dataFields_mask (by decide) e ?_
  repeat' (first
    | (show _ = _; exact rfl)
    | with_reducible exact Fr.refl _ _ _
    | with_reducible assumption
    | with_reducible apply Block.qAdvance_fr
    | dsimp only)

theorem coalTimerExpiry : ∀ x0 x1, Statement (.coalTimerExpiry x0 x1) := by
  intro x0 x1 s t h
  have e : execCoalTimerExpiry x0 x1 s = .next t := h
  unfold execCoalTimerExpiry at e
  refine of_fr (m := 0x40000000000000000000000000000000000000000000000000000000000000004018008000000000000000000000000000000000000000000) (q := 0x440005500) (fs := [.gstClkreq, .lnkLtssm, .lnkL1sub, .lnkCntRecovery, .qLastWb]) (ps := [.links, .queues, .groups, .pow, .out, .xings]) rfl rfl (by decide) (by decide) e ?_
  repeat' (first
    | (show _ = _; exact rfl)
    | with_reducible exact Fr.refl _ _ _
    | with_reducible assumption
    | with_reducible apply Block.headWb_fr
    | with_reducible apply Fr.ite
    | split
    | dsimp only)

theorem headWritebackAccepted : ∀ x0 x1, Statement (.headWritebackAccepted x0 x1) := by
  intro x0 x1 s t h
  have e : execHeadWritebackAccepted x0 x1 s = .next t := h
  unfold execHeadWritebackAccepted at e
  refine of_fr (m := 0x20000040000000000000000000000000000000000000000000004018008000002000000000000000000000000000000000000) (q := 0x440005500) (fs := [.spQpend, .gstClkreq, .lnkLtssm, .lnkL1sub, .lnkCntRecovery, .msixPend, .cfgMsiPend]) (ps := [.links, .queues, .groups, .pow, .out, .xings]) rfl rfl (by decide) (by decide) e ?_
  repeat' (first
    | (show _ = _; exact rfl)
    | with_reducible exact Fr.refl _ _ _
    | with_reducible assumption
    | with_reducible apply Block.qSignal_fr
    | dsimp only)

theorem qcmdEnable : ∀ x0 x1, Statement (.qcmdEnable x0 x1) := by
  intro x0 x1 s t h
  have e : execQcmdEnable x0 x1 s = .next t := h
  unfold execQcmdEnable at e
  refine of_fr (m := 0x400000490010008020000000000000000000000000000001ffe14000020000004018008000060008000307ef9f800000f00004000000f0800) (q := 0x7406c57c6) (fs := dataFields) (ps := [.freeCtr, .nextId, .xlb, .tth, .links, .fns, .queues, .groups, .pow, .jobs, .ats, .parked, .gated, .out, .wire, .loomBack, .xings]) rfl rfl dataFields_mask (by decide) e ?_
  repeat' (first
    | (show _ = _; exact rfl)
    | with_reducible exact Fr.refl _ _ _
    | with_reducible assumption
    | with_reducible apply Block.ifFn_fr
    | with_reducible apply Block.qCmd_fr
    | (intro _ _ h)
    | (intro _ h)
    | dsimp only)

theorem qcmdDisable : ∀ x0 x1, Statement (.qcmdDisable x0 x1) := by
  intro x0 x1 s t h
  have e : execQcmdDisable x0 x1 s = .next t := h
  unfold execQcmdDisable at e
  refine of_fr (m := 0x400000490010008020000000000000000000000000000001ffe14000020000004018008000060008000307ef9f800000f00004000000f0800) (q := 0x7406c57c6) (fs := dataFields) (ps := [.freeCtr, .nextId, .xlb, .tth, .links, .fns, .queues, .groups, .pow, .jobs, .ats, .parked, .gated, .out, .wire, .loomBack, .xings]) rfl rfl dataFields_mask (by decide) e ?_
  repeat' (first
    | (show _ = _; exact rfl)
    | with_reducible exact Fr.refl _ _ _
    | with_reducible assumption
    | with_reducible apply Block.ifFn_fr
    | with_reducible apply Block.qCmd_fr
    | (intro _ _ h)
    | (intro _ h)
    | dsimp only)

theorem qcmdPause : ∀ x0 x1, Statement (.qcmdPause x0 x1) := by
  intro x0 x1 s t h
  have e : execQcmdPause x0 x1 s = .next t := h
  unfold execQcmdPause at e
  refine of_fr (m := 0x400000490010008020000000000000000000000000000001ffe14000020000004018008000060008000307ef9f800000f00004000000f0800) (q := 0x7406c57c6) (fs := dataFields) (ps := [.freeCtr, .nextId, .xlb, .tth, .links, .fns, .queues, .groups, .pow, .jobs, .ats, .parked, .gated, .out, .wire, .loomBack, .xings]) rfl rfl dataFields_mask (by decide) e ?_
  repeat' (first
    | (show _ = _; exact rfl)
    | with_reducible exact Fr.refl _ _ _
    | with_reducible assumption
    | with_reducible apply Block.ifFn_fr
    | with_reducible apply Block.qCmd_fr
    | (intro _ _ h)
    | (intro _ h)
    | dsimp only)

theorem qcmdResume : ∀ x0 x1, Statement (.qcmdResume x0 x1) := by
  intro x0 x1 s t h
  have e : execQcmdResume x0 x1 s = .next t := h
  unfold execQcmdResume at e
  refine of_fr (m := 0x400000490010008020000000000000000000000000000001ffe14000020000004018008000060008000307ef9f800000f00004000000f0800) (q := 0x7406c57c6) (fs := dataFields) (ps := [.freeCtr, .nextId, .xlb, .tth, .links, .fns, .queues, .groups, .pow, .jobs, .ats, .parked, .gated, .out, .wire, .loomBack, .xings]) rfl rfl dataFields_mask (by decide) e ?_
  repeat' (first
    | (show _ = _; exact rfl)
    | with_reducible exact Fr.refl _ _ _
    | with_reducible assumption
    | with_reducible apply Block.ifFn_fr
    | with_reducible apply Block.qCmd_fr
    | (intro _ _ h)
    | (intro _ h)
    | dsimp only)

theorem qcmdReset : ∀ x0 x1, Statement (.qcmdReset x0 x1) := by
  intro x0 x1 s t h
  have e : execQcmdReset x0 x1 s = .next t := h
  unfold execQcmdReset at e
  refine of_fr (m := 0x400000490010008020000000000000000000000000000001ffe14000020000004018008000060008000307ef9f800000f00004000000f0800) (q := 0x7406c57c6) (fs := dataFields) (ps := [.freeCtr, .nextId, .xlb, .tth, .links, .fns, .queues, .groups, .pow, .jobs, .ats, .parked, .gated, .out, .wire, .loomBack, .xings]) rfl rfl dataFields_mask (by decide) e ?_
  repeat' (first
    | (show _ = _; exact rfl)
    | with_reducible exact Fr.refl _ _ _
    | with_reducible assumption
    | with_reducible apply Block.ifFn_fr
    | with_reducible apply Block.qCmd_fr
    | (intro _ _ h)
    | (intro _ h)
    | dsimp only)

theorem queueResetDone : ∀ x0 x1, Statement (.queueResetDone x0 x1) := by
  intro x0 x1 s t h
  have e : execQueueResetDone x0 x1 s = .next t := h
  unfold execQueueResetDone at e
  refine of_fr (m := 0x40000000000000000000000000000000000000000000000000000000000000000000000000000000000007ff9ffc000000000000000000000) (q := 0x400) (fs := queueResetFields) (ps := [.queues]) rfl rfl queueResetFields_mask (by decide) e ?_
  repeat' (first
    | (show _ = _; exact rfl)
    | with_reducible exact Fr.refl _ _ _
    | with_reducible assumption
    | with_reducible apply Block.qResetEnd_fr
    | dsimp only)

theorem queuePaused : ∀ x0 x1, Statement (.queuePaused x0 x1) := by
  intro x0 x1 s t h
  have e : execQueuePaused x0 x1 s = .next t := h
  unfold execQueuePaused at e
  refine of_fr (m := 0x40000000000000800000000000000000000000000000000000000000020000004018008000020000000300000080000000000000000000000) (q := 0x5400057c0) (fs := [.qState, .evtEvtFull, .evtProd, .srcState, .gstClkreq, .lnkLtssm, .lnkL1sub, .lnkCntRecovery, .psTxDoze, .cfgPmeSts, .qLastWb]) (ps := [.xlb, .tth, .links, .fns, .queues, .groups, .pow, .out, .wire, .xings]) rfl rfl (by decide) (by decide) e ?_
  repeat' (first
    | (show _ = _; exact rfl)
    | with_reducible exact Fr.refl _ _ _
    | with_reducible assumption
    | with_reducible apply Block.qPaused_fr
    | dsimp only)

theorem queueDrainEnd : ∀ x0 x1, Statement (.queueDrainEnd x0 x1) := by
  intro x0 x1 s t h
  have e : execQueueDrainEnd x0 x1 s = .next t := h
  unfold execQueueDrainEnd at e
  refine of_fr (m := 0x40000000000000800000000000000000000000000000000000000000020000004018008000020000000301ee0d80000000000000000000000) (q := 0x5400057c6) (fs := queueDrainFields) (ps := [.freeCtr, .nextId, .xlb, .tth, .links, .fns, .queues, .groups, .pow, .out, .wire, .xings]) rfl rfl queueDrainFields_mask (by decide) e ?_
  repeat' (first
    | (show _ = _; exact rfl)
    | with_reducible exact Fr.refl _ _ _
    | with_reducible assumption
    | with_reducible apply Block.qDrained_fr
    | dsimp only)

theorem shtQheadWrite : ∀ x0 x1 x2, Statement (.shtQheadWrite x0 x1 x2) := by
  intro x0 x1 x2 s t h
  have e : execShtQheadWrite x0 x1 x2 s = .next t := h
  unfold execShtQheadWrite at e
  refine of_fr (m := 0x400000490010008020000000000000000000000000000001ffe140000000000000000000000600000000000f8000000000000000000000000) (q := 0x40001600) (fs := queueHeadFields) (ps := [.fns, .queues, .groups, .out]) rfl rfl queueHeadFields_mask (by decide) e ?_
  repeat' (first
    | (show _ = _; exact rfl)
    | with_reducible exact Fr.refl _ _ _
    | with_reducible assumption
    | with_reducible apply Block.ifFn_fr
    | with_reducible apply Block.qHeadWrite_fr
    | (intro _ _ h)
    | (intro _ h)
    | dsimp only)

theorem queueContextWrite : ∀ x0 x1 x2 x3, Statement (.queueContextWrite x0 x1 x2 x3) := by
  intro x0 x1 x2 x3 s t h
  have e : execQueueContextWrite x0 x1 x2 x3 s = .next t := h
  unfold execQueueContextWrite at e
  refine of_fr (m := 0x490010008020000000000000000000000000000001ffe14000000000000000000000060000000000008003fc0000000000000000000) (q := 0x40001600) (fs := queueContextFields) (ps := [.fns, .queues, .groups, .out]) rfl rfl queueContextFields_mask (by decide) e ?_
  repeat' (first
    | (show _ = _; exact rfl)
    | with_reducible exact Fr.refl _ _ _
    | with_reducible assumption
    | with_reducible apply Block.ifFn_fr
    | with_reducible apply Block.qCtxWrite_fr
    | (intro _ _ h)
    | (intro _ h)
    | dsimp only)

theorem fetchTimeout : ∀ x0 x1, Statement (.fetchTimeout x0 x1) := by
  intro x0 x1 s t h
  have e : execFetchTimeout x0 x1 s = .next t := h
  unfold execFetchTimeout at e
  refine of_fr (m := 0x400000490010008020000000000000000000000000000001ffe14000020000004018008000060000000301e00180000000000000000000000) (q := 0x7400057c2) (fs := completionFields) (ps := [.freeCtr, .xlb, .tth, .links, .fns, .queues, .groups, .pow, .out, .wire, .loomBack, .xings]) rfl rfl completionFields_mask (by decide) e ?_
  repeat' (first
    | (show _ = _; exact rfl)
    | with_reducible exact Fr.refl _ _ _
    | with_reducible assumption
    | with_reducible apply Block.fetchTmo_fr
    | dsimp only)

theorem shuttleMoveDone : ∀ x0, Statement (.shuttleMoveDone x0) := by
  intro x0 s t h
  have e : execShuttleMoveDone x0 s = .next t := h
  unfold execShuttleMoveDone at e
  refine of_fr (m := 0x400000490010008020000070780400000000000780000001ffed67e40200000bf01800800006c008000307ef9f83fc00f00004000000f0800) (q := 0x7416c57c6) (fs := shuttleMoveFields) (ps := [.freeCtr, .nextId, .xlb, .tth, .links, .fns, .queues, .groups, .pow, .jobs, .ats, .parked, .gated, .moves, .out, .wire, .loomBack, .xings]) rfl rfl shuttleMoveFields_mask (by decide) e ?_
  repeat' (first
    | (show _ = _; exact rfl)
    | with_reducible exact Fr.refl _ _ _
    | with_reducible assumption
    | with_reducible apply Block.moveDone_fr
    | dsimp only)

theorem shuttlePark : ∀ x0, Statement (.shuttlePark x0) := by
  intro x0 s t h
  have e : execShuttlePark x0 s = .next t := h
  unfold execShuttlePark at e
  refine of_fr (m := 0x0) (q := 0x600000) (fs := []) (ps := [.parked, .gated]) rfl rfl (by decide) (by decide) e ?_
  repeat' (first
    | (show _ = _; exact rfl)
    | with_reducible exact Fr.refl _ _ _
    | with_reducible assumption
    | with_reducible apply Block.park_fr
    | dsimp only)

theorem evtCtrlWrite : ∀ x0 x1, Statement (.evtCtrlWrite x0 x1) := by
  intro x0 x1 s t h
  have e : execEvtCtrlWrite x0 x1 s = .next t := h
  unfold execEvtCtrlWrite at e
  refine of_fr (m := 0x800000000000000000000000000000000000000000020000004018008000020000000360000000000000000000000000000) (q := 0x5400053c0) (fs := [.evtEn, .evtLog2, .evtEvtFull, .evtProd, .srcState, .gstClkreq, .lnkLtssm, .lnkL1sub, .lnkCntRecovery, .psTxDoze, .cfgPmeSts]) (ps := [.xlb, .tth, .links, .fns, .groups, .pow, .out, .wire, .xings]) rfl rfl (by decide) (by decide) e ?_
  repeat' (first
    | (show _ = _; exact rfl)
    | with_reducible exact Fr.refl _ _ _
    | with_reducible assumption
    | with_reducible apply Block.evtCtrl_fr
    | with_reducible apply Block.ifFn_fr
    | (intro _ _ h)
    | (intro _ h)
    | dsimp only)

theorem evtConsWrite : ∀ x0 x1, Statement (.evtConsWrite x0 x1) := by
  intro x0 x1 s t h
  have e : execEvtConsWrite x0 x1 s = .next t := h
  unfold execEvtConsWrite at e
  refine of_fr (m := 0x490010008020000000000000000000000000000001ffe14000020000004018008000060000000700000000000000000000000000000) (q := 0x5400053c0) (fs := evtConsFields) (ps := [.xlb, .tth, .links, .fns, .groups, .pow, .out, .wire, .xings]) rfl rfl evtConsFields_mask (by decide) e ?_
  repeat' (first
    | (show _ = _; exact rfl)
    | with_reducible exact Fr.refl _ _ _
    | with_reducible assumption
    | with_reducible apply Block.evtConsW_fr
    | with_reducible apply Block.ifFn_fr
    | (intro _ _ h)
    | (intro _ h)
    | dsimp only)

theorem weaveLoad : ∀ x0 x1, Statement (.weaveLoad x0 x1) := by
  intro x0 x1 s t h
  have e : execWeaveLoad x0 x1 s = .next t := h
  unfold execWeaveLoad at e
  refine of_fr (m := 0x490010008020000000000000000000000000000001ffe1400002000000000000000006000000c000000000000040000000000040000) (q := 0x40001204) (fs := logFields) (ps := [.nextId, .fns, .groups, .out]) rfl rfl logFields_mask (by decide) e ?_
  repeat' (first
    | (show _ = _; exact rfl)
    | with_reducible exact Fr.refl _ _ _
    | with_reducible assumption
    | with_reducible apply Block.ifFn_fr
    | with_reducible apply Block.weaveOp_fr
    | (intro _ _ h)
    | (intro _ h)
    | dsimp only)

theorem weaveClear : ∀ x0 x1, Statement (.weaveClear x0 x1) := by
  intro x0 x1 s t h
  have e : execWeaveClear x0 x1 s = .next t := h
  unfold execWeaveClear at e
  refine of_fr (m := 0x490010008020000000000000000000000000000001ffe1400002000000000000000006000000c000000000000040000000000040000) (q := 0x40001204) (fs := logFields) (ps := [.nextId, .fns, .groups, .out]) rfl rfl logFields_mask (by decide) e ?_
  repeat' (first
    | (show _ = _; exact rfl)
    | with_reducible exact Fr.refl _ _ _
    | with_reducible assumption
    | with_reducible apply Block.ifFn_fr
    | with_reducible apply Block.weaveOp_fr
    | (intro _ _ h)
    | (intro _ h)
    | dsimp only)

theorem weaveCmdDone : ∀ x0, Statement (.weaveCmdDone x0) := by
  intro x0 s t h
  have e : execWeaveCmdDone x0 s = .next t := h
  unfold execWeaveCmdDone at e
  refine of_fr (m := 0x40838049001020bf22400020484000000000000000000801ffe14000020000004018008000060008414301e00d800000f0000400000080800) (q := 0x7406c57c6) (fs := masteringFields) (ps := [.freeCtr, .nextId, .xlb, .tth, .links, .fns, .queues, .groups, .pow, .jobs, .ats, .parked, .gated, .out, .wire, .loomBack, .xings]) rfl rfl masteringFields_mask (by decide) e ?_
  repeat' (first
    | (show _ = _; exact rfl)
    | with_reducible exact Fr.refl _ _ _
    | with_reducible assumption
    | with_reducible apply Block.weaveDone_fr
    | dsimp only)

theorem spurSelect : ∀ x0, Statement (.spurSelect x0) := by
  intro x0 s t h
  have e : execSpurSelect x0 s = .next t := h
  unfold execSpurSelect at e
  refine of_fr (m := 0x8c000000000000000000000000000000000000000000000000000000000000000000000000024000000000000000000000000000000000000) (q := 0x0) (fs := [.spCntPreempt, .srcState, .selSrc, .selTgt, .selVec]) (ps := []) rfl rfl (by decide) (by decide) e ?_
  repeat' (first
    | (show _ = _; exact rfl)
    | with_reducible exact Fr.refl _ _ _
    | with_reducible assumption
    | with_reducible apply Block.spurRound_fr
    | dsimp only)

theorem spurIssueCommit : ∀ x0, Statement (.spurIssueCommit x0) := by
  intro x0 s t h
  have e : execSpurIssueCommit x0 s = .next t := h
  unfold execSpurIssueCommit at e
  refine of_fr (m := 0x20000040000000000000000000000000000000000000000000004018008000360004000000000000000000000000000000000) (q := 0x440005100) (fs := [.spRotate, .srcState, .srcLatch, .srcNextTgt, .srcLastVec, .gstClkreq, .lnkLtssm, .lnkL1sub, .lnkCntRecovery, .msixPend, .cfgMsiPend]) (ps := [.links, .groups, .pow, .out, .xings]) rfl rfl (by decide) (by decide) e ?_
  repeat' (first
    | (show _ = _; exact rfl)
    | with_reducible exact Fr.refl _ _ _
    | with_reducible assumption
    | with_reducible apply Block.spurCommit_fr
    | dsimp only)

theorem spurMaskSet : ∀ x0 x1, Statement (.spurMaskSet x0 x1) := by
  intro x0 x1 s t h
  have e : execSpurMaskSet x0 x1 s = .next t := h
  unfold execSpurMaskSet at e
  refine of_fr (m := 0x20040000000000000000000000000000000000) (q := 0x0) (fs := [.spMask, .srcState]) (ps := []) rfl rfl (by decide) (by decide) e ?_
  repeat' (first
    | (show _ = _; exact rfl)
    | with_reducible exact Fr.refl _ _ _
    | with_reducible assumption
    | with_reducible apply Block.ifFn_fr
    | with_reducible apply Block.spurMaskOn_fr
    | (intro _ _ h)
    | (intro _ h)
    | dsimp only)

theorem spurMaskClr : ∀ x0 x1, Statement (.spurMaskClr x0 x1) := by
  intro x0 x1 s t h
  have e : execSpurMaskClr x0 x1 s = .next t := h
  unfold execSpurMaskClr at e
  refine of_fr (m := 0x40000000000000000000000000000000000) (q := 0x0) (fs := [.spMask]) (ps := []) rfl rfl (by decide) (by decide) e ?_
  repeat' (first
    | (show _ = _; exact rfl)
    | with_reducible exact Fr.refl _ _ _
    | with_reducible assumption
    | with_reducible apply Fr.clrBits
    | with_reducible apply Block.ifFn_fr
    | (intro _ _ h)
    | (intro _ h)
    | dsimp only)

theorem spurPendSet : ∀ x0 x1, Statement (.spurPendSet x0 x1) := by
  intro x0 x1 s t h
  have e : execSpurPendSet x0 x1 s = .next t := h
  unfold execSpurPendSet at e
  refine of_fr (m := 0x800000000000000000000000000000000000000000000000000000000000060000000000000000000000000000000000000) (q := 0x40001200) (fs := [.srcState, .srcLatch, .cfgPmeSts]) (ps := [.fns, .groups, .out]) rfl rfl (by decide) (by decide) e ?_
  repeat' (first
    | (show _ = _; exact rfl)
    | with_reducible exact Fr.refl _ _ _
    | with_reducible assumption
    | with_reducible apply Fr.each
    | with_reducible apply Block.ifFn_fr
    | with_reducible apply Block.raise_fr
    | (intro _ _ h)
    | (intro _ h)
    | dsimp only)

theorem spurPendClr : ∀ x0 x1, Statement (.spurPendClr x0 x1) := by
  intro x0 x1 s t h
  have e : execSpurPendClr x0 x1 s = .next t := h
  unfold execSpurPendClr at e
  refine of_fr (m := 0x800000000000000000000000000000000000000000000000000000000000060000000000000000000000000000000000000) (q := 0x40001200) (fs := [.srcState, .srcLatch, .cfgPmeSts]) (ps := [.fns, .groups, .out]) rfl rfl (by decide) (by decide) e ?_
  repeat' (first
    | (show _ = _; exact rfl)
    | with_reducible exact Fr.refl _ _ _
    | with_reducible assumption
    | with_reducible apply Block.ifFn_fr
    | with_reducible apply Block.spurPendOff_fr
    | (intro _ _ h)
    | (intro _ h)
    | dsimp only)

theorem spurEoi : ∀ x0 x1, Statement (.spurEoi x0 x1) := by
  intro x0 x1 s t h
  have e : execSpurEoi x0 x1 s = .next t := h
  unfold execSpurEoi at e
  refine of_fr (m := 0x8000000000000000000000000000000000000) (q := 0x200) (fs := [.spCntStrayEoi]) (ps := [.fns]) rfl rfl (by decide) (by decide) e ?_
  repeat' (first
    | (show _ = _; exact rfl)
    | with_reducible exact Fr.refl _ _ _
    | with_reducible assumption
    | with_reducible apply Block.ifFn_fr
    | with_reducible apply Block.spurEoiW_fr
    | (intro _ _ h)
    | (intro _ h)
    | dsimp only)

theorem spurResample : ∀ x0 x1, Statement (.spurResample x0 x1) := by
  intro x0 x1 s t h
  have e : execSpurResample x0 x1 s = .next t := h
  unfold execSpurResample at e
  refine of_fr (m := 0x20000000000000000000000000000000000000) (q := 0x40000300) (fs := [.srcState]) (ps := [.links, .fns, .out]) rfl rfl (by decide) (by decide) e ?_
  repeat' (first
    | (show _ = _; exact rfl)
    | with_reducible exact Fr.refl _ _ _
    | with_reducible assumption
    | with_reducible apply Block.spurResampleS_fr
    | dsimp only)

theorem spurSrcCfgWrite : ∀ x0 x1 x2, Statement (.spurSrcCfgWrite x0 x1 x2) := by
  intro x0 x1 x2 s t h
  have e : execSpurSrcCfgWrite x0 x1 x2 s = .next t := h
  unfold execSpurSrcCfgWrite at e
  refine of_fr (m := 0x1800000000000000000000000000000000000000000000000000000030000000000000000000000000000000000000) (q := 0x0) (fs := [.srcPrio, .srcState, .tgtVec, .tgtEn]) (ps := []) rfl rfl (by decide) (by decide) e ?_
  repeat' (first
    | (show _ = _; exact rfl)
    | with_reducible exact Fr.refl _ _ _
    | with_reducible assumption
    | with_reducible apply Block.ifFn_fr
    | with_reducible apply Block.spurCfgW_fr
    | (intro _ _ h)
    | (intro _ h)
    | dsimp only)

theorem intxSpacingExpiry : ∀ x0 x1, Statement (.intxSpacingExpiry x0 x1) := by
  intro x0 x1 s t h
  have e : execIntxSpacingExpiry x0 x1 s = .next t := h
  unfold execIntxSpacingExpiry at e
  refine of_fr (m := 0x0) (q := 0x40000100) (fs := []) (ps := [.links, .out]) rfl rfl (by decide) (by decide) e ?_
  repeat' (first
    | (show _ = _; exact rfl)
    | with_reducible exact Fr.refl _ _ _
    | with_reducible assumption
    | with_reducible apply Block.intxSpaced_fr
    | dsimp only)

theorem reinsPeriodExpiry : ∀ x0, Statement (.reinsPeriodExpiry x0) := by
  intro x0 s t h
  have e : execReinsPeriodExpiry x0 s = .next t := h
  unfold execReinsPeriodExpiry at e
  refine of_fr (m := 0x30000000000000800000000000000000000000000000000000000000000000000000000000060000000000000000000000000000000000000) (q := 0x40001200) (fs := [.srcState, .srcLatch, .cfgPmeSts, .lastRein, .reinWait]) (ps := [.fns, .groups, .out]) rfl rfl (by decide) (by decide) e ?_
  repeat' (first
    | (show _ = _; exact rfl)
    | with_reducible exact Fr.refl _ _ _
    | with_reducible assumption
    | with_reducible apply Block.reinPeriod_fr
    | dsimp only)

theorem lockstepMismatch : ∀ x0 x1, Statement (.lockstepMismatch x0 x1) := by
  intro x0 x1 s t h
  have e : execLockstepMismatch x0 x1 s = .next t := h
  unfold execLockstepMismatch at e
  refine of_fr (m := 0x60000000000000000000000000000000000000000000000000000000000000000000000000000000000000) (q := 0x4010000) (fs := [.coreServices, .coreTakeovers]) (ps := [.stums, .grm]) rfl rfl (by decide) (by decide) e ?_
  repeat' (first
    | (show _ = _; exact rfl)
    | with_reducible exact Fr.refl _ _ _
    | with_reducible assumption
    | with_reducible apply Block.pairStop_fr
    | dsimp only)

theorem groomWatchdogExpiry : ∀ x0 x1, Statement (.groomWatchdogExpiry x0 x1) := by
  intro x0 x1 s t h
  have e : execGroomWatchdogExpiry x0 x1 s = .next t := h
  unfold execGroomWatchdogExpiry at e
  refine of_fr (m := 0x20060000000000000000000000000000000000000000000000000000000000000000000000000000000000000) (q := 0x4010000) (fs := [.coreServices, .coreTakeovers, .svcCntWdt]) (ps := [.stums, .grm]) rfl rfl (by decide) (by decide) e ?_
  repeat' (first
    | (show _ = _; exact rfl)
    | with_reducible exact Fr.refl _ _ _
    | with_reducible assumption
    | with_reducible apply Fr.incSat
    | with_reducible apply Block.pairStop_fr
    | with_reducible apply Fr.ite
    | split
    | dsimp only)

theorem groomTakeoverDone : Statement .groomTakeoverDone := by
  intro s t h
  have e : execGroomTakeoverDone s = .next t := h
  unfold execGroomTakeoverDone at e
  refine of_full (m := 0xffffffffffffffffffffffffffffffffffffffffffffffffffffffffffffffffffffffffffffffffffffffffffffffffffffffffffffffffffffffffffffffff) (q := 0x6effffff1) (ps := [.time, .img, .sg, .xlb, .tth, .links, .fns, .queues, .pins, .groups, .slots, .pow, .loom, .stums, .fuses, .jobs, .ats, .buckets, .parked, .gated, .lameSh, .moves, .boot, .grm, .halt, .refs, .out, .shutRot, .loomBack, .xings]) rfl rfl (by decide) e ?_
  repeat' (first
    | (show _ = _; exact rfl)
    | with_reducible exact Fr.refl _ _ _
    | with_reducible assumption
    | with_reducible apply Block.takeover_fr
    | dsimp only)

theorem groomFrame : ∀ x0 x1 x2 x3, Statement (.groomFrame x0 x1 x2 x3) := by
  intro x0 x1 x2 x3 s t h
  have e : execGroomFrame x0 x1 x2 x3 s = .next t := h
  unfold execGroomFrame at e
  refine of_fr (m := 0x10780000000000000000000000000000000000000000000000000000000000000000000000000000000000000) (q := 0x4000000) (fs := [.loadPtPct, .loadFhPct, .loadBePct, .loadShed, .svcCntSheds]) (ps := [.grm]) rfl rfl (by decide) (by decide) e ?_
  repeat' (first
    | (show _ = _; exact rfl)
    | with_reducible exact Fr.refl _ _ _
    | with_reducible assumption
    | with_reducible apply Block.frame_fr
    | dsimp only)

theorem telemetryPeriodExpiry : ∀ x0 x1 x2, Statement (.telemetryPeriodExpiry x0 x1 x2) := by
  intro x0 x1 x2 s t h
  have e : execTelemetryPeriodExpiry x0 x1 x2 s = .next t := h
  unfold execTelemetryPeriodExpiry at e
  refine of_fr (m := 0x4c00000000000000000000000000000000000000000000000000000000000000000000000) (q := 0x4000000) (fs := [.telVinMv, .telIin, .thmTjMax]) (ps := [.grm]) rfl rfl (by decide) (by decide) e ?_
  repeat' (first
    | (show _ = _; exact rfl)
    | with_reducible exact Fr.refl _ _ _
    | with_reducible assumption
    | with_reducible apply Block.telemetry_fr
    | dsimp only)

theorem stallGroupsSectionArrival : ∀ x0 x1, Statement (.stallGroupsSectionArrival x0 x1) := by
  intro x0 x1 s t h
  have e : execStallGroupsSectionArrival x0 x1 s = .next t := h
  unfold execStallGroupsSectionArrival at e
  refine of_full (m := 0xffffffffffffffffffffffffffffffffffffffffffffffffffffffffffffffffffffffffffffffffffffffffffffffffffffffffffffffffffffffffffffffff) (q := 0x8001020) (ps := [.sg, .groups, .halt]) rfl rfl (by decide) e ?_
  repeat' (first
    | (show _ = _; exact rfl)
    | with_reducible exact Fr.refl _ _ _
    | with_reducible assumption
    | with_reducible apply Block.groupsIn_fr
    | dsimp only)

theorem imageCopyCheck : ∀ x0 x1, Statement (.imageCopyCheck x0 x1) := by
  intro x0 x1 s t h
  have e : execImageCopyCheck x0 x1 s = .next t := h
  unfold execImageCopyCheck at e
  refine of_full (m := 0xffffffffffffffffffffffffffffffffffffffffffffffffffffffffffffffffffffffffffffffffffffffffffffffffffffffffffffffffffffffffffffffff) (q := 0x74a0c57e6) (ps := [.freeCtr, .nextId, .sg, .xlb, .tth, .links, .fns, .queues, .groups, .pow, .jobs, .ats, .boot, .halt, .out, .wire, .loomBack, .xings]) rfl rfl (by decide) e ?_
  repeat' (first
    | (show _ = _; exact rfl)
    | with_reducible exact Fr.refl _ _ _
    | with_reducible assumption
    | with_reducible apply Block.copyDone_fr
    | dsimp only)

theorem imageReady : Statement .imageReady := by
  intro s t h
  have e : execImageReady s = .next t := h
  unfold execImageReady at e
  refine of_full (m := 0xffffffffffffffffffffffffffffffffffffffffffffffffffffffffffffffffffffffffffffffffffffffffffffffffffffffffffffffffffffffffffffffff) (q := 0x74e5d77f6) (ps := [.freeCtr, .nextId, .img, .sg, .xlb, .tth, .links, .fns, .queues, .groups, .slots, .pow, .stums, .jobs, .ats, .buckets, .gated, .boot, .grm, .halt, .out, .wire, .loomBack, .xings]) rfl rfl (by decide) e ?_
  repeat' (first
    | (show _ = _; exact rfl)
    | with_reducible exact Fr.refl _ _ _
    | with_reducible assumption
    | with_reducible apply Block.ready_fr
    | dsimp only)

theorem imageNotReadyTimeout : ∀ x0, Statement (.imageNotReadyTimeout x0) := by
  intro x0 s t h
  have e : execImageNotReadyTimeout x0 s = .next t := h
  unfold execImageNotReadyTimeout at e
  refine of_fr (m := 0xffffffffffffffbffff9ffc100020000000f800041000001fff1e311a6d80037cfffefc00db7fffff3ffffff9ffffefcffc00580000080c00) (q := 0x7400c57c6) (fs := linkDownFields) (ps := [.freeCtr, .nextId, .xlb, .tth, .links, .fns, .queues, .groups, .pow, .jobs, .ats, .out, .wire, .loomBack, .xings]) rfl rfl linkDownFields_mask (by decide) e ?_
  repeat' (first
    | (show _ = _; exact rfl)
    | with_reducible exact Fr.refl _ _ _
    | with_reducible assumption
    | with_reducible apply Block.imageLate_fr
    | dsimp only)

theorem svnCommit : Statement .svnCommit := by
  intro s t h
  have e : execSvnCommit s = .next t := h
  unfold execSvnCommit at e
  refine of_fr (m := 0x0) (q := 0x20000) (fs := []) (ps := [.fuses]) rfl rfl (by decide) (by decide) e ?_
  repeat' (first
    | (show _ = _; exact rfl)
    | with_reducible exact Fr.refl _ _ _
    | with_reducible assumption
    | with_reducible apply Block.svnAdvance_fr
    | dsimp only)

theorem imageActivation : ∀ x0, Statement (.imageActivation x0) := by
  intro x0 s t h
  have e : execImageActivation x0 s = .next t := h
  unfold execImageActivation at e
  refine of_full (m := 0xffffffffffffffffffffffffffffffffffffffffffffffffffffffffffffffffffffffffffffffffffffffffffffffffffffffffffffffffffffffffffffffff) (q := 0x2affdfff1) (ps := [.time, .img, .sg, .xlb, .tth, .links, .fns, .queues, .pins, .groups, .slots, .pow, .loom, .stums, .jobs, .ats, .buckets, .parked, .gated, .lameSh, .moves, .boot, .grm, .halt, .refs, .shutRot, .loomBack]) rfl rfl (by decide) e ?_
  repeat' (first
    | (show _ = _; exact rfl)
    | with_reducible exact Fr.refl _ _ _
    | with_reducible assumption
    | with_reducible apply Block.activate_fr
    | dsimp only)

theorem pldmTransfer : ∀ x0 x1 x2 x3, Statement (.pldmTransfer x0 x1 x2 x3) := by
  intro x0 x1 x2 x3 s t h
  have e : execPldmTransfer x0 x1 x2 x3 s = .next t := h
  unfold execPldmTransfer at e
  refine of_full (m := 0xffffffffffffffffffffffffffffffffffffffffffffffffffffffffffffffffffffffffffffffffffffffffffffffffffffffffffffffffffffffffffffffff) (q := 0x6effffff1) (ps := [.time, .img, .sg, .xlb, .tth, .links, .fns, .queues, .pins, .groups, .slots, .pow, .loom, .stums, .fuses, .jobs, .ats, .buckets, .parked, .gated, .lameSh, .moves, .boot, .grm, .halt, .refs, .out, .shutRot, .loomBack, .xings]) rfl rfl (by decide) e ?_
  repeat' (first
    | (show _ = _; exact rfl)
    | with_reducible exact Fr.refl _ _ _
    | with_reducible assumption
    | with_reducible apply Block.pldm_fr
    | dsimp only)

theorem pldmUpdateIdleExpiry : Statement .pldmUpdateIdleExpiry := by
  intro s t h
  have e : execPldmUpdateIdleExpiry s = .next t := h
  unfold execPldmUpdateIdleExpiry at e
  refine of_full (m := 0xffffffffffffffffffffffffffffffffffffffffffffffffffffffffffffffffffffffffffffffffffffffffffffffffffffffffffffffffffffffffffffffff) (q := 0x2affdfff1) (ps := [.time, .img, .sg, .xlb, .tth, .links, .fns, .queues, .pins, .groups, .slots, .pow, .loom, .stums, .jobs, .ats, .buckets, .parked, .gated, .lameSh, .moves, .boot, .grm, .halt, .refs, .shutRot, .loomBack]) rfl rfl (by decide) e ?_
  repeat' (first
    | (show _ = _; exact rfl)
    | with_reducible exact Fr.refl _ _ _
    | with_reducible assumption
    | with_reducible apply Block.updateIdle_fr
    | dsimp only)

theorem deferredModuleReset : Statement .deferredModuleReset := by
  intro s t h
  have e : execDeferredModuleReset s = .next t := h
  unfold execDeferredModuleReset at e
  refine of_full (m := 0xffffffffffffffffffffffffffffffffffffffffffffffffffffffffffffffffffffffffffffffffffffffffffffffffffffffffffffffffffffffffffffffff) (q := 0x2affdfff1) (ps := [.time, .img, .sg, .xlb, .tth, .links, .fns, .queues, .pins, .groups, .slots, .pow, .loom, .stums, .jobs, .ats, .buckets, .parked, .gated, .lameSh, .moves, .boot, .grm, .halt, .refs, .shutRot, .loomBack]) rfl rfl (by decide) e ?_
  repeat' (first
    | (show _ = _; exact rfl)
    | with_reducible exact Fr.refl _ _ _
    | with_reducible assumption
    | with_reducible apply Block.deferredGo_fr
    | dsimp only)

theorem lmsTreeReady : Statement .lmsTreeReady := by
  intro s t h
  have e : execLmsTreeReady s = .next t := h
  unfold execLmsTreeReady at e
  refine of_fr (m := 0x200000000000000000000000000000000000000000000000000000000000000000000000000000000000) (q := 0x4000000) (fs := [.lmsReady]) (ps := [.grm]) rfl rfl (by decide) (by decide) e ?_
  repeat' (first
    | (show _ = _; exact rfl)
    | with_reducible exact Fr.refl _ _ _
    | with_reducible assumption
    | with_reducible apply Block.treeDone_fr
    | dsimp only)

theorem getVersion : ∀ x0, Statement (.getVersion x0) := by
  intro x0 s t h
  have e : execGetVersion x0 s = .next t := h
  unfold execGetVersion at e
  refine of_fr (m := 0x40002048400000000000000000080000000000000000004018008000000000000000000000000000000000000000000) (q := 0x444005300) (fs := [.gstClkreq, .lnkLtssm, .lnkL1sub, .lnkCntRecovery, .gaitCurrent, .loadShed, .svcCntBusy, .svcCntRefused, .haltCntDrop, .msixPend]) (ps := [.links, .fns, .groups, .pow, .grm, .out, .xings]) rfl rfl (by decide) (by decide) e ?_
  repeat' (first
    | (show _ = _; exact rfl)
    | with_reducible exact Fr.refl _ _ _
    | with_reducible assumption
    | with_reducible apply Block.connMod_fr
    | with_reducible apply Block.spdm_fr
    | with_reducible apply Block.spdmServe_fr
    | (intro _ _ h)
    | (intro _ h)
    | dsimp only)

theorem getCertificate : ∀ x0 x1 x2 x3, Statement (.getCertificate x0 x1 x2 x3) := by
  intro x0 x1 x2 x3 s t h
  have e : execGetCertificate x0 x1 x2 x3 s = .next t := h
  unfold execGetCertificate at e
  refine of_fr (m := 0x40002048400000000000000000080000000000000000004018008000000000000000000000000000000000000000000) (q := 0x444005300) (fs := [.gstClkreq, .lnkLtssm, .lnkL1sub, .lnkCntRecovery, .gaitCurrent, .loadShed, .svcCntBusy, .svcCntRefused, .haltCntDrop, .msixPend]) (ps := [.links, .fns, .groups, .pow, .grm, .out, .xings]) rfl rfl (by decide) (by decide) e ?_
  repeat' (first
    | (show _ = _; exact rfl)
    | with_reducible exact Fr.refl _ _ _
    | with_reducible assumption
    | with_reducible apply Block.getCert_fr
    | with_reducible apply Block.spdmServe_fr
    | (intro _ _ h)
    | (intro _ h)
    | dsimp only)

theorem challenge : ∀ x0 x1, Statement (.challenge x0 x1) := by
  intro x0 x1 s t h
  have e : execChallenge x0 x1 s = .next t := h
  unfold execChallenge at e
  refine of_fr (m := 0x40002048400000000000000000080000000000000000004018008000000000000000000000000000000000000000000) (q := 0x444005302) (fs := [.gstClkreq, .lnkLtssm, .lnkL1sub, .lnkCntRecovery, .gaitCurrent, .loadShed, .svcCntBusy, .svcCntRefused, .haltCntDrop, .msixPend]) (ps := [.freeCtr, .links, .fns, .groups, .pow, .grm, .out, .xings]) rfl rfl (by decide) (by decide) e ?_
  repeat' (first
    | (show _ = _; exact rfl)
    | with_reducible exact Fr.refl _ _ _
    | with_reducible assumption
    | with_reducible apply Block.signRsp_fr
    | with_reducible apply Block.spdm_fr
    | with_reducible apply Block.spdmServe_fr
    | with_reducible apply Fr.ite
    | (intro _ _ h)
    | (intro _ h)
    | split
    | dsimp only)

theorem getMeasurements : ∀ x0 x1, Statement (.getMeasurements x0 x1) := by
  intro x0 x1 s t h
  have e : execGetMeasurements x0 x1 s = .next t := h
  unfold execGetMeasurements at e
  refine of_fr (m := 0x40002048400000000000000000080000000000000000004018008000000000000000000000000000000000000000000) (q := 0x444005302) (fs := [.gstClkreq, .lnkLtssm, .lnkL1sub, .lnkCntRecovery, .gaitCurrent, .loadShed, .svcCntBusy, .svcCntRefused, .haltCntDrop, .msixPend]) (ps := [.freeCtr, .links, .fns, .groups, .pow, .grm, .out, .xings]) rfl rfl (by decide) (by decide) e ?_
  repeat' (first
    | (show _ = _; exact rfl)
    | with_reducible exact Fr.refl _ _ _
    | with_reducible assumption
    | with_reducible apply Block.getMeas_fr
    | with_reducible apply Block.spdmServe_fr
    | (intro _ _ h)
    | (intro _ h)
    | dsimp only)

theorem keyExchange : ∀ x0 x1, Statement (.keyExchange x0 x1) := by
  intro x0 x1 s t h
  have e : execKeyExchange x0 x1 s = .next t := h
  unfold execKeyExchange at e
  refine of_fr (m := 0x40002048400000000000000000080000000000000000004018008000000000000000000000000000000000000000000) (q := 0x444005306) (fs := [.gstClkreq, .lnkLtssm, .lnkL1sub, .lnkCntRecovery, .gaitCurrent, .loadShed, .svcCntBusy, .svcCntRefused, .haltCntDrop, .msixPend]) (ps := [.freeCtr, .nextId, .links, .fns, .groups, .pow, .grm, .out, .xings]) rfl rfl (by decide) (by decide) e ?_
  repeat' (first
    | (show _ = _; exact rfl)
    | with_reducible exact Fr.refl _ _ _
    | with_reducible assumption
    | with_reducible apply Block.keyEx_fr
    | with_reducible apply Block.spdmServe_fr
    | (intro _ _ h)
    | (intro _ h)
    | dsimp only)

theorem endSession : ∀ x0 x1, Statement (.endSession x0 x1) := by
  intro x0 x1 s t h
  have e : execEndSession x0 x1 s = .next t := h
  unfold execEndSession at e
  refine of_fr (m := 0x40002048400000000000000000080000000000000000004018008000000000000000000000000000000000000000000) (q := 0x444005300) (fs := [.gstClkreq, .lnkLtssm, .lnkL1sub, .lnkCntRecovery, .gaitCurrent, .loadShed, .svcCntBusy, .svcCntRefused, .haltCntDrop, .msixPend]) (ps := [.links, .fns, .groups, .pow, .grm, .out, .xings]) rfl rfl (by decide) (by decide) e ?_
  repeat' (first
    | (show _ = _; exact rfl)
    | with_reducible exact Fr.refl _ _ _
    | with_reducible assumption
    | with_reducible apply Block.gMod_fr
    | with_reducible apply Block.spdm_fr
    | with_reducible apply Block.spdmServe_fr
    | with_reducible apply Fr.ite
    | (intro _ _ h)
    | (intro _ h)
    | split
    | dsimp only
    | refine Fr.upd (by (repeat' apply And.intro) <;> first | exact Or.inl rfl | exact Or.inr rfl) ?_)

theorem countersign : ∀ x0, Statement (.countersign x0) := by
  intro x0 s t h
  have e : execCountersign x0 s = .next t := h
  unfold execCountersign at e
  refine of_fr (m := 0x40002048400600000000000000080000000000000000004018008000000000000000000000000000000000000000000) (q := 0x444025302) (fs := [.gstClkreq, .lnkLtssm, .lnkL1sub, .lnkCntRecovery, .gaitCurrent, .lmsReady, .lmsIndex, .loadShed, .svcCntBusy, .svcCntRefused, .haltCntDrop, .msixPend]) (ps := [.freeCtr, .links, .fns, .groups, .pow, .fuses, .grm, .out, .xings]) rfl rfl (by decide) (by decide) e ?_
  repeat' (first
    | (show _ = _; exact rfl)
    | with_reducible exact Fr.refl _ _ _
    | with_reducible assumption
    | with_reducible apply Block.counterSign_fr
    | with_reducible apply Block.spdmServe_fr
    | (intro _ _ h)
    | (intro _ h)
    | dsimp only)

theorem getHssChain : ∀ x0 x1 x2, Statement (.getHssChain x0 x1 x2) := by
  intro x0 x1 x2 s t h
  have e : execGetHssChain x0 x1 x2 s = .next t := h
  unfold execGetHssChain at e
  refine of_fr (m := 0x40002048400000000000000000080000000000000000004018008000000000000000000000000000000000000000000) (q := 0x444005300) (fs := [.gstClkreq, .lnkLtssm, .lnkL1sub, .lnkCntRecovery, .gaitCurrent, .loadShed, .svcCntBusy, .svcCntRefused, .haltCntDrop, .msixPend]) (ps := [.links, .fns, .groups, .pow, .grm, .out, .xings]) rfl rfl (by decide) (by decide) e ?_
  repeat' (first
    | (show _ = _; exact rfl)
    | with_reducible exact Fr.refl _ _ _
    | with_reducible assumption
    | with_reducible apply Block.spdm_fr
    | with_reducible apply Block.spdmServe_fr
    | with_reducible apply Fr.ite
    | (intro _ _ h)
    | (intro _ h)
    | split
    | dsimp only)

theorem getHssState : ∀ x0, Statement (.getHssState x0) := by
  intro x0 s t h
  have e : execGetHssState x0 s = .next t := h
  unfold execGetHssState at e
  refine of_fr (m := 0x40002048400000000000000000080000000000000000004018008000000000000000000000000000000000000000000) (q := 0x444005300) (fs := [.gstClkreq, .lnkLtssm, .lnkL1sub, .lnkCntRecovery, .gaitCurrent, .loadShed, .svcCntBusy, .svcCntRefused, .haltCntDrop, .msixPend]) (ps := [.links, .fns, .groups, .pow, .grm, .out, .xings]) rfl rfl (by decide) (by decide) e ?_
  repeat' (first
    | (show _ = _; exact rfl)
    | with_reducible exact Fr.refl _ _ _
    | with_reducible assumption
    | with_reducible apply Block.spdm_fr
    | with_reducible apply Block.spdmServe_fr
    | (intro _ _ h)
    | (intro _ h)
    | dsimp only)

theorem query : ∀ x0 x1 x2, Statement (.query x0 x1 x2) := by
  intro x0 x1 x2 s t h
  have e : execQuery x0 x1 x2 s = .next t := h
  unfold execQuery at e
  refine of_fr (m := 0x40002048400000000000000000080000000000000000004018008000000000000000000000000000000000000000000) (q := 0x444005300) (fs := [.gstClkreq, .lnkLtssm, .lnkL1sub, .lnkCntRecovery, .gaitCurrent, .loadShed, .svcCntBusy, .svcCntRefused, .haltCntDrop, .msixPend]) (ps := [.links, .fns, .groups, .pow, .grm, .out, .xings]) rfl rfl (by decide) (by decide) e ?_
  repeat' (first
    | (show _ = _; exact rfl)
    | with_reducible exact Fr.refl _ _ _
    | with_reducible assumption
    | with_reducible apply Block.ideQuery_fr
    | with_reducible apply Block.kmServe_fr
    | (intro _ _ h)
    | (intro _ h)
    | dsimp only)

theorem keyProg : ∀ x0 x1 x2 x3 x4 x5 x6, Statement (.keyProg x0 x1 x2 x3 x4 x5 x6) := by
  intro x0 x1 x2 x3 x4 x5 x6 s t h
  have e : execKeyProg x0 x1 x2 x3 x4 x5 x6 s = .next t := h
  unfold execKeyProg at e
  refine of_fr (m := 0x40002048400000000000000000080000000000000000004018008000000000000000000000000000000000000000000) (q := 0x444005300) (fs := [.gstClkreq, .lnkLtssm, .lnkL1sub, .lnkCntRecovery, .gaitCurrent, .loadShed, .svcCntBusy, .svcCntRefused, .haltCntDrop, .msixPend]) (ps := [.links, .fns, .groups, .pow, .grm, .out, .xings]) rfl rfl (by decide) (by decide) e ?_
  repeat' (first
    | (show _ = _; exact rfl)
    | with_reducible exact Fr.refl _ _ _
    | with_reducible assumption
    | with_reducible apply Block.keyProg_fr
    | with_reducible apply Block.kmServe_fr
    | (intro _ _ h)
    | (intro _ h)
    | dsimp only)

theorem kSetGo : ∀ x0 x1 x2 x3 x4 x5 x6, Statement (.kSetGo x0 x1 x2 x3 x4 x5 x6) := by
  intro x0 x1 x2 x3 x4 x5 x6 s t h
  have e : execKSetGo x0 x1 x2 x3 x4 x5 x6 s = .next t := h
  unfold execKSetGo at e
  refine of_fr (m := 0x20000040002048400000000000000000080000000000000000004018008000000000000000000000000000000000000000000) (q := 0x444005302) (fs := [.gstClkreq, .lnkLtssm, .lnkL1sub, .lnkCntRecovery, .gaitCurrent, .loadShed, .svcCntBusy, .svcCntRefused, .haltCntDrop, .msixPend, .cfgMsiPend]) (ps := [.freeCtr, .links, .fns, .groups, .pow, .grm, .out, .xings]) rfl rfl (by decide) (by decide) e ?_
  repeat' (first
    | (show _ = _; exact rfl)
    | with_reducible exact Fr.refl _ _ _
    | with_reducible assumption
    | with_reducible apply Block.keyGo_fr
    | with_reducible apply Block.kmServe_fr
    | (intro _ _ h)
    | (intro _ h)
    | dsimp only)

theorem kSetStop : ∀ x0 x1 x2 x3 x4 x5 x6, Statement (.kSetStop x0 x1 x2 x3 x4 x5 x6) := by
  intro x0 x1 x2 x3 x4 x5 x6 s t h
  have e : execKSetStop x0 x1 x2 x3 x4 x5 x6 s = .next t := h
  unfold execKSetStop at e
  refine of_fr (m := 0x40838049001020bf22400020484000000000000000000801ffe14000020000004018008000060008414301e00d800000f0000400000080800) (q := 0x7446c57c6) (fs := masteringFields) (ps := [.freeCtr, .nextId, .xlb, .tth, .links, .fns, .queues, .groups, .pow, .jobs, .ats, .parked, .gated, .grm, .out, .wire, .loomBack, .xings]) rfl rfl masteringFields_mask (by decide) e ?_
  repeat' (first
    | (show _ = _; exact rfl)
    | with_reducible exact Fr.refl _ _ _
    | with_reducible assumption
    | with_reducible apply Block.keyStop_fr
    | with_reducible apply Block.kmServe_fr
    | (intro _ _ h)
    | (intro _ h)
    | dsimp only)

theorem lockInterfaceRequest : ∀ x0 x1 x2, Statement (.lockInterfaceRequest x0 x1 x2) := by
  intro x0 x1 x2 s t h
  have e : execLockInterfaceRequest x0 x1 x2 s = .next t := h
  unfold execLockInterfaceRequest at e
  refine of_fr (m := 0x3800000000000000040002048400000000000000000080000000000000000004018008000000000000000000000000000000000000000000) (q := 0x444005300) (fs := [.gstClkreq, .lnkLtssm, .lnkL1sub, .lnkCntRecovery, .gaitCurrent, .loadShed, .svcCntBusy, .svcCntRefused, .haltCntDrop, .msixPend, .tdiState, .tdiIdent, .tdiIdrev]) (ps := [.links, .fns, .groups, .pow, .grm, .out, .xings]) rfl rfl (by decide) (by decide) e ?_
  repeat' (first
    | (show _ = _; exact rfl)
    | with_reducible exact Fr.refl _ _ _
    | with_reducible assumption
    | with_reducible apply Block.tdiLock_fr
    | with_reducible apply Block.tdiServe_fr
    | (intro _ _ h)
    | (intro _ h)
    | dsimp only)

theorem startInterfaceRequest : ∀ x0 x1 x2, Statement (.startInterfaceRequest x0 x1 x2) := by
  intro x0 x1 x2 s t h
  have e : execStartInterfaceRequest x0 x1 x2 s = .next t := h
  unfold execStartInterfaceRequest at e
  refine of_fr (m := 0x800000000000000040002048400000000000000000080000000000000000004018008000000000000000000000000000000000000000000) (q := 0x444005300) (fs := [.gstClkreq, .lnkLtssm, .lnkL1sub, .lnkCntRecovery, .gaitCurrent, .loadShed, .svcCntBusy, .svcCntRefused, .haltCntDrop, .msixPend, .tdiState]) (ps := [.links, .fns, .groups, .pow, .grm, .out, .xings]) rfl rfl (by decide) (by decide) e ?_
  repeat' (first
    | (show _ = _; exact rfl)
    | with_reducible exact Fr.refl _ _ _
    | with_reducible assumption
    | with_reducible apply Block.tdiServe_fr
    | with_reducible apply Block.tdiStart_fr
    | (intro _ _ h)
    | (intro _ h)
    | dsimp only)

theorem stopInterfaceRequest : ∀ x0 x1 x2, Statement (.stopInterfaceRequest x0 x1 x2) := by
  intro x0 x1 x2 s t h
  have e : execStopInterfaceRequest x0 x1 x2 s = .next t := h
  unfold execStopInterfaceRequest at e
  refine of_fr (m := 0xff83ffc9f71effbffff9ffa048400000000f800000000801fff7400002000000401800800db7fffff3ffffff9ffffefcffc00580000080800) (q := 0x7440c57c6) (fs := functionResetFields) (ps := [.freeCtr, .nextId, .xlb, .tth, .links, .fns, .queues, .groups, .pow, .jobs, .ats, .grm, .out, .wire, .loomBack, .xings]) rfl rfl functionResetFields_mask (by decide) e ?_
  repeat' (first
    | (show _ = _; exact rfl)
    | with_reducible exact Fr.refl _ _ _
    | with_reducible assumption
    | with_reducible apply Block.tdiServe_fr
    | with_reducible apply Block.tdiStop_fr
    | (intro _ _ h)
    | (intro _ h)
    | dsimp only)

theorem getDeviceInterfaceReport : ∀ x0 x1 x2, Statement (.getDeviceInterfaceReport x0 x1 x2) := by
  intro x0 x1 x2 s t h
  have e : execGetDeviceInterfaceReport x0 x1 x2 s = .next t := h
  unfold execGetDeviceInterfaceReport at e
  refine of_fr (m := 0x40002048400000000000000000080000000000000000004018008000000000000000000000000000000000000000000) (q := 0x444005300) (fs := [.gstClkreq, .lnkLtssm, .lnkL1sub, .lnkCntRecovery, .gaitCurrent, .loadShed, .svcCntBusy, .svcCntRefused, .haltCntDrop, .msixPend]) (ps := [.links, .fns, .groups, .pow, .grm, .out, .xings]) rfl rfl (by decide) (by decide) e ?_
  repeat' (first
    | (show _ = _; exact rfl)
    | with_reducible exact Fr.refl _ _ _
    | with_reducible assumption
    | with_reducible apply Block.tdiReport_fr
    | with_reducible apply Block.tdiServe_fr
    | (intro _ _ h)
    | (intro _ h)
    | dsimp only)

theorem doeRequest : ∀ x0 x1, Statement (.doeRequest x0 x1) := by
  intro x0 x1 s t h
  have e : execDoeRequest x0 x1 s = .next t := h
  unfold execDoeRequest at e
  refine of_fr (m := 0x40002058400000000000000000080000000000000000004018008000000000000000000000000000000000000000000) (q := 0x444005300) (fs := [.gstClkreq, .lnkLtssm, .lnkL1sub, .lnkCntRecovery, .gaitCurrent, .loadShed, .svcCntBusy, .svcCntSheds, .svcCntRefused, .haltCntDrop, .msixPend]) (ps := [.links, .fns, .groups, .pow, .grm, .out, .xings]) rfl rfl (by decide) (by decide) e ?_
  repeat' (first
    | (show _ = _; exact rfl)
    | with_reducible exact Fr.refl _ _ _
    | with_reducible assumption
    | with_reducible apply Block.doeIn_fr
    | dsimp only)

theorem setEndpointId : ∀ x0 x1, Statement (.setEndpointId x0 x1) := by
  intro x0 x1 s t h
  have e : execSetEndpointId x0 x1 s = .next t := h
  unfold execSetEndpointId at e
  refine of_fr (m := 0x40002048400000000000000000080000000000000000004018008000000000000000000000000000000000000000000) (q := 0x444005300) (fs := [.gstClkreq, .lnkLtssm, .lnkL1sub, .lnkCntRecovery, .gaitCurrent, .loadShed, .svcCntBusy, .svcCntRefused, .haltCntDrop, .msixPend]) (ps := [.links, .fns, .groups, .pow, .grm, .out, .xings]) rfl rfl (by decide) (by decide) e ?_
  repeat' (first
    | (show _ = _; exact rfl)
    | with_reducible exact Fr.refl _ _ _
    | with_reducible assumption
    | with_reducible apply Block.eidSet_fr
    | dsimp only)

theorem registerAccessRead : ∀ x0 x1 x2, Statement (.registerAccessRead x0 x1 x2) := by
  intro x0 x1 x2 s t h
  have e : execRegisterAccessRead x0 x1 x2 s = .next t := h
  unfold execRegisterAccessRead at e
  refine of_fr (m := 0x400070784400000000000780000800000d27e40000000bf01800800000c0000000060000000000f00000000000f0000) (q := 0x444005302) (fs := readFields) (ps := [.freeCtr, .links, .fns, .groups, .pow, .grm, .out, .xings]) rfl rfl readFields_mask (by decide) e ?_
  repeat' (first
    | (show _ = _; exact rfl)
    | with_reducible exact Fr.refl _ _ _
    | with_reducible assumption
    | with_reducible apply Block.accRead_fr
    | dsimp only)

theorem registerAccessWrite : ∀ x0 x1 x2, Statement (.registerAccessWrite x0 x1 x2) := by
  intro x0 x1 x2 s t h
  have e : execRegisterAccessWrite x0 x1 x2 s = .next t := h
  unfold execRegisterAccessWrite at e
  refine of_fr (m := 0xffffffffffffffffffffffe94fc00002000fcc0030008fffffe1d91bffffffc0401800bffff7fffff3fff9ef9f83fefcffc005bf80008ffff) (q := 0x7446f7fc6) (fs := registerFields) (ps := [.freeCtr, .nextId, .xlb, .tth, .links, .fns, .queues, .pins, .groups, .slots, .pow, .stums, .fuses, .jobs, .ats, .parked, .gated, .grm, .out, .wire, .loomBack, .xings]) rfl rfl registerFields_mask (by decide) e ?_
  repeat' (first
    | (show _ = _; exact rfl)
    | with_reducible exact Fr.refl _ _ _
    | with_reducible assumption
    | with_reducible apply Block.accWrite_fr
    | dsimp only)

theorem moduleReset : ∀ x0, Statement (.moduleReset x0) := by
  intro x0 s t h
  have e : execModuleReset x0 s = .next t := h
  unfold execModuleReset at e
  refine of_full (m := 0xffffffffffffffffffffffffffffffffffffffffffffffffffffffffffffffffffffffffffffffffffffffffffffffffffffffffffffffffffffffffffffffff) (q := 0x6effdfff1) (ps := [.time, .img, .sg, .xlb, .tth, .links, .fns, .queues, .pins, .groups, .slots, .pow, .loom, .stums, .jobs, .ats, .buckets, .parked, .gated, .lameSh, .moves, .boot, .grm, .halt, .refs, .out, .shutRot, .loomBack, .xings]) rfl rfl (by decide) e ?_
  repeat' (first
    | (show _ = _; exact rfl)
    | with_reducible exact Fr.refl _ _ _
    | with_reducible assumption
    | with_reducible apply Block.accReset_fr
    | dsimp only)

theorem pldmSensorRead : ∀ x0 x1, Statement (.pldmSensorRead x0 x1) := by
  intro x0 x1 s t h
  have e : execPldmSensorRead x0 x1 s = .next t := h
  unfold execPldmSensorRead at e
  refine of_fr (m := 0x40002048400000000000000000080000000000000000004018008000000000000000000000000000000000000000000) (q := 0x444005300) (fs := [.gstClkreq, .lnkLtssm, .lnkL1sub, .lnkCntRecovery, .gaitCurrent, .loadShed, .svcCntBusy, .svcCntRefused, .haltCntDrop, .msixPend]) (ps := [.links, .fns, .groups, .pow, .grm, .out, .xings]) rfl rfl (by decide) (by decide) e ?_
  repeat' (first
    | (show _ = _; exact rfl)
    | with_reducible exact Fr.refl _ _ _
    | with_reducible assumption
    | with_reducible apply Block.sensorRead_fr
    | dsimp only)

theorem halterFrameForward : ∀ x0, Statement (.halterFrameForward x0) := by
  intro x0 s t h
  have e : execHalterFrameForward x0 s = .next t := h
  unfold execHalterFrameForward at e
  refine of_fr (m := 0x40003658400000000000000000080000000000000000004018008000000000000000000000000000000000000000000) (q := 0x44e005300) (fs := [.gstClkreq, .lnkLtssm, .lnkL1sub, .lnkCntRecovery, .gaitCurrent, .loadShed, .svcCntBusy, .svcCntSheds, .svcCntRefused, .haltDupId, .haltVersion, .haltCntCrcFail, .haltCntDrop, .msixPend]) (ps := [.links, .fns, .groups, .pow, .boot, .grm, .halt, .out, .xings]) rfl rfl (by decide) (by decide) e ?_
  repeat' (first
    | (show _ = _; exact rfl)
    | with_reducible exact Fr.refl _ _ _
    | with_reducible assumption
    | with_reducible apply Block.frameIn_fr
    | dsimp only)

theorem discover : ∀ x0, Statement (.discover x0) := by
  intro x0 s t h
  have e : execDiscover x0 s = .next t := h
  unfold execDiscover at e
  refine of_fr (m := 0x400000000000000000000000000000000000000000000000000000000000000000000000000000000000000000) (q := 0x8000000) (fs := [.haltVersion]) (ps := [.halt]) rfl rfl (by decide) (by decide) e ?_
  repeat' (first
    | (show _ = _; exact rfl)
    | with_reducible exact Fr.refl _ _ _
    | with_reducible assumption
    | with_reducible apply Block.discovered_fr
    | dsimp only)

theorem status : Statement .status := by
  intro s t h
  have e : execStatus s = .next t := h
  unfold execStatus at e
  refine of_fr (m := 0x0) (q := 0x48000000) (fs := []) (ps := [.halt, .out]) rfl rfl (by decide) (by decide) e ?_
  repeat' (first
    | (show _ = _; exact rfl)
    | with_reducible exact Fr.refl _ _ _
    | with_reducible assumption
    | with_reducible apply Block.statusSend_fr
    | dsimp only)

theorem mctp : ∀ x0 x1, Statement (.mctp x0 x1) := by
  intro x0 x1 s t h
  have e : execMctp x0 x1 s = .next t := h
  unfold execMctp at e
  refine of_fr (m := 0x40002058400000000000000000080000000000000000004018008000000000000000000000000000000000000000000) (q := 0x444005300) (fs := [.gstClkreq, .lnkLtssm, .lnkL1sub, .lnkCntRecovery, .gaitCurrent, .loadShed, .svcCntBusy, .svcCntSheds, .svcCntRefused, .haltCntDrop, .msixPend]) (ps := [.links, .fns, .groups, .pow, .grm, .out, .xings]) rfl rfl (by decide) (by decide) e ?_
  repeat' (first
    | (show _ = _; exact rfl)
    | with_reducible exact Fr.refl _ _ _
    | with_reducible assumption
    | with_reducible apply Block.mctpIn_fr
    | dsimp only)

theorem wake : Statement .wake := by
  intro s t h
  have e : execWake s = .next t := h
  unfold execWake at e
  refine of_fr (m := 0x80000000000000000000000000000000000000000000000000000000000000000000) (q := 0x4000) (fs := [.gaitCurrent]) (ps := [.pow]) rfl rfl (by decide) (by decide) e ?_
  repeat' (first
    | (show _ = _; exact rfl)
    | with_reducible exact Fr.refl _ _ _
    | with_reducible assumption
    | with_reducible apply Block.standWake_fr
    | with_reducible apply Fr.ite
    | split
    | dsimp only)

theorem imageData : ∀ x0 x1, Statement (.imageData x0 x1) := by
  intro x0 x1 s t h
  have e : execImageData x0 x1 s = .next t := h
  unfold execImageData at e
  refine of_fr (m := 0x0) (q := 0x4a000000) (fs := []) (ps := [.boot, .halt, .out]) rfl rfl (by decide) (by decide) e ?_
  repeat' (first
    | (show _ = _; exact rfl)
    | with_reducible exact Fr.refl _ _ _
    | with_reducible assumption
    | with_reducible apply Block.imgData_fr
    | with_reducible apply Fr.ite
    | split
    | dsimp only)

theorem imageReqTimeout : Statement .imageReqTimeout := by
  intro s t h
  have e : execImageReqTimeout s = .next t := h
  unfold execImageReqTimeout at e
  refine of_full (m := 0xffffffffffffffffffffffffffffffffffffffffffffffffffffffffffffffffffffffffffffffffffffffffffffffffffffffffffffffffffffffffffffffff) (q := 0x74a0c57e6) (ps := [.freeCtr, .nextId, .sg, .xlb, .tth, .links, .fns, .queues, .groups, .pow, .jobs, .ats, .boot, .halt, .out, .wire, .loomBack, .xings]) rfl rfl (by decide) e ?_
  repeat' (first
    | (show _ = _; exact rfl)
    | with_reducible exact Fr.refl _ _ _
    | with_reducible assumption
    | with_reducible apply Block.imgLate_fr
    | with_reducible apply Fr.ite
    | split
    | dsimp only)

theorem bypass : ∀ x0, Statement (.bypass x0) := by
  intro x0 s t h
  have e : execBypass x0 s = .next t := h
  unfold execBypass at e
  refine of_fr (m := 0x4900000000000000000000000000000000000000000000000000000000000000000000000000000000000000000) (q := 0x0) (fs := [.haltInRing, .haltBypass, .haltCntBypasses]) (ps := []) rfl rfl (by decide) (by decide) e ?_
  repeat' (first
    | (show _ = _; exact rfl)
    | with_reducible exact Fr.refl _ _ _
    | with_reducible assumption
    | with_reducible apply Block.bypassWrite_fr
    | with_reducible apply Fr.ite
    | split
    | dsimp only)

theorem halterRejoin : Statement .halterRejoin := by
  intro s t h
  have e : execHalterRejoin s = .next t := h
  unfold execHalterRejoin at e
  refine of_fr (m := 0x100000000000000000000000000000000000000000000000000000000000000000000000000000000000000000) (q := 0x48000000) (fs := [.haltInRing]) (ps := [.halt, .out]) rfl rfl (by decide) (by decide) e ?_
  repeat' (first
    | (show _ = _; exact rfl)
    | with_reducible exact Fr.refl _ _ _
    | with_reducible assumption
    | with_reducible apply Block.rejoin_fr
    | dsimp only)

theorem debugUnlock : ∀ x0, Statement (.debugUnlock x0) := by
  intro x0 s t h
  have e : execDebugUnlock x0 s = .next t := h
  unfold execDebugUnlock at e
  refine of_fr (m := 0x40002048400000000000000000080000000000000000004018008000000000000000000000000000000000000000000) (q := 0x454005300) (fs := [.gstClkreq, .lnkLtssm, .lnkL1sub, .lnkCntRecovery, .gaitCurrent, .loadShed, .svcCntBusy, .svcCntRefused, .haltCntDrop, .msixPend]) (ps := [.links, .fns, .groups, .pow, .grm, .tap, .out, .xings]) rfl rfl (by decide) (by decide) e ?_
  repeat' (first
    | (show _ = _; exact rfl)
    | with_reducible exact Fr.refl _ _ _
    | with_reducible assumption
    | with_reducible apply Block.answer_fr
    | with_reducible apply Block.serve_fr
    | with_reducible apply Fr.ite
    | (intro _ _ h)
    | (intro _ h)
    | split
    | dsimp only
    | refine Fr.upd (by (repeat' apply And.intro) <;> first | exact Or.inl rfl | exact Or.inr rfl) ?_)

theorem jtagBypass : Statement .jtagBypass := by
  intro s t h
  have e : execJtagBypass s = .next t := h
  unfold execJtagBypass at e
  refine of_fr (m := 0x0) (q := 0x10000000) (fs := []) (ps := [.tap]) rfl rfl (by decide) (by decide) e ?_
  repeat' (first
    | (show _ = _; exact rfl)
    | with_reducible exact Fr.refl _ _ _
    | with_reducible assumption
    | with_reducible apply Block.tapSet_fr
    | dsimp only)

theorem jtagIdcode : Statement .jtagIdcode := by
  intro s t h
  have e : execJtagIdcode s = .next t := h
  unfold execJtagIdcode at e
  refine of_fr (m := 0x0) (q := 0x50000000) (fs := []) (ps := [.tap, .out]) rfl rfl (by decide) (by decide) e ?_
  repeat' (first
    | (show _ = _; exact rfl)
    | with_reducible exact Fr.refl _ _ _
    | with_reducible assumption
    | with_reducible apply Block.tapIdcode_fr
    | dsimp only)

theorem jtagSamplePreload : ∀ x0, Statement (.jtagSamplePreload x0) := by
  intro x0 s t h
  have e : execJtagSamplePreload x0 s = .next t := h
  unfold execJtagSamplePreload at e
  refine of_fr (m := 0x0) (q := 0x50000002) (fs := []) (ps := [.freeCtr, .tap, .out]) rfl rfl (by decide) (by decide) e ?_
  repeat' (first
    | (show _ = _; exact rfl)
    | with_reducible exact Fr.refl _ _ _
    | with_reducible assumption
    | with_reducible apply Block.tapSample_fr
    | dsimp only)

theorem jtagExtest : Statement .jtagExtest := by
  intro s t h
  have e : execJtagExtest s = .next t := h
  unfold execJtagExtest at e
  refine of_fr (m := 0x0) (q := 0x10000000) (fs := []) (ps := [.tap]) rfl rfl (by decide) (by decide) e ?_
  repeat' (first
    | (show _ = _; exact rfl)
    | with_reducible exact Fr.refl _ _ _
    | with_reducible assumption
    | with_reducible apply Block.tapSet_fr
    | dsimp only)

theorem jtagClamp : Statement .jtagClamp := by
  intro s t h
  have e : execJtagClamp s = .next t := h
  unfold execJtagClamp at e
  refine of_fr (m := 0x0) (q := 0x10000000) (fs := []) (ps := [.tap]) rfl rfl (by decide) (by decide) e ?_
  repeat' (first
    | (show _ = _; exact rfl)
    | with_reducible exact Fr.refl _ _ _
    | with_reducible assumption
    | with_reducible apply Block.tapSet_fr
    | dsimp only)

theorem jtagHighz : Statement .jtagHighz := by
  intro s t h
  have e : execJtagHighz s = .next t := h
  unfold execJtagHighz at e
  refine of_fr (m := 0x0) (q := 0x10000000) (fs := []) (ps := [.tap]) rfl rfl (by decide) (by decide) e ?_
  repeat' (first
    | (show _ = _; exact rfl)
    | with_reducible exact Fr.refl _ _ _
    | with_reducible assumption
    | with_reducible apply Block.tapSet_fr
    | dsimp only)

theorem jtagExtestPulse : Statement .jtagExtestPulse := by
  intro s t h
  have e : execJtagExtestPulse s = .next t := h
  unfold execJtagExtestPulse at e
  refine of_fr (m := 0x0) (q := 0x10000000) (fs := []) (ps := [.tap]) rfl rfl (by decide) (by decide) e ?_
  repeat' (first
    | (show _ = _; exact rfl)
    | with_reducible exact Fr.refl _ _ _
    | with_reducible assumption
    | with_reducible apply Block.tapSet_fr
    | dsimp only)

theorem jtagExtestTrain : Statement .jtagExtestTrain := by
  intro s t h
  have e : execJtagExtestTrain s = .next t := h
  unfold execJtagExtestTrain at e
  refine of_fr (m := 0x0) (q := 0x10000000) (fs := []) (ps := [.tap]) rfl rfl (by decide) (by decide) e ?_
  repeat' (first
    | (show _ = _; exact rfl)
    | with_reducible exact Fr.refl _ _ _
    | with_reducible assumption
    | with_reducible apply Block.tapSet_fr
    | dsimp only)

theorem stlRefclkReturn : ∀ x0, Statement (.stlRefclkReturn x0) := by
  intro x0 s t h
  have e : execStlRefclkReturn x0 s = .next t := h
  unfold execStlRefclkReturn at e
  refine of_fr (m := 0x10000000000000000000000000000000000000000000) (q := 0x0) (fs := [.gstRefclkOk]) (ps := []) rfl rfl (by decide) (by decide) e ?_
  repeat' (first
    | (show _ = _; exact rfl)
    | with_reducible exact Fr.refl _ _ _
    | with_reducible assumption
    | with_reducible apply Block.refBack_fr
    | dsimp only)

theorem linkRecovery : ∀ x0, Statement (.linkRecovery x0) := by
  intro x0 s t h
  have e : execLinkRecovery x0 s = .next t := h
  unfold execLinkRecovery at e
  refine of_fr (m := 0x4018000000000000000000000000000000000000000000000) (q := 0x100) (fs := [.lnkLtssm, .lnkL1sub, .lnkCntRecovery]) (ps := [.links]) rfl rfl (by decide) (by decide) e ?_
  repeat' (first
    | (show _ = _; exact rfl)
    | with_reducible exact Fr.refl _ _ _
    | with_reducible assumption
    | with_reducible apply Block.enterRec_fr
    | dsimp only)

theorem linkReturnToL0 : ∀ x0 x1 x2, Statement (.linkReturnToL0 x0 x1 x2) := by
  intro x0 x1 x2 s t h
  have e : execLinkReturnToL0 x0 x1 s x2 = .next t := h
  unfold execLinkReturnToL0 at e
  refine of_fr (m := 0x144f9f808000000000000000000000000000000000000000000) (q := 0x40005302) (fs := [.gstClkreq, .lnkRate, .lnkWidthNeg, .lnkWidthAct, .lnkReversed, .lnkLtssm, .lnkL1sub, .lnkEq64Done, .lnkEq128Done, .lnkEq64Fail, .lnkEq128Fail, .lnkFomEnd, .lnkCntRecovery, .slaneFom, .slaneTxpreset]) (ps := [.freeCtr, .links, .fns, .groups, .pow, .out]) rfl rfl (by decide) (by decide) e ?_
  repeat' (first
    | (show _ = _; exact rfl)
    | with_reducible exact Fr.refl _ _ _
    | with_reducible assumption
    | with_reducible apply Block.backToL0_fr
    | dsimp only)

theorem nudgeArrival : ∀ x0, Statement (.nudgeArrival x0) := by
  intro x0 s t h
  have e : execNudgeArrival x0 s = .next t := h
  unfold execNudgeArrival at e
  refine of_fr (m := 0x0) (q := 0x0) (fs := []) (ps := []) rfl rfl (by decide) (by decide) e ?_
  repeat' (first
    | (show _ = _; exact rfl)
    | with_reducible exact Fr.refl _ _ _
    | with_reducible assumption
    | dsimp only)

theorem partnerWake : ∀ x0, Statement (.partnerWake x0) := by
  intro x0 s t h
  have e : execPartnerWake x0 s = .next t := h
  unfold execPartnerWake at e
  refine of_fr (m := 0x40000000000000000000000000000000000000000000000000000000) (q := 0x0) (fs := [.psRxDoze]) (ps := []) rfl rfl (by decide) (by decide) e ?_
  repeat' (first
    | (show _ = _; exact rfl)
    | with_reducible exact Fr.refl _ _ _
    | with_reducible assumption
    | with_reducible apply Fr.wr
    | with_reducible apply Fr.ite
    | split
    | dsimp only)

theorem electricalIdleAfterMarker : ∀ x0, Statement (.electricalIdleAfterMarker x0) := by
  intro x0 s t h
  have e : execElectricalIdleAfterMarker x0 s = .next t := h
  unfold execElectricalIdleAfterMarker at e
  refine of_fr (m := 0x40000000000000000000000000000000000000000000000000000000) (q := 0x0) (fs := [.psRxDoze]) (ps := []) rfl rfl (by decide) (by decide) e ?_
  repeat' (first
    | (show _ = _; exact rfl)
    | with_reducible exact Fr.refl _ _ _
    | with_reducible assumption
    | with_reducible apply Block.partnerDoze_fr
    | dsimp only)

theorem ackWaitExpiry : ∀ x0, Statement (.ackWaitExpiry x0) := by
  intro x0 s t h
  have e : execAckWaitExpiry x0 s = .next t := h
  unfold execAckWaitExpiry at e
  refine of_fr (m := 0x20000000000000000000000000000000000000000000000000000000) (q := 0x140004080) (fs := [.psTxDoze]) (ps := [.tth, .pow, .out, .wire]) rfl rfl (by decide) (by decide) e ?_
  repeat' (first
    | (show _ = _; exact rfl)
    | with_reducible exact Fr.refl _ _ _
    | with_reducible assumption
    | with_reducible apply Block.tthWake_fr
    | with_reducible apply Fr.ite
    | split
    | dsimp only)

theorem vstbyRangeChange : ∀ x0, Statement (.vstbyRangeChange x0) := by
  intro x0 s t h
  have e : execVstbyRangeChange x0 s = .next t := h
  unfold execVstbyRangeChange at e
  refine of_fr (m := 0x4000000000000000000000000000000000000000000000000000000000000000000000) (q := 0x0) (fs := [.pstVstbyOk]) (ps := []) rfl rfl (by decide) (by decide) e ?_
  repeat' (first
    | (show _ = _; exact rfl)
    | with_reducible exact Fr.refl _ _ _
    | with_reducible assumption
    | with_reducible apply Block.vstbyRange_fr
    | dsimp only)

theorem vectorControlMaskClear : ∀ x0 x1, Statement (.vectorControlMaskClear x0 x1) := by
  intro x0 x1 s t h
  have e : execVectorControlMaskClear x0 x1 s = .next t := h
  unfold execVectorControlMaskClear at e
  refine of_fr (m := 0x800020000060000000000000000000000000000000000000000000004018008000000000000000000000000000000000000000000) (q := 0x440005100) (fs := [.gstClkreq, .lnkLtssm, .lnkL1sub, .lnkCntRecovery, .msixVmask, .msixPend, .cfgMsiPend, .cfgMsixFmask]) (ps := [.links, .groups, .pow, .out, .xings]) rfl rfl (by decide) (by decide) e ?_
  repeat' (first
    | (show _ = _; exact rfl)
    | with_reducible exact Fr.refl _ _ _
    | with_reducible assumption
    | with_reducible apply Block.ifFn_fr
    | with_reducible apply Block.vecUnmask_fr
    | (intro _ _ h)
    | (intro _ h)
    | dsimp only)

theorem jtagTrstNAssert : Statement .jtagTrstNAssert := by
  intro s t h
  have e : execJtagTrstNAssert s = .next t := h
  unfold execJtagTrstNAssert at e
  refine of_fr (m := 0x0) (q := 0x10000000) (fs := []) (ps := [.tap]) rfl rfl (by decide) (by decide) e ?_
  repeat' (first
    | (show _ = _; exact rfl)
    | with_reducible exact Fr.refl _ _ _
    | with_reducible assumption
    | dsimp only
    | refine Fr.upd (by (repeat' apply And.intro) <;> first | exact Or.inl rfl | exact Or.inr rfl) ?_)

theorem finish : ∀ x0 x1, Statement (.finish x0 x1) := by
  intro x0 x1 s t h
  have e : execFinish x0 x1 s = .next t := h
  unfold execFinish at e
  refine of_fr (m := 0x40002048400000000000000000080000000000000000004018008000000000000000000000000000000000000000000) (q := 0x444005300) (fs := [.gstClkreq, .lnkLtssm, .lnkL1sub, .lnkCntRecovery, .gaitCurrent, .loadShed, .svcCntBusy, .svcCntRefused, .haltCntDrop, .msixPend]) (ps := [.links, .fns, .groups, .pow, .grm, .out, .xings]) rfl rfl (by decide) (by decide) e ?_
  repeat' (first
    | (show _ = _; exact rfl)
    | with_reducible exact Fr.refl _ _ _
    | with_reducible assumption
    | with_reducible apply Block.sessMod_fr
    | with_reducible apply Block.spdm_fr
    | with_reducible apply Block.spdmServe_fr
    | with_reducible apply Fr.ite
    | (intro _ _ h)
    | (intro _ h)
    | split
    | dsimp only
    | refine Fr.upd (by (repeat' apply And.intro) <;> first | exact Or.inl rfl | exact Or.inr rfl) ?_)

theorem keyUpdate : ∀ x0 x1, Statement (.keyUpdate x0 x1) := by
  intro x0 x1 s t h
  have e : execKeyUpdate x0 x1 s = .next t := h
  unfold execKeyUpdate at e
  refine of_fr (m := 0x40002048400000000000000000080000000000000000004018008000000000000000000000000000000000000000000) (q := 0x444005300) (fs := [.gstClkreq, .lnkLtssm, .lnkL1sub, .lnkCntRecovery, .gaitCurrent, .loadShed, .svcCntBusy, .svcCntRefused, .haltCntDrop, .msixPend]) (ps := [.links, .fns, .groups, .pow, .grm, .out, .xings]) rfl rfl (by decide) (by decide) e ?_
  repeat' (first
    | (show _ = _; exact rfl)
    | with_reducible exact Fr.refl _ _ _
    | with_reducible assumption
    | with_reducible apply Block.sessMod_fr
    | with_reducible apply Block.spdm_fr
    | with_reducible apply Block.spdmServe_fr
    | with_reducible apply Fr.ite
    | (intro _ _ h)
    | (intro _ h)
    | split
    | dsimp only
    | refine Fr.upd (by (repeat' apply And.intro) <;> first | exact Or.inl rfl | exact Or.inr rfl) ?_)

theorem heartbeat : ∀ x0 x1, Statement (.heartbeat x0 x1) := by
  intro x0 x1 s t h
  have e : execHeartbeat x0 x1 s = .next t := h
  unfold execHeartbeat at e
  refine of_fr (m := 0x40002048400000000000000000080000000000000000004018008000000000000000000000000000000000000000000) (q := 0x444005300) (fs := [.gstClkreq, .lnkLtssm, .lnkL1sub, .lnkCntRecovery, .gaitCurrent, .loadShed, .svcCntBusy, .svcCntRefused, .haltCntDrop, .msixPend]) (ps := [.links, .fns, .groups, .pow, .grm, .out, .xings]) rfl rfl (by decide) (by decide) e ?_
  repeat' (first
    | (show _ = _; exact rfl)
    | with_reducible exact Fr.refl _ _ _
    | with_reducible assumption
    | with_reducible apply Block.spdm_fr
    | with_reducible apply Block.spdmServe_fr
    | with_reducible apply Fr.ite
    | (intro _ _ h)
    | (intro _ h)
    | split
    | dsimp only)

theorem getCapabilities : ∀ x0, Statement (.getCapabilities x0) := by
  intro x0 s t h
  have e : execGetCapabilities x0 s = .next t := h
  unfold execGetCapabilities at e
  refine of_fr (m := 0x40002048400000000000000000080000000000000000004018008000000000000000000000000000000000000000000) (q := 0x444005300) (fs := [.gstClkreq, .lnkLtssm, .lnkL1sub, .lnkCntRecovery, .gaitCurrent, .loadShed, .svcCntBusy, .svcCntRefused, .haltCntDrop, .msixPend]) (ps := [.links, .fns, .groups, .pow, .grm, .out, .xings]) rfl rfl (by decide) (by decide) e ?_
  repeat' (first
    | (show _ = _; exact rfl)
    | with_reducible exact Fr.refl _ _ _
    | with_reducible assumption
    | with_reducible apply Block.connMod_fr
    | with_reducible apply Block.spdm_fr
    | with_reducible apply Block.spdmServe_fr
    | (intro _ _ h)
    | (intro _ h)
    | dsimp only
    | refine Fr.upd (by (repeat' apply And.intro) <;> first | exact Or.inl rfl | exact Or.inr rfl) ?_)

theorem negotiateAlgorithms : ∀ x0, Statement (.negotiateAlgorithms x0) := by
  intro x0 s t h
  have e : execNegotiateAlgorithms x0 s = .next t := h
  unfold execNegotiateAlgorithms at e
  refine of_fr (m := 0x40002048400000000000000000080000000000000000004018008000000000000000000000000000000000000000000) (q := 0x444005300) (fs := [.gstClkreq, .lnkLtssm, .lnkL1sub, .lnkCntRecovery, .gaitCurrent, .loadShed, .svcCntBusy, .svcCntRefused, .haltCntDrop, .msixPend]) (ps := [.links, .fns, .groups, .pow, .grm, .out, .xings]) rfl rfl (by decide) (by decide) e ?_
  repeat' (first
    | (show _ = _; exact rfl)
    | with_reducible exact Fr.refl _ _ _
    | with_reducible assumption
    | with_reducible apply Block.connMod_fr
    | with_reducible apply Block.spdm_fr
    | with_reducible apply Block.spdmServe_fr
    | (intro _ _ h)
    | (intro _ h)
    | dsimp only
    | refine Fr.upd (by (repeat' apply And.intro) <;> first | exact Or.inl rfl | exact Or.inr rfl) ?_)

theorem getDigests : ∀ x0, Statement (.getDigests x0) := by
  intro x0 s t h
  have e : execGetDigests x0 s = .next t := h
  unfold execGetDigests at e
  refine of_fr (m := 0x40002048400000000000000000080000000000000000004018008000000000000000000000000000000000000000000) (q := 0x444005300) (fs := [.gstClkreq, .lnkLtssm, .lnkL1sub, .lnkCntRecovery, .gaitCurrent, .loadShed, .svcCntBusy, .svcCntRefused, .haltCntDrop, .msixPend]) (ps := [.links, .fns, .groups, .pow, .grm, .out, .xings]) rfl rfl (by decide) (by decide) e ?_
  repeat' (first
    | (show _ = _; exact rfl)
    | with_reducible exact Fr.refl _ _ _
    | with_reducible assumption
    | with_reducible apply Block.spdm_fr
    | with_reducible apply Block.spdmServe_fr
    | (intro _ _ h)
    | (intro _ h)
    | dsimp only)

theorem chunkSend : ∀ x0 x1, Statement (.chunkSend x0 x1) := by
  intro x0 x1 s t h
  have e : execChunkSend x0 x1 s = .next t := h
  unfold execChunkSend at e
  refine of_fr (m := 0x40002048400000000000000000080000000000000000004018008000000000000000000000000000000000000000000) (q := 0x444005300) (fs := [.gstClkreq, .lnkLtssm, .lnkL1sub, .lnkCntRecovery, .gaitCurrent, .loadShed, .svcCntBusy, .svcCntRefused, .haltCntDrop, .msixPend]) (ps := [.links, .fns, .groups, .pow, .grm, .out, .xings]) rfl rfl (by decide) (by decide) e ?_
  repeat' (first
    | (show _ = _; exact rfl)
    | with_reducible exact Fr.refl _ _ _
    | with_reducible assumption
    | with_reducible apply Block.connMod_fr
    | with_reducible apply Block.spdm_fr
    | with_reducible apply Block.spdmServe_fr
    | with_reducible apply Fr.ite
    | (intro _ _ h)
    | (intro _ h)
    | split
    | dsimp only
    | refine Fr.upd (by (repeat' apply And.intro) <;> first | exact Or.inl rfl | exact Or.inr rfl) ?_)

theorem chunkGet : ∀ x0, Statement (.chunkGet x0) := by
  intro x0 s t h
  have e : execChunkGet x0 s = .next t := h
  unfold execChunkGet at e
  refine of_fr (m := 0x40002048400000000000000000080000000000000000004018008000000000000000000000000000000000000000000) (q := 0x444005302) (fs := [.gstClkreq, .lnkLtssm, .lnkL1sub, .lnkCntRecovery, .gaitCurrent, .loadShed, .svcCntBusy, .svcCntRefused, .haltCntDrop, .msixPend]) (ps := [.freeCtr, .links, .fns, .groups, .pow, .grm, .out, .xings]) rfl rfl (by decide) (by decide) e ?_
  repeat' (first
    | (show _ = _; exact rfl)
    | with_reducible exact Fr.refl _ _ _
    | with_reducible assumption
    | with_reducible apply Block.chunkNext_fr
    | with_reducible apply Block.spdmServe_fr
    | (intro _ _ h)
    | (intro _ h)
    | dsimp only)

end Sys2Proof.Laws.Frame
end

