-- ==== Sys2Proof/Tests/Slice0.lean ====
section
/-! SUPPORT. Tests: each check of WellFormed refuses an ill-formed command; for every statement with hypotheses, states and operands that meet them;
small steps whose results are worked out by hand from the rules they name. -/
namespace Sys2Proof.Tests
set_option Elab.async false
open Sys2Proof Sys2Proof.Machine Sys2Proof.Machine.Block

/-- A field with a value. -/
def k (f : Fld) (v : Nat) (i : Nat := 0) (j : Nat := 0) : RKey × Nat := (key f i j, v)
/-- A state of a block with register fields. -/
def mk (regs : List (RKey × Nat)) (b : Block := {}) : State := { blk := { b with regs := regs }, pending := [] }

/-- A physical function on link 0 and port 0 with every mode, BARs of 64 KiB and an Expansion ROM. -/
def fn0 : FnRec := ⟨0, false, 0, 0, 0, none, 0, true, false, 4095, 1, 2, 3, 4, 5, 16, 16, 11, false, false, 64, 1, 2⟩
/-- An image with given functions, a sub-window in each window of function 0, and an outbound window. -/
def img0 (fns : List FnRec) : Image :=
  { buildId := 7, svn := 3, fmtMin := 0, spareCount := 8, parkIdleUs := 100, vstbyFitted := true, auxCurrent := 0, fetchUs := 10,
    telemMs := 10, shedDepth := 4, vdmEn := true, smbSpeed := 0,
    groups := [⟨0, 0, 0, 7, true, 10, true, 0, 0, 0⟩], sdies := [], ports := [⟨0, 3, 3, 1, 100, 4, 1000, 1, 8, 10, 4, true, 10, 10, true, some 0, true, true, 100, 1, 0, 0⟩],
    tdies := [], fns := fns, extras := [],
    subwins := [⟨0, false, 0, 0, 0x8000, 0x100000, 1 + 64 * 255 + 2 ^ 14, []⟩, ⟨0, true, 0, 0, 0x1000, 0x200000, 1 + 64 * 1, []⟩],
    overrides := [], obwins := [⟨0, 0, 0, 0x10000, 0x10000⟩],
    queues := [⟨0, 0, 4, 16, true, 4, false, 0, 1, 0, []⟩], sources := [], reins := [], weave := [], faults := [], power := none,
    fw := ⟨true, true, true, 2, []⟩, bodyDigest := [] }
/-- A block in service with the image of function 0. -/
def live : Block :=
  { img := some (img0 [fn0]), sg := ((img0 [fn0]).groups, (img0 [fn0]).sdies), pow := { st := .on }, boot := { run := true }
    fuses := { keyHash := some 9 } }
/-- The stage of a running image. -/
def ready : List (RKey × Nat) := [k .bootStage 5]
/-- Link 0 up in L0. -/
def up : List (RKey × Nat) := [k .lnkDlActive 1, k .lnkLtssm 3, k .lnkFlit 1, k .lnkRate 6, k .lnkWidthNeg 16, k .lnkWidthAct 16]
/-- Port 0 ACTIVE at version 1.3 and width 8. -/
def act : List (RKey × Nat) := [k .psState 5, k .xlbActive 1, k .xlbVersion 3, k .xlbWidth 1, k .xlbAtm 1]

/-! ### WellFormed: each check refuses an ill-formed command -/

/-- A request with no byte position. -/
def noByte : HReq := { link := 0, addr := 0, en := [], data := [], req := 0, ep := false, t := false }
/-- A request of four bytes at an address. -/
def req4 (a : Nat) (d : List Byte := []) : HReq := { link := 0, addr := a, en := [true, true, true, true], data := d, req := 1, ep := false, t := false }

theorem test_ill_configRead : Instr.wf (.configRead 0 0 2 0 none) = false := by decide
theorem test_ill_windowRead : hreqOk noByte = false := by decide
theorem test_ill_windowWrite : hwriteOk (req4 0) = false := by decide
theorem test_ill_windowAtomic : hatomicOk (req4 2 [1, 2, 3, 4]) .swap = false := by decide
theorem test_ill_flit : flitOk [] = false := by decide
theorem test_ill_block : blockOk (List.replicate 31 0) = false := by decide
theorem test_ill_marker : markOk [] = false := by decide
theorem test_ill_payload : payloadOk (List.replicate 49 0) = false := by decide

/-! ### States and operands that meet the hypotheses of the statements -/

theorem test_hyp_PowerOnAndOff : (∃ s : State, s.blk.pow.st = .off) ∧ (∃ s : State, s.blk.pow.st = .hold ∧ s.blk.stage ≠ 5) ∧
    (∃ s : State, (s.blk.pow.st = .on ∨ s.blk.pow.st = .stand) ∧ s.blk.flag .pstVstbyOk 0 = true) ∧
    (∃ s : State, (s.blk.pow.st = .on ∨ s.blk.pow.st = .stand) ∧ s.blk.flag .pstVstbyOk 0 = false) ∧
    (∃ s : State, s.blk.flag .pstVinOk 0 = true) :=
  ⟨⟨mk [], by decide⟩, ⟨mk [] { pow := { st := .hold } }, by decide⟩, ⟨mk [k .pstVstbyOk 1] live, by decide⟩,
    ⟨mk [k .pstVstbyOk 0] { pow := { st := .stand } }, by decide⟩, ⟨mk [k .pstVinOk 1], by decide⟩⟩

theorem test_hyp_ModuleResetRestores : ∃ s : State, s.blk.pow.st = .thermOff ∧ s.blk.flag .pstVinOk 0 = true :=
  ⟨mk [k .pstVinOk 1] { pow := { st := .thermOff } }, by decide⟩

theorem test_hyp_BrownoutAndDroop :
    (∃ (s : State) (v i : Nat), s.blk.inService = true ∧ s.blk.flag .pstBrownout 0 = false ∧ v < s.blk.rd .broVinMv 0 ∧ i = 0) ∧
    (∃ (s : State) (v i : Nat), s.blk.inService = true ∧ s.blk.flag .pstBrownout 0 = false ∧ v = s.blk.rd .broVinMv 0 ∧ i > 100 * s.blk.rd .broIlimA 0) ∧
    (∃ s : State, s.blk.flag .pstBrownout 0 = true) ∧
    (∃ s : State, s.blk.inService = true ∧ s.blk.flag .pwrDroopEn 0 = true ∧ s.blk.flag .pstDroop 0 = false ∧ s.blk.pow.bar = false) ∧
    (∃ s : State, s.blk.flag .pstDroop 0 = true) ∧
    (∃ (s : State) (p : PortIx), (s.blk.tt p.val).held = true ∧ s.blk.flag .psTxDoze p.val = true ∧ (s.blk.tt p.val).nakOn = none) :=
  ⟨⟨mk [k .broVinMv 44000] live, 43999, 0, by decide⟩, ⟨mk [k .broVinMv 44000, k .broIlimA 90] live, 44000, 9001, by decide⟩,
    ⟨mk [k .pstBrownout 1], by decide⟩, ⟨mk [k .pwrDroopEn 1] live, by decide⟩, ⟨mk [k .pstDroop 1], by decide⟩,
    ⟨mk [k .psTxDoze 1 63] { tth := [(63, { held := true })] }, 63, by decide⟩⟩

theorem test_hyp_GaitChanges :
    (∃ (s : State) (t : BitVec 3), s.blk.groomRuns = true ∧ 1 ≤ t.toNat ∧ t.toNat ≤ 4) ∧ (∃ s : State, s.blk.groomRuns = false) ∧
    (∃ s : State, s.blk.groomRuns = true ∧ s.blk.rd .gaitCurrent 0 < s.blk.gaitLimit ∧ s.blk.pow.walkHold = false ∧ s.blk.flag .pstDroop 0 = false ∧
      s.blk.pow.held = []) ∧
    (∃ (s : State) (g : Nat), s.blk.groomReady = true ∧
      100 * g > optD s.blk.img 70 (fun im => optD im.power 70 (·.upPct)) * s.blk.portCap (s.blk.rd .gaitCurrent 0)) ∧
    (∃ s : State, s.blk.groomReady = true ∧ s.blk.flag .gaitStandEn 0 = true ∧ s.blk.allFns.all (fun f => s.blk.d3cold f) = true ∧
      (List.range 64).all (fun p => s.blk.portIdle p) = true) :=
  ⟨⟨mk [] live, 4, by decide⟩, ⟨mk [], by decide⟩, ⟨mk [k .gaitCurrent 1, k .gaitTarget 4, k .gaitThermLimit 4, k .gaitCap 4] live, by decide⟩,
    ⟨mk (k .gaitCurrent 1 :: ready) live, 100000, by decide⟩, ⟨mk (k .gaitStandEn 1 :: k .lnkLtssm 6 :: ready) live, by decide +kernel⟩⟩

theorem test_hyp_ThermalLimits :
    (∃ (s : State) (tj : Nat), s.blk.groomReady = true ∧ tj = s.blk.rd .thmThrottleC 0 ∧ s.blk.rd .gaitThermLimit 0 ≠ 1) ∧
    (∃ (s : State) (tj : Nat), s.blk.groomReady = true ∧ tj + 1 + s.blk.rd .thmHystC 0 = s.blk.rd .thmThrottleC 0 ∧ s.blk.rd .gaitThermLimit 0 < 4) ∧
    (∃ s : State, s.blk.inService = true ∧ s.blk.flag .pstHwTrip 0 = false) ∧ (∃ s : State, s.blk.flag .pstHwTrip 0 = true) ∧
    (∃ s : State, s.blk.inService = true ∧ s.blk.offsInHour.length ≥ 2) ∧ (∃ (s : State) (t : TDieIx), s.blk.refs.core = some t.val) :=
  ⟨⟨mk (k .thmThrottleC 95 :: ready) live, 95, by decide⟩, ⟨mk (k .thmThrottleC 95 :: k .thmHystC 5 :: k .gaitThermLimit 3 :: ready) live, 89, by decide⟩,
    ⟨mk [] live, by decide⟩, ⟨mk [k .pstHwTrip 1], by decide⟩, ⟨mk [] { live with pow := { st := .on, offs := [1, 2] } }, by decide⟩, ⟨mk [], 0, by decide⟩⟩

theorem test_hyp_LameUnits :
    (∃ s : State, s.blk.pow.st = .on ∧ s.blk.loom.lame = []) ∧
    (∃ (s : State) (i : Fin 3), s.blk.pow.st = .on ∧ bit (s.blk.rd .coreFailed 0) i.val = false) ∧
    (∃ (s : State) (i : Fin 22), s.blk.pow.st = .on ∧ i.val ∉ s.blk.pow.lamePhases ∧ 18 ≤ s.blk.rd .pstPhases 0 ∧ s.blk.rd .pstPhases 0 ≤ 22) ∧
    (∃ (s : State) (i : ShutIx) (sp : Nat), s.blk.pow.st = .on ∧ i.val ∉ s.blk.lameSh ∧ i.val ∈ s.blk.buckets ∧ s.blk.spareFor i.val = some sp) ∧
    (∃ (s : State) (i : Fin 9), s.blk.pow.st = .on ∧ i.val ∉ s.blk.loom.lame ∧ (s.blk.stumCount (.loomSlice i)).2 = false) ∧
    (∃ (s : State) (i : TLaneIx), s.blk.rd .teqFomRetire (i.val / 128) ≠ 0 ∧ s.blk.flag .tlaneLame i.val = false) :=
  ⟨⟨mk [] live, by decide⟩, ⟨mk [] live, 2, by decide⟩, ⟨mk [k .pstPhases 22] live, 21, by decide⟩,
    ⟨mk [] { live with buckets := [5] }, 5, 16, by decide⟩, ⟨mk [] live, 8, by decide⟩,
    ⟨mk [k .teqFomRetire 1], 0, by decide⟩⟩

theorem test_hyp_LoomAndGating :
    (∃ (s : State) (o : LoomIx) (offers : List (LoomIx × LoomClass)) (credits : List LoomClass) (i c : Nat), s.blk.loom.stopped = false ∧ s.blk.pow.st = .on ∧
      pickFree (fun k => (offerFrom (fun n => credits.any (fun x => loomClass x == n)) o.val k []
        (s.blk.loom.waits ++ offers.map (fun x => (o.val, x.1.val, loomClass x.2)))).isSome) 33 (s.blk.loomPtr o.val) = some i ∧
      offerFrom (fun n => credits.any (fun x => loomClass x == n)) o.val i []
        (s.blk.loom.waits ++ offers.map (fun x => (o.val, x.1.val, loomClass x.2))) = some c) ∧
    (∃ s : State, s.blk.loom.stopped = true) ∧ (∃ (s : State) (i t0 : Nat), s.blk.loom.sub = some (i, t0)) ∧
    (∃ s : State, s.blk.groomReady = true ∧ s.blk.allEconomy = true) ∧
    (∃ s : State, s.blk.groomReady = true ∧ s.blk.loom.narrow = true ∧ s.blk.flag .pstDroop 0 = false ∧ s.blk.pow.ramp = false) ∧
    (∃ s : State, s.blk.groomReady = true ∧ s.blk.loom.narrow = true ∧ s.blk.flag .pstDroop 0 = true) ∧
    (∃ (s : State) (u : GateRef), s.blk.pow.st = .on ∧ s.blk.mayGate u = true) :=
  ⟨⟨mk [] { live with loom := { ptr := [(32, 5)] } }, 32, [(4, .posted), (32, .posted)], [.posted], 32, 0, by decide⟩,
    ⟨mk [] { loom := { stopped := true } }, by decide⟩, ⟨mk [] { loom := { sub := some (3, 7) } }, 3, 7, by decide⟩, ⟨mk ready live, by decide +kernel⟩,
    ⟨mk ready { live with loom := { narrow := true } }, by decide⟩, ⟨mk (k .pstDroop 1 :: ready) { live with loom := { narrow := true } }, by decide⟩,
    ⟨mk [] live, .slice 8, by decide⟩⟩

theorem test_hyp_StallGroupPins : (∃ (s : State) (g : GroupIx), s.blk.flag .gstPerst g.val = true) ∧
    (∃ (s : State) (g : GroupIx), (s.blk.gr g.val).waits = true) :=
  ⟨⟨mk [k .gstPerst 1 55], 55, by decide⟩, ⟨mk [] { groups := [(55, { waits := true })] }, 55, by decide⟩⟩

/-- Function 0 paired: link 0 active, link 4 standby. -/
def fnP : FnRec := { fn0 with standby := some 4 }
/-- The block with a paired function. -/
def liveP : Block := { live with img := some (img0 [fnP]) }

/-- What the statements about a link's events ask for. -/
def linkHyps : Prop :=
    (∃ (s : State) (l : LinkIx), s.blk.dlActive l.val = true) ∧
    (∃ (s : State) (l : LinkIx), (s.blk.lk l.val).detect = true ∧ s.blk.rd .lnkLtssm l.val = 4 ∧ s.blk.pairReady l.val = true) ∧
    (∃ (s : State) (l : LinkIx), (s.blk.lk l.val).detect = true ∧ s.blk.rd .lnkLtssm l.val = 4 ∧ s.blk.pairReady l.val = false) ∧
    (∃ (s : State) (l : LinkIx) (r0 : FnRec) (rs : List FnRec), s.blk.fnRecs.filter (fun r => r.standby.isSome && s.blk.actLink r.f == l.val) = r0 :: rs ∧
      (s.blk.lk l.val).failed = true ∧ s.blk.inL0 (otherLink r0 l.val) = true) ∧
    (∃ (s : State) (l : LinkIx) (u : LinkUp), s.blk.mayTrain (l.val / 4) = true ∧ s.blk.upOk l.val u = true) ∧
    (∃ (s : State) (l : LinkIx), s.blk.dlActive l.val = true ∧ s.blk.rd .lnkLtssm l.val = 3) ∧
    (∃ (s : State) (l : LinkIx), s.blk.dlActive l.val = true ∧ s.blk.rd .lnkLtssm l.val = 5) ∧
    (∃ (s : State) (l : LinkIx), s.blk.dlActive l.val = true ∧ s.blk.rd .lnkLtssm l.val = 4) ∧
    (∃ (s : State) (l : LinkIx), s.blk.dlActive l.val = true ∧ s.blk.rd .lnkLtssm l.val ≠ 6)

theorem test_hyp_LinkDownAndUp : linkHyps :=
  ⟨⟨mk [k .lnkDlActive 1 223], 223, by decide⟩,
    ⟨mk [k .lnkLtssm 4, k .recActiveLink 0, k .recStandbyReady 1] { liveP with links := [(0, { detect := true })] }, 0, by decide⟩,
    ⟨mk [k .lnkLtssm 4] { liveP with links := [(0, { detect := true })] }, 0, by decide⟩,
    ⟨mk [k .lnkDlActive 1 4, k .lnkLtssm 3 4, k .recActiveLink 0] { liveP with links := [(0, { failed := true })] }, 0, fnP, [], by decide⟩,
    ⟨mk [k .gstPerst 0, k .gstMode 0, k .gstRefclkOk 1, k .grpMaxrate 7] live, 0, ⟨true, 6, 16, false, 0, true, true, []⟩, by decide⟩,
    ⟨mk up, 0, by decide⟩, ⟨mk [k .lnkDlActive 1, k .lnkLtssm 5], 0, by decide⟩, ⟨mk [k .lnkDlActive 1, k .lnkLtssm 4], 0, by decide⟩, ⟨mk up, 0, by decide⟩⟩


theorem test_hyp_LinkEvents : linkHyps := test_hyp_LinkDownAndUp

/-- IDE stream 9 of link 0, Secure or not, with one programmed key. -/
def ide9 (secure : Bool) : LinkDyn := { ide := [⟨9, [⟨0, true, false, false⟩], secure, false⟩] }
/-- Selective stream 0 of link 0 is enabled with Stream ID 9 and covers every Requester ID. -/
def sel9 : List (RKey × Nat) := [k .ideDw (9 * 2 ^ 24 + 1) 0 6, k .ideDw (65535 * 256) 0 8, k .ideDw 1 0 9]

theorem test_hyp_LinkWidthPowerIde :
    (∃ (s : State) (l : LinkIx), s.blk.l0pAble l.val = true ∧ 16 ≤ s.blk.l0pMax l.val) ∧
    (∃ (s : State) (l : LinkIx), s.blk.l0pAble l.val = true ∧ s.blk.l0pMax l.val < 16) ∧
    (∃ (s : State) (l : LinkIx) (w why : Nat), (s.blk.lk l.val).l0p = some (w, why) ∧ w ≤ s.blk.l0pMax l.val ∧ w ≤ s.blk.stlCap ∧ (s.blk.lk l.val).want = false) ∧
    (∃ (s : State) (l : LinkIx), s.blk.linkEconomy l.val = true ∧ s.blk.l0pAble l.val = true ∧ (s.blk.lk l.val).econLow = 9 ∧
      1 < s.blk.rd .lnkWidthAct l.val ∧ (s.blk.lk l.val).l0p = none) ∧
    (∃ (s : State) (l : LinkIx), s.blk.linkEconomy l.val = true ∧ s.blk.l0pAble l.val = true ∧ (s.blk.lk l.val).econLow = 8) ∧
    (∃ (s : State) (l : LinkIx) (obs : LinkObs), obs.crcFail ≠ 0 ∧ obs.fecCorr ≠ 0 ∧ s.blk.flag .lnkFlit l.val = true) ∧
    (∃ (s : State) (l : LinkIx), s.blk.inL0 l.val = true ∧ s.blk.aspmL1 l.val = true ∧ s.blk.linkIdle l.val = true) ∧
    (∃ (s : State) (l : LinkIx) (lane : Nat) (pl : BitVec 8) (v : Nat), s.blk.marginLane l.val lane = true ∧ 4 ≤ s.blk.rd .lnkRate l.val ∧
      marginReport (decide (6 ≤ s.blk.rd .lnkRate l.val)) pl.toNat = some v) ∧
    (∃ (s : State) (l : LinkIx) (id : Nat), s.blk.streamIs l.val id (·.secure) = true ∧ (s.blk.streamFell l.val id).onStream l.val id = []) ∧
    (∃ (s : State) (l : LinkIx) (id f : Nat), s.blk.streamIs l.val id (·.secure) = true ∧ (s.blk.streamFell l.val id).onStream l.val id = [f] ∧
      s.blk.tdiOn f = true ∧ (s.blk.streamFell l.val id).selSecure f = false) :=
  ⟨⟨mk (k .grpL0pEn 1 :: up) { live with links := [(0, { partnerL0p := true })] }, 0, by decide⟩,
    ⟨mk (k .grpL0pEn 1 :: k .lnkRetired 2 :: up) { live with links := [(0, { partnerL0p := true })] }, 0, by decide⟩,
    ⟨mk (k .grpL0pEn 1 :: up) { live with links := [(0, { partnerL0p := true, l0p := some (16, 1) })] }, 0, 16, 1, by decide⟩,
    ⟨mk (k .grpL0pEn 1 :: up) { live with links := [(0, { partnerL0p := true, econLow := 9 })] }, 0, by decide⟩,
    ⟨mk (k .grpL0pEn 1 :: up) { live with links := [(0, { partnerL0p := true, econLow := 8 })] }, 0, by decide⟩,
    ⟨mk up live, 0, ⟨[], 1, 1⟩, by decide⟩, ⟨mk (k .cfgAspm 2 :: up) live, 0, by decide +kernel⟩,
    ⟨mk up live, 0, 15, 0x88, 0x1F, by decide⟩, ⟨mk up { live with links := [(0, ide9 true)] }, 0, 9, by decide⟩,
    ⟨mk (k .tdiState 2 :: sel9 ++ up) { live with links := [(0, ide9 true)] }, 0, 9, 0, by decide⟩⟩

/-- A left fold that evaluates what it has gathered at every step. -/
def foldNow (f : Nat → Nat → Nat) : List Nat → Nat → Nat
  | [], c => c
  | x :: t, 0 => foldNow f t (f 0 x)
  | x :: t, n + 1 => foldNow f t (f (n + 1) x)

theorem foldl_foldNow (f : Nat → Nat → Nat) (l : List Nat) (c : Nat) : l.foldl f c = foldNow f l c := by
  induction l generalizing c with
  | nil => cases c <;> rfl
  | cons x t ih => cases c <;> exact ih _

/-- A training block of the partner (R256): SYNC, ROLE 1, lane 0, four rates, STEP 1, and the CRC-32 of R250 worked out by hand. -/
def blk1 : List Byte := [0x4B, 0x5E, 0x72, 0x1D, 1, 0, 15, 1] ++ List.replicate 20 0 ++ [68, 248, 232, 163]
/-- The same block with STEP 2 and the old CRC. -/
def blk2 : List Byte := [0x4B, 0x5E, 0x72, 0x1D, 1, 0, 15, 2] ++ List.replicate 20 0 ++ [68, 248, 232, 163]
/-- The body of a block of two values of STEP. -/
def blkNums (step : Nat) : List Nat := [75, 94, 114, 29, 1, 0, 15, step] ++ List.replicate 20 0
theorem crc_blk1 : flitCrc (blkNums 1) = 2749954116 := by rw [flitCrc, foldl_foldNow]; decide +kernel
theorem crc_blk2 : (flitCrc (blkNums 2) == 2749954116) = false := by rw [flitCrc, foldl_foldNow]; decide +kernel
theorem blk_good (l : List Byte) (x : List Nat) (v : Nat) (hi : (l.take 4 == syncBytes.map (fun x => ~~~x)) = false) (hs : (l.take 4 == syncBytes) = true)
    (hx : (l.take 28).map (·.toNat) = x) (hv : msgFld l 28 4 = v) : (blockOf l).good = (flitCrc x == v) := by
  simp only [blockOf, hi, hs, hx, hv, Bool.false_eq_true, if_false, Bool.true_and]
theorem test_block : (blockOf blk1).good = true :=
  (blk_good blk1 (blkNums 1) 2749954116 (by decide +kernel) (by decide +kernel) (by decide +kernel) (by decide +kernel)).trans (by rw [crc_blk1]; rfl)
theorem test_block_bad : (blockOf blk2).good = false :=
  (blk_good blk2 (blkNums 2) 2749954116 (by decide +kernel) (by decide +kernel) (by decide +kernel) (by decide +kernel)).trans crc_blk2

theorem test_hyp_TetherTraining :
    (∃ (s : State) (p : PortIx) (m : BitVec 8), s.blk.rd .psState p.val = 0 ∧ s.blk.portReady p.val = true ∧ (s.blk.tt p.val).backoff = false ∧
      without (without m.toNat (s.blk.rd .plRxRetired p.val)) (s.blk.rd .plTxRetired p.val) ≠ 0) ∧
    (∃ (s : State) (p : PortIx) (i : Fin 8), s.blk.rd .psState p.val = 1 ∧ bit (s.blk.tt p.val).found i.val = true ∧
      i.val < (s.blk.tt p.val).lanes.length ∧ (s.blk.tt p.val).step = 1 ∧ s.blk.farLoop p.val = false ∧ (s.blk.ln p.val i.val).n = 62) ∧
    (blk1.length = 32 ∧ (blockOf blk1).good = true ∧ (blockOf blk1).role = 1 ∧ 1 ≤ (blockOf blk1).step) ∧
    (blk2.length = 32 ∧ (blockOf blk2).good = false) ∧
    (∃ (s : State) (p : PortIx) (i : Fin 8) (es : List Eye), s.blk.rd .psState p.val = 1 ∧ (s.blk.tt p.val).step = 2 ∧ bit (s.blk.tt p.val).found i.val = true ∧
      i.val < (s.blk.tt p.val).lanes.length ∧ (s.blk.ln p.val i.val).done = false ∧
      laneFom (decide (3 ≤ s.blk.rd .psRate p.val)) es < s.blk.rd .teqFomTarget (p.val / 16) ∧
      (s.blk.ln p.val i.val).preset + 1 < s.blk.rd .teqPresets (p.val / 16)) ∧
    (∃ (s : State) (p : PortIx), s.blk.rd .psState p.val = 2) ∧
    (∃ (s : State) (p : PortIx), s.blk.rd .psState p.val = 3 ∧ s.blk.healthy p.val (s.blk.rd .plRxmask p.val) ≠ []) ∧
    (∃ (s : State) (p : PortIx) (ms : List LaneMark) (m : LaneMark), 4 ≤ s.blk.rd .psState p.val ∧
      ms.find? (fun m => bit (s.blk.rd .plRxmask p.val) m.lane.val && isMark m.bytes) = some m) :=
  ⟨⟨mk [k .psState 0 63] { live with pins := [(63, ⟨true, true, true, false⟩)] }, 63, 0xFF, by decide⟩,
    ⟨mk [k .psState 1] { live with tth := [(0, { found := 0xFF, step := 1, lanes := List.replicate 8 { n := 62 } })] }, 0, 7, by decide⟩,
    ⟨by decide, test_block, by decide +kernel, by decide +kernel⟩, ⟨by decide, test_block_bad⟩,
    ⟨mk [k .psState 1, k .psRate 1, k .teqFomTarget 140, k .teqPresets 8] { live with tth := [(0, { found := 0xFF, step := 2, lanes := List.replicate 8 {} })] }, 0, 0,
      [⟨139, 255, 1, 1⟩], by decide⟩,
    ⟨mk [k .psState 2], 0, by decide⟩, ⟨mk [k .psState 3, k .plRxmask 1], 0, by decide⟩,
    ⟨mk [k .psState 4, k .plRxmask 128], 0, [⟨7, [0x3C, 0x5A, 0x96, 0xE1, 0x0F, 7, 0, 2], []⟩], ⟨7, [0x3C, 0x5A, 0x96, 0xE1, 0x0F, 7, 0, 2], []⟩, by decide⟩⟩

theorem test_hyp_TetherNarrowing :
    (∃ (s : State) (p : PortIx) (m : BitVec 8), s.blk.rd .psState p.val = 4 ∧ m.toNat ≠ 0 ∧ without m.toNat (s.blk.tt p.val).trained = 0 ∧
      (s.blk.tt p.val).giveF = none ∧ m.toNat ≠ s.blk.rd .plTxmask p.val ∧
      (s.blk.tt p.val).rxNak = false ∧ s.blk.flag .psTxDoze p.val = false) ∧
    (∃ (s : State) (p : PortIx) (m : BitVec 8), (s.blk.tt p.val).askMask = some m.toNat ∧ (s.blk.tt p.val).rxNak = false) ∧
    (∃ (s : State) (p : PortIx) (m : BitVec 8) (f : Nat), (s.blk.tt p.val).giveF = some (m.toNat, f) ∧ (s.blk.tt p.val).giveNext = none) ∧
    (∃ (s : State) (p : PortIx) (m : BitVec 8) (f : Nat), (s.blk.tt p.val).askF = some (m.toNat, f) ∧ (s.blk.tt p.val).again = false) :=
  ⟨⟨mk [k .psState 4, k .plTxmask 255] { tth := [(0, { trained := 255 })] }, 0, 15, by decide⟩, ⟨mk [] { tth := [(0, { askMask := some 15 })] }, 0, 15, by decide⟩,
    ⟨mk [] { tth := [(0, { giveF := some (15, 9) })] }, 0, 15, 9, by decide⟩, ⟨mk [] { tth := [(0, { askF := some (15, 9) })] }, 0, 15, 9, by decide⟩⟩

theorem test_hyp_TetherDoze :
    (∃ (s : State) (p : PortIx), s.blk.rd .psState p.val = 4 ∧ (s.blk.tt p.val).rxNak = false) ∧ (∃ (s : State) (p : PortIx), s.blk.rd .psState p.val = 5) ∧
    (∃ (s : State) (p : PortIx), s.blk.rd .psState p.val = 5 ∧ s.blk.flag .dozeEn p.val = true ∧ s.blk.flag .psTxDoze p.val = false ∧
      (s.blk.tt p.val).askMask = none ∧ (s.blk.tt p.val).giveF = none ∧ (s.blk.tt p.val).hold = none ∧ (s.blk.tt p.val).txOut = (s.blk.tt p.val).txSeq ∧
      (s.blk.x p.val).rspQ = []) ∧
    (∃ (s : State) (p : PortIx), s.blk.flag .psTxDoze p.val = true) ∧
    (∃ (s : State) (p : PortIx), s.blk.rd .psState p.val = 5 ∧ s.blk.flag .psRxDoze p.val = true) ∧
    (∃ (s : State) (p : PortIx), (s.blk.rd .psState p.val = 4 ∨ s.blk.rd .psState p.val = 5) ∧ s.blk.flag .psRxDoze p.val = false) ∧
    (∃ (s : State) (p : PortIx), (s.blk.tt p.val).rxUnack > 0 ∧ s.blk.flag .psTxDoze p.val = true ∧ s.blk.flag .pstDroop 0 = false) ∧
    (∃ (s : State) (p : PortIx), 2 ≤ s.blk.rd .psState p.val ∧ s.blk.flag .psTxDoze p.val = false) :=
  ⟨⟨mk [k .psState 4], 0, by decide⟩, ⟨mk [k .psState 5], 0, by decide⟩, ⟨mk [k .psState 5, k .dozeEn 1], 0, by decide⟩, ⟨mk [k .psTxDoze 1], 0, by decide⟩,
    ⟨mk [k .psState 5, k .psRxDoze 1], 0, by decide⟩, ⟨mk [k .psState 4], 0, by decide⟩,
    ⟨mk [k .psTxDoze 1] { tth := [(0, { rxUnack := 1 })] }, 0, by decide⟩, ⟨mk [k .psState 2], 0, by decide⟩⟩

/-- A flit of zeros: its code words are right and its CRC is not. -/
def flitBad : List Byte := List.replicate 192 0
/-- A control flit with one DOZE record: header 2, opcode 4, CRC-32 and check bytes worked out by hand from R249 and R250. -/
def flitDoze : List Byte := [2, 0, 4] ++ List.replicate 179 0 ++ [46, 244, 94, 243, 193, 226, 95, 55, 188, 134]

/-- The zeros flit as received. -/
def rxBad : FlitRx := ⟨List.replicate 192 0, [], false⟩
/-- The DOZE flit as received. -/
def rxDoze : FlitRx := ⟨flitDoze.map (·.toNat), [], true⟩

theorem good_of (l : List Nat) (v : Nat) (h : (flitCheck l).bytes = l)
    (ha : ([everyThird l, everyThird (l.drop 1), everyThird (l.drop 2)].map fixWord).all (·.isSome) = true) (hc : flitCrc (l.take 182) = v) :
    (flitCheck l).good = (v == leVals ((l.drop 182).take 4)) := by
  show (_ && flitCrc ((flitCheck l).bytes.take 182) == leVals (((flitCheck l).bytes.drop 182).take 4)) = _
  rw [h, hc, ha, Bool.true_and]
theorem rx_ext (r t : FlitRx) (h : r.bytes = t.bytes) (h1 : r.fixed = t.fixed) (h2 : r.good = t.good) : r = t := by
  cases r; cases t; simp_all
theorem crc_bad : flitCrc ((flitBad.map (·.toNat)).take 182) = 996327099 := by
  rw [flitCrc, foldl_foldNow]; decide +kernel
theorem crc_doze : flitCrc ((flitDoze.map (·.toNat)).take 182) = leVals [46, 244, 94, 243] := by
  rw [flitCrc, foldl_foldNow]; decide +kernel
theorem test_flit_bad : flitCheck (flitBad.map (·.toNat)) = rxBad :=
  rx_ext _ _ (by decide +kernel) (by decide +kernel) ((good_of _ _ (by decide +kernel) (by decide +kernel) crc_bad).trans (by decide +kernel))
theorem test_flit_doze : flitCheck (flitDoze.map (·.toNat)) = rxDoze :=
  rx_ext _ _ (by decide +kernel) (by decide +kernel) ((good_of _ _ (by decide +kernel) (by decide +kernel) crc_doze).trans (by decide +kernel))

theorem test_hyp_TetherLossResetFlits :
    (∃ (s : State) (p : PortIx), (s.blk.pin p.val).prstLow = false) ∧
    (∃ (s : State) (p : PortIx), (s.blk.sl p.val).rstT0 ≠ none ∧ s.blk.rd .slotPwrState p.val = 2 ∧ (s.blk.sl p.val).held = false ∧ (s.blk.sl p.val).relDone = false) ∧
    (∃ (s : State) (p : PortIx), (s.blk.tt p.val).nakOn = none) ∧
    (∃ (s : State) (p : PortIx), flitBad.length = 192 ∧ s.blk.hearsSkip p.val flitBad = false ∧ (flitCheck (flitBad.map (·.toNat))).fixed = [] ∧ (flitCheck (flitBad.map (·.toNat))).good = false ∧
      s.blk.flitsOn p.val = true) ∧
    (∃ (s : State) (p : PortIx) (r : FlitRx), flitDoze.length = 192 ∧ s.blk.hearsSkip p.val flitDoze = false ∧ flitCheck (flitDoze.map (·.toNat)) = r ∧ r.fixed = [] ∧ r.good = true ∧
      s.blk.rd .psState p.val = 5 ∧ r.hdr % 4 = 2 ∧ bit r.hdr 14 = false ∧ msgFld r.area 0 1 = 4 ∧ (s.blk.tt p.val).rxNak = false) ∧
    (∃ (s : State) (p : PortIx), skipBytes.length = 192 ∧ s.blk.hearsSkip p.val skipBytes = true) :=
  ⟨⟨mk [] { pins := [(0, { prstLow := false })] }, 0, by decide⟩, ⟨mk [k .slotPwrState 2] { slots := [(0, { rstT0 := some 4 })] }, 0, by decide⟩, ⟨mk [], 0, by decide⟩,
    ⟨mk [k .psState 4, k .plRxmask 255], 0, by rw [test_flit_bad]; decide +kernel⟩,
    ⟨mk [k .psState 5, k .plRxmask 255], 0, rxDoze, by decide +kernel, by decide +kernel, test_flit_doze, by decide +kernel⟩,
    ⟨mk [k .psState 5, k .plRxmask 255], 0, by decide +kernel⟩⟩

theorem test_hyp_SlotControl :
    (∃ (s : State) (v : SlotVia) (p : Nat), s.blk.slotVia v = some p ∧ s.blk.rd .slotPwrState p = 0 ∧ (s.blk.pin p).prsnt = true) ∧
    (∃ (s : State) (v : SlotVia) (p : Nat), s.blk.slotVia v = some p ∧ s.blk.rd .slotPwrState p = 2) ∧
    (∃ (s : State) (v : SlotVia) (p : Nat) (w : BitVec 32), s.blk.slotVia v = some p ∧ s.blk.rd .slotPwrState p = 2 ∧ (s.blk.sl p).held = false ∧
      w.toNat % 4 ≠ 1 ∧ w.toNat % 4 ≠ 2) ∧
    (∃ (s : State) (p : PortIx), s.blk.rd .slotPwrState p.val = 1 ∧ (s.blk.sl p.val).onWait = true ∧ s.blk.flag .pstDroop 0 = false ∧ s.blk.pow.ramp = false) ∧
    (∃ (s : State) (p : PortIx), s.blk.rd .slotPwrState p.val = 1 ∧ (s.blk.sl p.val).onWait = true ∧ s.blk.pow.ramp = true) ∧
    (∃ (s : State) (p : PortIx), (s.blk.pin p.val).pwren = true) ∧
    (∃ (s : State) (p : PortIx), s.blk.rd .slotPwrState p.val = 1 ∧ (s.blk.pin p.val).pwren = true) ∧
    (∃ (s : State) (p : PortIx), s.blk.rd .slotPwrState p.val = 2 ∧ (s.blk.sl p.val).relDone = true ∧ (s.blk.sl p.val).rstT0 = none) ∧
    (∃ (s : State) (p : PortIx), s.blk.rd .slotPwrState p.val = 3 ∧ (s.blk.sl p.val).offWait = true) ∧
    (∃ (s : State) (p : PortIx), s.blk.rd .slotPwrState p.val = 3 ∧ (s.blk.sl p.val).offWait = false ∧ (s.blk.sl p.val).kept = false) :=
  ⟨⟨mk [] { live with pins := [(0, { prsnt := true })] }, .fn 0, 0, by decide⟩, ⟨mk (k .slotPwrState 2 63 :: ready) live, .groom 63, 63, by decide⟩,
    ⟨mk (k .slotPwrState 2 63 :: ready) live, .groom 63, 63, 4, by decide⟩, ⟨mk [k .slotPwrState 1] { slots := [(0, { onWait := true })] }, 0, by decide⟩,
    ⟨mk [k .slotPwrState 1] { slots := [(0, { onWait := true })], pow := { ramp := true } }, 0, by decide⟩, ⟨mk [] { pins := [(0, { pwren := true })] }, 0, by decide⟩,
    ⟨mk [k .slotPwrState 1] { pins := [(0, { pwren := true })] }, 0, by decide⟩, ⟨mk [k .slotPwrState 2] { slots := [(0, { relDone := true })] }, 0, by decide⟩,
    ⟨mk [k .slotPwrState 3] { slots := [(0, { offWait := true })] }, 0, by decide⟩, ⟨mk [k .slotPwrState 3], 0, by decide⟩⟩

/-- Function 0 with the modes that its image has. -/
def fnC : FnRec := { fn0 with modes := 0x6B3, rom := 16, totalVfs := 0 }
/-- A copy of the image, good or with a wrong flash check. -/
def copy0 (ok : Bool) : ImageCopy := ⟨ok, 0, 0, true, 9, true, true, false, img0 [fnC]⟩

theorem test_hyp_BootAndImage :
    (∃ s : State, s.blk.pow.st = .on ∧ s.blk.boot.run = false ∧ s.blk.grm.dead = false ∧ s.blk.straps.test = true) ∧
    (∃ s : State, s.blk.pow.st = .on ∧ s.blk.boot.run = false ∧ s.blk.grm.dead = false ∧ s.blk.straps.test = false ∧
      s.blk.nextCopy = some .spiA) ∧
    (∃ s : State, s.blk.groomRuns = true ∧ s.blk.straps.safe = false ∧ (s.blk.rd .bootStage 0 = 1 ∨ s.blk.rd .bootStage 0 = 2) ∧ s.blk.sg.1 = []) ∧
    (∃ (s : State) (c : ImageCopy), s.blk.groomRuns = true ∧ (s.blk.rd .bootStage 0 = 1 ∨ s.blk.rd .bootStage 0 = 2 ∨ s.blk.rd .bootStage 0 = 3) ∧
      s.blk.nextCopy = some .spiA ∧ s.blk.checkCopy c = 1) ∧
    (∃ (s : State) (c : ImageCopy), s.blk.groomRuns = true ∧ s.blk.rd .bootStage 0 = 1 ∧ s.blk.nextCopy = some .spiA ∧ s.blk.checkCopy c ≠ 1 ∧
      s.blk.copyOrder.find? (fun x => !(s.blk.boot.read ++ [ImgSrc.spiA]).contains x) = some .spiB) ∧
    (∃ (s : State) (c : ImageCopy), s.blk.groomRuns = true ∧ s.blk.rd .bootStage 0 = 3 ∧ s.blk.nextCopy = some .spiA ∧ s.blk.checkCopy c ≠ 1 ∧
      s.blk.copyOrder.find? (fun x => !(s.blk.boot.read ++ [ImgSrc.spiA]).contains x) = none) ∧
    (∃ (s : State) (im : Image) (copyB : Bool), s.blk.boot.passed = some (im, copyB) ∧ s.blk.groomRuns = true ∧ s.blk.rd .bootStage 0 = 4) ∧
    (∃ (s : State) (im : Image), s.blk.img = some im ∧ s.blk.groomRuns = true ∧ s.blk.rd .bootStage 0 = 5) ∧
    (∃ s : State, s.blk.groomRuns = true ∧ s.blk.rd .bootStage 0 = 5 ∧ s.blk.grm.upd = none) ∧
    (∃ s : State, s.blk.groomRuns = true ∧ s.blk.rd .bootStage 0 = 5 ∧ s.blk.grm.upd.isSome = true) ∧
    (∃ s : State, s.blk.groomRuns = true ∧ s.blk.grm.treeGen = true) ∧
    (∃ (s : State) (r : ImgReq) (data : List Byte), s.blk.groomRuns = true ∧ s.blk.flag .haltInRing 0 = true ∧ s.blk.boot.total = none ∧
      s.blk.boot.reqs.find? (fun x => x.off == 0) = some r ∧ 12 ≤ min data.length r.len) ∧
    (∃ (s : State) (r : ImgReq) (t : List ImgReq), s.blk.groomRuns = true ∧ s.blk.boot.reqs = r :: t ∧ r.reps < 64) ∧
    (∃ (s : State) (r : ImgReq) (t : List ImgReq), s.blk.groomRuns = true ∧ s.blk.boot.reqs = r :: t ∧ 64 ≤ r.reps) :=
  ⟨⟨mk [] { live with straps := ⟨0, 0, false, false, false, true⟩, boot := {} }, by decide⟩, ⟨mk [] { live with boot := {} }, by decide⟩,
    ⟨mk [k .bootStage 1] { live with sg := ([], []) }, by decide⟩,
    ⟨mk [k .bootStage 1] live, copy0 true, by decide +kernel⟩, ⟨mk [k .bootStage 1] live, copy0 false, by decide +kernel⟩,
    ⟨mk [k .bootStage 3] { live with boot := { run := true, read := [.spiB] } }, copy0 false, by decide +kernel⟩,
    ⟨mk [k .bootStage 4] { live with boot := { run := true, passed := some (img0 [fn0], true) } }, img0 [fn0], true, by decide⟩,
    ⟨mk ready live, img0 [fn0], by decide⟩, ⟨mk ready live, by decide⟩, ⟨mk ready { live with grm := { upd := some ⟨.smbus, true, 64⟩ } }, by decide⟩,
    ⟨mk [] { live with grm := { treeGen := true } }, by decide⟩,
    ⟨mk [k .haltInRing 1] { live with boot := { run := true, reqs := [⟨0, 252, 0⟩] } }, ⟨0, 252, 0⟩, List.replicate 12 1, by decide⟩,
    ⟨mk [] { live with boot := { run := true, reqs := [⟨0, 252, 63⟩] } }, ⟨0, 252, 63⟩, [], by decide⟩,
    ⟨mk [] { live with boot := { run := true, reqs := [⟨0, 252, 64⟩] } }, ⟨0, 252, 64⟩, [], by decide⟩⟩

/-- A frame of the ring. -/
def frame0 (dst src ty : Nat) (ok : Bool) : HFrame := ⟨1, dst, src, ty, 0, [], ok⟩
/-- The module, of identifier 5, on the ring. -/
def ring : Block := { live with straps := ⟨0, 5, false, false, false, false⟩ }

theorem test_hyp_HalterAndJtag :
    (∃ (s : State) (fr : HFrame), s.blk.haltLive = true ∧ fr.ok = false) ∧
    (∃ (s : State) (fr : HFrame), s.blk.haltLive = true ∧ fr.ok = true ∧ fr.dst ≠ s.blk.straps.haltId.toNat ∧ fr.dst ≠ 0x7F ∧ fr.src ≠ s.blk.straps.haltId.toNat) ∧
    (∃ (s : State) (fr : HFrame), s.blk.haltLive = true ∧ fr.ok = true ∧ fr.dst = s.blk.straps.haltId.toNat ∧ fr.ty = 0) ∧
    (∃ (s : State) (fr : HFrame), s.blk.haltLive = true ∧ fr.ok = true ∧ fr.dst = s.blk.straps.haltId.toNat ∧ 6 < fr.ty) ∧
    (∃ s : State, s.blk.haltLive = true ∧ s.blk.halt.owed = true) ∧
    (∃ s : State, s.blk.haltLive = true ∧ s.blk.pow.st = .stand ∧ s.blk.flag .pstDroop 0 = false) ∧
    (∃ s : State, s.blk.inService = true ∧ s.blk.tap.portOn = true ∧ s.blk.flag .haltBypass 0 = false ∧ s.blk.inRing = false) ∧
    (∃ s : State, s.blk.tapLive = true) :=
  ⟨⟨mk [k .haltInRing 1] ring, frame0 5 1 2 false, by decide⟩, ⟨mk [k .haltInRing 1] ring, frame0 6 4 2 true, by decide⟩,
    ⟨mk [k .haltInRing 1] ring, frame0 5 1 0 true, by decide⟩, ⟨mk [k .haltInRing 1] ring, frame0 5 1 7 true, by decide⟩,
    ⟨mk [k .haltInRing 1] { ring with halt := { owed := true } }, by decide⟩, ⟨mk [k .haltInRing 1] { ring with pow := { st := .stand } }, by decide⟩,
    ⟨mk [] { live with tap := { portOn := true } }, by decide⟩, ⟨mk [] { live with tap := { portOn := true } }, by decide⟩⟩

/-- Function 0 with a virtual function 1. -/
def fn1 : FnRec := { fn0 with f := 1, vf := true, parent := 0 }

theorem test_hyp_GroomPairAndLoad :
    (∃ s : State, s.blk.groomRuns = true) ∧
    (∃ (s : State) (pair : List Nat), s.blk.grm.stopped = true ∧ pair = (List.range 3).filter (fun i => bit (s.blk.rd .coreInPair 0) i) ∧
      nextPair pair s.blk.grm.okCores s.blk.grm.lamePair = none) ∧
    (∃ (s : State) (pair np : List Nat), s.blk.grm.stopped = true ∧ pair = (List.range 3).filter (fun i => bit (s.blk.rd .coreInPair 0) i) ∧
      nextPair pair s.blk.grm.okCores s.blk.grm.lamePair = some np ∧ s.blk.loom.stopped = false) ∧
    (∃ s : State, s.blk.groomRuns = true ∧ s.blk.flag .loadShed 0 = false ∧ s.blk.grm.queue ≠ [] ∧ s.blk.rd .svcShedDepth 0 ≤ s.blk.grm.queue.length ∧
      s.blk.rd .svcShedDepth 0 ≤ 2 * s.blk.grm.queue.length) ∧
    (∃ (s : State) (tr : Transport) (ty : Nat), s.blk.reaches tr = true ∧ typeOk tr ty = true) ∧
    (∃ (s : State) (f : FnIx), s.blk.reaches (.doe f) = true) :=
  ⟨⟨mk [] live, by decide⟩, ⟨mk [] { live with grm := { stopped := true } }, [0, 1], by decide⟩,
    ⟨mk [] { live with grm := { stopped := true, okCores := [1] } }, [0, 1], [1, 2], by decide⟩,
    ⟨mk [k .svcShedDepth 1] { live with grm := { queue := [.smbus] } }, by decide⟩, ⟨mk [] live, .smbus, 0x7E, by decide⟩,
    ⟨mk up live, 0, by decide⟩⟩

theorem test_hyp_GroomServices :
    (∃ (s : State) (tr : Transport) (a n : Nat), boardSide tr = true ∧ s.blk.serves tr = true ∧ accessOk a n = true) ∧
    (∃ (s : State) (tr : Transport) (a n : Nat), boardSide tr = true ∧ s.blk.serves tr = true ∧ accessOk a n = false) ∧
    (∃ (s : State) (tr : Transport) (a : Nat) (r : RegRef), boardSide tr = true ∧ s.blk.serves tr = true ∧ accessOk a 1 = true ∧ 5 ≤ s.blk.rd .bootStage 0 ∧
      internalReg a = some r ∧ r.reg = .haltCtrl) ∧
    (∃ (s : State) (tr : Transport) (a : Nat) (ws : List (BitVec 32)), boardSide tr = true ∧ s.blk.serves tr = true ∧ accessOk a ws.length = true ∧
      s.blk.rd .bootStage 0 ≤ 4) ∧
    (∃ (s : State) (tr : Transport), boardSide tr = true ∧ s.blk.serves tr = true ∧ s.blk.grm.deferred = false ∧ s.blk.grm.upd = none) ∧
    (∃ (s : State) (tr : Transport), boardSide tr = true ∧ s.blk.serves tr = true ∧ s.blk.grm.deferred = false ∧ s.blk.grm.upd ≠ none) ∧
    (∃ (s : State) (tr : Transport), mctpSide tr = true ∧ s.blk.serves tr = true) ∧ (∃ s : State, s.blk.inService = true) :=
  ⟨⟨mk [] live, .smbus, 0x10FFFFFFF0, 4, by decide⟩, ⟨mk [] live, .smbus, 0x10FFFFFFF4, 4, by decide⟩,
    ⟨mk ready live, .smbus, 0xF00040004, ⟨.haltCtrl, 0, 0, 0⟩, by decide +kernel⟩, ⟨mk [k .bootStage 4] live, .smbus, 0, [0], by decide⟩,
    ⟨mk [] live, .smbus, by decide⟩, ⟨mk [] { live with grm := { upd := some ⟨.smbus, true, 64⟩ } }, .smbus, by decide⟩, ⟨mk [] live, .smbus, by decide⟩,
    ⟨mk [] live, by decide⟩⟩

theorem test_hyp_ImageUpdate :
    (∃ (s : State) (tr : Transport) (copyB : Bool) (n : Nat), boardSide tr = true ∧ s.blk.serves tr = true ∧ 64 ≤ n ∧ n ≤ 4096 ∧
      s.blk.rd .bootStage 0 = 5 ∧ s.blk.flag .bootCopy 0 ≠ copyB ∧ s.blk.grm.deferred = false ∧ s.blk.grm.upd = none) ∧
    (∃ (s : State) (tr : Transport) (n : Nat), boardSide tr = true ∧ s.blk.serves tr = true ∧ 64 ≤ n ∧ n ≤ 4096 ∧
      s.blk.rd .bootStage 0 = 6 ∧ s.blk.grm.deferred = false ∧ s.blk.grm.upd = none) ∧
    (∃ (s : State) (tr : Transport) (n : Nat), boardSide tr = true ∧ s.blk.serves tr = true ∧ ¬ (64 ≤ n ∧ n ≤ 4096)) ∧
    (∃ s : State, s.blk.grm.deferred = false) ∧ (∃ s : State, s.blk.grm.deferred = true) :=
  ⟨⟨mk ready live, .smbus, true, 4096, by decide⟩, ⟨mk [k .bootStage 6] live, .smbus, 64, by decide⟩, ⟨mk ready live, .smbus, 63, by decide⟩,
    ⟨mk [], by decide⟩, ⟨mk [] { grm := { deferred := true } }, by decide⟩⟩

/-- Link 0's partner management transport with an SPDM connection at a stage. -/
def spdm (c : Conn) (ss : List Sess := []) : Block := { live with grm := { conns := [c], sess := ss } }

theorem test_hyp_SpdmRequests :
    (∃ (s : State) (tr : Transport), s.blk.spdmReady tr 0 = true) ∧ (∃ (s : State) (tr : Transport), s.blk.spdmReady tr 1 = true) ∧
    (∃ (s : State) (tr : Transport), s.blk.spdmReady tr 2 = true) ∧
    (∃ (s : State) (tr : Transport), s.blk.spdmReady tr 3 = true ∧ (s.blk.conn tr).rest ≠ []) ∧
    (∃ (s : State) (tr : Transport), s.blk.spdmReady tr 3 = true ∧ (s.blk.conn tr).signed = none) ∧
    (∃ (s : State) (tr : Transport) (d : List Byte), s.blk.spdmReady tr 3 = true ∧ (s.blk.conn tr).signed = some d ∧ (s.blk.conn tr).stored = none ∧
      s.blk.flag .lmsReady 0 = true ∧ s.blk.rd .lmsIndex 0 + 1 < 2 ^ 20) :=
  ⟨⟨mk ready live, .smbus, by decide⟩, ⟨mk ready (spdm { tr := .smbus, stage := 1 }), .smbus, by decide⟩,
    ⟨mk ready (spdm { tr := .smbus, stage := 2 }), .smbus, by decide⟩, ⟨mk ready (spdm { tr := .smbus, stage := 3, rest := [1] }), .smbus, by decide⟩,
    ⟨mk ready (spdm { tr := .smbus, stage := 3 }), .smbus, by decide⟩,
    ⟨mk (k .lmsReady 1 :: k .lmsIndex 1048574 :: ready) (spdm { tr := .smbus, stage := 3, signed := some [1] }), .smbus, [1], by decide⟩⟩

/-- The transport of function 0's DOE mailbox at stage 3, link 0 up, with sessions. -/
def doe0 (ss : List Sess) (links : List (Nat × LinkDyn) := []) : Block :=
  { live with grm := { conns := [{ tr := .doe 0, stage := 3 }], sess := ss }, links := links }

theorem test_hyp_SpdmSessionsAndIdeKeys :
    (∃ (s : State) (tr : Transport), s.blk.spdmReady tr 3 = true ∧ (s.blk.grm.sess.filter (fun x => x.tr == tr)).length < 8 ∧ s.blk.grm.sess.length < 128) ∧
    (∃ (s : State) (tr : Transport), s.blk.spdmReady tr 3 = true ∧ 128 ≤ s.blk.grm.sess.length) ∧
    (∃ (s : State) (tr : Transport) (id : Nat), s.blk.spdmReady tr 3 = true ∧ s.blk.sessIs tr id (fun x => !x.est) = true ∧ s.blk.sessIs tr id (·.est) = false) ∧
    (∃ (s : State) (tr : Transport) (id : Nat), s.blk.spdmReady tr 3 = true ∧ s.blk.sessIs tr id (·.est) = true) ∧
    (∃ (s : State) (tr : Transport) (n : Nat) (l : LinkIx) (id : Nat) (i : Fin 3) (tx k : Bool), s.blk.spdmReady tr 3 = true ∧ s.blk.kmOk tr n l.val = true ∧
      id ∈ s.blk.streamIds l.val ∧ s.blk.streamIs l.val id (fun x => x.keys.any (fun y => y.at' i.val tx k)) = false) ∧
    (∃ (s : State) (tr : Transport) (n : Nat) (l : LinkIx) (id : Nat) (i : Fin 3) (tx k : Bool), s.blk.spdmReady tr 3 = true ∧ s.blk.kmOk tr n l.val = true ∧
      s.blk.streamIs l.val id (fun x => x.keys.any (fun y => y.at' i.val tx k)) = true ∧ s.blk.streamIs l.val id (·.secure) = false) :=
  ⟨⟨mk (ready ++ up) (doe0 (List.replicate 7 ⟨.doe 0, 1, true, 0⟩)), .doe 0, by decide⟩,
    ⟨mk (ready ++ up) (doe0 (List.replicate 128 ⟨.smbus, 1, true, 0⟩)), .doe 0, by decide +kernel⟩,
    ⟨mk (ready ++ up) (doe0 [⟨.doe 0, 1, false, 0⟩]), .doe 0, 1, by decide⟩, ⟨mk (ready ++ up) (doe0 [⟨.doe 0, 1, true, 0⟩]), .doe 0, 1, by decide⟩,
    ⟨mk (ready ++ sel9 ++ up) (doe0 [⟨.doe 0, 1, true, 0⟩]), .doe 0, 1, 0, 9, 2, true, true, by decide +kernel⟩,
    ⟨mk (ready ++ sel9 ++ up) (doe0 [⟨.doe 0, 1, true, 0⟩] [(0, ide9 false)]), .doe 0, 1, 0, 9, 0, true, false, by decide +kernel⟩⟩

theorem test_hyp_TdiRequests :
    (∃ (s : State) (tr : Transport) (n : Nat) (f : FnIx), s.blk.spdmReady tr 3 = true ∧ s.blk.tdiSession tr n f.val = true ∧ s.blk.mode f.val 8 = true ∧
      s.blk.lockOk f.val = true ∧ s.blk.rd .tdiState f.val = 0) ∧
    (∃ (s : State) (tr : Transport) (n : Nat) (f : FnIx), s.blk.spdmReady tr 3 = true ∧ s.blk.tdiSession tr n f.val = true ∧ s.blk.mode f.val 8 = true ∧
      s.blk.lockOk f.val = false ∧ s.blk.rd .tdiState f.val = 1) ∧
    (∃ (s : State) (tr : Transport) (n : Nat) (f : FnIx), s.blk.spdmReady tr 3 = true ∧ s.blk.tdiSession tr n f.val = true ∧ s.blk.mode f.val 8 = true ∧
      s.blk.tdiOn f.val = true) ∧
    (∃ (s : State) (tr : Transport) (n : Nat) (f : FnIx), s.blk.spdmReady tr 3 = true ∧ s.blk.tdiSession tr n f.val = true ∧ s.blk.mode f.val 8 = true ∧
      s.blk.tdiOn f.val = false) :=
  ⟨⟨mk (ready ++ sel9 ++ act ++ up) (doe0 [⟨.doe 0, 1, true, 0⟩] [(0, ide9 true)]), .doe 0, 1, 0, by decide +kernel⟩,
    ⟨mk (k .tdiState 1 :: ready ++ up) (doe0 [⟨.doe 0, 1, true, 0⟩]), .doe 0, 1, 0, by decide +kernel⟩,
    ⟨mk (k .tdiState 1 :: ready ++ up) (doe0 [⟨.doe 0, 1, true, 0⟩]), .doe 0, 1, 0, by decide +kernel⟩,
    ⟨mk (ready ++ up) (doe0 [⟨.doe 0, 1, true, 0⟩]), .doe 0, 1, 0, by decide +kernel⟩⟩

/-- A running image with function 0 on link 0, up. -/
def run (regs : List (RKey × Nat) := []) (fn : FnDyn := {}) (b : Block := live) : State := mk (regs ++ ready ++ up) { b with fns := [(0, fn)] }

theorem test_hyp_MasteringAndReset :
    (∃ (s : State) (f : FnIx) (alt v : Bool), s.blk.cfgOk f.val (b2n alt) = true ∧ s.blk.flag .cfgBme f.val (b2n alt) ≠ v) ∧
    (∃ (s : State) (f : FnIx) (alt : Bool) (t : List (Bool × Bool)), (s.blk.fn f.val).bmeQ = (alt, true) :: t) ∧
    (∃ (s : State) (f : FnIx) (alt : Bool) (t : List (Bool × Bool)), (s.blk.fn f.val).bmeQ = (alt, false) :: t) ∧
    (∃ (s : State) (f : FnIx) (r : FnRec), s.blk.fnRec? f.val = some r ∧ s.blk.vfOn r (s.blk.actSet f.val) = true ∧ (s.blk.fn f.val).flr = none) ∧
    (∃ (s : State) (f : FnIx) (alt : Bool), s.blk.cfgOk f.val (b2n alt) = true ∧ b2n alt = s.blk.actSet f.val) ∧
    (∃ (s : State) (f : FnIx) (x : FlrSt), (s.blk.fn f.val).flr = some x ∧ (s.blk.fn f.val).np.any (fun t => t.st == .sent || t.st == .silent) = false) :=
  ⟨⟨run, 0, false, true, by decide +kernel⟩, ⟨run [] { bmeQ := [(false, true)] }, 0, false, [], by decide⟩, ⟨run [] { bmeQ := [(true, false)] }, 0, true, [], by decide⟩,
    ⟨run, 0, fn0, by decide +kernel⟩, ⟨run, 0, false, by decide +kernel⟩, ⟨run [] { flr := some ⟨0, false, []⟩ }, 0, ⟨0, false, []⟩, by decide⟩⟩

theorem test_hyp_FunctionSetup :
    (∃ (s : State) (f : FnIx) (alt : Bool) (r : FnRec), s.blk.cfgOk f.val (b2n alt) = true ∧ s.blk.fnRec? f.val = some r ∧ r.vf = false ∧ r.totalVfs ≠ 0 ∧
      s.blk.flag .vfEnable f.val (b2n alt) = false) ∧
    (∃ (s : State) (f : FnIx) (alt : Bool) (r : FnRec), s.blk.cfgOk f.val (b2n alt) = true ∧ s.blk.fnRec? f.val = some r ∧ r.vf = false ∧ r.bar2 ≠ 0 ∧ r.bar4 ≠ 0 ∧
      romLog2 r ≠ 0) ∧
    (∃ (s : State) (f : FnIx) (alt : Bool) (r : FnRec), s.blk.cfgOk f.val (b2n alt) = true ∧ s.blk.fnRec? f.val = some r ∧ r.vf = false ∧ r.bar2 = 0) ∧
    (∃ (s : State) (f : FnIx) (alt : Bool) (r : FnRec), s.blk.cfgOk f.val (b2n alt) = true ∧ s.blk.fnRec? f.val = some r ∧ r.privileged = true) ∧
    (∃ (s : State) (l : LinkIx) (r : FnRec), s.blk.linkF0 l.val = some r ∧ s.blk.cfgOk r.f (setOn r l.val) = true ∧
      s.blk.flag .cfgLtrEn r.f (setOn r l.val) = false ∧ s.blk.dlActive l.val = true) :=
  ⟨⟨run, 0, false, fn0, by decide +kernel⟩, ⟨run, 0, false, fn0, by decide +kernel⟩,
    ⟨run [] {} { live with img := some (img0 [{ fn0 with bar2 := 0 }]) }, 0, false, { fn0 with bar2 := 0 }, by decide +kernel⟩,
    ⟨run, 0, false, fn0, by decide +kernel⟩, ⟨run, 0, fn0, by decide +kernel⟩⟩

/-- A non-posted request of function 0 with an owner, in a state. -/
def tag0 (own : HOwner) (st : HSt := .sent) (cto : Option Nat := some 5) : HTag := ⟨1, own, st, 9, 0, 4, none, false, none, false, [], 0, 0, cto, [], false⟩
/-- An accepted Memory Write of function 0. -/
def pwr0 (sent : Bool) : PWr := ⟨.head 0, 0, 0x1000, [(1, true)], false, none, false, none, false, sent, false⟩

theorem test_hyp_HostTraffic :
    (∃ (s : State) (l : LinkIx) (n : Nat), n = 1 ∧ (((s.blk.lk l.val).posted.filter (·.sent)).take n).all (fun w => match w.own with | .lm _ _ | .chunk _ _ => false | _ => true) = true) ∧
    (∃ (s : State) (l : LinkIx) (f : FnIx) (tag : Nat), s.blk.streamBad l.val none = false ∧ s.blk.fnExists f.val = true ∧ s.blk.tableDisc f.val = false ∧
      (s.blk.fn f.val).np.find? (fun t => t.st != .waiting && t.tag == tag) = none) ∧
    (∃ (s : State) (l : LinkIx) (str : Option Nat), s.blk.streamBad l.val str = true) ∧
    (∃ (s : State) (l : LinkIx) (f : FnIx) (tag q : Nat) (data : List Byte) (t : HTag) (str : Option Nat), s.blk.streamBad l.val str = false ∧ s.blk.loom.stopped = false ∧
      s.blk.fnExists f.val = true ∧ l.val = s.blk.actLink f.val ∧
      (s.blk.fn f.val).np.find? (fun t => t.st != .waiting && t.tag == tag) = some t ∧ t.st = .sent ∧ t.own = .qIndex q ∧ t.len ≤ (npTake t data false).length ∧
      s.blk.qDead (q / 32) (q % 32) = false) ∧
    (∃ (s : State) (f : FnIx) (tag q : Nat) (t : HTag), s.blk.loom.stopped = false ∧ t.own = .qIndex q ∧ s.blk.qDead (q / 32) (q % 32) = false ∧ t.st = .sent ∧
      (s.blk.fn f.val).np.find? (fun t => (t.st == .sent || t.st == .silent) && t.tag == tag && t.cto.isSome) = some t) ∧
    (∃ (s : State) (f : FnIx) (tag q : Nat) (t : HTag), s.blk.loom.stopped = false ∧ t.own = .qIndex q ∧ s.blk.qDead (q / 32) (q % 32) = false ∧ t.st = .sent ∧
      (s.blk.fn f.val).np.find? (fun t => (t.st == .sent || t.st == .silent) && t.tag == tag && npKind t.own == 2) = some t) ∧
    (∃ (s : State) (f : FnIx) (tag : Nat) (t : HTag), (s.blk.fn f.val).np.find? (fun t => (t.st == .quar || t.st == .quarSilent) && t.tag == tag && t.cto.isSome) = some t) :=
  ⟨⟨mk [] { live with links := [(0, { posted := [pwr0 true, pwr0 true, pwr0 false] })] }, 0, 1, by decide⟩, ⟨run, 0, 0, 9, by decide +kernel⟩,
    ⟨run sel9 {} { live with links := [(0, { ide := [⟨9, [], false, true⟩] })] }, 0, some 9, by decide +kernel⟩,
    ⟨run [k .qState 1] { np := [tag0 (.qIndex 0)] }, 0, 0, 9, 0, [1, 2, 3, 4], tag0 (.qIndex 0), none, by decide +kernel⟩,
    ⟨run [k .qState 1] { np := [tag0 (.qIndex 0)] }, 0, 9, 0, tag0 (.qIndex 0), by decide +kernel⟩,
    ⟨run [k .qState 1] { np := [tag0 (.qIndex 0)] }, 0, 9, 0, tag0 (.qIndex 0), by decide +kernel⟩,
    ⟨run [] { np := [tag0 (.qIndex 0) .quar] }, 0, 9, tag0 (.qIndex 0) .quar, by decide⟩⟩

theorem test_hyp_Translations :
    (∃ (s : State) (f : FnIx) (tag rid : Nat) (d : XlDone) (t : HTag) (x : XlReq), (s.blk.fn f.val).np.find? (fun t => t.st != .waiting && t.tag == tag) = some t ∧
      t.own = .xlate rid ∧ t.st = .sent ∧ s.blk.xreq? f.val rid = some x ∧ d.status = .sc ∧ s.blk.streamBad (s.blk.actLink f.val) d.stream = false ∧ x.invs = [] ∧ x.waits = [] ∧
      (d.rd || d.wr) = true ∧ s.blk.atsFull f.val = false) ∧
    (∃ (s : State) (f : FnIx), s.blk.streamBad (s.blk.actLink f.val) none = false) ∧
    (∃ (s : State) (f : FnIx) (v : Inval) (vs : List Inval), (s.blk.fn f.val).invs = v :: vs ∧ s.blk.inL0 (s.blk.actLink f.val) = true ∧
      (s.blk.fn f.val).np.any (fun t => (t.st == .waiting || t.st == .sent || t.st == .silent) && (match t.ent with | some e => v.ents.contains e | none => false)) = false ∧
      (s.blk.lk (s.blk.actLink f.val)).posted.any (fun w => !w.sent && (match w.ent with | some e => v.ents.contains e | none => false)) = false) :=
  ⟨⟨run [] { np := [tag0 (.xlate 3)], xreqs := [⟨3, 0, 4096, none, [], []⟩] }, 0, 9, 3, ⟨.sc, 0x5000, 4096, true, false, false, false, none⟩, tag0 (.xlate 3),
      ⟨3, 0, 4096, none, [], []⟩, by decide +kernel⟩,
    ⟨run, 0, by decide +kernel⟩, ⟨run [] { np := [tag0 (.qIndex 0)], invs := [⟨31, [4]⟩] }, 0, ⟨31, [4]⟩, [], by decide +kernel⟩⟩

/-- Queue 0 of function 0 of a running image. -/
def que (regs : List (RKey × Nat) := []) (q : QDyn := {}) (b : Block := live) : State := mk (regs ++ ready ++ up) { b with queues := [(0, q)] }

theorem test_hyp_QueueRegisters :
    (∃ (s : State) (f : FnIx) (n : QIx), s.blk.fnExists f.val = true ∧ (s.blk.q f.val n.val).moving = false ∧ s.blk.qUnlocked f.val n.val = true) ∧
    (∃ (s : State) (f : FnIx) (n : QIx), s.blk.fnExists f.val = true ∧ (s.blk.q f.val n.val).moving = false ∧ s.blk.qUnlocked f.val n.val = false) ∧
    (∃ (off : Nat) (v : BitVec 32), 28 ≤ off ∧ off < 32 ∧ v.toNat ≤ 1000) ∧ (∃ (off : Nat) (v : BitVec 32), 28 ≤ off ∧ off < 32 ∧ 1000 < v.toNat % 2 ^ 11) ∧
    (∃ (s : State) (f : FnIx) (n : QIx), s.blk.fnExists f.val = true ∧ (s.blk.q f.val n.val).moving = true) :=
  ⟨⟨que, 0, 31, by decide +kernel⟩, ⟨que [k .qState 6], 0, 0, by decide +kernel⟩, ⟨28, 1000, by decide⟩, ⟨31, 1001, by decide⟩,
    ⟨que [] { moving := true }, 0, 0, by decide +kernel⟩⟩

/-- A context that ENABLE accepts. -/
def ctx0 : List (RKey × Nat) := [k .qLog2 4, k .qRingBase 1, k .qPidxAddr 1, k .qHidxAddr 1, k .cfgBmeEff 1]

theorem test_hyp_QueueCommands :
    (∃ (s : State) (f : FnIx) (n : QIx), s.blk.fnExists f.val = true ∧ (s.blk.q f.val n.val).moving = false ∧ s.blk.qSt f.val n.val ≠ 6 ∧
      s.blk.flag .qResetBusy f.val n.val = false ∧ 1 ≤ s.blk.qSt f.val n.val ∧ s.blk.qSt f.val n.val ≤ 4 ∧ (s.blk.q f.val n.val).chunks = []) ∧
    (∃ (s : State) (f : FnIx) (n : QIx), s.blk.fnExists f.val = true ∧ (s.blk.q f.val n.val).moving = false ∧ s.blk.qSt f.val n.val = 5) ∧
    (∃ (s : State) (f : FnIx) (n : QIx), s.blk.fnExists f.val = true ∧ (s.blk.q f.val n.val).moving = false ∧ s.blk.qSt f.val n.val = 0 ∧
      s.blk.val .qAvailable f.val n.val ≠ 0 ∧ s.blk.flag .qResetBusy f.val n.val = false ∧ s.blk.ctxBad f.val n.val ≠ 0) ∧
    (∃ (s : State) (f : FnIx) (n : QIx), s.blk.fnExists f.val = true ∧ (s.blk.q f.val n.val).moving = false ∧ s.blk.qSt f.val n.val = 0 ∧
      s.blk.val .qAvailable f.val n.val ≠ 0 ∧ s.blk.flag .qResetBusy f.val n.val = false ∧ s.blk.ctxBad f.val n.val = 0 ∧ s.blk.flag .qPauseDrv f.val n.val = true) ∧
    (∃ (s : State) (f : FnIx) (n : QIx), s.blk.fnExists f.val = true ∧ (s.blk.q f.val n.val).moving = false ∧ s.blk.qSt f.val n.val = 0 ∧
      s.blk.val .qAvailable f.val n.val ≠ 0 ∧ s.blk.flag .qResetBusy f.val n.val = false ∧ s.blk.ctxBad f.val n.val = 0 ∧ s.blk.bme f.val = true ∧
      s.blk.flag .qPauseDrv f.val n.val = false ∧ s.blk.ideCut f.val (some (s.blk.rd .qPidxAddr f.val n.val * 4)) = false ∧
      s.blk.rd .qHead f.val n.val = s.blk.rd .qLastWb f.val n.val) :=
  ⟨⟨que [k .qState 4], 0, 0, by decide +kernel⟩, ⟨que [k .qState 5], 0, 0, by decide +kernel⟩, ⟨que, 0, 0, by decide +kernel⟩,
    ⟨que (k .qPauseDrv 1 :: ctx0), 0, 0, by decide +kernel⟩, ⟨que ctx0, 0, 0, by decide +kernel⟩⟩

/-- BARs of function 0: the FCP at 2 MiB, window A at 64 KiB, window B at 128 KiB, the Expansion ROM at 4 MiB, Memory Space Enable. -/
def bars : List (RKey × Nat) := [k .cfgBar0 0x200000, k .cfgBar2 0x10000, k .cfgBar4 0x20000, k .cfgRomBar 0x400000, k .cfgRomEn 1, k .cfgMse 1]

theorem test_hyp_QueueCommandOrder :
    (∃ (s : State) (r : HReq) (f : FnIx) (n : QIx) (v : BitVec 32), s.blk.claims r f.val .bar0 (0x8000 + 512 * n.val + 32) ∧
      s.blk.fnExists f.val = true ∧ r.en = [true, true, true, true] ∧ hwriteOk r = true ∧ r.ep = false ∧ leNat r.data = v.toNat ∧ (s.blk.q f.val n.val).moving = false) ∧
    (∃ (s : State) (r : HReq) (f : FnIx) (n : QIx) (v : BitVec 32), s.blk.claims r f.val .bar0 (0x8000 + 512 * n.val + 32) ∧
      s.blk.fnExists f.val = true ∧ r.en = [true, true, true, true] ∧ hwriteOk r = true ∧ r.ep = false ∧ leNat r.data = v.toNat ∧ (s.blk.q f.val n.val).moving = true) :=
  ⟨⟨que bars, req4 0x208020 [3, 0, 0, 0], 0, 0, 3, by simp only [Block.claims]; decide +kernel⟩,
    ⟨que bars { moving := true }, req4 0x208020 [31, 0, 0, 0], 0, 0, 31, by simp only [Block.claims]; decide +kernel⟩⟩

theorem test_hyp_QueueProgress :
    (∃ (s : State) (f : FnIx) (n : QIx), s.blk.flag .qResetBusy f.val n.val = true ∧ s.blk.qOpen f.val n.val = false) ∧
    (∃ (s : State) (f : FnIx) (n : QIx), s.blk.qSt f.val n.val = 3 ∧ s.blk.qQuiet f.val n.val = true ∧ (∀ c ∈ (s.blk.q f.val n.val).chunks, c.st ≠ .writing)) ∧
    (∃ (s : State) (f : FnIx) (n : QIx), s.blk.qSt f.val n.val = 5 ∧ s.blk.qQuiet f.val n.val = true ∧ s.blk.flag .qArmPending f.val n.val = false) ∧
    (∃ (s : State) (f : FnIx) (n : QIx), (s.blk.q f.val n.val).coalT.isSome = true ∧ s.blk.rd .qCoalTimeUs f.val n.val ≠ 0 ∧ s.blk.bme f.val = true ∧
      s.blk.rd .qHead f.val n.val ≠ s.blk.rd .qLastWb f.val n.val) ∧
    (∃ (s : State) (f : FnIx) (n : QIx), (s.blk.q f.val n.val).wbOut ≠ 0 ∧ s.blk.flag .qMsixEn f.val n.val = true ∧ s.blk.flag .qResetBusy f.val n.val = false ∧
      s.blk.delivery f.val = 3) ∧
    (∃ (s : State) (f : FnIx) (n : QIx), (s.blk.q f.val n.val).wbOut ≠ 0 ∧ s.blk.flag .qMsixEn f.val n.val = true ∧ s.blk.flag .qResetBusy f.val n.val = false ∧
      s.blk.delivery f.val = 1 ∧ s.blk.vecMasked f.val (s.blk.rd .qMsixVec f.val n.val) = true) ∧
    (∃ (s : State) (i : ShutIx), s.blk.mayPark i.val = true) ∧
    (∃ (s : State) (i : ShutIx) (m : MoveRec), s.blk.moves.find? (fun m => m.lame == i.val) = some m ∧ m.qs = []) :=
  ⟨⟨que [k .qResetBusy 1], 0, 0, by decide +kernel⟩, ⟨que [k .qState 3], 0, 0, by decide +kernel⟩, ⟨que [k .qState 5], 0, 0, by decide +kernel⟩,
    ⟨que [k .qCoalTimeUs 1000, k .qHead 1, k .cfgBmeEff 1] { coalT := some 0 }, 0, 0, by decide +kernel⟩,
    ⟨que [k .qMsixEn 1, k .cfgIntDis 1] { wbOut := 1 }, 0, 0, by decide +kernel⟩,
    ⟨que [k .qMsixEn 1, k .cfgMsixEn 1, k .qMsixVec 63, k .msixVmask 1 0 63] { wbOut := 1 }, 0, 0, by decide +kernel⟩,
    ⟨mk ready { live with buckets := [31] }, 31, by decide +kernel⟩, ⟨mk [] { live with moves := [⟨0, 5, none, []⟩] }, 5, ⟨0, 5, none, []⟩, by decide⟩⟩

/-- A descriptor of 64 bytes that copies 16 bytes within the port's memory, before its chunks are cut. -/
def run0 (commit : Nat := 0) : DescRun :=
  ⟨{ ix := 0, opcode := 1, frag := false, fragDst := false, weave := false, fence := false, wrf := false, page := false, noRepeat := false, noSnoop := false,
     spaces := 5, wslot := 0, len := 16, src := 0x100, dst := 0x200, fragAddr := 0, fragCount := 0, coal := 0, pasid := none },
   none, [], 0, false, 0, commit, false, []⟩

theorem test_hyp_QueueFetch :
    (∃ (s : State) (f : FnIx) (n : QIx), (s.blk.q f.val n.val).moving = false ∧ s.blk.fnExists f.val = true ∧ s.blk.qSt f.val n.val = 3) ∧
    (∃ (s : State) (f : FnIx) (n : QIx), (s.blk.q f.val n.val).moving = false ∧ s.blk.fnExists f.val = true ∧ s.blk.qSt f.val n.val = 1 ∧
      (s.blk.q f.val n.val).idxIn = none ∧ (s.blk.q f.val n.val).idxOut = false ∧ s.blk.ideCut f.val (some (s.blk.rd .qPidxAddr f.val n.val * 4)) = false) ∧
    (∃ (s : State) (f : FnIx) (n : QIx) (x : FetchIn), (s.blk.q f.val n.val).moving = false ∧ (s.blk.q f.val n.val).idxIn = some x ∧ s.blk.qSt f.val n.val = 5 ∧
      x.st ≠ 0 ∧ x.st < 256) ∧
    (∃ (s : State) (f : FnIx) (n : QIx) (x : FetchIn) (p : Nat), (s.blk.q f.val n.val).moving = false ∧ (s.blk.q f.val n.val).idxIn = some x ∧ s.blk.qSt f.val n.val = 1 ∧
      x.st = 0 ∧ x.data.any (·.2) = false ∧ p = leNat (x.data.map (·.1)) % 2 ^ 32 ∧ s.blk.ringSize f.val n.val < s.blk.qPend f.val n.val p) ∧
    (∃ (s : State) (f : FnIx) (n : QIx) (x : FetchIn) (p : Nat), (s.blk.q f.val n.val).moving = false ∧ (s.blk.q f.val n.val).idxIn = some x ∧ s.blk.qSt f.val n.val = 2 ∧
      x.st = 0 ∧ x.data.any (·.2) = false ∧ p = leNat (x.data.map (·.1)) % 2 ^ 32 ∧ s.blk.qPend f.val n.val p ≤ s.blk.ringSize f.val n.val ∧
      s.blk.qPend f.val n.val p < s.blk.qPend f.val n.val (s.blk.rd .qProd f.val n.val)) ∧
    (∃ (s : State) (f : FnIx) (n : QIx) (x : FetchIn) (p : Nat), (s.blk.q f.val n.val).moving = false ∧ (s.blk.q f.val n.val).idxIn = some x ∧ s.blk.qSt f.val n.val = 4 ∧
      x.st = 0 ∧ x.data.any (·.2) = false ∧ p = leNat (x.data.map (·.1)) % 2 ^ 32 ∧ s.blk.qPend f.val n.val p ≤ s.blk.ringSize f.val n.val ∧
      s.blk.qPend f.val n.val (s.blk.rd .qProd f.val n.val) ≤ s.blk.qPend f.val n.val p) ∧
    (∃ (s : State) (f : FnIx) (n : QIx) (x : FetchIn) (xs : List FetchIn) (r : DescRun), (s.blk.q f.val n.val).moving = false ∧ (s.blk.q f.val n.val).fragIn = x :: xs ∧
      (s.blk.q f.val n.val).descs.find? (fun r => r.d.ix == x.dix) = some r ∧ s.blk.qSt f.val n.val = 1 ∧ x.st ≠ 0 ∧ x.st < 256) ∧
    (∃ (s : State) (f : FnIx) (n : QIx) (x : FetchIn) (xs : List FetchIn) (r : DescRun) (l : List (Nat × Nat × Bool)) (c i : Nat), (s.blk.q f.val n.val).moving = false ∧
      (s.blk.q f.val n.val).fragIn = x :: xs ∧ (s.blk.q f.val n.val).descs.find? (fun r => r.d.ix == x.dix) = some r ∧ s.blk.qSt f.val n.val = 2 ∧ x.st = 0 ∧
      fragTake r.d r.fragNext (fragSum r.frags) (parseFrags x.data) = (l, some (c, i)) ∧ c < 256) :=
  ⟨⟨que [k .qState 3], 0, 0, by decide +kernel⟩, ⟨que [k .qState 1], 0, 0, by decide +kernel⟩,
    ⟨que [k .qState 5] { idxIn := some ⟨0, 0, 255, []⟩ }, 0, 0, ⟨0, 0, 255, []⟩, by decide +kernel⟩,
    ⟨que [k .qState 1, k .qLog2 4] { idxIn := some ⟨0, 0, 0, [(17, false)]⟩ }, 0, 0, ⟨0, 0, 0, [(17, false)]⟩, 17, by decide +kernel⟩,
    ⟨que [k .qState 2, k .qLog2 4, k .qProd 3] { idxIn := some ⟨0, 0, 0, [(2, false)]⟩ }, 0, 0, ⟨0, 0, 0, [(2, false)]⟩, 2, by decide +kernel⟩,
    ⟨que [k .qState 4, k .qLog2 4, k .qProd 3] { idxIn := some ⟨0, 0, 0, [(16, false)]⟩ }, 0, 0, ⟨0, 0, 0, [(16, false)]⟩, 16, by decide +kernel⟩,
    ⟨que [k .qState 1] { fragIn := [⟨0, 0, 1, []⟩], descs := [run0] }, 0, 0, ⟨0, 0, 1, []⟩, [], run0, by decide +kernel⟩,
    ⟨que [k .qState 2] { fragIn := [⟨0, 0, 0, List.replicate 16 (1, false)⟩], descs := [run0] }, 0, 0, ⟨0, 0, 0, List.replicate 16 (1, false)⟩, [], run0, [], 3, 0,
      by decide +kernel⟩⟩

/-- A chunk of queue 0 in a state: bytes 0 to 7 of descriptor 0, to be written at 200h. -/
def chunk0 (cid : Nat) (st : ChSt) (len : Nat := 8) : Chunk := ⟨cid, 0, 0, len, 0, [], [⟨true, 0x200, len, 0, false, none, false⟩], [], [], 0, 0, false, false, st⟩
/-- A fetched descriptor: first byte OPCODE, the rest zeros. -/
def fetched (op : Byte) (st : Nat := 0) : FetchIn := ⟨0, 0, st, (op, false) :: List.replicate 63 (0, false)⟩

theorem test_hyp_QueueData :
    (∃ (s : State) (f : FnIx) (n : QIx) (x : FetchIn) (next : Nat), (s.blk.q f.val n.val).moving = false ∧
      next = (s.blk.rd .qHead f.val n.val + (s.blk.q f.val n.val).descs.length) % 2 ^ 32 ∧ (s.blk.q f.val n.val).descIn.find? (fun x => x.start == next) = some x ∧
      s.blk.qSt f.val n.val = 1 ∧ next ≠ s.blk.rd .qProd f.val n.val ∧ s.blk.rd .qProd f.val n.val < 2 ^ 32 ∧ x.st ≠ 0 ∧ x.st < 256) ∧
    (∃ (s : State) (f : FnIx) (n : QIx) (x : FetchIn) (next : Nat) (d : Desc) (c e : Nat), (s.blk.q f.val n.val).moving = false ∧
      next = (s.blk.rd .qHead f.val n.val + (s.blk.q f.val n.val).descs.length) % 2 ^ 32 ∧ (s.blk.q f.val n.val).descIn.find? (fun x => x.start == next) = some x ∧
      s.blk.qSt f.val n.val = 2 ∧ next ≠ s.blk.rd .qProd f.val n.val ∧ s.blk.rd .qProd f.val n.val < 2 ^ 32 ∧ x.st = 0 ∧ x.data.length = 64 ∧
      d = parseDesc next (x.data.map (·.1)) ∧ (s.blk.q f.val n.val).descs = [] ∧ s.blk.descCheck f.val n.val d (x.data.any (·.2)) = (c, e) ∧ c ≠ 0 ∧ c < 256 ∧ e < 256) ∧
    (∃ (s : State) (f : FnIx) (n : QIx) (x : FetchIn) (next : Nat) (d : Desc), (s.blk.q f.val n.val).moving = false ∧
      next = (s.blk.rd .qHead f.val n.val + (s.blk.q f.val n.val).descs.length) % 2 ^ 32 ∧ (s.blk.q f.val n.val).descIn.find? (fun x => x.start == next) = some x ∧
      s.blk.qSt f.val n.val = 4 ∧ next ≠ s.blk.rd .qProd f.val n.val ∧ s.blk.rd .qProd f.val n.val < 2 ^ 32 ∧ x.st = 0 ∧ x.data.length = 64 ∧
      d = parseDesc next (x.data.map (·.1)) ∧ (s.blk.q f.val n.val).descs = [] ∧ s.blk.descCheck f.val n.val d (x.data.any (·.2)) = (0, 0) ∧ d.opcode = 0) ∧
    (∃ (s : State) (f : FnIx) (n : QIx) (r : DescRun) (len : Nat) (sg : Seg) (ds : List Seg), (s.blk.q f.val n.val).moving = false ∧ s.blk.qSt f.val n.val = 2 ∧
      (s.blk.q f.val n.val).descs = [r] ∧ r.d.opcode = 1 ∧ r.cut < r.d.len ∧
      ((s.blk.q f.val n.val).chunks.filter (fun c => c.st == .reading)).length < 16 ∧ s.blk.stagingUsed (s.blk.shuttleOf f.val n.val) < 64 ∧
      (∀ c ∈ (s.blk.q f.val n.val).chunks, c.cid ≠ (s.blk.q f.val n.val).nextCid) ∧ s.blk.qTurn (qix f.val n.val) = true ∧
      nextChunk r = some (len, [sg], ds) ∧ sg.loc = true ∧ sg.xl = false ∧ s.blk.shut (s.blk.portOf f.val) = false) ∧
    (∃ (s : State) (f : FnIx) (n : QIx) (c0 c : Chunk) (cs : List Chunk), (s.blk.q f.val n.val).moving = false ∧ s.blk.qSt f.val n.val = 3 ∧
      (s.blk.q f.val n.val).chunks = c0 :: c :: cs ∧ c0.st = .reading ∧ c.st = .arrived ∧ c0.cid ≠ c.cid ∧ (∀ y ∈ cs, y.cid ≠ c.cid)) ∧
    (∃ (s : State) (f : FnIx) (n : QIx) (c : Chunk) (r : DescRun) (rs : List DescRun), (s.blk.q f.val n.val).moving = false ∧ s.blk.qSt f.val n.val = 5 ∧
      (s.blk.q f.val n.val).chunks = [c] ∧ c.st = .done ∧ (s.blk.q f.val n.val).descs = r :: rs ∧ r.commit + c.len ≠ r.d.len ∧ r.d.opcode = 1) ∧
    (∃ (s : State) (f : FnIx) (n : QIx) (c : Chunk) (r : DescRun) (rs : List DescRun), (s.blk.q f.val n.val).moving = false ∧ s.blk.qSt f.val n.val = 3 ∧
      (s.blk.q f.val n.val).chunks = [c] ∧ c.st = .done ∧ (s.blk.q f.val n.val).descs = r :: rs ∧ r.commit + c.len = r.d.len ∧ rs = []) :=
  ⟨⟨que [k .qState 1, k .qProd 1] { descIn := [fetched 1 1] }, 0, 0, fetched 1 1, 0, by decide +kernel⟩,
    ⟨que [k .qState 2, k .qProd 1] { descIn := [fetched 1] }, 0, 0, fetched 1, 0, parseDesc 0 ((fetched 1).data.map (·.1)), 3, 0, by decide +kernel⟩,
    ⟨que [k .qState 4, k .qProd 1] { descIn := [fetched 0] }, 0, 0, fetched 0, 0, parseDesc 0 ((fetched 0).data.map (·.1)), by decide +kernel⟩,
    ⟨que [k .qState 2] { descs := [run0], chunks := [chunk0 1 .staged], nextCid := 2 }, 0, 0, run0, 16, ⟨true, 0x100, 16, 0, false, none, false⟩,
      [⟨true, 0x200, 16, 0, false, none, false⟩], by decide +kernel⟩,
    ⟨que [k .qState 3] { chunks := [chunk0 1 .reading, chunk0 2 .arrived] }, 0, 0, chunk0 1 .reading, chunk0 2 .arrived, [], by decide +kernel⟩,
    ⟨que [k .qState 5] { descs := [run0], chunks := [chunk0 1 .done] }, 0, 0, chunk0 1 .done, run0, [], by decide +kernel⟩,
    ⟨que [k .qState 3] { descs := [run0 8], chunks := [chunk0 1 .done] }, 0, 0, chunk0 1 .done, run0 8, [], by decide +kernel⟩⟩

theorem test_hyp_EventsAndErrorLog :
    (∃ (s : State) (f : FnIx) (v : BitVec 32), s.blk.fnExists f.val = true ∧ consOk (s.blk.rd .evtProd f.val) (s.blk.rd .evtCons f.val) v.toNat (2 ^ 32) = true) ∧
    (∃ (s : State) (f : FnIx) (v : BitVec 32), s.blk.fnExists f.val = true ∧ consOk (s.blk.rd .evtProd f.val) (s.blk.rd .evtCons f.val) v.toNat (2 ^ 32) = false) ∧
    (∃ (s : State) (f : FnIx) (v : BitVec 32), s.blk.fnExists f.val = true ∧ s.blk.flag .evtEn f.val = false ∧ bit v.toNat 0 = true ∧ 4 ≤ bits v.toNat 1 5 ∧
      bits v.toNat 1 5 ≤ 16 ∧ (s.blk.fn f.val).devs = [] ∧ (s.blk.fn f.val).recs = []) ∧
    (∃ (s : State) (f : FnIx), s.blk.fnExists f.val = true ∧ s.blk.flag .evtEn f.val = true) :=
  ⟨⟨run [k .evtProd 5], 0, 5, by decide +kernel⟩, ⟨run [k .evtProd 5], 0, 6, by decide +kernel⟩, ⟨run, 0, 33, by decide +kernel⟩, ⟨run [k .evtEn 1], 0, by decide +kernel⟩⟩

/-- Function 0 without the mode bit of the Weave. -/
def noWv : Block := { live with img := some (img0 [{ fn0 with modes := 0 }]) }
/-- Function 0 without an INTx pin. -/
def noPin : Block := { live with img := some (img0 [{ fn0 with intPin := 0 }]) }
/-- The program RGBA to planar of Table 6.4: 01 00 01 04 01, and 01 at byte 12. -/
def wvRgba : Nat := 0x104010001 + 2 ^ 96
/-- A program of zeros, which fails its checks. -/
def wvBad : Nat := 0

theorem test_hyp_WeaveCommands :
    (∃ (s : State) (f : FnIx), s.blk.fnExists f.val = true ∧ s.blk.flag .wvBusy f.val = false) ∧
    (∃ (s : State) (f : FnIx), s.blk.fnExists f.val = true ∧ s.blk.flag .wvBusy f.val = true) ∧
    (∃ (s : State) (f : FnIx) (slot op pg : Nat), s.blk.fnExists f.val = true ∧ (s.blk.fn f.val).wvCmd = some (slot, op, pg) ∧ s.blk.weaveAhead f.val = false ∧
      s.blk.mode f.val 7 = false) ∧
    (∃ (s : State) (f : FnIx) (slot op pg : Nat), s.blk.fnExists f.val = true ∧ (s.blk.fn f.val).wvCmd = some (slot, op, pg) ∧ s.blk.mode f.val 7 = true ∧ op = 2) ∧
    (∃ (s : State) (f : FnIx) (slot op pg : Nat), s.blk.fnExists f.val = true ∧ (s.blk.fn f.val).wvCmd = some (slot, op, pg) ∧ s.blk.weaveAhead f.val = false ∧
      s.blk.mode f.val 7 = true ∧ op = 1 ∧ wvCheck pg ≠ 0) ∧
    (∃ (s : State) (f : FnIx) (slot op pg : Nat), s.blk.fnExists f.val = true ∧ (s.blk.fn f.val).wvCmd = some (slot, op, pg) ∧ s.blk.weaveAhead f.val = false ∧
      s.blk.mode f.val 7 = true ∧ op = 1 ∧ wvCheck pg = 0 ∧ s.blk.poolUsed.length < 256) :=
  ⟨⟨run, 0, by decide +kernel⟩, ⟨run [k .wvBusy 1], 0, by decide +kernel⟩, ⟨run [] { wvCmd := some (7, 1, 0) } noWv, 0, 7, 1, 0, by decide +kernel⟩,
    ⟨run [] { wvCmd := some (7, 2, 0) }, 0, 7, 2, 0, by decide +kernel⟩, ⟨run [] { wvCmd := some (7, 1, wvBad) }, 0, 7, 1, wvBad, by decide +kernel⟩,
    ⟨run [] { wvCmd := some (7, 1, wvRgba) }, 0, 7, 1, wvRgba, by decide +kernel⟩⟩

theorem test_hyp_SpurSelectionAndTimers :
    (∃ (s : State) (f : FnIx) (k : Nat),
      s.blk.winner f.val ((s.blk.rotation f.val).filter (fun k => s.blk.selectable f.val k || s.blk.rd .srcState f.val k == 2)) = some k ∧ s.blk.selected? f.val = none) ∧
    (∃ (s : State) (f : FnIx) (k old : Nat),
      s.blk.winner f.val ((s.blk.rotation f.val).filter (fun k => s.blk.selectable f.val k || s.blk.rd .srcState f.val k == 2)) = some k ∧
      s.blk.selected? f.val = some old ∧ old ≠ k) ∧
    (∃ (s : State) (f : FnIx) (k : Nat),
      s.blk.winner f.val ((s.blk.rotation f.val).filter (fun k => s.blk.selectable f.val k || s.blk.rd .srcState f.val k == 2)) = some k ∧ s.blk.selected? f.val = some k) ∧
    (∃ (s : State) (f : FnIx) (k : Nat), s.blk.selected? f.val = some k ∧ s.blk.delivery f.val ≠ 0 ∧ s.blk.anyTgt f.val k = true) ∧
    (∃ (s : State) (f : FnIx) (k : Nat), s.blk.selected? f.val = some k ∧ s.blk.delivery f.val = 0) ∧
    (∃ (s : State) (f : FnIx) (k : SrcIx) (e : Nat × Nat), (s.blk.fn f.val).eoiWait.find? (fun e => e.1 == k.val) = some e ∧ s.blk.eoiHeld f.val k.val e.2 = false) ∧
    (∃ (s : State) (l : LinkIx) (pin : Fin 4), (s.blk.lk l.val).intxBusy.length = 4 ∧ (s.blk.lk l.val).intxLast.length = 4 ∧
      s.blk.intxComb l.val pin.val = ((s.blk.lk l.val).intxLast[pin.val]?.getD false)) ∧
    (∃ (s : State) (l : LinkIx) (pin : Fin 4), (s.blk.lk l.val).intxBusy.length = 4 ∧ (s.blk.lk l.val).intxLast.length = 4 ∧
      s.blk.intxComb l.val pin.val ≠ ((s.blk.lk l.val).intxLast[pin.val]?.getD false) ∧ s.blk.inL0 l.val = true) ∧
    (∃ (s : State) (f : FnIx), s.blk.flag .reinWait f.val = true ∧ s.blk.rd .srcState f.val 11 ≠ 2) :=
  ⟨⟨run [k .spMask 0, k .srcState 1 0 14, k .srcLatch 1 0 14, k .cfgMsixEn 1, k .tgtEn 1 0 112], 0, 14, by decide +kernel⟩,
    ⟨run [k .spMask 0, k .srcState 1 0 14, k .srcLatch 1 0 14, k .srcPrio 3 0 14, k .srcState 2 0 3, k .cfgMsixEn 1, k .tgtEn 1 0 112], 0, 14, 3, by decide +kernel⟩,
    ⟨run [k .srcState 2 0 3], 0, 3, by decide +kernel⟩, ⟨run [k .srcState 2 0 3, k .cfgMsixEn 1, k .tgtEn 1 0 24], 0, 3, by decide +kernel⟩,
    ⟨run [k .srcState 2 0 3] {} noPin, 0, 3, by decide +kernel⟩, ⟨run [] { eoiWait := [(14, 0)] }, 0, 14, (14, 0), by decide +kernel⟩,
    ⟨mk [] { links := [(0, { intxBusy := [true, true, true, true], intxLast := [false, false, false, false] })] }, 0, 3, by decide +kernel⟩,
    ⟨mk up { live with links := [(0, { intxBusy := [true, true, true, true], intxLast := [false, false, false, true] })] }, 0, 3, by decide +kernel⟩,
    ⟨run [k .reinWait 1], 0, by decide +kernel⟩⟩

theorem test_hyp_SpurRegisters :
    (∃ (s : State) (f : FnIx) (v : BitVec 32) (k : Nat), s.blk.fnExists f.val = true ∧ s.blk.selected? f.val = some k ∧ bit v.toNat k = true) ∧
    (∃ (s : State) (f : FnIx) (v : BitVec 32) (k : Nat), s.blk.fnExists f.val = true ∧ k < 15 ∧ bit v.toNat k = true ∧ s.blk.rd .srcState f.val k ≠ 2) ∧
    (∃ (s : State) (f : FnIx) (v : BitVec 32) (k : Nat), s.blk.fnExists f.val = true ∧ k < 15 ∧ bit v.toNat k = true ∧ s.blk.rd .srcState f.val k = 3) ∧
    (∃ (off k : Nat), off % 240 / 4 = 4 * k) ∧ (∃ (s : State) (f : FnIx) (v : Fin 64), s.blk.fnExists f.val = true ∧ v.val < optD (s.blk.fnRec? f.val) 0 (·.vectors)) :=
  ⟨⟨run [k .srcState 2 0 14], 0, 0x4000, 14, by decide +kernel⟩, ⟨run, 0, 0x4000, 14, by decide +kernel⟩, ⟨run [k .srcState 3 0 14], 0, 0x4000, 14, by decide +kernel⟩,
    ⟨224, 14, by decide⟩, ⟨run, 0, 63, by decide +kernel⟩⟩

/-- A running image with port 0 ACTIVE and the XLB state of port 0. -/
def port (x : XlbDyn := {}) (regs : List (RKey × Nat) := []) (b : Block := live) : State := mk (regs ++ ready ++ act ++ up) { b with xlb := [(0, x)] }

/-- A request of the design in the buffers: its opcode and arrival number. -/
def lm0 (op arr : Nat) : LmReq := ⟨arr, 6, op, 0, 0, 0x10000, 0, 8, 8, [], [], 0, 0, 0, false, none, false, .issued, 0, [], 0, []⟩

theorem test_hyp_DesignMessagesAndFence :
    (∃ (s : State) (p : PortIx) (f : FnIx), s.blk.active p.val = true ∧ (s.blk.x p.val).capsSent = false ∧ s.blk.isBound f.val p.val = true ∧
      (s.blk.x p.val).dMsgs ≠ 0 ∧ s.blk.shut p.val = false) ∧
    (∃ (s : State) (p : PortIx) (f : FnIx), s.blk.active p.val = true ∧ (s.blk.x p.val).capsSent = false ∧ s.blk.isBound f.val p.val = true ∧
      1 ≤ s.blk.xver p.val ∧ unitOf 0 (s.blk.x p.val).dRec f.val ≠ 0 ∧ s.blk.shut p.val = false) ∧
    (∃ (s : State) (p : PortIx), s.blk.active p.val = true ∧ (s.blk.x p.val).capsSent = false ∧ (s.blk.x p.val).dMsgs = 0) ∧
    (∃ (s : State) (p : PortIx) (m : FMsg) (t : List FMsg), (s.blk.x p.val).fenceQ = m :: t ∧ s.blk.fenceOpen p.val m = false) ∧
    (∃ (s : State) (p : PortIx) (m : FMsg) (t : List FMsg), (s.blk.x p.val).fenceQ = m :: t ∧ s.blk.fenceOpen p.val m = true ∧ m.kind = 0) ∧
    (∃ (s : State) (p : PortIx) (m : FMsg) (t : List FMsg), (s.blk.x p.val).fenceQ = m :: t ∧ s.blk.fenceOpen p.val m = true ∧ m.kind = 1) ∧
    (∃ (s : State) (p : PortIx) (m : FMsg) (t : List FMsg), (s.blk.x p.val).fenceQ = m :: t ∧ s.blk.fenceOpen p.val m = true ∧ m.kind = 2 ∧
      s.blk.flag .evtEn m.f = false) :=
  ⟨⟨port { dMsgs := 1 }, 0, 0, by decide +kernel⟩, ⟨port { dRec := [(0, 1)] }, 0, 0, by decide +kernel⟩, ⟨port, 0, by decide +kernel⟩,
    ⟨port { fenceQ := [⟨2, 0, 0, 1, 0, []⟩], lms := [lm0 2 1] }, 0, ⟨2, 0, 0, 1, 0, []⟩, [], by decide +kernel⟩,
    ⟨port { fenceQ := [⟨2, 0, 0, 255, 0, []⟩], lms := [lm0 2 2] }, 0, ⟨2, 0, 0, 255, 0, []⟩, [], by decide +kernel⟩,
    ⟨port { fenceQ := [⟨2, 1, 0, 9, 0, []⟩] }, 0, ⟨2, 1, 0, 9, 0, []⟩, [], by decide +kernel⟩,
    ⟨port { fenceQ := [⟨2, 2, 0, 9, 0, []⟩] }, 0, ⟨2, 2, 0, 9, 0, []⟩, [], by decide +kernel⟩⟩

/-- CAPS of a design that offers W = 8 and its credits. -/
def caps0 : CapsMsg := ⟨3, 1, 0, 0, 2, true, true, 1024, 4096, 4096, 4096, 4096, 64, 10, 0, 0, false⟩

theorem test_hyp_CapsExchange :
    (∃ (s : State) (p : PortIx) (c : CapsMsg), s.blk.rd .psState p.val = 4 ∧ (s.blk.capsOut p.val).capsWhy p.val c ≠ 0) ∧
    (∃ (s : State) (p : PortIx) (c : CapsMsg), s.blk.rd .psState p.val = 5 ∧ (s.blk.capsOut p.val).capsWhy p.val c = 0) ∧
    (∃ (s : State) (p : PortIx), s.blk.rd .psState p.val ≠ 4 ∧ s.blk.rd .psState p.val ≠ 5) ∧
    (∃ (s : State) (f : FnIx) (r : FnRec), s.blk.fnRec? f.val = some r ∧ r.vf = false ∧ s.blk.fenced r.port = true ∧ s.blk.active r.port = true ∧
      (s.blk.x r.port).capsSent = false) ∧
    (∃ (s : State) (p : PortIx), (s.blk.x p.val).capsRel = true) ∧ (∃ (s : State) (p : PortIx), s.blk.rd .psState p.val = 4 ∧ (s.blk.x p.val).capsSent = true) :=
  ⟨⟨port { capsSent := true, vmax := 3 } [k .psState 4], 0, { caps0 with maxout := 1025 }, by decide +kernel⟩,
    ⟨port { capsSent := true, vmax := 3 }, 0, caps0, by decide +kernel⟩, ⟨mk [], 0, by decide⟩, ⟨port {} [k .xlbFenced 1], 0, fn0, by decide +kernel⟩,
    ⟨port { capsRel := true }, 0, by decide⟩, ⟨port { capsSent := true } [k .psState 4], 0, by decide⟩⟩

theorem test_hyp_XlbCreditsAndReins :
    (∃ (s : State) (p : PortIx), s.blk.active p.val = true ∧ (s.blk.x p.val).capsSent = false ∧ (s.blk.x p.val).rspQ = [] ∧ (∀ r ∈ (s.blk.x p.val).reqs, r.st ≠ .waiting)) ∧
    (∃ (kind : BitVec 4) (cls : BitVec 8), kind.toNat = 0 ∧ cls.toNat < 5) ∧ (∃ (kind : BitVec 4) (cls : BitVec 8), kind.toNat = 0 ∧ 5 ≤ cls.toNat) ∧
    (∃ (kind : BitVec 4), kind.toNat ≠ 0 ∧ kind.toNat ≠ 15) ∧ (∃ (s : State) (f : FnIx), s.blk.fnExists f.val = true) ∧
    (∃ (s : State) (p : PortIx) (f : Nat), s.blk.active p.val = true ∧ s.blk.shut p.val = false ∧ (s.blk.x p.val).capsSent = false ∧
      hasCr ((s.blk.x p.val).cr[4]?.getD 0) 1 = true ∧ (s.blk.boundFns p.val).filter (fun f => s.blk.reinReady p.val f) = [f]) ∧
    (∃ (s : State) (p : PortIx), hasCr ((s.blk.x p.val).cr[4]?.getD 0) 1 = false) :=
  ⟨⟨port, 0, by decide +kernel⟩, ⟨0, 4, by decide⟩, ⟨0, 5, by decide⟩, ⟨14, by decide⟩, ⟨port, 0, by decide +kernel⟩,
    ⟨port { cr := [0, 0, 0, 0, 1] } [k .reinsOutPending 1], 0, 0, by decide +kernel⟩, ⟨port, 0, by decide +kernel⟩⟩

/-- A prefetch entry in a state, born as record 7. -/
def pf0 (st : PfSt) (used : List Bool := []) : PfEnt := ⟨5, st, 0, 0x100000, 2, false, 0, [], used, [], 7, 1, 0, false⟩
/-- A request of the PX896 on port 0. -/
def req0 (orig : XOrig) (op : Nat) (st : XSt := .sent) : XReq := ⟨4, 0, orig, op, 0x100000, 2, [], 0, 0, st, 9, 0, 0, 0, 0, ⟨2, 10, 3, 100⟩, false⟩

theorem test_hyp_PrefetchAndSpeculation :
    (∃ (s : State) (f : FnIx) (e : Nat) (x : PfEnt), s.blk.pfOf f.val e = some x ∧ x.st = .valid) ∧
    (∃ (s : State) (f : FnIx) (e : Nat) (x : PfEnt), s.blk.pfOf f.val e = some x ∧ x.st = .pending) ∧
    (∃ (s : State) (f : FnIx) (e : Nat) (x : PfEnt), s.blk.pfOf f.val e = some x ∧ x.st = .held ∧ x.mute = false ∧ (∃ k < x.len, x.used[k]?.getD false = false)) ∧
    (∃ (s : State) (f : FnIx) (n off : Nat), s.blk.fnExists f.val = true ∧ n < 256 ∧ off / 4 = 0x1400 + 4 * n + 3) ∧
    (∃ (s : State) (p : PortIx) (tag : BitVec 12) (r : XReq) (id : Nat) (x : PfEnt), s.blk.active p.val = true ∧ (s.blk.x p.val).capsSent = false ∧
      s.blk.loom.stopped = false ∧ s.blk.reqOfTag p.val tag.toNat = some r ∧ r.orig = .spec id ∧ r.op = 1 ∧ s.blk.pfBorn r.f id = some x ∧
      s.blk.pfOf r.f x.e = some x ∧ x.st = .pending ∧ x.mute = false ∧ x.waits = [] ∧ x.len ≠ 0 ∧ 3 ≤ s.blk.xver p.val) :=
  ⟨⟨run [] { pf := [pf0 .valid] }, 0, 5, pf0 .valid, by decide⟩, ⟨run [] { pf := [pf0 .pending] }, 0, 5, pf0 .pending, by decide⟩,
    ⟨run [] { pf := [pf0 .held [true, false]] }, 0, 5, pf0 .held [true, false], by decide⟩, ⟨run, 0, 255, 0x5FFF, by decide +kernel⟩,
    ⟨port { reqs := [req0 (.spec 7) 1] } [] { live with fns := [(0, { pf := [pf0 .pending] })] }, 0, 9, req0 (.spec 7) 1, 7, pf0 .pending, by decide +kernel⟩⟩

/-- A host read of one piece. -/
def job0 : HJob := ⟨3, .read, 0, 0, 1, 2, [true, true], 0x100000, 0, [⟨0x100000, 2, none, []⟩], 0, false, 0, 0, none⟩

theorem test_hyp_HostResponses :
    (∃ (s : State) (p : PortIx) (tag : BitVec 12) (r : XReq), s.blk.active p.val = true ∧ (s.blk.x p.val).capsSent = false ∧
      s.blk.reqOfTag p.val tag.toNat = some r ∧ r.orig = .posted ∧ r.op = 2) ∧
    (∃ (s : State) (p : PortIx) (tag : BitVec 12) (r : XReq) (job : Nat) (j : HJob) (pc : HPiece), s.blk.active p.val = true ∧ (s.blk.x p.val).capsSent = false ∧
      s.blk.reqOfTag p.val tag.toNat = some r ∧ r.orig = .host job 0 ∧ r.op = 1 ∧ s.blk.job? job = some j ∧ j.kind = .read ∧ j.pieces = [pc] ∧ pc.ans = none ∧
      j.next = 0 ∧ j.dead = false ∧ s.blk.streamBad j.link j.stream = false ∧ s.blk.loom.stopped = false) :=
  ⟨⟨port { reqs := [req0 .posted 2] }, 0, 9, req0 .posted 2, by decide +kernel⟩,
    ⟨port { reqs := [req0 (.host 3 0) 1] } [] { live with jobs := [job0] }, 0, 9, req0 (.host 3 0) 1, 3, job0, ⟨0x100000, 2, none, []⟩, by decide +kernel⟩⟩

theorem test_hyp_XlbTimers :
    (∃ (s : State) (p : PortIx) (tag : BitVec 12) (g : XQuar), s.blk.active p.val = true ∧ (s.blk.x p.val).capsSent = false ∧
      s.blk.reqOfTag p.val tag.toNat = none ∧ (s.blk.x p.val).quar.find? (fun g => g.tag == tag.toNat) = some g ∧ g.fenced = false) ∧
    (∃ (s : State) (p : PortIx) (rid : Nat) (r : XReq), (s.blk.x p.val).reqs.find? (fun r => r.rid == rid) = some r ∧ r.orig = .posted ∧ r.st = .sent ∧ r.atLoom = false ∧
      ((s.blk.x p.val).tmos.filter (fun t => s.blk.time - t ≤ r.cfg.fwin)).length + 1 < r.cfg.fcount) ∧
    (∃ (s : State) (p : PortIx) (tag : BitVec 12) (r : XReq), (s.blk.x p.val).reqs.find? (fun r => r.st == .gap && r.tag == tag.toNat) = some r ∧ r.orig = .posted ∧
      r.cfg.limit ≤ r.retries) ∧
    (∃ (s : State) (p : PortIx) (tag : BitVec 12) (r : XReq), (s.blk.x p.val).reqs.find? (fun r => r.st == .gap && r.tag == tag.toNat) = some r ∧
      (s.blk.x p.val).reqs = [r] ∧ r.retries < r.cfg.limit ∧ r.atLoom = false ∧ s.blk.active p.val = true ∧ s.blk.shut p.val = false ∧ (s.blk.x p.val).capsSent = false ∧
      hasCr ((s.blk.x p.val).cr[0]?.getD 0) 1 = true ∧ hasCr ((s.blk.x p.val).cr[1]?.getD 0) (reqSlots (s.blk.xw p.val) r) = true) :=
  ⟨⟨port { quar := [⟨9, 0, false, 0, 0, none, 1, false⟩] }, 0, 9, ⟨9, 0, false, 0, 0, none, 1, false⟩, by decide +kernel⟩,
    ⟨port { reqs := [req0 .posted 2], tmos := [0] }, 0, 4, req0 .posted 2, by decide +kernel⟩,
    ⟨port { reqs := [{ req0 .posted 2 .gap with retries := 2 }] }, 0, 9, { req0 .posted 2 .gap with retries := 2 }, by decide +kernel⟩,
    ⟨port { reqs := [{ req0 .posted 2 .gap with retries := 1 }], cr := [1, 64, 0, 0, 0] }, 0, 9, { req0 .posted 2 .gap with retries := 1 }, by decide +kernel⟩⟩

/-- A header of the design: 8 bytes at an address. -/
def hdr0 (a : Nat) (len : Nat := 8) : LmHdr := ⟨5, BitVec.ofNat 64 a, len, false, false, 0, List.replicate 8 1, []⟩
/-- Outbound window 0 of function 0. -/
def win0 : ObWin := ⟨0, 0, 0, 0x10000, 0x10000⟩
/-- REQ credits with the design. -/
def lmx : XlbDyn := { dReqh := 1, dReqd := 8, cr := [0, 0, 1, 0, 0] }
/-- What opens the outbound window and lets function 0 master. -/
def obOn : List (RKey × Nat) := [k .obEn 1, k .obAtomics 1, k .cfgBmeEff 1, k .cfgAtomEn 1]

theorem next_none (b : Block) (p : Nat) (h : b.loom.stopped = false) (h1 : (b.x p).lms = []) : b.lmNext p := by
  simp [Block.lmNext, h, h1]

theorem test_hyp_LocalMasterAndFlush :
    (∃ (s : State) (p : PortIx) (h : LmHdr), s.blk.rspFree p.val ∧ s.blk.lmTakes p.val 0 h 0 0 = true ∧ s.blk.lmTakes p.val 5 h 0 0 = true) ∧
    (∃ (s : State) (p : PortIx) (h : LmHdr) (op sz : BitVec 2), s.blk.rspFree p.val ∧ s.blk.lmWindow p.val h.addr.toNat = none ∧ s.blk.lmNext p.val ∧
      s.blk.lmTakes p.val 1 h 0 0 = true ∧ s.blk.lmTakes p.val 2 h 0 0 = true ∧ s.blk.lmTakes p.val 3 h 0 0 = true ∧ s.blk.lmTakes p.val 4 h op.toNat sz.toNat = true) ∧
    (∃ (s : State) (p : PortIx) (h : LmHdr) (w : ObWin) (code cause : Nat), s.blk.rspFree p.val ∧ s.blk.lmWindow p.val h.addr.toNat = some w ∧ s.blk.lmNext p.val ∧
      s.blk.lmTakes p.val 1 h 0 0 = true ∧ s.blk.lmRefuse w.owner w.m 1 h.pvec.toNat (s.blk.lmOf p.val 1 h 0 0 w).host = some (code, cause, false) ∧
      s.blk.lmTakes p.val 2 h 0 0 = true ∧ s.blk.lmRefuse w.owner w.m 2 h.pvec.toNat (s.blk.lmOf p.val 2 h 0 0 w).host = some (code, cause, false)) ∧
    (∃ (s : State) (p : PortIx) (m : LmReq), s.blk.active p.val = true ∧ s.blk.loom.stopped = false ∧ (s.blk.x p.val).lms.find? (fun m => m.op == 5) = some m ∧
      s.blk.flushOpen p.val m.arr = false ∧ m.ph = .issued ∧ (s.blk.x p.val).wrs = [] ∧ m.zfns = [] ∧ s.blk.rspFree p.val) ∧
    (∃ (s : State) (p : PortIx) (m : LmReq) (w : LmWr), s.blk.active p.val = true ∧ s.blk.loom.stopped = false ∧ (s.blk.x p.val).lms.find? (fun m => m.op == 5) = some m ∧
      s.blk.flushOpen p.val m.arr = false ∧ m.ph = .issued ∧ (s.blk.x p.val).wrs = [w] ∧ w.arr < m.arr ∧ w.code = 2 ∧ s.blk.rspFree p.val) ∧
    (∃ (s : State) (p : PortIx) (m : LmReq) (w : LmWr), s.blk.active p.val = true ∧ s.blk.loom.stopped = false ∧ (s.blk.x p.val).lms.find? (fun m => m.op == 5) = some m ∧
      s.blk.flushOpen p.val m.arr = false ∧ m.ph = .issued ∧ (s.blk.x p.val).wrs = [w] ∧ w.arr < m.arr ∧ w.code = 0 ∧ m.left = 0 ∧ (s.blk.fn w.f).flr = none ∧
      s.blk.bme w.f = true) :=
  ⟨⟨port lmx, 0, hdr0 0, by simp only [Block.rspFree]; decide +kernel⟩,
    ⟨port lmx obOn, 0, hdr0 0xFFF8, 0, 1, by simp only [Block.rspFree]; decide +kernel, by decide +kernel, next_none _ _ (by decide) (by decide), by decide +kernel⟩,
    ⟨port lmx [k .obEn 1], 0, hdr0 0x1FFF8, win0, 2, 1, by simp only [Block.rspFree]; decide +kernel, by decide +kernel, next_none _ _ (by decide) (by decide), by decide +kernel⟩,
    ⟨port { lms := [lm0 5 2], cr := [0, 0, 1, 0, 0] }, 0, lm0 5 2, by simp only [Block.rspFree]; decide +kernel⟩,
    ⟨port { lms := [lm0 5 2], wrs := [⟨1, 0, 2, 1⟩], cr := [0, 0, 1, 0, 0] }, 0, lm0 5 2, ⟨1, 0, 2, 1⟩, by simp only [Block.rspFree]; decide +kernel⟩,
    ⟨port { lms := [lm0 5 2], wrs := [⟨1, 0, 0, 0⟩] } obOn, 0, lm0 5 2, ⟨1, 0, 0, 0⟩, by decide +kernel⟩⟩

theorem test_hyp_LocalMasterIssues : ∃ (s : State) (p : PortIx) (h : LmHdr) (w : ObWin) (op sz : BitVec 2), s.blk.lmNext p.val ∧ s.blk.lmWindow p.val h.addr.toNat = some w ∧
    s.blk.flag .obTranslated w.owner w.m = false ∧ s.blk.lmTakes p.val 1 h 0 0 = true ∧ s.blk.lmTakes p.val 2 h 0 0 = true ∧ s.blk.lmTakes p.val 3 h 0 0 = true ∧
    s.blk.lmTakes p.val 4 h op.toNat sz.toNat = true ∧ s.blk.lmRefuse w.owner w.m 1 h.pvec.toNat (s.blk.lmOf p.val 1 h 0 0 w).host = none ∧
    s.blk.lmRefuse w.owner w.m 2 h.pvec.toNat (s.blk.lmOf p.val 2 h 0 0 w).host = none ∧
    s.blk.lmRefuse w.owner w.m 3 h.pvec.toNat (s.blk.lmOf p.val 3 h 0 0 w).host = none ∧
    s.blk.lmRefuse w.owner w.m 4 h.pvec.toNat (s.blk.lmOf p.val 4 h op.toNat sz.toNat w).host = none :=
  ⟨port lmx obOn, 0, hdr0 0x10000, win0, 0, 1, next_none _ _ (by decide) (by decide), by decide +kernel⟩

theorem test_hyp_ConfigAccesses :
    (∃ (s : State) (l : LinkIx), s.blk.dlActive l.val = true ∧ s.blk.streamBad l.val none = false ∧ s.blk.img = none) ∧
    (∃ (s : State) (l : LinkIx) (fno : Nat), s.blk.dlActive l.val = true ∧ s.blk.streamBad l.val none = false ∧ s.blk.img ≠ none ∧ s.blk.cfgTarget l.val fno = none) ∧
    (∃ (s : State) (l : LinkIx) (fno : Nat) (r : FnRec), s.blk.dlActive l.val = true ∧ s.blk.streamBad l.val none = false ∧ s.blk.img ≠ none ∧
      s.blk.cfgTarget l.val fno = some r ∧ (s.blk.fn r.f).flr ≠ none) ∧
    (∃ (s : State) (l : LinkIx) (fno off : Nat) (r : FnRec), s.blk.dlActive l.val = true ∧ s.blk.streamBad l.val none = false ∧ s.blk.img ≠ none ∧
      s.blk.cfgTarget l.val fno = some r ∧ (s.blk.fn r.f).flr = none ∧ dwordOf off = 0x3C ∧ r.vf = false) :=
  ⟨⟨mk up, 0, by decide⟩, ⟨run, 0, 200, by decide +kernel⟩, ⟨run [] { flr := some ⟨0, false, []⟩ }, 0, 0, fn0, by decide +kernel⟩,
    ⟨run, 0, 0, 0x3F, fn0, by decide +kernel⟩⟩

theorem test_hyp_RetryDuringReset :
    (∃ (s : State) (f : FnIx) (alt : Bool), s.blk.cfgOk f.val (b2n alt) = true ∧ b2n alt = s.blk.actSet f.val) ∧
    (∃ (s : State) (l : LinkIx) (fno : Nat) (r : FnRec), s.blk.dlActive l.val = true ∧ s.blk.streamBad l.val none = false ∧ s.blk.img ≠ none ∧
      s.blk.cfgTarget l.val fno = some r ∧ (s.blk.fn r.f).flr ≠ none) ∧
    (∃ (s : State) (l : LinkIx) (fno : Nat) (r : FnRec), s.blk.dlActive l.val = true ∧ s.blk.streamBad l.val none = false ∧ s.blk.img ≠ none ∧
      s.blk.cfgTarget l.val fno = some r ∧ (s.blk.fn r.f).flr = none) ∧
    (∃ (s : State) (f : FnIx) (x : FlrSt), (s.blk.fn f.val).flr = some x ∧ (s.blk.fn f.val).np.any (fun t => t.st == .sent || t.st == .silent) = false) :=
  ⟨⟨run, 0, false, by decide +kernel⟩, ⟨run [] { flr := some ⟨0, false, []⟩ }, 0, 0, fn0, by decide +kernel⟩, ⟨run, 0, 0, fn0, by decide +kernel⟩,
    ⟨run [] { flr := some ⟨0, false, []⟩, np := [tag0 (.qIndex 0) .quar] }, 0, ⟨0, false, []⟩, by decide⟩⟩

theorem test_hyp_TranslationDiscards :
    (∃ (s : State) (f : FnIx) (alt : Bool) (r : FnRec), s.blk.cfgOk f.val (b2n alt) = true ∧ b2n alt = s.blk.actSet f.val ∧ s.blk.fnRec? f.val = some r ∧
      r.privileged = true) ∧
    (∃ (s : State) (f : FnIx) (alt : Bool), s.blk.cfgOk f.val (b2n alt) = true ∧ b2n alt = s.blk.actSet f.val ∧ (s.blk.fn f.val).flr = none) ∧
    (∃ (s : State) (l : LinkIx) (f : Nat), s.blk.dlActive l.val = true ∧ f ∈ s.blk.actFns l.val) ∧ (∃ (b : Block) (f : Nat), b.ats ≠ [] ∧ b.untranslated f) :=
  ⟨⟨run, 0, false, fn0, by decide +kernel⟩, ⟨run, 0, false, by decide +kernel⟩, ⟨run, 0, 0, by decide +kernel⟩,
    ⟨{ ats := [⟨1, 0, none, 0, 4096, 0, true, true, false, false, false, 0⟩] }, 0, by simp only [Block.untranslated]; decide⟩⟩

/-- A request of n bytes at an address, with every byte enabled or none. -/
def reqN (a n : Nat) (on : Bool := true) (d : List Byte := []) : HReq :=
  { link := 0, addr := a, en := List.replicate n on, data := d, req := 1, ep := false, t := false }

/-- Function 0 with an Expansion ROM of 64 KiB. -/
def rom0 : Block := { live with img := some (img0 [{ fn0 with rom := 16 }]) }

theorem test_hyp_UnclaimedAndRom :
    (∃ (s : State) (r : HReq), s.blk.dlActive r.link.val = true ∧ s.blk.streamBad r.link.val r.stream = false ∧ s.blk.decodeBar r.link.val r.addr = none ∧ hreqOk r = true) ∧
    (∃ (s : State) (r : HReq), s.blk.dlActive r.link.val = true ∧ s.blk.streamBad r.link.val r.stream = false ∧ s.blk.decodeBar r.link.val r.addr = none ∧
      hatomicOk r .swap = true) ∧
    (∃ (s : State) (r : HReq), s.blk.dlActive r.link.val = true ∧ s.blk.streamBad r.link.val r.stream = false ∧ s.blk.decodeBar r.link.val r.addr = none ∧ hwriteOk r = true) ∧
    (∃ (s : State) (r : HReq) (f off : Nat), s.blk.claims r f .rom off ∧ hreqOk r = true) ∧
    (∃ (s : State) (r : HReq) (f off : Nat), s.blk.claims r f .rom off ∧ hwriteOk r = true) :=
  ⟨⟨run bars, reqN 0x1F_FFFF 4096, by decide +kernel⟩, ⟨run bars, req4 0x800000 [1, 2, 3, 4], by decide +kernel⟩, ⟨run bars, req4 0x800000 [1, 2, 3, 4], by decide +kernel⟩,
    ⟨run bars {} rom0, reqN 0x40FFFF 1, 0, 0xFFFF, by simp only [Block.claims]; decide +kernel⟩,
    ⟨run bars {} rom0, req4 0x400000 [1, 2, 3, 4], 0, 0, by simp only [Block.claims]; decide +kernel⟩⟩

theorem test_hyp_FunctionControlPage :
    (∃ (s : State) (r : HReq) (f off : Nat), s.blk.claims r f .bar0 off ∧ hreqOk r = true ∧ hSpan r = 0) ∧
    (∃ (s : State) (r : HReq) (f off : Nat), s.blk.claims r f .bar0 off ∧ hreqOk r = true ∧ 64 < hSpan r) ∧
    (∃ (s : State) (r : HReq) (f off : Nat), s.blk.claims r f .bar0 off ∧ hreqOk r = true ∧ r.en = [true, true, true, true] ∧ off % 4 = 0 ∧ off < 0x8000) ∧
    (∃ (s : State) (r : HReq) (f off : Nat), s.blk.claims r f .bar0 off ∧ hreqOk r = true ∧ r.en = [true, true, true, true] ∧ off % 4 = 0 ∧ 0xC000 ≤ off) ∧
    (∃ (s : State) (r : HReq) (f off : Nat), s.blk.claims r f .bar0 off ∧ hatomicOk r .swap = true) ∧
    (∃ (s : State) (r : HReq) (f off : Nat), s.blk.claims r f .bar0 off ∧ hwriteOk r = true ∧ hSpan r ≠ 0 ∧ off % 4 ≠ 0 ∧ off < 0x10000) :=
  ⟨⟨run bars, reqN 0x200000 4 false, 0, 0, by simp only [Block.claims]; decide +kernel⟩, ⟨run bars, reqN 0x200000 65, 0, 0, by simp only [Block.claims]; decide +kernel⟩,
    ⟨run bars, req4 0x207FFC, 0, 0x7FFC, by simp only [Block.claims]; decide +kernel⟩, ⟨run bars, req4 0x3FFFFC, 0, 0x1FFFFC, by simp only [Block.claims]; decide +kernel⟩,
    ⟨run bars, req4 0x200000 [1, 2, 3, 4], 0, 0, by simp only [Block.claims]; decide +kernel⟩,
    ⟨run bars, req4 0x20FFFD [1, 2, 3, 4], 0, 0xFFFD, by simp only [Block.claims]; decide +kernel⟩⟩

theorem test_hyp_RegisterWrites :
    ∀ off ∈ [0x3008, 0x1014, 0x2014, 0x2024, 0xC018, 0x8000 + 512 * 31 + 40, 0x10000 + 4096 * 31], ∃ (s : State) (r : HReq) (f : FnIx) (v : BitVec 32),
      s.blk.claims r f.val .bar0 off ∧ s.blk.fnExists f.val = true ∧ r.en = [true, true, true, true] ∧ hwriteOk r = true ∧ r.ep = false ∧ leNat r.data = v.toNat := by
  intro off h
  refine ⟨run bars, req4 (0x200000 + off) [1, 0, 0, 0], 0, 1, ?_⟩
  simp only [Block.claims]
  revert off; decide +kernel

/-- What offsets of sub-window 0 of window A and of window B resolve to. -/
def hitA (a : Nat) : WinHit := ⟨0, attrOf (1 + 64 * 255 + 2 ^ 14), a⟩
/-- See hitA. -/
def hitB (a : Nat) : WinHit := ⟨0, attrOf (1 + 64), a⟩

theorem test_hyp_WindowRefusals :
    (∃ (s : State) (r : HReq) (f : Nat) (winB : Bool) (off : Nat), s.blk.claims r f (winBar winB) off ∧ s.blk.resolve f winB (off + hFirst r) = none ∧
      hreqOk r = true ∧ hwriteOk r = true ∧ hatomicOk r .swap = true ∧ hSpan r ≠ 0) ∧
    (∃ (s : State) (r : HReq) (f : Nat) (winB : Bool) (off : Nat) (h : WinHit), s.blk.claims r f (winBar winB) off ∧ s.blk.resolve f winB (off + hFirst r) = some h ∧
      hSpan r ≠ 0 ∧ sizeOk h.attr (off + hFirst r) (hSpan r) = false ∧ hreqOk r = true ∧ hwriteOk r = true) ∧
    (∃ (s : State) (r : HReq) (f : Nat) (winB : Bool) (off : Nat) (h : WinHit), s.blk.claims r f (winBar winB) off ∧ hatomicOk r .swap = true ∧
      s.blk.resolve f winB off = some h ∧ s.blk.shut (s.blk.portOf f) = true ∧ h.attr.atomics = true ∧ h.attr.order = 0 ∧ h.attr.wclass = 0 ∧
      s.blk.flag .xlbAtm (s.blk.portOf f) = true) ∧
    (∃ (s : State) (r : HReq) (f : Nat) (winB : Bool) (off : Nat) (h : WinHit), s.blk.claims r f (winBar winB) off ∧ hatomicOk r .swap = true ∧
      s.blk.resolve f winB off = some h ∧ h.attr.atomics = false) :=
  ⟨⟨port {} bars, req4 0x18000 [1, 2, 3, 4], 0, false, 0x8000, by simp only [Block.claims]; decide +kernel⟩,
    ⟨port {} bars, req4 0x20FFC [1, 2, 3, 4], 0, true, 0xFFC, hitB 0x200FFC, by simp only [Block.claims]; decide +kernel⟩,
    ⟨port {} (k .xlbFenced 1 :: bars), req4 0x17FFC [1, 2, 3, 4], 0, false, 0x7FFC, hitA 0x107FFC, by simp only [Block.claims]; decide +kernel⟩,
    ⟨port {} bars, req4 0x20000 [1, 2, 3, 4], 0, true, 0, hitB 0x200000, by simp only [Block.claims]; decide +kernel⟩⟩

theorem test_hyp_WindowRequests :
    (∃ (s : State) (r : HReq) (f : Nat) (winB : Bool) (off : Nat) (h : WinHit), s.blk.claims r f (winBar winB) off ∧ s.blk.shut (s.blk.portOf f) = false ∧
      s.blk.resolve f winB (off + hFirst r) = some h ∧ hSpan r = 0 ∧ hreqOk r = true) ∧
    (∃ (s : State) (r : HReq) (f : Nat) (winB : Bool) (off : Nat) (h : WinHit), s.blk.claims r f (winBar winB) off ∧ s.blk.shut (s.blk.portOf f) = false ∧
      s.blk.resolve f winB (off + hFirst r) = some h ∧ hSpan r ≠ 0 ∧ sizeOk h.attr (off + hFirst r) (hSpan r) = true ∧ h.attr.wclass = 0 ∧ hreqOk r = true ∧ hwriteOk r = true ∧
      s.blk.pfMatch f (s.blk.portOf f) (mappedRange (swapG h.attr.order) h.l0 (hSpan r)).1 (mappedRange (swapG h.attr.order) h.l0 (hSpan r)).2 = none) ∧
    (∃ (s : State) (r : HReq) (f : Nat) (winB : Bool) (off : Nat) (h : WinHit), s.blk.claims r f (winBar winB) off ∧ s.blk.shut (s.blk.portOf f) = false ∧
      hatomicOk r .swap = true ∧ s.blk.resolve f winB off = some h ∧ h.attr.atomics = true ∧ h.attr.order = 0 ∧ h.attr.wclass = 0 ∧
      s.blk.flag .xlbAtm (s.blk.portOf f) = true) :=
  ⟨⟨port {} bars, reqN 0x10000 4 false, 0, false, 0, hitA 0x100000, by simp only [Block.claims]; decide +kernel⟩,
    ⟨port {} bars, req4 0x17FFC [1, 2, 3, 4], 0, false, 0x7FFC, hitA 0x107FFC, by simp only [Block.claims]; decide +kernel⟩,
    ⟨port {} bars, req4 0x10000 [1, 2, 3, 4], 0, false, 0, hitA 0x100000, by simp only [Block.claims]; decide +kernel⟩⟩

theorem test_hyp_ResetState : ∃ (f : Fld) (n : Nat), (Fld.attr f).rst = .val n ∧ n ≠ 0 := ⟨.spMask, _, rfl, by decide⟩
theorem test_hyp_InvariantKept : ∃ s t : State, s.Inv ∧ step s = .next t :=
  ⟨State.reset, _, by simp only [State.Inv, Block.tidy]; decide +kernel, rfl⟩
theorem test_hyp_CommandFootprints : ∃ (c : Instr) (s t : State), exec c s = .next t := ⟨.pad 0, mk [], _, rfl⟩
theorem test_hyp_FrontFirst : ∃ s : State, s.pending = [] := ⟨mk [], rfl⟩

/-! ### Worked examples of the specification -/

/-- Bytes without poison. -/
def clean (l : List Byte) : List (Byte × Bool) := l.map (fun x => (x, false))
/-- A program of Table 6.4: its mode, ESIZE and number of streams; one loop of stride 1. -/
def wvProg (mode esize s : Nat) : Nat := 1 + 256 * mode + 2 ^ 16 * esize + 2 ^ 24 * s + 2 ^ 32 + 2 ^ 96

/-- RGBA to planar colour (chapter 06, worked programs). -/
theorem test_weave_rgba : wvApply (wvProg 0 1 4) (clean [0x10, 0x20, 0x30, 0xFF, 0x11, 0x21, 0x31, 0xFE, 0x12, 0x22, 0x32, 0xFD, 0x13, 0x23, 0x33, 0xFC]) =
    clean [0x10, 0x11, 0x12, 0x13, 0x20, 0x21, 0x22, 0x23, 0x30, 0x31, 0x32, 0x33, 0xFF, 0xFE, 0xFD, 0xFC] := by decide +kernel
/-- 16-bit samples to 16 bit-planes, MSB_FIRST = 1 (chapter 06, worked programs). -/
theorem test_weave_planes : wvApply (wvProg 0x12 0x81 16) (clean [1, 0, 3, 0, 0, 0x80, 0xFF, 0xFF, 0, 0, 0, 1, 0xFF, 0, 1, 0x80]) =
    clean [0x8C, 8, 8, 8, 8, 8, 8, 0x28, 0x48, 0x48, 0x48, 0x48, 0x48, 0x48, 0x4A, 0xCB] := by decide +kernel
/-- U of the programs of Table 6.4. -/
theorem test_weave_units : (wvUnit (wvProg 0 3 8), wvUnit (wvProg 0 1 4), wvUnit (wvProg 2 0x81 16)) = (24, 4, 16) := by decide +kernel

/-- The WR of 96 bytes at 4_0F90h at W = 32 (R41): 4 beats, 11 data slots, 2 mask slots. -/
theorem test_beats : (beats 32 0x40F90 0x60, dataSlots 32 0x40F90 0x60, maskSlots 32 0x40F90 0x60) = (4, 11, 2) := by decide
/-- Table 4.7: bytes 011h and 010h to 013h of a BE32 sub-window. -/
theorem test_swap : (swapAddr 4 0x80000011, mappedRange 4 0x80000010 4) = (0x80000012, 0x80000010, 4) := by decide +kernel
/-- R17: Tether port 45 uses Loom port 13, Shuttle 90 Loom port 26, Shuttle 26 Loom port 19. -/
theorem test_loom_ports : (tetherPort 45, shuttlePort 90, shuttlePort 26) = (13, 26, 19) := by decide
/-- R19: Loom ports 5 and 0 offer to output 13, whose pointer is at 3: port 5 is granted. -/
theorem test_loom_rotation : pickFree (fun k => k == 5 || k == 0) 33 3 = some 5 := by decide
/-- R131: queue 3 of function 37 has bucket 153. -/
theorem test_bucket : bucketOf (32 * 37 + 3) = 153 := by decide
/-- R74, R207, R274: the blocks of port 45 and the FOM of Tether lane 363. -/
theorem test_addresses : (internalReg 0x0A00020D00, internalReg 0x0A00030340, internalReg 0x0A000401AC) =
    (some ⟨.tthXlbCtrl, 45, 0, 0⟩, some ⟨.tthPortCtrl, 45, 0, 0⟩, some ⟨.tthLaneFom, 363, 0, 0⟩) := by decide +kernel
/-- R248: flit byte 100 at x8 lies on lane 4, as byte 12 there. -/
theorem test_stripe : ((stripe 255 false ((List.range 192).map (BitVec.ofNat 8)))[4]?.map (fun x => (x.1, x.2[12]?))) = some (4, some 100) := by decide +kernel
/-- R261: lane 3 of port 45 lame: the receive mask becomes 17h. -/
theorem test_mask : ({ regs := [k .plRxRetired 8 45] } : Block).wantMask 45 0xFF 8 = 0x17 := by decide +kernel
/-- R251: bytes 0 to 7 of a marker. -/
theorem test_marker : markerBytes 3 255 2 = [0x3C, 0x5A, 0x96, 0xE1, 0x0F, 3, 255, 2] := by decide

/-! ### Small steps -/

/-- BAR0 keeps the address bits above 2 MiB only (R89). -/
theorem test_bar0 : (match exec (.barWrite 0 false .bar0 0xFFFFFFFFFFFFFFFF) run with | .next t => t.blk.rd .cfgBar0 0 | _ => 0) = 0xFFFFFFFFFFE00000 := by decide +kernel
/-- A PME_Turn_Off takes an active link to L2 with PME_TO_Ack (R323). -/
theorem test_pme : (match exec (.pmeTurnOff 0) run with | .next t => (t.blk.rd .lnkLtssm 0, t.blk.rd .lnkDlActive 0) | _ => (0, 0)) = (6, 0) := by decide +kernel
/-- A write of FCP_REINS_OUT waits while no credit is held (R192). -/
theorem test_reins : (match exec (.reinsOutWrite 0 7) run with | .next t => (t.blk.rd .reinsOutValue 0, t.blk.rd .reinsOutPending 0) | _ => (0, 0)) = (7, 1) := by
  decide +kernel
/-- The wait queue is first in, first out. -/
theorem test_queue_order : (match step { mk [] with pending := [.pad 0, .forget 0] } with | .next t => t.pending | _ => []) = [.forget 0] := by decide +kernel
/-- An empty queue lets time pass (log entry 2). -/
theorem test_idle : (match step (mk []) with | .next t => t.blk.time | _ => 0) = 1 := by decide +kernel
/-- No word spells a command (log entry 1). -/
theorem test_no_words : decodeTableWord 16 0xFFFF = none := rfl
/-- After reset the module is off, and a command that needs power changes nothing. -/
theorem test_reset_off : (match exec .brownoutExit State.reset with | .next t => decide (t.blk = State.reset.blk) | _ => false) = true := by decide +kernel
end Sys2Proof.Tests
end

section
/-! PROOFS. The reset state (O6), and the Halter ring and JTAG port (O24): one equation per operation of Machine/Halter.lean, then
what each command does. -/
namespace Sys2Proof.Machine

/-! ### Commands, counters and the reset state -/

/-- A command that runs g on the block does whatever holds of the canonical form of g's result. -/
theorem State.does_of_on {s : State} {c : Instr} {p : Block → Prop} (g : Block → Block) (hc : exec c s = s.on g)
    (hp : p (g s.blk).canon) : s.does c p :=
  ⟨_, hc, rfl, hp⟩

/-- R8: a saturating counter after an increment. -/
@[simp] theorem Block.incSat_rd_self (b : Block) (f : Fld) (i j : Nat) :
    (b.incSat f i j).rd f i j = min (b.rd f i j + 1) (2 ^ (Fld.attr f).width - 1) := by
  have hlt : min (b.rd f i j + 1) (2 ^ (Fld.attr f).width - 1) < 2 ^ (Fld.attr f).width :=
    (min_le_right _ _).trans_lt (Nat.sub_lt (Nat.two_pow_pos _) one_pos)
  rw [Block.incSat, Block.wr_rd_self, Nat.mod_eq_of_lt hlt]

theorem resetVal_of_val {f : Fld} {n : Nat} (h : (Fld.attr f).rst = .val n) (b : Block) (i j : Nat) :
    resetVal b (key f i j) = n := by
  simp only [resetVal, key, h]

theorem Block.rd_of_regs_nil {b : Block} (h : b.regs = []) (f : Fld) (i j : Nat) : b.rd f i j = resetVal b (key f i j) := by
  simp only [Block.rd, h, lookupKey_nil]

theorem State.reset_rd_of_val {f : Fld} {n : Nat} (h : (Fld.attr f).rst = .val n) (i j : Nat) :
    State.reset.blk.rd f i j = n :=
  (Block.rd_of_regs_nil rfl f i j).trans (resetVal_of_val h _ i j)

/-- Settles O6: no field is stored after reset, so each reads its reset value. -/
theorem resetState : Obligations.ResetState := by
  unfold Obligations.ResetState
  have stage_zero : State.reset.blk.stage = 0 := State.reset_rd_of_val rfl 0 0
  exact ⟨rfl, rfl, rfl, stage_zero, fun f i j n h => State.reset_rd_of_val h i j⟩

/-! ### The Halter ring -/

namespace Block
variable {b : Block} {fr : HFrame}

/-- The port works only while the module is in the ring. -/
theorem inRing_of_haltLive (hl : b.haltLive = true) : b.inRing = true := by
  rw [haltLive, Bool.and_eq_true] at hl
  exact hl.2

/-- The types that Table 15.6 leaves undefined. -/
theorem haltTypeOk_eq_false {ty : Nat} (h : ty = 0 ∨ 6 < ty) : haltTypeOk ty = false := by
  simp only [haltTypeOk, Bool.and_eq_false_iff, decide_eq_false_iff_not]
  omega

theorem frameTake_unknown (ht : haltTypeOk fr.ty = false) : b.frameTake fr = b.incSat .haltCntDrop 0 := by
  simp [frameTake, ht]

theorem frameIn_bad (hl : b.haltLive = true) (hok : fr.ok = false) :
    b.frameIn fr = (b.emit (.halt fr)).incSat .haltCntCrcFail 0 := by
  simp [frameIn, hl, hok]

theorem frameIn_toOther (hl : b.haltLive = true) (hok : fr.ok = true) (hdst : fr.dst ≠ b.straps.haltId.toNat)
    (hbc : fr.dst ≠ 0x7F) (hsrc : fr.src ≠ b.straps.haltId.toNat) : b.frameIn fr = b.emit (.halt fr) := by
  simp [frameIn, hl, hok, hdst, hbc, hsrc]

theorem frameIn_toSelf (hl : b.haltLive = true) (hok : fr.ok = true) (hdst : fr.dst = b.straps.haltId.toNat) :
    b.frameIn fr = b.frameTake fr := by
  simp [frameIn, hl, hok, hdst]

theorem discovered_live (hl : b.haltLive = true) (v : Nat) : b.discovered v =
    { b.wr .haltVersion 0 0 (max 1 (min 2 v)) with halt := { b.halt with disc := true, owed := true } } := by
  simp [discovered, hl]

/-- R370: the version that DISCOVER settles on, 1 or 2, fits its field. -/
theorem discovered_version (hl : b.haltLive = true) (v : Nat) : (b.discovered v).rd .haltVersion 0 = max 1 (min 2 v) := by
  have hfits : max 1 (min 2 v) < 2 ^ (Fld.attr .haltVersion).width := by
    change max 1 (min 2 v) < 2 ^ 4
    omega
  rw [discovered_live hl]
  exact (wr_rd_self b .haltVersion 0 0 _).trans (Nat.mod_eq_of_lt hfits)

/-- R368: a frame of the module goes to the BMC, under the module's identifier. -/
theorem haltSend_inRing (hr : b.inRing = true) (ty : Nat) (payload : List Byte) : b.haltSend ty payload =
    { b.emit (.halt ⟨b.haltVer, 0x7E, b.straps.haltId.toNat, ty, b.halt.seq, payload, true⟩) with
      halt := { b.halt with seq := (b.halt.seq + 1) % 65536 } } := by
  simp [haltSend, hr]

/-- R370: a STATUS that is owed goes out once. -/
theorem statusSend_owed (hl : b.haltLive = true) (ho : b.halt.owed = true) : b.statusSend.halt.owed = false ∧
    ∃ fr : HFrame, b.statusSend.out = .halt fr :: b.out ∧ fr.ty = 2 ∧ fr.dst = 0x7E ∧ fr.src = b.straps.haltId.toNat := by
  have hr : ({ b with halt := { b.halt with owed := false } } : Block).inRing = true := inRing_of_haltLive hl
  rw [statusSend, if_neg (by simp [hl, ho]), haltSend_inRing hr]
  exact ⟨rfl, _, rfl, rfl, rfl, rfl⟩

theorem standWake_stand (hs : b.pow.st = .stand) (hd : b.flag .pstDroop 0 = false) : b.standWake = b.standLeave := by
  simp [standWake, hs, hd]

/-- R327: Stand is left for Walk, gait 1. -/
theorem standLeave_walk (b : Block) : b.standLeave.pow.st = .on ∧ b.standLeave.rd .gaitCurrent 0 = 1 :=
  ⟨rfl, wr_rd_self _ .gaitCurrent 0 0 1⟩

/-- An IMAGE_REQ goes out on the ring and changes no register field. -/
theorem imgReqSend_rd (b : Block) (r : ImgReq) (f : Fld) (i j : Nat) : (b.imgReqSend r).rd f i j = b.rd f i j :=
  (imgReqSend_fr (fm := 0) (fq := 0x48000000) b r rfl rfl (Fr.refl _ _ b)).reg f i j (Nat.zero_testBit _)

theorem each_imgReqSend_rd (b : Block) (rs : List ImgReq) (f : Fld) (i j : Nat) :
    (b.each rs (fun b r => b.imgReqSend r)).rd f i j = b.rd f i j := by
  induction rs generalizing b with
  | nil => rfl
  | cons r rs ih => exact (ih (b.imgReqSend r)).trans (imgReqSend_rd b r f i j)

/-- R374: a port that may rejoin is in the ring again. -/
theorem rejoin_inRing (hs : b.inService = true) (hp : b.tap.portOn = true) (hb : b.flag .haltBypass 0 = false)
    (hr : b.inRing = false) : b.rejoin.rd .haltInRing 0 = 1 := by
  simp only [rejoin, hs, hp, hb, hr, Bool.not_false, Bool.and_self, if_true]
  exact (each_imgReqSend_rd _ _ _ _ _).trans (wr_rd_self b .haltInRing 0 0 1)

/-! ### JTAG -/

theorem tapSet_live (ht : b.tapLive = true) (i : TapIns) : b.tapSet i = { b with tap := { b.tap with ins := i } } := by
  simp [tapSet, ht]

/-- R4: bit 0 of the IDCODE is 1. -/
theorem idcode_bit_zero (b : Block) : bit b.idcode 0 = true := by
  simp only [bit, idcode, pow_zero, Nat.div_one, beq_iff_eq]
  omega

theorem tapIdcode_live (ht : b.tapLive = true) : b.tapIdcode =
    (b.tapSet .idcode).emit (.tdo ((List.range 32).map (fun i => bit b.idcode i))) := by
  simp [tapIdcode, ht]

theorem tapSample_load (ht : b.tapLive = true) (l : List Bool) : b.tapSample (some l) =
    { b with tap := { b.tap with ins := .samplePreload, bsr := l } } := by
  simp [tapSample, ht, tapSet_live]

theorem tapSample_capture (ht : b.tapLive = true) : b.tapSample none =
    ({ b with tap := { b.tap with ins := .samplePreload, bsr := Config.scanCapture b.freeCtr } }.useFree).emit
      (.tdo (Config.scanCapture b.freeCtr)) := by
  simp [tapSample, ht, tapSet_live]

end Block

/-! ### What the commands do -/

section commands
variable {s : State} {fr : HFrame}

/-- R367: a bad frame is passed on and counted. -/
theorem State.does_halterFrameForward_bad (hl : s.blk.haltLive = true) (hok : fr.ok = false) :
    s.does (.halterFrameForward fr) fun b => b.out = .halt fr :: s.blk.out ∧
      b.rd .haltCntCrcFail 0 = min (s.blk.rd .haltCntCrcFail 0 + 1) (2 ^ (Fld.attr .haltCntCrcFail).width - 1) := by
  refine State.does_of_on (·.frameIn fr) rfl ?_
  simp only [Block.frameIn_bad hl hok, Block.canon_out, Block.canon_rd, Block.incSat_out, Block.emit_out,
    Block.incSat_rd_self, Block.emit_rd, and_self]

/-- R367: a frame between other modules is passed on as it came. -/
theorem State.does_halterFrameForward_toOther (hl : s.blk.haltLive = true) (hok : fr.ok = true)
    (hdst : fr.dst ≠ s.blk.straps.haltId.toNat) (hbc : fr.dst ≠ 0x7F) (hsrc : fr.src ≠ s.blk.straps.haltId.toNat) :
    s.does (.halterFrameForward fr) fun b => b.out = .halt fr :: s.blk.out ∧ ∀ f i j, b.rd f i j = s.blk.rd f i j := by
  refine State.does_of_on (·.frameIn fr) rfl ?_
  simp only [Block.frameIn_toOther hl hok hdst hbc hsrc, Block.canon_out, Block.canon_rd, Block.emit_out, Block.emit_rd,
    implies_true, and_self]

/-- R369: a frame for the module of an undefined type is dropped and counted. -/
theorem State.does_halterFrameForward_unknown (hl : s.blk.haltLive = true) (hok : fr.ok = true)
    (hdst : fr.dst = s.blk.straps.haltId.toNat) (hty : fr.ty = 0 ∨ 6 < fr.ty) :
    s.does (.halterFrameForward fr) fun b => b.out = s.blk.out ∧
      b.rd .haltCntDrop 0 = min (s.blk.rd .haltCntDrop 0 + 1) (2 ^ (Fld.attr .haltCntDrop).width - 1) := by
  refine State.does_of_on (·.frameIn fr) rfl ?_
  simp only [Block.frameIn_toSelf hl hok hdst, Block.frameTake_unknown (Block.haltTypeOk_eq_false hty), Block.canon_out,
    Block.canon_rd, Block.incSat_out, Block.incSat_rd_self, and_self]

/-- R370: DISCOVER settles the version and owes a STATUS. -/
theorem State.does_discover (hl : s.blk.haltLive = true) (v : Nat) :
    s.does (.discover v) fun b => b.rd .haltVersion 0 = max 1 (min 2 v) ∧ b.halt.owed = true := by
  refine State.does_of_on (·.discovered v) rfl ⟨?_, ?_⟩
  · rw [Block.canon_rd, Block.discovered_version hl]
  · rw [Block.canon_halt, Block.discovered_live hl]

/-- R327, R369: WAKE ends Stand. -/
theorem State.does_wake (hl : s.blk.haltLive = true) (hs : s.blk.pow.st = .stand) (hd : s.blk.flag .pstDroop 0 = false) :
    s.does .wake fun b => b.pow.st = .on ∧ b.rd .gaitCurrent 0 = 1 := by
  refine State.does_of_on (fun b => if b.haltLive then b.standWake else b) rfl ?_
  simpa only [hl, if_true, Block.standWake_stand hs hd, Block.canon_pow, Block.canon_rd] using Block.standLeave_walk s.blk

/-- R375: a command that only selects an instruction makes it current. -/
theorem State.does_tapSet {c : Instr} (i : TapIns) (hc : exec c s = s.on (·.tapSet i)) (ht : s.blk.tapLive = true) :
    s.does c fun b => b.tap.ins = i := by
  refine State.does_of_on (·.tapSet i) hc ?_
  rw [Block.canon_tap, Block.tapSet_live ht]

/-- R375: SAMPLE/PRELOAD loads the boundary-scan register. -/
theorem State.does_jtagSamplePreload_load (ht : s.blk.tapLive = true) (l : List Bool) :
    s.does (.jtagSamplePreload (some l)) fun b => b.tap.ins = .samplePreload ∧ b.tap.bsr = l := by
  refine State.does_of_on (·.tapSample (some l)) rfl ?_
  simp only [Block.canon_tap, Block.tapSample_load ht, and_self]

/-- R375: SAMPLE/PRELOAD shifts out what it captured. -/
theorem State.does_jtagSamplePreload_capture (ht : s.blk.tapLive = true) :
    s.does (.jtagSamplePreload none) fun b => b.tap.ins = .samplePreload ∧ b.out = .tdo b.tap.bsr :: s.blk.out := by
  refine State.does_of_on (·.tapSample none) rfl ?_
  simp only [Block.canon_tap, Block.canon_out, Block.tapSample_capture ht, Block.emit_tap, Block.emit_out, Block.useFree_tap,
    Block.useFree_out, and_self]

/-- R4: IDCODE shifts out 32 bits, the first of them 1. -/
theorem State.does_jtagIdcode (ht : s.blk.tapLive = true) :
    s.does .jtagIdcode fun b => b.tap.ins = .idcode ∧
      ∃ l, b.out = .tdo l :: s.blk.out ∧ l.length = 32 ∧ l.head? = some true := by
  refine State.does_of_on (·.tapIdcode) rfl ?_
  have hfirst : ((List.range 32).map (fun i => bit s.blk.idcode i)).head? = some true :=
    congrArg some (Block.idcode_bit_zero s.blk)
  rw [Block.canon_tap, Block.canon_out, Block.tapIdcode_live ht, Block.tapSet_live ht]
  exact ⟨rfl, _, rfl, rfl, hfirst⟩

/-- R391: TRST_N puts the TAP into reset; the boundary-scan register and every field stay. -/
theorem State.does_jtagTrstNAssert (s : State) :
    s.does .jtagTrstNAssert fun b => b.tap.ins = .reset ∧ b.tap.bsr = s.blk.tap.bsr ∧ ∀ f i j, b.rd f i j = s.blk.rd f i j :=
  State.does_of_on (fun b => { b with tap := { b.tap with ins := .reset } }) rfl ⟨rfl, rfl, Block.canon_rd _⟩

end commands

/-- Settles O24, clause by clause from what each command does. -/
theorem halterAndJtag : Obligations.HalterAndJtag := by
  unfold Obligations.HalterAndJtag
  refine ⟨⟨fun s fr hl => ⟨?bad, ?other, ?unknown⟩, ?discover, ?status, ?wake, ?rejoin⟩, fun s ht => ?jtag, ?trst⟩
  case bad => exact State.does_halterFrameForward_bad hl
  case other => exact State.does_halterFrameForward_toOther hl
  case unknown => exact State.does_halterFrameForward_unknown hl
  case discover => exact fun s v hl => State.does_discover hl v
  case status => exact fun s hl ho => State.does_of_on (·.statusSend) rfl (Block.statusSend_owed hl ho)
  case wake => exact fun s => State.does_wake
  case rejoin =>
    intro s hs hp hb hr
    exact State.does_of_on (·.rejoin) rfl ((Block.canon_rd ..).trans (Block.rejoin_inRing hs hp hb hr))
  case jtag =>
    exact ⟨State.does_tapSet .bypass rfl ht, State.does_tapSet .extest rfl ht, State.does_tapSet .clamp rfl ht,
      State.does_tapSet .highz rfl ht, State.does_tapSet .extestPulse rfl ht, State.does_tapSet .extestTrain rfl ht,
      State.does_jtagSamplePreload_load ht, State.does_jtagSamplePreload_capture ht, State.does_jtagIdcode ht⟩
  case trst => exact State.does_jtagTrstNAssert

end Sys2Proof.Machine
end

section
/-! PROOFS. Loom grants, the resume, narrow and wide, and power gating (O13): what each operation of Machine/Faults.lean leaves in
the Loom, then what each command does. -/
namespace Sys2Proof.Machine
namespace Block

/-! ### Operations that leave the Loom as it is -/

@[simp] theorem payAll_loom (b : Block) : b.payAll.loom = b.loom :=
  (payAll_fr b (Nat.and_self _) (Nat.and_self _) (Fr.refl _ _ b)).part .loom rfl

/-- What the Loom held crosses, and the Loom itself stays. -/
@[simp] theorem loomRelease_loom (b : Block) : b.loomRelease.loom = b.loom :=
  (loomRelease_fr b (Nat.and_self _) (Nat.and_self _) (Fr.refl _ _ b)).part .loom rfl

/-- R291: the errors logged for a list of functions. -/
theorem each_logErr_loom (b : Block) (fs : List Nat) (e : Block → LogE) :
    (b.each fs (fun b f => b.logErr f (e b))).loom = b.loom :=
  (Fr.each (fun b f h => logErr_fr b f (e b) 0 (Nat.and_self _) (Nat.and_self _) h) (Fr.refl _ _ b)).part .loom rfl

@[simp] theorem holdBack_loom (b : Block) (h : HeldAct) : (b.holdBack h).loom = b.loom :=
  (holdBack_fr b h (Nat.and_self _) (Nat.and_self _) (Fr.refl _ _ b)).part .loom rfl

/-- R315: an action held back joins the list of held actions, or stands in it already. -/
theorem mem_holdBack_held (b : Block) (h : HeldAct) : h ∈ (b.holdBack h).pow.held := by
  by_cases hc : b.pow.held.contains h = true
  · rw [holdBack, if_pos hc]
    exact List.contains_iff_mem.mp hc
  · rw [holdBack, if_neg hc]
    exact List.mem_append_right _ (List.mem_singleton_self h)

/-! ### Grants (R19 to R21, R298) -/

section grants
variable {b : Block} {o i c : Nat} {offers : List (LoomIx × LoomClass)} {credits : List LoomClass} {bad : Bool}

/-- What waits for grants once the offers to output port o have come in. -/
def loomOffered (b : Block) (o : Nat) (offers : List (LoomIx × LoomClass)) : List (Nat × Nat × Nat) :=
  b.loom.waits ++ offers.map (fun x => (o, x.1.val, loomClass x.2))

/-- R298: a stopped Loom takes the offers in and grants none. -/
theorem loomMove_stopped (hs : b.loom.stopped = true) :
    b.loomMove o offers credits bad = { b with loom := { b.loom with waits := b.loomOffered o offers } } := by
  simp only [loomMove, hs, Bool.true_or, if_true]
  rfl

/-- R19: the grant to input i of its offer of class c. -/
theorem loomMove_granted (hs : b.loom.stopped = false) (hp : b.pow.st = .on)
    (hi : pickFree (fun k => (offerFrom (fun n => credits.any (fun x => loomClass x == n)) o k [] (b.loomOffered o offers)).isSome)
      33 (b.loomPtr o) = some i)
    (hc : offerFrom (fun n => credits.any (fun x => loomClass x == n)) o i [] (b.loomOffered o offers) = some c) :
    (b.loomMove o offers credits bad).loom = { b.loom with
      ptr := (o, (i + 1) % 33) :: dropKey o b.loom.ptr
      waits := if bad then b.loomOffered o offers
        else dropFirst (fun w => w.1 == o && w.2.1 == i && w.2.2 == c) (b.loomOffered o offers) } := by
  have hpick : ({ b with loom := { b.loom with waits := b.loomOffered o offers } } : Block).loomPick
      (fun n => credits.any (fun x => loomClass x == n)) o = some i := hi
  have hgo : ¬ (b.loom.stopped || b.pow.st != .on) = true := by simp [hs, hp]
  unfold loomOffered at hpick hc ⊢
  simp only [loomMove, if_neg hgo, hpick, hc, payAll_loom, Option.getD_some]

end grants

/-! ### The resume, narrow and wide, power gating -/

/-- R298 step 5: the substitution is over and granting resumes; nothing else of the Loom changes. -/
theorem sliceResume_loom {b : Block} {i t0 : Nat} (hs : b.loom.sub = some (i, t0)) :
    b.sliceResume.loom = { b.loom with sub := none, stopped := false } := by
  simp only [sliceResume, hs, loomRelease_loom]
  exact each_logErr_loom _ _ _

theorem loomNarrowGo_economy {b : Block} (hg : b.groomReady = true) (he : b.allEconomy = true) :
    b.loomNarrowGo = { b with loom := { b.loom with narrow := true } } := by
  rw [loomNarrowGo, hg, he, Bool.and_self, if_pos rfl]

/-- R314: the widening starts a ramp of the input current. -/
theorem loomWidenGo_widens {b : Block} (hg : b.groomReady = true) (hn : b.loom.narrow = true) (hd : b.flag .pstDroop 0 = false)
    (hr : b.pow.ramp = false) : b.loomWidenGo.loom.narrow = false ∧ b.loomWidenGo.pow.ramp = true := by
  simp [loomWidenGo, hg, hn, hd, hr]

/-- R315: an open droop window holds the widening back. -/
theorem loomWidenGo_droop {b : Block} (hg : b.groomReady = true) (hn : b.loom.narrow = true) (hd : b.flag .pstDroop 0 = true) :
    b.loomWidenGo = b.holdBack .loomWiden := by
  simp [loomWidenGo, hg, hn, hd]

theorem mem_gateUnit_gated {b : Block} {u : GateRef} (hp : b.pow.st = .on) (hm : b.mayGate u = true) : u ∈ (b.gateUnit u).gated := by
  by_cases hu : u ∈ b.gated
  · simp [gateUnit, hu]
  · simp [gateUnit, hp, hm, hu]

end Block

/-! ### What each command does -/

section commands
variable {s : State} {o : LoomIx} {offers : List (LoomIx × LoomClass)} {credits : List LoomClass} {bad : Bool}

theorem State.does_loomTransfer {p : Block → Prop} (hp : p (s.blk.loomMove o.val offers credits bad).canon) :
    s.does (.loomTransfer o offers bad credits) p :=
  State.does_of_on (·.loomMove o.val offers credits bad) rfl hp

theorem State.does_loomTransfer_granted {i c : Nat} (hs : s.blk.loom.stopped = false) (hp : s.blk.pow.st = .on)
    (hi : pickFree (fun k => (offerFrom (fun n => credits.any (fun x => loomClass x == n)) o.val k []
      (s.blk.loomOffered o.val offers)).isSome) 33 (s.blk.loomPtr o.val) = some i)
    (hc : offerFrom (fun n => credits.any (fun x => loomClass x == n)) o.val i [] (s.blk.loomOffered o.val offers) = some c) :
    s.does (.loomTransfer o offers bad credits) fun b => b.loomPtr o.val = (i + 1) % 33 ∧
      b.loom.waits = if bad then s.blk.loomOffered o.val offers
        else dropFirst (fun w => w.1 == o.val && w.2.1 == i && w.2.2 == c) (s.blk.loomOffered o.val offers) := by
  refine State.does_loomTransfer ?_
  rw [Block.loomPtr, Block.canon_loom, Block.loomMove_granted hs hp hi hc]
  exact ⟨unitOf_cons_self .., rfl⟩

theorem State.does_loomTransfer_stopped (hs : s.blk.loom.stopped = true) :
    s.does (.loomTransfer o offers bad credits) fun b => b.loom.ptr = s.blk.loom.ptr ∧
      b.loom.waits = s.blk.loomOffered o.val offers := by
  refine State.does_loomTransfer ?_
  rw [Block.canon_loom, Block.loomMove_stopped hs]
  exact ⟨rfl, rfl⟩

theorem State.does_loomSliceResume {i t0 : Nat} (hs : s.blk.loom.sub = some (i, t0)) :
    s.does .loomSliceResume fun b => b.loom.stopped = false ∧ b.loom.sub = none := by
  refine State.does_of_on (·.sliceResume) rfl ?_
  rw [Block.canon_loom, Block.sliceResume_loom hs]
  exact ⟨rfl, rfl⟩

theorem State.does_loomNarrow (hg : s.blk.groomReady = true) (he : s.blk.allEconomy = true) :
    s.does .loomNarrow fun b => b.loom.narrow = true := by
  refine State.does_of_on (·.loomNarrowGo) rfl ?_
  rw [Block.canon_loom, Block.loomNarrowGo_economy hg he]

theorem State.does_loomWiden_droop (hg : s.blk.groomReady = true) (hn : s.blk.loom.narrow = true)
    (hd : s.blk.flag .pstDroop 0 = true) :
    s.does .loomWiden fun b => b.loom.narrow = true ∧ HeldAct.loomWiden ∈ b.pow.held := by
  refine State.does_of_on (·.loomWidenGo) rfl ?_
  rw [Block.canon_loom, Block.canon_pow, Block.loomWidenGo_droop hg hn hd, Block.holdBack_loom]
  exact ⟨hn, Block.mem_holdBack_held ..⟩

end commands

/-- Settles O13, clause by clause from what each command does. -/
theorem loomAndGating : Obligations.LoomAndGating := by
  unfold Obligations.LoomAndGating
  refine ⟨?granted, ?stopped, ?resume, ?narrow, fun s hg hn => ⟨?widens, ?held⟩, ?gate⟩
  case granted => exact fun s o offers credits i c bad => State.does_loomTransfer_granted
  case stopped => exact fun s o offers credits bad => State.does_loomTransfer_stopped
  case resume => exact fun s i t0 => State.does_loomSliceResume
  case narrow => exact fun s => State.does_loomNarrow
  case widens => exact fun hd hr => State.does_of_on (·.loomWidenGo) rfl (Block.loomWidenGo_widens hg hn hd hr)
  case held => exact State.does_loomWiden_droop hg hn
  case gate => exact fun s u hp hm => State.does_of_on (·.gateUnit u) rfl (Block.mem_gateUnit_gated hp hm)

end Sys2Proof.Machine
end

section
/-! PROOFS. Sending on the Tether ports: what it leaves as it is, that what has been handed over or sent stays so, and what a port's
XLB record holds after it. The statements about XLB (O45 to O47, O49 to O52) rest on it. -/
namespace Sys2Proof.Machine
namespace Block

/-! ### What has been sent stays sent -/

/-- Everything that a has sent, or has handed to a Tether controller, b has too. -/
def Extends (a b : Block) : Prop := a.out ⊆ b.out ∧ ∀ p, (a.tt p).buf ⊆ (b.tt p).buf

namespace Extends
variable {a b c : Block}

theorem refl (a : Block) : Extends a a := ⟨fun _ h => h, fun _ _ h => h⟩

theorem trans (h : Extends a b) (k : Extends b c) : Extends a c :=
  ⟨fun _ ho => k.1 (h.1 ho), fun p _ hm => k.2 p (h.2 p hm)⟩

/-- An operation on something else than what has been sent. -/
theorem of_eq (ho : b.out = a.out) (ht : ∀ p, b.tt p = a.tt p) : Extends a b :=
  ⟨fun _ h => ho ▸ h, fun p _ h => by rwa [ht]⟩

theorem of_fr {m q : Nat} (h : Fr m q a b) (ho : q.testBit 30 = false) (ht : q.testBit 7 = false) : Extends a b :=
  of_eq (h.part .out ho) (h.part .tth ht)

theorem emit (o : Out) (h : Extends a b) : Extends a (b.emit o) :=
  ⟨fun _ hx => List.mem_cons_of_mem _ (h.1 hx), h.2⟩

theorem ttMod {u : Nat} {g : TthDyn → TthDyn} (hg : ∀ t : TthDyn, t.buf ⊆ (g t).buf) (h : Extends a b) :
    Extends a (b.ttMod u g) := by
  refine h.trans ⟨fun _ hx => hx, fun p => ?_⟩
  by_cases hp : p = u
  · subst hp
    rw [ttMod_tt_self]
    exact hg _
  · rw [ttMod_tt_ne b hp]
    exact fun _ hx => hx

theorem each {α : Type} {g : Block → α → Block} (hg : ∀ b x, Extends b (g b x)) (l : List α) (h : Extends a b) :
    Extends a (b.each l g) := by
  induction l generalizing b with
  | nil => exact h
  | cons x t ih => exact ih (h.trans (hg b x))

theorem ite {P : Prop} [Decidable P] (hb : Extends a b) (hc : Extends a c) : Extends a (if P then b else c) := by
  split <;> assumption

theorem handed {p : Nat} {m : XMsg} (h : Extends a b) (hm : a.handed p m) : b.handed p m := by
  obtain ⟨x, hx, he⟩ := hm
  exact ⟨x, h.2 p hx, he⟩

end Extends

section sent
variable (b : Block) (p : Nat)

theorem extends_putWire (x : WireTx) : Extends b (b.putWire x) := Extends.refl b

theorem extends_putMark : Extends b (b.putMark p) := by
  unfold putMark
  dsimp only
  refine .emit _ (.ttMod (fun _ _ h => h) (.each (fun b i => extends_putWire b _) _ (.refl b)))

theorem extends_putSkip : Extends b (b.putSkip p) := by
  unfold putSkip
  exact .emit _ (.ttMod (fun _ _ h => h) (extends_putWire ..))

theorem extends_putFlit (ty : Nat) (area : List Byte) : Extends b (b.putFlit p ty area) := by
  unfold putFlit
  extract_lets m x b1 b2
  have h1 : Extends b b1 := .ttMod (fun _ _ h => h) (extends_putWire ..)
  have h2 : Extends b b2 := .ite (h1.trans (extends_putSkip ..)) h1
  exact .ite (h2.trans (extends_putMark ..)) h2

theorem extends_putRepeats : Extends b (b.putRepeats p) := by
  have hgive : ∀ (P : Prop) [Decidable P] (area : List Byte), Extends b (if P then b.putFlit p 2 area else b) := fun P _ area =>
    .ite (extends_putFlit ..) (.refl b)
  unfold putRepeats
  dsimp only
  split
  · refine .ite (extends_putFlit ..) ?_
    split
    · exact hgive ..
    · exact .refl b
  · exact hgive ..
  · exact .refl b

theorem extends_txFlit (ty : Nat) (area : List Byte) : Extends b (b.txFlit p ty area) :=
  (extends_putRepeats b p).trans (extends_putFlit ..)

theorem extends_ttPump (n : Nat) : Extends b (b.ttPump p n) := by
  induction n generalizing b with
  | zero => exact .refl b
  | succ n ih =>
    unfold ttPump
    dsimp only
    split
    · exact .refl b
    · refine .ite (.refl b) (.trans (.each (fun b a => extends_txFlit b p 0 a) _ ?_) (ih _))
      exact .emit _ (.ttMod (fun _ _ h => h) (.refl b))

theorem extends_wakeGo : Extends b (b.wakeGo p) := by
  unfold wakeGo
  extract_lets owed b1
  have h1 : Extends b b1 := by
    refine .trans ?_ (extends_putMark ..)
    exact .emit _ (.ttMod (fun _ _ h => h) (.of_eq rfl fun _ => rfl))
  exact .ite (h1.trans (extends_txFlit ..)) h1

theorem extends_holdBack (h : HeldAct) : Extends b (b.holdBack h) :=
  .of_fr (holdBack_fr b h (Nat.and_self _) (Nat.and_self _) (Fr.refl ..)) rfl rfl

theorem extends_tthWake : Extends b (b.tthWake p) := by
  unfold tthWake
  refine .ite (.ite (.trans ?_ (extends_holdBack ..)) (extends_wakeGo b p)) (.refl b)
  exact .ttMod (fun _ _ h => h) (.refl b)

/-- A message that joins the replay buffer goes out behind what is ahead of it. -/
theorem extends_join (n w k : Nat) (m : XMsg) : Extends b
    (((b.ttMod p (fun t => { t with txSeq := t.txSeq + n, buf := t.buf ++ [⟨t.txSeq, n, w, m⟩] })).tthWake p).ttPump p k) := by
  refine .trans (.trans ?_ (extends_tthWake ..)) (extends_ttPump ..)
  exact .ttMod (fun _ _ h => List.mem_append_left _ h) (.refl b)

theorem join_handed (n w k : Nat) (m : XMsg) :
    (((b.ttMod p (fun t => { t with txSeq := t.txSeq + n, buf := t.buf ++ [⟨t.txSeq, n, w, m⟩] })).tthWake p).ttPump p k).handed p m := by
  refine Extends.handed (.trans (extends_tthWake ..) (extends_ttPump ..)) ?_
  rw [handed, ttMod_tt_self]
  exact ⟨_, List.mem_append_right _ (List.mem_singleton_self _), rfl⟩

theorem extends_xsend (m : XMsg) : Extends b (b.xsend p m) := by
  unfold xsend
  exact .ite (.refl b) (extends_join ..)

end sent

/-- A message for a port that is ACTIVE is handed over. -/
theorem xsend_handed {b : Block} {p : Nat} (h : b.active p = true) (m : XMsg) : (b.xsend p m).handed p m := by
  unfold xsend
  extract_lets isCaps w n b1
  rw [h, Bool.true_or, if_neg (by decide)]
  exact join_handed ..

/-- A CAPS is handed over in every state. -/
theorem xsend_caps_handed (b : Block) (p : Nat) (c : CapsMsg) : (b.xsend p (.caps c)).handed p (.caps c) := by
  unfold xsend
  extract_lets isCaps w n b1
  rw [Bool.or_true, if_neg (by decide)]
  exact join_handed ..

/-! ### What sending on a Tether port leaves as it is -/

/-- From a to b messages were sent on Tether ports, and XLB records, the crossings of the Loom and what it holds may have changed: but
for the field of a dozing transmitter every field is as it was, and so is every other part. -/
def Tether (a b : Block) : Prop := Fr 0x20000000000000000000000000000000000000000000000000000000 0x7400040c2 a b

theorem ctorIdx_ne_psTxDoze {f : Fld} (h : f ≠ .psTxDoze) :
    Nat.testBit 0x20000000000000000000000000000000000000000000000000000000 f.ctorIdx = false := by
  have hbit : 0x20000000000000000000000000000000000000000000000000000000 = 2 ^ Fld.ctorIdx .psTxDoze := rfl
  rw [hbit]
  exact Nat.testBit_two_pow_of_ne fun e => h (Fld.ctorIdx_inj e).symm

namespace Tether
variable {a b c : Block}

theorem refl (a : Block) : Tether a a := Fr.refl ..
theorem trans (h : Tether a b) (k : Tether b c) : Tether a c := Fr.trans h k
theorem rd (h : Tether a b) {f : Fld} (hf : f ≠ .psTxDoze) (i j : Nat) : b.rd f i j = a.rd f i j :=
  h.reg f i j (ctorIdx_ne_psTxDoze hf)
theorem flag (h : Tether a b) {f : Fld} (hf : f ≠ .psTxDoze) (i j : Nat) : b.flag f i j = a.flag f i j := by
  rw [Block.flag, h.rd hf, Block.flag]
theorem lk (h : Tether a b) (l : Nat) : b.lk l = a.lk l := h.part .links rfl l
theorem fn (h : Tether a b) (f : Nat) : b.fn f = a.fn f := h.part .fns rfl f
theorem loom (h : Tether a b) : b.loom = a.loom := h.part .loom rfl
theorem img (h : Tether a b) : b.img = a.img := h.part .img rfl
theorem active (h : Tether a b) (p : Nat) : b.active p = a.active p := h.flag (by decide) p 0
theorem xw (h : Tether a b) (p : Nat) : b.xw p = a.xw p := by rw [Block.xw, h.rd (by decide), Block.xw]
theorem xver (h : Tether a b) (p : Nat) : b.xver p = a.xver p := h.rd (by decide) p 0
theorem shut (h : Tether a b) (p : Nat) : b.shut p = a.shut p := by
  simp only [Block.shut, fenced, looped, h.flag (f := .xlbFenced) (by decide), h.rd (f := .psState) (by decide)]

end Tether

section tether
variable (b : Block) (p : Nat)

theorem tether_xMod (g : XlbDyn → XlbDyn) : Tether b (b.xMod p g) := Fr.xMod rfl (Fr.refl ..)
theorem tether_cross (i o : Option Nat) (cls n : Nat) : Tether b (b.cross i o cls n) := cross_fr b i o cls n rfl rfl (Fr.refl ..)
theorem tether_xsend (m : XMsg) : Tether b (b.xsend p m) := xsend_fr b p m rfl rfl (Fr.refl ..)
theorem tether_kick : Tether b (b.kick p) := kick_fr b p rfl rfl (Fr.refl ..)
theorem tether_retMsg : Tether b (b.retMsg p) := retMsg_fr b p rfl rfl (Fr.refl ..)
theorem tether_lmTake (n : Nat) : Tether b (b.lmTake p n) := lmTake_fr b p n rfl rfl (Fr.refl ..)
theorem tether_lmTry (arr : Nat) : Tether b (b.lmTry p arr) := lmTry_fr b p arr rfl rfl (Fr.refl ..)

@[simp] theorem xsend_x (m : XMsg) (q : Nat) : (b.xsend p m).x q = b.x q :=
  (xsend_fr b p m (Nat.and_self _) (Nat.and_self _) (Fr.refl ..)).part .xlb rfl q
@[simp] theorem cross_x (i o : Option Nat) (cls n q : Nat) : (b.cross i o cls n).x q = b.x q := rfl

end tether

/-! ### The XLB record of a port after sending -/

/-- Answers that go out use up credits and leave the queue of answers; the rest of the record stays. -/
theorem pumpRsp_x (b : Block) (p n : Nat) :
    ∃ rs cr, (b.pumpRsp p n).x p = { b.x p with rspQ := rs, cr := cr } := by
  induction n generalizing b with
  | zero => exact ⟨_, _, rfl⟩
  | succ n ih =>
    unfold pumpRsp
    split
    · exact ⟨_, _, rfl⟩
    · dsimp only
      split
      · obtain ⟨rs, cr, h⟩ := ih (Block.xsend _ p _)
        rw [xsend_x, xMod_x_self] at h
        exact ⟨rs, cr, h⟩
      · exact ⟨_, _, rfl⟩

/-- Requests that go out keep their numbers and use up credits; the rest of the record stays. -/
theorem pumpX_x (b : Block) (p n : Nat) : ∃ rs cr, (b.pumpX p n).x p = { b.x p with reqs := rs, cr := cr } ∧
    rs.map (·.rid) = (b.x p).reqs.map (·.rid) := by
  induction n generalizing b with
  | zero => exact ⟨_, _, rfl, rfl⟩
  | succ n ih =>
    unfold pumpX
    dsimp only
    split
    · exact ⟨_, _, rfl, rfl⟩
    · split
      · split
        · exact ⟨_, _, rfl, rfl⟩
        · obtain ⟨rs, cr, h, hr⟩ := ih (Block.xsend _ p _)
          rw [xsend_x, xMod_x_self, useFree_x] at h hr
          refine ⟨rs, cr, h, hr.trans ?_⟩
          simp only [mapIf, List.map_map]
          refine List.map_congr_left fun r _ => ?_
          simp only [Function.comp_apply]
          split <;> rfl
      · exact ⟨_, _, rfl, rfl⟩

section record
variable (b : Block) (p : Nat)

theorem kick_x : ∃ rs cr, (b.kick p).x p = { b.x p with reqs := rs, cr := cr } ∧ rs.map (·.rid) = (b.x p).reqs.map (·.rid) :=
  pumpX_x ..

@[simp] theorem kick_rids : ((b.kick p).x p).reqs.map (·.rid) = (b.x p).reqs.map (·.rid) := by
  obtain ⟨rs, cr, h, hr⟩ := kick_x b p
  rw [h, ← hr]
@[simp] theorem kick_quar : ((b.kick p).x p).quar = (b.x p).quar := by
  obtain ⟨rs, cr, h, -⟩ := kick_x b p
  rw [h]
@[simp] theorem kick_lms : ((b.kick p).x p).lms = (b.x p).lms := by
  obtain ⟨rs, cr, h, -⟩ := kick_x b p
  rw [h]
@[simp] theorem kick_wrs : ((b.kick p).x p).wrs = (b.x p).wrs := by
  obtain ⟨rs, cr, h, -⟩ := kick_x b p
  rw [h]

/-- What no request waits for stays unsent: there is nothing to send. -/
theorem kick_of_no_waiting (h : ∀ r ∈ (b.x p).reqs, r.st ≠ .waiting) : b.kick p = b := by
  have hnone : (b.x p).reqs.filter (fun r => r.st == .waiting) = [] :=
    List.filter_eq_nil_iff.2 fun r hr => by simpa using h r hr
  rw [kick, hnone]
  rfl

theorem reqEnded_iff (rid : Nat) : b.reqEnded p rid ↔ rid ∉ (b.x p).reqs.map (·.rid) := by
  simp only [reqEnded, List.mem_map, not_exists, not_and, ne_eq]

/-- A request that has ended stays so when what waits is sent. -/
theorem kick_reqEnded {rid : Nat} (h : b.reqEnded p rid) : (b.kick p).reqEnded p rid := by
  rw [reqEnded_iff, kick_rids, ← reqEnded_iff]
  exact h

theorem respondOnly_x (tag code cause pvec : Nat) (data : List Byte) :
    ∃ rs cr, (b.respondOnly p tag code cause pvec data).x p = { b.x p with rspQ := rs, cr := cr } := by
  obtain ⟨rs, cr, h⟩ := pumpRsp_x (b.xMod p _) p _
  rw [xMod_x_self] at h
  exact ⟨rs, cr, h⟩

@[simp] theorem respond_lms (tag code cause pvec : Nat) (data : List Byte) :
    ((b.respond p tag code cause pvec data).x p).lms = (b.x p).lms := by
  obtain ⟨rs, cr, h⟩ := respondOnly_x b p tag code cause pvec data
  rw [respond, kick_lms, h]
@[simp] theorem respond_wrs (tag code cause pvec : Nat) (data : List Byte) :
    ((b.respond p tag code cause pvec data).x p).wrs = (b.x p).wrs := by
  obtain ⟨rs, cr, h⟩ := respondOnly_x b p tag code cause pvec data
  rw [respond, kick_wrs, h]

theorem extends_pumpX (n : Nat) : Extends b (b.pumpX p n) := by
  induction n generalizing b with
  | zero => exact .refl b
  | succ n ih =>
    unfold pumpX
    dsimp only
    split
    · exact .refl b
    · split
      · split
        · exact .refl b
        · refine .trans (.trans ?_ (extends_xsend ..)) (ih _)
          exact .of_eq rfl fun _ => rfl
      · exact .refl b

theorem extends_kick : Extends b (b.kick p) := extends_pumpX ..

end record

/-- R50: an answer without data goes out at once when none waits and the design's RSP credit lasts. -/
theorem told_of_respond {b : Block} {p : Nat} (ha : b.active p = true) (hf : b.rspFree p) (tag code cause : Nat) :
    (b.respond p tag code cause).told p tag code cause := by
  obtain ⟨hq, hcr⟩ := hf
  refine (extends_kick ..).handed ?_
  have hdata : ∀ c, hasCr c (rspSlots ⟨tag, code, cause, 0, []⟩) = true := fun c => by simp [hasCr, rspSlots, cdiv]
  simp only [respondOnly, xMod_x_self, hq, List.nil_append, List.length_singleton, pumpRsp, hcr, hdata, Bool.and_self, if_true]
  exact xsend_handed (by exact ha) _

end Block
end Sys2Proof.Machine
end

section
/-! PROOFS. XLB credits, padding and rein values (O47), and the capability exchange (O46). -/
namespace Sys2Proof.Machine
namespace Block

/-! ### Protocol errors (R73) -/

section protoErr
variable (b : Block) (p row : Nat) (f? : Option Nat) (hdr : Nat)

@[simp] theorem logErr_x (f : Nat) (e : LogE) (q : Nat) : (b.logErr f e hdr).x q = b.x q :=
  (logErr_fr b f e hdr (Nat.and_self _) (Nat.and_self _) (Fr.refl ..)).part .xlb rfl q
@[simp] theorem protoErr_x (q : Nat) : (b.protoErr p row f? hdr).x q = b.x q :=
  (protoErr_fr b p row f? hdr (Nat.and_self _) (Nat.and_self _) (Fr.refl ..)).part .xlb rfl q

/-- A protocol error is counted, whether or not its function is known. -/
theorem protoErr_counts : (b.protoErr p row f? hdr).rd .xlbCntProtocol p =
    min (b.rd .xlbCntProtocol p + 1) (2 ^ (Fld.attr .xlbCntProtocol).width - 1) := by
  cases f? with
  | none => exact incSat_rd_self ..
  | some f =>
    refine Eq.trans ?_ (incSat_rd_self b .xlbCntProtocol p 0)
    exact (logErr_fr (b.incSat .xlbCntProtocol p) f _ 0 (Nat.and_self _) (Nat.and_self _) (Fr.refl ..)).reg .xlbCntProtocol p 0 rfl

end protoErr

/-! ### Credits (R51) -/

section credits
variable {b : Block} {p kind cls n : Nat}

/-- R51: a credit for a class, when nothing waits for it. -/
theorem creditIn_adds (ha : b.active p = true) (hc : (b.x p).capsSent = false) (hcls : cls < 5) (hq : (b.x p).rspQ = [])
    (hw : ∀ r ∈ (b.x p).reqs, r.st ≠ .waiting) :
    b.creditIn p 0 cls n = b.xMod p (fun x => { x with cr := x.cr.modify cls (fun c => if c = 65535 then c else c + n) }) := by
  have hlt : ¬ 5 ≤ cls := by omega
  simp only [creditIn, ha, hc, hlt, xMod_x_self, hq, List.length_nil, pumpRsp, Bool.not_true, Bool.or_self, bne_self_eq_false,
    decide_false, beq_iff_eq, OfNat.zero_ne_ofNat, Bool.false_eq_true, if_false]
  exact kick_of_no_waiting _ _ (by rwa [xMod_x_self])

/-- R73: a link-control message of a reserved kind, or for a class that is none, is only counted. -/
theorem creditIn_bad (ha : b.active p = true) (hc : (b.x p).capsSent = false) (h : kind ≠ 0 ∧ kind ≠ 15 ∨ kind = 0 ∧ 5 ≤ cls) :
    b.creditIn p kind cls n = b.protoErr p 7 none := by
  have hk : kind ≠ 15 := by omega
  have hbad : (kind != 0 || decide (cls ≥ 5)) = true := by
    simp only [Bool.or_eq_true, bne_iff_ne, decide_eq_true_eq]
    omega
  simp [creditIn, ha, hc, hk, hbad]

theorem creditIn_pad (b : Block) (p cls n : Nat) : b.creditIn p 15 cls n = b := by simp [creditIn]

end credits

/-! ### Rein values (R192) -/

section reins
variable {b : Block} {p f : Nat}

theorem reinsOut_value (b : Block) (f : Nat) (v : BitVec 32) : (b.reinsOut f v.toNat).rd .reinsOutValue f = v.toNat := by
  have h : (b.reinsOut f v.toNat).rd .reinsOutValue f = v.toNat % 2 ^ 32 := by
    simp only [reinsOut, fnMod_rd, newId_rd, wr_rd_fld _ (show Fld.reinsOutValue ≠ .reinsOutPending by decide)]
    exact wr_rd_self b .reinsOutValue f 0 v.toNat
  rw [h, Nat.mod_eq_of_lt v.isLt]

theorem reinsOut_pending (b : Block) (f v : Nat) : (b.reinsOut f v).rd .reinsOutPending f = 1 := by
  simp only [reinsOut, fnMod_rd, newId_rd]
  exact wr_rd_self _ .reinsOutPending f 0 1

/-- R192: the value of f goes out, and is then no longer pending. -/
theorem reinEmit_rd (b : Block) (p f : Nat) : (b.reinEmit p f).rd .reinsOutSent f = b.rd .reinsOutValue f % 2 ^ 32 ∧
    (b.reinEmit p f).rd .reinsOutPending f = 0 := by
  have h := tether_xsend ((b.wr .reinsOutSent f 0 (b.rd .reinsOutValue f)).wr .reinsOutPending f 0 0) p (.reins f (b.rd .reinsOutValue f))
  refine ⟨(h.rd (by decide) f 0).trans ?_, (h.rd (by decide) f 0).trans (wr_rd_self _ .reinsOutPending f 0 0)⟩
  rw [wr_rd_fld _ (by decide)]
  exact wr_rd_self b .reinsOutSent f 0 _

/-- R192: the round sends the value of the one function that is ready. -/
theorem reinsSend_sends (ha : b.active p = true) (hs : b.shut p = false) (hc : (b.x p).capsSent = false)
    (hcr : hasCr ((b.x p).cr[4]?.getD 0) 1 = true) (hf : (b.boundFns p).filter (fun f => b.reinReady p f) = [f]) :
    b.reinsSend p = (b.xMod p (fun x => { x with
      cr := x.cr.set 4 (useCr (x.cr[4]?.getD 0) 1), reinNext := f + 1 })).reinEmit p f := by
  have hhead : ([f].filter (fun f => decide ((b.x p).reinNext ≤ f)) ++ [f]).head? = some f := by
    by_cases h : (b.x p).reinNext ≤ f <;> simp [h]
  simp only [reinsSend, ha, hs, hc, hcr, hf, hhead, Bool.not_true, Bool.or_self, Bool.false_eq_true, if_false]

/-- R192: without a message credit nothing is sent. -/
theorem reinsSend_no_credit (hcr : hasCr ((b.x p).cr[4]?.getD 0) 1 = false) : b.reinsSend p = b := by
  simp only [reinsSend, hcr, Bool.not_false, Bool.or_true, if_true]

end reins
end Block

section commands
variable {s : State} {p : PortIx}

theorem State.does_credit {kind : BitVec 4} {cls : BitVec 8} {f : FnIx} {n : BitVec 16} {P : Block → Prop}
    (h : P (s.blk.creditIn p.val kind.toNat cls.toNat n.toNat).canon) : s.does (.credit p kind cls f n) P :=
  State.does_of_on (·.creditIn p.val kind.toNat cls.toNat n.toNat) rfl h

theorem State.does_reinsSend_sends {f : Nat} (ha : s.blk.active p.val = true) (hs : s.blk.shut p.val = false)
    (hc : (s.blk.x p.val).capsSent = false) (hcr : hasCr ((s.blk.x p.val).cr[4]?.getD 0) 1 = true)
    (hf : (s.blk.boundFns p.val).filter (fun f => s.blk.reinReady p.val f) = [f]) :
    s.does (.reinsSend p) fun b => b.rd .reinsOutSent f = s.blk.rd .reinsOutValue f % 2 ^ 32 ∧ b.rd .reinsOutPending f = 0 ∧
      (b.x p.val).reinNext = f + 1 ∧ b.handed p.val (.reins f (s.blk.rd .reinsOutValue f)) := by
  refine State.does_of_on (·.reinsSend p.val) rfl ?_
  rw [Block.reinsSend_sends ha hs hc hcr hf]
  obtain ⟨hsent, hpend⟩ := Block.reinEmit_rd (s.blk.xMod p.val (fun x => { x with
    cr := x.cr.set 4 (useCr (x.cr[4]?.getD 0) 1), reinNext := f + 1 })) p.val f
  refine ⟨(Block.canon_rd ..).trans hsent, (Block.canon_rd ..).trans hpend, ?_, ?_⟩
  · rw [Block.canon_x, Block.reinEmit, Block.xsend_x, Block.wr_x, Block.wr_x, Block.xMod_x_self]
  · rw [Block.handed, Block.canon_tt]
    refine Block.xsend_handed ?_ _
    exact ha

end commands

/-- Settles O47, clause by clause from what each message does. -/
theorem xlbCreditsAndReins : Obligations.XlbCreditsAndReins := by
  unfold Obligations.XlbCreditsAndReins
  refine ⟨⟨fun s p kind cls f n ha hc => ⟨?credit, ?bad⟩, ?pad⟩, ?pending, ?sends, ?none⟩
  case credit =>
    intro hk hcls hq hw
    refine State.does_credit ?_
    rw [hk, Block.creditIn_adds ha hc hcls hq hw, Block.canon_x, Block.xMod_x_self]
  case bad =>
    intro h
    refine State.does_credit ?_
    rw [Block.creditIn_bad ha hc h, Block.canon_x, Block.protoErr_x]
    exact ⟨(Block.canon_rd ..).trans (Block.protoErr_counts ..), rfl⟩
  case pad =>
    intro s p
    refine State.does_of_on (·.creditIn p.val 15 0 0) rfl ?_
    rw [Block.creditIn_pad]
    exact ⟨rfl, Block.canon_x _, Block.canon_rd _⟩
  case pending =>
    intro s f v hf
    refine State.does_of_on (fun b => if b.fnExists f.val then b.reinsOut f.val v.toNat else b) rfl ?_
    simp only [hf, if_true, Block.canon_rd, Block.reinsOut_value, Block.reinsOut_pending, and_self]
  case sends => exact fun s p f => State.does_reinsSend_sends
  case none =>
    intro s p hcr
    refine State.does_of_on (·.reinsSend p.val) rfl ?_
    rw [Block.reinsSend_no_credit hcr]
    exact ⟨Block.canon_x _, Block.canon_rd _⟩

end Sys2Proof.Machine
end

section
/-! PROOFS. The capability exchange (O46). -/
namespace Sys2Proof.Machine
namespace Block

section caps
variable {b : Block} {p : Nat} {c : CapsMsg}

/-! ### ACTIVE -/

/-- TTH_XLB_STATUS.ACTIVE holds the value given; the report in LINK_CHG does not touch it. -/
theorem setActive_active (b : Block) (p : Nat) (v : Bool) : (b.setActive p v).active p = v := by
  unfold setActive
  split
  · next h => exact beq_iff_eq.1 h
  · have h := slotBit_fr (fm := 0x800000000000000000000800000000000000000000000000000000000000020000000000000000000000000000000000000)
      (b.wr .xlbActive p 0 (b2n v)) p .slotLinkChg rfl rfl (Nat.and_self _) (Fr.refl ..)
    rw [active, flag, h.reg .xlbActive p 0 rfl, wr_rd_self]
    cases v <;> rfl

/-- Nothing else than ACTIVE, the slot's flag and what it raises changes. -/
theorem setActive_rd (b : Block) (p : Nat) (v : Bool) {f : Fld}
    (hf : Nat.testBit 0x800000000000000000000800000000000000000000000000000000000000020000000000000000000000000000000000400 f.ctorIdx = false)
    (i j : Nat) : (b.setActive p v).rd f i j = b.rd f i j :=
  (setActive_fr b p v (Nat.and_self _) (Nat.and_self _) (Fr.refl ..)).reg f i j hf

/-! ### Sending CAPS -/

@[simp] theorem sendCaps_x (b : Block) (p : Nat) (rel : Bool) : (b.sendCaps p rel).x p = { b.x p with
    capsSent := true, capsRel := rel, capsSeq := ((b.x p).capsSeq + 1) % 256, vmax := b.rd .xlbMaxver p } := by
  rw [sendCaps, xMod_x_self, xsend_x]

theorem sendCaps_handed (b : Block) (p : Nat) (rel : Bool) : (b.sendCaps p rel).handed p (.caps (b.ownCaps p)) := by
  simp only [sendCaps, handed, xMod_tt]
  exact xsend_caps_handed b p _

/-- VMAX of the CAPS that is out. -/
theorem capsOut_vmax (b : Block) (p : Nat) : ((b.capsOut p).x p).vmax = b.sentVmax p := by
  by_cases h : (b.x p).capsSent = true <;> simp [capsOut, sentVmax, h]

/-! ### An exchange that fails (R69, R70) -/

theorem capsWhy_le (b : Block) (p : Nat) (c : CapsMsg) : b.capsWhy p c ≤ 4 := by
  unfold capsWhy
  dsimp only
  repeat' split
  all_goals omega

/-- What a failed exchange leaves in the port. -/
theorem capsFail_state (b : Block) (p why : Nat) (c : CapsMsg) (hw : why ≤ 4) :
    (b.capsFail p why c).rd .xlbCapsFail p = 1 ∧ (b.capsFail p why c).rd .xlbCapsFailWhy p = why ∧
    (b.capsFail p why c).rd .xlbIdrev p = c.idrev % 2 ^ (Fld.attr .xlbIdrev).width ∧ (b.capsFail p why c).rd .psState p = 4 ∧
    (b.capsFail p why c).active p = false := by
  have hfits : why % 2 ^ (Fld.attr .xlbCapsFailWhy).width = why := Nat.mod_eq_of_lt (hw.trans_lt (by decide))
  refine ⟨?_, ?_, ?_, ?_, ?_⟩
  · rw [capsFail, xMod_rd, wr_rd_fld _ (by decide), setActive_rd _ _ _ rfl, wr_rd_fld _ (by decide)]
    exact wr_rd_self _ .xlbCapsFail p 0 1
  · rw [capsFail, xMod_rd, wr_rd_fld _ (by decide), setActive_rd _ _ _ rfl]
    exact (wr_rd_self _ .xlbCapsFailWhy p 0 why).trans hfits
  · rw [capsFail, xMod_rd, wr_rd_fld _ (by decide), setActive_rd _ _ _ rfl, wr_rd_fld _ (by decide), wr_rd_fld _ (by decide)]
    exact wr_rd_self _ .xlbIdrev p 0 c.idrev
  · rw [capsFail, xMod_rd]
    exact wr_rd_self _ .psState p 0 4
  · rw [capsFail, active, xMod_flag, flag, wr_rd_fld _ (by decide), ← flag, ← active, setActive_active]

/-! ### An exchange that succeeds (R69, R70) -/

/-- The block once a successful exchange has recorded what was agreed. -/
def capsAgreed (b : Block) (p : Nat) (c : CapsMsg) : Block :=
  let v := min c.vmax (b.x p).vmax
  ((((((((b.capsVoid p).capsNote p c).wr .xlbVersion p 0 v).wr .xlbWidth p 0 ((oneWidth c.widths).getD 0)).wr .xlbAtm p 0
    (b2n (decide (v ≥ 2) && c.atm))).wr .xlbCapsFail p 0 0).wr .xlbCapsFailWhy p 0 0).setActive p true).wr .psState p 0 5

/-- What follows the recording touches neither the agreement nor the state of the port. -/
theorem capsOk_after (b : Block) (p : Nat) (c : CapsMsg) :
    Fr 0x408000490010208020400000000000000000000000000001ffe1400002000000401800800a060008000301e00d800000f0000400000080800 0x7406c57c6
      (b.capsAgreed p c) (b.capsOk p c) := by
  unfold capsOk capsAgreed
  extract_lets v w fs atm b1 b2 b3 b4 b4' b5 b6 b7
  have h2 := Fr.xMod (m := 0x408000490010208020400000000000000000000000000001ffe1400002000000401800800a060008000301e00d800000f0000400000080800)
    (q := 0x7406c57c6) (u := p) (g := fun x => { x with
      cr := [c.crReqh, c.crReqd, c.crRsph, c.crRspd, c.crMsgs], maxout := c.maxout, tmos := []
      dReqh := 256, dReqd := 2048, dMsgs := 64, dRec := if v ≥ 1 then fs.map (fun f => (f, 4)) else [] }) rfl
    (Fr.refl _ _ ((b1.setActive p true).wr .psState p 0 5))
  have h3 : Fr _ _ _ b3 := Fr.ite h2 (unfence_fr b2 p rfl rfl h2)
  have h4 : Fr _ _ _ b4 := tdiIdCheck_fr b3 p c.ident c.idrev rfl rfl h3
  have h4' : Fr _ _ _ b4' := reshape_fr b4 p v (4 * 2 ^ w) atm rfl rfl h4
  have h5 : Fr _ _ _ b5 := Fr.ite (Fr.each (fun b f h => xsend_fr b p (.credit 5 f 4) rfl rfl h) h4') h4'
  have h6 : Fr _ _ _ b6 := Fr.each (fun b f h => reinFirst_fr b p f rfl rfl h) h5
  have h7 : Fr _ _ _ b7 := Fr.ttMod rfl h6
  exact kick_fr _ p rfl rfl (Fr.each (fun b f h => devEvent_fr b f 5 0 c.ident rfl rfl h) h7)

theorem oneWidth_lt (m : BitVec 5) : (oneWidth m).getD 0 < 5 := by
  unfold oneWidth
  cases h : (List.range 5).find? (fun i => m.toNat == 2 ^ i) with
  | none => decide
  | some i => simpa using List.mem_of_find?_eq_some h

/-- What a successful exchange leaves in the port. -/
theorem capsOk_state (b : Block) (p : Nat) (c : CapsMsg) :
    (b.capsOk p c).rd .xlbVersion p = min c.vmax (b.x p).vmax % 2 ^ (Fld.attr .xlbVersion).width ∧
    (b.capsOk p c).rd .xlbWidth p = (oneWidth c.widths).getD 0 ∧
    (b.capsOk p c).rd .xlbIdent p = c.ident % 2 ^ (Fld.attr .xlbIdent).width ∧ (b.capsOk p c).rd .xlbCapsFail p = 0 ∧
    (b.capsOk p c).rd .psState p = 5 ∧ (b.capsOk p c).active p = true := by
  have h := b.capsOk_after p c
  have hfits : (oneWidth c.widths).getD 0 % 2 ^ (Fld.attr .xlbWidth).width = (oneWidth c.widths).getD 0 :=
    Nat.mod_eq_of_lt (lt_of_lt_of_le (oneWidth_lt _) (by decide))
  refine ⟨(h.reg .xlbVersion p 0 rfl).trans ?_, (h.reg .xlbWidth p 0 rfl).trans ?_, (h.reg .xlbIdent p 0 rfl).trans ?_,
    (h.reg .xlbCapsFail p 0 rfl).trans ?_, (h.reg .psState p 0 rfl).trans (wr_rd_self _ .psState p 0 5), ?_⟩
  · rw [capsAgreed, wr_rd_fld _ (by decide), setActive_rd _ _ _ rfl]
    simp only [wr_rd_fld, wr_rd_self, ne_eq, reduceCtorEq, not_false_eq_true]
  · rw [capsAgreed, wr_rd_fld _ (by decide), setActive_rd _ _ _ rfl]
    simp only [wr_rd_fld, wr_rd_self, ne_eq, reduceCtorEq, not_false_eq_true]
    exact hfits
  · rw [capsAgreed, wr_rd_fld _ (by decide), setActive_rd _ _ _ rfl]
    simp only [capsNote, wr_rd_fld, wr_rd_self, ne_eq, reduceCtorEq, not_false_eq_true]
  · rw [capsAgreed, wr_rd_fld _ (by decide), setActive_rd _ _ _ rfl]
    simp only [wr_rd_fld, wr_rd_self, ne_eq, reduceCtorEq, not_false_eq_true]
    rfl
  · rw [active, flag, h.reg .xlbActive p 0 rfl, capsAgreed, wr_rd_fld _ (by decide), ← flag, ← active, setActive_active]

/-! ### A CAPS of the design -/

/-- R69: in the CAPS state and in ACTIVE a CAPS is judged once the own one is out. -/
theorem capsIn_good (hst : b.rd .psState p = 4 ∨ b.rd .psState p = 5) (hw : (b.capsOut p).capsWhy p c = 0) :
    b.capsIn p c = (b.capsOut p).capsOk p c := by
  have hin : ¬ (b.rd .psState p != 4 && b.rd .psState p != 5) = true := by rcases hst with h | h <;> simp [h]
  unfold capsIn
  extract_lets st b1
  rw [if_neg hin, show b1 = b.capsOut p from rfl, hw]
  rfl

theorem capsIn_bad (hst : b.rd .psState p = 4 ∨ b.rd .psState p = 5) (hw : (b.capsOut p).capsWhy p c ≠ 0) :
    b.capsIn p c = (b.capsOut p).capsFail p ((b.capsOut p).capsWhy p c) c := by
  have hin : ¬ (b.rd .psState p != 4 && b.rd .psState p != 5) = true := by rcases hst with h | h <;> simp [h]
  unfold capsIn
  extract_lets st b1
  rw [if_neg hin, show b1 = b.capsOut p from rfl]
  split
  · next h => exact absurd h hw
  · rfl

/-- R69: elsewhere a CAPS is ignored. -/
theorem capsIn_elsewhere (h4 : b.rd .psState p ≠ 4) (h5 : b.rd .psState p ≠ 5) : b.capsIn p c = b := by
  simp [capsIn, h4, h5]

/-! ### RELEASE, abandonment and resending (R67, Table 10.5) -/

theorem releaseW_sends {f : Nat} {r : FnRec} (hr : b.fnRec? f = some r) (hv : r.vf = false) (hf : b.fenced r.port = true)
    (ha : b.active r.port = true) (hc : (b.x r.port).capsSent = false) : b.releaseW f = b.sendCaps r.port true := by
  simp [releaseW, hr, hv, hf, ha, hc]

theorem capsDrop_released (h : (b.x p).capsRel = true) :
    b.capsDrop p = b.xMod p (fun x => { x with capsSent := false, capsRel := false }) := if_pos h

theorem capsAgain_sends (h4 : b.rd .psState p = 4) (hc : (b.x p).capsSent = true) : b.capsAgain p = b.sendCaps p false := by
  simp [capsAgain, h4, hc]

end caps
end Block

section commands
variable {s : State} {p : PortIx} {c : CapsMsg}

theorem State.does_caps {P : Block → Prop} (h : P (s.blk.capsIn p.val c).canon) : s.does (.caps p c) P :=
  State.does_of_on (·.capsIn p.val c) rfl h

theorem State.does_caps_refused (hst : s.blk.rd .psState p.val = 4 ∨ s.blk.rd .psState p.val = 5)
    (hw : (s.blk.capsOut p.val).capsWhy p.val c ≠ 0) : s.does (.caps p c) fun b => b.rd .xlbCapsFail p.val = 1 ∧
      b.rd .xlbCapsFailWhy p.val = (s.blk.capsOut p.val).capsWhy p.val c ∧
      b.rd .xlbIdrev p.val = c.idrev % 2 ^ (Fld.attr .xlbIdrev).width ∧ b.rd .psState p.val = 4 ∧ b.active p.val = false := by
  refine State.does_caps ?_
  simpa only [Block.capsIn_bad hst hw, Block.canon_rd, Block.active, Block.canon_flag] using
    Block.capsFail_state _ p.val _ c (Block.capsWhy_le _ p.val c)

theorem State.does_caps_agreed (hst : s.blk.rd .psState p.val = 4 ∨ s.blk.rd .psState p.val = 5)
    (hw : (s.blk.capsOut p.val).capsWhy p.val c = 0) : s.does (.caps p c) fun b =>
      b.rd .xlbVersion p.val = min c.vmax (s.blk.sentVmax p.val) % 2 ^ (Fld.attr .xlbVersion).width ∧
      b.rd .xlbWidth p.val = (oneWidth c.widths).getD 0 ∧ b.rd .xlbIdent p.val = c.ident % 2 ^ (Fld.attr .xlbIdent).width ∧
      b.rd .xlbCapsFail p.val = 0 ∧ b.rd .psState p.val = 5 ∧ b.active p.val = true := by
  refine State.does_caps ?_
  simpa only [Block.capsIn_good hst hw, Block.canon_rd, Block.active, Block.canon_flag, Block.capsOut_vmax] using
    Block.capsOk_state (s.blk.capsOut p.val) p.val c

/-- A command that sends CAPS on a port, provoked by RELEASE or not. -/
theorem State.does_sendCaps {i : Instr} {u : Nat} {rel : Bool} (g : Block → Block) (hi : exec i s = s.on g)
    (hg : g s.blk = s.blk.sendCaps u rel) : s.does i fun b => (b.x u).capsSent = true ∧ (b.x u).capsRel = rel ∧
      (b.x u).capsSeq = ((s.blk.x u).capsSeq + 1) % 256 ∧ b.handed u (.caps (s.blk.ownCaps u)) := by
  refine State.does_of_on g hi ?_
  rw [hg, Block.canon_x, Block.sendCaps_x, Block.handed, Block.canon_tt]
  exact ⟨rfl, rfl, rfl, Block.sendCaps_handed ..⟩

/-- What a command does, weakened. -/
theorem State.does.imp {i : Instr} {P Q : Block → Prop} (h : s.does i P) (hpq : ∀ b, P b → Q b) : s.does i Q := by
  obtain ⟨t, ht, hp, hP⟩ := h
  exact ⟨t, ht, hp, hpq _ hP⟩

end commands

/-- Settles O46, clause by clause from what each message and timer does. -/
theorem capsExchange : Obligations.CapsExchange := by
  unfold Obligations.CapsExchange
  refine ⟨fun s p c hst => ⟨State.does_caps_refused hst, State.does_caps_agreed hst⟩, ?elsewhere, ?release, ?abandon, ?resend⟩
  case elsewhere =>
    intro s p c h4 h5
    refine State.does_caps ?_
    rw [Block.capsIn_elsewhere h4 h5]
    exact ⟨Block.canon_flag .., Block.canon_rd _⟩
  case release =>
    intro s f r hr hv hf ha hc
    refine (State.does_sendCaps (·.releaseW f.val) rfl (Block.releaseW_sends hr hv hf ha hc)).imp fun b => ?_
    exact fun ⟨hsent, hrel, _, hh⟩ => ⟨hsent, hrel, hh⟩
  case abandon =>
    intro s p hrel
    refine State.does_of_on (·.capsDrop p.val) rfl ?_
    rw [Block.canon_x, Block.capsDrop_released hrel, Block.xMod_x_self]
    exact ⟨rfl, rfl⟩
  case resend =>
    intro s p h4 hc
    refine (State.does_sendCaps (·.capsAgain p.val) rfl (Block.capsAgain_sends h4 hc)).imp fun b => ?_
    exact fun ⟨_, _, hseq, hh⟩ => ⟨hseq, hh⟩

end Sys2Proof.Machine
end

section
/-! PROOFS. Messages of a design and the interrupt fence (O45). -/
namespace Sys2Proof.Machine
namespace Block

/-! ### A message arrives (R49, R53, R73) -/

section arrive
variable {b : Block} {p kind f b3 v vid : Nat} {l : List Byte}

/-- R53: a line or rein message uses up a message credit. -/
theorem msgTake_x_line (h : kind ≤ 1) : (b.msgTake p kind f).x p = { b.x p with dMsgs := (b.x p).dMsgs - 1 } := by
  rw [msgTake, xMod_x_self, if_pos h]

/-- R53: an event or vendor message uses up a credit of its function. -/
theorem msgTake_x_rec (h : ¬ kind ≤ 1) : (b.msgTake p kind f).x p =
    { b.x p with dRec := (f, unitOf 0 (b.x p).dRec f - 1) :: dropKey f (b.x p).dRec } := by
  rw [msgTake, xMod_x_self, if_neg h]

/-- The design holds a credit for a message of a kind, and the version knows the kind. -/
def msgAllowed (b : Block) (p kind f : Nat) : Prop :=
  if kind ≤ 1 then (b.x p).dMsgs ≠ 0 else 1 ≤ b.xver p ∧ unitOf 0 (b.x p).dRec f ≠ 0

/-- R116: a message of a bound function that its credit allows enters the interrupt fence behind the others. -/
theorem msgIn_enters (ha : b.active p = true) (hc : (b.x p).capsSent = false) (hb : b.isBound f p = true) (hs : b.shut p = false)
    (hk : kind ≤ 3) (hcr : b.msgAllowed p kind f) : (b.msgIn p kind f b3 v vid l).x p = { (b.msgTake p kind f).x p with
      arr := ((b.msgTake p kind f).x p).arr + 1
      fenceQ := ((b.msgTake p kind f).x p).fenceQ ++ [⟨((b.msgTake p kind f).x p).arr, kind, f, v, vid, b.payTaken l⟩] } := by
  have h3 : ¬ kind > 3 := by omega
  have hover : ¬ (decide (kind ≤ 1) && (b.x p).dMsgs == 0) = true := by
    intro h
    simp only [Bool.and_eq_true, decide_eq_true_eq, beq_iff_eq] at h
    rw [msgAllowed, if_pos h.1] at hcr
    exact hcr h.2
  have hver : ¬ (decide (kind ≥ 2) && decide (b.xver p < 1)) = true := by
    intro h
    simp only [Bool.and_eq_true, decide_eq_true_eq] at h
    rw [msgAllowed, if_neg (by omega)] at hcr
    omega
  have hrec : ¬ (decide (kind ≥ 2) && unitOf 0 (b.x p).dRec f == 0) = true := by
    intro h
    simp only [Bool.and_eq_true, decide_eq_true_eq, beq_iff_eq] at h
    rw [msgAllowed, if_neg (by omega)] at hcr
    exact hcr.2 h.2
  have hgo : ¬ (!b.active p || (b.x p).capsSent) = true := by simp [ha, hc]
  have hbound : ¬ (!b.isBound f p) = true := by simp [hb]
  have hopen : ¬ b.shut p = true := by simp [hs]
  unfold msgIn
  extract_lets hdr b1 pay b2
  rw [if_neg hgo, if_neg h3, if_neg hover, if_neg hbound, if_neg hver, if_neg hrec, if_neg hopen, xMod_x_self]
  have h2 : b2.x p = b1.x p := by
    change (if l.length ≤ 48 then b1 else { b1 with freeCtr := b1.freeCtr + 48 }).x p = b1.x p
    split <;> rfl
  rw [h2]

/-- R73: a message of a reserved type is counted and enters nothing. -/
theorem msgIn_reserved (ha : b.active p = true) (hc : (b.x p).capsSent = false) (hk : 3 < kind) :
    b.msgIn p kind f b3 v vid l = b.protoErr p 5 (if b.isBound f p then some f else none) (msgHdr kind f b3) := by
  simp [msgIn, ha, hc, hk]

/-- R65: a rein message without credit is an overrun. -/
theorem msgIn_overrun (ha : b.active p = true) (hc : (b.x p).capsSent = false) (hk : kind ≤ 1) (hd : (b.x p).dMsgs = 0) :
    b.msgIn p kind f b3 v vid l = (b.fence p 2).protoErr p 6 (if b.isBound f p then some f else none) (msgHdr kind f b3) := by
  have h3 : ¬ 3 < kind := by omega
  simp [msgIn, ha, hc, hk, hd, h3]

/-- R66: what a fence ends and reports leaves the port fenced. -/
theorem fence_fenced (b : Block) (p why : Nat) : (b.fence p why).rd .xlbFenced p = 1 := by
  unfold fence
  extract_lets rs b0 b1 b2 b3
  split
  · next h =>
    have h1 : b.rd .xlbFenced p = 1 := beq_iff_eq.1 h
    split
    · rw [xMod_rd, wr_rd_fld _ (by decide), h1]
    · exact h1
  · have h1 : b1.rd .xlbFenced p = 1 := by
      simp only [b1, b0, xMod_rd, incSat, wr_rd_fld, ne_eq, reduceCtorEq, not_false_eq_true]
      exact wr_rd_self b .xlbFenced p 0 1
    have hkeep : ∀ c, Fr 0x400000490010008020000000000000000000000000000001ffe14000020000004018008000060008000301e001800000f0000400000080000
        0x7400457c6 b1 c → c.rd .xlbFenced p = 1 := fun c h => (h.reg .xlbFenced p 0 rfl).trans h1
    refine hkeep _ (Fr.each ?report (linesDown_fr _ p rfl rfl (fenceFlush_fr _ p rfl rfl (pfPort_fr _ p rfl rfl
      (Fr.each ?void (Fr.refl ..))))))
    case report => exact fun b f h => devEvent_fr _ f 3 0 why rfl rfl (logErr_fr _ f _ 0 rfl rfl (raise_fr b f 13 rfl rfl h))
    case void => exact fun b r h => endReq_fr _ p r 2 2 [] rfl rfl (quarantine_fr b p r true rfl rfl h)

theorem protoErr_fenced (b : Block) (p row : Nat) (f? : Option Nat) (hdr q : Nat) :
    (b.protoErr p row f? hdr).rd .xlbFenced q = b.rd .xlbFenced q :=
  (protoErr_fr b p row f? hdr (Nat.and_self _) (Nat.and_self _) (Fr.refl ..)).reg .xlbFenced q 0 rfl

end arrive

/-! ### The interrupt fence (R116) -/

section release
variable {b : Block} {p : Nat} {m : FMsg} {t : List FMsg}

/-- R116: behind a write that is not answered the front message stays. -/
theorem fenceStep_behind (hq : (b.x p).fenceQ = m :: t) (ho : b.fenceOpen p m = false) : b.fenceStep p = b := by
  simp [fenceStep, hq, ho]

/-- R116: otherwise it leaves. -/
theorem fenceStep_leaves (hq : (b.x p).fenceQ = m :: t) (ho : b.fenceOpen p m = true) :
    b.fenceStep p = (b.xMod p (fun x => { x with fenceQ := t })).msgLeave p m := by
  simp [fenceStep, hq, ho]

@[simp] theorem retMsg_x (b : Block) (p : Nat) : (b.retMsg p).x p = { b.x p with dMsgs := (b.x p).dMsgs + 1 } := by
  rw [retMsg, xsend_x, xMod_x_self]

/-- R190, R324: what new line levels raise touches neither them nor the XLB records. -/
theorem lines_frame (b : Block) (f : Nat) :
    Fr 0x800000000000000000000000000000000000000000000000000000000000020000000000000000000000000000000000000 0x40001200
      b ((b.sampleAll f).linePme f) :=
  linePme_fr _ f rfl rfl (sampleAll_fr b f rfl rfl (Fr.refl ..))

theorem msgLeave_lines (b : Block) (p : Nat) (hk : m.kind = 0) :
    (b.msgLeave p m).x p = { b.x p with dMsgs := (b.x p).dMsgs + 1 } ∧ (b.msgLeave p m).rd .spLines m.f = m.v % 2 ^ 8 := by
  have hf := lines_frame (b.wr .spLines m.f 0 m.v) m.f
  have hx := hf.part .xlb rfl p
  simp only [msgLeave, hk, retMsg_x, hx, wr_x, true_and]
  rw [(tether_retMsg _ p).rd (by decide), hf.reg .spLines m.f 0 rfl]
  exact wr_rd_self b .spLines m.f 0 m.v

theorem msgLeave_reins (b : Block) (p : Nat) (hk : m.kind = 1) :
    (b.msgLeave p m).x p = { b.x p with dMsgs := (b.x p).dMsgs + 1 } ∧ (b.msgLeave p m).rd .reinsInValue m.f = m.v % 2 ^ 32 := by
  have hf := reinChanged_fr (b.wr .reinsInValue m.f 0 m.v) m.f (b.rd .reinsInValue m.f ^^^ m.v) (Nat.and_self _) (Nat.and_self _)
    (Fr.refl ..)
  have hx := hf.part .xlb rfl p
  simp only [msgLeave, hk, retMsg_x, reinTake, hx, wr_x, true_and]
  rw [(tether_retMsg _ p).rd (by decide), hf.reg .reinsInValue m.f 0 rfl]
  exact wr_rd_self b .reinsInValue m.f 0 m.v

/-- R158: while the event ring is disabled no record leaves for it. -/
theorem evPump_disabled {f : Nat} (h : b.flag .evtEn f = false) : b.evPump f = b.sample f 9 := by
  have hstep : b.evPumpN f ((b.fn f).devs.length + (b.fn f).recs.length + 1) = b := by
    simp only [evPumpN, evReady, h, Bool.false_and, Bool.and_false, Bool.false_eq_true, if_false]
  rw [evPump, hstep]

@[simp] theorem pmeEvent_recs (b : Block) (f g : Nat) : ((b.pmeEvent f).fn g).recs = (b.fn g).recs := by
  unfold pmeEvent
  dsimp only
  split
  · rfl
  · split
    · by_cases h : g = f
      · subst h
        rw [fnMod_fn_self]
        rfl
      · rw [fnMod_fn_ne _ h]
        rfl
    · rfl

/-- A sample may become a PME event; the records that wait for the ring stay. -/
@[simp] theorem sample_recs (b : Block) (f s g : Nat) : ((b.sample f s).fn g).recs = (b.fn g).recs := by
  unfold sample
  dsimp only
  repeat' split
  all_goals simp only [pmeEvent_recs, wr_fn]

theorem msgLeave_event (b : Block) (p : Nat) (hk : m.kind = 2) (he : b.flag .evtEn m.f = false) :
    (b.msgLeave p m).x p = b.x p ∧ ((b.msgLeave p m).fn m.f).recs = (b.fn m.f).recs ++ [⟨m.v, 0, 0, m.payload⟩] := by
  simp only [msgLeave, hk]
  rw [evPump_disabled (by exact he)]
  refine ⟨?_, by rw [sample_recs, fnMod_fn_self]⟩
  exact (sample_fr _ m.f 9 (Nat.and_self _) (Nat.and_self _) (Fr.refl ..)).part .xlb rfl p

end release
end Block

section commands
variable {s : State} {p : PortIx}

/-- A message of the design does what msgIn does. -/
theorem State.does_msgIn {c : Instr} {kind f b3 v vid : Nat} {l : List Byte} {P : Block → Prop}
    (hc : exec c s = s.on (·.msgIn p.val kind f b3 v vid l)) (h : P (s.blk.msgIn p.val kind f b3 v vid l).canon) : s.does c P :=
  State.does_of_on (·.msgIn p.val kind f b3 v vid l) hc h

/-- R116: a line or rein message that its function and its credit allow. -/
theorem State.does_msgIn_line {c : Instr} {kind f b3 v : Nat} (hc : exec c s = s.on (·.msgIn p.val kind f b3 v 0 []))
    (ha : s.blk.active p.val = true) (hs : (s.blk.x p.val).capsSent = false) (hb : s.blk.isBound f p.val = true)
    (hd : (s.blk.x p.val).dMsgs ≠ 0) (ho : s.blk.shut p.val = false) (hk : kind ≤ 1) : s.does c fun b =>
      (b.x p.val).fenceQ = (s.blk.x p.val).fenceQ ++ [⟨(s.blk.x p.val).arr, kind, f, v, 0, []⟩] ∧
      (b.x p.val).dMsgs = (s.blk.x p.val).dMsgs - 1 := by
  refine State.does_msgIn hc ?_
  rw [Block.canon_x, Block.msgIn_enters ha hs hb ho (by omega) (by rwa [Block.msgAllowed, if_pos hk]), Block.msgTake_x_line hk]
  exact ⟨rfl, rfl⟩

/-- R116: an event or vendor message that its function and its credit allow. -/
theorem State.does_msgIn_rec {c : Instr} {kind f b3 v vid : Nat} {l : List Byte}
    (hc : exec c s = s.on (·.msgIn p.val kind f b3 v vid l)) (ha : s.blk.active p.val = true)
    (hs : (s.blk.x p.val).capsSent = false) (hb : s.blk.isBound f p.val = true) (hv : 1 ≤ s.blk.xver p.val)
    (hd : unitOf 0 (s.blk.x p.val).dRec f ≠ 0) (ho : s.blk.shut p.val = false) (hk : 2 ≤ kind) (hk' : kind ≤ 3) : s.does c fun b =>
      (b.x p.val).fenceQ = (s.blk.x p.val).fenceQ ++ [⟨(s.blk.x p.val).arr, kind, f, v, vid, s.blk.payTaken l⟩] ∧
      unitOf 0 (b.x p.val).dRec f = unitOf 0 (s.blk.x p.val).dRec f - 1 := by
  have hrec : ¬ kind ≤ 1 := by omega
  refine State.does_msgIn hc ?_
  rw [Block.canon_x, Block.msgIn_enters ha hs hb ho hk' (by rw [Block.msgAllowed, if_neg hrec]; exact ⟨hv, hd⟩), Block.msgTake_x_rec hrec]
  exact ⟨rfl, unitOf_cons_self ..⟩

/-- R116: the release of the front message. -/
theorem State.does_release {m : FMsg} {t : List FMsg} {P : Block → Prop} (hq : (s.blk.x p.val).fenceQ = m :: t)
    (ho : s.blk.fenceOpen p.val m = true)
    (h : P ((s.blk.xMod p.val (fun x => { x with fenceQ := t })).msgLeave p.val m).canon) : s.does (.interruptFenceRelease p) P :=
  State.does_of_on (·.fenceStep p.val) rfl (by rwa [Block.fenceStep_leaves hq ho])

end commands

/-- Settles O45: what enters the interrupt fence, what is an error, and what leaves it, kind by kind. -/
theorem designMessagesAndFence : Obligations.DesignMessagesAndFence := by
  unfold Obligations.DesignMessagesAndFence
  refine ⟨fun s p f ha hc => ⟨fun hb hd hs => ⟨?lines, ?reins⟩, fun hb hv hd hs => ⟨?event, ?vendor⟩, ?reserved, ?overrun⟩,
    fun s p m t hq => ⟨?behind, ?leaveLines, ?leaveReins, ?leaveEvent⟩⟩
  case lines =>
    intro kind v hk
    have hzero : (if kind.toNat ≥ 5 then kind.toNat else 0) = 0 := if_neg (by omega)
    refine State.does_msgIn_line (b3 := v.toNat) ?_ ha hc hb hd hs (by omega)
    change s.on (·.msgIn p.val (if kind.toNat ≥ 5 then kind.toNat else 0) f.val v.toNat v.toNat 0 []) = _
    rw [hzero]
  case reins => exact fun v => State.does_msgIn_line rfl ha hc hb hd hs le_rfl
  case event => exact fun code l => State.does_msgIn_rec rfl ha hc hb hv hd hs le_rfl (by omega)
  case vendor => exact fun vid code l => State.does_msgIn_rec rfl ha hc hb hv hd hs (by omega) le_rfl
  case reserved =>
    intro kind v hk
    refine State.does_msgIn (kind := if kind.toNat ≥ 5 then kind.toNat else 0) rfl ?_
    rw [Block.msgIn_reserved ha hc (by split <;> omega), Block.canon_x, Block.protoErr_x]
    exact ⟨(Block.canon_rd ..).trans (Block.protoErr_counts ..), rfl⟩
  case overrun =>
    intro hd v
    refine State.does_msgIn rfl ?_
    rw [Block.msgIn_overrun ha hc le_rfl hd, Block.canon_rd, Block.protoErr_fenced, Block.fence_fenced]
  case behind =>
    intro ho
    refine State.does_of_on (·.fenceStep p.val) rfl ?_
    rw [Block.fenceStep_behind hq ho]
    exact ⟨(congrArg XlbDyn.fenceQ (Block.canon_x ..)).trans hq, Block.canon_rd _⟩
  case leaveLines =>
    intro ho hk
    obtain ⟨hx, hv⟩ := Block.msgLeave_lines (s.blk.xMod p.val (fun x => { x with fenceQ := t })) p.val hk
    refine State.does_release hq ho ?_
    rw [Block.canon_x, Block.canon_rd, hx, hv, Block.xMod_x_self]
    exact ⟨rfl, rfl, rfl⟩
  case leaveReins =>
    intro ho hk
    obtain ⟨hx, hv⟩ := Block.msgLeave_reins (s.blk.xMod p.val (fun x => { x with fenceQ := t })) p.val hk
    refine State.does_release hq ho ?_
    rw [Block.canon_x, Block.canon_rd, hx, hv, Block.xMod_x_self]
    exact ⟨rfl, rfl, rfl⟩
  case leaveEvent =>
    intro ho hk he
    obtain ⟨hx, hr⟩ := Block.msgLeave_event (s.blk.xMod p.val (fun x => { x with fenceQ := t })) p.val hk he
    refine State.does_release hq ho ?_
    rw [Block.canon_x, Block.canon_fn, hx, hr, Block.xMod_x_self]
    exact ⟨rfl, rfl⟩

end Sys2Proof.Machine
end

section
/-! PROOFS. Answers of a design to requests of the PX896 (O49), their timeouts, gaps and quarantine (O50). -/
namespace Sys2Proof.Machine
namespace Block

/-! ### The error log (R289, R290) -/

section log
variable {a b c : Block} {f code detail : Nat}

/-- An entry stands, or is counted, after operations that leave the log as it is. -/
theorem errLogged.frame {m q : Nat} (h : a.errLogged b f code detail) (hf : Fr m q b c)
    (hprod : m.testBit (Fld.ctorIdx .errProd) = false) (hcode : m.testBit (Fld.ctorIdx .ehCode) = false)
    (hdetail : m.testBit (Fld.ctorIdx .ehDetail) = false) (hover : m.testBit (Fld.ctorIdx .errOverflow) = false) :
    a.errLogged c f code detail := by
  unfold errLogged at h ⊢
  rw [hf.reg _ _ _ hprod, hf.reg _ _ _ hcode, hf.reg _ _ _ hdetail, hf.reg _ _ _ hover]
  exact h

/-- R289: the entry goes into the slot at PROD, or a full log counts it. -/
theorem logOnly_errLogged (b : Block) (f : Nat) (e : LogE) (hcode : e.code < 2 ^ (Fld.attr .ehCode).width)
    (hdetail : e.detail < 2 ^ (Fld.attr .ehDetail).width) : b.errLogged (b.logOnly f e) f e.code e.detail := by
  unfold logOnly
  extract_lets prod full s b1
  have h1 : b.errLogged b1 f e.code e.detail := by
    unfold errLogged
    by_cases hfull : (b.rd .errProd f + 65536 - b.rd .errCons f) % 65536 ≥ 64
    · have hb1 : b1 = b.incSat .errOverflow f := if_pos hfull
      rw [if_neg (by omega), hb1, incSat_rd_self]
    · rw [if_pos (by omega)]
      simp only [b1, full, s, prod, hfull, if_false, wr_rd_fld, wr_rd_self, ne_eq, reduceCtorEq, not_false_eq_true, Nat.mod_eq_of_lt hcode,
        Nat.mod_eq_of_lt hdetail, and_true]
      rfl
  have hraise : ∀ n, b.errLogged (b1.raise f n) f e.code e.detail := fun n =>
    h1.frame (raise_fr b1 f n (Nat.and_self _) (Nat.and_self _) (Fr.refl ..)) rfl rfl rfl rfl
  split
  · exact hraise 14
  · split
    · exact hraise 10
    · exact h1

/-- R290: what the AER report does beside the log. -/
theorem logErr_after (b : Block) (f : Nat) (e : LogE) (hdr : Nat) :
    Fr 0x49001000002000000000000000000000000000000000000000000000000000000000000000000000000000000000000000000000000 0x40001200
      (b.logOnly f e) (b.logErr f e hdr) := by
  have hrefl := Fr.refl 0x49001000002000000000000000000000000000000000000000000000000000000000000000000000000000000000000000000000000
    0x40001200 (b.logOnly f e)
  have hunc := fun n => aerUnc_fr (b.logOnly f e) f n hdr rfl rfl hrefl
  have hadv := fun n => aerAdv_fr (b.logOnly f e) f n hdr rfl rfl hrefl
  have hcor := aerCor_fr (b.logOnly f e) f 14 rfl rfl hrefl
  unfold logErr
  dsimp only
  split
  exacts [hunc 20, hunc 15, .ite hrefl (hunc 15), .ite (hunc 15) hrefl, .ite (hunc 15) hrefl, .ite (hunc 15) hrefl, .ite (hunc 15) hrefl,
    hunc 14, hadv 16, hunc 28, .ite (hadv 12) hrefl, hcor, hunc 22, hrefl]

theorem logErr_errLogged (b : Block) (f : Nat) (e : LogE) (hdr : Nat) (hcode : e.code < 2 ^ (Fld.attr .ehCode).width)
    (hdetail : e.detail < 2 ^ (Fld.attr .ehDetail).width) : b.errLogged (b.logErr f e hdr) f e.code e.detail :=
  (logOnly_errLogged b f e hcode hdetail).frame (logErr_after b f e hdr) rfl rfl rfl rfl

end log

/-! ### How a request of the PX896 ends (R44) -/

section ends
variable {b : Block} {p : Nat} {r : XReq}

theorem dropReq_reqEnded (b : Block) (p rid : Nat) : (b.dropReq p rid).reqEnded p rid := by
  intro x hx
  rw [dropReq, xMod_x_self] at hx
  simpa using (List.mem_filter.1 hx).2

theorem endReq_posted (ho : r.orig = .posted) (code cause : Nat) (cells : List (Byte × Bool)) :
    b.endReq p r code cause cells = b.dropReq p r.rid := by
  simp [endReq, ho]

/-- A host posted write whose answer carries no data is absorbed: it is logged as R44 says, and what waited may go out. -/
theorem rspFinal_posted (ho : r.orig = .posted) {code : Nat} (cause pvec : Nat) (data : List Byte)
    (hcode : r.op = 2 ∨ code = 2) :
    b.rspFinal p r code cause pvec data = ((b.ansLog r code cause).dropReq p r.rid).kick p := by
  have htaken : takenCode r code pvec = code := by rcases hcode with h | rfl <;> simp [takenCode, *]
  have hnone : ¬ (((code == 0 || code == 1) || code == 7) && decide (data.length < ansBytes (b.xw p) r)) = true := by
    rcases hcode with h | rfl <;> simp [ansBytes, *]
  unfold rspFinal
  extract_lets w c carries cells b1
  have hb1 : b1 = b := by
    simp only [b1, carries, c, htaken]
    exact if_neg hnone
  rw [endReq_posted ho, hb1, show c = code from htaken]

theorem rspFinal_posted_ended (ho : r.orig = .posted) {code : Nat} (cause pvec : Nat) (data : List Byte)
    (hcode : r.op = 2 ∨ code = 2) : (b.rspFinal p r code cause pvec data).reqEnded p r.rid := by
  rw [rspFinal_posted ho cause pvec data hcode]
  exact kick_reqEnded _ _ (dropReq_reqEnded _ _ _)

/-- Dropping a request and sending what waited writes no register but that of a dozing transmitter. -/
theorem tether_dropReq_kick (b : Block) (p rid : Nat) : Tether b ((b.dropReq p rid).kick p) :=
  (tether_xMod b p _).trans (tether_kick ..)

/-- R44: an answer to a posted write that is neither DONE nor RETRY is logged. -/
theorem ansLog_posted (ho : r.orig = .posted) {code : Nat} (h0 : code ≠ 0) (h5 : code ≠ 5) (cause : Nat) : b.ansLog r code cause =
    b.logErr r.f { code := 9, detail := code, addr := r.addr, len := r.len, cause := cause, queue := origQueue r.orig } := by
  simp [ansLog, ho, h0, h5]

theorem rspFinal_posted_logged (ho : r.orig = .posted) {code : Nat} (cause pvec : Nat) (data : List Byte)
    (hcode : r.op = 2 ∨ code = 2) (h0 : code ≠ 0) (h5 : code ≠ 5) (hlt : code < 16) :
    b.errLogged (b.rspFinal p r code cause pvec data) r.f 9 code := by
  rw [rspFinal_posted ho cause pvec data hcode, ansLog_posted ho h0 h5]
  refine errLogged.frame ?_ (tether_dropReq_kick ..) rfl rfl rfl rfl
  exact logErr_errLogged b r.f { code := 9, detail := code, addr := r.addr, len := r.len, cause := cause, queue := origQueue r.orig } 0
    (show 9 < _ by decide) (hlt.trans (by decide))

end ends

/-! ### Answers to the requests of the hosts (R45, R110) -/

section host
variable {b : Block} {id : Nat} {j : HJob} {pc : HPiece}

theorem find_mapIf {α : Type} (q : α → Bool) (g : α → α) (hg : ∀ x, q (g x) = q x) (l : List α) :
    (mapIf q g l).find? q = (l.find? q).map g := by
  induction l with
  | nil => rfl
  | cons x t ih =>
    by_cases hx : q x = true
    · simp [mapIf, hx, hg]
    · simpa [mapIf, hx] using ih

theorem jobMod_job? (b : Block) (id : Nat) (g : HJob → HJob) (hg : ∀ j : HJob, (g j).id = j.id) :
    (b.jobMod id g).job? id = (b.job? id).map g :=
  find_mapIf _ g (fun j => by rw [hg]) b.jobs

/-- The job of one piece, once that has its answer. -/
def HJob.answered (j : HJob) (pc : HPiece) (st : CplSt) (data : List (Byte × Bool)) : HJob :=
  { j with pieces := [{ pc with ans := some st, data := data }] }

/-- R110: the answer for the piece of a job of one piece. -/
theorem pieceAns_single (hj : b.job? id = some j) (hp : j.pieces = [pc]) (ha : pc.ans = none) (st : CplSt) (data : List (Byte × Bool)) :
    ∃ b1 : Block, b.pieceAns id 0 st data = b1.jobCpls id 2 ∧ b1.job? id = some (HJob.answered j pc st data) ∧
      b1.lk = b.lk ∧ b1.out = b.out := by
  unfold pieceAns
  extract_lets g b1
  have hg : ({ j with pieces := j.pieces.modify 0 g } : HJob) = HJob.answered j pc st data := by
    simp [hp, g, ha, HJob.answered]
  have h1 : b1.job? id = some (HJob.answered j pc st data) :=
    (jobMod_job? b id (fun j => { j with pieces := j.pieces.modify 0 g }) fun _ => rfl).trans
      (by rw [hj, Option.map_some]; exact congrArg some hg)
  refine ⟨b1, ?_, h1, rfl, rfl⟩
  rw [h1]
  rfl

theorem sendCpl_good (hs : b.streamBad j.link j.stream = false) (st : CplSt) (d : List Byte) (ep : Bool) :
    b.sendCpl j.link j.req st d ep j.stream = b.emit (.cpl j.link j.req st d ep j.stream) := by
  rw [sendCpl, hs]
  rfl

theorem streamBad_of_lk {a c : Block} (h : c.lk = a.lk) (l : Nat) (s : Option Nat) : c.streamBad l s = a.streamBad l s := by
  unfold streamBad streamIs
  rw [h]

/-- R45: a bad answer completes the read with its status and no data. -/
theorem pieceAns_single_bad (hj : b.job? id = some j) (hp : j.pieces = [pc]) (ha : pc.ans = none) (hn : j.next = 0)
    (hd : j.dead = false) (hs : b.streamBad j.link j.stream = false) {st : CplSt} (hst : st ≠ .sc) (data : List (Byte × Bool)) :
    .cpl j.link j.req st [] false j.stream ∈ (b.pieceAns id 0 st data).out := by
  obtain ⟨b1, hb, h1, hlk, -⟩ := pieceAns_single hj hp ha st data
  have hs1 : b1.streamBad j.link j.stream = false := (streamBad_of_lk hlk ..).trans hs
  rw [hb]
  unfold jobCpls
  simp only [h1, HJob.answered, hn, List.getElem?_cons_zero, hd]
  cases st with
  | sc => exact absurd rfl hst
  | _ =>
    simp only [Bool.false_eq_true, if_false, sendCpl_good hs1]
    exact List.mem_cons_self

/-- The last completion of a job is out: the job ends. -/
theorem jobCpls_last {c : Block} (h : c.job? id = some j) (hn : j.pieces[j.next]? = none) : c.jobCpls id 1 = c.jobDrop id := by
  unfold jobCpls
  simp only [h, hn]

theorem job?_of_jobs {a c : Block} (h : c.jobs = a.jobs) (id : Nat) : c.job? id = a.job? id := by rw [job?, h, job?]

/-- One good answer at the head of a job: its completion goes out, and the job goes on to the next piece. -/
theorem jobCpls_good {c : Block} (h : c.job? id = some j) (hp : j.pieces[j.next]? = some pc) (ha : pc.ans = some .sc)
    (hd : j.dead = false) (n : Nat) : ∃ (c1 : Block) (d : List Byte) (ep : Bool),
      c.jobCpls id (n + 1) = (c1.sendCpl j.link j.req .sc d ep j.stream).jobCpls id n ∧
      c1.job? id = some { j with next := j.next + 1 } ∧ c1.lk = c.lk := by
  let c0 := { c with freeCtr := c.freeCtr + j.n }.jobMod id fun j => { j with next := j.next + 1 }
  have hmod : c0.job? id = some { j with next := j.next + 1 } := by
    exact (jobMod_job? _ id (fun j => { j with next := j.next + 1 }) fun _ => rfl).trans
      (congrArg (Option.map fun j : HJob => { j with next := j.next + 1 }) h)
  have hlog := logErr_fr c0 j.f { code := 21, detail := 1, addr := pc.lo, len := pc.len } 0 (Nat.and_self _) (Nat.and_self _) (Fr.refl ..)
  rw [jobCpls, h]
  dsimp only
  rw [hp]
  dsimp only
  rw [ha]
  dsimp only
  rw [if_neg (show ¬ j.dead = true by simp [hd])]
  split
  · exact ⟨_, _, _, rfl, (job?_of_jobs (hlog.part .jobs rfl) id).trans hmod, funext (hlog.part .links rfl)⟩
  · exact ⟨c0, _, _, rfl, hmod, rfl⟩

/-- R45: a good answer completes the read with its data. -/
theorem pieceAns_single_good (hj : b.job? id = some j) (hp : j.pieces = [pc]) (ha : pc.ans = none) (hn : j.next = 0)
    (hd : j.dead = false) (hs : b.streamBad j.link j.stream = false) (data : List (Byte × Bool)) :
    ∃ d ep, .cpl j.link j.req .sc d ep j.stream ∈ (b.pieceAns id 0 .sc data).out := by
  obtain ⟨b1, hb, h1, hlk, -⟩ := pieceAns_single hj hp ha .sc data
  obtain ⟨b2, d, ep, hb2, h2, hlk2⟩ := jobCpls_good (pc := { pc with ans := some .sc, data := data }) h1
    (by simp [HJob.answered, hn]) rfl hd 1
  have hs2 : b2.streamBad j.link j.stream = false := (streamBad_of_lk (hlk2.trans hlk) ..).trans hs
  have hlast : (b2.emit (.cpl j.link j.req .sc d ep j.stream)).job? id = some { HJob.answered j pc .sc data with next := 1 } := by
    refine (job?_of_jobs rfl id).trans (h2.trans ?_)
    simp [HJob.answered, hn]
  rw [hb, hb2]
  dsimp only [HJob.answered]
  rw [sendCpl_good hs2, jobCpls_last hlast rfl]
  exact ⟨d, ep, List.mem_cons_self⟩

end host

end Block
end Sys2Proof.Machine
end

section
/-! PROOFS. What the answers of a design do (O49). -/
namespace Sys2Proof.Machine
namespace Block

/-! ### Which answers are taken (Table 2.6) -/

section taken
variable {b : Block} {p tag code : Nat} {r : XReq}

/-- R44: an answer that the request may have, and that is not RETRY, ends the request. -/
theorem rspIn_final (ha : b.active p = true) (hc : (b.x p).capsSent = false) (hr : b.reqOfTag p tag = some r)
    (hok : rspAllowed (b.xver p) r.op r.spec code = true) (h5 : code ≠ 5) (cause pvec : Nat) (data : List Byte) :
    b.rspIn p tag code cause pvec data = b.rspFinal p r code cause pvec data := by
  rw [reqOfTag] at hr
  simp [rspIn, ha, hc, hr, hok, h5]

/-- R73: an answer that the request may not have ends it as FAULT, and is a protocol error. -/
theorem rspIn_refused (ha : b.active p = true) (hc : (b.x p).capsSent = false) (hr : b.reqOfTag p tag = some r)
    (hok : rspAllowed (b.xver p) r.op r.spec code = false) (cause pvec : Nat) (data : List Byte) :
    b.rspIn p tag code cause pvec data = (b.protoErr p 2 (some r.f) (rspHdr tag code cause)).rspFinal p r 2 0 0 [] := by
  rw [reqOfTag] at hr
  simp [rspIn, ha, hc, hr, hok]

/-- R62: RETRY starts the gap of the request. -/
theorem rspIn_retry (ha : b.active p = true) (hc : (b.x p).capsSent = false) (hr : b.reqOfTag p tag = some r)
    (hok : rspAllowed (b.xver p) r.op r.spec 5 = true) (cause pvec : Nat) (data : List Byte) :
    b.rspIn p tag 5 cause pvec data = (b.ansLog r 5 cause).xMod p (fun x => { x with
      reqs := mapIf (fun g => g.rid == r.rid) (fun g => { g with st := .gap }) x.reqs }) := by
  rw [reqOfTag] at hr
  simp [rspIn, ha, hc, hr, hok]

theorem reqOfTag_mem (hr : b.reqOfTag p tag = some r) : r ∈ (b.x p).reqs := List.mem_of_find?_eq_some hr

@[simp] theorem ansLog_x (b : Block) (r : XReq) (code cause q : Nat) : (b.ansLog r code cause).x q = b.x q :=
  (ansLog_fr b r code cause (Nat.and_self _) (Nat.and_self _) (Fr.refl ..)).part .xlb rfl q

theorem rspIn_retry_gap (ha : b.active p = true) (hc : (b.x p).capsSent = false) (hr : b.reqOfTag p tag = some r)
    (hok : rspAllowed (b.xver p) r.op r.spec 5 = true) (cause pvec : Nat) (data : List Byte) :
    ∃ x ∈ ((b.rspIn p tag 5 cause pvec data).x p).reqs, x.rid = r.rid ∧ x.st = .gap := by
  rw [rspIn_retry ha hc hr hok, xMod_x_self, ansLog_x]
  exact ⟨{ r with st := .gap }, List.mem_map.2 ⟨r, reqOfTag_mem hr, by simp⟩, rfl, rfl⟩

end taken

/-! ### Canonical tables say the same -/

theorem canon_reqEnded {b : Block} {p rid : Nat} (h : b.reqEnded p rid) : b.canon.reqEnded p rid := by
  rwa [reqEnded, canon_x]

theorem canon_errLogged {a b : Block} {f code detail : Nat} (h : a.errLogged b f code detail) :
    a.errLogged b.canon f code detail := by
  unfold errLogged at h ⊢
  simpa only [canon_rd] using h

/-! ### The answer to a host read (R45) -/

section host
variable {b : Block} {p job : Nat} {r : XReq} {j : HJob} {pc : HPiece}

theorem ansGo_host (ho : r.orig = .host job 0) (hj : b.job? job = some j) (hk : j.kind = .read) (code cause : Nat)
    (cells : List (Byte × Bool)) : b.ansGo r code cause cells = b.pieceAns job 0 (hostStatus code) cells := by
  simp [ansGo, ho, hj, hk]

/-- A final answer to a host read crosses the Loom and answers the piece. -/
theorem rspFinal_host (ho : r.orig = .host job 0) (hl : b.loom.stopped = false) (hj : b.job? job = some j) (hk : j.kind = .read)
    (code cause pvec : Nat) (data : List Byte) : ∃ (b1 : Block) (cells : List (Byte × Bool)),
      b.rspFinal p r code cause pvec data = (b1.pieceAns job 0 (hostStatus (takenCode r code pvec)) cells).kick p ∧
      b1.job? job = some j ∧ b1.lk = b.lk := by
  unfold rspFinal
  extract_lets w c carries cells b1
  have hb1 : b1.jobs = b.jobs ∧ b1.lk = b.lk ∧ b1.loom = b.loom := by
    simp only [b1]
    split <;> exact ⟨rfl, rfl, rfl⟩
  obtain ⟨hjobs, hlk, hloom⟩ := hb1
  have hlog := ansLog_fr b1 r c cause (Nat.and_self _) (Nat.and_self _) (Fr.refl ..)
  have hstop : ((b1.ansLog r c cause).dropReq p r.rid).loom.stopped = false := by
    rw [← hl, ← hloom, ← show _ = b1.loom from hlog.part .loom rfl]
    rfl
  let b2 := ((b1.ansLog r c cause).dropReq p r.rid).cross (some (tetherPort p))
    (some (((b1.ansLog r c cause).dropReq p r.rid).xFrom r)) 2 cells.length
  have hjob : b2.job? job = some j := (job?_of_jobs ((show _ = _ from hlog.part .jobs rfl).trans hjobs) job).trans hj
  refine ⟨b2, cells, ?_, hjob, (funext (hlog.part .links rfl)).trans hlk⟩
  unfold endReq
  rw [if_neg (by simp [ho]), if_neg (by simp [hstop])]
  exact congrArg (·.kick p) (ansGo_host ho hjob hk ..)

/-- Table 2.6: an answer other than good completes a host read of one piece with its status. -/
theorem rspFinal_host_bad (ho : r.orig = .host job 0) (hl : b.loom.stopped = false) (hj : b.job? job = some j) (hk : j.kind = .read)
    (hp : j.pieces = [pc]) (ha : pc.ans = none) (hn : j.next = 0) (hd : j.dead = false) (hs : b.streamBad j.link j.stream = false)
    {code : Nat} (h0 : code ≠ 0) (hst : hostStatus code ≠ .sc) (cause pvec : Nat) (data : List Byte) :
    .cpl j.link j.req (hostStatus code) [] false j.stream ∈ (b.rspFinal p r code cause pvec data).out := by
  obtain ⟨b1, cells, heq, hj1, hlk⟩ := rspFinal_host (p := p) ho hl hj hk code cause pvec data
  have htaken : takenCode r code pvec = code := by simp [takenCode, h0]
  rw [htaken] at heq
  rw [heq]
  exact (extends_kick ..).1 (pieceAns_single_bad hj1 hp ha hn hd ((streamBad_of_lk hlk ..).trans hs) hst cells)

/-- R45: DONE and DONE_POISON complete a host read of one piece with its data. -/
theorem rspFinal_host_good (ho : r.orig = .host job 0) (hl : b.loom.stopped = false) (hj : b.job? job = some j) (hk : j.kind = .read)
    (hp : j.pieces = [pc]) (ha : pc.ans = none) (hn : j.next = 0) (hd : j.dead = false) (hs : b.streamBad j.link j.stream = false)
    {code : Nat} (h01 : code = 0 ∨ code = 1) (cause pvec : Nat) (data : List Byte) :
    ∃ d ep, .cpl j.link j.req .sc d ep j.stream ∈ (b.rspFinal p r code cause pvec data).out := by
  obtain ⟨b1, cells, heq, hj1, hlk⟩ := rspFinal_host (p := p) ho hl hj hk code cause pvec data
  have hst : hostStatus (takenCode r code pvec) = .sc := by
    rcases h01 with rfl | rfl
    · unfold takenCode
      split <;> rfl
    · rfl
  rw [hst] at heq
  obtain ⟨d, ep, hmem⟩ := pieceAns_single_good hj1 hp ha hn hd ((streamBad_of_lk hlk ..).trans hs) cells
  rw [heq]
  exact ⟨d, ep, (extends_kick ..).1 hmem⟩

/-- The status with which an answer code completes a host read, where it is not Successful Completion. -/
theorem hostStatus_bad {code : Nat} (h : code ≠ 0 ∧ code ≠ 1) : hostStatus code ≠ .sc := by
  unfold hostStatus
  rw [if_neg (by simp [h])]
  split <;> simp

end host

/-! ### The answer to a posted write (R44) -/

section posted
variable {b : Block} {p tag : Nat} {r : XReq}

/-- An answer without data other than DONE and RETRY ends a posted write and is logged with its code. -/
theorem rspIn_posted_bad (ha : b.active p = true) (hc : (b.x p).capsSent = false) (hr : b.reqOfTag p tag = some r) (ho : r.orig = .posted)
    (hop : r.op = 2) {code : Nat} (hcode : code = 2 ∨ code = 3 ∨ code = 6) (cause : Nat) :
    (b.rspIn p tag code cause 0 []).reqEnded p r.rid ∧ b.errLogged (b.rspIn p tag code cause 0 []) r.f 9 code := by
  have hok : rspAllowed (b.xver p) r.op r.spec code = true := by
    rw [hop]
    rcases hcode with rfl | rfl | rfl <;> rfl
  rw [rspIn_final ha hc hr hok (by omega)]
  exact ⟨rspFinal_posted_ended ho cause 0 [] (.inl hop),
    rspFinal_posted_logged ho cause 0 [] (.inl hop) (by omega) (by omega) (by omega)⟩

/-- R73: DONE_POISON for a write is a protocol error, and ends the write. -/
theorem rspIn_posted_poison (ha : b.active p = true) (hc : (b.x p).capsSent = false) (hr : b.reqOfTag p tag = some r) (ho : r.orig = .posted)
    (hop : r.op = 2) (cause pvec : Nat) (data : List Byte) :
    (b.rspIn p tag 1 cause pvec data).reqEnded p r.rid ∧ (b.rspIn p tag 1 cause pvec data).rd .xlbCntProtocol p =
      min (b.rd .xlbCntProtocol p + 1) (2 ^ (Fld.attr .xlbCntProtocol).width - 1) := by
  have hok : rspAllowed (b.xver p) r.op r.spec 1 = false := by
    rw [hop]
    rfl
  rw [rspIn_refused ha hc hr hok]
  refine ⟨rspFinal_posted_ended ho 0 0 [] (.inr rfl), Eq.trans ?_ (protoErr_counts b p 2 (some r.f) (rspHdr tag 1 cause))⟩
  rw [rspFinal_posted ho 0 0 [] (.inr rfl), (tether_dropReq_kick ..).rd (by decide)]
  exact (ansLog_fr _ r 2 0 (Nat.and_self _) (Nat.and_self _) (Fr.refl ..)).reg .xlbCntProtocol p 0 rfl

end posted

end Block

/-- Table 2.6: the answers that every read may have, and that are final. -/
theorem rspAllowed_read {op code : Nat} (hop : op = 1) (h : code = 0 ∨ code = 1 ∨ code = 2 ∨ code = 3 ∨ code = 6) (ver : Nat)
    (spec : Bool) : rspAllowed ver op spec code = true := by
  rw [hop]
  rcases h with rfl | rfl | rfl | rfl | rfl <;> rfl

/-- Settles O49: each answer code by how it ends the request of its tag, for a posted write and for a host read of one piece. -/
theorem hostResponses : Obligations.HostResponses := by
  unfold Obligations.HostResponses
  refine ⟨fun s p tag r ha hc hr ho hop cause _ => ?posted,
    fun s p tag r job j pc ha hc hr ho hop hj hk hp hans hn hd hs hl cause => ?host⟩
  case posted =>
    have hbad : ∀ code, code = 2 ∨ code = 3 ∨ code = 6 →
        (s.blk.rspIn p.val tag.toNat code cause.toNat 0 []).canon.reqEnded p.val r.rid ∧
        s.blk.errLogged (s.blk.rspIn p.val tag.toNat code cause.toNat 0 []).canon r.f 9 code := fun code hcode =>
      have h := Block.rspIn_posted_bad ha hc hr ho hop hcode cause.toNat
      ⟨Block.canon_reqEnded h.1, Block.canon_errLogged h.2⟩
    refine ⟨fun pvec data => ?done, State.does_of_on (·.rspIn p.val tag.toNat 2 cause.toNat 0 []) rfl (hbad 2 (by decide)),
      State.does_of_on (·.rspIn p.val tag.toNat 3 cause.toNat 0 []) rfl (hbad 3 (by decide)),
      State.does_of_on (·.rspIn p.val tag.toNat 6 cause.toNat 0 []) rfl (hbad 6 (by decide)), ?retry, fun pvec data => ?poison⟩
    case done =>
      refine State.does_of_on (·.rspIn p.val tag.toNat 0 cause.toNat pvec.toNat data) rfl (Block.canon_reqEnded ?_)
      rw [Block.rspIn_final ha hc hr rfl (by decide)]
      exact Block.rspFinal_posted_ended ho _ _ _ (.inl hop)
    case retry =>
      refine State.does_of_on (·.rspIn p.val tag.toNat 5 cause.toNat 0 []) rfl ?_
      rw [Block.canon_x]
      exact Block.rspIn_retry_gap ha hc hr (by rw [hop]; rfl) _ _ _
    case poison =>
      refine State.does_of_on (·.rspIn p.val tag.toNat 1 cause.toNat pvec.toNat data) rfl ?_
      obtain ⟨hend, hcnt⟩ := Block.rspIn_posted_poison ha hc hr ho hop cause.toNat pvec.toNat data
      exact ⟨Block.canon_reqEnded hend, (Block.canon_rd ..).trans hcnt⟩
  case host =>
    have hgood : ∀ code, code = 0 ∨ code = 1 → ∀ pvec data, ∃ d ep,
        .cpl j.link j.req .sc d ep j.stream ∈ (s.blk.rspIn p.val tag.toNat code cause.toNat pvec data).canon.out := by
      intro code h01 pvec data
      rw [Block.canon_out, Block.rspIn_final ha hc hr (rspAllowed_read hop (by omega) _ _) (by omega)]
      exact Block.rspFinal_host_good ho hl hj hk hp hans hn hd hs h01 ..
    have hbad : ∀ code, code = 2 ∨ code = 3 ∨ code = 6 →
        .cpl j.link j.req (hostStatus code) [] false j.stream ∈ (s.blk.rspIn p.val tag.toNat code cause.toNat 0 []).canon.out := by
      intro code hcode
      rw [Block.canon_out, Block.rspIn_final ha hc hr (rspAllowed_read hop (by omega) _ _) (by omega)]
      exact Block.rspFinal_host_bad ho hl hj hk hp hans hn hd hs (by omega) (Block.hostStatus_bad (by omega)) ..
    exact ⟨fun pvec data => State.does_of_on (·.rspIn p.val tag.toNat 0 cause.toNat pvec.toNat data) rfl (hgood 0 (.inl rfl) _ _),
      fun pvec data => State.does_of_on (·.rspIn p.val tag.toNat 1 cause.toNat pvec.toNat data) rfl (hgood 1 (.inr rfl) _ _),
      State.does_of_on (·.rspIn p.val tag.toNat 2 cause.toNat 0 []) rfl (hbad 2 (by decide)),
      State.does_of_on (·.rspIn p.val tag.toNat 3 cause.toNat 0 []) rfl (hbad 3 (by decide)),
      State.does_of_on (·.rspIn p.val tag.toNat 6 cause.toNat 0 []) rfl (hbad 6 (by decide))⟩

end Sys2Proof.Machine
end

section
/-! PROOFS. Late answers, timeouts, gaps and the tag quarantine (O50). -/
namespace Sys2Proof.Machine
namespace Block

section late
variable {b : Block} {p tag : Nat} {g : XQuar}

/-- R63: DONE for a tag in quarantine is counted and logged, and frees the tag unless a fence keeps it. -/
theorem rspIn_late (ha : b.active p = true) (hc : (b.x p).capsSent = false) (hr : b.reqOfTag p tag = none)
    (hg : (b.x p).quar.find? (fun g => g.tag == tag) = some g) (cause pvec : Nat) (data : List Byte) :
    b.rspIn p tag 0 cause pvec data =
      let b1 := (b.incSat .xlbCntLate p).logErr g.f { code := 8, detail := 0, aux := tag, queue := g.q }
      if g.fenced then b1 else (b1.xMod p (fun x => { x with quar := x.quar.filter (fun y => y.tag != tag) })).kick p := by
  rw [reqOfTag] at hr
  simp [rspIn, ha, hc, hr, hg, rspAllowed]

theorem logErr_late (b : Block) (p f : Nat) (e : LogE) : ((b.incSat .xlbCntLate p).logErr f e).rd .xlbCntLate p =
    min (b.rd .xlbCntLate p + 1) (2 ^ (Fld.attr .xlbCntLate).width - 1) := by
  refine Eq.trans ?_ (incSat_rd_self b .xlbCntLate p 0)
  exact (logErr_fr (b.incSat .xlbCntLate p) f e 0 (Nat.and_self _) (Nat.and_self _) (Fr.refl ..)).reg .xlbCntLate p 0 rfl

theorem rspIn_late_counts (ha : b.active p = true) (hc : (b.x p).capsSent = false) (hr : b.reqOfTag p tag = none)
    (hg : (b.x p).quar.find? (fun g => g.tag == tag) = some g) (cause pvec : Nat) (data : List Byte) :
    (b.rspIn p tag 0 cause pvec data).rd .xlbCntLate p = min (b.rd .xlbCntLate p + 1) (2 ^ (Fld.attr .xlbCntLate).width - 1) := by
  rw [rspIn_late ha hc hr hg]
  dsimp only
  split
  · exact logErr_late ..
  · exact ((tether_kick ..).rd (by decide) ..).trans (logErr_late ..)

theorem rspIn_late_frees (ha : b.active p = true) (hc : (b.x p).capsSent = false) (hr : b.reqOfTag p tag = none)
    (hg : (b.x p).quar.find? (fun g => g.tag == tag) = some g) (hf : g.fenced = false) (cause pvec : Nat) (data : List Byte) :
    ∀ y ∈ ((b.rspIn p tag 0 cause pvec data).x p).quar, y.tag ≠ tag := by
  rw [rspIn_late ha hc hr hg]
  dsimp only
  rw [hf, if_neg (by decide), kick_quar, xMod_x_self]
  intro y hy
  simpa using (List.mem_filter.1 hy).2

/-- R63: the quarantine of a tag ends, unless a fence keeps it. -/
theorem xlbTagFree_frees (b : Block) (p tag : Nat) : ∀ g ∈ ((b.xlbTagFree p tag).x p).quar, g.tag = tag → g.fenced = true := by
  rw [xlbTagFree, kick_quar, xMod_x_self]
  intro g hg ht
  simpa [ht] using (List.mem_filter.1 hg).2

end late

/-! ### Timeouts (R61, R65) -/

section timeout
variable {b : Block} {p : Nat} {r : XReq}

/-- R63: a request that has been sent leaves its tag in quarantine. -/
theorem quarantine_sent (b : Block) (p : Nat) (hs : r.st = .sent) (byFence : Bool) :
    ∃ g : XQuar, g.tag = r.tag ∧ g.fenced = byFence ∧
      b.quarantine p r byFence = b.xMod p (fun x => { x with quar := x.quar ++ [g] }) := by
  refine ⟨_, ?_, ?_, if_neg (by simp [hs])⟩ <;> rfl

/-- R65: a timeout that does not complete the count of FENCE_COUNT is only counted and remembered. -/
theorem countTmo_below (h : ((b.x p).tmos.filter (fun t => b.time - t ≤ r.cfg.fwin)).length + 1 < r.cfg.fcount) :
    b.countTmo p r = (b.incSat .xlbCntTimeouts p).xMod p (fun x => { x with
      tmos := (b.time :: (b.x p).tmos).filter (fun t => b.time - t ≤ 1000000) }) := by
  unfold countTmo
  extract_lets b1 ts b2 near
  have hnear : near.length < r.cfg.fcount := by
    have : near.length = ((b.x p).tmos.filter (fun t => b.time - t ≤ r.cfg.fwin)).length + 1 := by
      simp only [near, ts]
      rw [List.filter_cons_of_pos (by simp)]
      rfl
    omega
  rw [if_neg (by simp [hnear])]
  rfl

/-- R61: a host posted write that was sent and is not answered in time: it is logged, its tag is quarantined, it ends, and the
timeout is counted. -/
theorem xlbTimeout_posted {rid : Nat} (hr : (b.x p).reqs.find? (fun r => r.rid == rid) = some r) (ho : r.orig = .posted)
    (hs : r.st = .sent) (hl : r.atLoom = false) : b.xlbTimeout p rid =
      (((((b.logErr r.f { code := 5, detail := 1, addr := r.addr, len := r.len, aux := r.tag, queue := none }).quarantine p r false).dropReq
        p rid).countTmo p r).kick p) := by
  have hrid : r.rid = rid := by simpa using List.find?_some hr
  simp [xlbTimeout, hr, hl, XReq.unsent, XReq.spec, hs, ho, endReq_posted ho, origDetail, origQueue, hrid]

theorem xlbTimeout_ends {rid : Nat} (hr : (b.x p).reqs.find? (fun r => r.rid == rid) = some r) (ho : r.orig = .posted)
    (hs : r.st = .sent) (hl : r.atLoom = false)
    (hn : ((b.x p).tmos.filter (fun t => b.time - t ≤ r.cfg.fwin)).length + 1 < r.cfg.fcount) :
    (b.xlbTimeout p rid).reqEnded p rid ∧ b.errLogged (b.xlbTimeout p rid) r.f 5 1 ∧
      (∃ g ∈ ((b.xlbTimeout p rid).x p).quar, g.tag = r.tag ∧ g.fenced = false) ∧
      (b.xlbTimeout p rid).rd .xlbCntTimeouts p = min (b.rd .xlbCntTimeouts p + 1) (2 ^ (Fld.attr .xlbCntTimeouts).width - 1) := by
  rw [xlbTimeout_posted hr ho hs hl]
  obtain ⟨b1, hb1⟩ : ∃ b1, b1 = b.logErr r.f { code := 5, detail := 1, addr := r.addr, len := r.len, aux := r.tag, queue := none } :=
    ⟨_, rfl⟩
  have hlog : b.errLogged b1 r.f 5 1 := by
    rw [hb1]
    exact logErr_errLogged b r.f { code := 5, detail := 1, addr := r.addr, len := r.len, aux := r.tag, queue := none } 0 (show 5 < _ by decide)
      (show 1 < _ by decide)
  have hfr := logErr_fr b r.f { code := 5, detail := 1, addr := r.addr, len := r.len, aux := r.tag, queue := none } 0 (Nat.and_self _)
    (Nat.and_self _) (Fr.refl ..)
  have hx : b1.x p = b.x p := by rw [hb1, logErr_x]
  have htime : b1.time = b.time := by rw [hb1]; exact hfr.part .time rfl
  have hcnt : b1.rd .xlbCntTimeouts p = b.rd .xlbCntTimeouts p := by rw [hb1]; exact hfr.reg .xlbCntTimeouts p 0 rfl
  rw [← hb1]
  obtain ⟨g, hg, hgf, hq⟩ := quarantine_sent b1 p hs false
  rw [hq, countTmo_below (by rw [← htime, ← hx] at hn; simpa [dropReq] using hn)]
  have hmask : Nat.testBit (2 ^ Fld.ctorIdx .xlbCntTimeouts) (Fld.ctorIdx .xlbCntTimeouts) = true := Nat.testBit_two_pow_self
  refine ⟨?_, ?_, ⟨g, ?_, hg, hgf⟩, ?_⟩
  · refine kick_reqEnded _ _ fun y hy => ?_
    rw [xMod_x_self, incSat_x] at hy
    exact dropReq_reqEnded _ p rid y hy
  · refine errLogged.frame ?_ (tether_kick ..) rfl rfl rfl rfl
    exact hlog.frame (m := 2 ^ Fld.ctorIdx .xlbCntTimeouts) (q := 0x40)
      (.xMod rfl (.incSat hmask (.xMod rfl (.xMod rfl (.refl ..))))) rfl rfl rfl rfl
  · simp [dropReq]
  · rw [(tether_kick ..).rd (by decide), xMod_rd, incSat_rd_self]
    simp [dropReq, hcnt]

end timeout

/-! ### RETRY gaps (R62) -/

section gap
variable {b : Block} {p tag : Nat} {r : XReq}

theorem retryGap_limit (hr : (b.x p).reqs.find? (fun r => r.st == .gap && r.tag == tag) = some r) (hl : r.cfg.limit ≤ r.retries) :
    b.retryGap p tag = b.rspFinal p r 2 0 0 [] := by
  simp [retryGap, hr, hl]

/-- A reissue keeps its tag and needs credits alone. -/
theorem canSend_reissue (ha : b.active p = true) (hs : b.shut p = false) (hc : (b.x p).capsSent = false)
    (h0 : hasCr ((b.x p).cr[0]?.getD 0) 1 = true) (h1 : hasCr ((b.x p).cr[1]?.getD 0) (reqSlots (b.xw p) r) = true)
    (hn : 0 < r.retries) : b.canSend p r = true := by
  simp [canSend, ha, hs, hc, h0, h1, hn]

/-- R62: the only request of a port goes out again when it is a reissue and its credits last. -/
theorem kick_reissue (hreqs : (b.x p).reqs = [r]) (hw : r.st = .waiting) (hl : r.atLoom = false) (hn : 0 < r.retries)
    (hsend : b.canSend p r = true) : ((b.kick p).x p).reqs = [{ r with st := .sent }] := by
  have hlen : ((b.x p).reqs.filter (fun r => r.st == .waiting)).length = 1 := by simp [hreqs, hw]
  rw [kick, hlen, pumpX]
  simp [hreqs, hw, hl, hn, hsend, pumpX, mapIf]

theorem retryGap_reissue (hr : (b.x p).reqs.find? (fun r => r.st == .gap && r.tag == tag) = some r) (hreqs : (b.x p).reqs = [r])
    (hn : r.retries < r.cfg.limit) (hl : r.atLoom = false) (ha : b.active p = true) (hs : b.shut p = false)
    (hc : (b.x p).capsSent = false) (h0 : hasCr ((b.x p).cr[0]?.getD 0) 1 = true)
    (h1 : hasCr ((b.x p).cr[1]?.getD 0) (reqSlots (b.xw p) r) = true) :
    ((b.retryGap p tag).x p).reqs = [{ r with st := .sent, retries := r.retries + 1 }] := by
  have hgo : b.retryGap p tag = (b.xMod p (fun x => { x with
      reqs := mapIf (fun g => g.rid == r.rid) (fun g => { g with st := .waiting, retries := g.retries + 1 }) x.reqs })).kick p := by
    simp [retryGap, hr, Nat.not_le.2 hn]
  rw [hgo, kick_reissue (r := { r with st := .waiting, retries := r.retries + 1 }) (by simp [hreqs, mapIf]) rfl hl (Nat.succ_pos _)]
  refine canSend_reissue ha hs ?_ ?_ ?_ (Nat.succ_pos _) <;> rw [xMod_x_self]
  · exact hc
  · exact h0
  · exact h1

end gap

end Block

/-- Settles O50, timer by timer. -/
theorem xlbTimers : Obligations.XlbTimers := by
  unfold Obligations.XlbTimers
  refine ⟨fun s p tag g pvec data cause ha hc hr hg => ?late, fun s p rid r hr ho hs hl hn => ?timeout,
    fun s p tag r hr => ⟨fun ho hl => ?limit, fun hreqs hn hl ha hs hc h0 h1 => ?reissue⟩, fun s p tag => ?free⟩
  case late =>
    refine State.does_of_on (·.rspIn p.val tag.toNat 0 cause.toNat pvec.toNat data) rfl ⟨?_, fun hf => ?_⟩
    · exact (Block.canon_rd ..).trans (Block.rspIn_late_counts ha hc hr hg ..)
    · rw [Block.canon_x]
      exact Block.rspIn_late_frees ha hc hr hg hf _ _ _
  case timeout =>
    refine State.does_of_on (·.xlbTimeout p.val rid) rfl ?_
    obtain ⟨hend, hlog, hquar, hcnt⟩ := Block.xlbTimeout_ends hr ho hs hl hn
    rw [Block.canon_x, Block.canon_rd]
    exact ⟨Block.canon_reqEnded hend, Block.canon_errLogged hlog, hquar, hcnt⟩
  case limit =>
    refine State.does_of_on (·.retryGap p.val tag.toNat) rfl ?_
    rw [Block.retryGap_limit hr hl]
    exact ⟨Block.canon_reqEnded (Block.rspFinal_posted_ended ho 0 0 [] (.inr rfl)),
      Block.canon_errLogged (Block.rspFinal_posted_logged ho 0 0 [] (.inr rfl) (by decide) (by decide) (by decide))⟩
  case reissue =>
    refine State.does_of_on (·.retryGap p.val tag.toNat) rfl ?_
    rw [Block.canon_x]
    exact Block.retryGap_reissue hr hreqs hn hl ha hs hc h0 h1
  case free =>
    refine State.does_of_on (·.xlbTagFree p.val tag.toNat) rfl ?_
    rw [Block.canon_x]
    exact Block.xlbTagFree_frees s.blk p.val tag.toNat

end Sys2Proof.Machine
end

section
/-! PROOFS. Requests of the functions to the hosts: what sending one keeps; Acks, completions and timeouts (O33). -/
namespace Sys2Proof.Machine

/-- u is the request t, sent meanwhile perhaps. -/
def HTag.Same (t u : HTag) : Prop :=
  u.id = t.id ∧ u.own = t.own ∧ u.addr = t.addr ∧ u.len = t.len ∧ u.ops = t.ops ∧ u.aop = t.aop

theorem HTag.Same.refl (t : HTag) : t.Same t := ⟨rfl, rfl, rfl, rfl, rfl, rfl⟩

theorem HTag.Same.trans {t u v : HTag} (h : t.Same u) (k : u.Same v) : t.Same v := by
  obtain ⟨h1, h2, h3, h4, h5, h6⟩ := h
  obtain ⟨k1, k2, k3, k4, k5, k6⟩ := k
  exact ⟨k1.trans h1, k2.trans h2, k3.trans h3, k4.trans h4, k5.trans h5, k6.trans h6⟩

namespace Block

/-! ### Non-posted requests of the functions -/

/-- b has the non-posted requests of a, some of them sent meanwhile, and no others. -/
def SameNp (a b : Block) : Prop := ∀ f, ∃ g : HTag → HTag, (∀ t : HTag, t.Same (g t)) ∧ (b.fn f).np = ((a.fn f).np).map g

namespace SameNp
variable {a b c : Block}

theorem of_fn (h : ∀ f, b.fn f = a.fn f) : SameNp a b := fun f => ⟨id, HTag.Same.refl, by rw [h f, List.map_id]⟩
theorem refl (a : Block) : SameNp a a := of_fn fun _ => rfl

theorem trans (h : SameNp a b) (k : SameNp b c) : SameNp a c := fun f => by
  obtain ⟨g, hg, hb⟩ := h f
  obtain ⟨g', hg', hc⟩ := k f
  exact ⟨g' ∘ g, fun t => (hg t).trans (hg' (g t)), by rw [hc, hb, List.map_map]⟩

theorem each {α : Type} {g : Block → α → Block} (hg : ∀ b x, SameNp b (g b x)) (l : List α) (b : Block) : SameNp b (b.each l g) := by
  induction l generalizing b with
  | nil => exact refl b
  | cons x t ih => exact (hg b x).trans (ih _)

theorem asks (h : SameNp a b) {f : Nat} {own : HOwner} {addr len : Nat} {ops : List Byte} {aop : Nat}
    (ha : a.asks f own addr len ops aop) : b.asks f own addr len ops aop := by
  obtain ⟨t, ht, h1, h2, h3, h4, h5⟩ := ha
  obtain ⟨g, hg, hb⟩ := h f
  obtain ⟨-, k1, k2, k3, k4, k5⟩ := hg t
  exact ⟨g t, hb ▸ List.mem_map_of_mem ht, k1.trans h1, k2.trans h2, k3.trans h3, k4.trans h4, k5.trans h5⟩

theorem ids (h : SameNp a b) (f : Nat) : ((b.fn f).np).map (·.id) = ((a.fn f).np).map (·.id) := by
  obtain ⟨g, hg, hb⟩ := h f
  rw [hb, List.map_map]
  exact List.map_congr_left fun t _ => (hg t).1

end SameNp

section np
variable (b : Block) (f id : Nat)

/-- Sending a request of f changes its record alone, and sends it. -/
theorem sameNp_sendNp : SameNp b (b.sendNp f id) := by
  unfold sendNp
  extract_lets l np
  split
  · exact .refl b
  · split
    · exact .refl b
    · split
      · split
        · exact .refl b
        · extract_lets go
          intro u
          by_cases hu : u = f
          · subst hu
            refine ⟨fun t => if t.id == id then go t else t, fun t => ?_, ?_⟩
            · dsimp only
              split <;> exact .refl t
            · rw [emit_fn, fnMod_fn_self]
              rfl
          · exact ⟨fun t => t, HTag.Same.refl, by rw [emit_fn, fnMod_fn_ne _ hu, useFree_fn, List.map_id']⟩
      · split
        · exact .of_fn fun u => (l1Exit_fr b l (Nat.and_self _) (Nat.and_self _) (Fr.refl ..)).part .fns rfl u
        · exact .refl b

theorem sameNp_pumpNp : SameNp b (b.pumpNp f) := .each (fun b id => sameNp_sendNp b f id) _ _

/-- A request that is removed is gone. -/
theorem npDrop_gone : ∀ t ∈ ((b.npDrop f id).fn f).np, t.id ≠ id := by
  have hids := (sameNp_pumpNp (b.dropNp f (fun t => t.id == id)) f).ids f
  rw [dropNp, fnMod_fn_self] at hids
  intro t ht he
  have hmem : id ∈ (((b.npDrop f id).fn f).np).map (·.id) := List.mem_map.2 ⟨t, ht, he⟩
  rw [npDrop, dropNp, hids] at hmem
  obtain ⟨u, hu, hid⟩ := List.mem_map.1 hmem
  simpa [hid] using (List.mem_filter.1 hu).2

end np

/-! ### Acks (R54) -/

/-- Steps that each change nothing change nothing. -/
theorem each_of_fixed {α : Type} (b : Block) {l : List α} {g : Block → α → Block} (h : ∀ x ∈ l, ∀ b, g b x = b) : b.each l g = b := by
  induction l generalizing b with
  | nil => rfl
  | cons x t ih =>
    have hstep : b.each (x :: t) g = (g b x).each t g := rfl
    rw [hstep, h x List.mem_cons_self, ih _ fun y hy => h y (List.mem_cons_of_mem _ hy)]

/-- Nothing waits for the Ack of a write that is neither of a local-master request nor of a chunk. -/
theorem wAcked_alone (b : Block) {w : PWr} (h : (match w.own with | .lm _ _ | .chunk _ _ => false | _ => true) = true) :
    b.wAcked w = b := by
  unfold wAcked ackGo
  cases ho : w.own <;> simp_all

/-- R54: an Ack for writes on which nothing waits retires the oldest that were sent. -/
theorem ackN_posted {b : Block} {l n : Nat} (h : (((b.lk l).posted.filter (·.sent)).take n).all
    (fun w => match w.own with | .lm _ _ | .chunk _ _ => false | _ => true) = true) :
    ((b.ackN l n).lk l).posted = ((b.lk l).posted.filter (·.sent)).drop n ++ (b.lk l).posted.filter (fun w => !w.sent) := by
  unfold ackN
  extract_lets sent rest
  rw [each_of_fixed _ fun w hw b => wAcked_alone b (List.all_eq_true.1 h w hw), lkMod_lk_self]

/-! ### Unexpected completions (R200) -/

theorem bit_eq_testBit (v i : Nat) : bit v i = v.testBit i := by
  rw [bit, Nat.testBit_eq_decide_div_mod_eq, Bool.beq_eq_decide_eq]

/-- A bit that is set reads 1. -/
theorem setBits_bit (b : Block) (f : Fld) (i j e : Nat) (he : e < (Fld.attr f).width) :
    bit ((b.setBits f i j (2 ^ e)).rd f i j) e = true := by
  rw [setBits, wr_rd_self, bit_eq_testBit, Nat.testBit_mod_two_pow, Nat.testBit_or, Nat.testBit_two_pow_self]
  simp [he]

theorem aerCor_bit {b : Block} {f e : Nat} (ht : b.tableDisc f = false) (he : e < 32) :
    bit ((b.aerCor f e).rd .aerCorSts f (b.actSet f)) e = true := by
  unfold aerCor
  extract_lets l j masked b1 send b2
  have h2 : bit (b2.rd .aerCorSts f (b.actSet f)) e = true := setBits_bit b1 .aerCorSts f _ e he
  rw [if_neg (by simp [ht])]
  split
  · exact h2
  · simp only [send]
    split
    · exact h2
    · exact h2

/-- An advisory error that can be reported has its bit set, and that of Advisory Non-Fatal Error with it. -/
theorem aerAdv_bits {b : Block} {f e : Nat} (ht : b.tableDisc f = false) (he : e < 32) (hdr : Nat) :
    bit ((b.aerAdv f e hdr).rd .aerCorSts f (b.actSet f)) 13 = true ∧ bit ((b.aerAdv f e hdr).rd .aerUncSts f (b.actSet f)) e = true := by
  unfold aerAdv
  extract_lets j b1
  rw [if_neg (by simp [ht])]
  constructor
  · rw [wr_rd_fld _ (by decide), setBits, wr_rd_fld _ (by decide)]
    exact aerCor_bit ht (by decide)
  · rw [wr_rd_fld _ (by decide)]
    exact setBits_bit b1 .aerUncSts f _ e he

theorem hostCpl_unexpected {b : Block} {f tag : Nat} (he : b.fnExists f = true)
    (hn : (b.fn f).np.find? (fun t => t.st != .waiting && t.tag == tag) = none) (l : Nat) (st : CplSt) (data : List Byte) (ep : Bool) :
    b.hostCpl l f tag st data ep = b.aerAdv f 16 (Config.tlpHeader tag 0) := by
  unfold hostCpl
  rw [if_neg (by simp [he]), hn]

/-! ### The read of a producer index (R136, R197, R295) -/

section index
variable {b : Block} {f tag q : Nat} {t : HTag}

/-- R128: the last data of an index read ends the request and crosses the Loom to the Shuttle. -/
theorem hostCpl_index (he : b.fnExists f = true) (hf : (b.fn f).np.find? (fun t => t.st != .waiting && t.tag == tag) = some t)
    (hst : t.st = .sent) (ho : t.own = .qIndex q) {data : List Byte} (hlen : t.len ≤ (npTake t data false).length) :
    b.hostCpl (b.actLink f) f tag .sc data false = (b.npDrop f t.id).npGood f t (npTake t data false) := by
  unfold hostCpl
  rw [if_neg (by simp [he]), hf]
  simp [hst, ho, hlen]

/-- R136: the value of a completed index read is kept for its queue, unless that has been halted or disabled. -/
theorem npGood_index (ho : t.own = .qIndex q) (hl : b.loom.stopped = false) (hq : b.qDead (q / 32) (q % 32) = false)
    (cells : List (Byte × Bool)) : ((b.npGood f t cells).qu q).idxOut = false ∧
      ((b.npGood f t cells).qu q).idxIn = some ⟨0, 0, 0, cells⟩ := by
  rw [npGood, ho, ownQueue]
  simp only [backTo, hl, Bool.false_eq_true, if_false, goodGo, ho, quMod_qu_self]
  refine ⟨trivial, if_neg ?_⟩
  change ¬ b.qDead (q / 32) (q % 32) = true
  simp [hq]

/-- R151: a queue that is not DISABLED and not HALTED halts with the cause and the DETAIL given. -/
theorem haltQ_halted {n cause detail : Nat} (hq : b.qDead f n = false) (hc : cause < 2 ^ (Fld.attr .qHaltCause).width)
    (hd : detail < 2 ^ (Fld.attr .qHaltDetail).width) (desc frag : Nat) : (b.haltQ f n cause detail desc frag).qHalted f n cause detail := by
  unfold haltQ
  extract_lets st b1 keep bare b2
  have h1 : b1.qHalted f n cause detail := by
    refine ⟨?_, ?_, ?_⟩ <;> simp only [b1, wr_rd_fld, wr_rd_self, ne_eq, reduceCtorEq, not_false_eq_true]
    · rfl
    · exact Nat.mod_eq_of_lt hc
    · exact Nat.mod_eq_of_lt hd
  have hafter : Fr 0x40000000000000800000000000000000000000000000000000000000020000004018008000020000000300000000000000000000000000000 0x5400057c0 b1
      (((b2.headWb f n).sample f 8).devEvent f 1 n (n + cause * 2 ^ 8 + detail * 2 ^ 16 + desc * 2 ^ 32)) :=
    devEvent_fr _ f 1 n _ rfl rfl (sample_fr _ f 8 rfl rfl (headWb_fr _ f n rfl rfl (.quMod rfl (qDropWaiting_fr _ f n rfl rfl (.refl ..)))))
  obtain ⟨hst, hcause, hdetail⟩ := h1
  rw [if_neg (by rw [qDead] at hq; simpa [st] using hq)]
  exact ⟨(hafter.reg .qState f n rfl).trans hst, (hafter.reg .qHaltCause f n rfl).trans hcause,
    (hafter.reg .qHaltDetail f n rfl).trans hdetail⟩

/-- Table 5.7: an index read that ends badly halts its queue with FETCH_ERROR. -/
theorem npBad_index (ho : t.own = .qIndex q) (hl : b.loom.stopped = false) (hq : b.qDead (q / 32) (q % 32) = false) {st : Nat}
    (hst : st < 2 ^ (Fld.attr .qHaltDetail).width) : (b.npBad f t st).qHalted (q / 32) (q % 32) 13 st := by
  rw [npBad, ho, ownQueue]
  simp only [backTo, hl, Bool.false_eq_true, if_false, badGo, ho, fetchBad]
  exact haltQ_halted (by exact hq) (by decide) hst ..

/-- A request that timed out: its tag is in quarantine and the timeout logged; the Loom and the queues are as they were. -/
theorem npQuar_logErr_keeps (hl : b.loom.stopped = false) {n m : Nat} (hq : b.qDead n m = false) (id : Nat) (e : LogE) (hdr : Nat) :
    ((b.npQuar f id .quar).logErr f e hdr).loom.stopped = false ∧ ((b.npQuar f id .quar).logErr f e hdr).qDead n m = false := by
  have hf := logErr_fr (b.npQuar f id .quar) f e hdr (Nat.and_self _) (Nat.and_self _) (Fr.refl ..)
  refine ⟨?_, ?_⟩
  · rw [show _ = _ from hf.part .loom rfl]
    exact hl
  · rw [qDead, hf.reg .qState n m rfl]
    exact hq

theorem cplTimeout_index (hl : b.loom.stopped = false) (ho : t.own = .qIndex q) (hq : b.qDead (q / 32) (q % 32) = false)
    (hst : t.st = .sent)
    (hf : (b.fn f).np.find? (fun t => (t.st == .sent || t.st == .silent) && t.tag == tag && t.cto.isSome) = some t) :
    (b.cplTimeout f tag).qHalted (q / 32) (q % 32) 13 3 := by
  unfold cplTimeout
  rw [hf]
  simp only [hst, ho]
  obtain ⟨hl1, hq1⟩ := npQuar_logErr_keeps (f := f) hl hq t.id
    { code := 17, detail := npKind t.own, addr := t.addr, len := t.len, aux := tag, queue := errQueue t.own } t.header
  rw [ho] at hl1 hq1
  exact npBad_index ho hl1 hq1 (by decide)

theorem fetchTmo_index (hl : b.loom.stopped = false) (ho : t.own = .qIndex q) (hq : b.qDead (q / 32) (q % 32) = false)
    (hst : t.st = .sent)
    (hf : (b.fn f).np.find? (fun t => (t.st == .sent || t.st == .silent) && t.tag == tag && npKind t.own == 2) = some t) :
    (b.fetchTmo f tag).qHalted (q / 32) (q % 32) 13 3 := by
  obtain ⟨hl1, hq1⟩ := npQuar_logErr_keeps (f := f) hl hq t.id
    { code := 17, detail := 128 + 2, addr := t.addr, len := t.len, aux := tag, queue := errQueue t.own } t.header
  unfold fetchTmo
  rw [hf]
  dsimp only
  rw [if_neg (by simp [hst])]
  exact npBad_index ho hl1 hq1 (by decide)

end index

end Block

theorem Block.canon_qHalted {b : Block} {f n cause detail : Nat} (h : b.qHalted f n cause detail) : b.canon.qHalted f n cause detail := by
  simpa only [Block.qHalted, Block.canon_rd] using h

/-- Settles O33, by what each Ack, completion and timeout does. -/
theorem hostTraffic : Obligations.HostTraffic := by
  unfold Obligations.HostTraffic
  refine ⟨fun s l n h => ?ack, fun s l f tag st data ep str hs he ht hn => ?unexpected, fun s l f tag st data ep str hs => ?insecure,
    fun s l f tag q data t str hs hl he hlink hf hst ho hlen hq => ?index, fun s f tag q t hl ho hq hst => ⟨fun hf => ?cto, fun hf => ?fetch⟩,
    fun s f tag t hf => ?free⟩
  case ack =>
    refine State.does_of_on (·.ackN l.val n) rfl ?_
    rw [Block.canon_lk]
    exact Block.ackN_posted h
  case unexpected =>
    refine State.does_of_on (fun b => if b.streamBad l.val str then b else b.hostCpl l.val f.val tag st data ep) rfl ?_
    rw [hs, if_neg (by decide), Block.hostCpl_unexpected he hn, Block.canon_rd, Block.canon_rd]
    exact Block.aerAdv_bits ht (by decide) _
  case insecure =>
    refine State.does_of_on (fun b => if b.streamBad l.val str then b else b.hostCpl l.val f.val tag st data ep) rfl ?_
    rw [hs, if_pos rfl]
  case index =>
    refine State.does_of_on (fun b => if b.streamBad l.val str then b else b.hostCpl l.val f.val tag .sc data false) rfl ?_
    have hfr := Block.npDrop_fr s.blk f.val t.id (Nat.and_self _) (Nat.and_self _) (Fr.refl ..)
    have hl1 : (s.blk.npDrop f.val t.id).loom.stopped = false := by
      rw [show _ = _ from hfr.part .loom rfl]
      exact hl
    have hq1 : (s.blk.npDrop f.val t.id).qDead (q / 32) (q % 32) = false := by
      rw [Block.qDead, hfr.reg .qState _ _ rfl]
      exact hq
    rw [hs, if_neg (by decide), Block.canon_qu, hlink, Block.hostCpl_index he hf hst ho hlen]
    exact Block.npGood_index ho hl1 hq1 _
  case cto =>
    exact State.does_of_on (·.cplTimeout f.val tag) rfl (Block.canon_qHalted (Block.cplTimeout_index hl ho hq hst hf))
  case fetch =>
    exact State.does_of_on (·.fetchTmo f.val tag) rfl (Block.canon_qHalted (Block.fetchTmo_index hl ho hq hst hf))
  case free =>
    refine State.does_of_on (·.tagFree f.val tag) rfl ?_
    rw [Block.canon_fn, Block.tagFree, hf]
    exact Block.npDrop_gone s.blk f.val t.id

end Sys2Proof.Machine
end

section
/-! PROOFS. Local-master requests of a design: their arrival, their windows and rights, and FLUSH (O51). -/
namespace Sys2Proof.Machine

/-- The XLB record of a port when its request m has been answered. -/
def XlbDyn.answered (m : LmReq) (code cause : Nat) (x : XlbDyn) : XlbDyn :=
  { x with
    lms := x.lms.filter (fun y => y.arr != m.arr)
    wrs := if m.op == 2 || m.op == 3 then x.wrs ++ [⟨m.arr, m.f, code, cause⟩] else x.wrs }

namespace Block

/-! ### What sending on a Tether port leaves as it is for a local-master request -/

namespace Tether
variable {a b : Block} (h : Tether a b)
include h

theorem actLink (f : Nat) : b.actLink f = a.actLink f := h.rd (by decide) f 0
theorem fnRecs : b.fnRecs = a.fnRecs := by rw [Block.fnRecs, h.img, Block.fnRecs]
theorem fnRec? (f : Nat) : b.fnRec? f = a.fnRec? f := by rw [Block.fnRec?, h.fnRecs, Block.fnRec?]
theorem actSet (f : Nat) : b.actSet f = a.actSet f := by rw [Block.actSet, h.fnRec?, h.actLink, Block.actSet]
theorem ctlOf (f : Nat) : b.ctlOf f = a.ctlOf f := by rw [Block.ctlOf, h.fnRec?, Block.ctlOf]
theorem mps (f : Nat) : b.mps f = a.mps f := by rw [Block.mps, h.ctlOf, h.actSet, h.rd (by decide), Block.mps]
theorem mrrs (f : Nat) : b.mrrs f = a.mrrs f := by rw [Block.mrrs, h.ctlOf, h.actSet, h.rd (by decide), Block.mrrs]
theorem dlActive (l : Nat) : b.dlActive l = a.dlActive l := h.flag (by decide) l 0
theorem bme (f : Nat) : b.bme f = a.bme f := by
  rw [Block.bme, Block.d3hot, h.actSet, h.flag (by decide), h.rd (by decide), h.rd (by decide), Block.bme, Block.d3hot]
theorem tdiOn (f : Nat) : b.tdiOn f = a.tdiOn f := by rw [Block.tdiOn, h.rd (by decide), Block.tdiOn]
theorem ideReg (l j : Nat) : b.ideReg l j = a.ideReg l j := h.rd (by decide) l j
theorem streamIs (l id : Nat) (p : IdeStr → Bool) : b.streamIs l id p = a.streamIs l id p := by
  rw [Block.streamIs, h.lk, Block.streamIs]

/-- R235: the stream of a TLP is the same. -/
theorem txStream (f : Nat) (x : Option Nat) : b.txStream f x = a.txStream f x := by
  have hari : b.ariOf = a.ariOf := by
    funext r
    simp only [Block.ariOf, Block.vfNumOf, Block.vfsOf, Block.pfRec?, h.fnRec?, h.fnRecs]
    rfl
  have hrid : b.ridOf f = a.ridOf f := by rw [Block.ridOf, h.fnRec?, h.actLink, h.lk, hari, Block.ridOf]
  simp only [Block.txStream, Block.selFor, Block.selOf, Block.selOn, Block.selCovers, Block.selAdmits, hrid, h.actLink, h.ideReg,
    h.streamIs, h.tdiOn]

theorem ideCut (f : Nat) (x : Option Nat) : b.ideCut f x = a.ideCut f x := by
  simp only [Block.ideCut, h.txStream, h.streamIs, h.actLink, h.tdiOn]

theorem lmWindow (p x : Nat) : b.lmWindow p x = a.lmWindow p x := by
  simp only [Block.lmWindow, h.img, h.flag (f := .obEn) (by decide)]

/-- Table 8.1: what is refused is the same. -/
theorem lmRefuse (f m op pv host : Nat) : b.lmRefuse f m op pv host = a.lmRefuse f m op pv host := by
  simp only [Block.lmRefuse, h.actLink, h.flag (f := .obAtomics) (by decide), h.flag (f := .cfgAtomEn) (by decide), h.fn, h.lk,
    h.dlActive, h.bme, h.ideCut, h.ctlOf, h.actSet]

theorem lmBad (p op : Nat) (x : LmHdr) (asz : Nat) : b.lmBad p op x asz = a.lmBad p op x asz := by
  simp only [Block.lmBad, h.xw, h.xver]

theorem lmSize (p op : Nat) (x : LmHdr) (aop asz : Nat) : b.lmSize p op x aop asz = a.lmSize p op x aop asz := by
  simp only [Block.lmSize, h.xw]

end Tether

/-! ### Answers to the design's requests (R54, R55) -/


section answer
variable {b : Block} {p : Nat} {m : LmReq} {code cause : Nat}

/-- An answer crosses the Loom and goes to the design, where the Loom passes. -/
theorem lmAnswer_eq (hl : b.loom.stopped = false) (m : LmReq) (code cause pvec : Nat) (data : List Byte) : ∃ i,
    b.lmAnswer p m code cause pvec data =
      ((b.xMod p (XlbDyn.answered m code cause)).cross i (some (tetherPort p)) 2 data.length).respond p m.tag code cause pvec data := by
  unfold lmAnswer
  extract_lets b1
  have hl1 : ¬ b1.loom.stopped = true := by
    rw [show b1.loom = b.loom from rfl, hl]
    decide
  split <;> exact ⟨_, rfl⟩

theorem lmAnswer_told (hl : b.loom.stopped = false) (ha : b.active p = true) (hf : b.rspFree p) (m : LmReq) (code cause : Nat) :
    (b.lmAnswer p m code cause).told p m.tag code cause := by
  obtain ⟨i, heq⟩ := lmAnswer_eq (p := p) hl m code cause 0 []
  rw [heq]
  refine told_of_respond (by exact ha) ?_ m.tag code cause
  rw [rspFree, cross_x, xMod_x_self]
  exact hf

theorem lmAnswer_lms (hl : b.loom.stopped = false) (m : LmReq) (code cause : Nat) :
    ((b.lmAnswer p m code cause).x p).lms = (b.x p).lms.filter (fun y => y.arr != m.arr) := by
  obtain ⟨i, heq⟩ := lmAnswer_eq (p := p) hl m code cause 0 []
  rw [heq, respond_lms, cross_x, xMod_x_self, XlbDyn.answered]

theorem lmAnswer_wrs (hl : b.loom.stopped = false) (m : LmReq) (code cause : Nat) : ((b.lmAnswer p m code cause).x p).wrs =
    if m.op == 2 || m.op == 3 then (b.x p).wrs ++ [⟨m.arr, m.f, code, cause⟩] else (b.x p).wrs := by
  obtain ⟨i, heq⟩ := lmAnswer_eq (p := p) hl m code cause 0 []
  rw [heq, respond_wrs, cross_x, xMod_x_self, XlbDyn.answered]

/-- An answered request is gone. -/
theorem lmAnswer_lm? (hl : b.loom.stopped = false) (m : LmReq) (code cause : Nat) : (b.lmAnswer p m code cause).lm? p m.arr = none := by
  rw [lm?, lmAnswer_lms hl, List.find?_eq_none]
  intro y hy
  simpa using (List.mem_filter.1 hy).2

end answer

/-! ### Arrival (R52, R53) -/

section arrive
variable {b : Block} {p op aop asz : Nat} {h : LmHdr}

theorem lmTake_x (b : Block) (p n : Nat) : ∃ oh od,
    (b.lmTake p n).x p = { b.x p with arr := (b.x p).arr + 1, oweH := oh, oweD := od } := by
  unfold lmTake retReq
  dsimp only
  split
  · rw [xMod_x_self, xMod_x_self]
    exact ⟨_, _, rfl⟩
  · split <;> simp only [xsend_x, xMod_x_self] <;> exact ⟨_, _, rfl⟩

theorem lmTake_rspFree (hf : b.rspFree p) (n : Nat) : (b.lmTake p n).rspFree p := by
  obtain ⟨oh, od, hx⟩ := lmTake_x b p n
  rw [rspFree, hx]
  exact hf

/-- The request of a header as it is taken into the buffers. -/
def lmArrival (b : Block) (p op : Nat) (h : LmHdr) (aop asz : Nat) : LmReq :=
  ⟨(b.x p).arr, h.tag.toNat, op, 512, 0, h.addr.toNat, 0, lmLen h, b.xw p, h.data, if h.masked then h.mask else [],
    h.pvec.toNat, aop, asz, false, none, false, .arrived, 0, [], 0, []⟩

/-- A FLUSH as it is taken into the buffers. -/
def flushArrival (arr tag : Nat) : LmReq :=
  ⟨arr, tag, 5, 0, 0, 0, 0, 0, 4, [], [], 0, 0, 0, false, none, false, .issued, 0, [], 0, []⟩

/-- A request that is taken and not refused for its form goes on by its opcode. -/
theorem lmArrive_taken (ht : b.lmTakes p op h aop asz = true) : ∃ n, b.lmArrive p op h aop asz =
    if op == 0 then (b.lmTake p n).respond p h.tag.toNat 0 0
    else if op == 5 then (b.lmTake p n).xMod p (fun x => { x with lms := x.lms ++ [flushArrival (b.x p).arr h.tag.toNat] })
    else ((b.lmTake p n).xMod p (fun x => { x with lms := x.lms ++ [b.lmArrival p op h aop asz] })).lmPump p := by
  simp only [lmTakes, Bool.and_eq_true, Bool.not_eq_true', bne_iff_ne, ne_eq, decide_eq_true_eq] at ht
  obtain ⟨⟨⟨⟨⟨⟨⟨hact, hcaps⟩, hshut⟩, hreqh⟩, hreqd⟩, hout⟩, hbad⟩, hsize⟩ := ht
  have hT := tether_lmTake b p (b.lmSlots p op h aop asz)
  have hmany : ((b.x p).dReqh == 0 || decide ((b.x p).dReqd < b.lmSlots p op h aop asz) || decide (b.localOut p ≥ b.xlimit p)) = false := by
    simp only [Bool.or_eq_false_iff, beq_eq_false_iff_ne, ne_eq, decide_eq_false_iff_not]
    exact ⟨⟨hreqh, by omega⟩, by omega⟩
  refine ⟨b.lmSlots p op h aop asz, ?_⟩
  simp only [lmArrive, hact, hcaps, hmany, Bool.not_true, Bool.or_self, Bool.false_eq_true, if_false, hT.lmBad, hbad, hT.lmSize, hsize,
    Bool.and_false, hT.shut, hshut, hT.xw]
  rfl

end arrive

/-! ### The next request in turn (R115, R127) -/

section turn
variable {b : Block} {p : Nat} {m : LmReq} {l : List LmReq}

/-- The newest record is found by its arrival number. -/
theorem lm?_newest (hx : (b.x p).lms = l ++ [m]) (hl : ∀ y ∈ l, y.arr ≠ m.arr) : b.lm? p m.arr = some m := by
  have hnone : l.find? (fun y => y.arr == m.arr) = none := List.find?_eq_none.2 fun y hy => by simpa using hl y hy
  rw [lm?, hx, List.find?_append, hnone]
  simp

/-- Where every earlier request has been issued, only the newest takes its turn. -/
theorem lmPump_next (hs : b.loom.stopped = false) (hx : (b.x p).lms = l ++ [m]) (hph : m.ph = .arrived)
    (hl : ∀ y ∈ l, y.ph = .issued ∨ ∃ c d, y.ph = .failing c d) : b.lmPump p = b.lmTurn p m.arr := by
  have hnone : l.filter (fun y => y.ph == LmPh.arrived || y.ph == LmPh.queued) = [] := List.filter_eq_nil_iff.2 fun y hy => by
    rcases hl y hy with h | ⟨c, d, h⟩ <;> simp [h]
  rw [lmPump, if_neg (by simp [hs]), hx, List.filter_append, hnone]
  simp [hph, each]

/-- A request that is answered when it is decoded takes no further turn. -/
theorem lmTurn_answered (hm : b.lm? p m.arr = some m) (hph : m.ph = .arrived) (hgone : (b.lmDecode p m).lm? p m.arr = none) :
    b.lmTurn p m.arr = b.lmDecode p m := by
  unfold lmTurn
  rw [hm]
  dsimp only
  rw [if_pos (by simp [hph]), hgone]

end turn

section next
variable {a : Block} {p op aop asz : Nat} {h : LmHdr}

/-- The next request of a design with no other ahead of it is taken and has its turn. -/
theorem lmArrive_next (ht : a.lmTakes p op h aop asz = true) (h0 : op ≠ 0) (h5 : op ≠ 5) (hn : a.lmNext p) :
    ∃ c : Block, a.lmArrive p op h aop asz = c.lmTurn p (a.x p).arr ∧ Tether a c ∧ (c.x p).lms = (a.x p).lms ++ [a.lmArrival p op h aop asz] ∧
      (c.x p).wrs = (a.x p).wrs ∧ (a.rspFree p → c.rspFree p) ∧ c.lm? p (a.x p).arr = some (a.lmArrival p op h aop asz) := by
  obtain ⟨hl, hold⟩ := hn
  obtain ⟨n, harr⟩ := lmArrive_taken ht
  obtain ⟨oh, od, hx⟩ := lmTake_x a p n
  have hT := tether_lmTake a p n
  have hlms : (((a.lmTake p n).xMod p (fun x => { x with lms := x.lms ++ [a.lmArrival p op h aop asz] })).x p).lms =
      (a.x p).lms ++ [a.lmArrival p op h aop asz] := by rw [xMod_x_self, hx]
  refine ⟨(a.lmTake p n).xMod p (fun x => { x with lms := x.lms ++ [a.lmArrival p op h aop asz] }), ?_, hT.trans (tether_xMod ..), hlms, ?_,
    fun hf => ?_, lm?_newest hlms fun y hy => (hold y hy).1⟩
  · rw [harr, if_neg (by simpa using h0), if_neg (by simpa using h5)]
    exact lmPump_next (by exact hT.loom ▸ hl) hlms rfl fun y hy => (hold y hy).2
  · rw [xMod_x_self, hx]
  · rw [rspFree, xMod_x_self]
    exact lmTake_rspFree hf n

theorem lmTakes_active (ht : a.lmTakes p op h aop asz = true) : a.active p = true := by
  simp only [lmTakes, Bool.and_eq_true] at ht
  exact ht.1.1.1.1.1.1.1

/-- R127: a request that no window decodes is answered NOTARGET. -/
theorem lmArrive_noWindow (ht : a.lmTakes p op h aop asz = true) (h0 : op ≠ 0) (h5 : op ≠ 5) (hn : a.lmNext p) (hf : a.rspFree p)
    (hw : a.lmWindow p h.addr.toNat = none) : (a.lmArrive p op h aop asz).told p h.tag.toNat 3 0 := by
  obtain ⟨c, heq, hT, -, -, hfree, hm⟩ := lmArrive_next ht h0 h5 hn
  have hl : c.loom.stopped = false := hT.loom ▸ hn.1
  have hdec : c.lmDecode p (a.lmArrival p op h aop asz) = c.lmAnswer p (a.lmArrival p op h aop asz) 3 0 := by
    rw [lmDecode, show (a.lmArrival p op h aop asz).a = h.addr.toNat from rfl, hT.lmWindow, hw]
  have hturn : c.lmTurn p (a.x p).arr = c.lmDecode p (a.lmArrival p op h aop asz) :=
    lmTurn_answered (m := a.lmArrival p op h aop asz) hm rfl (by rw [hdec]; exact lmAnswer_lm? hl _ _ _)
  rw [heq, hturn, hdec]
  exact lmAnswer_told hl ((hT.active p).trans (lmTakes_active ht)) (hfree hf) (a.lmArrival p op h aop asz) 3 0

/-- What decoding reads is the same, for the request as it was taken. -/
theorem lmDecode_reads {c : Block} (hT : Tether a c) {w : ObWin} (hw : a.lmWindow p h.addr.toNat = some w)
    {r : Option (Nat × Nat × Bool)} (hr : a.lmRefuse w.owner w.m op h.pvec.toNat (a.lmOf p op h aop asz w).host = r) :
    c.lmWindow p (a.lmArrival p op h aop asz).a = some w ∧
    (∀ i o cls n, (c.cross i o cls n).lmRefuse w.owner w.m op h.pvec.toNat
      (c.rd .obHostBase w.owner w.m * 4096 + (h.addr.toNat - w.base)) = r) ∧
    { a.lmArrival p op h aop asz with
      f := w.owner, link := c.actLink w.owner, host := c.rd .obHostBase w.owner w.m * 4096 + (h.addr.toNat - w.base), ph := .queued
      xl := c.flag .obTranslated w.owner w.m
      pasid := if c.flag .obPasidEn w.owner w.m then some (c.rd .obPasid w.owner w.m) else none
      ns := c.flag .obNoSnoop w.owner w.m && c.flag .cfgNoSnoopEn (c.ctlOf w.owner) (c.actSet w.owner) } = a.lmOf p op h aop asz w := by
  refine ⟨(hT.lmWindow ..).trans hw, fun i o cls n => ?_, ?_⟩
  · rw [(hT.trans (tether_cross c i o cls n)).lmRefuse, hT.rd (by decide)]
    exact hr
  · simp only [lmOf, lmArrival, hT.actLink, hT.rd (f := .obHostBase) (by decide), hT.rd (f := .obPasid) (by decide),
      hT.flag (f := .obTranslated) (by decide), hT.flag (f := .obPasidEn) (by decide), hT.flag (f := .obNoSnoop) (by decide),
      hT.flag (f := .cfgNoSnoopEn) (by decide), hT.ctlOf, hT.actSet]

/-- R127: a request that its window refuses is answered from the Stall die. -/
theorem lmDecode_refused {c : Block} (hT : Tether a c) {w : ObWin} (hw : a.lmWindow p h.addr.toNat = some w) {code cause : Nat}
    (hr : a.lmRefuse w.owner w.m op h.pvec.toNat (a.lmOf p op h aop asz w).host = some (code, cause, false)) : ∃ i o cls n,
      c.lmDecode p (a.lmArrival p op h aop asz) = (c.cross i o cls n).lmAnswer p (a.lmOf p op h aop asz w) code cause := by
  obtain ⟨hwin, href, hof⟩ := lmDecode_reads hT hw hr
  refine ⟨some (tetherPort p), some (linkPort (c.actLink w.owner)), if op == 2 || op == 3 then 0 else 1, h.data.length, ?_⟩
  unfold lmDecode
  rw [hwin]
  dsimp only [lmArrival] at hof ⊢
  rw [href, hof]
  rfl

/-- R127: a request that its window allows waits for its turn on its link. -/
theorem lmDecode_allowed {c : Block} (hT : Tether a c) {w : ObWin} (hw : a.lmWindow p h.addr.toNat = some w)
    (hr : a.lmRefuse w.owner w.m op h.pvec.toNat (a.lmOf p op h aop asz w).host = none) : ∃ i o cls n,
      c.lmDecode p (a.lmArrival p op h aop asz) = (c.cross i o cls n).lmMod p (a.x p).arr (fun _ => a.lmOf p op h aop asz w) := by
  obtain ⟨hwin, href, hof⟩ := lmDecode_reads hT hw hr
  refine ⟨some (tetherPort p), some (linkPort (c.actLink w.owner)), if op == 2 || op == 3 then 0 else 1, h.data.length, ?_⟩
  unfold lmDecode
  rw [hwin]
  dsimp only [lmArrival] at hof ⊢
  rw [href, hof]
  rfl

/-- Table 8.1: a request that its window refuses is answered with the code and the cause of the refusal. -/
theorem lmArrive_refused (ht : a.lmTakes p op h aop asz = true) (h0 : op ≠ 0) (h5 : op ≠ 5) (hn : a.lmNext p) (hf : a.rspFree p) {w : ObWin}
    (hw : a.lmWindow p h.addr.toNat = some w) {code cause : Nat}
    (hr : a.lmRefuse w.owner w.m op h.pvec.toNat (a.lmOf p op h aop asz w).host = some (code, cause, false)) :
    (a.lmArrive p op h aop asz).told p h.tag.toNat code cause ∧ ((a.lmArrive p op h aop asz).x p).wrs =
      if op == 2 || op == 3 then (a.x p).wrs ++ [⟨(a.x p).arr, w.owner, code, cause⟩] else (a.x p).wrs := by
  obtain ⟨c, heq, hT, -, hwrs, hfree, hm⟩ := lmArrive_next ht h0 h5 hn
  obtain ⟨i, o, cls, n, hdec⟩ := lmDecode_refused hT hw hr
  have hl : (c.cross i o cls n).loom.stopped = false := (hT.trans (tether_cross ..)).loom ▸ hn.1
  have hturn : c.lmTurn p (a.x p).arr = c.lmDecode p (a.lmArrival p op h aop asz) :=
    lmTurn_answered (m := a.lmArrival p op h aop asz) hm rfl (by rw [hdec]; exact lmAnswer_lm? hl (a.lmOf p op h aop asz w) _ _)
  rw [heq, hturn, hdec, lmAnswer_wrs hl, cross_x, hwrs]
  exact ⟨lmAnswer_told hl ((hT.active p).trans (lmTakes_active ht)) (hfree hf) (a.lmOf p op h aop asz w) code cause, rfl⟩

end next

/-! ### New non-posted requests of the functions -/

section addNp
variable {b : Block} {f : Nat} {own : HOwner} {addr len : Nat} {ent : Option Nat} {xl : Bool} {pasid : Option Nat} {ns : Bool}
  {ops : List Byte} {aop : Nat}

/-- A new request of f is put behind those it has; sending it changes none of them. -/
theorem addNp_sends (b : Block) (f : Nat) (own : HOwner) (addr len : Nat) (ent : Option Nat) (xl : Bool) (pasid : Option Nat) (ns : Bool)
    (ops : List Byte) (aop : Nat) : ∃ (c : Block) (t : HTag), SameNp c (b.addNp f own addr len ent xl pasid ns ops aop) ∧
      (∀ u, u ≠ f → (c.fn u).np = (b.fn u).np) ∧ (c.fn f).np = (b.fn f).np ++ [t] ∧
      t.own = own ∧ t.addr = addr ∧ t.len = len ∧ t.ops = ops ∧ t.aop = aop := by
  unfold addNp
  extract_lets id from? t b1
  have hself : (b1.fn f).np = (b.fn f).np ++ [t] := by simp [b1]
  have hother : ∀ u, u ≠ f → (b1.fn u).np = (b.fn u).np := fun u hu => by simp only [b1, fnMod_fn_ne _ hu, newId_fn]
  refine ⟨b1, t, ?_, hother, hself, rfl, rfl, rfl, rfl, rfl⟩
  split
  · exact .refl b1
  · refine SameNp.trans (.of_fn fun u => ?_) (sameNp_sendNp _ f id)
    obtain hnone | ⟨i, hsome⟩ := Option.eq_none_or_eq_some from?
    · rw [hnone]
    · rw [hsome]
      rfl

/-- A function asks for what it has asked for. -/
theorem addNp_asks : (b.addNp f own addr len ent xl pasid ns ops aop).asks f own addr len ops aop := by
  obtain ⟨c, t, hsame, -, hnp, ht⟩ := addNp_sends b f own addr len ent xl pasid ns ops aop
  exact hsame.asks ⟨t, hnp ▸ List.mem_append_right _ (List.mem_singleton_self t), ht⟩

/-- What has been asked for before stays so. -/
theorem addNp_asks_mono {f' : Nat} {own' : HOwner} {addr' len' : Nat} {ops' : List Byte} {aop' : Nat} (h : b.asks f' own' addr' len' ops' aop') :
    (b.addNp f own addr len ent xl pasid ns ops aop).asks f' own' addr' len' ops' aop' := by
  obtain ⟨c, t, hsame, hother, hnp, -⟩ := addNp_sends b f own addr len ent xl pasid ns ops aop
  obtain ⟨u, hu, hprops⟩ := h
  refine hsame.asks ⟨u, ?_, hprops⟩
  by_cases hf : f' = f
  · subst hf
    rw [hnp]
    exact List.mem_append_left _ hu
  · rwa [hother f' hf]

@[simp] theorem addNp_x (b : Block) (f : Nat) (own : HOwner) (addr len : Nat) (ent : Option Nat) (xl : Bool) (pasid : Option Nat) (ns : Bool)
    (ops : List Byte) (aop q : Nat) : (b.addNp f own addr len ent xl pasid ns ops aop).x q = b.x q :=
  (addNp_fr b f own addr len ent xl pasid ns ops aop (Nat.and_self _) (Nat.and_self _) (Fr.refl ..)).part .xlb rfl q

end addNp

/-! ### FLUSH (R55) -/

section flush
variable {b : Block} {p : Nat} {m : LmReq}

/-- The writes that the FLUSH of arrival arr covers are forgotten: it is about to be answered. -/
def flushed (b : Block) (p arr : Nat) : Block := b.xMod p (fun x => { x with wrs := x.wrs.filter (fun w => !(w.arr < arr)) })

theorem flushStep_clean (hm : (b.x p).lms.find? (fun m => m.op == 5) = some m) (ho : b.flushOpen p m.arr = false) (hph : m.ph = .issued)
    (hw : (b.x p).wrs = []) (hz : m.zfns = []) : b.flushStep p = (b.flushed p m.arr).lmAnswer p m 0 0 := by
  simp [flushStep, hm, ho, hph, hw, hz, flushed]

theorem flushStep_failed (hm : (b.x p).lms.find? (fun m => m.op == 5) = some m) (ho : b.flushOpen p m.arr = false) {w : LmWr}
    (hw : (b.x p).wrs = [w]) (hlt : w.arr < m.arr) (hc : w.code = 2) : b.flushStep p = (b.flushed p m.arr).lmAnswer p m 2 w.cause := by
  simp [flushStep, hm, ho, hw, hlt, hc, flushed, optD]

theorem flushStep_reads (hm : (b.x p).lms.find? (fun m => m.op == 5) = some m) (ho : b.flushOpen p m.arr = false) (hph : m.ph = .issued)
    {w : LmWr} (hw : (b.x p).wrs = [w]) (hlt : w.arr < m.arr) (hc : w.code = 0) (hleft : m.left = 0) (hflr : (b.fn w.f).flr = none)
    (hbme : b.bme w.f = true) :
    b.flushStep p = (b.lmMod p m.arr (fun y => { y with left := 1, zfns := [w.f] })).addNp w.f (.flushZlr p m.arr) 0 0 := by
  simp [flushStep, hm, ho, hph, hw, hlt, hc, hleft, hflr, hbme, each]

/-- A record that is changed is in the list in its new form. -/
theorem lmMod_mem {arr : Nat} {g : LmReq → LmReq} (hm : m ∈ (b.x p).lms) (ha : m.arr = arr) : g m ∈ ((b.lmMod p arr g).x p).lms := by
  rw [lmMod, xMod_x_self]
  exact List.mem_map.2 ⟨m, hm, by simp [ha]⟩

theorem flushed_answer (hs : b.loom.stopped = false) (ha : b.active p = true) (hf : b.rspFree p) (m : LmReq) (code cause : Nat) :
    ((b.flushed p m.arr).lmAnswer p m code cause).told p m.tag code cause := by
  refine lmAnswer_told (by exact hs) (by exact ha) ?_ m code cause
  rw [flushed, rspFree, xMod_x_self]
  exact hf

end flush

end Block
section commands
variable {s : State} {p : PortIx} {h : LmHdr}

/-- Commands of the design's requests, by opcode. -/
theorem State.does_lmArrive {i : Instr} {op aop asz : Nat} {P : Block → Prop} (hi : exec i s = s.on (·.lmArrive p.val op h aop asz))
    (hp : P (s.blk.lmArrive p.val op h aop asz).canon) : s.does i P := State.does_of_on _ hi hp

theorem Block.canon_told {b : Block} {q tag code cause : Nat} (h : b.told q tag code cause) : b.canon.told q tag code cause := by
  rwa [Block.told, Block.handed, Block.canon_tt]

theorem Block.canon_asks {b : Block} {f : Nat} {own : HOwner} {addr len : Nat} {ops : List Byte} {aop : Nat}
    (h : b.asks f own addr len ops aop) : b.canon.asks f own addr len ops aop := by
  rwa [Block.asks, Block.canon_fn]

/-- R127: NOTARGET of a request, whatever its opcode. -/
theorem State.does_noWindow {i : Instr} {op aop asz : Nat} (hi : exec i s = s.on (·.lmArrive p.val op h aop asz)) (h0 : op ≠ 0) (h5 : op ≠ 5)
    (hn : s.blk.lmNext p.val) (hf : s.blk.rspFree p.val) (hw : s.blk.lmWindow p.val h.addr.toNat = none)
    (ht : s.blk.lmTakes p.val op h aop asz = true) : s.does i fun b => b.told p.val h.tag.toNat 3 0 :=
  State.does_lmArrive hi (Block.canon_told (Block.lmArrive_noWindow ht h0 h5 hn hf hw))

end commands

/-- Settles O51: the requests by their opcodes, then FLUSH by what it covers. -/
theorem localMasterAndFlush : Obligations.LocalMasterAndFlush := by
  unfold Obligations.LocalMasterAndFlush
  refine ⟨fun s p h hf => ⟨fun ht => ?nop, fun ht => ?flush, fun hw hn => ?noWindow,
    fun w code cause hw hn => ⟨fun ht hr => ?rd, fun ht hr => ?wr⟩⟩,
    fun s p m ha hl hm ho hph => ⟨fun hw hz hf => ?clean, fun w hw hlt hc hf => ?failed, fun w hw hlt hc hleft hflr hbme => ?reads⟩⟩
  case nop =>
    obtain ⟨n, harr⟩ := Block.lmArrive_taken ht
    refine State.does_lmArrive rfl (Block.canon_told ?_)
    rw [harr, if_pos (by decide)]
    exact Block.told_of_respond (((Block.tether_lmTake ..).active _).trans (Block.lmTakes_active ht)) (Block.lmTake_rspFree hf n) _ _ _
  case flush =>
    obtain ⟨n, harr⟩ := Block.lmArrive_taken ht
    refine State.does_lmArrive rfl ?_
    rw [Block.canon_x, harr, if_neg (by decide), if_pos (by decide), Block.xMod_x_self]
    exact ⟨_, List.mem_append_right _ (List.mem_singleton_self _), rfl, rfl, rfl⟩
  case noWindow =>
    exact ⟨State.does_noWindow rfl (by decide) (by decide) hn hf hw, State.does_noWindow rfl (by decide) (by decide) hn hf hw,
      State.does_noWindow rfl (by decide) (by decide) hn hf hw, fun op sz => State.does_noWindow rfl (by decide) (by decide) hn hf hw⟩
  case rd =>
    exact State.does_lmArrive rfl (Block.canon_told (Block.lmArrive_refused ht (by decide) (by decide) hn hf hw hr).1)
  case wr =>
    obtain ⟨htold, hwrs⟩ := Block.lmArrive_refused ht (by decide) (by decide) hn hf hw hr
    refine State.does_lmArrive rfl ⟨Block.canon_told htold, ?_⟩
    rw [Block.canon_x, hwrs, if_pos (by decide)]
    exact ⟨_, List.mem_append_right _ (List.mem_singleton_self _), rfl, rfl, rfl⟩
  case clean =>
    refine State.does_of_on (·.flushStep p.val) rfl ?_
    rw [Block.flushStep_clean hm ho hph hw hz]
    refine ⟨Block.canon_told (Block.flushed_answer hl ha hf m 0 0), fun y hy => ?_⟩
    rw [Block.canon_x, Block.lmAnswer_lms (by exact hl)] at hy
    simpa using (List.mem_filter.1 hy).2
  case failed =>
    have hop : m.op = 5 := by simpa using List.find?_some hm
    refine State.does_of_on (·.flushStep p.val) rfl ?_
    rw [Block.flushStep_failed hm ho hw hlt hc]
    refine ⟨Block.canon_told (Block.flushed_answer hl ha hf m 2 w.cause), ?_⟩
    rw [Block.canon_x, Block.lmAnswer_wrs (by exact hl), if_neg (by simp [hop]), Block.flushed, Block.xMod_x_self, hw]
    simp [hlt]
  case reads =>
    refine State.does_of_on (·.flushStep p.val) rfl ?_
    rw [Block.flushStep_reads hm ho hph hw hlt hc hleft hflr hbme]
    refine ⟨Block.canon_asks Block.addNp_asks, ?_⟩
    rw [Block.canon_x, Block.addNp_x]
    exact Block.lmMod_mem (List.mem_of_find?_eq_some hm) rfl

end Sys2Proof.Machine
end

section
/-! PROOFS. Local-master requests that are issued on the host link (O52). -/
namespace Sys2Proof.Machine
namespace Block

/-! ### Memory Writes on a link stay there until they are acknowledged -/

/-- Every Memory Write that is on a link in a is on it in b. -/
structure PostedKept (a b : Block) : Prop where
  sub : ∀ l, (a.lk l).posted ⊆ (b.lk l).posted

namespace PostedKept
variable {a b c : Block}

theorem refl (a : Block) : PostedKept a a := ⟨fun _ _ h => h⟩
theorem trans (h : PostedKept a b) (k : PostedKept b c) : PostedKept a c := ⟨fun l _ hx => k.sub l (h.sub l hx)⟩
theorem of_lk (h : ∀ l, b.lk l = a.lk l) : PostedKept a b := ⟨fun l _ hx => by rwa [h l]⟩

theorem lkMod {l : Nat} {g : LinkDyn → LinkDyn} (hg : ∀ k : LinkDyn, k.posted ⊆ (g k).posted) : PostedKept b (b.lkMod l g) := by
  refine ⟨fun u x hx => ?_⟩
  by_cases hu : u = l
  · subst hu
    rw [lkMod_lk_self]
    exact hg _ hx
  · rwa [lkMod_lk_ne _ hu]

theorem onLink (h : PostedKept a b) {l : Nat} {w : PWr} (hw : a.onLink l w) : b.onLink l w := by
  obtain ⟨v, hv⟩ := hw
  exact ⟨v, h.sub l hv⟩

end PostedKept

section posted
variable (b : Block)

theorem recovery_kept (l : Nat) : PostedKept b (b.recovery l) := by
  unfold recovery
  refine .trans (.of_lk fun u => ?_) (.lkMod fun _ _ h => h)
  rw [incSat_lk, wr_lk]

theorem l1Exit_kept (l : Nat) : PostedKept b (b.l1Exit l) := by
  unfold l1Exit
  split
  · exact .refl b
  · split
    · exact .of_lk fun u => (holdBack_fr b _ (Nat.and_self _) (Nat.and_self _) (Fr.refl ..)).part .links rfl u
    · extract_lets b1
      have h1 : PostedKept b (b1.wr .lnkL1sub l 0 0) := by
        refine .of_lk fun u => ?_
        simp only [b1, wr_lk]
        split
        · rw [grMod_lk]
          exact (clkreqOn_fr b (l / 4) (Nat.and_self _) (Nat.and_self _) (Fr.refl ..)).part .links rfl u
        · rfl
      have h2 : PostedKept b ((b1.wr .lnkL1sub l 0 0).lkMod l (fun k => { k with l1ask := false })) := h1.trans (.lkMod fun _ _ h => h)
      exact h2.trans (recovery_kept _ l)

theorem sendNp_kept (f id : Nat) : PostedKept b (b.sendNp f id) := by
  unfold sendNp
  extract_lets l np
  split
  · exact .refl b
  · split
    · exact .refl b
    · split
      · split
        · exact .refl b
        · exact .of_lk fun _ => rfl
      · split
        · exact l1Exit_kept b l
        · exact .refl b

theorem addNp_kept (f : Nat) (own : HOwner) (addr len : Nat) (ent : Option Nat) (xl : Bool) (pasid : Option Nat) (ns : Bool)
    (ops : List Byte) (aop : Nat) : PostedKept b (b.addNp f own addr len ent xl pasid ns ops aop) := by
  unfold addNp
  extract_lets id from? t b1
  split
  · exact .of_lk fun _ => rfl
  · refine .trans (.of_lk fun u => ?_) (sendNp_kept _ f id)
    obtain hnone | ⟨i, hsome⟩ := Option.eq_none_or_eq_some from?
    · rw [hnone]
      rfl
    · rw [hsome]
      rfl

theorem postAt_kept (l : Nat) (w : PWr) : PostedKept b (b.postAt l w) := by
  unfold postAt
  have hadd : ∀ v : PWr, PostedKept b (b.lkMod l (fun k => { k with posted := k.posted ++ [v] })) := fun v =>
    .lkMod fun _ => List.subset_append_left _ _
  split
  · exact (hadd _).trans (.of_lk fun _ => rfl)
  · extract_lets b1
    split
    · exact (hadd _).trans (l1Exit_kept ..)
    · exact hadd _

/-- A Memory Write at its Stall die is on the link, sent or waiting. -/
theorem postAt_onLink (l : Nat) (w : PWr) : (b.postAt l w).onLink l w := by
  have hadd : ∀ v : Bool, (b.lkMod l (fun k => { k with posted := k.posted ++ [{ w with sent := v }] })).onLink l w := fun v =>
    ⟨v, by rw [lkMod_lk_self]; exact List.mem_append_right _ (List.mem_singleton_self _)⟩
  unfold postAt
  split
  · exact hadd true
  · extract_lets b1
    split
    · exact (l1Exit_kept ..).onLink (hadd false)
    · exact hadd false

/-- The Memory Writes of a local-master request are formed at the Stall die: they cross nothing. -/
theorem post_lm {w : PWr} {p arr : Nat} (hw : w.own = .lm p arr) (l : Nat) : b.post l w = b.postAt l w := by
  have hfrom : b.wFrom w.own = none := by rw [hw, wFrom]
  rw [post, hfrom]

/-- All Memory Writes of a local-master request come to the link. -/
theorem each_post_onLink {p arr l : Nat} {ws : List PWr} (hws : ∀ w ∈ ws, w.own = .lm p arr) :
    PostedKept b (b.each ws (fun b w => b.post l w)) ∧ ∀ w ∈ ws, (b.each ws (fun b w => b.post l w)).onLink l w := by
  induction ws generalizing b with
  | nil => exact ⟨.refl b, fun w hw => absurd hw List.not_mem_nil⟩
  | cons w t ih =>
    have hstep : b.each (w :: t) (fun b w => b.post l w) = (b.postAt l w).each t (fun b w => b.post l w) := by
      rw [← post_lm b (hws w List.mem_cons_self) l]
      rfl
    obtain ⟨hkept, hall⟩ := ih (b.postAt l w) fun v hv => hws v (List.mem_cons_of_mem _ hv)
    rw [hstep]
    refine ⟨(postAt_kept b l w).trans hkept, fun v hv => ?_⟩
    rcases List.mem_cons.1 hv with rfl | hv
    · exact hkept.onLink (postAt_onLink b l v)
    · exact hall v hv

end posted

/-! ### Issue (R115, R125, R128) -/

section turn
variable {a : Block} {p op aop asz : Nat} {h : LmHdr} {w : ObWin}

/-- A request that waits behind nothing is issued or translated in its turn. -/
theorem lmTurn_started {b : Block} {m m1 : LmReq} {arr : Nat} (hm : b.lm? p arr = some m) (hph : m.ph = .arrived)
    (h1 : (b.lmDecode p m).lm? p arr = some m1) (hq : m1.ph = .queued) (hb : (b.lmDecode p m).lmBehind p m1 = false) :
    b.lmTurn p arr = (b.lmDecode p m).lmStart p m1 := by
  unfold lmTurn
  rw [hm]
  dsimp only
  rw [if_pos (by simp [hph]), h1]
  dsimp only
  rw [if_pos (by simp [hq, hb])]

/-- Nothing is ahead of the newest request where all earlier ones have been issued. -/
theorem lmBehind_newest {b : Block} {m : LmReq} {l : List LmReq} (hx : (b.x p).lms = l ++ [m])
    (hl : ∀ y ∈ l, y.ph = .issued ∨ ∃ c d, y.ph = .failing c d) : b.lmBehind p m = false := by
  rw [lmBehind, hx, List.any_append, Bool.or_eq_false_iff]
  constructor
  · refine List.any_eq_false.2 fun y hy => ?_
    rcases hl y hy with h | ⟨c, d, h⟩ <;> simp [h]
  · simp

/-- Changing the newest record leaves the earlier ones. -/
theorem lmMod_newest {b : Block} {m m1 : LmReq} {l : List LmReq} (hx : (b.x p).lms = l ++ [m]) (hl : ∀ y ∈ l, y.arr ≠ m.arr) :
    ((b.lmMod p m.arr (fun _ => m1)).x p).lms = l ++ [m1] := by
  have hold : mapIf (fun y : LmReq => y.arr == m.arr) (fun _ => m1) l = l :=
    (List.map_congr_left fun y hy => if_neg (by simpa using hl y hy)).trans (List.map_id' l)
  rw [lmMod, xMod_x_self]
  dsimp only
  rw [hx, mapIf, List.map_append]
  exact congrArg₂ _ hold (by simp)

/-- R115, R125: the next request of a design that its untranslated window allows is issued at the window's host address. -/
theorem lmArrive_issues (ht : a.lmTakes p op h aop asz = true) (h0 : op ≠ 0) (h5 : op ≠ 5) (hn : a.lmNext p)
    (hw : a.lmWindow p h.addr.toNat = some w) (hxl : a.flag .obTranslated w.owner w.m = false)
    (hr : a.lmRefuse w.owner w.m op h.pvec.toNat (a.lmOf p op h aop asz w).host = none) : ∃ d : Block,
      a.lmArrive p op h aop asz = d.lmIssue p (a.lmOf p op h aop asz w) (a.lmOf p op h aop asz w).host none ∧ Tether a d ∧
      a.lmOf p op h aop asz w ∈ (d.x p).lms := by
  obtain ⟨c, heq, hT, hlms, -, -, hm⟩ := lmArrive_next ht h0 h5 hn
  obtain ⟨i, o, cls, n, hdec⟩ := lmDecode_allowed hT hw hr
  have hnew : ((c.lmDecode p (a.lmArrival p op h aop asz)).x p).lms = (a.x p).lms ++ [a.lmOf p op h aop asz w] := by
    rw [hdec]
    exact lmMod_newest (b := c.cross i o cls n) (m := a.lmArrival p op h aop asz) hlms fun y hy => (hn.2 y hy).1
  have hturn := lmTurn_started hm rfl (lm?_newest (m := a.lmOf p op h aop asz w) hnew fun y hy => (hn.2 y hy).1) rfl
    (lmBehind_newest hnew fun y hy => (hn.2 y hy).2)
  refine ⟨c.lmDecode p (a.lmArrival p op h aop asz), ?_, ?_, ?_⟩
  · rw [heq, hturn, lmStart, if_pos (by rw [show (a.lmOf p op h aop asz w).xl = _ from hxl]; rfl)]
  · rw [hdec]
    exact (hT.trans (tether_cross ..)).trans (tether_xMod ..)
  · rw [hnew]
    exact List.mem_append_right _ (List.mem_singleton_self _)

end turn

section issue
variable {b : Block} {p : Nat} {m : LmReq} {host : Nat}

/-- Several requests of f: all are asked, and the XLB records stay. -/
theorem each_addNp_asks {α : Type} {f : Nat} {own : α → HOwner} {addr len : α → Nat} {ent : Option Nat} {xl : Bool} {pasid : Option Nat}
    {ns : Bool} (l : List α) (b : Block) :
    (∀ q, (b.each l (fun b x => b.addNp f (own x) (addr x) (len x) ent xl pasid ns)).x q = b.x q) ∧
    (∀ own' addr' len', b.asks f own' addr' len' [] 0 →
      (b.each l (fun b x => b.addNp f (own x) (addr x) (len x) ent xl pasid ns)).asks f own' addr' len' [] 0) ∧
    ∀ x ∈ l, (b.each l (fun b x => b.addNp f (own x) (addr x) (len x) ent xl pasid ns)).asks f (own x) (addr x) (len x) [] 0 := by
  induction l generalizing b with
  | nil => exact ⟨fun _ => rfl, fun _ _ _ h => h, fun x hx => absurd hx List.not_mem_nil⟩
  | cons y t ih =>
    obtain ⟨hx, hmono, hall⟩ := ih (b.addNp f (own y) (addr y) (len y) ent xl pasid ns)
    refine ⟨fun q => (hx q).trans (addNp_x ..), fun _ _ _ h => hmono _ _ _ (addNp_asks_mono h), fun x hxm => ?_⟩
    rcases List.mem_cons.1 hxm with rfl | hxm
    · exact hmono _ _ _ addNp_asks
    · exact hall x hxm

/-- R128: a read is issued as reads of at most Max_Read_Request_Size. -/
theorem lmIssue_rd (hm : m ∈ (b.x p).lms) (hop : m.op = 1) :
    { m with ph := .issued, left := (piecesOf (b.mrrs m.f) host m.len).length } ∈ ((b.lmIssue p m host none).x p).lms ∧
    ∀ x ∈ piecesOf (b.mrrs m.f) host m.len, (b.lmIssue p m host none).asks m.f (.lmRd p m.arr (x.1 - host)) x.1 x.2 [] 0 := by
  unfold lmIssue
  extract_lets b0 ps b1
  rw [if_pos (by simp [hop])]
  obtain ⟨hx, -, hall⟩ := each_addNp_asks (f := m.f) (own := fun x : Nat × Nat => .lmRd p m.arr (x.1 - host)) (addr := (·.1))
    (len := (·.2)) (ent := none) (xl := m.xl) (pasid := m.pasid) (ns := m.ns) ps b1
  refine ⟨?_, hall⟩
  rw [hx p]
  exact lmMod_mem (g := fun y => { y with left := ps.length }) (lmMod_mem (g := fun y => { y with ph := .issued }) hm rfl) rfl

/-- R125: an AtomicOp is issued as one, with its operands. -/
theorem lmIssue_atm (hm : m ∈ (b.x p).lms) (hop : m.op = 4) : { m with ph := .issued } ∈ ((b.lmIssue p m host none).x p).lms ∧
    (b.lmIssue p m host none).asks m.f (.lmAtm p m.arr) host m.len m.data m.aop := by
  unfold lmIssue
  extract_lets b0
  rw [if_neg (by simp [hop]), if_pos (by simp [hop])]
  refine ⟨?_, addNp_asks⟩
  rw [addNp_x]
  exact lmMod_mem (g := fun y => { y with ph := .issued }) hm rfl

/-- The Memory Writes of a local-master request are its own. -/
theorem memWrites_own {own : PwOwner} {f mps x : Nat} {cells : List (Byte × Bool × Bool)} {ent : Option Nat} {xl : Bool}
    {pasid : Option Nat} {ns : Bool} : ∀ w ∈ memWrites own f mps x cells ent xl pasid ns, w.own = own := by
  intro w hw
  obtain ⟨ds, -, rfl⟩ := List.mem_map.1 hw
  rfl

/-- R54, R128: a write is issued as Memory Writes of at most Max_Payload_Size; one with flush is followed by a zero-length read. -/
theorem lmIssue_wr (hop : m.op = 2 ∨ m.op = 3) :
    (∀ y ∈ memWrites (.lm p m.arr) m.f (b.mps m.f) host (lmCells m) none m.xl m.pasid m.ns, (b.lmIssue p m host none).onLink m.link y) ∧
    (m.op = 3 → (b.lmIssue p m host none).asks m.f (.lmZlr p m.arr) host 0 [] 0) := by
  unfold lmIssue
  extract_lets b0 ps b1 ws b2 b3 b4
  rw [if_neg (by simp; omega), if_neg (by simp; omega)]
  obtain ⟨-, hall⟩ := each_post_onLink b0 (l := m.link) (ws := ws) (p := p) (arr := m.arr) memWrites_own
  have h3 : PostedKept b2 b3 := by
    simp only [b3]
    split
    · exact .refl b2
    · exact .of_lk fun l => (logErr_fr b2 m.f _ 0 (Nat.and_self _) (Nat.and_self _) (Fr.refl ..)).part .links rfl l
  have h4 : PostedKept b3 b4 := by
    simp only [b4]
    split
    · exact .trans (b := b3.lmMod p m.arr (fun y => { y with zlr := 2 })) (.of_lk fun _ => rfl) (addNp_kept ..)
    · exact .refl b3
  have htry := tether_lmTry b4 p m.arr
  refine ⟨fun y hy => ((h3.trans h4).trans (.of_lk htry.lk)).onLink (hall y hy), fun h => ?_⟩
  have hb4 : b4.asks m.f (.lmZlr p m.arr) host 0 [] 0 := by
    simp only [b4, if_pos (show (m.op == 3) = true by simp [h])]
    exact addNp_asks
  exact (SameNp.of_fn htry.fn).asks hb4

end issue

end Block
section commands
variable {s : State} {p : PortIx} {h : LmHdr} {w : ObWin}

theorem Block.canon_onLink {b : Block} {l : Nat} {y : PWr} (hy : b.onLink l y) : b.canon.onLink l y := by
  rwa [Block.onLink, Block.canon_lk]

/-- R54, R128: what WR and WRF issue. -/
theorem Block.lmArrive_writes {a : Block} {q op : Nat} (hop : op = 2 ∨ op = 3) (hn : a.lmNext q)
    (hw : a.lmWindow q h.addr.toNat = some w) (hxl : a.flag .obTranslated w.owner w.m = false) (ht : a.lmTakes q op h 0 0 = true)
    (hr : a.lmRefuse w.owner w.m op h.pvec.toNat (a.lmOf q op h 0 0 w).host = none) :
    (∀ y ∈ memWrites (.lm q (a.lmOf q op h 0 0 w).arr) (a.lmOf q op h 0 0 w).f (a.mps w.owner) (a.lmOf q op h 0 0 w).host
      (lmCells (a.lmOf q op h 0 0 w)) none false (a.lmOf q op h 0 0 w).pasid (a.lmOf q op h 0 0 w).ns,
        (a.lmArrive q op h 0 0).onLink (a.lmOf q op h 0 0 w).link y) ∧
    (op = 3 → (a.lmArrive q op h 0 0).asks w.owner (.lmZlr q (a.lmOf q op h 0 0 w).arr) (a.lmOf q op h 0 0 w).host 0 [] 0) := by
  obtain ⟨d, heq, hT, -⟩ := Block.lmArrive_issues ht (by omega) (by omega) hn hw hxl hr
  have hissue := Block.lmIssue_wr (b := d) (p := q) (m := a.lmOf q op h 0 0 w) (host := (a.lmOf q op h 0 0 w).host) hop
  rw [hT.mps, show (a.lmOf q op h 0 0 w).xl = _ from hxl] at hissue
  rw [heq]
  exact hissue

end commands

/-- Settles O52: each request is issued as its kind is. -/
theorem localMasterIssues : Obligations.LocalMasterIssues := by
  unfold Obligations.LocalMasterIssues
  refine fun s p h w hn hw hxl => ⟨fun ht hr => ?rd, fun ht hr => ?wr, fun ht hr => ?wrf, fun op sz ht hr => ?atm⟩
  case rd =>
    obtain ⟨d, heq, hT, hm⟩ := Block.lmArrive_issues ht (by decide) (by decide) hn hw hxl hr
    obtain ⟨hmem, hall⟩ := Block.lmIssue_rd (host := (s.blk.lmOf p.val 1 h 0 0 w).host) hm rfl
    rw [hT.mrrs] at hmem hall
    refine State.does_lmArrive (op := 1) (aop := 0) (asz := 0) rfl ?_
    rw [heq, Block.canon_x]
    exact ⟨hmem, fun x hx => Block.canon_asks (hall x hx)⟩
  case wr =>
    obtain ⟨hall, -⟩ := Block.lmArrive_writes (.inl rfl) hn hw hxl ht hr
    exact State.does_lmArrive rfl fun y hy => Block.canon_onLink (hall y hy)
  case wrf =>
    obtain ⟨hall, hzlr⟩ := Block.lmArrive_writes (.inr rfl) hn hw hxl ht hr
    exact State.does_lmArrive rfl ⟨Block.canon_asks (hzlr rfl), fun y hy => Block.canon_onLink (hall y hy)⟩
  case atm =>
    obtain ⟨d, heq, hT, hm⟩ := Block.lmArrive_issues ht (by decide) (by decide) hn hw hxl hr
    obtain ⟨hmem, hask⟩ := Block.lmIssue_atm (host := (s.blk.lmOf p.val 4 h op.toNat sz.toNat w).host) hm rfl
    refine State.does_lmArrive (op := 4) (aop := op.toNat) (asz := sz.toNat) rfl ?_
    rw [heq, Block.canon_x]
    exact ⟨hmem, Block.canon_asks hask⟩

end Sys2Proof.Machine
end

section
/-! PROOFS. Host memory requests: what decode hands on, the Expansion ROM (O56), and the Function Control Page under its access rules
(O57). -/
namespace Sys2Proof.Machine

/-! ### Operands and their byte enables -/

section operands
variable {r : HReq}

theorem fillTo_zero (c : Nat) (l : List Byte) : fillTo c 0 l = [] := rfl

/-- Operands of one to 4,096 byte positions with their data are a request as they stand. -/
theorem Block.hreqFit_fits (b : Block) (hok : hreqOk r = true) {n : Nat → Nat} (hn : r.data.length = n r.en.length) :
    b.hreqFit r n = (r, b) := by
  simp only [hreqOk, Bool.and_eq_true, decide_eq_true_eq] at hok
  obtain ⟨h1, h2⟩ := hok
  have hne : r.en.isEmpty = false := by
    cases h : r.en with
    | nil => rw [h] at h1; cases h1
    | cons => rfl
  simp [Block.hreqFit, Block.takeBytes, hne, List.take_of_length_le h2, hn]

/-- A read brings no data. -/
theorem Block.hreqFit_read (b : Block) (hok : hreqOk r = true) : b.hreqFit r (fun _ => 0) = ({ r with data := [] }, b) := by
  rw [← b.hreqFit_fits (r := { r with data := [] }) (n := fun _ => 0) hok rfl]
  unfold Block.hreqFit Block.takeBytes
  split <;> simp_all [fillTo_zero]

theorem Block.hreqFit_write (b : Block) (hok : hwriteOk r = true) : b.hreqFit r (fun n => n) = (r, b) := by
  simp only [hwriteOk, Bool.and_eq_true, beq_iff_eq] at hok
  exact b.hreqFit_fits hok.1 hok.2

theorem Block.hreqFit_atomic (b : Block) {op : AtmOp} (hok : hatomicOk r op = true) :
    b.hreqFit r (fun n => if op == .cas then 2 * n else n) = (r, b) := by
  simp only [hatomicOk, Bool.and_eq_true, beq_iff_eq, Bool.or_eq_true] at hok
  obtain ⟨⟨⟨hlen, -⟩, -⟩, hdata⟩ := hok
  refine b.hreqFit_fits (n := fun n => if op == .cas then 2 * n else n) ?_ (by simpa using hdata)
  simp only [hreqOk, Bool.and_eq_true, decide_eq_true_eq]
  omega

theorem hEnabled_dword (hen : r.en = [true, true, true, true]) : hEnabled r = [0, 1, 2, 3] := by
  rw [hEnabled, hen]; rfl

theorem hSpan_dword (hen : r.en = [true, true, true, true]) : hSpan r = 4 := by
  rw [hSpan, hEnabled_dword hen]; rfl

theorem hFirst_dword (hen : r.en = [true, true, true, true]) : hFirst r = 0 := by
  rw [hFirst, hEnabled_dword hen]; rfl

theorem leBytes_dword (v : Nat) : leBytes v 4 = (List.range 4).map (fun k => BitVec.ofNat 8 (v / 256 ^ k)) := by
  simp [leBytes, List.range_succ, Nat.div_div_eq_div_mul]

end operands

namespace Block
variable {b : Block} {r : HReq} {f off : Nat} {bar : BarIx}

/-! ### Completions -/

/-- R235, R236: on a stream that has not failed a completion is sent. -/
theorem complete_good (hs : b.streamBad r.link.val r.stream = false) (st : CplSt) (data : List Byte) :
    b.complete r st data = b.emit (.cpl r.link.val r.req st data false r.stream) := by
  rw [complete, sendCpl, hs]
  rfl

/-- What leaves the links as they are leaves the streams so. -/
theorem streamBad_of_fr {m q : Nat} {a c : Block} (h : Fr m q a c) (hq : q.testBit (Part.ctorIdx .links) = false) (l : Nat)
    (s : Option Nat) : c.streamBad l s = a.streamBad l s :=
  streamBad_of_lk (funext (h.part .links hq)) l s

/-! ### Decode (R89) -/

/-- R89: what no BAR claims is an Unsupported Request where it wants a completion. -/
theorem hostMem_unclaimed (ha : b.dlActive r.link.val = true) (hs : b.streamBad r.link.val r.stream = false)
    (hd : b.decodeBar r.link.val r.addr = none) (np : Bool) (g : BarHit → Block → Block) :
    b.hostMem r np g = if np then b.complete r .ur else b := by
  simp [hostMem, ha, hs, hd]

/-- R89: a request that a BAR claims is handed on. -/
theorem hostMem_claimed (hc : b.claims r f bar off) (np : Bool) (g : BarHit → Block → Block) :
    b.hostMem r np g = g ⟨f, bar, off⟩ b := by
  obtain ⟨ha, hs, hd, ht⟩ := hc
  simp [hostMem, ha, hs, hd, ht]

theorem claims_withData (hc : b.claims r f bar off) (l : List Byte) : b.claims { r with data := l } f bar off := hc

theorem claims_streamBad (hc : b.claims r f bar off) : b.streamBad r.link.val r.stream = false := by
  obtain ⟨-, hs, -, -⟩ := hc
  exact hs

theorem hostRead_unclaimed (hok : hreqOk r = true) (ha : b.dlActive r.link.val = true)
    (hs : b.streamBad r.link.val r.stream = false) (hd : b.decodeBar r.link.val r.addr = none) :
    b.hostRead r = b.emit (.cpl r.link.val r.req .ur [] false r.stream) := by
  rw [hostRead, hreqFit_read b hok]
  exact (hostMem_unclaimed (r := { r with data := [] }) ha hs hd ..).trans (complete_good hs ..)

theorem hostAtomic_unclaimed {op : AtmOp} (hok : hatomicOk r op = true) (ha : b.dlActive r.link.val = true)
    (hs : b.streamBad r.link.val r.stream = false) (hd : b.decodeBar r.link.val r.addr = none) :
    b.hostAtomic r op = b.emit (.cpl r.link.val r.req .ur [] false r.stream) := by
  rw [hostAtomic, hreqFit_atomic b hok]
  exact (hostMem_unclaimed ha hs hd ..).trans (complete_good hs ..)

theorem hostWrite_unclaimed (hok : hwriteOk r = true) (ha : b.dlActive r.link.val = true)
    (hs : b.streamBad r.link.val r.stream = false) (hd : b.decodeBar r.link.val r.addr = none) : b.hostWrite r = b := by
  rw [hostWrite, hreqFit_write b hok]
  exact hostMem_unclaimed ha hs hd ..

/-! ### The Expansion ROM (R90) -/

theorem hostRead_rom (hok : hreqOk r = true) (hc : b.claims r f .rom off) : b.hostRead r = b.emit (.cpl r.link.val r.req .sc
    ((List.range r.en.length).map (fun k => (b.romContent f)[off + k]?.getD 0)) false r.stream) := by
  rw [hostRead, hreqFit_read b hok]
  exact (hostMem_claimed (claims_withData hc []) ..).trans (complete_good (claims_streamBad hc) ..)

theorem hostWrite_rom (hok : hwriteOk r = true) (hc : b.claims r f .rom off) : b.hostWrite r = b := by
  rw [hostWrite, hreqFit_write b hok]
  exact hostMem_claimed hc ..

/-! ### The Function Control Page (R97) -/

theorem hostRead_fcp (hok : hreqOk r = true) (hc : b.claims r f .bar0 off) :
    b.hostRead r = b.fcpReadReq { r with data := [] } f off := by
  rw [hostRead, hreqFit_read b hok]
  exact hostMem_claimed (claims_withData hc []) ..

theorem hostWrite_fcp (hok : hwriteOk r = true) (hc : b.claims r f .bar0 off) : b.hostWrite r = b.fcpWriteReq r f off := by
  rw [hostWrite, hreqFit_write b hok]
  exact hostMem_claimed hc ..

theorem hostAtomic_fcp {op : AtmOp} (hok : hatomicOk r op = true) (hc : b.claims r f .bar0 off) :
    b.hostAtomic r op = (b.fcpBad r f off 2).complete r .ca := by
  rw [hostAtomic, hreqFit_atomic b hok]
  exact hostMem_claimed hc ..

theorem fcpBad_errLogged (b : Block) (r : HReq) (f off : Nat) {detail : Nat} (hd : detail < 4) :
    b.errLogged (b.fcpBad r f off detail) f 3 detail :=
  logErr_errLogged b f _ _ (show 3 < _ by decide) (hd.trans_le (by decide))

theorem fcpBad_streamBad (b : Block) (r : HReq) (f off detail l : Nat) (s : Option Nat) :
    (b.fcpBad r f off detail).streamBad l s = b.streamBad l s :=
  streamBad_of_fr (fcpBad_fr b r f off detail (Nat.and_self _) (Nat.and_self _) (Fr.refl ..)) rfl l s

/-- R97: FCP_ACCESS of a request that wants a completion: Completer Abort, and an entry in the error log. -/
theorem fcpBad_aborts (hs : b.streamBad r.link.val r.stream = false) {detail : Nat} (hd : detail < 4) :
    .cpl r.link.val r.req .ca [] false r.stream ∈ ((b.fcpBad r f off detail).complete r .ca).out ∧
      b.errLogged ((b.fcpBad r f off detail).complete r .ca) f 3 detail := by
  refine ⟨?_, (fcpBad_errLogged b r f off hd).frame (complete_fr _ r .ca [] (Nat.and_self _) (Nat.and_self _) (Fr.refl ..)) rfl rfl rfl rfl⟩
  rw [complete_good ((fcpBad_streamBad ..).trans hs)]
  exact List.mem_cons_self

theorem fcpReadReq_zeroLength (h0 : hSpan r = 0) : b.fcpReadReq r f off = b.complete r .sc [0, 0, 0, 0] := by
  simp [fcpReadReq, h0]

theorem fcpReadReq_tooLong (h : 64 < hSpan r) : b.fcpReadReq r f off = (b.fcpBad r f off 0).complete r .ca := by
  have h0 : hSpan r ≠ 0 := by omega
  simp [fcpReadReq, h0, h]

/-- R97, R34: an aligned dword outside the queue contexts is read at once. -/
theorem fcpReadReq_dword (hen : r.en = [true, true, true, true]) (ha : off % 4 = 0) (ho : off < 0x8000 ∨ 0xC000 ≤ off) :
    b.fcpReadReq r f off = b.fcpServe r f off := by
  have hline : (off + 3) / 64 = off / 64 := by omega
  have hctx : ¬ ((decide (0x8000 ≤ off) && decide (off < 0xC000) && (b.q f ((off - 0x8000) / 512)).moving) = true) := by
    simp only [Bool.and_eq_true, decide_eq_true_eq]
    omega
  simp only [fcpReadReq, hSpan_dword hen, hFirst_dword hen, Nat.add_zero, if_neg hctx]
  simp [hline]

/-- R97: the read of an aligned dword completes with it, once its RC fields are cleared. -/
theorem fcpServe_dword (b : Block) (hen : r.en = [true, true, true, true]) (ha : off % 4 = 0) :
    ∃ c : Block, c.links = (b.fcpDword f off).2.links ∧ b.fcpServe r f off = c.complete r .sc (leBytes (b.fcpDword f off).1 4) := by
  have hlo : off / 4 * 4 = off := by omega
  have hn : (off + 4 - off + 3) / 4 = 1 := by omega
  refine ⟨{ (b.fcpDword f off).2 with freeCtr := (b.fcpDword f off).2.freeCtr + 4 }, rfl, ?_⟩
  simp only [fcpServe, hSpan_dword hen, hFirst_dword hen, Nat.add_zero, hlo, hn, fcpDwords, hen, leBytes_dword]
  congr 1
  refine List.map_congr_left fun k hk => ?_
  have hk : k < 4 := List.mem_range.1 hk
  have h1 : (off + k - off) / 4 = 0 := by omega
  have h2 : (off + k - off) % 4 = k := by omega
  rw [if_pos (by simp [hk]), h1, h2]
  rfl

theorem fcpServe_dword_out (hs : b.streamBad r.link.val r.stream = false) (hen : r.en = [true, true, true, true]) (ha : off % 4 = 0) :
    .cpl r.link.val r.req .sc (leBytes (b.fcpDword f off).1 4) false r.stream ∈ (b.fcpServe r f off).out := by
  obtain ⟨c, hlinks, heq⟩ := b.fcpServe_dword (f := f) hen ha
  have hread := fcpDword_fr b f off (Nat.and_self _) (Nat.and_self _) (Fr.refl ..)
  have hc : c.streamBad r.link.val r.stream = false := by
    rw [streamBad_of_lk (a := (b.fcpDword f off).2) (funext fun u => by rw [lk, hlinks, lk]), streamBad_of_fr hread rfl, hs]
  rw [heq, complete_good hc]
  exact List.mem_cons_self

/-- R97: a write that is not dword-aligned is refused. -/
theorem fcpWriteReq_unaligned (h0 : hSpan r ≠ 0) (ha : off % 4 ≠ 0) (ho : off < 0x10000 ∨ 0x30000 ≤ off) :
    b.fcpWriteReq r f off = b.fcpBad r f off 1 := by
  have hbell : ¬ ((decide (0x10000 ≤ off) && decide (off < 0x30000)) = true) := by
    simp only [Bool.and_eq_true, decide_eq_true_eq]
    omega
  rw [fcpWriteReq, if_neg hbell]
  simp [h0, ha]

end Block

/-! ### The commands -/

section commands
variable {s : State}

/-- A write that the block discards leaves what it has sent and every field. -/
theorem State.does_discarded (g : Block → Block) {c : Instr} (hc : exec c s = s.on g) (hg : g s.blk = s.blk) :
    s.does c fun b => b.out = s.blk.out ∧ ∀ y i j, b.rd y i j = s.blk.rd y i j :=
  State.does_of_on g hc (by rw [hg]; exact ⟨rfl, s.blk.canon_rd⟩)

/-- What has been emitted last is among what the block has sent. -/
theorem State.does_emits (g : Block → Block) {c : Instr} {o : Out} (hc : exec c s = s.on g) (hg : g s.blk = s.blk.emit o) :
    s.does c fun b => o ∈ b.out :=
  State.does_of_on g hc (by rw [hg]; exact List.mem_cons_self)

end commands

/-- Settles O56, by what decode hands on. -/
theorem unclaimedAndRom : Obligations.UnclaimedAndRom := by
  unfold Obligations.UnclaimedAndRom
  refine ⟨fun s r ha hs hd => ⟨fun hok => ?reads, fun op hok => ?atomic, fun hok => ?writes⟩,
    fun s r f off hc => ⟨fun hok => ?romRead, fun hok => ?romWrite⟩⟩
  case reads =>
    have hread := Block.hostRead_unclaimed hok ha hs hd
    exact ⟨State.does_emits (·.hostRead r) rfl hread, State.does_emits (·.hostRead r) rfl hread, State.does_emits (·.hostRead r) rfl hread⟩
  case atomic => exact State.does_emits (·.hostAtomic r op) rfl (Block.hostAtomic_unclaimed hok ha hs hd)
  case writes =>
    have hwrite := Block.hostWrite_unclaimed hok ha hs hd
    exact ⟨State.does_discarded (·.hostWrite r) rfl hwrite, State.does_discarded (·.hostWrite r) rfl hwrite⟩
  case romRead => exact State.does_emits (·.hostRead r) rfl (Block.hostRead_rom hok hc)
  case romWrite => exact State.does_discarded (·.hostWrite r) rfl (Block.hostWrite_rom hok hc)

/-- Settles O57, by the access rules of R97. -/
theorem functionControlPage : Obligations.FunctionControlPage := by
  unfold Obligations.FunctionControlPage
  intro s r f off hc
  have hs := Block.claims_streamBad hc
  refine ⟨fun hok => ⟨fun h0 => ?zero, fun hlong => ?long, fun hen ha ho => ?dword⟩, fun op hok => ?atomic,
    fun hok h0 ha ho => ?write⟩
  case zero =>
    exact State.does_emits (·.hostRead r) rfl ((Block.hostRead_fcp hok hc).trans
      ((Block.fcpReadReq_zeroLength (r := { r with data := [] }) h0).trans (Block.complete_good hs ..)))
  case long =>
    refine State.does_of_on (·.hostRead r) rfl ?_
    rw [Block.hostRead_fcp hok hc, Block.fcpReadReq_tooLong (r := { r with data := [] }) hlong]
    obtain ⟨hout, hlog⟩ := Block.fcpBad_aborts (r := r) (f := f) (off := off) hs (show 0 < 4 by decide)
    exact ⟨hout, Block.canon_errLogged hlog⟩
  case dword =>
    refine State.does_of_on (·.hostRead r) rfl ?_
    rw [Block.hostRead_fcp hok hc, Block.fcpReadReq_dword (r := { r with data := [] }) hen ha ho]
    exact Block.fcpServe_dword_out (r := { r with data := [] }) hs hen ha
  case atomic =>
    refine State.does_of_on (·.hostAtomic r op) rfl ?_
    rw [Block.hostAtomic_fcp hok hc]
    obtain ⟨hout, hlog⟩ := Block.fcpBad_aborts (r := r) (f := f) (off := off) hs (show 2 < 4 by decide)
    exact ⟨hout, Block.canon_errLogged hlog⟩
  case write =>
    refine State.does_of_on (·.hostWrite r) rfl ?_
    rw [Block.hostWrite_fcp hok hc, Block.fcpWriteReq_unaligned h0 ha ho]
    exact Block.canon_errLogged (Block.fcpBad_errLogged _ r f off (by decide))

end Sys2Proof.Machine
end

section
/-! PROOFS. Memory writes that reach the registers of the Function Control Page (O58). -/
namespace Sys2Proof.Machine
namespace Block
variable {b : Block} {r : HReq} {f off n o : Nat}

/-! ### A dword written to the page (R97) -/

theorem fcpWriteReq_dword (b : Block) (f : Nat) (hen : r.en = [true, true, true, true]) (hl : r.data.length = 4) (hep : r.ep = false)
    (ha : off % 4 = 0) (ho : off < 0x10000) : b.fcpWriteReq r f off = b.fcpDwordW f off (leNat r.data) := by
  have hpage : off / 4096 = (off + 3) / 4096 := by omega
  have hbell : ¬ 0x10000 ≤ off := by omega
  have hdata : r.data.take 4 = r.data := List.take_of_length_le hl.le
  simp [fcpWriteReq, hbell, hSpan_dword hen, hen, ha, hep, hpage.symm, each, List.range_succ, hdata]

/-- R137: a dword written to the start of a doorbell page carries its hint. -/
theorem fcpWriteReq_doorbell (b : Block) (f : Nat) (hen : r.en = [true, true, true, true]) (hl : r.data.length = 4)
    (hlo : 0x10000 ≤ off) (hhi : off < 0x30000) (ha : off % 4096 = 0) :
    b.fcpWriteReq r f off = b.qBell f ((off - 0x10000) / 4096) (some (leNat r.data)) := by
  have hdata : r.data.take 4 = r.data := List.take_of_length_le hl.le
  simp [fcpWriteReq, bellWrite, hen, hlo, hhi, ha, hdata]

/-! ### The registers by their offsets (Tables 3.11, 5.1, 5.10, 7.4) -/

theorem fcpReg_reinsOut (f : Nat) : fcpReg f 0x3008 = some ⟨.fcpReinsOut, f, 0, 0⟩ := by simp [fcpReg, spanReg, firstSome]
theorem fcpReg_errCons (f : Nat) : fcpReg f 0x1014 = some ⟨.fcpErrCons, f, 0, 0⟩ := by simp [fcpReg, spanReg, firstSome]
theorem fcpReg_spurMaskSet (f : Nat) : fcpReg f 0x2014 = some ⟨.spurMaskSet, f, 0, 0⟩ := by simp [fcpReg, spanReg, firstSome]
theorem fcpReg_spurEoi (f : Nat) : fcpReg f 0x2024 = some ⟨.spurEoi, f, 0, 0⟩ := by simp [fcpReg, spanReg, firstSome]
theorem fcpReg_evtCons (f : Nat) : fcpReg f 0xC018 = some ⟨.fcpEvtCons, f, 0, 0⟩ := by simp [fcpReg, spanReg, firstSome]

theorem fcpDwordW_reinsOut (b : Block) (f v : Nat) : b.fcpDwordW f 0x3008 v = b.reinsOut f v := by
  simp [fcpDwordW, fcpReg_reinsOut]

theorem fcpDwordW_errCons (b : Block) (f v : Nat) : b.fcpDwordW f 0x1014 v = b.errCons f v := by
  simp [fcpDwordW, fcpReg_errCons]

theorem fcpDwordW_spurMaskSet (b : Block) (f v : Nat) : b.fcpDwordW f 0x2014 v = b.spurMaskOn f v := by
  simp [fcpDwordW, fcpReg_spurMaskSet]

theorem fcpDwordW_spurEoi (b : Block) (f v : Nat) : b.fcpDwordW f 0x2024 v = b.spurEoiW f v := by
  simp [fcpDwordW, fcpReg_spurEoi]

theorem fcpDwordW_evtCons (b : Block) (f v : Nat) : b.fcpDwordW f 0xC018 v = b.evtConsW f v := by
  simp [fcpDwordW, fcpReg_evtCons]

/-- Table 5.1: the command register of a queue's context. -/
theorem fcpDwordW_qCmd (b : Block) (f v : Nat) (hlo : 0x8000 ≤ off) (hhi : off < 0xC000) (ho : off % 512 = 32) :
    b.fcpDwordW f off v = b.qCmd f ((off - 0x8000) / 512) v := by
  have hmsix : ¬ 0x80000 ≤ off := by omega
  simp [fcpDwordW, hmsix, hlo, hhi, ho]

/-- Table 5.1: the head index of a queue's context. -/
theorem fcpDwordW_qHead (b : Block) (f v : Nat) (hlo : 0x8000 ≤ off) (hhi : off < 0xC000) (ho : off % 512 = 40) :
    b.fcpDwordW f off v = b.qHeadWrite f ((off - 0x8000) / 512) v := by
  have hmsix : ¬ 0x80000 ≤ off := by omega
  simp [fcpDwordW, hmsix, hlo, hhi, ho]

end Block

/-- A host write that does to the block what a register's own command does is that command. -/
theorem exec_registerWrite_eq {s : State} {r : HReq} {c : Instr} {f : FnIx} (g : Block → Block)
    (hc : exec c s = s.on (fun b => b.ifFn f.val g)) (he : s.blk.fnExists f.val = true) (hg : s.blk.hostWrite r = g s.blk) :
    exec (.registerWrite r) s = exec c s := by
  have hif : s.blk.ifFn f.val g = g s.blk := by rw [Block.ifFn, if_pos he]
  rw [hc, on_eq, hif, ← hg]
  rfl

/-- Settles O58: the write reaches the dword's register, by its offset. -/
theorem registerWrites : Obligations.RegisterWrites := by
  unfold Obligations.RegisterWrites
  intro s r f off v hc he hen hok hep hv
  have hl : r.data.length = 4 := by
    simp only [hwriteOk, Bool.and_eq_true, beq_iff_eq, hen] at hok
    exact hok.2
  have hw : s.blk.hostWrite r = s.blk.fcpWriteReq r f.val off := Block.hostWrite_fcp hok hc
  have hdw : off % 4 = 0 → off < 0x10000 → s.blk.hostWrite r = s.blk.fcpDwordW f.val off v.toNat := fun ha ho => by
    rw [hw, Block.fcpWriteReq_dword _ _ hen hl hep ha ho, hv]
  refine ⟨fun ho => ?reins, fun ho => ?errCons, fun ho => ?maskSet, fun ho => ?eoi, fun ho => ?evtCons,
    fun n => ⟨fun ho hv16 => ?qcmd, fun ho => ?qhead, fun ho => ?bell⟩⟩
  case reins =>
    refine State.does_of_on (·.hostWrite r) rfl ?_
    rw [hdw (by omega) (by omega), ho, Block.fcpDwordW_reinsOut, Block.canon_rd, Block.canon_rd]
    exact ⟨Block.reinsOut_value .., Block.reinsOut_pending ..⟩
  case errCons =>
    refine exec_registerWrite_eq (·.errCons f.val v.toNat) rfl he ?_
    rw [hdw (by omega) (by omega), ho, Block.fcpDwordW_errCons]
  case maskSet =>
    refine exec_registerWrite_eq (·.spurMaskOn f.val v.toNat) rfl he ?_
    rw [hdw (by omega) (by omega), ho, Block.fcpDwordW_spurMaskSet]
  case eoi =>
    refine exec_registerWrite_eq (·.spurEoiW f.val v.toNat) rfl he ?_
    rw [hdw (by omega) (by omega), ho, Block.fcpDwordW_spurEoi]
  case evtCons =>
    refine exec_registerWrite_eq (·.evtConsW f.val v.toNat) rfl he ?_
    rw [hdw (by omega) (by omega), ho, Block.fcpDwordW_evtCons]
  case qcmd =>
    have hn : (off - 0x8000) / 512 = n.val := by omega
    refine exec_registerWrite_eq (·.qCmd f.val n.val 16) rfl he ?_
    rw [hdw (by omega) (by omega), Block.fcpDwordW_qCmd _ _ _ (by omega) (by omega) (by omega), hn, hv16]
    rfl
  case qhead =>
    have hn : (off - 0x8000) / 512 = n.val := by omega
    refine exec_registerWrite_eq (·.qHeadWrite f.val n.val v.toNat) rfl he ?_
    rw [hdw (by omega) (by omega), Block.fcpDwordW_qHead _ _ _ (by omega) (by omega) (by omega), hn]
  case bell =>
    have hn : (off - 0x10000) / 4096 = n.val := by omega
    refine exec_registerWrite_eq (·.qBell f.val n.val (some v.toNat)) rfl he ?_
    rw [hw, Block.fcpWriteReq_doorbell _ _ hen hl (by omega) (by omega) (by omega), hn, hv]

end Sys2Proof.Machine
end

section
/-! PROOFS. Configuration requests: which answer each gets, and a write of the Interrupt Line (O53). -/
namespace Sys2Proof.Machine
namespace Block
variable {b : Block} {l fno req : Nat} {st : Option Nat} {r : FnRec} {g : FnRec → Block → Block}

/-! ### Which answer a configuration request gets (R80, R204) -/

theorem cfgReq_noImage (ha : b.dlActive l = true) (hs : b.streamBad l st = false) (hi : b.img = none) :
    b.cfgReq l fno req st g = b.emit (.cfg l req .crs 0 st) := by
  simp [cfgReq, ha, hs, hi]

theorem cfgReq_absent (ha : b.dlActive l = true) (hs : b.streamBad l st = false) (hi : b.img ≠ none) (ht : b.cfgTarget l fno = none) :
    b.cfgReq l fno req st g = b.emit (.cfg l req .ur 0 st) := by
  simp [cfgReq, ha, hs, hi, ht]

theorem cfgReq_inReset (ha : b.dlActive l = true) (hs : b.streamBad l st = false) (hi : b.img ≠ none) (ht : b.cfgTarget l fno = some r)
    (hf : (b.fn r.f).flr ≠ none) : b.cfgReq l fno req st g = b.emit (.cfg l req .crs 0 st) := by
  simp [cfgReq, ha, hs, hi, ht, Option.isSome_iff_ne_none, hf]

theorem cfgReq_served (ha : b.dlActive l = true) (hs : b.streamBad l st = false) (hi : b.img ≠ none) (ht : b.cfgTarget l fno = some r)
    (hf : (b.fn r.f).flr = none) : b.cfgReq l fno req st g = g r b := by
  simp [cfgReq, ha, hs, hi, ht, hf]

theorem cfgRead_served (ha : b.dlActive l = true) (hs : b.streamBad l st = false) (hi : b.img ≠ none) (ht : b.cfgTarget l fno = some r)
    (hf : (b.fn r.f).flr = none) (off : Nat) : (b.cfgRead l fno off req st).out = .cfg l req .sc (b.cfgVal l r off) st :: b.out := by
  rw [cfgRead, cfgReq_served ha hs hi ht hf]
  dsimp only
  split <;> rfl

/-! ### A write of the Interrupt Line (Table 3.3) -/

theorem forall_mem_ite_nil {α : Type} {P : α → Prop} {c : Prop} [Decidable c] {t : List α} (h : ∀ x ∈ t, P x) :
    ∀ x ∈ (if c then t else []), P x := by
  split
  · exact h
  · exact List.forall_mem_nil _

/-- Table 3.4: the extended capabilities begin at 100h. -/
theorem extCaps_base (b : Block) (l : Nat) (r : FnRec) : ∀ c ∈ b.extCaps l r, 0x100 ≤ c.1 := by
  unfold extCaps
  simp only [List.forall_mem_append, and_assoc]
  refine ⟨?_, ?_, ?_, ?_, ?_, ?_, ?_, ?_, ?_, ?_, ?_, ?_, ?_⟩ <;> exact forall_mem_ite_nil (by simp)

theorem extAt_none {off : Nat} (caps : List (Nat × Nat × Nat × Nat)) (h : ∀ c ∈ caps, off < c.1) : extAt off caps = none := by
  induction caps with
  | nil => rfl
  | cons c t ih =>
    have hc : ¬ c.1 ≤ off := by have := h c List.mem_cons_self; omega
    simp only [extAt, hc, decide_false, Bool.false_and, Bool.false_eq_true, if_false]
    exact ih fun d hd => h d (List.mem_cons_of_mem _ hd)

theorem extAt_header (b : Block) (l : Nat) (r : FnRec) {off : Nat} (h : off < 0x100) : extAt off (b.extCaps l r) = none :=
  extAt_none _ fun c hc => h.trans_le (b.extCaps_base l r c hc)

theorem cfgDw_intLine (b : Block) (l : Nat) (hv : r.vf = false) :
    b.cfgDw l r 0x3C = { const := r.intPin * 2 ^ 8, ps := [⟨.cfgIntLine, 0, 8, 0⟩] } := by
  simp [cfgDw, headDw, hv]

theorem cfgFldW_intLine (b : Block) (l : Nat) (r : FnRec) (v : Nat) :
    b.cfgFldW l r .cfgIntLine v = b.wr .cfgIntLine r.f (setOn r l) v := rfl

/-- Byte 0 of dword 3Ch of a PF is the Interrupt Line. -/
theorem cfgWrite_intLine (b : Block) (l : Nat) (hv : r.vf = false) (v : Nat) : ∃ n, n % 2 ^ 8 = v % 2 ^ 8 ∧
    b.cfgWrite l r 0x3C 1 v = b.wr .cfgIntLine r.f (setOn r l) n := by
  generalize hold : b.rd .cfgIntLine r.f (setOn r l) = old
  refine ⟨old - old % 2 ^ 8 + v % 2 ^ 8, by omega, ?_⟩
  have hm : enMask 1 = 2 ^ 8 - 1 := rfl
  have hacc : (Fld.attr .cfgIntLine).acc ≠ .w1c := by decide
  have hlow : ∀ x : Nat, x % 256 &&& 255 = x % 256 := fun x => by
    rw [show 255 = 2 ^ 8 - 1 from rfl, Nat.and_two_pow_sub_one_eq_mod]
    exact Nat.mod_mod x 256
  unfold cfgWrite
  rw [cfgDw_intLine b l hv, extAt_header b l r (by decide), hm]
  simp [each, bits, hacc, hold, cfgFldW_intLine, hlow]

theorem cfgWriteReq_intLine (ha : b.dlActive l = true) (hs : b.streamBad l st = false) (hi : b.img ≠ none)
    (ht : b.cfgTarget l fno = some r) (hf : (b.fn r.f).flr = none) (hv : r.vf = false) (v : BitVec 32) (bus : Nat) :
    let c := b.cfgWriteReq l fno 0x3C 1 v.toNat bus req st
    c.out = .cfg l req .sc 0 st :: b.out ∧ (c.lk l).bus = bus % 256 ∧ c.rd .cfgIntLine r.f (setOn r l) = v.toNat % 256 := by
  obtain ⟨n, hn, heq⟩ := cfgWrite_intLine ((b.lkMod l (fun k => { k with bus := bus % 256 })).emit (.cfg l req .sc 0 st)) l hv v.toNat
  have hreq : b.cfgWriteReq l fno 0x3C 1 v.toNat bus req st = _ := (cfgReq_served ha hs hi ht hf).trans heq
  intro c
  refine ⟨?_, ?_, ?_⟩ <;> simp only [c, hreq]
  · rfl
  · exact congrArg LinkDyn.bus (lkMod_lk_self b l (fun k => { k with bus := bus % 256 }))
  · exact (wr_rd_self ..).trans hn

end Block

/-- Settles O53, by which answer the request gets. -/
theorem configAccesses : Obligations.ConfigAccesses := by
  unfold Obligations.ConfigAccesses
  intro s l fno off req st ha hs
  -- the answers that reads and writes share
  have hboth : ∀ o : Out, (∀ g, s.blk.cfgReq l.val fno req st g = s.blk.emit o) →
      s.does (.configRead l fno off req st) (fun b => o ∈ b.out) ∧
        ∀ en v bus, s.does (.configWrite l fno off en v bus req st) fun b => o ∈ b.out := fun o h =>
    ⟨State.does_emits (·.cfgRead l.val fno (dwordOf off) req st) rfl (h _), fun en v bus =>
      State.does_emits (·.cfgWriteReq l.val fno (dwordOf off) en.toNat v.toNat bus req st) rfl (h _)⟩
  refine ⟨fun hi => hboth _ fun g => Block.cfgReq_noImage ha hs hi, fun hi ht => hboth _ fun g => Block.cfgReq_absent ha hs hi ht,
    fun r hi ht => ⟨fun hf => hboth _ fun g => Block.cfgReq_inReset ha hs hi ht hf, fun hf => ⟨?read, fun hoff hv v bus => ?write⟩⟩⟩
  case read =>
    refine State.does_of_on (·.cfgRead l.val fno (dwordOf off) req st) rfl ?_
    rw [Block.canon_out, Block.cfgRead_served ha hs hi ht hf]
    exact List.mem_cons_self
  case write =>
    obtain ⟨hout, hbus, hline⟩ := Block.cfgWriteReq_intLine (req := req) ha hs hi ht hf hv v bus
    refine State.does_of_on (·.cfgWriteReq l.val fno (dwordOf off) (1 : BitVec 4).toNat v.toNat bus req st) rfl ?_
    rw [hoff]
    refine ⟨hout ▸ List.mem_cons_self, ?_, (Block.canon_rd ..).trans hline⟩
    rw [Block.canon_lk]
    exact hbus

end Sys2Proof.Machine
end

section
/-! PROOFS. Configuration writes that set a function up (O32): what tdiErr and formJudge leave as they are, then one equation per write. -/
namespace Sys2Proof.Machine
namespace Block
variable {b : Block} {f j : Nat} {r : FnRec}

/-- The fields that the move of a TDI to ERROR may change (tdiErr_fr). -/
def tdiErrMask : Nat := 0x408000490010208020400000000000000000000000000001ffe14000020000004018008000060008000301e00d800000f0000400000080800

/-- R353: fields that the move of a TDI to ERROR leaves as they are. -/
theorem tdiErr_rd (b : Block) (f : Nat) {fld : Fld} (h : tdiErrMask.testBit (Fld.ctorIdx fld) = false) (i j : Nat) :
    (b.tdiErr f).rd fld i j = b.rd fld i j :=
  (tdiErr_fr b f (Nat.and_self _) (Nat.and_self _) (Fr.refl ..)).reg fld i j h

/-! ### VF Enable and NumVFs (R79, R83) -/

theorem vfEnableWrite_rd (hok : b.cfgOk f j = true) (hr : b.fnRec? f = some r) (hv : r.vf = false) (ht : r.totalVfs ≠ 0) (v : Bool) :
    (b.vfEnableWrite f j v).rd .vfEnable f j = b2n v := by
  have hwr : ∀ (c : Block) (w : Bool), ((c.wr .vfEnable f j (b2n w)).tdiErr f).rd .vfEnable f j = b2n w := fun c w => by
    rw [tdiErr_rd _ f rfl, wr_rd_self]
    cases w <;> rfl
  have hpf : optD (b.fnRec? f) true (fun r => r.vf || r.totalVfs == 0) = false := by simp [hr, optD, hv, ht]
  unfold vfEnableWrite
  rw [hok, hpf]
  split
  · next h => simp at h
  · split
    · next h =>
      obtain rfl : v = false := by simpa using (Bool.and_eq_true_iff.1 (Bool.and_eq_true_iff.1 h).1).1
      exact hwr _ false
    · exact hwr _ v

theorem numVfsWrite_rd (hok : b.cfgOk f j = true) (hr : b.fnRec? f = some r) (hv : r.vf = false) (ht : r.totalVfs ≠ 0)
    (he : b.flag .vfEnable f j = false) (v : BitVec 16) : (b.numVfsWrite f j v.toNat).rd .vfNum f j = v.toNat := by
  have heq : b.numVfsWrite f j v.toNat = b.wr .vfNum f j v.toNat := by simp [numVfsWrite, hok, hr, optD, hv, ht, he]
  rw [heq, wr_rd_self]
  exact Nat.mod_eq_of_lt v.isLt

/-! ### Base Address Registers (R86, R90) -/

theorem barWrite_rd (hok : b.cfgOk f j = true) (hr : b.fnRec? f = some r) (bar : BarIx) (v : Nat) {fld : Fld}
    (h : tdiErrMask.testBit (Fld.ctorIdx fld) = false) (i k : Nat) : (b.barWrite f j bar v).rd fld i k = (b.barStore f j r bar v).rd fld i k := by
  rw [barWrite, hr]
  simp only [hok, Bool.not_true, Bool.false_eq_true, if_false]
  exact tdiErr_rd _ f h i k

/-- A base rounded down fits a field that the address fits. -/
theorem roundedDown_fits (v : BitVec 64) (n : Nat) : v.toNat / 2 ^ n * 2 ^ n % 2 ^ 64 = v.toNat / 2 ^ n * 2 ^ n :=
  Nat.mod_eq_of_lt ((Nat.div_mul_le_self _ _).trans_lt v.isLt)

theorem barStore_bar0 (b : Block) (f j : Nat) (hv : r.vf = false) (v : BitVec 64) :
    (b.barStore f j r .bar0 v.toNat).rd .cfgBar0 f j = v.toNat / 2 ^ 21 * 2 ^ 21 := by
  rw [barStore, hv]
  exact (wr_rd_self ..).trans (roundedDown_fits v 21)

theorem barStore_bar2 (b : Block) (f j : Nat) (hv : r.vf = false) (h : r.bar2 ≠ 0) (v : BitVec 64) :
    (b.barStore f j r .bar2 v.toNat).rd .cfgBar2 f j = v.toNat / 2 ^ r.bar2 * 2 ^ r.bar2 := by
  simp only [barStore, hv, h, beq_iff_eq, Bool.false_eq_true, if_false]
  exact (wr_rd_self ..).trans (roundedDown_fits v r.bar2)

theorem barStore_bar2_absent (b : Block) (f j : Nat) (h : r.bar2 = 0) (v : Nat) : b.barStore f j r .bar2 v = b := by
  simp [barStore, h]

theorem barStore_bar4 (b : Block) (f j : Nat) (hv : r.vf = false) (h : r.bar4 ≠ 0) (v : BitVec 64) :
    (b.barStore f j r .bar4 v.toNat).rd .cfgBar4 f j = v.toNat / 2 ^ r.bar4 * 2 ^ r.bar4 := by
  simp only [barStore, hv, h, beq_iff_eq, Bool.false_eq_true, if_false]
  exact (wr_rd_self ..).trans (roundedDown_fits v r.bar4)

theorem barStore_romEn (b : Block) (f j : Nat) (hv : r.vf = false) (h : romLog2 r ≠ 0) (v : Nat) :
    (b.barStore f j r .rom v).rd .cfgRomEn f j = v % 2 := by
  simp only [barStore, hv, h, beq_iff_eq, Bool.false_eq_true, if_false]
  exact (wr_rd_self ..).trans (Nat.mod_mod _ _)

/-! ### ATS, PASID and STU (R212) -/

theorem atsWrite_rd (hok : b.cfgOk f j = true) (hr : b.fnRec? f = some r) (hp : r.privileged = true) {fld : Fld}
    (h : tdiErrMask.testBit (Fld.ctorIdx fld) = false) (v : Nat) : (b.atsWrite f j fld v).rd fld f j = v % 2 ^ (Fld.attr fld).width := by
  have hstore : ((b.wr fld f j v).tdiErr f).rd fld f j = v % 2 ^ (Fld.attr fld).width := by
    rw [tdiErr_rd _ f h, wr_rd_self]
  have hflush : ∀ c : Block, (c.atsFlush f).rd fld f j = c.rd fld f j := fun c =>
    (atsFlush_fr c f (Nat.and_self _) (Nat.and_self _) (Fr.refl ..)).reg fld f j (Nat.zero_testBit _)
  have hpriv : optD (b.fnRec? f) false (·.privileged) = true := by simp [hr, optD, hp]
  unfold atsWrite
  rw [hok, hpriv]
  split
  · next h => cases h
  · dsimp only
    split
    · exact (hflush _).trans hstore
    · exact hstore

/-! ### LTR Mechanism Enable (R231) -/

theorem ltrEnable_sets {l : Nat} (h0 : b.linkF0 l = some r) (hok : b.cfgOk r.f (setOn r l) = true)
    (he : b.flag .cfgLtrEn r.f (setOn r l) = false) : (b.ltrEnable l).rd .cfgLtrEn r.f (setOn r l) = 1 ∧
      (b.dlActive l = true → ∃ a c, (b.ltrEnable l).out = .msg l (.ltr a c) :: b.out) := by
  have hdl : (b.wr .cfgLtrEn r.f (setOn r l) 1).dlActive l = b.dlActive l := by
    rw [dlActive, flag, wr_rd_fld _ (by decide), dlActive, flag]
  have heq : b.ltrEnable l = if b.dlActive l then (b.wr .cfgLtrEn r.f (setOn r l) 1).ltrSend l
      else b.wr .cfgLtrEn r.f (setOn r l) 1 := by
    simp [ltrEnable, h0, hok, he, hdl]
  have hsend : ∀ c : Block, ∃ a n, c.ltrSend l = c.emit (.msg l (.ltr a n)) := fun c => by
    unfold ltrSend
    split
    · exact ⟨_, _, rfl⟩
    · exact ⟨_, _, rfl⟩
  obtain ⟨a, n, hs⟩ := hsend (b.wr .cfgLtrEn r.f (setOn r l) 1)
  rw [heq, hs]
  refine ⟨?_, fun ha => ⟨a, n, by rw [if_pos ha]; rfl⟩⟩
  split <;> exact wr_rd_self b .cfgLtrEn r.f (setOn r l) 1

/-! ### Delivery form and Interrupt Disable (R186, R188) -/

theorem b2n_mod_two (v : Bool) : b2n v % 2 = b2n v := by cases v <;> rfl

theorem formWrite_rd (b : Block) (f j : Nat) (x m : Bool) : (b.formWrite f j x m).rd .cfgMsixEn f j = b2n x ∧
    (b.formWrite f j x m).rd .cfgMsiEn f j = b2n m := by
  have hfr := formJudge_fr ((b.wr .cfgMsixEn f j (b2n x)).wr .cfgMsiEn f j (b2n m)) f (b.delivery f) (Nat.and_self _) (Nat.and_self _)
    (Fr.refl ..)
  rw [formWrite, hfr.reg .cfgMsixEn f j rfl, hfr.reg .cfgMsiEn f j rfl, wr_rd_fld _ (by decide), wr_rd_self, wr_rd_self]
  exact ⟨b2n_mod_two x, b2n_mod_two m⟩

theorem intDisWrite_rd (hok : b.cfgOk f j = true) (v : Bool) : (b.intDisWrite f j v).rd .cfgIntDis f j = b2n v := by
  have hfr := intxF_fr (b.wr .cfgIntDis f j (b2n v)) f (Nat.and_self _) (Nat.and_self _) (Fr.refl ..)
  rw [intDisWrite, if_pos hok, hfr.reg .cfgIntDis f j rfl, wr_rd_self]
  exact b2n_mod_two v

end Block

/-- A command after which a field reads a value. -/
theorem State.does_rd {s : State} {c : Instr} (g : Block → Block) {fld : Fld} {i j v : Nat} (hc : exec c s = s.on g)
    (hv : (g s.blk).rd fld i j = v) : s.does c fun b => b.rd fld i j = v :=
  State.does_of_on g hc ((Block.canon_rd ..).trans hv)

/-- Settles O32, by what each configuration write stores. -/
theorem functionSetup : Obligations.FunctionSetup := by
  unfold Obligations.FunctionSetup
  refine ⟨fun s f alt r hok hr hv ht => ⟨?vfOn, ?vfOff, fun v he => ?numVfs⟩,
    fun s f alt r v hok hr hv => ⟨?bar0, fun h2 => ?bar2, fun h2 => ?bar2Absent, fun h4 => ?bar4, fun hrom => ?romEn⟩,
    fun s f alt r hok hr hp => ⟨?ats, ?pasid, fun v => ?stu⟩, fun s l r h0 hok he => ?ltr,
    fun s f alt hok => ⟨fun x m => ?form, fun v => ?intDis⟩⟩
  case vfOn => exact State.does_rd (·.vfEnableWrite f.val (b2n alt) true) rfl (Block.vfEnableWrite_rd hok hr hv ht true)
  case vfOff => exact State.does_rd (·.vfEnableWrite f.val (b2n alt) false) rfl (Block.vfEnableWrite_rd hok hr hv ht false)
  case numVfs => exact State.does_rd (·.numVfsWrite f.val (b2n alt) v.toNat) rfl (Block.numVfsWrite_rd hok hr hv ht he v)
  case bar0 =>
    exact State.does_rd (·.barWrite f.val (b2n alt) .bar0 v.toNat) rfl
      ((Block.barWrite_rd hok hr _ _ rfl ..).trans (Block.barStore_bar0 _ _ _ hv v))
  case bar2 =>
    exact State.does_rd (·.barWrite f.val (b2n alt) .bar2 v.toNat) rfl
      ((Block.barWrite_rd hok hr _ _ rfl ..).trans (Block.barStore_bar2 _ _ _ hv h2 v))
  case bar2Absent =>
    exact State.does_rd (·.barWrite f.val (b2n alt) .bar2 v.toNat) rfl
      ((Block.barWrite_rd hok hr _ _ rfl ..).trans (by rw [Block.barStore_bar2_absent _ _ _ h2]))
  case bar4 =>
    exact State.does_rd (·.barWrite f.val (b2n alt) .bar4 v.toNat) rfl
      ((Block.barWrite_rd hok hr _ _ rfl ..).trans (Block.barStore_bar4 _ _ _ hv h4 v))
  case romEn =>
    exact State.does_rd (·.barWrite f.val (b2n alt) .rom v.toNat) rfl
      ((Block.barWrite_rd hok hr _ _ rfl ..).trans (Block.barStore_romEn _ _ _ hv hrom v.toNat))
  case ats => exact State.does_rd (·.atsWrite f.val (b2n alt) .atsEnable 0) rfl (Block.atsWrite_rd hok hr hp rfl 0)
  case pasid => exact State.does_rd (·.atsWrite f.val (b2n alt) .pasidEnable 0) rfl (Block.atsWrite_rd hok hr hp rfl 0)
  case stu =>
    exact State.does_rd (·.atsWrite f.val (b2n alt) .atsStu v.toNat) rfl
      ((Block.atsWrite_rd hok hr hp rfl v.toNat).trans (Nat.mod_eq_of_lt v.isLt))
  case ltr =>
    obtain ⟨hset, hmsg⟩ := Block.ltrEnable_sets h0 hok he
    exact State.does_of_on (·.ltrEnable l.val) rfl ⟨(Block.canon_rd ..).trans hset, hmsg⟩
  case form =>
    refine State.does_of_on _ rfl ?_
    simp only [hok, if_true, Block.canon_rd]
    exact Block.formWrite_rd ..
  case intDis => exact State.does_rd (·.intDisWrite f.val (b2n alt) v) rfl (Block.intDisWrite_rd hok v)

end Sys2Proof.Machine
end

section
/-! PROOFS. Prefetch entries, learned pages, page overrides and the answers to speculative reads (O48). -/
namespace Sys2Proof.Machine
namespace Block

/-! ### What logging an error leaves of the functions' records (R289, R324) -/

/-- Record e is record d, but may say that its function waits with a PME event for the wake. -/
def ButPme (d e : FnDyn) : Prop := ∃ v, e = { d with pmeWait := v }

theorem ButPme.refl (d : FnDyn) : ButPme d d := ⟨d.pmeWait, rfl⟩

section log
variable (b : Block) (f g : Nat)

theorem pmeEvent_fn : ButPme (b.fn g) ((b.pmeEvent f).fn g) := by
  unfold pmeEvent
  dsimp only
  split
  · exact .refl _
  · split
    · by_cases h : g = f
      · subst h
        exact ⟨true, by rw [fnMod_fn_self]; rfl⟩
      · rw [fnMod_fn_ne _ h]
        exact .refl _
    · exact .refl _

theorem sample_fn (s : Nat) : ButPme (b.fn g) ((b.sample f s).fn g) := by
  unfold sample
  split
  · split
    · extract_lets b1
      split
      · exact pmeEvent_fn b1 f g
      · exact .refl _
    · exact .refl _
  · split <;> exact .refl _
  · split <;> exact .refl _
  · exact .refl _

theorem raise_fn (s : Nat) : ButPme (b.fn g) ((b.raise f s).fn g) := by
  unfold raise
  split
  · exact .refl _
  · exact sample_fn (b.wr .srcLatch f s 1) f g s

theorem logOnly_fn (e : LogE) : ButPme (b.fn g) ((b.logOnly f e).fn g) := by
  unfold logOnly
  extract_lets prod full s b1
  have h1 : b1.fn g = b.fn g := by
    simp only [b1]
    split <;> rfl
  rw [← h1]
  split
  · exact raise_fn b1 f g 14
  · split
    · exact raise_fn b1 f g 10
    · exact .refl _

@[simp] theorem aerUnc_fn (e hdr : Nat) : (b.aerUnc f e hdr).fn g = b.fn g :=
  (aerUnc_fr b f e hdr (Nat.and_self _) (Nat.and_self _) (Fr.refl ..)).part .fns rfl g
@[simp] theorem aerCor_fn (e : Nat) : (b.aerCor f e).fn g = b.fn g :=
  (aerCor_fr b f e (Nat.and_self _) (Nat.and_self _) (Fr.refl ..)).part .fns rfl g
@[simp] theorem aerAdv_fn (e hdr : Nat) : (b.aerAdv f e hdr).fn g = b.fn g :=
  (aerAdv_fr b f e hdr (Nat.and_self _) (Nat.and_self _) (Fr.refl ..)).part .fns rfl g

theorem logErr_fn (e : LogE) (hdr : Nat) : ButPme (b.fn g) ((b.logErr f e hdr).fn g) := by
  have haer : (b.logErr f e hdr).fn g = (b.logOnly f e).fn g := by
    unfold logErr
    dsimp only
    repeat' split
    all_goals simp only [aerUnc_fn, aerCor_fn, aerAdv_fn]
  rw [haer]
  exact logOnly_fn b f g e

@[simp] theorem logErr_pf (e : LogE) (hdr : Nat) : ((b.logErr f e hdr).fn g).pf = (b.fn g).pf := by
  obtain ⟨v, h⟩ := logErr_fn b f g e hdr
  rw [h]

@[simp] theorem logErr_learned (e : LogE) (hdr : Nat) : ((b.logErr f e hdr).fn g).learned = (b.fn g).learned := by
  obtain ⟨v, h⟩ := logErr_fn b f g e hdr
  rw [h]

end log

/-! ### Prefetch entries (R119) -/

section entries
variable {b : Block} {f e : Nat} {x : PfEnt}

theorem pfFree_pfOf (b : Block) (f e : Nat) : (b.pfFree f e).pfOf f e = none := by
  rw [pfOf, pfFree, fnMod_fn_self, List.find?_eq_none]
  intro x hx
  simpa using (List.mem_filter.1 hx).2

theorem pfMod_pfOf (b : Block) (f e : Nat) {g : PfEnt → PfEnt} (hg : ∀ x : PfEnt, (g x).e = x.e) :
    (b.pfMod f e g).pfOf f e = (b.pfOf f e).map g := by
  rw [pfOf, pfMod, fnMod_fn_self]
  exact find_mapIf _ g (fun x => by rw [hg]) _

@[simp] theorem canon_pfOf (b : Block) (f e : Nat) : b.canon.pfOf f e = b.pfOf f e := by rw [pfOf, canon_fn, pfOf]

theorem pfAge_valid (hx : b.pfOf f e = some x) (hs : x.st = .valid) : b.pfAge f e = b.pfFree f e := by
  simp [pfAge, hx, hs]

theorem pfAge_other (hx : b.pfOf f e = some x) (hs : x.st ≠ .valid) : b.pfAge f e = b := by
  simp [pfAge, hx, hs]

theorem pfHoldEnd_held (hx : b.pfOf f e = some x) (hs : x.st = .held) : b.pfHoldEnd f e = (b.pfLost f x 1).pfFree f e := by
  simp [pfHoldEnd, hx, hs]

/-- R120: an entry that was not consumed whole is counted and logged as lost. -/
theorem pfLost_unconsumed (hm : x.mute = false) (hu : ∃ k < x.len, x.used[k]?.getD false = false) (why : Nat) :
    ∃ a n, b.pfLost f x why = (b.incSat .pfCntLost f).logErr f { code := 12, detail := why, addr := a, len := n, win := b2n x.winB } := by
  obtain ⟨k, hk, hused⟩ := hu
  unfold pfLost
  extract_lets left
  have hmem : k ∈ left := List.mem_filter.2 ⟨List.mem_range.2 hk, by simp [hused]⟩
  clear_value left
  cases left with
  | nil => exact absurd hmem List.not_mem_nil
  | cons k' ks =>
    dsimp only
    rw [hm, if_neg Bool.false_ne_true]
    exact ⟨_, _, rfl⟩

/-- What is done before an entry is logged, and leaves the log as it is, does not show in the log. -/
theorem errLogged.after {m q : Nat} {a c : Block} {code detail : Nat} (h : c.errLogged b f code detail) (hf : Fr m q a c)
    (hprod : m.testBit (Fld.ctorIdx .errProd) = false) (hcons : m.testBit (Fld.ctorIdx .errCons) = false)
    (hover : m.testBit (Fld.ctorIdx .errOverflow) = false) : a.errLogged b f code detail := by
  unfold errLogged at h ⊢
  rw [← hf.reg _ _ _ hprod, ← hf.reg _ _ _ hcons, ← hf.reg _ _ _ hover]
  exact h

theorem pfLost_logged (hm : x.mute = false) (hu : ∃ k < x.len, x.used[k]?.getD false = false) {why : Nat} (hw : why < 8) :
    b.errLogged (b.pfLost f x why) f 12 why ∧
      (b.pfLost f x why).rd .pfCntLost f = min (b.rd .pfCntLost f + 1) (2 ^ (Fld.attr .pfCntLost).width - 1) := by
  obtain ⟨a, n, heq⟩ := pfLost_unconsumed (b := b) (f := f) hm hu why
  rw [heq]
  constructor
  · refine errLogged.after (m := 2 ^ Fld.ctorIdx .pfCntLost) (q := 0) (logErr_errLogged _ f _ 0 (show 12 < _ by decide) (hw.trans_le (by decide)))
      (.incSat Nat.testBit_two_pow_self (.refl ..)) rfl rfl rfl
  · refine Eq.trans ?_ (incSat_rd_self b .pfCntLost f 0)
    exact (logErr_fr _ f _ 0 (Nat.and_self _) (Nat.and_self _) (Fr.refl ..)).reg .pfCntLost f 0 rfl

end entries

/-! ### Page overrides (R107) -/

section overrides
variable {f n off : Nat}

/-- Table 4.4: the dword of the VALID bit of override n. -/
theorem fcpReg_pgoCtrl (f : Nat) (hn : n < 256) (ho : off / 4 = 0x1400 + 4 * n + 3) :
    fcpReg f (off / 4 * 4) = some ⟨.fcpPgoCtrl, f, n, 0⟩ := by
  have hix : (off / 4 * 4 - 0x5000) / 16 = n := by omega
  have hdw : off / 4 * 4 % 16 = 12 := by omega
  unfold fcpReg
  extract_lets one
  repeat rw [if_neg (by omega)]
  rw [if_pos (by omega), hix, hdw]
  rfl

theorem regWrite_pgoValid (b : Block) (f n v : Nat) : (b.regWrite true ⟨.fcpPgoCtrl, f, n, 0⟩ v).rd .pgoValid f n = v % 2 := by
  have hattr : Fld.attr .pgoValid = ⟨.fn, 1, .rw, .image, .function⟩ := rfl
  have hbits : ∀ old, (old / 4294967296 * 4294967296 + v % 4294967296 + old % 1) % 2 = v % 2 := fun old => by omega
  simpa [regWrite, each, Reg.pieces, fldWrite, encOk, pieceIx, pieceJ, hattr] using hbits _

/-- R107: the write of the VALID bit; the entries that it discards and the TDI that it moves leave the bit as written. -/
theorem pgoWrite_valid (b : Block) (f : Nat) (hn : n < 256) (ho : off / 4 = 0x1400 + 4 * n + 3) (v : Nat) :
    (b.pgoWrite f off v).rd .pgoValid f n = v % 2 := by
  unfold pgoWrite
  rw [fcpReg_pgoCtrl f hn ho]
  exact (tdiErr_rd _ f rfl f n).trans (regWrite_pgoValid _ f n v)

end overrides

/-! ### Learned pages (R121) -/

section learned
variable (b : Block) (f p page : Nat)

@[simp] theorem learn_pf : ((b.learn f p page).fn f).pf = (b.fn f).pf := by
  rw [learn, incSat_fn, fnMod_fn_self]

/-- R121: the page that is learned last stays in the list when the oldest give way. -/
theorem mem_learn_learned : (p, page) ∈ ((b.learn f p page).fn f).learned := by
  rw [learn, incSat_fn, fnMod_fn_self]
  dsimp only
  split
  · next h =>
    rw [List.drop_append_of_le_length (by simp)]
    exact List.mem_append_right _ (List.mem_singleton_self _)
  · exact List.mem_append_right _ (List.mem_singleton_self _)

variable (x : PfEnt) (code : Nat)

@[simp] theorem pfUnexpected_pf : ((b.pfUnexpected f x code).fn f).pf = (b.fn f).pf := by
  unfold pfUnexpected
  split
  · rw [logErr_pf, incSat_fn]
  · rfl

@[simp] theorem pfUnexpected_learned : ((b.pfUnexpected f x code).fn f).learned = (b.fn f).learned := by
  unfold pfUnexpected
  split
  · rw [logErr_learned, incSat_fn]
  · rfl

end learned

/-! ### Answers to speculative reads (Table 4.9) -/

section answers
variable {b : Block} {p tag id f : Nat} {r : XReq} {x : PfEnt}

/-- What SIDEFX and SIDEFX_DONE record of the page (R121). -/
def pageLearned (b : Block) (f : Nat) (x : PfEnt) (code : Nat) : Block := (b.learn f x.port (x.lo / 4096)).pfUnexpected f x code

theorem pageLearned_mem (b : Block) (f : Nat) (x : PfEnt) (code : Nat) :
    (x.port, x.lo / 4096) ∈ ((b.pageLearned f x code).fn f).learned := by
  rw [pageLearned, pfUnexpected_learned]
  exact mem_learn_learned ..

@[simp] theorem pageLearned_pfOf (b : Block) (f : Nat) (x : PfEnt) (code e : Nat) : (b.pageLearned f x code).pfOf f e = b.pfOf f e := by
  rw [pfOf, pageLearned, pfUnexpected_pf, learn_pf, pfOf]

theorem pageLearned_held (b : Block) (f : Nat) (x : PfEnt) (code g : Nat) : (b.pageLearned f x code).rd .pfCntHeld g = b.rd .pfCntHeld g :=
  (pfUnexpected_fr _ f x code (Nat.and_self _) (Nat.and_self _) (Fr.refl ..)).reg .pfCntHeld g 0 rfl |>.trans
    ((learn_fr b f x.port (x.lo / 4096) (Nat.and_self _) (Nat.and_self _) (Fr.refl ..)).reg .pfCntHeld g 0 rfl)

/-- SIDEFX frees an entry that no read waits on. -/
theorem pfAnswer_sidefx (hx : b.pfBorn f id = some x) (hm : x.mute = false) (hw : x.waits = []) (cells : List (Byte × Bool)) :
    b.pfAnswer f id 4 cells = (b.pageLearned f x 4).pfFree f x.e := by
  simp [pfAnswer, hx, hm, pfDemand, hw, each, pageLearned]

/-- An entry that holds its data once SIDEFX_DONE has come, none of it consumed. -/
def heldWith (x : PfEnt) (cells : List (Byte × Bool)) (y : PfEnt) : PfEnt :=
  { y with st := .held, data := cells, used := List.replicate x.len false, waits := [] }

/-- SIDEFX_DONE makes a pending entry that no read waits on hold the data. -/
theorem pfAnswer_sidefxDone (hx : b.pfBorn f id = some x) (hs : x.st = .pending) (hm : x.mute = false) (hw : x.waits = [])
    (hl : x.len ≠ 0) (cells : List (Byte × Bool)) :
    b.pfAnswer f id 7 cells = ((b.pageLearned f x 7).incSat .pfCntHeld f).pfMod f x.e (heldWith x cells) := by
  have hheld : heldWith x cells = fun y => { y with st := .held, data := cells, used := List.replicate x.len false, waits := [] } := rfl
  simp [pfAnswer, hx, hs, hm, pfServe, hw, each, waitMarks, hl, pageLearned, hheld]

/-- A final answer to a speculative read, of a standard cause, crosses the Loom and answers the entry. -/
theorem rspFinal_spec (ho : r.orig = .spec id) (hl : b.loom.stopped = false) {code cause : Nat} (h0 : code ≠ 0) (hc : cause < 128)
    (pvec : Nat) (data : List Byte) : ∃ (b1 : Block) (cells : List (Byte × Bool)),
      b.rspFinal p r code cause pvec data = (b1.pfAnswer r.f id code cells).kick p ∧ b1.fn = b.fn ∧ ∀ y i j, b1.rd y i j = b.rd y i j := by
  have htaken : takenCode r code pvec = code := by simp [takenCode, h0]
  unfold rspFinal
  extract_lets w c carries cells b1
  have hb1 : b1.fn = b.fn ∧ (∀ y i j, b1.rd y i j = b.rd y i j) ∧ b1.loom = b.loom := by
    simp only [b1]
    split <;> exact ⟨rfl, fun _ _ _ => rfl, rfl⟩
  obtain ⟨hfn, hrd, hloom⟩ := hb1
  have hlog : b1.ansLog r c cause = b1 := by simp [ansLog, ho, Nat.not_le.2 hc]
  let b2 := (b1.dropReq p r.rid).cross (some (tetherPort p)) (some ((b1.dropReq p r.rid).xFrom r)) 2 cells.length
  refine ⟨b2, cells, ?_, hfn, hrd⟩
  rw [hlog, endReq, if_neg (by simp [ho])]
  rw [if_neg (by rw [show (b1.dropReq p r.rid).loom = b.loom from hloom, hl]; exact Bool.false_ne_true)]
  rw [ansGo, ho, show c = code from htaken]

/-- Table 2.6: a speculative read may be answered with SIDEFX, and with SIDEFX_DONE from version 3 on. -/
theorem rspAllowed_spec (ho : r.orig = .spec id) (hop : r.op = 1) {ver code : Nat} (h : code = 4 ∨ code = 7 ∧ 3 ≤ ver) :
    rspAllowed ver r.op r.spec code = true := by
  rcases h with rfl | ⟨rfl, hv⟩
  · simp [rspAllowed, XReq.spec, ho, hop]
  · simp [rspAllowed, XReq.spec, ho, hop, hv]

/-- Such an answer, of a standard cause, answers the entry of the read; what waited may then go out. -/
theorem rspIn_spec (ha : b.active p = true) (hc : (b.x p).capsSent = false) (hl : b.loom.stopped = false)
    (hr : b.reqOfTag p tag = some r) (ho : r.orig = .spec id) (hop : r.op = 1) {code cause : Nat}
    (h : code = 4 ∨ code = 7 ∧ 3 ≤ b.xver p) (hcause : cause < 128) (pvec : Nat) (data : List Byte) :
    ∃ (b1 : Block) (cells : List (Byte × Bool)),
      b.rspIn p tag code cause pvec data = (b1.pfAnswer r.f id code cells).kick p ∧ b1.fn = b.fn ∧ ∀ y i j, b1.rd y i j = b.rd y i j := by
  rw [rspIn_final ha hc hr (rspAllowed_spec ho hop h) (by omega)]
  exact rspFinal_spec ho hl (by omega) hcause pvec data

theorem kick_pfOf (b : Block) (p f e : Nat) : (b.kick p).pfOf f e = b.pfOf f e := by rw [pfOf, (tether_kick b p).fn, pfOf]

/-- What finds the entries of a function in one block finds them in another with the same records. -/
theorem pfBorn_of_fn {a c : Block} (h : c.fn = a.fn) (f id : Nat) : c.pfBorn f id = a.pfBorn f id := by rw [pfBorn, h, pfBorn]

theorem pfOf_of_fn {a c : Block} (h : c.fn = a.fn) (f e : Nat) : c.pfOf f e = a.pfOf f e := by rw [pfOf, h, pfOf]

/-- R121: SIDEFX learns the page and frees the entry. -/
theorem rspIn_sidefx (ha : b.active p = true) (hc : (b.x p).capsSent = false) (hl : b.loom.stopped = false)
    (hr : b.reqOfTag p tag = some r) (ho : r.orig = .spec id) (hop : r.op = 1) (hx : b.pfBorn r.f id = some x)
    (hm : x.mute = false) (hw : x.waits = []) {cause : Nat} (hcause : cause < 128) :
    (x.port, x.lo / 4096) ∈ ((b.rspIn p tag 4 cause 0 []).fn r.f).learned ∧ (b.rspIn p tag 4 cause 0 []).pfOf r.f x.e = none := by
  obtain ⟨b1, cells, heq, hfn, -⟩ := rspIn_spec ha hc hl hr ho hop (.inl rfl) hcause 0 []
  rw [heq, pfAnswer_sidefx ((pfBorn_of_fn hfn ..).trans hx) hm hw, kick_pfOf, (tether_kick ..).fn]
  refine ⟨?_, pfFree_pfOf ..⟩
  rw [pfFree, fnMod_fn_self]
  exact pageLearned_mem ..

/-- R121: SIDEFX_DONE learns the page, and the entry holds its data, counted and not consumed. -/
theorem rspIn_sidefxDone (ha : b.active p = true) (hc : (b.x p).capsSent = false) (hl : b.loom.stopped = false)
    (hr : b.reqOfTag p tag = some r) (ho : r.orig = .spec id) (hop : r.op = 1) (hx : b.pfBorn r.f id = some x)
    (he : b.pfOf r.f x.e = some x) (hs : x.st = .pending) (hm : x.mute = false) (hw : x.waits = []) (hn : x.len ≠ 0)
    {cause : Nat} (hcause : cause < 128) (hv : 3 ≤ b.xver p) (pvec : Nat) (data : List Byte) :
    (x.port, x.lo / 4096) ∈ ((b.rspIn p tag 7 cause pvec data).fn r.f).learned ∧
      (∃ cells, (b.rspIn p tag 7 cause pvec data).pfOf r.f x.e = some (heldWith x cells x)) ∧
      (b.rspIn p tag 7 cause pvec data).rd .pfCntHeld r.f = min (b.rd .pfCntHeld r.f + 1) (2 ^ (Fld.attr .pfCntHeld).width - 1) := by
  obtain ⟨b1, cells, heq, hfn, hrd⟩ := rspIn_spec ha hc hl hr ho hop (.inr ⟨rfl, hv⟩) hcause pvec data
  rw [heq, pfAnswer_sidefxDone ((pfBorn_of_fn hfn ..).trans hx) hs hm hw hn, kick_pfOf, (tether_kick ..).fn,
    (tether_kick ..).rd (by decide)]
  refine ⟨?_, ⟨cells, ?_⟩, ?_⟩
  · rw [pfMod, fnMod_fn_self]
    exact pageLearned_mem b1 r.f x 7
  · rw [pfMod_pfOf _ _ _ (g := heldWith x cells) fun _ => rfl]
    have hkeep : (b1.pageLearned r.f x 7).pfOf r.f x.e = some x := by rw [pageLearned_pfOf, pfOf_of_fn hfn, he]
    exact congrArg (Option.map _) hkeep
  · rw [← hrd, ← pageLearned_held b1 r.f x 7]
    exact incSat_rd_self (b1.pageLearned r.f x 7) .pfCntHeld r.f 0

end answers
end Block

/-- Settles O48: the timers by what they do to the entry, the page override by its register, the answers by Table 4.9. -/
theorem prefetchAndSpeculation : Obligations.PrefetchAndSpeculation := by
  unfold Obligations.PrefetchAndSpeculation
  refine ⟨⟨fun s f e x hx => ⟨fun hs => ?ageValid, fun hs => ?ageOther, fun hs => ?hold⟩, fun s f => ?forget,
    fun s f n off v he hn ho => ?override⟩,
    fun s p tag r id x ha hc hl hr ho hop hx he hs hm hw hn cause hcause => ⟨?sidefx, fun hv pvec data => ?sidefxDone⟩⟩
  case ageValid =>
    refine State.does_of_on (·.pfAge f.val e) rfl ?_
    rw [Block.canon_pfOf, Block.pfAge_valid hx hs]
    exact Block.pfFree_pfOf ..
  case ageOther =>
    refine State.does_of_on (·.pfAge f.val e) rfl ?_
    rw [Block.canon_pfOf, Block.pfAge_other hx hs]
    exact hx
  case hold =>
    refine State.does_of_on (·.pfHoldEnd f.val e) rfl ?_
    rw [Block.canon_pfOf, Block.canon_rd, Block.pfHoldEnd_held hx hs]
    refine ⟨Block.pfFree_pfOf .., fun hm hu => ?_⟩
    obtain ⟨hlog, hcnt⟩ := Block.pfLost_logged (b := s.blk) (f := f.val) hm hu (why := 1) (by decide)
    have hfree := Block.pfFree_fr (s.blk.pfLost f.val x 1) f.val e (Nat.and_self _) (Nat.and_self _) (Fr.refl ..)
    exact ⟨Block.canon_errLogged (hlog.frame hfree rfl rfl rfl rfl), hcnt⟩
  case forget =>
    refine State.does_of_on (·.fnMod f.val fun d => { d with learned := [] }) rfl ?_
    rw [Block.canon_fn, Block.fnMod_fn_self]
  case override =>
    refine State.does_of_on (fun b => if b.fnExists f.val then b.pgoWrite f.val off v.toNat else b) rfl ?_
    rw [Block.canon_rd, if_pos he]
    exact Block.pgoWrite_valid s.blk f.val hn ho v.toNat
  case sidefx =>
    refine State.does_of_on (·.rspIn p.val tag.toNat 4 cause.toNat 0 []) rfl ?_
    rw [Block.canon_fn, Block.canon_pfOf]
    exact Block.rspIn_sidefx ha hc hl hr ho hop hx hm hw hcause
  case sidefxDone =>
    refine State.does_of_on (·.rspIn p.val tag.toNat 7 cause.toNat pvec.toNat data) rfl ?_
    rw [Block.canon_fn, Block.canon_pfOf, Block.canon_rd]
    obtain ⟨hlearned, ⟨cells, hheld⟩, hcnt⟩ := Block.rspIn_sidefxDone ha hc hl hr ho hop hx he hs hm hw hn hcause hv pvec.toNat data
    exact ⟨hlearned, _, hheld, rfl, rfl, hcnt⟩
end Sys2Proof.Machine
end

section
/-! PROOFS. Window accesses that cross: the requests that they put at the port (O60). -/
namespace Sys2Proof.Machine
namespace Block

/-! ### Requests of the PX896 at a port stay there -/

/-- Every request that is at a port in a, sent or waiting, is there in b. -/
structure WantsKept (a b : Block) : Prop where
  wants : ∀ {p f op addr len : Nat} {orig : XOrig}, a.wants p f op addr len orig → b.wants p f op addr len orig

/-- r is the request q, in another state of its way perhaps. -/
def SameWant (q r : XReq) : Prop := r.f = q.f ∧ r.op = q.op ∧ r.addr = q.addr ∧ r.len = q.len ∧ r.orig = q.orig

namespace WantsKept
variable {a b c : Block}

theorem of_x (h : ∀ p, b.x p = a.x p) : WantsKept a b := ⟨fun hw => by rwa [Block.wants, h]⟩
theorem refl (a : Block) : WantsKept a a := ⟨fun hw => hw⟩
theorem trans (h : WantsKept a b) (k : WantsKept b c) : WantsKept a c := ⟨fun hw => k.wants (h.wants hw)⟩

theorem xMod {u : Nat} {g : XlbDyn → XlbDyn} (hg : ∀ q ∈ (b.x u).reqs, ∃ r ∈ (g (b.x u)).reqs, SameWant q r) :
    WantsKept b (b.xMod u g) := by
  refine ⟨fun {p} _ _ _ _ _ hw => ?_⟩
  by_cases hp : p = u
  · subst hp
    obtain ⟨q, hq, h1, h2, h3, h4, h5⟩ := hw
    obtain ⟨r, hr, k1, k2, k3, k4, k5⟩ := hg q hq
    exact ⟨r, by rwa [xMod_x_self], k1.trans h1, k2.trans h2, k3.trans h3, k4.trans h4, k5.trans h5⟩
  · rwa [Block.wants, xMod_x_ne b hp]

end WantsKept

section port
variable {b : Block} {p : Nat}

theorem putReq_wantsKept (r : XReq) : WantsKept b (b.putReq p r) :=
  (WantsKept.of_x (b.newId_x ·)).trans (.xMod fun q hq => ⟨q, List.mem_append_left _ hq, rfl, rfl, rfl, rfl, rfl⟩)

theorem putReq_wants (r : XReq) : (b.putReq p r).wants p r.f r.op r.addr r.len r.orig :=
  ⟨r, by rw [putReq, xMod_x_self]; exact List.mem_append_right _ (List.mem_singleton_self r), rfl, rfl, rfl, rfl, rfl⟩

/-- Sending requests takes none of them away. -/
theorem pumpX_wantsKept (b : Block) (p n : Nat) : WantsKept b (b.pumpX p n) := by
  induction n generalizing b with
  | zero => exact .refl b
  | succ n ih =>
    unfold pumpX
    dsimp only
    split
    · exact .refl b
    · split
      · split
        · exact .refl b
        · refine .trans (.trans (.of_x (b.useFree_x ·)) (.trans (.xMod fun q hq => ?sent) (.of_x fun u => xsend_x _ p _ u))) (ih _)
          case sent =>
            refine ⟨_, List.mem_map.2 ⟨q, hq, rfl⟩, ?_⟩
            split <;> exact ⟨rfl, rfl, rfl, rfl, rfl⟩
      · exact .refl b

theorem kick_wantsKept (b : Block) (p : Nat) : WantsKept b (b.kick p) := pumpX_wantsKept b p _

/-- R118: speculation adds at most a request of its own. -/
theorem speculate_wantsKept (b : Block) (f p : Nat) (winB : Bool) (h : WinHit) (lo len : Nat) :
    WantsKept b (b.speculate f p winB h lo len) := by
  unfold speculate
  extract_lets blk a stop n ents free oldest id
  split
  · exact .refl b
  · split
    · exact .refl b
    · split
      · exact .of_x fun _ => rfl
      · extract_lets ent b1 r
        have h1 : WantsKept b b1 := .of_x fun _ => rfl
        split
        · exact h1.trans (putReq_wantsKept _)
        · exact (h1.trans (.of_x (cross_x b1 _ _ _ _))).trans (putReq_wantsKept _)

theorem canon_wants {f op addr len : Nat} {orig : XOrig} (h : b.wants p f op addr len orig) : b.canon.wants p f op addr len orig :=
  (WantsKept.of_x (canon_x b)).wants h

end port

/-! ### New requests reach an open port (R22, R61) -/

section add
variable {b : Block} {p f op addr len aop asz grp : Nat} {orig : XOrig} {cells : List (Byte × Bool × Bool)}

/-- What leaves a port's fence and its state as they are leaves it as open as it was. -/
theorem shut_of_fr {m q : Nat} {a c : Block} (h : Fr m q a c) (hf : m.testBit (Fld.ctorIdx .xlbFenced) = false)
    (hs : m.testBit (Fld.ctorIdx .psState) = false) (p : Nat) : c.shut p = a.shut p := by
  simp only [shut, fenced, looped, flag, h.reg _ _ _ hf, h.reg _ _ _ hs]

/-- A new request is put behind what waits at an open port, whether or not the Loom holds it. -/
theorem addReq_open (hs : b.shut p = false) : WantsKept b (b.addReq p f orig op addr len cells aop asz grp) ∧
    (b.addReq p f orig op addr len cells aop asz grp).shut p = false ∧
    (b.addReq p f orig op addr len cells aop asz grp).wants p f op addr len orig := by
  unfold addReq
  extract_lets r
  split
  · exact ⟨putReq_wantsKept _, hs, putReq_wants _⟩
  · have hcross : ∀ i o cls n, (b.cross i o cls n).shut p = false := fun _ _ _ _ => hs
    rw [reqArrive, hcross, if_neg Bool.false_ne_true]
    exact ⟨(WantsKept.of_x (cross_x b _ _ _ _)).trans (putReq_wantsKept r), hs, putReq_wants r⟩

theorem addReq_wants (hs : b.shut p = false) : (b.addReq p f orig op addr len cells aop asz grp).wants p f op addr len orig :=
  (addReq_open hs).2.2

theorem addReq_wantsKept (hs : b.shut p = false) : WantsKept b (b.addReq p f orig op addr len cells aop asz grp) :=
  (addReq_open hs).1

/-- R110: the requests for the pieces of a range all reach an open port. -/
theorem each_addReq_wants {α : Type} (l : List α) (o : α → XOrig) (piece : α → Nat × Nat) (d : α → List (Byte × Bool × Bool))
    (hs : b.shut p = false) :
    let c := b.each l fun b x => b.addReq p f (o x) op (piece x).1 (piece x).2 (d x) 0 0 grp
    WantsKept b c ∧ c.shut p = false ∧ ∀ x ∈ l, c.wants p f op (piece x).1 (piece x).2 (o x) := by
  induction l generalizing b with
  | nil => exact ⟨.refl b, hs, fun x hx => absurd hx List.not_mem_nil⟩
  | cons x t ih =>
    obtain ⟨hkept, hopen, hwants⟩ := addReq_open (f := f) (orig := o x) (op := op) (addr := (piece x).1) (len := (piece x).2)
      (cells := d x) (aop := 0) (asz := 0) (grp := grp) hs
    obtain ⟨hkept', hshut, hall⟩ := ih hopen
    refine ⟨hkept.trans hkept', hshut, fun y hy => ?_⟩
    rcases List.mem_cons.1 hy with rfl | hy
    · exact hkept'.wants hwants
    · exact hall y hy

end add

/-! ### Window accesses (R101, R110, R112, R124) -/

section window
variable {b : Block} {r : HReq} {f off : Nat} {winB : Bool} {h : WinHit}

theorem hostRead_window (hok : hreqOk r = true) (hc : b.claims r f (winBar winB) off) :
    b.hostRead r = b.winRead { r with data := [] } f winB off := by
  rw [hostRead, hreqFit_read b hok]
  refine (hostMem_claimed (claims_withData hc []) ..).trans ?_
  cases winB <;> rfl

theorem hostWrite_window (hok : hwriteOk r = true) (hc : b.claims r f (winBar winB) off) : b.hostWrite r = b.winWrite r f winB off := by
  rw [hostWrite, hreqFit_write b hok]
  refine (hostMem_claimed hc ..).trans ?_
  cases winB <;> rfl

theorem hostAtomic_window {op : AtmOp} (hok : hatomicOk r op = true) (hc : b.claims r f (winBar winB) off) :
    b.hostAtomic r op = b.winAtomic r f winB off op := by
  rw [hostAtomic, hreqFit_atomic b hok]
  refine (hostMem_claimed hc ..).trans ?_
  cases winB <;> rfl

/-- The range that a span of a sub-window maps to (R111). -/
def spanRange (h : WinHit) (r : HReq) : Nat × Nat := mappedRange (swapG h.attr.order) h.l0 (hSpan r)

/-- The pieces of that range in a sub-window of class MEM (R110). -/
def spanPieces (b : Block) (p : Nat) (h : WinHit) (r : HReq) : List (Nat × Nat) :=
  memPieces (b.cutW p) (spanRange h r).1 (spanRange h r).2

/-- R101: a zero-length read becomes FLUSH. -/
theorem winRead_zeroLength (hr : b.resolve f winB (off + hFirst r) = some h) (h0 : hSpan r = 0)
    (hs : b.shut (b.portOf f) = false) : (b.winRead r f winB off).wants (b.portOf f) f 5 0 0 (.host b.nextId 0) := by
  unfold winRead
  simp only [hr, h0, beq_self_eq_true, if_true]
  exact (kick_wantsKept ..).wants (addReq_wants hs)

/-- R119: what a read does to the held entries that it overlaps in part leaves the ports as open as they were. -/
theorem partlyRead_shut (b : Block) (f : Nat) (l : List PfEnt) (p : Nat) :
    (b.each l fun b x => (b.pfLost f x 3).pfFree f x.e).shut p = b.shut p :=
  shut_of_fr (m := 0x490010008020000000000000000000000000000001ffe14000000000000000000000060000000000000000000040000000000000000)
    (q := 0x40001200) (Fr.each (fun b x h => pfFree_fr _ f x.e rfl rfl (pfLost_fr b f x 3 rfl rfl h)) (Fr.refl ..)) rfl rfl p

/-- R101, R110: a read of a sub-window of class MEM that no prefetch entry serves becomes a read for each piece. -/
theorem winRead_crosses (hr : b.resolve f winB (off + hFirst r) = some h) (h0 : hSpan r ≠ 0)
    (hsz : sizeOk h.attr (off + hFirst r) (hSpan r) = true) (hw : h.attr.wclass = 0) (hs : b.shut (b.portOf f) = false)
    (hpf : b.pfMatch f (b.portOf f) (spanRange h r).1 (spanRange h r).2 = none) :
    ∀ x ∈ (List.range (b.spanPieces (b.portOf f) h r).length).zip (b.spanPieces (b.portOf f) h r),
      (b.winRead r f winB off).wants (b.portOf f) f 1 x.2.1 x.2.2 (.host b.nextId x.1) := by
  intro x hx
  unfold winRead
  extract_lets p id
  simp -zeta only [hr, h0, hsz, hw, beq_iff_eq, if_false, if_true, Bool.not_true, Bool.false_eq_true]
  extract_lets l0 g served cut b0 ps b1 b2
  rw [show b.pfMatch f p (mappedRange g h.l0 (hSpan r)).1 (mappedRange g h.l0 (hSpan r)).2 = none from hpf]
  obtain ⟨-, -, hall⟩ := each_addReq_wants (b := b1) (f := f) (op := 1) (grp := 0) ((List.range ps.length).zip ps)
    (fun x => .host id x.1) (fun x => x.2) (fun _ => []) ((partlyRead_shut ..).trans hs)
  exact (kick_wantsKept ..).wants ((speculate_wantsKept ..).wants ((kick_wantsKept ..).wants (hall x hx)))

/-- R119, R290: what a write does to the prefetch entries, and what is logged of its poison, leaves the ports as open as they were. -/
theorem pfWrite_shut (b : Block) (f p lo len : Nat) (ep : Bool) (e : LogE) (hdr q : Nat) :
    (if ep then (b.pfWrite f p lo len).logErr f e hdr else b.pfWrite f p lo len).shut q = b.shut q := by
  have hpf := pfWrite_fr b f p lo len (Nat.and_self _) (Nat.and_self _) (Fr.refl ..)
  split
  · exact shut_of_fr (logErr_fr _ f e hdr rfl rfl hpf) rfl rfl q
  · exact shut_of_fr hpf rfl rfl q

/-- The opcode of a posted write: WRF where WMODE and the version allow, WR else (R112). -/
def writeOp (b : Block) (f : Nat) (h : WinHit) : Nat := if h.attr.wmode && decide (b.xver (b.portOf f) ≥ 1) then 3 else 2

/-- R111, R112: a write of a sub-window of class MEM becomes a write for each piece. -/
theorem winWrite_crosses (hr : b.resolve f winB (off + hFirst r) = some h) (h0 : hSpan r ≠ 0)
    (hsz : sizeOk h.attr (off + hFirst r) (hSpan r) = true) (hw : h.attr.wclass = 0) (hs : b.shut (b.portOf f) = false) :
    ∀ x ∈ b.spanPieces (b.portOf f) h r, (b.winWrite r f winB off).wants (b.portOf f) f (b.writeOp f h) x.1 x.2 .posted := by
  intro x hx
  unfold winWrite
  extract_lets p
  simp -zeta only [hr, h0, hsz, hw, show b.shut p = false from hs, beq_iff_eq, if_false, if_true, Bool.not_true, Bool.false_eq_true]
  extract_lets g l0 cell flushMode op ps b0 b1 grp b2 b3
  obtain ⟨h2, hshut, hall⟩ := each_addReq_wants (b := b1) (f := f) (op := op) (grp := grp) ps (fun _ => .posted) (fun x => x)
    (fun x => (List.range x.2).map (fun k => cell (x.1 + k))) ((pfWrite_shut ..).trans hs)
  have h3 : WantsKept b2 b3 := by
    simp only [b3]
    split
    · exact addReq_wantsKept hshut
    · exact .refl b2
  exact (kick_wantsKept ..).wants (h3.wants (hall x hx))

/-- R124: an AtomicOp that its sub-window and its port allow becomes one ATM. -/
theorem winAtomic_crosses {op : AtmOp} (hok : hatomicOk r op = true) (hr : b.resolve f winB off = some h) (ha : h.attr.atomics = true)
    (ho : h.attr.order = 0) (hw : h.attr.wclass = 0) (hx : b.flag .xlbAtm (b.portOf f) = true) (hs : b.shut (b.portOf f) = false) :
    (b.winAtomic r f winB off op).wants (b.portOf f) f 4 h.l0 r.en.length (.host b.nextId 0) := by
  unfold winAtomic
  simp only [hok, hr, ha, ho, hw, hx, hs, beq_self_eq_true, Bool.and_true, Bool.true_or, Bool.not_true, Bool.false_eq_true, if_false]
  exact (kick_wantsKept ..).wants (addReq_wants ((pfWrite_shut ..).trans hs))

end window
end Block

/-- Settles O60: each access that crosses, by the requests that it puts at the port of its function. -/
theorem windowRequests : Obligations.WindowRequests := by
  unfold Obligations.WindowRequests
  intro s r f winB off hc hs
  refine ⟨fun h hr h0 hok => ?zeroLength, fun h hr h0 hsz hw => ⟨fun hok hpf => ?read, fun hok => ?write⟩,
    fun op h hok hr ha ho hw hx => ?atomic⟩
  case zeroLength =>
    refine State.does_of_on (·.hostRead r) rfl (Block.canon_wants ?_)
    rw [Block.hostRead_window hok hc]
    exact Block.winRead_zeroLength (r := { r with data := [] }) hr h0 hs
  case read =>
    refine State.does_of_on (·.hostRead r) rfl fun x hx => Block.canon_wants ?_
    rw [Block.hostRead_window hok hc]
    exact Block.winRead_crosses (r := { r with data := [] }) hr h0 hsz hw hs hpf x hx
  case write =>
    refine State.does_of_on (·.hostWrite r) rfl fun x hx => Block.canon_wants ?_
    rw [Block.hostWrite_window hok hc]
    exact Block.winWrite_crosses hr h0 hsz hw hs x hx
  case atomic =>
    refine State.does_of_on (·.hostAtomic r op) rfl (Block.canon_wants ?_)
    rw [Block.hostAtomic_window hok hc]
    exact Block.winAtomic_crosses hok hr ha ho hw hx hs

end Sys2Proof.Machine
end

section
/-! PROOFS. Shuttle queues: what the operations beside a queue leave of its registers, the halt, the index read and the pump. The
statements about queues (O36 to O41) rest on it. -/
namespace Sys2Proof.Machine
namespace Block

/-- What holds of a block and is kept by every step of a list holds after the list. -/
theorem each_inv {α : Type} {P : Block → Prop} {l : List α} {g : Block → α → Block} (hg : ∀ b, ∀ x ∈ l, P b → P (g b x)) {b : Block}
    (hb : P b) : P (b.each l g) := by
  induction l generalizing b with
  | nil => exact hb
  | cons x t ih => exact ih (fun c y hy => hg c y (List.mem_cons_of_mem _ hy)) (hg b x List.mem_cons_self hb)

/-! ### What leaves the registers of the queues as they are -/

/-- Every register field of every queue reads in b as in a, but for the value last written to its head mailbox. -/
structure QueueRegs (a b : Block) : Prop where
  rd : ∀ {y : Fld}, (Fld.attr y).unit = .queue → y ≠ .qLastWb → ∀ i j, b.rd y i j = a.rd y i j

theorem queueField_bit {y : Fld} (hu : (Fld.attr y).unit = .queue) (hl : y ≠ .qLastWb) :
    Nat.testBit 0x7fffffffc0000000000000000000 y.ctorIdx = true := by
  revert hu hl
  cases y <;> decide

namespace QueueRegs
variable {a b c : Block}

theorem refl (a : Block) : QueueRegs a a := ⟨fun _ _ _ _ => rfl⟩
theorem trans (h : QueueRegs a b) (k : QueueRegs b c) : QueueRegs a c :=
  ⟨fun hu hl i j => (k.rd hu hl i j).trans (h.rd hu hl i j)⟩

/-- An operation whose frame holds no such field. -/
theorem of_fr {m q : Nat} (h : Fr m q a b) (hm : m &&& 0x7fffffffc0000000000000000000 = 0) : QueueRegs a b := by
  refine ⟨fun {y} hu hl i j => h.reg y i j ?_⟩
  have hbit : (m &&& 0x7fffffffc0000000000000000000).testBit y.ctorIdx = false := by rw [hm, Nat.zero_testBit]
  rwa [Nat.testBit_and, queueField_bit hu hl, Bool.and_true] at hbit

theorem qSt (h : QueueRegs a b) (f n : Nat) : b.qSt f n = a.qSt f n := h.rd rfl (by decide) f n

end QueueRegs

section kept
variable (b : Block) (f n : Nat)

theorem queueRegs_quMod (q : Nat) (g : QDyn → QDyn) : QueueRegs b (b.quMod q g) := ⟨fun _ _ => b.quMod_rd q g _⟩
theorem queueRegs_unpark (i : Nat) : QueueRegs b (b.unpark i) := ⟨fun _ _ _ _ => rfl⟩
theorem queueRegs_lkMod (l : Nat) (g : LinkDyn → LinkDyn) : QueueRegs b (b.lkMod l g) := ⟨fun _ _ => b.lkMod_rd l g _⟩
theorem queueRegs_headWb : QueueRegs b (b.headWb f n) := .of_fr (headWb_fr b f n (Nat.and_self _) (Nat.and_self _) (Fr.refl ..)) rfl
theorem queueRegs_qDropWaiting : QueueRegs b (b.qDropWaiting f n) :=
  .of_fr (qDropWaiting_fr b f n (Nat.and_self _) (Nat.and_self _) (Fr.refl ..)) rfl
theorem queueRegs_sample (s : Nat) : QueueRegs b (b.sample f s) :=
  .of_fr (sample_fr b f s (Nat.and_self _) (Nat.and_self _) (Fr.refl ..)) rfl
theorem queueRegs_devEvent (code q info : Nat) : QueueRegs b (b.devEvent f code q info) :=
  .of_fr (devEvent_fr b f code q info (Nat.and_self _) (Nat.and_self _) (Fr.refl ..)) rfl
theorem queueRegs_addNp (own : HOwner) (addr len : Nat) : QueueRegs b (b.addNp f own addr len) :=
  .of_fr (addNp_fr b f own addr len none false none false [] 0 (Nat.and_self _) (Nat.and_self _) (Fr.refl ..)) rfl
theorem queueRegs_pumpNp : QueueRegs b (b.pumpNp f) :=
  .of_fr (pumpNp_fr b f (Nat.and_self _) (Nat.and_self _) (Fr.refl ..)) rfl

end kept

/-! ### Mastering and IDE streams through a write of a field (R193, R235) -/

section wr
variable (b : Block) {y : Fld} (i j v f : Nat)

theorem bme_wr (ha : y ≠ .recActiveLink) (he : y ≠ .cfgBmeEff) (ht : y ≠ .tdiState) (hp : y ≠ .cfgPmState) :
    (b.wr y i j v).bme f = b.bme f := by
  have hset : (b.wr y i j v).actSet f = b.actSet f := by
    rw [actSet, actLink, wr_rd_fld _ ha.symm, actSet, actLink]
    rfl
  rw [bme, d3hot, hset, flag, wr_rd_fld _ he.symm, wr_rd_fld _ ht.symm, wr_rd_fld _ hp.symm, bme, d3hot, flag]

theorem ideCut_wr (ha : y ≠ .recActiveLink) (ht : y ≠ .tdiState) (hd : y ≠ .ideDw) (x : Option Nat) :
    (b.wr y i j v).ideCut f x = b.ideCut f x := by
  have hact : (b.wr y i j v).actLink f = b.actLink f := wr_rd_fld _ ha.symm ..
  have htdi : (b.wr y i j v).tdiOn f = b.tdiOn f := by rw [tdiOn, wr_rd_fld _ ht.symm, tdiOn]
  have hreg : (b.wr y i j v).ideReg = b.ideReg := funext fun l => funext fun k => wr_rd_fld _ hd.symm ..
  have hrid : (b.wr y i j v).ridOf f = b.ridOf f := by
    rw [ridOf, hact, ridOf]
    rfl
  have hstr : (b.wr y i j v).txStream f x = b.txStream f x := by
    simp only [txStream, selFor, selOf, selOn, selCovers, selAdmits, hrid, hact, hreg, htdi]
    rfl
  simp only [ideCut, hstr, hact, htdi]
  rfl

end wr

/-! ### The halt (R151) -/

/-- A queue between ARMED and DRAINING can halt. -/
theorem qDead_live {b : Block} {f n : Nat} (h1 : 1 ≤ b.qSt f n) (h5 : b.qSt f n ≤ 5) : b.qDead f n = false := by
  simp only [qDead, Bool.or_eq_false_iff, beq_eq_false_iff_ne]
  simp only [qSt] at h1 h5
  omega

/-! ### The head write-back (R146) -/

theorem headWb_written {b : Block} {f n : Nat} (h : b.rd .qHead f n = b.rd .qLastWb f n) :
    b.headWb f n = b.quMod (qix f n) (fun d => { d with wbWait := false }) := by
  simp [headWb, h]

/-! ### The index read (R138) -/

section index
variable {b : Block} {f n : Nat}

theorem addNp_qu (b : Block) (f : Nat) (own : HOwner) (addr len q : Nat) : (b.addNp f own addr len).qu q = b.qu q :=
  (addNp_fr b f own addr len none false none false [] 0 (Nat.and_self _) (Nat.and_self _) (Fr.refl ..)).part .queues rfl q

theorem devEvent_qu (b : Block) (f code q info u : Nat) : (b.devEvent f code q info).qu u = b.qu u :=
  (devEvent_fr b f code q info (Nat.and_self _) (Nat.and_self _) (Fr.refl ..)).part .queues rfl u

theorem sample_qu (b : Block) (f s u : Nat) : (b.sample f s).qu u = b.qu u :=
  (sample_fr b f s (Nat.and_self _) (Nat.and_self _) (Fr.refl ..)).part .queues rfl u

theorem post_qu (b : Block) (l : Nat) (w : PWr) (u : Nat) : (b.post l w).qu u = b.qu u :=
  (post_fr b l w (Nat.and_self _) (Nat.and_self _) (Fr.refl ..)).part .queues rfl u

/-- What an update leaves of a queue's record it leaves of every queue's. -/
theorem quMod_keeps {α : Type} (π : QDyn → α) (b : Block) (u q : Nat) {g : QDyn → QDyn} (hg : ∀ d, π (g d) = π d) :
    π ((b.quMod u g).qu q) = π (b.qu q) := by
  by_cases hq : q = u
  · rw [hq, quMod_qu_self, hg]
  · rw [quMod_qu_ne b hq]

/-- A write-back changes of a queue only what it says of write-backs and coalescing. -/
theorem headWb_keeps {α : Type} (π : QDyn → α)
    (hπ : ∀ (d : QDyn) w o c t, π { d with wbWait := w, wbOut := o, coalN := c, coalT := t } = π d) (b : Block) (f n q : Nat) :
    π ((b.headWb f n).qu q) = π (b.qu q) := by
  unfold headWb
  extract_lets u h b1
  split
  · exact quMod_keeps π _ _ _ fun d => hπ d ..
  · split
    · refine .trans (quMod_keeps π _ _ _ fun d => hπ d ..) ?_
      rw [wr_qu, post_qu]
    · exact quMod_keeps π _ _ _ fun d => hπ d ..

theorem qDropWaiting_idxOut (b : Block) (f n q : Nat) : ((b.qDropWaiting f n).qu q).idxOut = (b.qu q).idxOut :=
  quMod_keeps QDyn.idxOut _ _ _ fun _ => rfl

/-- R151: a halt does not withdraw an index read that is out. -/
theorem haltQ_idxOut (b : Block) (f n cause detail desc frag q : Nat) :
    ((b.haltQ f n cause detail desc frag).qu q).idxOut = (b.qu q).idxOut := by
  unfold haltQ
  extract_lets st b1 keep bare b2
  split
  · rfl
  · rw [devEvent_qu, sample_qu, headWb_keeps QDyn.idxOut fun _ _ _ _ _ => rfl]
    refine .trans (quMod_keeps QDyn.idxOut _ _ _ fun _ => rfl) ?_
    exact qDropWaiting_idxOut b1 f n q

theorem each_addNp_qu {α : Type} (b : Block) (f : Nat) (l : List α) (own : Block → α → HOwner) (addr len : Block → α → Nat) (q : Nat) :
    (b.each l (fun b x => b.addNp f (own b x) (addr b x) (len b x))).qu q = b.qu q :=
  each_inv (P := fun c => c.qu q = b.qu q) (fun c _ _ h => (addNp_qu c ..).trans h) rfl

theorem descRead_idxOut (b : Block) (f n k q : Nat) : ((b.descRead f n k).qu q).idxOut = (b.qu q).idxOut := by
  unfold descRead
  split
  · exact haltQ_idxOut ..
  · extract_lets u size cur ps b1
    rw [each_addNp_qu]
    exact quMod_keeps QDyn.idxOut _ _ _ fun _ => rfl

/-- The index read is out, whatever the hint reads beside it. -/
theorem indexFetch_idxOut (hc : b.ideCut f (some (b.rd .qPidxAddr f n * 4)) = false) (hint : Option Nat) :
    ((b.indexFetch f n hint).q f n).idxOut = true := by
  unfold indexFetch
  rw [if_neg (by rw [hc]; decide)]
  extract_lets q b1
  have h1 : (b1.qu q).idxOut = true := by
    rw [addNp_qu, quMod_qu_self]
  split
  · exact h1
  · extract_lets k
    split
    · exact (descRead_idxOut ..).trans h1
    · exact h1

/-- Without a hint the state of the queue stays. -/
theorem indexFetch_qSt (hc : b.ideCut f (some (b.rd .qPidxAddr f n * 4)) = false) : (b.indexFetch f n none).qSt f n = b.qSt f n := by
  unfold indexFetch
  rw [if_neg (by rw [hc]; decide)]
  extract_lets q b1
  have hkept : QueueRegs (b.wr .qRefetch f n 0) b1 := (queueRegs_quMod ..).trans (queueRegs_addNp ..)
  exact (hkept.qSt f n).trans (wr_rd_fld _ (by decide) ..)

end index

/-! ### What a queue does by itself (R148) -/

section pump
variable {b : Block} {f n : Nat}

/-- Outside of ARMED and RUNNING a queue whose next chunk to write is not staged does nothing by itself. -/
theorem qPump_idle (h1 : b.qSt f n ≠ 1) (h2 : b.qSt f n ≠ 2)
    (hw : ∀ c, (b.q f n).chunks.find? (fun c => c.st != .writing && c.st != .done) = some c → c.st ≠ .staged) :
    b.qPump f n = b := by
  have hwrites : ∀ k, b.qWrites f n k = b := fun k => by
    cases k with
    | zero => rfl
    | succ k =>
      unfold qWrites
      dsimp only
      split
      · rfl
      · next c hc => rw [if_neg (by simp [hw c hc])]
  unfold qPump
  dsimp only
  rw [hwrites]
  simp [h1, h2]

/-- The pump leaves where a queue stands, what it has counted and its driver's pause. -/
theorem qPump_kept (b : Block) (f n : Nat) {y : Fld} (hy : y = .qHead ∨ y = .qProd ∨ y = .qCntDone ∨ y = .qPauseDrv) (i j : Nat) :
    (b.qPump f n).rd y i j = b.rd y i j := by
  refine (qPump_fr b f n (Nat.and_self _) (Nat.and_self _) (Fr.refl ..)).reg y i j ?_
  rcases hy with rfl | rfl | rfl | rfl <;> rfl

end pump

end Block
end Sys2Proof.Machine
end

section
/-! PROOFS. The commands of a Shuttle queue (O36), and the order in which a write to SHT_QCMD takes them (O37). -/
namespace Sys2Proof.Machine
namespace Block
variable {b : Block} {f n : Nat}

/-! ### The bits of SHT_QCMD (R134) -/

section cmd
variable (hm : (b.q f n).moving = false)
include hm

theorem qCmd_enable : b.qCmd f n 1 = b.qEnable f n := by simp [qCmd, hm, bit]
theorem qCmd_disable : b.qCmd f n 2 = b.qDisable f n := by simp [qCmd, hm, bit]
theorem qCmd_pause : b.qCmd f n 4 = b.qPause f n := by simp [qCmd, hm, bit]
theorem qCmd_resume : b.qCmd f n 8 = b.qResume f n := by simp [qCmd, hm, bit]
theorem qCmd_reset : b.qCmd f n 16 = b.qReset f n := by simp [qCmd, hm, bit]

/-- R134: the command of highest precedence is the one performed. -/
theorem qCmd_order (v : Nat) : b.qCmd f n v = if bit v 4 then b.qReset f n else if bit v 1 then b.qDisable f n
    else if bit v 2 then b.qPause f n else if bit v 3 then b.qResume f n else if bit v 0 then b.qEnable f n else b := by
  rw [qCmd, if_neg (by rw [hm]; decide)]

end cmd

/-! ### RESET, PAUSE and RESUME (R150, Table 5.6) -/

theorem qReset_started (b : Block) (f n : Nat) : (b.qReset f n).rd .qState f n = 0 ∧ (b.qReset f n).rd .qResetBusy f n = 1 := by
  unfold qReset
  extract_lets q b1 b2 unsent
  have hkept : QueueRegs ((b.wr .qState f n 0).wr .qResetBusy f n 1) b2 := (queueRegs_qDropWaiting ..).trans (queueRegs_lkMod ..)
  have hall := fun g => (hkept.trans (queueRegs_quMod b2 q g)).trans (queueRegs_sample _ f 8)
  refine ⟨((hall _).rd rfl (by decide) f n).trans ?_, ((hall _).rd rfl (by decide) f n).trans (wr_rd_self ..)⟩
  rw [wr_rd_fld _ (by decide)]
  exact wr_rd_self ..

section pause
variable (h6 : b.qSt f n ≠ 6) (hr : b.flag .qResetBusy f n = false)
include h6 hr

/-- The driver's pause is set, and a queue that runs pauses. -/
theorem qPause_paused : (b.qPause f n).rd .qPauseDrv f n = 1 ∧
    (b.qPause f n).rd .qState f n = if b.qSt f n = 1 ∨ b.qSt f n = 2 then 3 else b.qSt f n := by
  have hst : (b.wr .qPauseDrv f n 1).qSt f n = b.qSt f n := wr_rd_fld _ (by decide) ..
  have hdrv : (b.wr .qPauseDrv f n 1).rd .qPauseDrv f n = 1 := wr_rd_self ..
  rw [qPause, if_neg (by simp [h6, hr]), qPausing, hst]
  by_cases h : b.qSt f n = 1 ∨ b.qSt f n = 2
  · rw [if_pos (by simpa using h), if_pos h]
    exact ⟨(wr_rd_fld _ (by decide) ..).trans hdrv, wr_rd_self ..⟩
  · rw [if_neg (by simpa using h), if_neg h]
    exact ⟨hdrv, hst⟩

theorem qResume_cleared : (b.qResume f n).rd .qPauseDrv f n = 0 := by
  rw [qResume, if_neg (by simp [h6, hr])]
  exact ((qUnpause_fr _ f n (Nat.and_self _) (Nat.and_self _) (Fr.refl ..)).reg .qPauseDrv f n rfl).trans (wr_rd_self ..)

end pause

/-! ### DISABLE and ENABLE (R148, R153) -/

/-- A queue without chunks drains at once as far as it does by itself. -/
theorem qDisable_drains (h1 : 1 ≤ b.qSt f n) (h4 : b.qSt f n ≤ 4) (hc : (b.q f n).chunks = []) :
    (b.qDisable f n).rd .qState f n = 5 := by
  have hdis : b.qDisable f n = ((b.wr .qState f n 5).quMod (qix f n) (fun d => { d with
      idxIn := none, descIn := [], fragIn := [], hint := none })).qPump f n := by
    have hst : b.qSt f n = 1 ∨ b.qSt f n = 2 ∨ b.qSt f n = 3 ∨ b.qSt f n = 4 := by omega
    rcases hst with h | h | h | h <;> (rw [qDisable, h]; rfl)
  have h5 : ∀ g, ((b.wr .qState f n 5).quMod (qix f n) g).qSt f n = 5 := fun _ => wr_rd_self ..
  rw [hdis, qPump_idle (by rw [h5]; decide) (by rw [h5]; decide)]
  · exact h5 _
  · intro c hfind
    rw [q, quMod_qu_self] at hfind
    change (b.q f n).chunks.find? _ = _ at hfind
    rw [hc] at hfind
    cases hfind

theorem qDisable_disarms (h5 : b.qSt f n = 5) : (b.qDisable f n).rd .qArmPending f n = 0 := by
  rw [qDisable, h5]
  exact wr_rd_self ..

theorem qEnable_arms (h5 : b.qSt f n = 5) : (b.qEnable f n).rd .qArmPending f n = 1 := by
  rw [qEnable, h5]
  exact wr_rd_self ..

section enable
variable (h0 : b.qSt f n = 0) (ha : b.val .qAvailable f n ≠ 0) (hr : b.flag .qResetBusy f n = false)

theorem ctxBad_lt (b : Block) (f n : Nat) : b.ctxBad f n < 4 := by
  unfold ctxBad
  dsimp only
  split
  · decide
  · split
    · decide
    · split <;> decide

include h0 ha hr in
/-- R148: an invalid context halts the queue. -/
theorem qEnable_badContext (hbad : b.ctxBad f n ≠ 0) : (b.qEnable f n).qHalted f n 12 (b.ctxBad f n) := by
  have hen : b.qEnable f n = (b.wr .qState f n 1).haltQ f n 12 (b.ctxBad f n) 0 0 := by
    simp only [qEnable, h0, beq_eq_false_iff_ne.2 ha, hr, Bool.or_self, Bool.false_eq_true, if_false]
  have hst : (b.wr .qState f n 1).qSt f n = 1 := wr_rd_self ..
  rw [hen]
  exact haltQ_halted (qDead_live hst.ge (by rw [hst]; decide)) (by decide) ((b.ctxBad_lt f n).trans_le (by decide)) ..

include h0 ha hr in
/-- R148: with a valid context the queue leaves DISABLED. -/
theorem qEnable_goodContext (hgood : b.ctxBad f n = 0) : b.qEnable f n = (b.unpark (b.shuttleOf f n)).qArm f n := by
  simp only [qEnable, h0, beq_eq_false_iff_ne.2 ha, hr, Bool.or_self, Bool.false_eq_true, if_false, hgood]

end enable

/-- The pause causes of a queue that leaves DISABLED: the driver's, and that of Bus Master Enable as it stands. -/
theorem qArm_cause (b : Block) (f n : Nat) (g : QDyn → QDyn) : ((b.wr .qPauseBme f n (b2n (!b.bme f))).quMod (qix f n) g).qCause f n =
    (b.flag .qPauseDrv f n || !b.bme f) := by
  have hbme : (b.wr .qPauseBme f n (b2n (!b.bme f))).flag .qPauseBme f n = !b.bme f := by
    rw [flag, wr_rd_self]
    cases b.bme f <;> rfl
  have hdrv : (b.wr .qPauseBme f n (b2n (!b.bme f))).flag .qPauseDrv f n = b.flag .qPauseDrv f n := by
    rw [flag, wr_rd_fld _ (by decide), flag]
  rw [qCause, quMod_flag, quMod_flag, hbme, hdrv]

/-- R148: with a pause cause the queue is PAUSED and remembers to fetch. -/
theorem qArm_paused (hp : b.bme f = false ∨ b.flag .qPauseDrv f n = true) :
    (b.qArm f n).rd .qState f n = 4 ∧ (b.qArm f n).rd .qRefetch f n = 1 := by
  unfold qArm
  extract_lets b1
  have hcause : b1.qCause f n = true := by
    rw [qArm_cause]
    rcases hp with h | h <;> simp [h]
  have hkept := (queueRegs_headWb ((b1.wr .qState f n 4).wr .qRefetch f n 1) f n).trans (queueRegs_devEvent _ f 2 n n)
  rw [if_pos hcause]
  refine ⟨(hkept.rd rfl (by decide) f n).trans ?_, (hkept.rd rfl (by decide) f n).trans (wr_rd_self ..)⟩
  rw [wr_rd_fld _ (by decide)]
  exact wr_rd_self ..

/-- R148: without one the queue is ARMED and reads its index. -/
theorem qArm_armed (hb : b.bme f = true) (hp : b.flag .qPauseDrv f n = false)
    (hc : b.ideCut f (some (b.rd .qPidxAddr f n * 4)) = false) (hw : b.rd .qHead f n = b.rd .qLastWb f n) :
    (b.qArm f n).rd .qState f n = 1 ∧ ((b.qArm f n).q f n).idxOut = true := by
  unfold qArm
  extract_lets b1
  have hcause : b1.qCause f n = false := by
    rw [qArm_cause, hb, hp]
    rfl
  have hrd : ∀ {y : Fld}, y ≠ .qState → y ≠ .qPauseBme → (b1.wr .qState f n 1).rd y f n = b.rd y f n := fun h1 h2 =>
    (wr_rd_fld _ h1 ..).trans (wr_rd_fld b h2 ..)
  have hwb : (b1.wr .qState f n 1).headWb f n = (b1.wr .qState f n 1).quMod (qix f n) (fun d => { d with wbWait := false }) :=
    headWb_written ((hrd (by decide) (by decide)).trans (hw.trans (hrd (by decide) (by decide)).symm))
  have hcut : (b1.wr .qState f n 1).ideCut f (some ((b1.wr .qState f n 1).rd .qPidxAddr f n * 4)) = false := by
    rw [hrd (by decide) (by decide), ideCut_wr _ _ _ _ _ (by decide) (by decide) (by decide)]
    exact (ideCut_wr b _ _ _ _ (by decide) (by decide) (by decide) _).trans hc
  rw [if_neg (by rw [hcause]; decide), hwb]
  exact ⟨(indexFetch_qSt (by exact hcut)).trans (wr_rd_self ..), indexFetch_idxOut (by exact hcut) none⟩

end Block

/-- A command on a queue of an existing function that does not move. -/
theorem State.does_qCmd {s : State} {c : Instr} {f : FnIx} {n : QIx} {v : Nat} {p : Block → Prop} {b : Block}
    (hc : exec c s = s.on (fun b => b.ifFn f.val (fun b => b.qCmd f.val n.val v))) (he : s.blk.fnExists f.val = true)
    (hcmd : s.blk.qCmd f.val n.val v = b) (hp : p b.canon) : s.does c p := by
  refine State.does_of_on _ hc ?_
  rwa [Block.ifFn, if_pos he, hcmd]

/-- Settles O36, command by command and state by state. -/
theorem queueCommands : Obligations.QueueCommands := by
  unfold Obligations.QueueCommands
  intro s f n he hm
  refine ⟨?reset, fun h6 hr => ⟨?pause, ?resume⟩, fun h1 h4 hc => ?disable, fun h5 => ⟨?disarm, ?arm⟩,
    fun h0 ha hr => ⟨fun hbad => ?badContext, fun hgood hp => ?enablePaused, fun hgood hb hp hcut hw => ?enable⟩⟩
  case reset =>
    refine State.does_qCmd rfl he (Block.qCmd_reset hm) ?_
    simpa only [Block.canon_rd] using Block.qReset_started s.blk f.val n.val
  case pause =>
    refine State.does_qCmd rfl he (Block.qCmd_pause hm) ?_
    simpa only [Block.canon_rd] using Block.qPause_paused h6 hr
  case resume =>
    refine State.does_qCmd rfl he (Block.qCmd_resume hm) ?_
    simpa only [Block.canon_rd] using Block.qResume_cleared h6 hr
  case disable =>
    refine State.does_qCmd rfl he (Block.qCmd_disable hm) ?_
    simpa only [Block.canon_rd] using Block.qDisable_drains h1 h4 hc
  case disarm =>
    refine State.does_qCmd rfl he (Block.qCmd_disable hm) ?_
    simpa only [Block.canon_rd] using Block.qDisable_disarms h5
  case arm =>
    refine State.does_qCmd rfl he (Block.qCmd_enable hm) ?_
    simpa only [Block.canon_rd] using Block.qEnable_arms h5
  case badContext =>
    exact State.does_qCmd rfl he (Block.qCmd_enable hm) (Block.canon_qHalted (Block.qEnable_badContext h0 ha hr hbad))
  case enablePaused =>
    refine State.does_qCmd rfl he ((Block.qCmd_enable hm).trans (Block.qEnable_goodContext h0 ha hr hgood)) ?_
    simpa only [Block.canon_rd] using Block.qArm_paused (b := s.blk.unpark (s.blk.shuttleOf f.val n.val)) hp
  case enable =>
    refine State.does_qCmd rfl he ((Block.qCmd_enable hm).trans (Block.qEnable_goodContext h0 ha hr hgood)) ?_
    rw [Block.canon_rd, Block.q, Block.canon_qu]
    exact Block.qArm_armed (b := s.blk.unpark (s.blk.shuttleOf f.val n.val)) hb hp hcut hw

theorem bit_toNat {w : Nat} (v : BitVec w) (k : Nat) : bit v.toNat k = v.getLsbD k :=
  Block.bit_eq_testBit v.toNat k

/-- Settles O37: the write reaches SHT_QCMD, whose bits are taken in their order. -/
theorem queueCommandOrder : Obligations.QueueCommandOrder := by
  unfold Obligations.QueueCommandOrder
  intro s r f n v hc he hen hok hep hv
  have hl : r.data.length = 4 := by
    simp only [hwriteOk, Bool.and_eq_true, beq_iff_eq, hen] at hok
    exact hok.2
  have hoff : (0x8000 + 512 * n.val + 32 - 0x8000) / 512 = n.val := by omega
  have hw : s.blk.hostWrite r = s.blk.qCmd f.val n.val v.toNat := by
    rw [Block.hostWrite_fcp hok hc, Block.fcpWriteReq_dword _ _ hen hl hep (by omega) (by omega), hv,
      Block.fcpDwordW_qCmd _ _ _ (by omega) (by omega) (by omega), hoff]
  refine ⟨fun hm => ?performed, fun hm => ?held⟩
  case performed =>
    have hexec : ∀ {c : Instr} {u : Nat} {b : Block}, exec c s = s.on (fun b => b.ifFn f.val (fun b => b.qCmd f.val n.val u)) →
        s.blk.qCmd f.val n.val u = b → exec c s = .next { s with blk := b.canon } := fun hc hu => by
      rw [hc, on_eq, Block.ifFn, if_pos he, hu]
    have hwrite : exec (.registerWrite r) s = .next { s with blk := (s.blk.hostWrite r).canon } := rfl
    rw [hwrite, hw, Block.qCmd_order hm, hexec rfl (Block.qCmd_reset hm), hexec rfl (Block.qCmd_disable hm),
      hexec rfl (Block.qCmd_pause hm), hexec rfl (Block.qCmd_resume hm), hexec rfl (Block.qCmd_enable hm)]
    simp only [bit_toNat]
    split_ifs <;> rfl
  case held =>
    refine State.does_of_on (·.hostWrite r) rfl ?_
    rw [hw, Block.qCmd, if_pos hm, Block.q, Block.canon_qu, Block.qHold, Block.quMod_qu_self]
    exact ⟨rfl, Block.canon_rd _⟩

end Sys2Proof.Machine
end

section
/-! PROOFS. Consumer indices of the error log and of the event ring, and the event ring control (O41). -/
namespace Sys2Proof.Machine
namespace Block
variable {b : Block} {f v : Nat}

theorem bits_lt (v lo n : Nat) : bits v lo n < 2 ^ n := Nat.mod_lt _ (Nat.two_pow_pos n)

/-! ### Consumer indices (R159, R289) -/

/-- R289: the error log's index moves only to where it may. -/
theorem errCons_index (b : Block) (f v : Nat) : (b.errCons f v).rd .errCons f =
    if consOk (b.rd .errProd f) (b.rd .errCons f) (v % 65536) 65536 then v % 65536 else b.rd .errCons f := by
  unfold errCons
  extract_lets n
  split
  · exact (wr_rd_self ..).trans (Nat.mod_mod v 65536)
  · rfl

theorem evtConsW_taken (h : consOk (b.rd .evtProd f) (b.rd .evtCons f) v (2 ^ 32) = true) (hv : v < 2 ^ 32) :
    (b.evtConsW f v).rd .evtCons f = v := by
  rw [evtConsW, if_pos h, (evPump_fr _ f (Nat.and_self _) (Nat.and_self _) (Fr.refl ..)).reg .evtCons f 0 rfl]
  exact (wr_rd_self ..).trans (Nat.mod_eq_of_lt hv)

/-- R159: an index past the producer is left, and logged. -/
theorem evtConsW_refused (h : consOk (b.rd .evtProd f) (b.rd .evtCons f) v (2 ^ 32) = false) :
    (b.evtConsW f v).rd .evtCons f = b.rd .evtCons f ∧ b.errLogged (b.evtConsW f v) f 15 0 := by
  rw [evtConsW, if_neg (by rw [h]; decide)]
  exact ⟨(logErr_fr b f { code := 15, aux := v } 0 (Nat.and_self _) (Nat.and_self _) (Fr.refl ..)).reg .evtCons f 0 rfl,
    logErr_errLogged b f { code := 15, aux := v } 0 (show 15 < _ by decide) (show 0 < _ by decide)⟩

/-! ### The control of the event ring (R155) -/

/-- A ring for which no record waits writes none. -/
theorem evPump_empty (hd : (b.fn f).devs = []) (hr : (b.fn f).recs = []) : b.evPump f = b.sample f 9 := by
  rw [evPump, hd, hr]
  simp [evPumpN, hd, hr]

/-- The bits of the status W1C are cleared without touching another field. -/
theorem fldWrite_evtFull (b : Block) (f w : Nat) : ∃ x, b.fldWrite .evtEvtFull f 0 w = b.wr .evtEvtFull f 0 x := ⟨_, rfl⟩

/-- A ring that is enabled is emptied, and takes a size of 4 to 16. -/
theorem evtCtrl_enables (he : b.flag .evtEn f = false) (hen : bit v 0 = true) (h4 : 4 ≤ bits v 1 5) (h16 : bits v 1 5 ≤ 16)
    (hd : (b.fn f).devs = []) (hr : (b.fn f).recs = []) : (b.evtCtrl f v).rd .evtEn f = 1 ∧
      (b.evtCtrl f v).rd .evtLog2 f = bits v 1 5 ∧ (b.evtCtrl f v).rd .evtProd f = b.rd .evtCons f % 2 ^ 32 := by
  have hsize : b.fldWrite .evtLog2 f 0 (bits v 1 5) = b.wr .evtLog2 f 0 (bits v 1 5) := by
    have hok : (encOk .evtLog2 (bits v 1 5) && true) = true := by simp [encOk, h4, h16]
    exact if_pos hok
  have hbit : bits v 0 1 = 1 := by simpa [bit, bits] using hen
  obtain ⟨x, hx⟩ := fldWrite_evtFull ((b.wr .evtLog2 f 0 (bits v 1 5)).wr .evtEn f 0 1) f (bits v 9 1)
  unfold evtCtrl
  rw [he]
  simp only [Bool.false_eq_true, if_false, Bool.not_false, Bool.true_and, hen, if_true, hsize, hbit, hx]
  rw [evPump_empty (by exact hd) (by exact hr)]
  have hkept := sample_fr ((((b.wr .evtLog2 f 0 (bits v 1 5)).wr .evtEn f 0 1).wr .evtEvtFull f 0 x).wr .evtProd f 0
    ((((b.wr .evtLog2 f 0 (bits v 1 5)).wr .evtEn f 0 1).wr .evtEvtFull f 0 x).rd .evtCons f)) f 9
    (Nat.and_self _) (Nat.and_self _) (Fr.refl ..)
  rw [hkept.reg .evtEn f 0 rfl, hkept.reg .evtLog2 f 0 rfl, hkept.reg .evtProd f 0 rfl]
  simp only [wr_rd_fld, wr_rd_self, ne_eq, reduceCtorEq, not_false_eq_true]
  exact ⟨rfl, Nat.mod_eq_of_lt (bits_lt v 1 5), rfl⟩

/-- The size of an enabled ring stays. -/
theorem evtCtrl_enabled (he : b.flag .evtEn f = true) : (b.evtCtrl f v).rd .evtEn f = bits v 0 1 ∧
    (b.evtCtrl f v).rd .evtLog2 f = b.rd .evtLog2 f := by
  obtain ⟨x, hx⟩ := fldWrite_evtFull (b.wr .evtEn f 0 (bits v 0 1)) f (bits v 9 1)
  have hkept := evPump_fr ((b.wr .evtEn f 0 (bits v 0 1)).wr .evtEvtFull f 0 x) f (Nat.and_self _) (Nat.and_self _) (Fr.refl ..)
  unfold evtCtrl
  rw [he]
  simp only [if_true, Bool.not_true, Bool.false_and, Bool.false_eq_true, if_false, hx]
  rw [hkept.reg .evtEn f 0 rfl, hkept.reg .evtLog2 f 0 rfl]
  simp only [wr_rd_fld, wr_rd_self, ne_eq, reduceCtorEq, not_false_eq_true, and_true]
  exact Nat.mod_eq_of_lt (bits_lt v 0 1)

end Block

/-- A command with an effect on an existing function. -/
theorem State.does_ifFn {s : State} {c : Instr} {f : FnIx} {p : Block → Prop} (g : Block → Block)
    (hc : exec c s = s.on (fun b => b.ifFn f.val g)) (he : s.blk.fnExists f.val = true) (hp : p (g s.blk).canon) : s.does c p := by
  refine State.does_of_on _ hc ?_
  rwa [Block.ifFn, if_pos he]

/-- Settles O41, by what each write stores. -/
theorem eventsAndErrorLog : Obligations.EventsAndErrorLog := by
  unfold Obligations.EventsAndErrorLog
  intro s f he
  refine ⟨fun v => ?errCons, fun v hok => ?taken, fun v hbad => ?refused, fun v hoff hen h4 h16 hd hr => ?enable, fun v hon => ?enabled⟩
  case errCons =>
    refine State.does_ifFn (·.errCons f.val v.toNat) rfl he ?_
    rw [Block.canon_rd]
    exact Block.errCons_index ..
  case taken =>
    refine State.does_ifFn (·.evtConsW f.val v.toNat) rfl he ?_
    rw [Block.canon_rd]
    exact Block.evtConsW_taken hok v.isLt
  case refused =>
    refine State.does_ifFn (·.evtConsW f.val v.toNat) rfl he ?_
    obtain ⟨hkept, hlog⟩ := Block.evtConsW_refused hbad
    exact ⟨(Block.canon_rd ..).trans hkept, Block.canon_errLogged hlog⟩
  case enable =>
    refine State.does_ifFn (·.evtCtrl f.val v.toNat) rfl he ?_
    simpa only [Block.canon_rd] using Block.evtCtrl_enables hoff hen h4 h16 hd hr
  case enabled =>
    refine State.does_ifFn (·.evtCtrl f.val v.toNat) rfl he ?_
    simpa only [Block.canon_rd] using Block.evtCtrl_enabled hon

end Sys2Proof.Machine
end

section
/-! PROOFS. Doorbells, producer indices and fragment tables of Shuttle queues (O39). -/
namespace Sys2Proof.Machine
namespace Block
variable {b : Block} {f n : Nat}

/-! ### Doorbells (R137, R148) -/

section bell
variable (hm : (b.q f n).moving = false)
include hm

/-- The doorbell of a queue that pauses is remembered. -/
theorem qBell_paused (hst : b.qSt f n = 3 ∨ b.qSt f n = 4) (hint : Option Nat) : b.qBell f n hint =
    ((b.unpark (b.shuttleOf f n)).wr .qRefetch f n 1).quMod (qix f n) (fun d => { d with hint := hint }) := by
  rw [qBell, if_neg (by rw [hm]; decide)]
  rcases hst with h | h <;> (rw [h]; rfl)

/-- The doorbell of a running queue reads the index, when no index read is out. -/
theorem qBell_running (hst : b.qSt f n = 1 ∨ b.qSt f n = 2) (hin : (b.q f n).idxIn = none) (hout : (b.q f n).idxOut = false)
    (hint : Option Nat) : b.qBell f n hint = (b.unpark (b.shuttleOf f n)).indexFetch f n hint := by
  have hidle : ¬ ((b.qu (qix f n)).idxOut || (b.qu (qix f n)).idxIn.isSome) = true := by
    rw [show (b.qu (qix f n)).idxOut = false from hout, show (b.qu (qix f n)).idxIn = none from hin]
    decide
  rw [qBell, if_neg (by rw [hm]; decide)]
  rcases hst with h | h <;> (rw [h]; exact if_neg hidle)

end bell

/-! ### The producer index (R136) -/

section index
variable {x : FetchIn} (hm : (b.q f n).moving = false) (hx : (b.q f n).idxIn = some x) (h1 : 1 ≤ b.qSt f n)
include hm hx h1

/-- R136: what becomes of the producer index of a queue that is not DISABLED and not HALTED. -/
theorem qIndex_eq (h5 : b.qSt f n ≤ 5) : b.qIndex f n =
    let b1 := b.quMod (qix f n) (fun d => { d with idxIn := none })
    let prod := b.rd .qProd f n
    let p := leNat (x.data.map (·.1)) % 2 ^ 32
    if x.st != 0 then b1.haltQ f n 13 x.st prod 0
    else if b.qSt f n == 5 then b1
    else if x.data.any (·.2) then b1.haltQ f n 13 4 prod 0
    else if b.qPend f n p > b.ringSize f n then b1.haltQ f n 8 0 p 0
    else if b.qPend f n p < b.qPend f n prod then b1.haltQ f n 9 0 p 0
    else
      let b2 := (b1.wr .qProd f n p).descTrim f n p
      (if b.qSt f n == 1 && b2.qPend f n p > 0 then b2.wr .qState f n 2 else b2).qPump f n := by
  have hlive : ¬ (b.qSt f n == 0 || b.qSt f n == 6) = true := by
    simp only [Bool.or_eq_true, beq_iff_eq]
    omega
  simp only [q] at hm hx
  simp only [qIndex, hx, hm, Bool.false_eq_true, if_false, if_neg hlive]

/-- R152: a failed index read halts the queue with FETCH_ERROR. -/
theorem qIndex_failed (h5 : b.qSt f n ≤ 5) (h0 : x.st ≠ 0) (hst : x.st < 256) : (b.qIndex f n).qHalted f n 13 x.st := by
  rw [qIndex_eq hm hx h1 h5]
  dsimp only
  rw [if_pos (by simpa using h0)]
  exact haltQ_halted (by exact qDead_live h1 h5) (by decide) hst ..

section good
variable (h4 : b.qSt f n ≤ 4) (h0 : x.st = 0) (hp : x.data.any (·.2) = false) {p : Nat} (hval : p = leNat (x.data.map (·.1)) % 2 ^ 32)
include h4 h0 hp hval

/-- An index that has been read without a fault is judged by its distance from HEAD. -/
theorem qIndex_good : b.qIndex f n =
    let b1 := b.quMod (qix f n) (fun d => { d with idxIn := none })
    if b.qPend f n p > b.ringSize f n then b1.haltQ f n 8 0 p 0
    else if b.qPend f n p < b.qPend f n (b.rd .qProd f n) then b1.haltQ f n 9 0 p 0
    else
      let b2 := (b1.wr .qProd f n p).descTrim f n p
      (if b.qSt f n == 1 && b2.qPend f n p > 0 then b2.wr .qState f n 2 else b2).qPump f n := by
  have h5 : ¬ (b.qSt f n == 5) = true := by
    rw [beq_iff_eq]
    omega
  rw [qIndex_eq hm hx h1 (h4.trans (by decide)), ← hval]
  dsimp only
  rw [if_neg (by rw [h0]; decide), if_neg h5, if_neg (by rw [hp]; decide)]

theorem qIndex_beyond (hfar : b.ringSize f n < b.qPend f n p) : (b.qIndex f n).qHalted f n 8 0 := by
  rw [qIndex_good hm hx h1 h4 h0 hp hval]
  dsimp only
  rw [if_pos hfar]
  exact haltQ_halted (by exact qDead_live h1 (h4.trans (by decide))) (by decide) (by decide) ..

theorem qIndex_behind (hnear : b.qPend f n p ≤ b.ringSize f n) (hback : b.qPend f n p < b.qPend f n (b.rd .qProd f n)) :
    (b.qIndex f n).qHalted f n 9 0 := by
  rw [qIndex_good hm hx h1 h4 h0 hp hval]
  dsimp only
  rw [if_neg (Nat.not_lt.2 hnear), if_pos hback]
  exact haltQ_halted (by exact qDead_live h1 (h4.trans (by decide))) (by decide) (by decide) ..

theorem qIndex_taken (hnear : b.qPend f n p ≤ b.ringSize f n) (hahead : b.qPend f n (b.rd .qProd f n) ≤ b.qPend f n p) :
    (b.qIndex f n).rd .qProd f n = p := by
  have hfits : p % 2 ^ 32 = p := by rw [hval, Nat.mod_mod]
  rw [qIndex_good hm hx h1 h4 h0 hp hval]
  extract_lets b1 b2
  have h2 : b2.rd .qProd f n = p :=
    ((descTrim_fr _ f n p (Nat.and_self _) (Nat.and_self _) (Fr.refl ..)).reg .qProd f n rfl).trans ((wr_rd_self ..).trans hfits)
  rw [if_neg (Nat.not_lt.2 hnear), if_neg (Nat.not_lt.2 hahead), qPump_kept _ f n (.inr (.inl rfl))]
  split
  · exact (wr_rd_fld _ (by decide) ..).trans h2
  · exact h2

end good
end index

/-! ### Fragment tables (R141) -/

section frags
variable {x : FetchIn} {xs : List FetchIn} {r : DescRun} (hm : (b.q f n).moving = false) (hx : (b.q f n).fragIn = x :: xs)
  (hr : (b.q f n).descs.find? (fun r => r.d.ix == x.dix) = some r) (h1 : 1 ≤ b.qSt f n) (h4 : b.qSt f n ≤ 4)
include hm hx hr h1 h4

/-- A failed read of a fragment table halts the queue with FETCH_ERROR. -/
theorem qFrags_failed (h0 : x.st ≠ 0) (hst : x.st < 256) : (b.qFrags f n).qHalted f n 13 x.st := by
  have hlive : ¬ (b.qSt f n == 0 || b.qSt f n == 5 || b.qSt f n == 6) = true := by
    simp only [Bool.or_eq_true, beq_iff_eq]
    omega
  simp only [q] at hm hx hr
  simp only [qFrags, hx, hm, hr, Bool.false_eq_true, if_false, if_neg hlive]
  rw [if_pos (by simpa using h0)]
  exact haltQ_halted (by exact qDead_live h1 (h4.trans (by decide))) (by decide) hst ..

/-- An entry of the table that is wrong halts the queue with its cause. -/
theorem qFrags_wrong (h0 : x.st = 0) {l : List (Nat × Nat × Bool)} {c i : Nat}
    (ht : fragTake r.d r.fragNext (fragSum r.frags) (parseFrags x.data) = (l, some (c, i))) (hc : c < 256) :
    (b.qFrags f n).qHalted f n c 0 := by
  have hlive : ¬ (b.qSt f n == 0 || b.qSt f n == 5 || b.qSt f n == 6) = true := by
    simp only [Bool.or_eq_true, beq_iff_eq]
    omega
  simp only [q] at hm hx hr
  simp only [qFrags, hx, hm, hr, Bool.false_eq_true, if_false, if_neg hlive]
  rw [if_neg (by rw [h0]; decide), ht]
  exact haltQ_halted (by exact qDead_live h1 (h4.trans (by decide))) hc (by decide) ..

end frags

end Block

/-- Settles O39: the doorbell by the queue's state, the index by its distance from HEAD, the table by its first wrong entry. -/
theorem queueFetch : Obligations.QueueFetch := by
  unfold Obligations.QueueFetch
  intro s f n hm
  have hbell : ∀ hint, exec (.doorbell f n hint) s =
      s.on (fun b => b.ifFn f.val (fun b => b.qBell f.val n.val (hint.map (·.toNat)))) := fun _ => rfl
  refine ⟨fun hint he hst => ?bellPaused, fun hint he hst hin hout hcut => ?bellRunning,
    fun x hx h1 h5 => ⟨fun h0 hst => ?indexFailed, fun h0 h4 hp p hval => ⟨fun hfar => ?beyond, fun hnear hback => ?behind,
      fun hnear hahead => ?taken⟩⟩,
    fun x xs r hx hr h1 h4 => ⟨fun h0 hst => ?tableFailed, fun l c i h0 ht hc => ?tableWrong⟩⟩
  case bellPaused =>
    refine State.does_ifFn _ (hbell hint) he ?_
    rw [Block.qBell_paused hm hst, Block.canon_rd, Block.q, Block.canon_qu, Block.quMod_rd, Block.quMod_qu_self]
    exact ⟨Block.wr_rd_self .., rfl⟩
  case bellRunning =>
    refine State.does_ifFn _ (hbell hint) he ?_
    rw [Block.qBell_running hm hst hin hout, Block.q, Block.canon_qu]
    exact Block.indexFetch_idxOut (by exact hcut) _
  case indexFailed => exact State.does_of_on (·.qIndex f.val n.val) rfl (Block.canon_qHalted (Block.qIndex_failed hm hx h1 h5 h0 hst))
  case beyond =>
    exact State.does_of_on (·.qIndex f.val n.val) rfl (Block.canon_qHalted (Block.qIndex_beyond hm hx h1 h4 h0 hp hval hfar))
  case behind =>
    exact State.does_of_on (·.qIndex f.val n.val) rfl (Block.canon_qHalted (Block.qIndex_behind hm hx h1 h4 h0 hp hval hnear hback))
  case taken => exact State.does_rd (·.qIndex f.val n.val) rfl (Block.qIndex_taken hm hx h1 h4 h0 hp hval hnear hahead)
  case tableFailed =>
    exact State.does_of_on (·.qFrags f.val n.val) rfl (Block.canon_qHalted (Block.qFrags_failed hm hx hr h1 h4 h0 hst))
  case tableWrong =>
    exact State.does_of_on (·.qFrags f.val n.val) rfl (Block.canon_qHalted (Block.qFrags_wrong hm hx hr h1 h4 h0 ht hc))

end Sys2Proof.Machine
end

section
/-! PROOFS. The ends of a queue's reset, pause and drain, its head write-backs and their signals, parking, and the end of a Shuttle's
substitution (O38). -/
namespace Sys2Proof.Machine

theorem lookupKey_filter_dropped {p : RKey → Bool} {k : RKey} (hk : p k = true) (l : List (RKey × Nat)) :
    lookupKey k (l.filter (fun e => !(p e.1))) = none := by
  induction l with
  | nil => rfl
  | cons e t ih =>
    obtain ⟨a, v⟩ := e
    by_cases ha : p a = true
    · rw [List.filter_cons_of_neg (by simp [ha])]
      exact ih
    · rw [List.filter_cons_of_pos (by simp [ha]), lookupKey_cons_ne (by rintro rfl; exact ha hk)]
      exact ih

namespace Block
variable {b : Block} {f n : Nat}

/-! ### The end of a reset (R150) -/

/-- A field that a queue reset restores reads its reset value. -/
theorem qResetEnd_restored (hr : b.flag .qResetBusy f n = true) (ho : b.qOpen f n = false) {y : Fld} {v : Nat}
    (hu : (Fld.attr y).unit = .queue) (hl : (Fld.attr y).lvl = .queue) (hv : (Fld.attr y).rst = .val v) :
    (b.qResetEnd f n).rd y f n = v := by
  have hkey : queueKey f n (key y f n) = true := by simp [queueKey, key, hu, hl]
  rw [qResetEnd, if_pos (by simp [hr, ho])]
  dsimp only
  rw [quMod_rd]
  simp only [rd, lookupKey_filter_dropped hkey]
  exact resetVal_of_val hv ..

/-! ### The ends of a pause and of a drain (R148, R153) -/

theorem qPaused_ends (hst : b.qSt f n = 3) (hq : b.qQuiet f n = true) (hw : ∀ c ∈ (b.q f n).chunks, c.st ≠ .writing) :
    (b.qPaused f n).rd .qState f n = 4 := by
  have hall : (b.q f n).chunks.all (fun c => c.st != .writing) = true := List.all_eq_true.2 fun c hc => by simpa using hw c hc
  have hkept := (queueRegs_headWb (b.wr .qState f n 4) f n).trans (queueRegs_devEvent _ f 2 n n)
  rw [qPaused, if_pos (by simp [hst, hq, hall])]
  exact (hkept.rd rfl (by decide) f n).trans (wr_rd_self ..)

theorem qDrained_ends (hst : b.qSt f n = 5) (hq : b.qQuiet f n = true) (ha : b.flag .qArmPending f n = false) :
    (b.qDrained f n).rd .qState f n = 0 ∧ (b.qDrained f n).rd .qCurDesc f n = b.rd .qHead f n % 2 ^ 32 ∧
      (b.qDrained f n).rd .qCurOffset f n = 0 := by
  unfold qDrained
  extract_lets q b1 b2 arm b3
  have hkept : QueueRegs (b2.wr .qArmPending f n 0) b3 := queueRegs_headWb ..
  rw [if_pos (by simp [hst, hq]), if_neg (by simp [arm, ha])]
  rw [hkept.rd rfl (by decide), hkept.rd rfl (by decide), hkept.rd rfl (by decide)]
  simp only [b2, wr_rd_fld, wr_rd_self, ne_eq, reduceCtorEq, not_false_eq_true]
  exact ⟨rfl, rfl, rfl⟩

/-! ### Head write-backs (R146, R147) -/

/-- A head that differs from the value last written is written back while mastering is on. -/
theorem headWb_sent (hb : b.bme f = true) (hh : b.rd .qHead f n ≠ b.rd .qLastWb f n) :
    (b.headWb f n).rd .qLastWb f n = b.rd .qHead f n % 2 ^ 32 ∧ ((b.headWb f n).q f n).wbOut = (b.q f n).wbOut + 1 := by
  unfold headWb
  extract_lets q h b1
  rw [if_neg (by simpa [h] using hh), if_pos hb, quMod_rd, Block.q, quMod_qu_self]
  refine ⟨wr_rd_self .., ?_⟩
  rw [wr_qu, post_qu]
  rfl

/-- Whatever signal follows, one write-back fewer is out. -/
theorem qSignal_wbOut (h : (b.q f n).wbOut ≠ 0) : ((b.qSignal f n).q f n).wbOut = (b.q f n).wbOut - 1 := by
  unfold qSignal
  extract_lets q b1
  have h1 : (b1.qu q).wbOut = (b.q f n).wbOut - 1 := by
    rw [quMod_qu_self]
    rfl
  rw [if_neg (by rw [beq_iff_eq]; exact h)]
  split
  · exact h1
  · split
    · rw [Block.q, (intxF_fr _ f (Nat.and_self _) (Nat.and_self _) (Fr.refl ..)).part .queues rfl q]
      exact h1
    · rw [Block.q, (vecIssue_fr _ f _ (Nat.and_self _) (Nat.and_self _) (Fr.refl ..)).part .queues rfl q]
      exact h1

section signal
variable (h : (b.q f n).wbOut ≠ 0) (he : b.flag .qMsixEn f n = true) (hr : b.flag .qResetBusy f n = false)
include h he hr

/-- R187: in INTx delivery the signal is kept in the queue's bit. -/
theorem qSignal_intx (hd : b.delivery f = 3) (hn : n < 32) : bit ((b.qSignal f n).rd .spQpend f) n = true := by
  unfold qSignal
  extract_lets q b1
  rw [if_neg (by rw [beq_iff_eq]; exact h), if_neg (by simp [he, hr]), if_pos (by simp [hd]),
    (intxF_fr _ f (Nat.and_self _) (Nat.and_self _) (Fr.refl ..)).reg .spQpend f 0 rfl]
  exact setBits_bit b1 .spQpend f 0 n hn

/-- R186: the message of a masked MSI-X vector is held by its Pending Bit. -/
theorem qSignal_masked (hd : b.delivery f = 1) (hm : b.vecMasked f (b.rd .qMsixVec f n) = true) :
    (b.qSignal f n).rd .msixPend f (b.rd .qMsixVec f n) = 1 := by
  unfold qSignal
  extract_lets q b1
  have hd1 : b1.delivery f = 1 := hd
  have hm1 : b1.vecMasked f (b.rd .qMsixVec f n) = true := hm
  rw [if_neg (by rw [beq_iff_eq]; exact h), if_neg (by simp [he, hr]), if_neg (by simp [hd]), vecIssue, hd1]
  rw [vecSend, if_pos (by simp [hm1])]
  exact wr_rd_self ..

end signal

/-! ### Parking and the end of a substitution (R154, R280) -/

theorem park_parked {i : ShutIx} (h : b.mayPark i.val = true) : i.val ∈ (b.park i).parked ∧ .shuttle i ∈ (b.park i).gated := by
  rw [park, if_pos h]
  exact ⟨List.mem_append_right _ (List.mem_singleton_self _), List.mem_append_right _ (List.mem_singleton_self _)⟩

theorem each_moves {α : Type} {g : Block → α → Block} (hg : ∀ b x, (g b x).moves = b.moves) (b : Block) (l : List α) :
    (b.each l g).moves = b.moves :=
  each_inv (P := fun c => c.moves = b.moves) (fun c x _ h => (hg c x).trans h) rfl

theorem heldGo_moves (b : Block) (f n : Nat) (h : Held) : (b.heldGo f n h).moves = b.moves :=
  (heldGo_fr b f n h (Nat.and_self _) (Nat.and_self _) (Fr.refl ..)).part .moves rfl

theorem qMoveEnd_moves (b : Block) (q lame : Nat) (spare : Option Nat) (lost : Option (Nat × Nat)) :
    (b.qMoveEnd q lame spare lost).moves = b.moves :=
  (qMoveEnd_fr b q lame spare lost (Nat.and_self _) (Nat.and_self _) (Fr.refl ..)).part .moves rfl

theorem logErr_moves (b : Block) (f : Nat) (e : LogE) : (b.logErr f e).moves = b.moves :=
  (logErr_fr b f e 0 (Nat.and_self _) (Nat.and_self _) (Fr.refl ..)).part .moves rfl

/-- What goes on when a substitution ends starts and ends no other. -/
theorem moveDone_moves {i : Nat} {m : MoveRec} (hm : b.moves.find? (fun m => m.lame == i) = some m) :
    (b.moveDone i).moves = b.moves.filter (fun x => x.lame != i) := by
  unfold moveDone
  split
  · next h => cases hm.symm.trans h
  next h =>
  cases hm.symm.trans h
  extract_lets b1 b2 fs b3
  have h2 : b2.moves = b1.moves := each_moves (fun b x => qMoveEnd_moves b ..) b1 m.qs
  have h3 : b3.moves = b2.moves := each_moves (fun b x => logErr_moves (b.incSat .recMoves x) ..) b2 fs
  refine (each_moves (fun b x => ?_) b3 m.qs).trans (h3.trans h2)
  exact each_moves (fun b h => heldGo_moves b _ _ h) _ _

theorem moveDone_noQueues {i : Nat} {m : MoveRec} (hm : b.moves.find? (fun m => m.lame == i) = some m) (hq : m.qs = []) :
    b.moveDone i = { b with moves := b.moves.filter (fun x => x.lame != i) } := by
  simp only [moveDone, hm, hq]
  rfl

end Block

/-- Settles O38, event by event. -/
theorem queueProgress : Obligations.QueueProgress := by
  unfold Obligations.QueueProgress
  refine ⟨fun s f n => ⟨fun hr ho => ?reset, fun hst hq hw => ?paused, fun hst hq ha => ?drained, fun ht hc hb hh => ?coal,
    fun hw => ?accepted, fun i hp => ?park⟩, fun s i m hm => ?moved⟩
  case reset =>
    refine State.does_of_on (·.qResetEnd f.val n.val) rfl ?_
    have hbase := (Block.qResetEnd_fr s.blk f.val n.val (Nat.and_self _) (Nat.and_self _) (Fr.refl ..)).reg .qRingBase f.val n.val rfl
    have hval := fun {y : Fld} => Block.qResetEnd_restored (y := y) (v := 0) hr ho
    simp only [Block.canon_rd]
    exact ⟨hval rfl rfl rfl, hval rfl rfl rfl, hval rfl rfl rfl, hval rfl rfl rfl, hval rfl rfl rfl, hval rfl rfl rfl, hbase⟩
  case paused => exact State.does_rd (·.qPaused f.val n.val) rfl (Block.qPaused_ends hst hq hw)
  case drained =>
    refine State.does_of_on (·.qDrained f.val n.val) rfl ?_
    simpa only [Block.canon_rd] using Block.qDrained_ends hst hq ha
  case coal =>
    refine State.does_of_on _ rfl ?_
    rw [if_pos (by simp [ht, hc]), Block.canon_rd, Block.q, Block.canon_qu]
    exact Block.headWb_sent hb hh
  case accepted =>
    refine State.does_of_on (·.qSignal f.val n.val) rfl ?_
    rw [Block.q, Block.canon_qu, Block.canon_rd, Block.canon_rd]
    exact ⟨Block.qSignal_wbOut hw, fun he hr hd => Block.qSignal_intx hw he hr hd n.isLt,
      fun he hr hd hm => Block.qSignal_masked hw he hr hd hm⟩
  case park => exact State.does_of_on (·.park i) rfl (Block.park_parked hp)
  case moved =>
    refine State.does_of_on (·.moveDone i.val) rfl ⟨fun y hy => ?_, fun hq => ?_⟩
    · rw [Block.canon_moves, Block.moveDone_moves hm, List.mem_filter] at hy
      simpa using hy.2
    · rw [Block.moveDone_noQueues hm hq]
      exact ⟨rfl, rfl, Block.canon_rd _⟩

end Sys2Proof.Machine
end

section
/-! PROOFS. The data of a Shuttle queue (O40): descriptors, chunk reads, staging, and the committed point. -/
namespace Sys2Proof.Machine

theorem mapIf_of_none {α : Type} {p : α → Bool} {l : List α} (h : ∀ x ∈ l, p x = false) (g : α → α) : mapIf p g l = l :=
  (List.map_congr_left fun x hx => if_neg (by rw [h x hx]; decide)).trans (List.map_id' l)

namespace Block
variable {b : Block} {f n : Nat}

/-! ### A queue that does nothing by itself (R148) -/

theorem qPump_halted (h : b.qSt f n = 6) : b.qPump f n = b := by
  simp [qPump, h]

/-- In PAUSING or DRAINING a queue waits while its next chunk to write is not staged. -/
theorem qPump_waits (hst : b.qSt f n = 3 ∨ b.qSt f n = 5)
    (hw : ∀ c, (b.q f n).chunks.find? (fun c => c.st != .writing && c.st != .done) = some c → c.st ≠ .staged) : b.qPump f n = b :=
  qPump_idle (by omega) (by omega) hw

/-! ### Completion of a descriptor (R143, R146) -/

section complete
variable (b : Block) (f n : Nat) (r : DescRun)

theorem curShow_q : (b.curShow f n).q f n = b.q f n := (curShow_fr b f n (Nat.and_self _) (Nat.and_self _) (Fr.refl ..)).part .queues rfl _

/-- Of the queue's record a completion changes the list of descriptors, and what it says of write-backs and coalescing. -/
theorem qComplete_keeps {α : Type} (π : QDyn → α)
    (hπ : ∀ (d : QDyn) w o c t, π { d with wbWait := w, wbOut := o, coalN := c, coalT := t } = π d) :
    π ((b.qComplete f n r).q f n) = π { b.q f n with descs := (b.q f n).descs.tail } := by
  unfold qComplete
  extract_lets q h b1 b2 b3 b4
  have h4 : π (b4.q f n) = π { b.q f n with descs := (b.q f n).descs.tail } := by
    have h2 : b2.qu q = b.qu q := by
      simp only [b2]
      split <;> rfl
    rw [curShow_q, Block.q, quMod_qu_self, h2]
    exact hπ { b.q f n with descs := (b.q f n).descs.tail } (b.q f n).wbWait (b.q f n).wbOut _ _
  split
  · exact (headWb_keeps π hπ b4 f n q).trans h4
  · exact h4

theorem qComplete_descs : ((b.qComplete f n r).q f n).descs = (b.q f n).descs.tail :=
  qComplete_keeps b f n r QDyn.descs fun _ _ _ _ _ => rfl

theorem qComplete_chunks : ((b.qComplete f n r).q f n).chunks = (b.q f n).chunks :=
  qComplete_keeps b f n r QDyn.chunks fun _ _ _ _ _ => rfl

/-- HEAD advances past the descriptor, and it is counted. -/
theorem qComplete_counted : (b.qComplete f n r).rd .qHead f n = (b.rd .qHead f n + 1) % 2 ^ 32 ∧
    (b.qComplete f n r).rd .qCntDone f n = min (b.rd .qCntDone f n + 1) (2 ^ (Fld.attr .qCntDone).width - 1) := by
  unfold qComplete
  extract_lets q h b1 b2 b3 b4
  have h1 : b1.rd .qHead f n = h ∧ b1.rd .qCntDone f n = min (b.rd .qCntDone f n + 1) (2 ^ (Fld.attr .qCntDone).width - 1) := by
    constructor
    · simp only [b1, incSat, wr_rd_fld, wr_rd_self, ne_eq, reduceCtorEq, not_false_eq_true]
      exact Nat.mod_mod _ _
    · simp only [b1, incSat_rd_self, wr_rd_fld, ne_eq, reduceCtorEq, not_false_eq_true]
  have h2 : ∀ {y : Fld}, y ≠ .qCntPoisoned → b2.rd y f n = b1.rd y f n := fun hy => by
    simp only [b2]
    split
    · exact wr_rd_fld _ hy ..
    · rfl
  have h4 : ∀ {y : Fld}, y = .qHead ∨ y = .qCntDone → b4.rd y f n = b2.rd y f n := fun {y} hy => by
    refine (curShow_fr b3 f n (Nat.and_self _) (Nat.and_self _) (Fr.refl ..)).reg y f n ?_
    rcases hy with rfl | rfl <;> rfl
  have hall : b4.rd .qHead f n = h ∧ b4.rd .qCntDone f n = min (b.rd .qCntDone f n + 1) (2 ^ (Fld.attr .qCntDone).width - 1) := by
    rw [h4 (.inl rfl), h4 (.inr rfl), h2 (by decide), h2 (by decide)]
    exact h1
  have hkept := queueRegs_headWb b4 f n
  split
  · rw [hkept.rd rfl (by decide), hkept.rd rfl (by decide)]
    exact hall
  · exact hall

end complete

theorem qRetire_none (h : (b.q f n).descs = []) (k : Nat) : b.qRetire f n k = b := by
  cases k with
  | zero => rfl
  | succ k => rw [qRetire, h]

/-- The only descriptor of a queue, once it is done, is completed. -/
theorem qRetire_last {r : DescRun} (h : (b.q f n).descs = [r]) (hd : r.d.opcode = 0 ∨ r.commit = r.d.len) (k : Nat) :
    b.qRetire f n (k + 1) = b.qComplete f n r := by
  have hdone : (r.d.opcode == 0 || r.commit == r.d.len) = true := by simpa using hd
  have hnone : ((b.qComplete f n r).q f n).descs = [] := by rw [qComplete_descs, h, List.tail_cons]
  rw [qRetire, h]
  dsimp only
  rw [if_pos hdone, qRetire_none hnone]

/-- A descriptor that is not done keeps those behind it. -/
theorem qRetire_open {r : DescRun} {rs : List DescRun} (h : (b.q f n).descs = r :: rs) (ho : r.d.opcode ≠ 0) (hc : r.commit ≠ r.d.len)
    (k : Nat) : b.qRetire f n k = b := by
  cases k with
  | zero => rfl
  | succ k =>
    rw [qRetire, h]
    dsimp only
    rw [if_neg (by simp [ho, hc])]

/-! ### Descriptors (R138, R140) -/

section descs
variable {x : FetchIn} {next : Nat} (hm : (b.q f n).moving = false)
  (hnext : next = (b.rd .qHead f n + (b.q f n).descs.length) % 2 ^ 32)
  (hx : (b.q f n).descIn.find? (fun x => x.start == next) = some x) (h1 : 1 ≤ b.qSt f n) (h4 : b.qSt f n ≤ 4)
  (hne : next ≠ b.rd .qProd f n) (hprod : b.rd .qProd f n < 2 ^ 32)
include hm hnext hx h1 h4 hne hprod

/-- R138: a failed block, or a block of one descriptor, that begins where the queue goes on is taken whole. -/
theorem qDescs_one (hone : (if x.st == 0 then x.data.length / 64 else 1) = 1) : ∃ g : QDyn → QDyn, (∀ d, (g d).descs = d.descs) ∧
    b.qDescs f n = if x.st != 0 then (b.quMod (qix f n) g).haltQ f n 13 x.st next 0
      else
        let c := (b.quMod (qix f n) g).descTake f n [(next, x.data.take 64)]
        (c.qRetire f n ((c.q f n).descs.length + 1)).qPump f n := by
  have hlt : next < 2 ^ 32 := hnext ▸ Nat.mod_lt _ (by decide)
  unfold qDescs
  extract_lets q d prod start st avail more
  have hstart : start = next := hnext.symm
  have havail : 1 ≤ avail := by
    change 1 ≤ (b.rd .qProd f n + 2 ^ 32 - start) % 2 ^ 32
    rw [hstart]
    omega
  clear_value start avail
  subst hstart
  split
  · next h => cases hx.symm.trans h
  next y h =>
  cases hx.symm.trans h
  extract_lets got len m b1 b2 l b3
  have hlen : len = 1 := hone
  have hm1 : m = 1 := by
    simp only [m, hlen]
    omega
  have hgo : ¬ (d.moving || st == 0 || st == 5 || st == 6 || m == 0 && more) = true := by
    have hmov : d.moving = false := hm
    have hst : st ≠ 0 ∧ st ≠ 5 ∧ st ≠ 6 := by
      simp only [st]
      omega
    simp [hmov, hm1, hst]
  have hb2 : b2 = b1 := if_neg (by rw [hm1, hlen]; simp)
  have hl : l = [(start, x.data.take 64)] := by
    simpa [l, hm1] using hlt
  rw [if_neg hgo, if_neg (by rw [hm1]; decide)]
  simp only [b3, hb2, hl]
  refine ⟨_, ?_, rfl⟩
  exact fun _ => rfl

/-- R152: a failed read of descriptors halts the queue with FETCH_ERROR. -/
theorem qDescs_failed (h0 : x.st ≠ 0) (hst : x.st < 256) : (b.qDescs f n).qHalted f n 13 x.st := by
  obtain ⟨g, -, heq⟩ := qDescs_one hm hnext hx h1 h4 hne hprod (if_neg (by simpa using h0))
  rw [heq, if_pos (by simpa using h0)]
  exact haltQ_halted (by exact qDead_live h1 (h4.trans (by decide))) (by decide) hst ..

section good
variable (h0 : x.st = 0) (hlen : x.data.length = 64) (hnil : (b.q f n).descs = []) {d : Desc}
  (hd : d = parseDesc next (x.data.map (·.1)))
include h0 hlen

/-- A block of one descriptor that has been read without a fault. -/
theorem qDescs_good : ∃ g : QDyn → QDyn, (∀ d, (g d).descs = d.descs) ∧ b.qDescs f n =
    let c := (b.quMod (qix f n) g).descTake f n [(next, x.data)]
    (c.qRetire f n ((c.q f n).descs.length + 1)).qPump f n := by
  obtain ⟨g, hg, heq⟩ := qDescs_one hm hnext hx h1 h4 hne hprod (by rw [h0, hlen]; rfl)
  refine ⟨g, hg, ?_⟩
  rw [heq, if_neg (by rw [h0]; decide), List.take_of_length_le hlen.le]

include hd

/-- R140: a descriptor that fails its check halts the queue with the cause. -/
theorem qDescs_rejected {c e : Nat} (hc : b.descCheck f n d (x.data.any (·.2)) = (c, e)) (h0c : c ≠ 0) (hc256 : c < 256)
    (he256 : e < 256) : (b.qDescs f n).qHalted f n c e := by
  obtain ⟨g, -, heq⟩ := qDescs_good hm hnext hx h1 h4 hne hprod h0 hlen
  have hcheck : (b.quMod (qix f n) g).descCheck f n d (x.data.any (·.2)) = (c, e) := hc
  have htake : (b.quMod (qix f n) g).descTake f n [(next, x.data)] = (b.quMod (qix f n) g).haltQ f n c e next 0 := by
    rw [descTake, ← hd, hcheck]
    split
    · next h => exact absurd (congrArg Prod.fst h) h0c
    · next h => cases h; rfl
  obtain ⟨hst, hcause, hdetail⟩ : ((b.quMod (qix f n) g).haltQ f n c e next 0).qHalted f n c e :=
    haltQ_halted (by exact qDead_live h1 (h4.trans (by decide))) hc256 he256 ..
  have hkept := fun k => qRetire_fr ((b.quMod (qix f n) g).haltQ f n c e next 0) f n k (Nat.and_self _) (Nat.and_self _) (Fr.refl ..)
  rw [heq, htake]
  dsimp only
  rw [qPump_halted (((hkept _).reg .qState f n rfl).trans hst)]
  exact ⟨((hkept _).reg .qState f n rfl).trans hst, ((hkept _).reg .qHaltCause f n rfl).trans hcause,
    ((hkept _).reg .qHaltDetail f n rfl).trans hdetail⟩

include hnil

/-- A NOP is complete as soon as it is accepted. -/
theorem qDescs_nop (hc : b.descCheck f n d (x.data.any (·.2)) = (0, 0)) (hop : d.opcode = 0) :
    (b.qDescs f n).rd .qHead f n = (b.rd .qHead f n + 1) % 2 ^ 32 := by
  obtain ⟨g, hg, heq⟩ := qDescs_good hm hnext hx h1 h4 hne hprod h0 hlen
  have hcheck : (b.quMod (qix f n) g).descCheck f n d (x.data.any (·.2)) = (0, 0) := hc
  obtain ⟨r, hrd, htake⟩ : ∃ r : DescRun, r.d = d ∧ (b.quMod (qix f n) g).descTake f n [(next, x.data)] =
      (b.quMod (qix f n) g).quMod (qix f n) (fun q => { q with descs := q.descs ++ [r] }) := by
    refine ⟨⟨d, if d.opcode == 1 && d.weave then some (b.rd .wvSlotProgram f d.wslot) else none, [], 0, false, 0, 0, false, []⟩,
      rfl, ?_⟩
    rw [descTake, ← hd, hcheck]
    rfl
  have hdescs : (((b.quMod (qix f n) g).quMod (qix f n) (fun q => { q with descs := q.descs ++ [r] })).q f n).descs = [r] := by
    rw [q, quMod_qu_self, quMod_qu_self]
    dsimp only
    rw [hg, show (b.qu (qix f n)).descs = [] from hnil, List.nil_append]
  rw [heq, htake]
  dsimp only
  rw [qPump_kept _ f n (.inl rfl), qRetire_last hdescs (.inl (by rw [hrd, hop])), (qComplete_counted _ f n r).1]
  rfl

end good
end descs

/-! ### Chunk reads (R132, R142) -/

/-- Putting requests at an open port touches no queue. -/
theorem addReq_open_queue {p g : Nat} {orig : XOrig} {op addr len aop asz grp : Nat} {cells : List (Byte × Bool × Bool)}
    (hs : b.shut p = false) (u : Nat) : (b.addReq p g orig op addr len cells aop asz grp).shut p = false ∧
      (b.addReq p g orig op addr len cells aop asz grp).qDead f n = b.qDead f n ∧
      (b.addReq p g orig op addr len cells aop asz grp).qu u = b.qu u := by
  unfold addReq
  extract_lets r
  split
  · exact ⟨hs, rfl, rfl⟩
  · have hcross : ∀ i o cls k, (b.cross i o cls k).shut p = false := fun _ _ _ _ => hs
    rw [reqArrive, hcross, if_neg Bool.false_ne_true]
    exact ⟨hs, rfl, rfl⟩

/-- The reads of a chunk at the design all reach an open port, and leave the queues as they are. -/
theorem chunkSend_local (hs : b.shut (b.portOf f) = false) (hd : b.qDead f n = false) (cid : Nat) (ps : List (Nat × Nat))
    (off : Nat × Nat → Nat) (u : Nat) :
    (b.chunkSend f n cid false (ps.map fun y => .loc y.1 y.2 (off y) 1 [])).qu u = b.qu u := by
  unfold chunkSend
  extract_lets q p
  refine (each_inv (P := fun c : Block => c.shut p = false ∧ c.qDead f n = false ∧ c.qu u = b.qu u) (fun c x hx hc => ?_)
    ⟨hs, hd, rfl⟩).2.2
  obtain ⟨y, -, rfl⟩ := List.mem_map.1 hx
  obtain ⟨hshut, hdead, hqu⟩ := hc
  obtain ⟨h1, h2, h3⟩ := addReq_open_queue (b := c) (f := f) (n := n) (p := p) (g := f) (orig := .shuttle q cid false (off y))
    (op := 1) (addr := y.1) (len := y.2) (aop := 0) (asz := 0) (grp := 0) (cells := []) hshut u
  rw [if_neg (by rw [hdead]; decide)]
  exact ⟨h1, h2.trans hdead, h3.trans hqu⟩

/-- R142: the reads of a chunk whose source is one range of the design's memory are issued. -/
theorem chunkReads_local {ch : Chunk} {old : List Chunk} {sg : Seg} (hch : (b.q f n).chunks = old ++ [ch]) (hst : ch.st = .reading)
    (hrd : ch.rdOut = 0) (hparts : ch.parts = []) (hsrc : ch.srcs = [sg]) (hloc : sg.loc = true) (hxl : sg.xl = false)
    (hold : ∀ c ∈ old, c.cid ≠ ch.cid) (hs : b.shut (b.portOf f) = false) (hd : b.qDead f n = false) :
    (b.chunkReads f n ch.cid).q f n = { b.q f n with chunks := old ++ [{ ch with
      xlWait := false, rdOut := (piecesOf (64 * b.cutW (b.portOf f)) sg.addr sg.len).length }] } := by
  have hfind : (b.qu (qix f n)).chunks.find? (fun c => c.cid == ch.cid && c.st == .reading && c.rdOut == 0 && c.parts.isEmpty) =
      some ch := by
    have hnone : old.find? (fun c => c.cid == ch.cid && c.st == .reading && c.rdOut == 0 && c.parts.isEmpty) = none :=
      List.find?_eq_none.2 fun c hc => by simp [hold c hc]
    rw [show (b.qu (qix f n)).chunks = old ++ [ch] from hch, List.find?_append, hnone]
    simp [hst, hrd, hparts]
  have hxs : b.segsXl f false [sg] = .ok [(sg.addr, none)] := by simp [segsXl, hxl]
  unfold chunkReads
  extract_lets q
  rw [hfind]
  dsimp only
  rw [hsrc, hxs]
  dsimp only
  have hreqs : ([sg].zip [(sg.addr, (none : Option Nat))]).flatMap (fun x =>
      if x.1.loc then (piecesOf (64 * b.cutW (b.portOf f)) x.1.addr x.1.len).map (fun y =>
        CReq.loc y.1 y.2 (x.1.off + (y.1 - x.1.addr)) 1 [])
      else (piecesOf (b.mrrs f) x.2.1 x.1.len).map (fun y => CReq.rd y.1 y.2 (x.1.off + (y.1 - x.2.1)) x.2.2 x.1)) =
      (piecesOf (64 * b.cutW (b.portOf f)) sg.addr sg.len).map (fun y => .loc y.1 y.2 (sg.off + (y.1 - sg.addr)) 1 []) := by
    simp [hloc]
  rw [hreqs, List.length_map, Block.q, (tether_kick ..).part .queues rfl, chunkSend_local (by exact hs) (by exact hd), chunkMod,
    quMod_qu_self]
  have hmap : ∀ g, mapIf (fun c : Chunk => c.cid == ch.cid) g (old ++ [ch]) = old ++ [g ch] := fun g => by
    rw [mapIf, List.map_append]
    exact congrArg₂ _ (mapIf_of_none (fun c hc => by simpa using hold c hc) g) (by simp)
  rw [show (b.touchAll [(sg.addr, none)]).qu q = b.q f n from rfl, hch, hmap, hsrc]

/-- R132: the chunk that the only descriptor of a RUNNING queue goes on with. -/
theorem qNext_single {r : DescRun} {x : Nat × List Seg × List Seg} (hm : (b.q f n).moving = false) (hst : b.qSt f n = 2)
    (hr : (b.q f n).descs = [r]) (hop : r.d.opcode = 1) (hcut : r.cut < r.d.len)
    (hbusy : ((b.q f n).chunks.filter (fun c => c.st == .reading)).length < 16) (hx : nextChunk r = some x) :
    b.qNext f n = some (r, x) := by
  have hfind : ((List.range (b.q f n).descs.length).zip (b.q f n).descs).find? (fun x => x.2.d.opcode == 1 && x.2.cut < x.2.d.len) =
      some (0, r) := by
    rw [hr]
    simp [hop, hcut]
  unfold qNext
  extract_lets d busy
  rw [hfind]
  dsimp only
  rw [if_neg (by simp only [d, busy, hm, hst]; simpa using hbusy), hx]
  rfl

/-- R132, R142: the read of the next chunk of the only descriptor is issued. -/
theorem qChunk_issued {r : DescRun} {len : Nat} {sg : Seg} {ds : List Seg} (hr : (b.q f n).descs = [r])
    (hnext : b.qNext f n = some (r, len, [sg], ds)) (hroom : b.stagingUsed (b.shuttleOf f n) < 64)
    (hturn : b.qTurn (qix f n) = true) (hfresh : ∀ c ∈ (b.q f n).chunks, c.cid ≠ (b.q f n).nextCid) (hloc : sg.loc = true)
    (hxl : sg.xl = false) (hs : b.shut (b.portOf f) = false) (hd : b.qDead f n = false) :
    ((b.qChunk f n).q f n).descs = [{ r with cut := r.cut + len }] ∧
      ((b.qChunk f n).q f n).chunks = (b.q f n).chunks ++ [⟨(b.q f n).nextCid, r.d.ix, r.cut, len, fragShown r r.cut, [sg], ds, [], [],
        (piecesOf (64 * b.cutW (b.portOf f)) sg.addr sg.len).length, 0, false, false, .reading⟩] := by
  unfold qChunk
  extract_lets q d i
  rw [hnext]
  dsimp -zeta only
  rw [if_neg (by simp only [i, q, hturn]; simpa using hroom)]
  extract_lets ch upd b1
  have hq1 : b1.q f n = { b.q f n with
      nextCid := (b.q f n).nextCid + 1, chunks := (b.q f n).chunks ++ [ch], descs := [upd r] } := by
    rw [Block.q, quMod_qu_self, show ({ b with shutRot := (i, q) :: dropKey i b.shutRot } : Block).qu q = b.q f n from rfl, hr]
    simp [mapIf]
  have hreads := chunkReads_local (b := b1) (f := f) (n := n) (ch := ch) (old := (b.q f n).chunks) (sg := sg) (by rw [hq1]) rfl rfl rfl
    rfl hloc hxl hfresh hs hd
  rw [show d.nextCid = ch.cid from rfl, hreads, hq1]
  exact ⟨rfl, rfl⟩

/-! ### Staging (R143, R145) -/

/-- R145: the chunk that has arrived is staged, and the poison of its granules reaches the staged chunks of its descriptor; a chunk
still to be read ahead of it holds the writes back. -/
theorem qStage_behind {c0 c : Chunk} {cs : List Chunk} (hm : (b.q f n).moving = false) (hst : b.qSt f n = 3 ∨ b.qSt f n = 5)
    (hcs : (b.q f n).chunks = c0 :: c :: cs) (h0 : c0.st = .reading) (h1 : c.st = .arrived) (hne : c0.cid ≠ c.cid)
    (hcid : ∀ y ∈ cs, y.cid ≠ c.cid) : ((b.qStage f n).q f n).chunks = c0 ::
      { c with st := .staged, parts := [], data := granulePoison (b.badAt (qix f n) c.dix) c.dsts (b.chunkOut (qix f n) c) } ::
      cs.map (fun y => if y.dix = c.dix ∧ y.st = .staged then
        { y with data := granulePoison (b.badAt (qix f n) c.dix) y.dsts y.data } else y) := by
  have hcs' : (b.qu (qix f n)).chunks = c0 :: c :: cs := hcs
  have hfind : (b.qu (qix f n)).chunks.find? (fun c => c.st == .arrived) = some c := by simp [hcs', h0, h1]
  unfold qStage
  extract_lets q
  rw [hfind]
  dsimp -zeta only
  rw [if_neg (by rw [show (b.qu q).moving = false from hm]; decide)]
  extract_lets bad g
  have hbad : bad = b.badAt q c.dix := rfl
  clear_value bad
  subst hbad
  have hmap : mapIf (fun y => y.cid == c.cid || (y.dix == c.dix && y.st == .staged)) g (b.qu q).chunks = c0 :: g c ::
      cs.map (fun y => if y.dix = c.dix ∧ y.st = .staged then
        { y with data := granulePoison (b.badAt q c.dix) y.dsts y.data } else y) := by
    have hrest : ∀ y ∈ cs, (if (y.cid == c.cid || (y.dix == c.dix && y.st == .staged)) = true then g y else y) =
        if y.dix = c.dix ∧ y.st = .staged then { y with data := granulePoison (b.badAt q c.dix) y.dsts y.data } else y :=
      fun y hy => by simp [g, hcid y hy]
    rw [hcs', mapIf, List.map_cons, List.map_cons, List.map_congr_left hrest]
    simp [hne, h0]
  have hq1 := congrArg QDyn.chunks (b.quMod_qu_self q fun d => { d with
    chunks := mapIf (fun y => y.cid == c.cid || (y.dix == c.dix && y.st == .staged)) g d.chunks })
  dsimp only at hq1
  rw [hmap] at hq1
  rw [qPump_waits (by exact hst), Block.q, hq1]
  · simp [g, q]
  · intro y hy
    rw [Block.q, hq1, List.find?_cons_of_pos (by rw [h0]; decide)] at hy
    cases hy
    rw [h0]
    decide

/-! ### The committed point (R143) -/

/-- The committed point of the descriptor at HEAD is shown. -/
theorem curShow_shown {r : DescRun} {rs : List DescRun} (h : (b.q f n).descs = r :: rs) :
    (b.curShow f n).rd .qCurDesc f n = r.d.ix % 2 ^ 32 ∧ (b.curShow f n).rd .qCurOffset f n = r.commit % 2 ^ 32 := by
  unfold curShow
  rw [h]
  constructor
  · simp only [wr_rd_fld, wr_rd_self, ne_eq, reduceCtorEq, not_false_eq_true]
    rfl
  · exact wr_rd_self ..

theorem qCommit_none (h : (b.q f n).chunks = []) (k : Nat) : b.qCommit f n k = b := by
  cases k with
  | zero => rfl
  | succ k => rw [qCommit, h]

section advance
variable {c : Chunk} {r : DescRun} {rs : List DescRun} (hm : (b.q f n).moving = false) (hst : b.qSt f n = 3 ∨ b.qSt f n = 5)
  (hcs : (b.q f n).chunks = [c]) (hc : c.st = .done) (hr : (b.q f n).descs = r :: rs)
include hm hst hcs hc hr

/-- The only chunk of the queue is committed. -/
theorem qAdvance_one : ∃ b1 : Block, (b1.q f n).chunks = [] ∧ (b1.q f n).descs = { r with commit := r.commit + c.len } :: rs ∧
    b1.qSt f n = b.qSt f n ∧ b1.rd .qHead f n = b.rd .qHead f n ∧ b1.rd .qCntDone f n = b.rd .qCntDone f n ∧
    b1.rd .qCurDesc f n = r.d.ix % 2 ^ 32 ∧ b1.rd .qCurOffset f n = (r.commit + c.len) % 2 ^ 32 ∧
    b.qAdvance f n = ((b1.qRetire f n (rs.length + 1)).qCommit f n 1).qPump f n := by
  have hdead : b.qDead f n = false := qDead_live (by omega) (by omega)
  obtain ⟨b0, hb0⟩ : ∃ b0, b0 = b.quMod (qix f n) (fun d => { d with
    chunks := [], descs := { r with commit := r.commit + c.len } :: rs }) := ⟨_, rfl⟩
  have hq0 : (b0.q f n).chunks = [] ∧ (b0.q f n).descs = { r with commit := r.commit + c.len } :: rs := by
    rw [hb0, Block.q, quMod_qu_self]
    exact ⟨rfl, rfl⟩
  have hrd0 : ∀ y, b0.rd y f n = b.rd y f n := fun y => by rw [hb0, quMod_rd]
  have hfr := curShow_fr b0 f n (Nat.and_self _) (Nat.and_self _) (Fr.refl ..)
  obtain ⟨hdesc, hoff⟩ := curShow_shown hq0.2
  refine ⟨b0.curShow f n, ?_, ?_, (hfr.reg .qState f n rfl).trans (hrd0 _), (hfr.reg .qHead f n rfl).trans (hrd0 _),
    (hfr.reg .qCntDone f n rfl).trans (hrd0 _), hdesc, hoff, ?_⟩
  · rw [curShow_q, hq0.1]
  · rw [curShow_q, hq0.2]
  · rw [qAdvance, if_neg (by rw [hm, hdead]; decide), hcs, List.length_singleton, qCommit, hcs, hr]
    dsimp only
    rw [if_pos (by rw [hc]; rfl), hb0]

/-- Short of the end of its descriptor a chunk moves the position only. -/
theorem qAdvance_open (hlen : r.commit + c.len ≠ r.d.len) (hop : r.d.opcode = 1) :
    (b.qAdvance f n).rd .qCurDesc f n = r.d.ix % 2 ^ 32 ∧ (b.qAdvance f n).rd .qCurOffset f n = (r.commit + c.len) % 2 ^ 32 ∧
      (b.qAdvance f n).rd .qHead f n = b.rd .qHead f n ∧ ((b.qAdvance f n).q f n).chunks = [] := by
  obtain ⟨b1, hchunks, hdescs, hst1, hhead, -, hdesc, hoff, heq⟩ := qAdvance_one hm hst hcs hc hr
  rw [heq, qRetire_open hdescs (by rw [hop]; decide) hlen, qCommit_none hchunks,
    qPump_waits (by rwa [hst1]) (by rw [hchunks]; exact fun _ h => nomatch h)]
  exact ⟨hdesc, hoff, hhead, hchunks⟩

/-- The last chunk of the last descriptor completes it. -/
theorem qAdvance_last (hlen : r.commit + c.len = r.d.len) (hrs : rs = []) :
    (b.qAdvance f n).rd .qHead f n = (b.rd .qHead f n + 1) % 2 ^ 32 ∧
      (b.qAdvance f n).rd .qCntDone f n = min (b.rd .qCntDone f n + 1) (2 ^ (Fld.attr .qCntDone).width - 1) := by
  obtain ⟨b1, hchunks, hdescs, -, hhead, hcnt, -, -, heq⟩ := qAdvance_one hm hst hcs hc hr
  subst hrs
  rw [heq, qRetire_last hdescs (.inr hlen), qCommit_none ((qComplete_chunks ..).trans hchunks), qPump_kept _ f n (.inl rfl),
    qPump_kept _ f n (.inr (.inr (.inl rfl))), (qComplete_counted ..).1, (qComplete_counted ..).2, hhead, hcnt]
  exact ⟨rfl, rfl⟩

end advance

end Block

open Block in
/-- Settles O40: a fetched block of one descriptor is taken whole, a chunk of one design range is issued, staged and committed, and the
completion of its descriptor moves HEAD. -/
theorem queueData : Obligations.QueueData := by
  intro s f n hm
  refine ⟨fun x next hnext hx h1 h4 hne hprod => ⟨fun h0 hst => ?_,
      fun d h0 hlen hd hnil => ⟨fun c e hc h0c hc256 he => ?_, fun hc hop => ?_⟩⟩,
    fun r len sg ds hst hr hop hcut hbusy hroom hfresh hturn hx hloc hxl hs => ?_,
    fun c0 c cs hst hcs h0 h1 hne hcid => ?_,
    fun c r rs hst hcs hc hr => ⟨fun hlen hop => ?_, fun hlen hrs => ?_⟩⟩
  · refine State.does_of_on (·.qDescs f.val n.val) rfl ?_
    exact canon_qHalted (qDescs_failed hm hnext hx h1 h4 hne hprod h0 hst)
  · refine State.does_of_on (·.qDescs f.val n.val) rfl ?_
    exact canon_qHalted (qDescs_rejected hm hnext hx h1 h4 hne hprod h0 hlen hd hc h0c hc256 he)
  · refine State.does_of_on (·.qDescs f.val n.val) rfl ?_
    rw [Block.canon_rd]
    exact qDescs_nop hm hnext hx h1 h4 hne hprod h0 hlen hnil hd hc hop
  · refine State.does_of_on (·.qChunk f.val n.val) rfl ?_
    rw [Block.q, Block.canon_qu]
    exact qChunk_issued hr (qNext_single hm hst hr hop hcut hbusy hx) hroom hturn hfresh hloc hxl hs (qDead_live (by omega) (by omega))
  · refine State.does_of_on (·.qStage f.val n.val) rfl ?_
    rw [Block.q, Block.canon_qu]
    exact qStage_behind hm hst hcs h0 h1 hne hcid
  · refine State.does_of_on (·.qAdvance f.val n.val) rfl ?_
    rw [Block.q, Block.canon_qu, Block.canon_rd, Block.canon_rd, Block.canon_rd]
    exact qAdvance_open hm hst hcs hc hr hlen hop
  · refine State.does_of_on (·.qAdvance f.val n.val) rfl ?_
    rw [Block.canon_rd, Block.canon_rd]
    exact qAdvance_last hm hst hcs hc hr hlen hrs

end Sys2Proof.Machine
end

section
/-! PROOFS. Spur selection, commits, the resample, INTx spacing and the rein period (O43): what each operation of Machine/Spur.lean
leaves in the sources, then what each command does. -/
namespace Sys2Proof.Machine
namespace Block
variable {b : Block} {f k : Nat}

/-- The state of a source that a request decides, PENDING or IDLE, fits its field. -/
theorem srcState_b2n (r : Bool) : b2n r % 2 ^ (Fld.attr .srcState).width = b2n r := by cases r <;> rfl

/-! ### Sampling and raising (R174) -/

/-- A sample, with the PME event that may follow from it, leaves the latches. -/
theorem sample_srcLatch (b : Block) (f s i j : Nat) : (b.sample f s).rd .srcLatch i j = b.rd .srcLatch i j :=
  (sample_fr b f s (Nat.and_self _) (Nat.and_self _) (Fr.refl ..)).reg .srcLatch i j rfl

/-- R174: an edge event latches a source that is not SELECTED. -/
theorem raise_latched (h : b.rd .srcState f k ≠ 2) : (b.raise f k).rd .srcLatch f k = 1 := by
  rw [raise, if_neg (by simpa using h), sample_srcLatch]
  exact wr_rd_self b .srcLatch f k 1

/-! ### Selection (R177, R178) -/

section select

theorem selTake_srcState (b : Block) (f k j : Nat) :
    (b.selTake f k).rd .srcState f j = if j = k then 2 else b.rd .srcState f j := by
  simp only [selTake, wr_rd_fld, wr_rd, ne_eq, reduceCtorEq, not_false_eq_true, true_and]
  rfl

/-- R184: the priority, the target and its entry are kept as they stand at SELECT. -/
theorem selTake_kept (b : Block) (f k : Nat) :
    (b.selTake f k).rd .selSrc f = b.rd .srcPrio f k % 2 ^ (Fld.attr .selSrc).width ∧
    (b.selTake f k).rd .selTgt f = b.pickTgt f k % 2 ^ (Fld.attr .selTgt).width ∧
    (b.selTake f k).rd .selVec f = b.rd .tgtVec f (8 * k + b.pickTgt f k) % 2 ^ (Fld.attr .selVec).width := by
  simp only [selTake, wr_rd_fld, wr_rd_self, ne_eq, reduceCtorEq, not_false_eq_true, and_self]

variable (hw : b.winner f ((b.rotation f).filter (fun k => b.selectable f k || b.rd .srcState f k == 2)) = some k)
include hw

theorem spurRound_selects (hs : b.selected? f = none) : b.spurRound f = b.selTake f k := by
  simp only [spurRound, hw, hs]

theorem spurRound_preempts {old : Nat} (hs : b.selected? f = some old) (hne : old ≠ k) :
    b.spurRound f = ((b.wr .srcState f old 1).incSat .spCntPreempt f).selTake f k := by
  simp only [spurRound, hw, hs, beq_iff_eq, hne.symm, if_false]

theorem spurRound_holds (hs : b.selected? f = some k) : b.spurRound f = b := by
  simp only [spurRound, hw, hs, beq_self_eq_true, if_true]

/-- R177: the source that is preempted is PENDING again, and the preemption is counted. -/
theorem spurRound_preempted {old : Nat} (hs : b.selected? f = some old) (hne : old ≠ k) :
    (b.spurRound f).rd .srcState f old = 1 ∧ (b.spurRound f).rd .srcState f k = 2 ∧
    (b.spurRound f).rd .spCntPreempt f = min (b.rd .spCntPreempt f + 1) (2 ^ (Fld.attr .spCntPreempt).width - 1) := by
  have hcount := (selTake_fr ((b.wr .srcState f old 1).incSat .spCntPreempt f) f k (Nat.and_self _) (Nat.and_self _)
    (Fr.refl ..)).reg .spCntPreempt f 0 rfl
  rw [spurRound_preempts hw hs hne, selTake_srcState, selTake_srcState, if_neg hne, if_pos rfl, hcount, incSat_rd_self,
    wr_rd_fld _ (by decide), incSat, wr_rd_fld _ (by decide)]
  exact ⟨wr_rd_self b .srcState f old 1, rfl, rfl⟩

end select

/-! ### The commit (R179) -/

/-- What a commit stores before it sends: source k is in service, its latch is clear, the rotation stands behind it, and where it has
an enabled target the next one and the vector used are recorded. -/
def committed (b : Block) (f k : Nat) : Block :=
  let b1 := ((b.wr .srcState f k 3).wr .srcLatch f k 0).wr .spRotate f 0 ((k + 1) % 15)
  if b.anyTgt f k then (b1.wr .srcNextTgt f k ((b.rd .selTgt f + 1) % 8)).wr .srcLastVec f k (b.rd .selVec f) else b1

theorem committed_source (b : Block) (f k : Nat) : (b.committed f k).rd .srcState f k = 3 ∧ (b.committed f k).rd .srcLatch f k = 0 ∧
    (b.committed f k).rd .spRotate f = (k + 1) % 15 := by
  have hrot : (k + 1) % 15 % 2 ^ (Fld.attr .spRotate).width = (k + 1) % 15 := by
    change (k + 1) % 15 % 16 = _
    omega
  unfold committed
  split <;> simp only [wr_rd_fld, wr_rd_self, ne_eq, reduceCtorEq, not_false_eq_true] <;> exact ⟨rfl, rfl, hrot⟩

theorem committed_target (h : b.anyTgt f k = true) : (b.committed f k).rd .srcNextTgt f k = (b.rd .selTgt f + 1) % 8 ∧
    (b.committed f k).rd .srcLastVec f k = b.rd .selVec f % 2 ^ (Fld.attr .srcLastVec).width := by
  rw [committed, if_pos h, wr_rd_fld _ (by decide), wr_rd_self, wr_rd_self]
  exact ⟨Nat.mod_mod _ 8, rfl⟩

/-- The fields that a message in the delivery form in force may change (vecIssue_fr). -/
def vecIssueMask : Nat := 0x20000040000000000000000000000000000000000000000000004018008000000000000000000000000000000000000000000

/-- R186, R188: the message of a commit, in whatever form, leaves the sources as the commit stored them. -/
theorem spurCommit_rd (hs : b.selected? f = some k) (hd : b.delivery f ≠ 0) {y : Fld}
    (hy : vecIssueMask.testBit y.ctorIdx = false) (i j : Nat) : (b.spurCommit f).rd y i j = (b.committed f k).rd y i j := by
  have hsent : b.spurCommit f = if b.delivery f == 3 then (b.committed f k).intxF f
      else (b.committed f k).vecIssue f (b.rd .selVec f) := by
    rw [spurCommit, hs]
    exact if_neg (by simpa using hd)
  rw [hsent]
  split
  · exact (intxF_fr _ f (Nat.and_self _) (Nat.and_self _) (Fr.refl ..)).reg y i j (Nat.zero_testBit _)
  · exact (vecIssue_fr _ f _ (Nat.and_self _) (Nat.and_self _) (Fr.refl ..)).reg y i j hy

/-- Table 7.2: a selection that is withdrawn is judged by its request. -/
theorem spurWithdraw_judged (hs : b.selected? f = some k) : (b.spurWithdraw f).rd .srcState f k = b2n (b.srcReq f k) := by
  rw [spurWithdraw, hs]
  exact (wr_rd_self ..).trans (srcState_b2n _)

/-- R186: without a delivery form in force the selection is withdrawn. -/
theorem spurCommit_noForm (hs : b.selected? f = some k) (hd : b.delivery f = 0) : b.spurCommit f = b.spurWithdraw f := by
  simp [spurCommit, hs, hd]

/-! ### The resample after an EOI (R182) -/

theorem spurResampleS_judged {e : Nat × Nat} (he : (b.fn f).eoiWait.find? (fun e => e.1 == k) = some e)
    (hh : b.eoiHeld f k e.2 = false) : (b.spurResampleS f k).rd .srcState f k = b2n (b.srcReq f k) ∧
      ((b.spurResampleS f k).fn f).eoiWait = (b.fn f).eoiWait.filter (fun x => x.1 != k) := by
  have hkept := intxF_fr ((b.fnMod f (fun d => { d with eoiWait := d.eoiWait.filter (fun x => x.1 != k) })).wr .srcState f k
    (b2n (b.srcReq f k))) f (Nat.and_self _) (Nat.and_self _) (Fr.refl ..)
  have heq : b.spurResampleS f k = ((b.fnMod f (fun d => { d with eoiWait := d.eoiWait.filter (fun x => x.1 != k) })).wr
      .srcState f k (b2n (b.srcReq f k))).intxF f := by
    simp only [spurResampleS, he, hh, Bool.false_eq_true, if_false]
  rw [heq, hkept.reg .srcState f k rfl, hkept.part .fns rfl f, wr_fn, fnMod_fn_self]
  exact ⟨(wr_rd_self ..).trans (srcState_b2n _), rfl⟩

/-! ### INTx spacing (R188) -/

section intx
variable {l pin : Nat}

/-- The level that a line should have does not depend on what the links record of it. -/
theorem intxComb_lkMod (b : Block) (l : Nat) (g : LinkDyn → LinkDyn) (m pin : Nat) :
    (b.lkMod l g).intxComb m pin = b.intxComb m pin := rfl

/-- The spacing of a line is over. -/
def spaced (b : Block) (l pin : Nat) : Block := b.lkMod l (fun k => { k with intxBusy := k.intxBusy.set pin false })

theorem intxSpaced_same (h : b.intxComb l pin = (b.lk l).intxLast[pin]?.getD false) : b.intxSpaced l pin = b.spaced l pin := by
  change (b.spaced l pin).intxSend l pin = _
  have hlast : ((b.spaced l pin).lk l).intxLast = (b.lk l).intxLast := by rw [spaced, lkMod_lk_self]
  rw [intxSend, if_pos]
  rw [hlast, spaced, intxComb_lkMod, h, beq_self_eq_true, Bool.true_or, Bool.true_or]

theorem intxSpaced_changed (hp : pin < (b.lk l).intxBusy.length) (h : b.intxComb l pin ≠ (b.lk l).intxLast[pin]?.getD false)
    (hl : b.inL0 l = true) : b.intxSpaced l pin =
      ((b.spaced l pin).lkMod l (fun k => { k with
        intxLast := k.intxLast.set pin (b.intxComb l pin), intxBusy := k.intxBusy.set pin true })).emit
        (.msg l (if b.intxComb l pin then .assertIntx pin else .deassertIntx pin)) := by
  change (b.spaced l pin).intxSend l pin = _
  have hlast : ((b.spaced l pin).lk l).intxLast = (b.lk l).intxLast := by rw [spaced, lkMod_lk_self]
  have hfree : ((b.spaced l pin).lk l).intxBusy[pin]?.getD false = false := by
    rw [spaced, lkMod_lk_self, List.getElem?_set_self hp]
    rfl
  have hL0 : (b.spaced l pin).inL0 l = true := hl
  have hcomb : (b.spaced l pin).intxComb l pin = b.intxComb l pin := rfl
  rw [intxSend, if_neg, hcomb]
  simp only [hlast, hfree, hL0, hcomb, Bool.or_false, Bool.not_true, beq_iff_eq]
  exact h

end intx

/-! ### The rein period (R191) -/

theorem reinPeriod_raises (h : b.flag .reinWait f = true) : (b.reinPeriod f).rd .reinWait f = 0 ∧
    (b.reinPeriod f).rd .lastRein f = (b.time + 1) % 2 ^ 64 ∧
    (b.rd .srcState f 11 ≠ 2 → (b.reinPeriod f).rd .srcLatch f 11 = 1) := by
  have hkept := raise_fr ((b.wr .lastRein f 0 (b.time + 1)).wr .reinWait f 0 0) f 11 (Nat.and_self _) (Nat.and_self _) (Fr.refl ..)
  rw [reinPeriod, if_pos h, hkept.reg .reinWait f 0 rfl, hkept.reg .lastRein f 0 rfl, wr_rd_fld _ (show Fld.lastRein ≠ .reinWait by decide)]
  refine ⟨wr_rd_self _ .reinWait f 0 0, wr_rd_self b .lastRein f 0 _, fun hs => raise_latched ?_⟩
  rwa [wr_rd_fld _ (by decide), wr_rd_fld _ (by decide)]

end Block

/-- Settles O43: a round by what is SELECTED, a commit by the delivery form, then the resample and the two timers. -/
theorem spurSelectionAndTimers : Obligations.SpurSelectionAndTimers := by
  unfold Obligations.SpurSelectionAndTimers
  refine ⟨⟨fun s f k hw => ⟨fun hs => ?select, fun old hs hne => ?preempt, fun hs => ?hold⟩,
    fun s f k hs => ⟨fun hd => ?commit, fun hd ht => ?target, fun hd => ?noForm⟩⟩,
    fun s f k e he hh => ?resample, fun s l pin hbusy hlast => ⟨fun h => ?same, fun h hl => ?changed⟩, fun s f h => ?reins⟩
  case select =>
    refine State.does_of_on (·.spurRound f.val) rfl ?_
    simp only [Block.canon_rd, Block.spurRound_selects hw hs]
    exact ⟨(Block.selTake_srcState ..).trans (if_pos rfl), Block.selTake_kept ..⟩
  case preempt =>
    refine State.does_of_on (·.spurRound f.val) rfl ?_
    simpa only [Block.canon_rd] using Block.spurRound_preempted hw hs hne
  case hold =>
    refine State.does_of_on (·.spurRound f.val) rfl ?_
    rw [Block.spurRound_holds hw hs]
    exact Block.canon_rd _
  case commit =>
    refine State.does_of_on (·.spurCommit f.val) rfl ?_
    rw [Block.canon_rd, Block.canon_rd, Block.canon_rd, Block.spurCommit_rd hs hd rfl, Block.spurCommit_rd hs hd rfl,
      Block.spurCommit_rd hs hd rfl]
    exact Block.committed_source ..
  case target =>
    refine State.does_of_on (·.spurCommit f.val) rfl ?_
    rw [Block.canon_rd, Block.canon_rd, Block.spurCommit_rd hs hd rfl, Block.spurCommit_rd hs hd rfl]
    exact Block.committed_target ht
  case noForm =>
    refine State.does_rd (·.spurCommit f.val) rfl ?_
    rw [Block.spurCommit_noForm hs hd]
    exact Block.spurWithdraw_judged hs
  case resample =>
    obtain ⟨hst, hwait⟩ := Block.spurResampleS_judged he hh
    refine State.does_of_on (·.spurResampleS f.val k.val) rfl ⟨(Block.canon_rd ..).trans hst, ?_⟩
    rw [Block.canon_fn, hwait]
    simp
  case same =>
    have hbusyIx : pin.val < (s.blk.lk l.val).intxBusy.length := by omega
    refine State.does_of_on (·.intxSpaced l.val pin.val) rfl ?_
    rw [Block.canon_lk, Block.intxSpaced_same h, Block.spaced, Block.lkMod_lk_self]
    exact List.getElem?_set_self hbusyIx
  case changed =>
    have hbusyIx : pin.val < (s.blk.lk l.val).intxBusy.length := by omega
    have hlastIx : pin.val < (s.blk.lk l.val).intxLast.length := by omega
    refine State.does_of_on (·.intxSpaced l.val pin.val) rfl ?_
    rw [Block.canon_lk, Block.canon_out, Block.intxSpaced_changed hbusyIx h hl, Block.emit_lk, Block.lkMod_lk_self,
      Block.spaced, Block.lkMod_lk_self]
    exact ⟨List.getElem?_set_self (by rwa [List.length_set]), List.getElem?_set_self hlastIx, rfl⟩
  case reins =>
    refine State.does_of_on (·.reinPeriod f.val) rfl ?_
    simpa only [Block.canon_rd] using Block.reinPeriod_raises h

end Sys2Proof.Machine
end

section
/-! PROOFS. Writes to the Spur registers (O44): mask, pend, EOI, source configuration and vector control. -/
namespace Sys2Proof.Machine
namespace Block
variable {b : Block} {f k v : Nat}

theorem mem_srcBits : k ∈ srcBits v ↔ k < 15 ∧ bit v k = true := by
  rw [srcBits, List.mem_filter, List.mem_range]

/-- While every step of a list keeps Q, what the step for one element establishes and no step undoes holds after the list. -/
theorem each_establishes {α : Type} {P Q : Block → Prop} {l : List α} {g : Block → α → Block} {x : α} (hx : x ∈ l)
    (hQ : ∀ b y, Q b → Q (g b y)) (hest : ∀ b, Q b → P (g b x)) (hP : ∀ b y, P b → P (g b y)) {b : Block} (hb : Q b) :
    P (b.each l g) := by
  induction l generalizing b with
  | nil => cases hx
  | cons y t ih =>
    rcases List.mem_cons.1 hx with rfl | ht
    · exact each_inv (l := t) (b := g b x) (fun c y _ => hP c y) (hest b hb)
    · exact ih ht (hQ b y hb)

/-! ### The mask (R180) -/

/-- R174: whether a source requests does not depend on the mask. -/
theorem srcReq_setBits_spMask (b : Block) (f m s : Nat) : (b.setBits .spMask f 0 m).srcReq f s = b.srcReq f s := by
  simp only [setBits, srcReq, levelCond, anyHalted, flag, wr_rd_fld, ne_eq, reduceCtorEq, not_false_eq_true]

theorem selected_setBits_spMask (b : Block) (f m : Nat) : (b.setBits .spMask f 0 m).selected? f = b.selected? f := by
  simp only [setBits, selected?, wr_rd_fld, ne_eq, reduceCtorEq, not_false_eq_true]

theorem spurMaskOn_mask (b : Block) (f v : Nat) :
    (b.spurMaskOn f v).rd .spMask f = (b.rd .spMask f ||| v % 2 ^ 15) % 2 ^ 15 := by
  have hset : (b.setBits .spMask f 0 (v % 2 ^ 15)).rd .spMask f = (b.rd .spMask f ||| v % 2 ^ 15) % 2 ^ 15 := wr_rd_self ..
  have hdraw : ∀ c : Block, (c.spurWithdraw f).rd .spMask f = c.rd .spMask f := fun c =>
    (spurWithdraw_fr c f (Nat.and_self _) (Nat.and_self _) (Fr.refl ..)).reg .spMask f 0 rfl
  unfold spurMaskOn
  dsimp only
  split
  · split
    · exact (hdraw _).trans hset
    · exact hset
  · exact hset

/-- R180: a mask stops the selection before its commit. -/
theorem spurMaskOn_withdraws (hs : b.selected? f = some k) (hk : bit v k = true) :
    (b.spurMaskOn f v).rd .srcState f k = b2n (b.srcReq f k) := by
  have hs1 : (b.setBits .spMask f 0 (v % 2 ^ 15)).selected? f = some k := (selected_setBits_spMask ..).trans hs
  have heq : b.spurMaskOn f v = (b.setBits .spMask f 0 (v % 2 ^ 15)).spurWithdraw f := by
    simp only [spurMaskOn, hs, hk, if_true]
  rw [heq, spurWithdraw_judged hs1, srcReq_setBits_spMask]

/-! ### The latches (R174) -/

theorem pmeEvent_rd_srcState (b : Block) (f i j : Nat) : (b.pmeEvent f).rd .srcState i j = b.rd .srcState i j :=
  (pmeEvent_fr b f (Nat.and_self _) (Nat.and_self _) (Fr.refl ..)).reg .srcState i j rfl

/-- Table 7.2: sampling selects no source. -/
theorem sample_not_selected (h : b.rd .srcState f k ≠ 2) (s : Nat) : (b.sample f s).rd .srcState f k ≠ 2 := by
  have hwr : ∀ n < 2, (b.wr .srcState f s n).rd .srcState f k ≠ 2 := fun n hn => by
    rw [wr_rd]
    split
    · change n % 4 ≠ 2
      omega
    · exact h
  unfold sample
  split
  · split
    · dsimp only
      split
      · rw [pmeEvent_rd_srcState]
        exact hwr 1 (by omega)
      · exact hwr 1 (by omega)
    · exact h
  · split
    · exact h
    · exact hwr 0 (by omega)
  · split
    · exact h
    · exact hwr 0 (by omega)
  · exact h

theorem raise_not_selected (h : b.rd .srcState f k ≠ 2) (s : Nat) : (b.raise f s).rd .srcState f k ≠ 2 := by
  unfold raise
  split
  · exact h
  · exact sample_not_selected (by rwa [wr_rd_fld _ (by decide)]) s

theorem raise_keeps_latched (h : b.rd .srcLatch f k = 1) (s : Nat) : (b.raise f s).rd .srcLatch f k = 1 := by
  unfold raise
  split
  · exact h
  · rw [sample_srcLatch, wr_rd]
    split
    · rfl
    · exact h

/-- R174: SPUR_PEND_SET latches each source named that is not SELECTED. -/
theorem each_raise_latched (hk : k ∈ srcBits v) (h : b.rd .srcState f k ≠ 2) :
    (b.each (srcBits v) (fun b k => b.raise f k)).rd .srcLatch f k = 1 :=
  each_establishes (P := fun c => c.rd .srcLatch f k = 1) (Q := fun c => c.rd .srcState f k ≠ 2) hk
    (fun _ s hc => raise_not_selected hc s) (fun _ => raise_latched) (fun _ s hc => raise_keeps_latched hc s) h

theorem spurPendOff_cleared (b : Block) (hk : k ∈ srcBits v) : (b.spurPendOff f v).rd .srcLatch f k = 0 := by
  refine each_establishes (P := fun c => c.rd .srcLatch f k = 0) (Q := fun _ => True) hk (fun _ _ _ => trivial) (fun c _ => ?_)
    (fun c s hc => ?_) trivial
  · rw [sample_srcLatch]
    exact wr_rd_self c .srcLatch f k 0
  · rw [sample_srcLatch, wr_rd]
    split
    · rfl
    · exact hc

/-! ### EOI (R181) -/

/-- R181: the EOI of a source in service waits for its resample. -/
theorem spurEoiW_waits (hk : k ∈ srcBits v) (h : b.rd .srcState f k = 3) :
    ((b.spurEoiW f v).fn f).eoiWait.any (fun e => e.1 == k) = true := by
  refine each_establishes (P := fun c => (c.fn f).eoiWait.any (fun e => e.1 == k) = true)
    (Q := fun c => c.rd .srcState f k = 3) hk (fun c s hc => ?_) (fun c hc => ?_) (fun c s hc => ?_) h
  · split
    · rwa [incSat, wr_rd_fld _ (by decide)]
    · split <;> exact hc
  · rw [if_neg (by simp [hc])]
    split
    · next hw => exact hw
    · simp
  · split
    · exact hc
    · split
      · exact hc
      · rw [fnMod_fn_self, List.any_append, hc, Bool.true_or]

/-! ### Source configuration (R184) -/

/-- Table 7.4: the dword of the priority of source k. -/
theorem fcpReg_spurSrcCfg (f : Nat) (hk : k < 15) : fcpReg f (0x2100 + 16 * k) = some ⟨.spurSrcCfg, f, k, 0⟩ := by
  have hix : (0x2100 + 16 * k - 0x2100) / 16 = k := by omega
  have hdw : (0x2100 + 16 * k - 0x2100) % 16 = 0 := by omega
  unfold fcpReg
  extract_lets one
  repeat rw [if_neg (by omega)]
  rw [if_pos (by omega), hix, hdw]
  rfl

theorem regWrite_srcPrio (b : Block) (f k v : Nat) {ok : Fld → Nat → Bool} (hok : ∀ x, ok .srcPrio x = true) :
    (b.regWrite true ⟨.spurSrcCfg, f, k, 0⟩ v ok).rd .srcPrio f k = v % 4 := by
  have hattr : Fld.attr .srcPrio = ⟨.fn, 2, .rw, .image, .function⟩ := rfl
  have hbits : ∀ old, (old / 4294967296 * 4294967296 + v % 4294967296 + old % 1) % 4 = v % 4 := fun old => by omega
  simpa [regWrite, each, Reg.pieces, fldWrite, encOk, pieceIx, pieceJ, hattr, hok] using hbits _

/-- R184: the priority is stored, whether or not the write withdraws a selection. -/
theorem spurCfgW_prio (b : Block) (f v : Nat) (hk : k < 15) : (b.spurCfgW f (0x2100 + 16 * k) v).rd .srcPrio f k = v % 4 := by
  have hdraw : ∀ c : Block, (c.spurWithdraw f).rd .srcPrio f k = c.rd .srcPrio f k := fun c =>
    (spurWithdraw_fr c f (Nat.and_self _) (Nat.and_self _) (Fr.refl ..)).reg .srcPrio f k rfl
  have hwr : (b.regWrite true ⟨.spurSrcCfg, f, k, 0⟩ v
      (fun fld x => if fld == .tgtVec then x < optD (b.fnRec? f) 0 (·.vectors) else true)).rd .srcPrio f k = v % 4 :=
    regWrite_srcPrio b f k v fun _ => rfl
  have hj : k ≠ 15 := by omega
  unfold spurCfgW
  rw [fcpReg_spurSrcCfg f hk]
  dsimp only
  rw [if_neg (by simp [hj])]
  split
  · split
    · exact (hdraw _).trans hwr
    · exact hwr
  · exact hwr

/-! ### Vector control (R186) -/

/-- R186: sending what a mask held leaves the masks as they are. -/
theorem pendFlush_rd (b : Block) (f : Nat) {y : Fld} (hy : vecIssueMask.testBit y.ctorIdx = false) (i j : Nat) :
    (b.pendFlush f).rd y i j = b.rd y i j :=
  (pendFlush_fr b f (Nat.and_self _) (Nat.and_self _) (Fr.refl ..)).reg y i j hy

theorem vecUnmask_vector (hv : v < optD (b.fnRec? f) 0 (·.vectors)) : (b.vecUnmask f (some v)).rd .msixVmask f v = 0 := by
  simp only [vecUnmask, hv, if_true]
  exact (pendFlush_rd _ f rfl ..).trans (wr_rd_self b .msixVmask f v 0)

theorem vecUnmask_function (b : Block) (f : Nat) : (b.vecUnmask f none).rd .cfgMsixFmask f (b.actSet f) = 0 :=
  (pendFlush_rd _ f rfl ..).trans (wr_rd_self b .cfgMsixFmask f _ 0)

end Block

/-- A command on an existing function after which a field reads a value. -/
theorem State.does_ifFn_rd {s : State} {c : Instr} {f : FnIx} (g : Block → Block) {fld : Fld} {i j v : Nat}
    (hc : exec c s = s.on (fun b => b.ifFn f.val g)) (he : s.blk.fnExists f.val = true) (hv : (g s.blk).rd fld i j = v) :
    s.does c fun b => b.rd fld i j = v :=
  State.does_ifFn g hc he ((Block.canon_rd ..).trans hv)

/-- Settles O44, register by register. -/
theorem spurRegisters : Obligations.SpurRegisters := by
  unfold Obligations.SpurRegisters
  intro s f he
  refine ⟨fun v => ?maskSet, fun v k hs hk => ?masked, fun v => ?maskClr, fun v => ?pendSet, fun v => ?pendClr, fun v => ?eoi,
    fun off v k hoff => ?srcCfg, fun v hv => ?vector, ?function⟩
  case maskSet => exact State.does_ifFn_rd (·.spurMaskOn f.val v.toNat) rfl he (Block.spurMaskOn_mask ..)
  case masked => exact State.does_ifFn_rd (·.spurMaskOn f.val v.toNat) rfl he (Block.spurMaskOn_withdraws hs hk)
  case maskClr => exact State.does_ifFn_rd (·.clrBits .spMask f.val 0 (v.toNat % 2 ^ 15)) rfl he (Block.wr_rd_self ..)
  case pendSet =>
    refine State.does_ifFn (·.each (srcBits v.toNat) fun b k => b.raise f.val k) rfl he fun k hk hb hs => ?_
    exact (Block.canon_rd ..).trans (Block.each_raise_latched (Block.mem_srcBits.2 ⟨hk, hb⟩) hs)
  case pendClr =>
    refine State.does_ifFn (·.spurPendOff f.val v.toNat) rfl he fun k hk hb => ?_
    exact (Block.canon_rd ..).trans (Block.spurPendOff_cleared _ (Block.mem_srcBits.2 ⟨hk, hb⟩))
  case eoi =>
    refine State.does_ifFn (·.spurEoiW f.val v.toNat) rfl he fun k hk hb hs => ?_
    rw [Block.canon_fn]
    exact Block.spurEoiW_waits (Block.mem_srcBits.2 ⟨hk, hb⟩) hs
  case srcCfg =>
    have hk : k < 15 := by omega
    have hdw : 0x2100 + off % 0xF0 / 4 * 4 = 0x2100 + 16 * k := by omega
    refine State.does_ifFn_rd (·.spurCfgW f.val (0x2100 + off % 0xF0 / 4 * 4) v.toNat) rfl he ?_
    rw [hdw]
    exact Block.spurCfgW_prio s.blk f.val v.toNat hk
  case vector => exact State.does_ifFn_rd (·.vecUnmask f.val (some v.val)) rfl he (Block.vecUnmask_vector hv)
  case function => exact State.does_ifFn_rd (·.vecUnmask f.val none) rfl he (Block.vecUnmask_function ..)

end Sys2Proof.Machine
end

section
/-! PROOFS. The translation cache: what changes only the stamps of its entries, what brings no valid entry in, and the events that
discard every translation of a function (O55). -/
namespace Sys2Proof.Machine

/-- e is the entry d, used at another time perhaps. -/
def AtsEnt.Same (d e : AtsEnt) : Prop := ∃ n, e = { d with stamp := n }

theorem AtsEnt.Same.refl (d : AtsEnt) : d.Same d := ⟨d.stamp, rfl⟩

theorem AtsEnt.Same.trans {d e x : AtsEnt} (h : d.Same e) (k : e.Same x) : d.Same x := by
  obtain ⟨n, rfl⟩ := h
  obtain ⟨m, rfl⟩ := k
  exact ⟨m, rfl⟩

namespace Block

/-! ### Operations that change only the stamps of the entries -/

/-- The mask of every field. -/
def anyField : Nat := 0xffffffffffffffffffffffffffffffffffffffffffffffffffffffffffffffffffffffffffffffffffffffffffffffffffffffffffffffffffffffffffffffff
/-- The mask of every part but the cache. -/
def allButAts : Nat := 0x7fff7ffff


/-- b has the cache entries of a, some of them used meanwhile, and no others. -/
def SameAts (a b : Block) : Prop := ∃ g : AtsEnt → AtsEnt, (∀ e : AtsEnt, e.Same (g e)) ∧ b.ats = a.ats.map g

namespace SameAts
variable {a b c : Block}

theorem of_ats (h : b.ats = a.ats) : SameAts a b := ⟨id, AtsEnt.Same.refl, by rw [h, List.map_id]⟩
theorem refl (a : Block) : SameAts a a := of_ats rfl
theorem of_others (h : Fr anyField allButAts a b) : SameAts a b := of_ats (h.part .ats rfl)

theorem trans (h : SameAts a b) (k : SameAts b c) : SameAts a c := by
  obtain ⟨g, hg, hb⟩ := h
  obtain ⟨g', hg', hc⟩ := k
  exact ⟨g' ∘ g, fun e => (hg e).trans (hg' (g e)), by rw [hc, hb, List.map_map]⟩

theorem each {α : Type} {g : Block → α → Block} (hg : ∀ b x, SameAts b (g b x)) (l : List α) (b : Block) : SameAts b (b.each l g) :=
  each_inv (P := SameAts b) (fun c x _ h => h.trans (hg c x)) (.refl b)

end SameAts

section stamps
variable (b : Block) (p : Nat)

theorem xlTouch_sameAts (id : Nat) : SameAts b (b.xlTouch id) := by
  refine ⟨fun e => if e.id == id then { e with stamp := b.nextId } else e, fun e => ?_, rfl⟩
  dsimp only
  split
  · exact ⟨b.nextId, rfl⟩
  · exact .refl e

theorem lmIssue_sameAts (m : LmReq) (host : Nat) (ent : Option Nat) : SameAts b (b.lmIssue p m host ent) :=
  .of_others (lmIssue_fr b p m host ent rfl rfl (.refl ..))

/-- R209: a request served from the cache marks its entry as used; a miss touches no entry. -/
theorem lmStart_sameAts (m : LmReq) : SameAts b (b.lmStart p m) := by
  unfold lmStart
  split
  · exact lmIssue_sameAts ..
  · extract_lets pas
    split
    · split
      · exact (xlTouch_sameAts ..).trans (lmIssue_sameAts ..)
      · exact .of_others (xlMiss_fr _ m.f pas m.host (.lm p m.arr) rfl rfl (lmMod_fr b p m.arr _ rfl rfl (.refl ..)))
    · exact .of_others (lmAnswer_fr _ p m 2 8 0 [] rfl rfl (xlLog_fr b m.f _ m.host m.len m.pasid rfl rfl (.refl ..)))

theorem lmTurn_sameAts (arr : Nat) : SameAts b (b.lmTurn p arr) := by
  unfold lmTurn
  extract_lets b1
  have h1 : SameAts b b1 := by
    simp only [b1]
    split
    · next m _ =>
      split
      · exact .of_others (lmDecode_fr b p m rfl rfl (.refl ..))
      · exact .refl b
    · exact .refl b
  split
  · split
    · exact h1.trans (lmStart_sameAts ..)
    · exact h1
  · exact h1

theorem lmPumpAll_sameAts : SameAts b b.lmPumpAll := by
  refine .each (fun b p => ?_) _ _
  unfold lmPump
  split
  · exact .refl b
  · exact .each (fun b arr => lmTurn_sameAts b p arr) _ _

end stamps

/-! ### Operations that bring no valid entry into the cache (R212) -/

/-- A function without a valid entry in a has none in b. -/
structure KeepsUntranslated (a b : Block) : Prop where
  keeps : ∀ {f}, a.untranslated f → b.untranslated f

namespace KeepsUntranslated
variable {a b c : Block}

theorem of_ats (h : b.ats = a.ats) : KeepsUntranslated a b := ⟨fun hu => by rwa [untranslated, h]⟩
theorem refl (a : Block) : KeepsUntranslated a a := of_ats rfl
theorem trans (h : KeepsUntranslated a b) (k : KeepsUntranslated b c) : KeepsUntranslated a c := ⟨fun hu => k.keeps (h.keeps hu)⟩
/-- Ahead of it, and behind it, the cache was left alone. -/
theorem behind (k : KeepsUntranslated b c) (h : b.ats = a.ats) : KeepsUntranslated a c := (of_ats h).trans k
theorem ahead (h : KeepsUntranslated a b) (k : c.ats = b.ats) : KeepsUntranslated a c := h.trans (of_ats k)
theorem of_others (h : Fr anyField allButAts a b) : KeepsUntranslated a b := of_ats (h.part .ats rfl)

theorem each {α : Type} {g : Block → α → Block} (hg : ∀ b x, KeepsUntranslated b (g b x)) (l : List α) (b : Block) :
    KeepsUntranslated b (b.each l g) :=
  each_inv (P := KeepsUntranslated b) (fun c x _ h => h.trans (hg c x)) (.refl b)

end KeepsUntranslated

theorem SameAts.keepsUntranslated {a b : Block} (h : SameAts a b) : KeepsUntranslated a b := by
  obtain ⟨g, hg, hb⟩ := h
  refine ⟨fun hu e he hf => ?_⟩
  rw [hb] at he
  obtain ⟨d, hd, rfl⟩ := List.mem_map.1 he
  obtain ⟨n, hn⟩ := hg d
  rw [hn] at hf ⊢
  exact hu d hd hf

/-- An entry left after a discard is no longer valid, or was there and did not meet the condition. -/
theorem mem_atsDiscard {b : Block} {p : AtsEnt → Bool} {e : AtsEnt} (he : e ∈ (b.atsDiscard p).ats) :
    e.valid = false ∨ e ∈ b.ats ∧ p e = false := by
  obtain ⟨d, hd, rfl⟩ := List.mem_map.1 he
  by_cases hp : p d = true
  · exact .inl (by rw [if_pos hp])
  · rw [if_neg hp]
    exact .inr ⟨(List.mem_filter.1 hd).1, by simpa using hp⟩

theorem atsDiscard_keepsUntranslated (b : Block) (p : AtsEnt → Bool) : KeepsUntranslated b (b.atsDiscard p) :=
  ⟨fun hu e he hf => (mem_atsDiscard he).elim id fun h => hu e h.1 hf⟩

/-- R212: after the discard of a function's translations no valid entry of it is left. -/
theorem atsFlush_untranslated (b : Block) (f : Nat) : (b.atsFlush f).untranslated f := fun e he hf =>
  (mem_atsDiscard he).elim id fun h => absurd hf (by simpa using h.2)

theorem untranslated_xlHit {b : Block} {f : Nat} (h : b.untranslated f) (pasid : Option Nat) (addr : Nat) (rd wr : Bool) :
    b.xlHit f pasid addr rd wr = none := by
  refine List.find?_eq_none.2 fun e he => ?_
  by_cases hf : e.f = f
  · simp [h e he hf]
  · simp [hf]

/-! ### Function reset (R202) -/

/-- What a function reset of f does before and after the discard of its translations brings no valid entry in. -/
theorem fnCut_flushes (b : Block) (f : Nat) : ∃ c, KeepsUntranslated b c ∧ KeepsUntranslated (c.atsFlush f) (b.fnCut f) := by
  unfold fnCut
  extract_lets p l mine b0 b1 b2 b3 ownMsg b4 b5 recs b6
  have h1 : KeepsUntranslated b b1 := .of_ats ((spurWithdraw_fr b f (Nat.and_self _) (Nat.and_self _) (Fr.refl ..)).part .ats rfl)
  have h2 : Fr anyField allButAts b1 b2 := .each (fun c m h => .ite (lmAnswer_fr c _ _ _ _ _ _ rfl rfl h)
    (.ite (lmAnswer_fr c _ _ _ _ _ _ rfl rfl h) (lmCut_fr c _ _ _ rfl rfl h))) (.refl ..)
  have h4 : Fr anyField allButAts b1 b4 := .each (fun c n h => qReset_fr c f n rfl rfl h) (.lkMod rfl (flushCut_fr b2 p f true rfl rfl h2))
  have h6 : Fr anyField allButAts b5 ((b6.retRec p f recs).intxF f) :=
    intxF_fr _ f rfl rfl (retRec_fr _ p f recs rfl rfl (.fnMod rfl (.refl ..)))
  exact ⟨_, h1.trans (.of_others (dropNp_fr b4 f _ rfl rfl h4)), .trans (.of_others h6) (lmPumpAll_sameAts _).keepsUntranslated⟩

theorem fnCut_keepsUntranslated (b : Block) (f : Nat) : KeepsUntranslated b (b.fnCut f) := by
  obtain ⟨c, hb, hc⟩ := fnCut_flushes b f
  exact hb.trans ((atsDiscard_keepsUntranslated c _).trans hc)

theorem fnCut_untranslated (b : Block) (f : Nat) : (b.fnCut f).untranslated f := by
  obtain ⟨c, -, hc⟩ := fnCut_flushes b f
  exact hc.keeps (atsFlush_untranslated c f)

/-! ### Operations that start and end no function reset -/

/-- The same function resets run in b as in a. -/
structure SameFlr (a b : Block) : Prop where
  flr : ∀ g, (b.fn g).flr = (a.fn g).flr

namespace SameFlr
variable {a b c : Block}

theorem of_fn (h : ∀ g, b.fn g = a.fn g) : SameFlr a b := ⟨fun g => by rw [h]⟩
theorem of_fns (h : b.fns = a.fns) : SameFlr a b := of_fn fun g => by rw [fn, h, fn]
theorem refl (a : Block) : SameFlr a a := ⟨fun _ => rfl⟩
theorem trans (h : SameFlr a b) (k : SameFlr b c) : SameFlr a c := ⟨fun g => (k.flr g).trans (h.flr g)⟩
theorem of_fr {m q : Nat} (h : Fr m q a b) (hq : q.testBit (Part.ctorIdx .fns) = false) : SameFlr a b := of_fn (h.part .fns hq)
/-- Ahead of it the functions' records were left alone. -/
theorem behind (k : SameFlr b c) (h : b.fns = a.fns) : SameFlr a c := (of_fns h).trans k
theorem of_butPme (h : ∀ g, ButPme (a.fn g) (b.fn g)) : SameFlr a b := ⟨fun g => by
  obtain ⟨v, hv⟩ := h g
  rw [hv]⟩

theorem fnMod {u : Nat} {g : FnDyn → FnDyn} (hg : ∀ d, (g d).flr = d.flr) (h : SameFlr a b) : SameFlr a (b.fnMod u g) := ⟨fun f => by
  by_cases hf : f = u
  · rw [hf, fnMod_fn_self, hg, h.flr u]
  · rw [fnMod_fn_ne b hf, h.flr f]⟩

theorem each {α : Type} {g : Block → α → Block} (hg : ∀ b x, SameFlr b (g b x)) (l : List α) (b : Block) : SameFlr b (b.each l g) :=
  each_inv (P := SameFlr b) (fun c x _ h => h.trans (hg c x)) (.refl b)

theorem ite {P : Prop} [Decidable P] (hb : SameFlr a b) (hc : SameFlr a c) : SameFlr a (if P then b else c) := by
  split <;> assumption

end SameFlr

section flr
variable (b : Block) (f p : Nat)

theorem logErr_sameFlr (e : LogE) (hdr : Nat) : SameFlr b (b.logErr f e hdr) := .of_butPme fun g => logErr_fn b f g e hdr
theorem sample_sameFlr (s : Nat) : SameFlr b (b.sample f s) := .of_butPme fun g => sample_fn b f g s
theorem lmAnswer_sameFlr (m : LmReq) (code cause pvec : Nat) (data : List Byte) : SameFlr b (b.lmAnswer p m code cause pvec data) :=
  .of_fr (lmAnswer_fr b p m code cause pvec data (Nat.and_self _) (Nat.and_self _) (Fr.refl ..)) rfl
theorem lmTry_sameFlr (arr : Nat) : SameFlr b (b.lmTry p arr) := .of_fn (tether_lmTry b p arr).fn
theorem lmModFail_sameFlr (arr : Nat) (g : LmReq → LmReq) (code cause : Nat) : SameFlr b ((b.lmMod p arr g).lmFail p arr code cause) :=
  .behind (lmTry_sameFlr (((b.lmMod p arr g).lmMod p arr _)) p arr) rfl
theorem dropNp_sameFlr (q : HTag → Bool) : SameFlr b (b.dropNp f q) := .fnMod (fun _ => rfl) (.refl b)

/-- Sending a request of f changes of the functions' records the requests alone. -/
theorem sendNp_fn (id g : Nat) : ∃ np, (b.sendNp f id).fn g = { b.fn g with np := np } := by
  unfold sendNp
  extract_lets l np
  split
  · exact ⟨_, rfl⟩
  · split
    · exact ⟨_, rfl⟩
    · split
      · split
        · exact ⟨_, rfl⟩
        · by_cases hg : g = f
          · subst hg
            exact ⟨_, by rw [emit_fn, fnMod_fn_self]; rfl⟩
          · exact ⟨(b.fn g).np, by rw [emit_fn, fnMod_fn_ne _ hg]; rfl⟩
      · split
        · exact ⟨(b.fn g).np, (l1Exit_fr b l (Nat.and_self _) (Nat.and_self _) (Fr.refl ..)).part .fns rfl g⟩
        · exact ⟨_, rfl⟩

theorem sendNp_sameFlr (id : Nat) : SameFlr b (b.sendNp f id) := ⟨fun g => by
  obtain ⟨np, h⟩ := sendNp_fn b f id g
  rw [h]⟩

theorem addNp_sameFlr (own : HOwner) (addr len : Nat) (ent : Option Nat) (xl : Bool) (pasid : Option Nat) (ns : Bool)
    (ops : List Byte) (aop : Nat) : SameFlr b (b.addNp f own addr len ent xl pasid ns ops aop) := by
  unfold addNp
  extract_lets id from? t b1
  have h1 : SameFlr b b1 := .fnMod (fun _ => rfl) (.of_fns rfl)
  refine .ite h1 (h1.trans (.trans ?_ (sendNp_sameFlr ..)))
  cases from? <;> exact .of_fns rfl

theorem pumpXl_sameFlr : SameFlr b (b.pumpXl f) :=
  .each (fun c _ => .ite (.refl c) (addNp_sameFlr ..)) _ _

theorem xlMiss_sameFlr (pasid : Option Nat) (addr : Nat) (w : XlWait) : SameFlr b (b.xlMiss f pasid addr w) := by
  unfold xlMiss
  extract_lets s lo same r
  split
  · exact .fnMod (fun _ => rfl) (.refl b)
  · have hreq : SameFlr b (b.newId.fnMod f (fun d => { d with xreqs := d.xreqs ++ [r] })) := .fnMod (fun _ => rfl) (.of_fns rfl)
    exact hreq.trans (pumpXl_sameFlr ..)

theorem lmIssue_sameFlr (m : LmReq) (host : Nat) (ent : Option Nat) : SameFlr b (b.lmIssue p m host ent) := by
  unfold lmIssue
  extract_lets b0 ps c1 ws b1 b2 b3
  split
  · exact .behind (b := c1) (.each (fun c x => addNp_sameFlr c ..) ps c1) rfl
  · split
    · exact .behind (addNp_sameFlr b0 ..) rfl
    · have h1 : SameFlr b0 b1 := .each (fun c w => .of_fr (post_fr c m.link w (Nat.and_self _) (Nat.and_self _) (Fr.refl ..)) rfl) ws b0
      have h2 : SameFlr b0 b2 := .ite h1 (h1.trans (logErr_sameFlr ..))
      have h3 : SameFlr b0 b3 := .ite (h2.trans (.behind (addNp_sameFlr (b2.lmMod p m.arr _) ..) rfl)) h2
      exact .behind (h3.trans (lmTry_sameFlr ..)) rfl

theorem lmStart_sameFlr (m : LmReq) : SameFlr b (b.lmStart p m) := by
  unfold lmStart
  split
  · exact lmIssue_sameFlr ..
  · extract_lets pas
    split
    · split
      · exact .behind (lmIssue_sameFlr (b.xlTouch _) ..) rfl
      · exact .behind (xlMiss_sameFlr (b.lmMod p m.arr _) ..) rfl
    · exact (logErr_sameFlr ..).trans (lmAnswer_sameFlr ..)

theorem lmDecode_sameFlr (m : LmReq) : SameFlr b (b.lmDecode p m) := by
  unfold lmDecode
  split
  · exact lmAnswer_sameFlr ..
  · extract_lets f m1 b1
    split
    · exact .behind (b := b1) (.trans (.ite (logErr_sameFlr b1 ..) (.refl b1)) (lmAnswer_sameFlr ..)) rfl
    · exact .of_fns rfl

theorem lmTurn_sameFlr (arr : Nat) : SameFlr b (b.lmTurn p arr) := by
  unfold lmTurn
  extract_lets b1
  have h1 : SameFlr b b1 := by
    simp only [b1]
    split
    · exact .ite (lmDecode_sameFlr ..) (.refl b)
    · exact .refl b
  split
  · exact .ite (h1.trans (lmStart_sameFlr ..)) h1
  · exact h1

theorem lmPumpAll_sameFlr : SameFlr b b.lmPumpAll :=
  .each (fun c p => .ite (.refl c) (.each (fun c arr => lmTurn_sameFlr c p arr) _ _)) _ _

theorem lmCut_sameFlr (m : LmReq) (zlrToo : Bool) : SameFlr b (b.lmCut p m zlrToo) := by
  unfold lmCut
  extract_lets f mineP mineN gone cutW zWait b1 zCut
  have h1 : SameFlr b b1 := .behind (dropNp_sameFlr (b.lkMod m.link _) f mineN) rfl
  split
  · exact .ite h1 (h1.trans (lmModFail_sameFlr ..))
  · exact .ite h1 (h1.trans (lmModFail_sameFlr ..))
  · exact .ite h1 (h1.trans (lmModFail_sameFlr ..))
  · exact .ite h1 (h1.trans (lmAnswer_sameFlr ..))
  · exact h1

theorem flushCut_sameFlr (all : Bool) : SameFlr b (b.flushCut p f all) := by
  unfold flushCut
  refine .each (fun c m => ?_) _ _
  extract_lets mine c1
  have h1 : SameFlr c c1 := .fnMod (fun _ => rfl) (.refl c)
  exact .ite (h1.trans (.of_fns rfl)) (.refl c)

theorem qReset_sameFlr (n : Nat) : SameFlr b (b.qReset f n) := by
  unfold qReset
  extract_lets q b1 b2 unsent
  have h1 : SameFlr b b1 := .behind (b := (b.wr .qState f n 0).wr .qResetBusy f n 1) (.trans (dropNp_sameFlr _ f _) (.of_fns rfl)) rfl
  exact h1.trans (.behind (sample_sameFlr ..) rfl)

theorem fnCut_sameFlr : SameFlr b (b.fnCut f) := by
  unfold fnCut
  extract_lets p l mine b0 b1 b2 b3 ownMsg b4 b5 recs b6
  have h1 : SameFlr b b1 := .of_fn ((spurWithdraw_fr b f (Nat.and_self _) (Nat.and_self _) (Fr.refl ..)).part .fns rfl)
  have h2 : SameFlr b1 b2 := .each (fun c m => .ite (lmAnswer_sameFlr ..) (.ite (lmAnswer_sameFlr ..) (lmCut_sameFlr ..))) _ _
  have h4 : SameFlr b2 b4 := (flushCut_sameFlr b2 f p true).trans
    (.behind (b := b3.lkMod l _) (.each (fun c n => qReset_sameFlr c f n) _ _) rfl)
  have h5 : SameFlr b4 b5 := (dropNp_sameFlr b4 f (fun t => t.st == .waiting)).trans (.of_fns rfl)
  have h6 : SameFlr b4 b6 := .fnMod (fun _ => rfl) h5
  have h7 : SameFlr b6 (b6.retRec p f recs) := .of_fr (retRec_fr b6 p f recs (Nat.and_self _) (Nat.and_self _) (Fr.refl ..)) rfl
  have h8 : SameFlr (b6.retRec p f recs) ((b6.retRec p f recs).intxF f) :=
    .of_fr (intxF_fr _ f (Nat.and_self _) (Nat.and_self _) (Fr.refl ..)) rfl
  exact h1.trans (h2.trans (h4.trans (h6.trans (h7.trans (h8.trans (lmPumpAll_sameFlr _))))))

end flr

/-! ### The start of a function reset (R202, R206, R212) -/

section reset
variable {b : Block} {f : Nat}

/-- R202: in the set in force the write starts the reset of f, behind those of its virtual functions. -/
theorem flrWrite_starts {j : Nat} (hok : b.cfgOk f j = true) (hj : j = b.actSet f) : b.flrWrite f j = (b.vfsReset f).flrBegin f true := by
  subst hj
  simp [flrWrite, hok]

/-- R206: the reset of v runs, or f is as it was: under no reset, or without translations. -/
theorem flrBegin_judged (h : (b.fn f).flr = none ∨ b.untranslated f) (v : Nat) (frs : Bool) :
    ((b.flrBegin v frs).fn f).flr = none ∨ (b.flrBegin v frs).untranslated f := by
  unfold flrBegin
  split
  · exact h
  · by_cases hv : f = v
    · exact .inr (hv ▸ fnCut_untranslated b f)
    · refine h.imp (fun hn => ?_) (fnCut_keepsUntranslated b v).keeps
      rw [fnMod_fn_ne _ hv, (fnCut_sameFlr b v).flr, hn]

theorem flrBegin_untranslated {frs : Bool} (h : (b.fn f).flr = none ∨ b.untranslated f) : (b.flrBegin f frs).untranslated f := by
  unfold flrBegin
  split
  · next hs => exact h.resolve_left fun hn => by simp [hn] at hs
  · exact fnCut_untranslated b f

/-- R212: a function reset discards the translations of the function. -/
theorem flrWrite_untranslated {j : Nat} (hok : b.cfgOk f j = true) (hj : j = b.actSet f) (hn : (b.fn f).flr = none) :
    (b.flrWrite f j).untranslated f := by
  rw [flrWrite_starts hok hj]
  refine flrBegin_untranslated (each_inv (P := fun c => (c.fn f).flr = none ∨ c.untranslated f) (fun c v _ hc => ?_) (.inl hn))
  exact flrBegin_judged hc v false

end reset

/-! ### ATS Enable, PASID Enable and the Smallest Translation Unit (R212) -/

theorem atsWrite_untranslated {b : Block} {f j v : Nat} {r : FnRec} {fld : Fld} (hok : b.cfgOk f j = true) (hj : j = b.actSet f)
    (hr : b.fnRec? f = some r) (hp : r.privileged = true) (hv : fld = .atsStu ∨ v = 0) : (b.atsWrite f j fld v).untranslated f := by
  have heq : b.atsWrite f j fld v = ((b.wr fld f j v).tdiErr f).atsFlush f := by
    subst hj
    simp [atsWrite, hok, hr, optD, hp, hv]
  rw [heq]
  exact atsFlush_untranslated _ f

/-! ### Link resets (R212, R239) -/

section link
variable (b : Block) (l : Nat)

/-- Table 9.5: what a function has on a link ends with its translations. -/
theorem dlDownFn_flushes (f : Nat) (keep : PWr → Bool) : ∃ c, KeepsUntranslated b c ∧ b.dlDownFn f l keep = c.atsFlush f := by
  unfold dlDownFn
  extract_lets p mine b1 b2 b3 b4
  have h1 : Fr anyField allButAts b b1 := .each (fun c m h => lmAnswer_fr c p m 2 7 0 [] rfl rfl h) (.refl ..)
  have h2 : Fr anyField allButAts b b2 := .each (fun c m h => lmMod_fr c p m.arr _ rfl rfl h) h1
  have h4 : Fr anyField allButAts b b4 := .fnMod rfl (dropNp_fr b3 f _ rfl rfl (.lkMod rfl h2))
  refine ⟨_, ?_, rfl⟩
  exact .of_ats (h4.part .ats rfl)

theorem dlDownFn_untranslated (f : Nat) (keep : PWr → Bool) : (b.dlDownFn f l keep).untranslated f := by
  obtain ⟨c, -, hc⟩ := dlDownFn_flushes b l f keep
  rw [hc]
  exact atsFlush_untranslated c f

theorem dlDownFn_keepsUntranslated (f : Nat) (keep : PWr → Bool) : KeepsUntranslated b (b.dlDownFn f l keep) := by
  obtain ⟨c, hb, hc⟩ := dlDownFn_flushes b l f keep
  rw [hc]
  exact hb.trans (atsDiscard_keepsUntranslated c _)

/-- Once the traffic of every function of a link has ended, each is without translations. -/
theorem each_dlDownFn_untranslated {f : Nat} {fs : List Nat} (hf : f ∈ fs) (keep : PWr → Bool) :
    (b.each fs (fun b f => b.dlDownFn f l keep)).untranslated f :=
  each_establishes (P := fun c => c.untranslated f) (Q := fun _ => True) (g := fun b f => b.dlDownFn f l keep) hf (fun _ _ _ => trivial)
    (fun c _ => dlDownFn_untranslated c l f keep) (fun c g hc => (dlDownFn_keepsUntranslated c l g keep).keeps hc) trivial

theorem fnRestore_keepsUntranslated (f : Nat) : KeepsUntranslated b (b.fnRestore f) :=
  .of_ats ((fnRestore_fr b f (Nat.and_self _) (Nat.and_self _) (Fr.refl ..)).part .ats rfl)

theorem linkFnReset_keepsUntranslated (f : Nat) : KeepsUntranslated b (b.linkFnReset f l) :=
  (dlDownFn_keepsUntranslated b l f _).trans ((fnCut_keepsUntranslated _ f).trans (.behind (fnRestore_keepsUntranslated _ f) rfl))

theorem setReset_keepsUntranslated (r : FnRec) : KeepsUntranslated b (b.setReset r l) := .of_ats rfl

/-- R304, R306: the sets of functions on a link take their reset values, and their standby links are no longer ready. -/
theorem each_standbyGone_keepsUntranslated (rs : List FnRec) :
    KeepsUntranslated b (b.each rs fun b r => (b.setReset r l).wr .recStandbyReady r.f 0 0) :=
  .each (fun d r => .ahead (c := (d.setReset r l).wr .recStandbyReady r.f 0 0) (setReset_keepsUntranslated d l r) rfl) _ _

theorem linkReset_keepsUntranslated : KeepsUntranslated b (b.linkReset l) := by
  unfold linkReset
  extract_lets fs b1
  have h1 : KeepsUntranslated b b1 := .each (fun c f => dlDownFn_keepsUntranslated ..) _ _
  exact h1.trans (.behind (.each (fun c f => linkFnReset_keepsUntranslated c l f) fs (b1.linkState l)) rfl)

variable {b l} {f : Nat}

theorem linkReset_untranslated (hf : f ∈ b.actFns l) : (b.linkReset l).untranslated f := by
  unfold linkReset
  extract_lets fs b1
  have h1 : b1.untranslated f := each_dlDownFn_untranslated b l hf _
  exact (KeepsUntranslated.each (fun c f => linkFnReset_keepsUntranslated c l f) fs (b1.linkState l)).keeps h1

theorem standbyLost_keepsUntranslated (b : Block) (l : Nat) : KeepsUntranslated b (b.standbyLost l) := by
  unfold standbyLost
  extract_lets rs b1
  have h1 : KeepsUntranslated b b1 := each_standbyGone_keepsUntranslated _ l _
  split
  · exact h1.trans (linkReset_keepsUntranslated ..)
  · exact h1

theorem failAgain_untranslated (hf : f ∈ b.actFns l) : (b.failAgain l).untranslated f := by
  unfold failAgain
  extract_lets fs vs b1 kept b2
  have h1 : b1.untranslated f := each_dlDownFn_untranslated b l hf _
  exact (KeepsUntranslated.each (fun c r => setReset_keepsUntranslated c l r) _ b2).keeps h1

theorem failStart_untranslated (hf : f ∈ b.actFns l) : (b.failStart l).untranslated f := by
  unfold failStart
  extract_lets fs vs b1 kept b2 b3 b4
  have h1 : b1.untranslated f := each_dlDownFn_untranslated b l hf _
  have h3 : KeepsUntranslated b2 b3 := each_standbyGone_keepsUntranslated _ l _
  have h4 : KeepsUntranslated b3 b4 := .each (fun c (x : Nat × Nat) =>
    .of_ats ((formJudge_fr c x.1 x.2 (Nat.and_self _) (Nat.and_self _) (Fr.refl ..)).part .ats rfl)) _ _
  have h5 : KeepsUntranslated b4 (b4.each fs fun b f => b.failQueues f) := .each (fun c g =>
    .of_ats ((failQueues_fr c g (Nat.and_self _) (Nat.and_self _) (Fr.refl ..)).part .ats rfl)) _ _
  exact h5.keeps (h4.keeps (h3.keeps h1))

/-- R212: whether the link is reset or its pair fails over, no function that it carries keeps a translation. -/
theorem linkDown_untranslated (hf : f ∈ b.actFns l) (counted : Bool) : (b.linkDown l counted).untranslated f := by
  unfold linkDown
  extract_lets b1 b2
  have hf1 : f ∈ b1.actFns l := by
    simp only [b1]
    split
    · have hlink : ∀ g, (b.incSat .lnkCntLinkDown l).actLink g = b.actLink g := fun g => wr_rd_fld b (by decide) ..
      have hrecs : (b.incSat .lnkCntLinkDown l).fnRecs = b.fnRecs := rfl
      simpa only [actFns, hlink, hrecs] using hf
    · exact hf
  have h2 : b2.untranslated f := by
    simp only [b2]
    split
    · exact failAgain_untranslated hf1
    · split
      · exact failStart_untranslated hf1
      · exact (standbyLost_keepsUntranslated _ l).keeps (linkReset_untranslated hf1)
  have hjudge := clkreqJudge_fr b2 (l / 4) (Nat.and_self _) (Nat.and_self _) (Fr.refl ..)
  exact (KeepsUntranslated.of_ats (hjudge.part .ats rfl)).keeps h2

end link

end Block

/-- Settles O55, event by event; without a valid entry no access is served from the cache. -/
theorem translationDiscards : Obligations.TranslationDiscards := by
  unfold Obligations.TranslationDiscards
  refine ⟨fun s f alt r hok hj hr hp => ⟨?ats, ?pasid, fun v => ?stu⟩, fun s f alt hok hj hn => ?reset,
    fun s l f hd hf => ⟨?loss, ?hot, ?disable⟩, fun b f => Block.untranslated_xlHit⟩
  case ats => exact State.does_of_on (·.atsWrite f.val (b2n alt) .atsEnable 0) rfl (Block.atsWrite_untranslated hok hj hr hp (.inr rfl))
  case pasid => exact State.does_of_on (·.atsWrite f.val (b2n alt) .pasidEnable 0) rfl (Block.atsWrite_untranslated hok hj hr hp (.inr rfl))
  case stu => exact State.does_of_on (·.atsWrite f.val (b2n alt) .atsStu v.toNat) rfl (Block.atsWrite_untranslated hok hj hr hp (.inl rfl))
  case reset => exact State.does_of_on (·.flrWrite f.val (b2n alt)) rfl (Block.flrWrite_untranslated hok hj hn)
  case loss =>
    refine State.does_of_on (fun b => if b.dlActive l.val then b.linkDown l.val true else b) rfl ?_
    rw [if_pos hd]
    exact Block.linkDown_untranslated hf true
  case hot =>
    refine State.does_of_on (fun b => if b.dlActive l.val then b.linkDown l.val false else b) rfl ?_
    rw [if_pos hd]
    exact Block.linkDown_untranslated hf false
  case disable =>
    refine State.does_of_on (fun b => if b.dlActive l.val then (b.linkDown l.val false).wr .lnkLtssm l.val 0 7 else b) rfl ?_
    rw [if_pos hd]
    exact Block.linkDown_untranslated hf false

end Sys2Proof.Machine
end

section
/-! PROOFS. Translation Completions, Invalidate Requests and their completions (O34). -/
namespace Sys2Proof.Machine
/-- Among the entries that the Invalidate Request v matched is the one that a request was formed from. -/
def Inval.names (v : Inval) (ent : Option Nat) : Bool :=
  match ent with
  | some e => v.ents.contains e
  | none => false

namespace Block
variable {b : Block} {f : Nat}

/-! ### A granted translation is cached (R209, R211) -/

/-- The removal of a request leaves the Translation Requests of every function as they are. -/
theorem npDrop_xreqs (b : Block) (f id g : Nat) : ((b.npDrop f id).fn g).xreqs = (b.fn g).xreqs := by
  have hpump : ∀ c : Block, ((c.pumpNp f).fn g).xreqs = (c.fn g).xreqs := fun c => by
    refine each_inv (P := fun d => (d.fn g).xreqs = (c.fn g).xreqs) (fun d i _ hd => ?_) rfl
    obtain ⟨np, h⟩ := sendNp_fn d f i g
    rw [h, hd]
  refine (hpump _).trans ?_
  by_cases hg : g = f
  · rw [hg, dropNp, fnMod_fn_self]
  · rw [dropNp, fnMod_fn_ne b hg]

/-- Where neither the cache nor the image changes, there is room for an entry of f as before. -/
theorem room_of_ats {a c : Block} (ha : c.ats = a.ats) (hi : c.img = a.img) (f : Nat) :
    c.atsFull f = a.atsFull f ∧ c.atsVictim f = a.atsVictim f := by
  have hcount : ∀ g, c.atsCount g = a.atsCount g := fun g => by rw [atsCount, ha, atsCount]
  have hmin : ∀ g, c.atsMin g = a.atsMin g := fun g => by rw [atsMin, hi, atsMin]
  have hpriv : c.privFns = a.privFns := by rw [privFns, fnRecs, hi, privFns, fnRecs]
  have hheld : c.atsHeld = a.atsHeld := by simp only [atsHeld, hcount, hmin, hpriv]
  exact ⟨by rw [atsFull, hcount, hmin, hheld, atsFull], by simp only [atsVictim, hcount, hmin, ha]⟩

/-- The cache holds a valid entry of f with the rights that d grants. -/
def Cached (b : Block) (f : Nat) (d : XlDone) : Prop := ∃ e ∈ b.ats, e.f = f ∧ e.valid = true ∧ e.rd = d.rd ∧ e.wr = d.wr

theorem atsInsert_cached (b : Block) (f : Nat) (x : XlReq) (d : XlDone) : (b.atsInsert f x d).Cached f d :=
  ⟨_, List.mem_append_right _ List.mem_cons_self, rfl, rfl, rfl, rfl⟩

theorem SameAts.cached {a b : Block} (h : SameAts a b) {d : XlDone} (hc : a.Cached f d) : b.Cached f d := by
  obtain ⟨g, hg, hb⟩ := h
  obtain ⟨e, he, hf, hv, hrd, hwr⟩ := hc
  obtain ⟨n, hn⟩ := hg e
  exact ⟨g e, hb ▸ List.mem_map_of_mem he, hn ▸ hf, hn ▸ hv, hn ▸ hrd, hn ▸ hwr⟩

section granted
variable {tag rid : Nat} {d : XlDone} {t : HTag} {x : XlReq}
  (hf : (b.fn f).np.find? (fun t => t.st != .waiting && t.tag == tag) = some t) (ho : t.own = .xlate rid) (hs : t.st = .sent)
  (hx : b.xreq? f rid = some x) (hd : d.status = .sc) (hi : x.invs = []) (hw : x.waits = []) (hg : (d.rd || d.wr) = true)
  (hroom : b.atsFull f = false ∨ (b.atsVictim f).isSome = true)
include hf ho hs hx hd hi hw hg hroom

/-- R211: the completion of a Translation Request that nothing waits on and no invalidation touched: with room, its translation
becomes an entry. -/
theorem xlDone_inserts : b.xlDone f tag d =
    ((((((b.npDrop f t.id).xreqDrop f rid).atsEvict f).atsInsert f x d).pumpXl f).lmPumpAll) := by
  have hx1 : (b.npDrop f t.id).xreq? f rid = some x := by rw [xreq?, npDrop_xreqs]; exact hx
  have hfr : Fr anyField 0x40005302 b ((b.npDrop f t.id).xreqDrop f rid) :=
    xreqDrop_fr _ f rid rfl rfl (npDrop_fr b f t.id rfl rfl (.refl ..))
  obtain ⟨hfull, hvic⟩ := room_of_ats (hfr.part .ats rfl) (hfr.part .img rfl) f
  have hroom' : (!((b.npDrop f t.id).xreqDrop f rid).atsFull f || (((b.npDrop f t.id).xreqDrop f rid).atsVictim f).isSome) = true := by
    rw [hfull, hvic]
    simpa using hroom
  have hsome : (!d.rd && !d.wr) = false := by rw [← Bool.not_or, hg]; rfl
  unfold xlDone
  rw [hf]
  simp [ho, hs, hx1, hd, hi, hw, hsome, hroom', each]

theorem xlDone_cached : (b.xlDone f tag d).Cached f d := by
  have hpump : ∀ c : Block, SameAts c (c.pumpXl f) := fun c => .of_others (pumpXl_fr c f rfl rfl (.refl ..))
  rw [xlDone_inserts hf ho hs hx hd hi hw hg hroom]
  exact (lmPumpAll_sameAts _).cached ((hpump _).cached (atsInsert_cached _ f x d))

end granted

/-! ### Invalidation (R213, R214) -/

section invalidation
variable {itag addr size : Nat} {pasid : Option Nat} {global : Bool}

/-- R213: no entry that the request matches stays valid. -/
theorem invRequest_invalid {e : AtsEnt} (he : e ∈ (b.invRequest f itag addr size pasid global).ats)
    (hm : invMatch f addr size pasid global e = true) : e.valid = false := by
  obtain ⟨d, hd, rfl⟩ := List.mem_map.1 he
  by_cases hids : ((b.ats.filter (invMatch f addr size pasid global)).map (·.id)).contains d.id = true
  · rw [if_pos hids]
  · rw [if_neg hids] at hm
    exact absurd (List.contains_iff_mem.2 (List.mem_map_of_mem (List.mem_filter.2 ⟨hd, hm⟩))) hids

theorem invRequest_waits (b : Block) : ((b.invRequest f itag addr size pasid global).fn f).invs =
    (b.fn f).invs ++ [⟨itag, (b.ats.filter (invMatch f addr size pasid global)).map (·.id)⟩] := by
  rw [invRequest, fnMod_fn_self]
  rfl

/-- R213: with no request left that stems from its entries, the oldest Invalidate Request gets its completion. -/
theorem invDone_sent {v : Inval} {vs : List Inval} (hv : (b.fn f).invs = v :: vs) (hl : b.inL0 (b.actLink f) = true)
    (hnp : (b.fn f).np.any (fun t => (t.st == .waiting || t.st == .sent || t.st == .silent) && v.names t.ent) = false)
    (hpo : (b.lk (b.actLink f)).posted.any (fun w => !w.sent && v.names w.ent) = false) :
    ((b.invDone f).fn f).invs = vs ∧ (b.invDone f).out = .msg (b.actLink f) (.invalDone f v.itag) :: b.out := by
  have hfree : (_ || _ || !b.inL0 (b.actLink f)) = false :=
    Bool.or_eq_false_iff.2 ⟨Bool.or_eq_false_iff.2 ⟨hnp, hpo⟩, by rw [hl]; rfl⟩
  unfold invDone
  rw [hv]
  dsimp only
  split
  · next h => exact absurd (hfree.symm.trans h) Bool.false_ne_true
  · exact ⟨congrArg FnDyn.invs (fnMod_fn_self b f (fun d => { d with invs := vs })), rfl⟩

end invalidation

end Block

/-- Settles O34: the completion inserts an entry, the Invalidate Request marks what it matches, its completion is sent. -/
theorem translations : Obligations.Translations := by
  unfold Obligations.Translations
  refine ⟨fun s f tag rid d t x hf ho hs hx hd hb hi hw hg hroom => ?granted, fun s f itag a n ps g str hb => ?request,
    fun s f v vs hv hl hnp hpo => ?completion⟩
  case granted =>
    refine State.does_of_on (fun b => if b.streamBad (b.actLink f.val) d.stream then b else b.xlDone f.val tag d) rfl ?_
    rw [hb]
    exact Block.xlDone_cached hf ho hs hx hd hi hw hg hroom
  case request =>
    refine State.does_of_on (fun b => if b.streamBad (b.actLink f.val) str then b else b.invRequest f.val itag a n ps g) rfl ?_
    rw [hb]
    refine ⟨fun e he hm => Block.invRequest_invalid (itag := itag) he hm, ?_⟩
    rw [Block.canon_fn]
    exact Block.invRequest_waits s.blk
  case completion =>
    refine State.does_of_on (·.invDone f.val) rfl ?_
    rw [Block.canon_fn, Block.canon_out]
    exact Block.invDone_sent hv hl hnp hpo

end Sys2Proof.Machine
end

section
/-! PROOFS. Function resets: how one starts, what its end restores, and configuration requests while it runs (O54). -/
namespace Sys2Proof.Machine
namespace Block
variable {b : Block} {f : Nat}

/-! ### The end of a function reset (R203, R205) -/

theorem sampleAll_sameFlr (b : Block) (f : Nat) : SameFlr b (b.sampleAll f) := .each (fun c s => sample_sameFlr c f s) _ b

theorem qResetEnd_fn (b : Block) (f n g : Nat) : (b.qResetEnd f n).fn g = b.fn g :=
  (qResetEnd_fr b f n (Nat.and_self _) (Nat.and_self _) (Fr.refl ..)).part .fns rfl g

theorem fnRestore_flr (b : Block) (f : Nat) : ((b.fnRestore f).fn f).flr = none := by
  unfold fnRestore
  extract_lets b1
  have hq : SameFlr b1 (b1.each (List.range 32) fun b n => b.qResetEnd f n) :=
    .each (fun c n => .of_fn (qResetEnd_fn c f n)) _ _
  have hx : ∀ c : Block, SameFlr c (c.intxF f) := fun c =>
    .of_fr (intxF_fr c f (Nat.and_self _) (Nat.and_self _) (Fr.refl ..)) rfl
  rw [((hq.trans (sampleAll_sameFlr _ f)).trans (hx _)).flr f]
  exact congrArg FnDyn.flr (fnMod_fn_self (b.unset (fnKey f)) f (fun d => { d with flr := none }))

/-- The fields that the ends of queue resets and the samples behind the restoration may change. -/
def restoreTailMask : Nat := 0x40000000000000800000000000000000000000000000000000000000000000000000000000020000000007ff9ffc000000000000000000000

/-- R203: a field that a function reset restores reads its reset value. -/
theorem fnRestore_restored (b : Block) (f : Nat) {y : Fld} {v : Nat} (hu : (Fld.attr y).unit = .fn) (hl : (Fld.attr y).lvl = .function)
    (hv : (Fld.attr y).rst = .val v) (hm : restoreTailMask.testBit y.ctorIdx = false) (j : Nat) : (b.fnRestore f).rd y f j = v := by
  unfold fnRestore
  extract_lets b1
  have hkey : fnKey f (key y f j) = true := by simp [fnKey, key, hu, hl]
  have hb1 : b1.rd y f j = v := by
    refine (fnMod_rd ..).trans ?_
    rw [unset, rd]
    simp only [lookupKey_filter_dropped hkey]
    exact resetVal_of_val hv ..
  have htail : Fr restoreTailMask 0x40001700 b1 (((b1.each (List.range 32) fun b n => b.qResetEnd f n).sampleAll f).intxF f) :=
    intxF_fr _ f rfl rfl (sampleAll_fr _ f rfl rfl (.each (fun c n h => qResetEnd_fr c f n rfl rfl h) (.refl ..)))
  exact (htail.reg y f j hm).trans hb1

theorem flrBegin_runs (b : Block) (f : Nat) (frs : Bool) : ((b.flrBegin f frs).fn f).flr ≠ none := by
  unfold flrBegin
  split
  · next h => exact Option.isSome_iff_ne_none.1 h
  · rw [fnMod_fn_self]
    exact Option.some_ne_none _

theorem frsTry_sameFlr (b : Block) (g : Nat) : SameFlr b (b.frsTry g) := by
  unfold frsTry
  extract_lets l
  have h1 : SameFlr b (b.fnMod g fun d => { d with frsWait := false }) := .fnMod (fun _ => rfl) (.refl b)
  exact .ite (h1.trans (.of_fns rfl)) (.refl b)

/-- An answer in a mailbox marks the mailbox of its function alone. -/
theorem answer_sameFlr (b : Block) (tr : Transport) (a : Ans) : SameFlr b (b.answer tr a) := by
  unfold answer
  split
  · next g =>
    extract_lets b1
    have h1 : SameFlr b b1 := .fnMod (fun _ => rfl) (.of_fns rfl)
    exact .ite (h1.trans (.of_fr (vecSend_fr b1 g.val 0 (Nat.and_self _) (Nat.and_self _) (Fr.refl ..)) rfl)) h1
  · exact .of_fns rfl

/-- The fields that the messages at the end of a function reset may change (answer_fr). -/
def flrSentMask : Nat := 0x40000000000000000000000000000000000000000000004018008000000000000000000000000000000000000000000

/-- R203: at the end of the drain, or at its bound, f is restored; what follows only sends messages. -/
theorem flrEnd_restores {x : FlrSt} {bound : Bool} (hx : (b.fn f).flr = some x)
    (hend : bound = true ∨ (b.fn f).np.any (fun t => t.st == .sent || t.st == .silent) = false) :
    ∃ c : Block, Fr flrSentMask 0x440005300 (c.fnRestore f) (b.flrEnd f bound) ∧ SameFlr (c.fnRestore f) (b.flrEnd f bound) := by
  unfold flrEnd
  split
  · next hn => cases hx.symm.trans hn
  extract_lets out quar b1 b1' b2
  rw [if_neg (by rcases hend with h | h <;> simp [out, h])]
  have hfrs : ∀ (c : Block) (g : Nat), Fr flrSentMask 0x440005300 c (c.frsTry g) := fun c g => frsTry_fr c g rfl rfl (.refl ..)
  have h1 : Fr flrSentMask 0x440005300 (b1.fnRestore f) b1' ∧ SameFlr (b1.fnRestore f) b1' := ⟨hfrs _ f, frsTry_sameFlr _ f⟩
  have h2 : Fr flrSentMask 0x440005300 (b1.fnRestore f) b2 ∧ SameFlr (b1.fnRestore f) b2 := by
    simp only [b2]
    split
    · have hstop : SameFlr (b1.fnRestore f) (b1'.fnMod f fun d => { d with stopRsp := none }) := .fnMod (fun _ => rfl) h1.2
      exact ⟨answer_fr _ _ _ rfl rfl (.fnMod rfl h1.1), hstop.trans (answer_sameFlr ..)⟩
    · exact h1
  refine ⟨b1, ?_⟩
  split
  · split
    · exact ⟨h2.1.trans (hfrs ..), h2.2.trans (frsTry_sameFlr ..)⟩
    · exact h2
  · exact h2

end Block

section ends
variable {s : State} {f : FnIx} {x : FlrSt} {P : Block → Prop}

/-- What holds of f restored, and is kept by the messages that follow, holds at the end of its reset: of the drain or of its bound. -/
theorem State.does_flrEnds (hx : (s.blk.fn f.val).flr = some x)
    (hP : ∀ c d : Block, Fr Block.flrSentMask 0x440005300 (c.fnRestore f.val) d → Block.SameFlr (c.fnRestore f.val) d → P d.canon) :
    ((s.blk.fn f.val).np.any (fun t => t.st == .sent || t.st == .silent) = false → s.does (.flrDrainEnd f) P) ∧
      s.does (.flrBoundExpiry f) P := by
  have hend : ∀ bound, (bound = true ∨ (s.blk.fn f.val).np.any (fun t => t.st == .sent || t.st == .silent) = false) →
      P (s.blk.flrEnd f.val bound).canon := fun bound h => by
    obtain ⟨c, hfr, hflr⟩ := Block.flrEnd_restores hx h
    exact hP c _ hfr hflr
  exact ⟨fun hnp => State.does_of_on (·.flrEnd f.val false) rfl (hend false (.inr hnp)),
    State.does_of_on (·.flrEnd f.val true) rfl (hend true (.inl rfl))⟩

end ends

/-- R202: after the write in the set in force a reset of f runs. -/
theorem State.does_initiateFlr {s : State} {f : FnIx} {alt : Bool} (hok : s.blk.cfgOk f.val (b2n alt) = true)
    (hj : b2n alt = s.blk.actSet f.val) : s.does (.initiateFunctionLevelReset f alt) fun b => (b.fn f.val).flr ≠ none := by
  refine State.does_of_on (·.flrWrite f.val (b2n alt)) rfl ?_
  rw [Block.canon_fn, Block.flrWrite_starts hok hj]
  exact Block.flrBegin_runs _ f.val true

/-- Settles O54: the start, the answer by whether a reset of the function runs, and the end. -/
theorem retryDuringReset : Obligations.RetryDuringReset := by
  unfold Obligations.RetryDuringReset
  refine ⟨fun s f alt => State.does_initiateFlr, fun s l fno off req st r ha hs hi ht => ⟨fun hf => ?retry, fun hf => ?served⟩,
    fun s f x hx => State.does_flrEnds hx fun c d _ hflr => ?ended⟩
  case retry =>
    have hretry : ∀ b : Block, b = s.blk.emit (.cfg l.val req .crs 0 st) →
        b.canon.out = .cfg l.val req .crs 0 st :: s.blk.out ∧ ∀ y i j, b.canon.rd y i j = s.blk.rd y i j := fun b hb =>
      hb ▸ ⟨rfl, Block.canon_rd _⟩
    exact ⟨State.does_of_on (·.cfgRead l.val fno (dwordOf off) req st) rfl (hretry _ (Block.cfgReq_inReset ha hs hi ht hf)),
      fun en v bus => State.does_of_on (·.cfgWriteReq l.val fno (dwordOf off) en.toNat v.toNat bus req st) rfl
        (hretry _ (Block.cfgReq_inReset ha hs hi ht hf))⟩
  case served =>
    refine State.does_of_on (·.cfgRead l.val fno (dwordOf off) req st) rfl ?_
    rw [Block.canon_out, Block.cfgRead_served ha hs hi ht hf]
    exact List.mem_cons_self
  case ended =>
    rw [Block.canon_fn, hflr.flr]
    exact Block.fnRestore_flr c f.val

end Sys2Proof.Machine
end

section
/-! PROOFS. Bus Master Enable and its effect points, D3hot and D0, and what a function reset restores (O31). -/
namespace Sys2Proof.Machine
namespace Block
variable {b : Block} {f : Nat}

/-! ### Bus Master Enable (R193) -/

/-- A change of Bus Master Enable shows at once; what is in force waits for its effect point. -/
theorem bmeWrite_changes {alt v : Bool} (hok : b.cfgOk f (b2n alt) = true) (hne : b.flag .cfgBme f (b2n alt) ≠ v) :
    b.bmeWrite f (b2n alt) v = (b.wr .cfgBme f (b2n alt) (b2n v)).fnMod f (fun d => { d with bmeQ := d.bmeQ ++ [(alt, v)] }) := by
  have halt : (b2n alt == 1) = alt := by cases alt <;> rfl
  rw [bmeWrite, if_neg (by simp [hok, hne]), halt]

/-- Judging the traffic of f again leaves the field of Bus Master Enable in force, and that of its power state, as they are. -/
theorem bmeJudge_rd (b : Block) (f : Nat) (old : Bool) {y : Fld} (hy : tdiErrMask.testBit y.ctorIdx = false) (i j : Nat) :
    (b.bmeJudge f old).rd y i j = b.rd y i j :=
  (bmeJudge_fr (fm := tdiErrMask) b f old rfl (Nat.and_self _) (Fr.refl ..)).reg y i j hy

/-- R193: at its effect point the oldest change comes into force. -/
theorem bmeEffect_inForce {alt v : Bool} {t : List (Bool × Bool)} (hq : (b.fn f).bmeQ = (alt, v) :: t) :
    (b.bmeEffect f v).rd .cfgBmeEff f (b2n alt) = b2n v := by
  have hjudged : ∀ (c : Block) (old : Bool), ((c.wr .cfgBmeEff f (b2n alt) (b2n v)).bmeJudge f old).rd .cfgBmeEff f (b2n alt) = b2n v :=
    fun c old => by
      rw [bmeJudge_rd _ f old rfl, wr_rd_self]
      exact b2n_mod_two v
  unfold bmeEffect
  rw [hq]
  dsimp only
  rw [if_neg (by simp)]
  split
  · exact hjudged ..
  · rw [tdiErr_rd _ f rfl]
    exact hjudged ..

/-! ### D3hot and D0 (R323) -/

theorem pmWrite_state {r : FnRec} (hr : b.fnRec? f = some r) (hv : b.vfOn r (b.actSet f) = true) (hn : (b.fn f).flr = none) (v : Nat) :
    (b.pmWrite f v).rd .cfgPmState f = v % 4 := by
  have heq : b.pmWrite f v = (b.wr .cfgPmState f 0 v).bmeJudge f (b.bme f) := by simp [pmWrite, hr, optD, hv, hn]
  rw [heq, bmeJudge_rd _ f _ rfl]
  exact wr_rd_self ..

end Block

/-- Settles O31: the writes and effect points of Bus Master Enable, the power states, and the start and end of a function reset. -/
theorem masteringAndReset : Obligations.MasteringAndReset := by
  unfold Obligations.MasteringAndReset
  refine ⟨⟨fun s f alt v hok hne => ?write, fun s f alt t hq => ?set, fun s f alt t hq => ?clear,
    fun s f r hr hv hn => ⟨?d3hot, ?d0⟩⟩, fun s f alt => State.does_initiateFlr,
    fun s f x hx => State.does_flrEnds hx fun c d hfr _ => ?ended⟩
  case write =>
    refine State.does_of_on (·.bmeWrite f.val (b2n alt) v) rfl ?_
    rw [Block.canon_rd, Block.canon_rd, Block.canon_fn, Block.bmeWrite_changes hok hne, Block.fnMod_fn_self]
    exact ⟨(Block.wr_rd_self ..).trans (Block.b2n_mod_two v), Block.wr_rd_fld s.blk (by decide) .., rfl⟩
  case set => exact State.does_rd (·.bmeEffect f.val true) rfl (Block.bmeEffect_inForce hq)
  case clear => exact State.does_rd (·.bmeEffect f.val false) rfl (Block.bmeEffect_inForce hq)
  case d3hot => exact State.does_rd (·.pmWrite f.val 3) rfl (Block.pmWrite_state hr hv hn 3)
  case d0 => exact State.does_rd (·.pmWrite f.val 0) rfl (Block.pmWrite_state hr hv hn 0)
  case ended =>
    rw [Block.canon_rd, Block.canon_rd, Block.canon_rd, hfr.reg .evtCons _ _ rfl, hfr.reg .evtProd _ _ rfl, hfr.reg .wvBusy _ _ rfl]
    exact ⟨Block.fnRestore_restored c f.val rfl rfl rfl rfl 0, Block.fnRestore_restored c f.val rfl rfl rfl rfl 0,
      Block.fnRestore_restored c f.val rfl rfl rfl rfl 0⟩

end Sys2Proof.Machine
end

section
/-! PROOFS. Fields that an operation leaves as they are, whatever else it changes; then the pins and the reference clocks of a stall
group (O14). -/
namespace Sys2Proof.Machine
namespace Block

/-! ### Frames that name the fields that stay -/

/-- The mask of every field but those of a list. -/
def butFields : List Fld → Nat
  | [] => anyField
  | f :: fs => (anyField ^^^ 2 ^ f.ctorIdx) &&& butFields fs

/-- The mask of every part. -/
def anyPart : Nat := 0x7ffffffff

theorem butFields_testBit {fs : List Fld} {f : Fld} (hf : f ∈ fs) : (butFields fs).testBit f.ctorIdx = false := by
  induction fs with
  | nil => cases hf
  | cons g t ih =>
    rw [butFields, Nat.testBit_and, Nat.testBit_xor]
    rcases List.mem_cons.1 hf with rfl | ht
    · rw [Nat.testBit_two_pow_self, show anyField.testBit f.ctorIdx = true from Fr.fullBit f]
      rfl
    · rw [ih ht, Bool.and_false]

/-- Block b reads as a does in every field of the list; the other fields and every part may differ. -/
abbrev KeepsFields (fs : List Fld) (a b : Block) : Prop := Fr (butFields fs) anyPart a b

namespace KeepsFields
variable {fs : List Fld} {f : Fld} {a b : Block}

theorem rd (h : KeepsFields fs a b) (hf : f ∈ fs) (i j : Nat) : b.rd f i j = a.rd f i j := h.reg f i j (butFields_testBit hf)

theorem flag (h : KeepsFields fs a b) (hf : f ∈ fs) (i j : Nat) : b.flag f i j = a.flag f i j := by
  rw [Block.flag, h.rd hf, Block.flag]

/-- A block that reads the same in every field, whatever its parts are. -/
theorem of_rd (h : ∀ f i j, b.rd f i j = a.rd f i j) : KeepsFields fs a b :=
  ⟨fun f i j _ => h f i j, fun p hp => absurd hp (by cases p <;> decide)⟩

end KeepsFields

/-! ### STL_PERST_N and the image wait (R218, R344) -/

section perst
variable {b : Block} {g : Nat}

/-- A stall-group reset leaves the pin level live. -/
theorem perstOn_perst (b : Block) (g : Nat) : (b.perstOn g).rd .gstPerst g = 1 :=
  ((groupReset_fr (b.wr .gstPerst g 0 1) g (Nat.and_self _) (Nat.and_self _) (Fr.refl ..)).reg .gstPerst g 0 rfl).trans (wr_rd_self ..)

theorem perstOn_gr (b : Block) (g : Nat) : ((b.perstOn g).gr g).waits = false ∧ ((b.perstOn g).gr g).barred = false := by
  rw [perstOn, grMod_gr_self]
  exact ⟨rfl, rfl⟩

theorem perstOff_perst (hp : b.flag .gstPerst g = true) : (b.perstOff g).rd .gstPerst g = 0 := by
  rw [perstOff, hp]
  refine ((standWake_fr _ rfl rfl (clkreqPin_fr _ g true rfl rfl (Fr.refl (butFields [.gstPerst]) anyPart _))).reg .gstPerst g 0 rfl).trans ?_
  exact wr_rd_self ..

theorem imageLate_gr (hw : (b.gr g).waits = true) : ((b.imageLate g).gr g).waits = false ∧ ((b.imageLate g).gr g).barred = true := by
  rw [imageLate, if_neg (by simp [hw]), grMod_gr_self]
  exact ⟨rfl, rfl⟩

end perst

/-! ### The reference clock of a Stall die (R220) -/

/-- The loss of the reference as group g sees it: one round of Block.refLoss. -/
def refLossAt (b : Block) (g : Nat) : Block :=
  if !b.flag .gstRefclkOk g then b
  else
    let b1 := b.wr .gstRefclkOk g 0 0
    if b1.rd .gstMode g == 0 then
      b1.each ((b1.groupLinks g).filter (fun l => b1.rd .lnkLtssm l != 0)) (fun b l => b.linkDown l (b.dlActive l))
    else if b1.flag .gstSynth g then b1
    else (b1.wr .gstSynth g 0 1).each ((b1.groupLinks g).filter (fun l => b1.inL0 l)) (fun b l => b.enterRec l)

theorem refLoss_eq (b : Block) (d : Nat) : b.refLoss d = b.each (List.range 7) (fun b k => b.refLossAt (7 * d + k)) := rfl

/-- What the loss does to the links of the group leaves REFCLK_OK as the loss sets it. -/
theorem refLossAt_keeps {b : Block} {g : Nat} (h : b.flag .gstRefclkOk g = true) :
    KeepsFields [.gstRefclkOk] (b.wr .gstRefclkOk g 0 0) (b.refLossAt g) := by
  unfold refLossAt
  rw [h, if_neg (by decide)]
  refine .ite ?_ (.ite (.refl ..) ?_)
  · exact .each (fun c l hc => linkDown_fr c l _ rfl rfl hc) (.refl ..)
  · exact .each (fun c l hc => enterRec_fr c l rfl rfl hc) (.wr rfl (.refl ..))

theorem refLossAt_refclk (b : Block) (g : Nat) : (b.refLossAt g).flag .gstRefclkOk g = false := by
  cases h : b.flag .gstRefclkOk g with
  | false => rw [refLossAt, h]; exact h
  | true =>
    rw [(refLossAt_keeps h).flag (by decide), flag, wr_rd_self]
    rfl

/-- A group whose reference is out of tolerance stays so when another group loses its own. -/
theorem refLossAt_refclk_mono {b : Block} {i : Nat} (hi : b.flag .gstRefclkOk i = false) (g : Nat) :
    (b.refLossAt g).flag .gstRefclkOk i = false := by
  by_cases hg : i = g
  · rw [hg]
    exact refLossAt_refclk b g
  · cases h : b.flag .gstRefclkOk g with
    | false => rw [refLossAt, h]; exact hi
    | true =>
      rw [(refLossAt_keeps h).flag (by decide), flag, wr_rd_ne _ (by simp [key, hg])]
      exact hi

theorem refLoss_refclk (b : Block) (d : Nat) {k : Nat} (hk : k < 7) : (b.refLoss d).flag .gstRefclkOk (7 * d + k) = false := by
  rw [refLoss_eq]
  exact each_establishes (P := fun c => c.flag .gstRefclkOk (7 * d + k) = false) (Q := fun _ => True) (List.mem_range.2 hk)
    (fun _ _ _ => trivial) (fun c _ => refLossAt_refclk c _) (fun c y hc => refLossAt_refclk_mono hc _) trivial

theorem refBack_refclk (b : Block) (d : Nat) {k : Nat} (hk : k < 7) : (b.refBack d).rd .gstRefclkOk (7 * d + k) = 1 :=
  each_establishes (P := fun c => c.rd .gstRefclkOk (7 * d + k) = 1) (Q := fun _ => True) (List.mem_range.2 hk)
    (fun _ _ _ => trivial) (fun c _ => wr_rd_self c .gstRefclkOk _ 0 1)
    (fun c y hc => by
      rw [wr_rd]
      split
      · rfl
      · exact hc) trivial

/-! ### STL_CLKREQ_N (R230) -/

/-- The L1 substate of a link once STL_CLKREQ_N is asserted: L1.0 in the place of L1.1 and L1.2. -/
def wokenL1 (v : Nat) : Nat := if v ≥ 2 then 1 else v

theorem wokenL1_wokenL1 (v : Nat) : wokenL1 (wokenL1 v) = wokenL1 v := by
  unfold wokenL1
  split_ifs <;> omega

/-- Link k as clkreqOn treats it. -/
def toL10 (b : Block) (k : Nat) : Block := if b.rd .lnkL1sub k ≥ 2 then b.wr .lnkL1sub k 0 1 else b

theorem toL10_l1sub (b : Block) (k l : Nat) :
    (b.toL10 k).rd .lnkL1sub l = if l = k then wokenL1 (b.rd .lnkL1sub l) else b.rd .lnkL1sub l := by
  unfold toL10 wokenL1
  by_cases hk : l = k
  · subst hk
    rw [if_pos rfl]
    split
    · exact wr_rd_self ..
    · rfl
  · rw [if_neg hk]
    split
    · exact wr_rd_ne _ (by simp [key, hk]) _
    · rfl

theorem toL10_rd_fld (b : Block) (k : Nat) {y : Fld} (hy : y ≠ .lnkL1sub) (i j : Nat) : (b.toL10 k).rd y i j = b.rd y i j := by
  unfold toL10
  split
  · exact wr_rd_fld b hy ..
  · rfl

theorem clkreqOn_eq (b : Block) (g : Nat) :
    b.clkreqOn g = (b.wr .gstClkreq g 0 1).each [4 * g, 4 * g + 1, 4 * g + 2, 4 * g + 3] toL10 := rfl

theorem clkreqOn_clkreq (b : Block) (g : Nat) : (b.clkreqOn g).rd .gstClkreq g = 1 := by
  rw [clkreqOn_eq]
  exact each_inv (P := fun c => c.rd .gstClkreq g = 1) (fun c k _ hc => (toL10_rd_fld c k (by decide) ..).trans hc) (wr_rd_self ..)

/-- R230: every link of the group leaves L1.1 and L1.2 for L1.0. -/
theorem clkreqOn_l1sub (b : Block) (g : Nat) {k : Nat} (hk : k < 4) :
    (b.clkreqOn g).rd .lnkL1sub (4 * g + k) = wokenL1 (b.rd .lnkL1sub (4 * g + k)) := by
  have hmem : 4 * g + k ∈ [4 * g, 4 * g + 1, 4 * g + 2, 4 * g + 3] := by
    simp only [List.mem_cons, List.not_mem_nil]
    omega
  generalize 4 * g + k = l at hmem
  have hwoken : ∀ (c : Block) (y : Nat), c.rd .lnkL1sub l = wokenL1 (b.rd .lnkL1sub l) →
      (c.toL10 y).rd .lnkL1sub l = wokenL1 (b.rd .lnkL1sub l) := fun c y hc => by
    rw [toL10_l1sub, hc, wokenL1_wokenL1, ite_self]
  rw [clkreqOn_eq]
  refine each_establishes (P := fun c => c.rd .lnkL1sub l = wokenL1 (b.rd .lnkL1sub l))
    (Q := fun c => c.rd .lnkL1sub l = b.rd .lnkL1sub l ∨ c.rd .lnkL1sub l = wokenL1 (b.rd .lnkL1sub l)) hmem ?_ ?_ hwoken
    (.inl (wr_rd_fld b (by decide) ..))
  · rintro c y (hc | hc)
    · rw [toL10_l1sub, hc]
      exact (ite_eq_or_eq ..).symm
    · exact .inr (hwoken c y hc)
  · rintro c (hc | hc)
    · rw [toL10_l1sub, if_pos rfl, hc]
    · exact hwoken c l hc

/-- The links of the group no longer ask for the release of the pin; no field changes. -/
theorem clkreqIn_rd (b : Block) (g : Nat) (y : Fld) (i j : Nat) : (b.clkreqIn g).rd y i j = (b.clkreqOn g).rd y i j := by
  rw [clkreqIn]
  exact each_inv (P := fun c => c.rd y i j = (b.clkreqOn g).rd y i j) (fun c l _ hc => (lkMod_rd c l _ y i j).trans hc) rfl

end Block

/-- Settles O14, pin by pin. -/
theorem stallGroupPins : Obligations.StallGroupPins := by
  unfold Obligations.StallGroupPins
  refine ⟨fun s g => ?asserted, fun s g hp => ?deasserted, fun s g hw => ?late, fun s d k => ?lost, fun s d k => ?back,
    fun s g k => ?clkreq⟩
  case asserted =>
    refine State.does_of_on (·.perstOn g.val) rfl ?_
    rw [Block.canon_rd, Block.canon_gr]
    exact ⟨Block.perstOn_perst .., Block.perstOn_gr ..⟩
  case deasserted => exact State.does_rd (·.perstOff g.val) rfl (Block.perstOff_perst hp)
  case late =>
    refine State.does_of_on (·.imageLate g.val) rfl ?_
    rw [Block.canon_gr]
    exact Block.imageLate_gr hw
  case lost => exact State.does_of_on (·.refLoss d.val) rfl ((Block.canon_flag ..).trans (Block.refLoss_refclk s.blk d.val k.isLt))
  case back => exact State.does_rd (·.refBack d.val) rfl (Block.refBack_refclk s.blk d.val k.isLt)
  case clkreq =>
    refine State.does_of_on (·.clkreqIn g.val) rfl ?_
    rw [Block.canon_rd, Block.canon_rd, Block.clkreqIn_rd, Block.clkreqIn_rd]
    exact ⟨Block.clkreqOn_clkreq .., Block.clkreqOn_l1sub s.blk g.val k.isLt⟩

end Sys2Proof.Machine
end

section
/-! PROOFS. The events of a Stall link (O16): L2, the link up, its loss and the failover of its pair, Recovery and the return to L0. -/
namespace Sys2Proof.Machine
namespace Block

/-! ### PME_TURN_OFF (R323) -/

section pme
variable {b : Block} {l : Nat}

theorem pmeOff_eq (hd : b.dlActive l = true) (h6 : b.rd .lnkLtssm l ≠ 6) :
    b.pmeOff l = (((b.emit (.msg l .pmeAck)).wr .lnkLtssm l 0 6).wr .lnkDlActive l 0 0).clkreqJudge (l / 4) := by
  rw [pmeOff, if_neg (by simp [hd, h6])]

/-- R323: the link is in L2 and no longer DL_Active, which counts as no loss; the message is answered. -/
theorem pmeOff_enters (hd : b.dlActive l = true) (h6 : b.rd .lnkLtssm l ≠ 6) :
    (b.pmeOff l).rd .lnkLtssm l = 6 ∧ (b.pmeOff l).rd .lnkDlActive l = 0 ∧
      (b.pmeOff l).rd .lnkCntLinkDown l = b.rd .lnkCntLinkDown l ∧ (b.pmeOff l).out = .msg l .pmeAck :: b.out := by
  rw [pmeOff_eq hd h6]
  generalize hc : ((b.emit (.msg l .pmeAck)).wr .lnkLtssm l 0 6).wr .lnkDlActive l 0 0 = c
  have hj : Fr _ _ c (c.clkreqJudge (l / 4)) := clkreqJudge_fr c (l / 4) (Nat.and_self _) (Nat.and_self _) (Fr.refl ..)
  rw [hj.reg .lnkLtssm l 0 rfl, hj.reg .lnkDlActive l 0 rfl, hj.reg .lnkCntLinkDown l 0 rfl, show _ = c.out from hj.part .out rfl, ← hc]
  refine ⟨?_, wr_rd_self .., ?_, rfl⟩
  · rw [wr_rd_fld _ (by decide)]
    exact wr_rd_self ..
  · rw [wr_rd_fld _ (by decide), wr_rd_fld _ (by decide), emit_rd]

end pme

/-! ### LINK_DL_UP (R216, R217, R240) -/

section up
variable {b : Block} {l : Nat} {u : LinkUp}

/-- Link l as LINK_DL_UP shows it in its fields. -/
def linkShown (b : Block) (l : Nat) (u : LinkUp) : Block :=
  (((((((b.wr .lnkDlActive l 0 1).wr .lnkFlit l 0 (b2n u.flit)).wr .lnkRate l 0 u.rate).wr .lnkWidthNeg l 0 u.width).wr
    .lnkWidthAct l 0 u.width).wr .lnkReversed l 0 (b2n u.reversed)).wr .lnkLtssm l 0 3).wr .lnkPolarity l 0 u.polarity.toNat

/-- The fields of a link that LINK_DL_UP alone decides. -/
def upFields : List Fld := [.lnkDlActive, .lnkFlit, .lnkRate, .lnkWidthAct]

/-- R222, R231, R306, R324: what else comes with the link up leaves DL_ACTIVE, the mode, the rate and the width as they are shown. -/
theorem linkUp_keeps (hm : b.mayTrain (l / 4) = true) (hu : b.upOk l u = true) :
    KeepsFields upFields (b.linkShown l u) (b.linkUp l u) := by
  unfold linkUp
  rw [if_neg (by simp [hm, hu])]
  extract_lets w b1 byp b2 b3 b4 b5 fs b6 b7 owed
  have h3 : KeepsFields upFields (b.linkShown l u) b3 :=
    presetShow_fr b2 l rfl rfl (.each (fun c q hc => equalise_fr c l q rfl rfl hc) (.lkMod rfl (.refl ..)))
  have h5 : KeepsFields upFields (b.linkShown l u) b5 := .each (fun c r hc => .wr rfl hc) (h3.trans (KeepsFields.of_rd fun _ _ _ => rfl))
  have h6 : KeepsFields upFields (b.linkShown l u) b6 := .ite (ltrSend_fr b5 l rfl rfl h5) h5
  have h7 : KeepsFields upFields (b.linkShown l u) b7 := .each (fun c f hc =>
    .ite (.emit rfl (.fnMod rfl (frsTry_fr c f rfl rfl hc))) (frsTry_fr c f rfl rfl hc)) h6
  exact intxLink_fr _ l rfl rfl (pumpPosted_fr _ l rfl rfl (.grMod rfl h7))

/-- Table 9.1: a width that a link comes up with is one that its field holds. -/
theorem upOk_width (hu : b.upOk l u = true) : u.width < 32 := by
  simp only [upOk, Bool.and_eq_true, Bool.or_eq_true, beq_iff_eq] at hu
  omega

theorem linkUp_shows (hm : b.mayTrain (l / 4) = true) (hu : b.upOk l u = true) :
    (b.linkUp l u).rd .lnkDlActive l = 1 ∧ (b.linkUp l u).rd .lnkFlit l = b2n u.flit ∧ (b.linkUp l u).rd .lnkRate l = u.rate % 16 ∧
      (b.linkUp l u).rd .lnkWidthAct l = u.width := by
  have hk := linkUp_keeps hm hu
  rw [hk.rd (by decide), hk.rd (by decide), hk.rd (by decide), hk.rd (by decide)]
  have hw : u.width % 32 = u.width := Nat.mod_eq_of_lt (upOk_width hu)
  simp [linkShown, Fld.attr, b2n_mod_two, hw]

end up

/-! ### The loss of a link (R238, R303) -/

theorem lookupKey_filter_kept {p : RKey → Bool} {k : RKey} (hk : p k = false) (l : List (RKey × Nat)) :
    lookupKey k (l.filter (fun e => !(p e.1))) = lookupKey k l := by
  induction l with
  | nil => rfl
  | cons e t ih =>
    obtain ⟨a, v⟩ := e
    by_cases ha : k = a
    · subst ha
      rw [List.filter_cons_of_pos (by simp [hk]), lookupKey_cons_self, lookupKey_cons_self]
    · rw [lookupKey_cons_ne ha, ← ih, List.filter_cons]
      split
      · exact lookupKey_cons_ne ha ..
      · rfl

/-- R12: a field whose stored value is dropped reads its reset value. -/
theorem unset_rd (b : Block) (p : RKey → Bool) (f : Fld) (i j : Nat) :
    (b.unset p).rd f i j = if p (key f i j) then resetVal b (key f i j) else b.rd f i j := by
  have hr : resetVal (b.unset p) = resetVal b := rfl
  rw [rd, hr, unset]
  split_ifs with hp
  · simp only [lookupKey_filter_dropped hp]
  · simp only [lookupKey_filter_kept (Bool.eq_false_iff.2 hp), rd]

section down
variable (b : Block) (l : Nat)

/-- R238: the link that returns to Detect is not DL_Active. -/
theorem linkState_dlActive : (b.linkState l).rd .lnkDlActive l = 0 := by
  have hk : b.linkKey l (key .lnkDlActive l 0) = true := by simp [linkKey, key, Fld.attr]
  refine (unset_rd b (fun k => b.linkKey l k) .lnkDlActive l 0).trans ?_
  rw [if_pos hk]
  rfl

/-- A link that is down stays so when a link returns to Detect. -/
theorem linkState_dlActive_mono {k : Nat} (h : b.rd .lnkDlActive k = 0) : (b.linkState l).rd .lnkDlActive k = 0 := by
  refine (unset_rd b (fun k => b.linkKey l k) .lnkDlActive k 0).trans ?_
  split
  · rfl
  · exact h

/-- A link reset brings the link to Detect; what it does before and after leaves DL_ACTIVE of every link as it is. -/
theorem linkReset_splits : ∃ c, KeepsFields [.lnkDlActive] b c ∧ KeepsFields [.lnkDlActive] (c.linkState l) (b.linkReset l) := by
  unfold linkReset
  extract_lets fs b1
  exact ⟨b1, .each (fun c f hc => dlDownFn_fr c f l _ rfl rfl hc) (.refl ..),
    .each (fun c f hc => linkFnReset_fr c f l rfl rfl hc) (.refl ..)⟩

theorem linkReset_dlActive : (b.linkReset l).rd .lnkDlActive l = 0 := by
  obtain ⟨c, -, hc⟩ := linkReset_splits b l
  rw [hc.rd (by decide), linkState_dlActive]

theorem linkReset_dlActive_mono {k : Nat} (h : b.rd .lnkDlActive k = 0) : (b.linkReset l).rd .lnkDlActive k = 0 := by
  obtain ⟨c, hb, hc⟩ := linkReset_splits b l
  rw [hc.rd (by decide)]
  exact linkState_dlActive_mono c l ((hb.rd (by decide) k 0).trans h)

theorem standbyLost_dlActive {k : Nat} (h : b.rd .lnkDlActive k = 0) : (b.standbyLost l).rd .lnkDlActive k = 0 := by
  unfold standbyLost
  extract_lets rs b1
  have h1 : KeepsFields [.lnkDlActive] b b1 := .each (fun c r hc => .wr rfl (setReset_fr c r l rfl rfl hc)) (.refl ..)
  have hd : b1.rd .lnkDlActive k = 0 := (h1.rd (by decide) k 0).trans h
  split
  · exact linkReset_dlActive_mono b1 _ hd
  · exact hd

theorem failStart_dlActive : (b.failStart l).rd .lnkDlActive l = 0 := by
  unfold failStart
  extract_lets fs vs b1 kept b2 b3 b4
  have h3 : KeepsFields [.lnkDlActive] b2 b3 := .each (fun c r hc => .wr rfl (setReset_fr c r l rfl rfl hc)) (.refl ..)
  have h4 : KeepsFields [.lnkDlActive] b2 b4 := .each (fun c (x : Nat × Nat) hc => formJudge_fr c x.1 x.2 rfl rfl hc) h3
  have h5 : KeepsFields [.lnkDlActive] b2 (b4.each fs fun b f => b.failQueues f) := .each (fun c f hc => failQueues_fr c f rfl rfl hc) h4
  exact (h5.rd (by decide) l 0).trans (linkState_dlActive b1 l)

theorem failAgain_dlActive : (b.failAgain l).rd .lnkDlActive l = 0 := by
  unfold failAgain
  extract_lets fs vs b1 kept b2
  have h3 : KeepsFields [.lnkDlActive] b2 (b2.each (b2.fnRecs.filter fun r => fs.contains r.f) fun b r => b.setReset r l) :=
    .each (fun c r hc => setReset_fr c r l rfl rfl hc) (.refl ..)
  exact (h3.rd (by decide) l 0).trans (linkState_dlActive b1 l)

/-- R238, R303: a link reset, or the failover in its place, ends DL_Active. -/
theorem linkDown_dlActive (counted : Bool) : (b.linkDown l counted).rd .lnkDlActive l = 0 := by
  unfold linkDown
  extract_lets b1 b2
  refine ((clkreqJudge_fr b2 (l / 4) (Nat.and_self _) (Nat.and_self _) (Fr.refl ..)).reg .lnkDlActive l 0 rfl).trans ?_
  simp only [b2]
  split_ifs
  · exact failAgain_dlActive b1 l
  · exact failStart_dlActive b1 l
  · exact standbyLost_dlActive _ l (linkReset_dlActive b1 l)

/-- R238: a loss is counted once. -/
theorem linkDown_counts : (b.linkDown l true).rd .lnkCntLinkDown l =
    min (b.rd .lnkCntLinkDown l + 1) (2 ^ (Fld.attr .lnkCntLinkDown).width - 1) := by
  unfold linkDown
  extract_lets b1 b2
  have h2 : KeepsFields [.lnkCntLinkDown] b1 b2 := .ite (failAgain_fr b1 l rfl rfl (.refl ..))
    (.ite (failStart_fr b1 l rfl rfl (.refl ..)) (standbyLost_fr _ l rfl rfl (linkReset_fr b1 l rfl rfl (.refl ..))))
  have h3 : KeepsFields [.lnkCntLinkDown] b1 (b2.clkreqJudge (l / 4)) := clkreqJudge_fr b2 (l / 4) rfl rfl h2
  exact (h3.rd (by decide) l 0).trans (incSat_rd_self ..)

end down

/-! ### FAILOVER_SWITCH (R304) -/

section switch
variable {b : Block} {l : Nat} {r0 : FnRec} {rs : List FnRec}

/-- R304: every function of the pair is on the other link; what follows the switch leaves it there. -/
theorem failSwitch_activeLink (hrs : b.fnRecs.filter (fun r => r.standby.isSome && b.actLink r.f == l) = r0 :: rs)
    (hf : (b.lk l).failed = true) (h0 : b.inL0 (otherLink r0 l) = true) :
    ∀ r ∈ r0 :: rs, (b.failSwitch l).rd .recActiveLink r.f = otherLink r0 l % 256 := by
  intro r hr
  unfold failSwitch
  extract_lets pair vs kept
  have hpair : pair = r0 :: rs := hrs
  clear_value pair
  subst hpair
  dsimp -zeta only
  extract_lets new b1 b2 b3 b4 b5 b6
  rw [if_neg (by simp [new, hf, h0])]
  have h1 : b1.rd .recActiveLink r.f = new % 256 := by
    refine each_establishes (P := fun c => c.rd .recActiveLink r.f = new % 256) (Q := fun _ => True) hr (fun _ _ _ => trivial)
      (fun c _ => ?_) (fun c y hc => ?_) trivial
    · rw [wr_rd_fld _ (by decide), incSat, wr_rd_fld _ (by decide)]
      exact wr_rd_self ..
    · rw [wr_rd_fld _ (by decide), incSat, wr_rd_fld _ (by decide), wr_rd]
      split
      · rfl
      · exact hc
  have h3 : KeepsFields [.recActiveLink] b1 b3 := .each (fun c r hc => logErr_fr _ r.f _ 0 rfl rfl (atsFlush_fr c r.f rfl rfl hc))
    (.lkMod rfl (.lkMod rfl (.refl ..)))
  have h4 : KeepsFields [.recActiveLink] b1 b4 := .each (fun c r hc => .ite (flrBegin_fr c r.f false rfl rfl hc) hc) h3
  have h5 : KeepsFields [.recActiveLink] b1 b5 := .each (fun c r hc => .ite (.wr rfl hc) hc) h4
  have h6 : KeepsFields [.recActiveLink] b1 b6 := .each (fun c (x : Nat × Nat) hc => formJudge_fr c x.1 x.2 rfl rfl hc) h5
  have h7 : KeepsFields [.recActiveLink] b1 ((b6.each (r0 :: rs) fun b r => if b.bme r.f then b.bmeOn r.f else b.bmeOff r.f).intxLink new) :=
    intxLink_fr _ new rfl rfl (.each (fun c r hc => .ite (bmeOn_fr c r.f rfl rfl hc) (bmeOff_fr c r.f rfl rfl hc)) h6)
  exact (h7.rd (by decide) r.f 0).trans h1

end switch

/-! ### LINK_RECOVERY (R233, R303) -/

section recovery
variable {b : Block} {l : Nat}

theorem recovery_shows (b : Block) (l : Nat) : (b.recovery l).rd .lnkLtssm l = 4 ∧ (b.recovery l).rd .lnkDlActive l = b.rd .lnkDlActive l ∧
    ((b.recovery l).lk l).margin = [] ∧
    (b.recovery l).rd .lnkCntRecovery l = min (b.rd .lnkCntRecovery l + 1) (2 ^ (Fld.attr .lnkCntRecovery).width - 1) := by
  rw [recovery, lkMod_rd, lkMod_rd, lkMod_rd, lkMod_lk_self, incSat_rd_self]
  refine ⟨?_, ?_, rfl, ?_⟩
  · exact (wr_rd_fld _ (by decide) ..).trans (wr_rd_self b .lnkLtssm l 0 4)
  · exact (wr_rd_fld _ (by decide) ..).trans (wr_rd_fld b (by decide) ..)
  · rw [wr_rd_fld b (by decide)]

theorem enterRec_shows (hd : b.dlActive l = true) (hs : b.rd .lnkLtssm l = 3 ∨ b.rd .lnkLtssm l = 5) :
    (b.enterRec l).rd .lnkLtssm l = 4 ∧ (b.enterRec l).rd .lnkDlActive l = 1 ∧ ((b.enterRec l).lk l).margin = [] ∧
    (b.enterRec l).rd .lnkCntRecovery l = min (b.rd .lnkCntRecovery l + 1) (2 ^ (Fld.attr .lnkCntRecovery).width - 1) := by
  unfold enterRec
  extract_lets st x cut
  rw [if_pos (by simp [st, hd, hs])]
  obtain ⟨hst, hdl, hmg, hct⟩ := recovery_shows ((b.wr .lnkL1sub l 0 0).lkMod l (fun k => { k with
      l1ask := false, l0p := none, narrowTo := if k.narrowTo.isSome then k.narrowTo else cut })) l
  rw [lkMod_rd, wr_rd_fld _ (by decide)] at hdl hct
  exact ⟨hst, hdl.trans (eq_of_beq hd), hmg, hct⟩

end recovery

/-! ### LINK_RETURN_TO_L0 (R225, R303) -/

section toL0
variable {b : Block} {l : Nat}

/-- R229: a link that is not in L1 does not leave it, whichever link is asked to. -/
theorem l1Exit_ltssm (h : b.rd .lnkLtssm l ≠ 5) (k : Nat) : (b.l1Exit k).rd .lnkLtssm l = b.rd .lnkLtssm l := by
  unfold l1Exit
  split
  · rfl
  next hk =>
  have hne : l ≠ k := by
    rintro rfl
    exact hk (by simpa using h)
  split
  · exact (holdBack_fr b _ (Nat.and_self _) (Nat.and_self _) (Fr.refl ..)).reg .lnkLtssm l 0 rfl
  extract_lets b1
  have h1 : KeepsFields [.lnkLtssm] b b1 := .ite (.grMod rfl (clkreqOn_fr b (k / 4) rfl rfl (.refl ..))) (.refl ..)
  rw [recovery, lkMod_rd, incSat, wr_rd_fld _ (by decide), wr_rd_ne _ (by simp [key, hne]), lkMod_rd, wr_rd_fld _ (by decide)]
  exact h1.rd (by decide) l 0

theorem sendNp_ltssm (h : b.rd .lnkLtssm l ≠ 5) (f id : Nat) : (b.sendNp f id).rd .lnkLtssm l = b.rd .lnkLtssm l := by
  unfold sendNp
  extract_lets k np
  split
  · rfl
  · split
    · rfl
    · split
      · split <;> rfl
      · split
        · exact l1Exit_ltssm h k
        · rfl

theorem pumpNp_ltssm (h : b.rd .lnkLtssm l = 3) (f : Nat) : (b.pumpNp f).rd .lnkLtssm l = 3 :=
  each_inv (P := fun c => c.rd .lnkLtssm l = 3) (fun c id _ hc => (sendNp_ltssm (by rw [hc]; decide) f id).trans hc) h

/-- What waits for the link goes out and leaves it in L0. -/
theorem linkGo_ltssm (h : b.rd .lnkLtssm l = 3) : (b.linkGo l).rd .lnkLtssm l = 3 := by
  unfold linkGo
  extract_lets b1
  have h1 : KeepsFields [.lnkLtssm] b b1 := intxLink_fr _ l rfl rfl (pumpPosted_fr b l rfl rfl (.refl ..))
  exact each_inv (P := fun c => c.rd .lnkLtssm l = 3) (fun c f _ hc => pumpNp_ltssm hc f) ((h1.rd (by decide) l 0).trans h)

theorem backToL0_ltssm (hd : b.dlActive l = true) (h4 : b.rd .lnkLtssm l = 4) (rate : Nat) (eqs : List EqRun) :
    (b.backToL0 l rate eqs).rd .lnkLtssm l = 3 := by
  unfold backToL0
  rw [if_neg (by simp [hd, h4])]
  extract_lets b1 b2 b3
  exact linkGo_ltssm (wr_rd_self b3 .lnkLtssm l 0 3)

end toL0

end Block

section commands
variable {s : State} {l : LinkIx}

theorem State.does_pmeTurnOff (hd : s.blk.dlActive l.val = true) (h6 : s.blk.rd .lnkLtssm l.val ≠ 6) :
    s.does (.pmeTurnOff l) fun b => b.rd .lnkLtssm l.val = 6 ∧ b.rd .lnkDlActive l.val = 0 ∧
      b.rd .lnkCntLinkDown l.val = s.blk.rd .lnkCntLinkDown l.val ∧ b.out = .msg l.val .pmeAck :: s.blk.out := by
  refine State.does_of_on (·.pmeOff l.val) rfl ?_
  simpa only [Block.canon_rd, Block.canon_out] using Block.pmeOff_enters hd h6

theorem State.does_linkDlUp {u : LinkUp} (hm : s.blk.mayTrain (l.val / 4) = true) (hu : s.blk.upOk l.val u = true) :
    s.does (.linkDlUp l u) fun b => b.rd .lnkDlActive l.val = 1 ∧ b.rd .lnkFlit l.val = b2n u.flit ∧
      b.rd .lnkRate l.val = u.rate % 16 ∧ b.rd .lnkWidthAct l.val = u.width := by
  refine State.does_of_on (·.linkUp l.val u) rfl ?_
  simpa only [Block.canon_rd] using Block.linkUp_shows hm hu

/-- R303: at the end of the detection time the link is lost when its standby is ready; otherwise it stays in Recovery. -/
theorem State.does_pairedDetectExpiry (hw : (s.blk.lk l.val).detect = true) (h4 : s.blk.rd .lnkLtssm l.val = 4) :
    s.does (.pairedDetectExpiry l) fun b =>
      (s.blk.pairReady l.val = true → b.rd .lnkDlActive l.val = 0 ∧
        b.rd .lnkCntLinkDown l.val = min (s.blk.rd .lnkCntLinkDown l.val + 1) (2 ^ (Fld.attr .lnkCntLinkDown).width - 1)) ∧
      (s.blk.pairReady l.val = false → (b.lk l.val).detect = false ∧ b.rd .lnkLtssm l.val = 4) := by
  refine State.does_of_on (fun b => if (b.lk l.val).detect && b.rd .lnkLtssm l.val == 4 then
    if b.pairReady l.val then b.linkDown l.val true else b.lkMod l.val (fun k => { k with detect := false }) else b) rfl ?_
  rw [if_pos (by simp [hw, h4])]
  refine ⟨fun hp => ?_, fun hp => ?_⟩
  · rw [if_pos hp, Block.canon_rd, Block.canon_rd]
    exact ⟨Block.linkDown_dlActive .., Block.linkDown_counts ..⟩
  · rw [if_neg (by simp [hp]), Block.canon_rd, Block.canon_lk, Block.lkMod_lk_self]
    exact ⟨rfl, h4⟩

theorem State.does_failoverSwitch {r0 : FnRec} {rs : List FnRec}
    (hrs : s.blk.fnRecs.filter (fun r => r.standby.isSome && s.blk.actLink r.f == l.val) = r0 :: rs)
    (hf : (s.blk.lk l.val).failed = true) (h0 : s.blk.inL0 (otherLink r0 l.val) = true) :
    s.does (.failoverSwitch l) fun b => ∀ r ∈ r0 :: rs, b.rd .recActiveLink r.f = otherLink r0 l.val % 256 := by
  refine State.does_of_on (·.failSwitch l.val) rfl ?_
  simpa only [Block.canon_rd] using Block.failSwitch_activeLink hrs hf h0

theorem State.does_linkRecovery (hd : s.blk.dlActive l.val = true) (hs : s.blk.rd .lnkLtssm l.val = 3 ∨ s.blk.rd .lnkLtssm l.val = 5) :
    s.does (.linkRecovery l) fun b => b.rd .lnkLtssm l.val = 4 ∧ b.rd .lnkDlActive l.val = 1 ∧ (b.lk l.val).margin = [] ∧
      b.rd .lnkCntRecovery l.val = min (s.blk.rd .lnkCntRecovery l.val + 1) (2 ^ (Fld.attr .lnkCntRecovery).width - 1) := by
  refine State.does_of_on (·.enterRec l.val) rfl ?_
  simpa only [Block.canon_rd, Block.canon_lk] using Block.enterRec_shows hd hs

end commands

/-- Settles O16, event by event. -/
theorem linkEvents : Obligations.LinkEvents := by
  unfold Obligations.LinkEvents
  refine ⟨?off, ?up, ?detect, ?switch, ?recovery, fun s l rate eqs hd h4 => ?back⟩
  case off => exact fun s l => State.does_pmeTurnOff
  case up => exact fun s l u => State.does_linkDlUp
  case detect => exact fun s l => State.does_pairedDetectExpiry
  case switch => exact fun s l r0 rs => State.does_failoverSwitch
  case recovery => exact fun s l => State.does_linkRecovery
  case back => exact State.does_rd (·.backToL0 l.val rate eqs) rfl (Block.backToL0_ltssm hd h4 rate eqs)

end Sys2Proof.Machine
end

section
/-! PROOFS. Width changes through L0p, ECONOMY, ASPM L1, Lane Margining and IDE check failures of a Stall link (O17). -/
namespace Sys2Proof.Machine
namespace Block

/-! ### What the judgements of a link rest on -/

section judged
variable {m q : Nat} {a b : Block} (h : Fr m q a b) (l : Nat)
include h

/-- R225: the widest width rests on the lanes retired, the orientation, the width negotiated and the form of the group. -/
theorem l0pMax_of_fr (hr : m.testBit (Fld.ctorIdx .lnkRetired) = false) (hv : m.testBit (Fld.ctorIdx .lnkReversed) = false)
    (hn : m.testBit (Fld.ctorIdx .lnkWidthNeg) = false) (hg : q.testBit (Part.ctorIdx .groups) = false) : b.l0pMax l = a.l0pMax l := by
  have hform : b.formWidth l = a.formWidth l := by rw [formWidth, show _ = _ from h.part .groups hg (l / 4), formWidth]
  simp only [l0pMax, widthIn, lanesOk, physOf, flag, hform, h.reg .lnkRetired _ _ hr, h.reg .lnkReversed _ _ hv, h.reg .lnkWidthNeg _ _ hn]
  rfl

/-- R278: whether the width can change through L0p rests on the state of the link, its mode, the control of the group and the partner. -/
theorem l0pAble_of_fr (hf : m.testBit (Fld.ctorIdx .lnkFlit) = false) (he : m.testBit (Fld.ctorIdx .grpL0pEn) = false)
    (hd : m.testBit (Fld.ctorIdx .lnkDlActive) = false) (hs : m.testBit (Fld.ctorIdx .lnkLtssm) = false)
    (hl : q.testBit (Part.ctorIdx .links) = false) : b.l0pAble l = a.l0pAble l := by
  simp only [l0pAble, inL0, dlActive, flag, h.reg .lnkFlit _ _ hf, h.reg .grpL0pEn _ _ he, h.reg .lnkDlActive _ _ hd,
    h.reg .lnkLtssm _ _ hs, show b.lk l = a.lk l from h.part .links hl l]

/-- R235: whether a Secure selective stream covers a function rests on its active link, the IDE registers, the streams and the image. -/
theorem selSecure_of_fr (f : Nat) (ha : m.testBit (Fld.ctorIdx .recActiveLink) = false) (hi : m.testBit (Fld.ctorIdx .ideDw) = false)
    (hl : q.testBit (Part.ctorIdx .links) = false) (hm : q.testBit (Part.ctorIdx .img) = false) : b.selSecure f = a.selSecure f := by
  have himg : b.img = a.img := h.part .img hm
  have hlk : b.lk = a.lk := funext (h.part .links hl)
  have hact : b.actLink f = a.actLink f := h.reg .recActiveLink f 0 ha
  have hreg : b.ideReg = a.ideReg := funext fun l => funext fun j => h.reg .ideDw l j hi
  have hrecs : b.fnRecs = a.fnRecs := by rw [fnRecs, himg, fnRecs]
  have hrec : b.fnRec? = a.fnRec? := funext fun g => by rw [fnRec?, hrecs, fnRec?]
  have hari : b.ariOf = a.ariOf := by
    funext r
    simp only [ariOf, vfNumOf, vfsOf, pfRec?, hrec, hrecs]
    rfl
  simp only [selSecure, selOf, selOn, selCovers, ridOf, streamIs, hact, hreg, hlk, hari, hrec]
  rfl

end judged

/-! ### Width changes through L0p (R225, R226) -/

section l0p
variable {b : Block} {l w : Nat}

theorem inL0_of_l0pAble (ha : b.l0pAble l = true) : b.inL0 l = true := (Bool.and_eq_true_iff.1 ha).2

theorem l0pSet_width (b : Block) (l w : Nat) : (b.l0pSet l w).rd .lnkWidthAct l = w % 32 := by
  rw [l0pSet, lkMod_rd, incSat, wr_rd_fld _ (by decide)]
  exact wr_rd_self ..

theorem l0pSet_changes (b : Block) (l w : Nat) : (b.l0pSet l w).rd .lnkCntL0pChg l =
    min (b.rd .lnkCntL0pChg l + 1) (2 ^ (Fld.attr .lnkCntL0pChg).width - 1) := by
  rw [l0pSet, lkMod_rd, incSat_rd_self, wr_rd_fld _ (by decide)]

/-- R226: a request for a width that the healthy lanes give is taken. -/
theorem l0pPartner_taken (ha : b.l0pAble l = true) (hw : w = 1 ∨ w = 2 ∨ w = 4 ∨ w = 8 ∨ w = 16) (hm : w ≤ b.l0pMax l) :
    b.l0pPartner l w = (b.l0pSet l w).emit (.msg l (.l0pAns true)) := by
  rw [l0pPartner, if_neg (by simp [inL0_of_l0pAble ha]), if_pos (by simpa [ha, hm, or_assoc] using hw)]

/-- R226: a request for more is refused. -/
theorem l0pPartner_refused (ha : b.l0pAble l = true) (hm : b.l0pMax l < w) :
    b.l0pPartner l w = b.emit (.msg l (.l0pAns false)) := by
  rw [l0pPartner, if_neg (by simp [inL0_of_l0pAble ha]), if_neg (by simp [hm])]

/-- R225: the width that the partner has accepted is in force, and nothing follows when it is allowed and no widening waits. -/
theorem l0pTaken_eq {why : Nat} (hr : (b.lk l).l0p = some (w, why)) (hm : w ≤ b.l0pMax l) (hc : w ≤ b.stlCap)
    (hw : (b.lk l).want = false) :
    b.l0pTaken l = (b.lkMod l (fun k => { k with l0p := none, want := false, econLow := 0 })).l0pSet l w := by
  unfold l0pTaken
  rw [hr, hw]
  dsimp -zeta only
  extract_lets want b0 b1 b2
  have hmax0 : ¬ w > b0.l0pMax l := hm.not_gt
  have hb1 : b1 = b0.l0pSet l w := if_neg hmax0
  have hmax : b1.l0pMax l = b.l0pMax l := by
    rw [hb1]
    exact l0pMax_of_fr (l0pSet_fr b0 l w (Nat.and_self _) (Nat.and_self _) (Fr.refl ..)) l rfl rfl rfl rfl
  have hcap : b1.stlCap = b.stlCap := by
    have hfr : Fr _ _ b0 (b0.l0pSet l w) := l0pSet_fr b0 l w (Nat.and_self _) (Nat.and_self _) (Fr.refl ..)
    rw [hb1, stlCap, hfr.reg .broStlWidth 0 0 rfl]
    rfl
  have hwide : ¬ b1.rd .lnkWidthAct l > b1.l0pMax l := by
    rw [hmax, hb1, l0pSet_width]
    have := Nat.mod_le w 32
    omega
  have hb2 : b2 = b1 := by
    simp only [b2]
    rw [if_neg hwide, if_neg (by rw [hcap]; simp [hc])]
  rw [if_neg (by decide), hb2, hb1]

end l0p

/-! ### ECONOMY and what an interval has seen (R221, R278) -/

section economy
variable {b : Block} {l tx rx : Nat}

/-- No occupancy of such an interval is high. -/
theorem low_not_high (ht : tx < 25) (hr : rx < 25) : ¬ (decide (tx > 75) || decide (rx > 75) || false) = true := by
  simp only [Bool.or_false, Bool.or_eq_true, decide_eq_true_eq]
  omega

/-- R278: the tenth interval of low occupancy in a row asks for half the width. -/
theorem l0pInterval_asks (he : b.linkEconomy l = true) (ha : b.l0pAble l = true) (ht : tx < 25) (hr : rx < 25)
    (hn : (b.lk l).econLow = 9) (hw : 1 < b.rd .lnkWidthAct l) (h0 : (b.lk l).l0p = none) :
    b.l0pInterval l tx rx false = (b.lkMod l (fun k => { k with econLow := 0 })).l0pAsk l (b.rd .lnkWidthAct l / 2) 1 := by
  rw [l0pInterval, if_neg (by simp [he, ha]), if_neg (low_not_high ht hr), if_pos (by simp [ht, hr])]
  simp [hn, hw, h0]

/-- R278: an earlier one is counted. -/
theorem l0pInterval_counts (he : b.linkEconomy l = true) (ha : b.l0pAble l = true) (ht : tx < 25) (hr : rx < 25)
    (hn : (b.lk l).econLow < 9) :
    b.l0pInterval l tx rx false = b.lkMod l (fun k => { k with econLow := (b.lk l).econLow + 1 }) := by
  have hfew : ¬ 10 ≤ (b.lk l).econLow + 1 := by omega
  rw [l0pInterval, if_neg (by simp [he, ha]), if_neg (low_not_high ht hr), if_pos (by simp [ht, hr])]
  simp [hfew, Nat.min_eq_left (Nat.le_of_not_le hfew)]

/-- An interval changes no field. -/
theorem l0pInterval_rd (b : Block) (l tx rx : Nat) (waited : Bool) (y : Fld) (i j : Nat) :
    (b.l0pInterval l tx rx waited).rd y i j = b.rd y i j :=
  (l0pInterval_fr b l tx rx waited (Nat.and_self _) (Nat.and_self _) (Fr.refl ..)).reg y i j (Nat.zero_testBit _)

variable (b l) (o : LinkObs)

/-- What the receivers have seen changes FOM and two counters, and no record. -/
theorem linkSee_frame : Fr 0x43000000000000000000000000000000000000000000000000 0 b (b.linkSee l o) :=
  linkSee_fr b l o (Nat.and_self _) (Nat.and_self _) (Fr.refl ..)

theorem linkSee_lk (k : Nat) : (b.linkSee l o).lk k = b.lk k := (linkSee_frame b l o).part .links rfl k

theorem linkSee_economy (k : Nat) : (b.linkSee l o).linkEconomy k = b.linkEconomy k := by
  rw [linkEconomy, show _ = _ from (linkSee_frame b l o).part .img rfl, linkEconomy]

theorem linkSee_able (k : Nat) : (b.linkSee l o).l0pAble k = b.l0pAble k :=
  l0pAble_of_fr (linkSee_frame b l o) k rfl rfl rfl rfl rfl

/-- The eyes measured go to the FOM alone. -/
theorem fomSee_keeps (eyes : List (List Eye)) : KeepsFields [.lnkCntFecCorr, .lnkCntCrcFail] b (b.fomSee l eyes) :=
  fomSee_fr b l eyes rfl rfl (.refl ..)

/-- n more events in a counter of 16 bits of link l. -/
def countMore (b : Block) (fld : Fld) (l n : Nat) : Block := if n == 0 then b else b.wr fld l 0 (min 0xFFFF (b.rd fld l + n))

theorem linkSee_eq : b.linkSee l o = ((b.fomSee l o.eyes).countMore .lnkCntFecCorr l
    (if b.flag .lnkFlit l then o.fecCorr else 0)).countMore .lnkCntCrcFail l o.crcFail := rfl

theorem countMore_rd_self {fld : Fld} (hw : (Fld.attr fld).width = 16) {n : Nat} (hn : n ≠ 0) :
    (b.countMore fld l n).rd fld l = min 0xFFFF (b.rd fld l + n) := by
  rw [countMore, if_neg (by simp [hn]), wr_rd_self, hw]
  exact Nat.mod_eq_of_lt (by omega)

theorem countMore_rd_fld {fld y : Fld} (hy : y ≠ fld) (n i j : Nat) : (b.countMore fld l n).rd y i j = b.rd y i j := by
  unfold countMore
  split
  · rfl
  · exact wr_rd_fld b hy ..

variable {b l o}

/-- Table 9.9: CRC failures are counted to FFFFh. -/
theorem linkSee_crcFail (h : o.crcFail ≠ 0) :
    (b.linkSee l o).rd .lnkCntCrcFail l = min 0xFFFF (b.rd .lnkCntCrcFail l + o.crcFail) := by
  rw [linkSee_eq, countMore_rd_self _ _ rfl h, countMore_rd_fld _ _ (by decide), (fomSee_keeps b l o.eyes).rd (by decide)]

/-- Table 9.9: in Flit mode corrected errors are counted to FFFFh. -/
theorem linkSee_fecCorr (h : o.fecCorr ≠ 0) (hf : b.flag .lnkFlit l = true) :
    (b.linkSee l o).rd .lnkCntFecCorr l = min 0xFFFF (b.rd .lnkCntFecCorr l + o.fecCorr) := by
  rw [linkSee_eq, countMore_rd_fld _ _ (by decide), hf, if_pos rfl, countMore_rd_self _ _ rfl h,
    (fomSee_keeps b l o.eyes).rd (by decide)]

end economy

/-! ### ASPM L1 (R229) -/

section aspm
variable {b : Block} {l : Nat}

theorem aspmIdle_eq (h0 : b.inL0 l = true) (hp : b.aspmL1 l = true) (hi : b.linkIdle l = true) :
    b.aspmIdle l = (((b.wr .lnkLtssm l 0 5).wr .lnkL1sub l 0 1).emit (.msg l .enterL1)).l1Ask l := by
  rw [aspmIdle, if_pos (by simp [h0, hp, hi])]

theorem aspmIdle_enters (h0 : b.inL0 l = true) (hp : b.aspmL1 l = true) (hi : b.linkIdle l = true) :
    (b.aspmIdle l).rd .lnkLtssm l = 5 ∧ .msg l .enterL1 ∈ (b.aspmIdle l).out := by
  rw [aspmIdle_eq h0 hp hi]
  generalize hc : ((b.wr .lnkLtssm l 0 5).wr .lnkL1sub l 0 1).emit (.msg l .enterL1) = c
  have hj : Fr _ _ c (c.l1Ask l) := l1Ask_fr c l (Nat.and_self _) (Nat.and_self _) (Fr.refl ..)
  rw [hj.reg .lnkLtssm l 0 rfl, show _ = c.out from hj.part .out rfl, ← hc]
  refine ⟨?_, List.mem_cons_self⟩
  rw [emit_rd, wr_rd_fld _ (by decide)]
  exact wr_rd_self ..

end aspm

/-! ### Lane Margining (R232, R233) -/

section margin
variable {b : Block} {l lane : Nat}

/-- Table 9.3: a report command is answered with its value. -/
theorem marginCmd_report {pl v : Nat} (hm : b.marginLane l lane = true) (hr : 4 ≤ b.rd .lnkRate l)
    (hv : marginReport (decide (6 ≤ b.rd .lnkRate l)) pl = some v) : b.marginCmd l lane 1 pl = b.emit (.msg l (.margin lane 1 v)) := by
  unfold marginCmd
  rw [if_neg (by simp [hm, hr])]
  extract_lets ph off say
  rw [hv]
  rfl

/-- R233: a step command stands for its physical lane until it ends. -/
theorem marginCmd_step {ty pl : Nat} (hm : b.marginLane l lane = true) (hr : 4 ≤ b.rd .lnkRate l) (ht : ty = 3 ∨ ty = 4) :
    (b.physOf l (b.flag .lnkReversed l) lane, ty, pl) ∈ ((b.marginCmd l lane ty pl).lk l).margin := by
  unfold marginCmd
  rw [if_neg (by simp [hm, hr])]
  extract_lets ph off say b1
  have hb1 : (ph, ty, pl) ∈ (b1.lk l).margin := by
    rw [show b1.lk l = _ from lkMod_lk_self off l _]
    exact List.mem_cons_self
  rcases ht with rfl | rfl <;> exact hb1

end margin

/-! ### IDE check failures (R236) -/

section ide
variable {b : Block} {l id : Nat}

theorem streamFell_insecure (b : Block) (l id : Nat) : (b.streamFell l id).streamIs l id (·.secure) = false := by
  rw [streamIs, streamFell, lkMod_lk_self, List.any_eq_false]
  intro x hx
  obtain ⟨y, -, rfl⟩ := List.mem_map.1 hx
  by_cases hy : y.id = id <;> simp [hy]

/-- R236: a stream that no function uses leaves the Secure state, and no more. -/
theorem ideFail_unused (hs : b.streamIs l id (·.secure) = true) (hn : (b.streamFell l id).onStream l id = []) :
    b.ideFail l id = b.streamFell l id := by
  unfold ideFail
  rw [if_neg (by simp [hs])]
  extract_lets b1 fs b2
  have hfs : fs = [] := hn
  simp only [b2, hfs]
  rfl

/-- R236, R353: an interface that no Secure stream covers moves to ERROR. -/
def tdiFell (b : Block) (f : Nat) : Block := if b.tdiOn f && !b.selSecure f then b.tdiErr f else b

/-- R236: the one function that used the stream logs the failure, and what it has not sent is cut. -/
theorem ideFail_used {f : Nat} (hs : b.streamIs l id (·.secure) = true) (hn : (b.streamFell l id).onStream l id = [f]) :
    b.ideFail l id = (((b.streamFell l id).logErr f { code := 20, detail := id % 256 }).tdiFell f).streamCut f := by
  unfold ideFail
  rw [if_neg (by simp [hs])]
  extract_lets b1 fs b2
  have hfs : fs = [f] := hn
  have hb1 : b1 = b.streamFell l id := rfl
  simp only [b2, hfs, each, List.foldl_cons, List.foldl_nil, hb1, tdiFell]

theorem tdiErr_state {f : Nat} (ht : b.tdiOn f = true) : (b.tdiErr f).rd .tdiState f = 3 := by
  have hst : (b.rd .tdiState f == 1 || b.rd .tdiState f == 2) = true := ht
  rw [tdiErr, if_pos hst, (bmeJudge_fr _ f _ (Nat.and_self _) (Nat.and_self _) (Fr.refl ..)).reg .tdiState f 0 rfl]
  exact wr_rd_self ..

/-- The log entry of the failure bears neither on the interface nor on the streams. -/
theorem ideFail_tdi {f : Nat} (hs : b.streamIs l id (·.secure) = true) (hn : (b.streamFell l id).onStream l id = [f])
    (ht : b.tdiOn f = true) (hsel : (b.streamFell l id).selSecure f = false) : (b.ideFail l id).rd .tdiState f = 3 := by
  rw [ideFail_used hs hn]
  have hlog := logErr_fr (b.streamFell l id) f { code := 20, detail := id % 256 } 0 (Nat.and_self _) (Nat.and_self _) (Fr.refl ..)
  generalize (b.streamFell l id).logErr f { code := 20, detail := id % 256 } = c at hlog
  have htc : c.tdiOn f = true := by
    rw [tdiOn, hlog.reg .tdiState f 0 rfl]
    exact ht
  have hsc : c.selSecure f = false := (selSecure_of_fr hlog f rfl rfl rfl rfl).trans hsel
  rw [(streamCut_fr _ f (Nat.and_self _) (Nat.and_self _) (Fr.refl ..)).reg .tdiState f 0 rfl, tdiFell, if_pos (by simp [htc, hsc])]
  exact tdiErr_state htc

end ide

end Block

section commands
variable {s : State} {l : LinkIx}

theorem State.does_l0pPartnerRequest_taken {w : Nat} (ha : s.blk.l0pAble l.val = true) (hw : w = 1 ∨ w = 2 ∨ w = 4 ∨ w = 8 ∨ w = 16)
    (hm : w ≤ s.blk.l0pMax l.val) :
    s.does (.l0pPartnerRequest l w) fun b => b.rd .lnkWidthAct l.val = w ∧ Out.msg l.val (.l0pAns true) ∈ b.out := by
  refine State.does_of_on (·.l0pPartner l.val w) rfl ?_
  rw [Block.canon_rd, Block.canon_out, Block.l0pPartner_taken ha hw hm, Block.emit_rd, Block.l0pSet_width]
  exact ⟨Nat.mod_eq_of_lt (by omega), List.mem_cons_self⟩

theorem State.does_l0pPartnerRequest_refused {w : Nat} (ha : s.blk.l0pAble l.val = true) (hm : s.blk.l0pMax l.val < w) :
    s.does (.l0pPartnerRequest l w) fun b => b.rd .lnkWidthAct l.val = s.blk.rd .lnkWidthAct l.val ∧
      Out.msg l.val (.l0pAns false) ∈ b.out := by
  refine State.does_of_on (·.l0pPartner l.val w) rfl ?_
  rw [Block.canon_rd, Block.canon_out, Block.l0pPartner_refused ha hm, Block.emit_rd]
  exact ⟨rfl, List.mem_cons_self⟩

theorem State.does_l0pAcceptance {w why : Nat} (hr : (s.blk.lk l.val).l0p = some (w, why)) (hm : w ≤ s.blk.l0pMax l.val)
    (hc : w ≤ s.blk.stlCap) (hw : (s.blk.lk l.val).want = false) :
    s.does (.l0pAcceptance l) fun b => b.rd .lnkWidthAct l.val = w % 32 ∧ (b.lk l.val).l0p = none ∧
      b.rd .lnkCntL0pChg l.val = min (s.blk.rd .lnkCntL0pChg l.val + 1) (2 ^ (Fld.attr .lnkCntL0pChg).width - 1) := by
  refine State.does_of_on (·.l0pTaken l.val) rfl ?_
  rw [Block.canon_rd, Block.canon_rd, Block.canon_lk, Block.l0pTaken_eq hr hm hc hw, Block.l0pSet_width, Block.l0pSet_changes,
    Block.l0pSet, Block.lkMod_lk_self, Block.incSat_lk, Block.wr_lk, Block.lkMod_lk_self, Block.lkMod_rd]
  exact ⟨rfl, rfl, rfl⟩

/-- An occupancy interval in ECONOMY: what the receivers have seen does not bear on what is judged. -/
theorem State.does_l0pOccupancyInterval {tx rx : Nat} {obs : LinkObs} (he : s.blk.linkEconomy l.val = true)
    (ha : s.blk.l0pAble l.val = true) (ht : tx < 25) (hr : rx < 25) :
    ((s.blk.lk l.val).econLow = 9 → 1 < s.blk.rd .lnkWidthAct l.val → (s.blk.lk l.val).l0p = none →
      s.does (.l0pOccupancyInterval l tx rx false obs) fun b => (b.lk l.val).l0p = some (s.blk.rd .lnkWidthAct l.val / 2, 1)) ∧
    ((s.blk.lk l.val).econLow < 9 →
      s.does (.l0pOccupancyInterval l tx rx false obs) fun b => (b.lk l.val).econLow = (s.blk.lk l.val).econLow + 1) := by
  have he' := (Block.linkSee_economy s.blk l.val obs l.val).trans he
  have ha' := (Block.linkSee_able s.blk l.val obs l.val).trans ha
  have hwidth : (s.blk.linkSee l.val obs).rd .lnkWidthAct l.val = s.blk.rd .lnkWidthAct l.val :=
    (Block.linkSee_frame s.blk l.val obs).reg .lnkWidthAct l.val 0 rfl
  refine ⟨fun hn hw h0 => ?_, fun hn => ?_⟩
  · refine State.does_of_on (fun b => (b.linkSee l.val obs).l0pInterval l.val tx rx false) rfl ?_
    rw [Block.canon_lk, Block.l0pInterval_asks he' ha' ht hr (by rwa [Block.linkSee_lk]) (by rwa [hwidth]) (by rwa [Block.linkSee_lk]),
      Block.l0pAsk, Block.emit_lk, Block.lkMod_lk_self, hwidth]
  · refine State.does_of_on (fun b => (b.linkSee l.val obs).l0pInterval l.val tx rx false) rfl ?_
    rw [Block.canon_lk, Block.l0pInterval_counts he' ha' ht hr (by rwa [Block.linkSee_lk]), Block.lkMod_lk_self, Block.linkSee_lk]

theorem State.does_l0pOccupancyInterval_sees (s : State) (l : LinkIx) (tx rx : Nat) (waited : Bool) (obs : LinkObs) :
    s.does (.l0pOccupancyInterval l tx rx waited obs) fun b =>
      (obs.crcFail ≠ 0 → b.rd .lnkCntCrcFail l.val = min 0xFFFF (s.blk.rd .lnkCntCrcFail l.val + obs.crcFail)) ∧
      (obs.fecCorr ≠ 0 → s.blk.flag .lnkFlit l.val = true →
        b.rd .lnkCntFecCorr l.val = min 0xFFFF (s.blk.rd .lnkCntFecCorr l.val + obs.fecCorr)) := by
  refine State.does_of_on (fun b => (b.linkSee l.val obs).l0pInterval l.val tx rx waited) rfl ?_
  rw [Block.canon_rd, Block.canon_rd, Block.l0pInterval_rd, Block.l0pInterval_rd]
  exact ⟨Block.linkSee_crcFail, Block.linkSee_fecCorr⟩

theorem State.does_aspmIdleExpiry (h0 : s.blk.inL0 l.val = true) (hp : s.blk.aspmL1 l.val = true) (hi : s.blk.linkIdle l.val = true) :
    s.does (.aspmIdleExpiry l) fun b => b.rd .lnkLtssm l.val = 5 ∧ Out.msg l.val .enterL1 ∈ b.out := by
  refine State.does_of_on (·.aspmIdle l.val) rfl ?_
  rw [Block.canon_rd, Block.canon_out]
  exact Block.aspmIdle_enters h0 hp hi

theorem State.does_marginingCommand_report {lane v : Nat} {pl : BitVec 8} (hm : s.blk.marginLane l.val lane = true)
    (hr : 4 ≤ s.blk.rd .lnkRate l.val) (hv : marginReport (decide (6 ≤ s.blk.rd .lnkRate l.val)) pl.toNat = some v) :
    s.does (.marginingCommand l lane 1 pl) fun b => Out.msg l.val (.margin lane 1 v) ∈ b.out := by
  refine State.does_of_on (·.marginCmd l.val lane 1 pl.toNat) rfl ?_
  rw [Block.canon_out, Block.marginCmd_report hm hr hv]
  exact List.mem_cons_self

theorem State.does_marginingCommand_step {lane : Nat} {ty : BitVec 3} {pl : BitVec 8} (hm : s.blk.marginLane l.val lane = true)
    (hr : 4 ≤ s.blk.rd .lnkRate l.val) (ht : ty = 3 ∨ ty = 4) :
    s.does (.marginingCommand l lane ty pl) fun b =>
      (s.blk.physOf l.val (s.blk.flag .lnkReversed l.val) lane, ty.toNat, pl.toNat) ∈ (b.lk l.val).margin := by
  refine State.does_of_on (·.marginCmd l.val lane ty.toNat pl.toNat) rfl ?_
  rw [Block.canon_lk]
  exact Block.marginCmd_step hm hr (ht.imp (congrArg BitVec.toNat) (congrArg BitVec.toNat))

theorem State.does_ideCheckFail_unused {id : Nat} (hs : s.blk.streamIs l.val id (·.secure) = true)
    (hn : (s.blk.streamFell l.val id).onStream l.val id = []) :
    s.does (.ideCheckFail l id) fun b => b.streamIs l.val id (·.secure) = false := by
  refine State.does_of_on (·.ideFail l.val id) rfl ?_
  rw [Block.ideFail_unused hs hn, Block.streamIs, Block.canon_lk]
  exact Block.streamFell_insecure ..

end commands

/-- Settles O17, command by command. -/
theorem linkWidthPowerIde : Obligations.LinkWidthPowerIde := by
  unfold Obligations.LinkWidthPowerIde
  refine ⟨⟨fun s l w ha hw => ⟨?taken, ?refused⟩, ?accepted, fun s l tx rx obs => ?economy, ?seen, ?aspm⟩, ?report, ?step,
    fun s l id hs => ⟨?unused, fun f hn ht hsel => ?tdi⟩⟩
  case taken => exact State.does_l0pPartnerRequest_taken ha hw
  case refused => exact State.does_l0pPartnerRequest_refused ha
  case accepted => exact fun s l w why => State.does_l0pAcceptance
  case economy => exact State.does_l0pOccupancyInterval
  case seen => exact State.does_l0pOccupancyInterval_sees
  case aspm => exact fun s l => State.does_aspmIdleExpiry
  case report => exact fun s l lane pl v => State.does_marginingCommand_report
  case step => exact fun s l lane ty pl => State.does_marginingCommand_step
  case unused => exact State.does_ideCheckFail_unused hs
  case tdi => exact State.does_rd (·.ideFail l.val id) rfl (Block.ideFail_tdi hs hn ht hsel)

end Sys2Proof.Machine
end

section
/-! PROOFS. The training of a Tether port (O18): the entry to DETECT and the loss of the link, the lanes in training, the preset search,
LOCK and DESKEW. -/
namespace Sys2Proof.Machine
namespace Block

/-! ### The entry to DETECT and the loss of the link (R268, R269, Table 10.5) -/

section detect
variable (b : Block) (p : Nat)

theorem loopEnter_psState : (b.loopEnter p).rd .psState p = 6 := by
  unfold loopEnter
  extract_lets b1 b2
  have h : KeepsFields [.psState] b1 (((b2.linesDown p).each (b2.boundFns p) (fun b f => b.tdiErr f)).putFlit p 1 []) :=
    putFlit_fr _ p 1 [] rfl rfl (.each (fun c f hc => tdiErr_fr c f rfl rfl hc)
      (linesDown_fr b2 p rfl rfl (.each (fun c r hc => endReq_fr c p r 2 2 [] rfl rfl hc) (.refl ..))))
  exact (h.rd (by decide) p 0).trans (wr_rd_self ..)

/-- R269: a port that enters DETECT goes on to LOOPBACK when near loopback is set. -/
theorem tthDetect_psState (failed : Bool) :
    (b.tthDetect p failed).rd .psState p = if b.rd .pcLoopback p = 1 then 6 else 0 := by
  unfold tthDetect
  extract_lets b1
  have hl : b1.rd .pcLoopback p = b.rd .pcLoopback p := by
    simp only [b1, ttMod_rd, wr_rd_fld, ne_eq, reduceCtorEq, not_false_eq_true]
  have hs : b1.rd .psState p = 0 := by
    simp only [b1, ttMod_rd, wr_rd_fld, ne_eq, reduceCtorEq, not_false_eq_true]
    exact wr_rd_self ..
  rw [hl]
  by_cases h : b.rd .pcLoopback p = 1
  · rw [if_pos (beq_iff_eq.2 h), if_pos h, loopEnter_psState]
  · rw [if_neg (by simpa using h), if_neg h, hs]

theorem tthDown_active : (b.tthDown p).active p = false := by
  rw [tthDown, active, xMod_flag, ← active, setActive_active]

/-- R268, Table 10.10: a loss counts, the port is no longer ACTIVE, and it enters DETECT. -/
theorem tthLost_shows : (b.tthLost p true).rd .psState p = (if b.rd .pcLoopback p = 1 then 6 else 0) ∧
    (b.tthLost p true).rd .pcntLinkDown p = min (b.rd .pcntLinkDown p + 1) (2 ^ (Fld.attr .pcntLinkDown).width - 1) ∧
    (b.tthLost p true).active p = false := by
  unfold tthLost
  extract_lets b1
  have hdown : KeepsFields [.pcLoopback, .pcntLinkDown] b1 (b1.tthDown p) := tthDown_fr b1 p rfl rfl (.refl ..)
  have hdet : KeepsFields [.pcntLinkDown, .xlbActive] (b1.tthDown p) ((b1.tthDown p).tthDetect p) :=
    tthDetect_fr _ p false rfl rfl (.refl ..)
  refine ⟨?_, ?_, (hdet.flag (by decide) p 0).trans (tthDown_active b1 p)⟩
  · rw [tthDetect_psState, hdown.rd (by decide), show b1.rd .pcLoopback p = _ from wr_rd_fld b (by decide) ..]
  · rw [hdet.rd (by decide), hdown.rd (by decide)]
    exact incSat_rd_self ..

/-- Table 10.5: an attempt that fails counts TRAIN_FAIL and ends in DETECT. -/
theorem trainFail_shows : (b.trainFail p).rd .psState p = (if b.rd .pcLoopback p = 1 then 6 else 0) ∧
    (b.trainFail p).rd .pcntTrainFail p = min (b.rd .pcntTrainFail p + 1) (2 ^ (Fld.attr .pcntTrainFail).width - 1) := by
  rw [trainFail]
  have hdet : KeepsFields [.pcntTrainFail] (b.incSat .pcntTrainFail p) ((b.incSat .pcntTrainFail p).tthDetect p true) :=
    tthDetect_fr _ p true rfl rfl (.refl ..)
  refine ⟨?_, (hdet.rd (by decide) p 0).trans (incSat_rd_self ..)⟩
  rw [tthDetect_psState, incSat, wr_rd_fld b (by decide)]

theorem stateLimit_fails {b : Block} {p : Nat} (h : b.rd .psState p = 2 ∨ b.rd .psState p = 3) : b.stateLimit p = b.trainFail p := by
  rcases h with h | h <;> simp only [stateLimit, h]

end detect

/-! ### The lanes in training (R255, R256) -/

section lanes
variable {b : Block} {p i : Nat}

theorem mem_lanesOf {m i : Nat} : i ∈ lanesOf m ↔ i < 8 ∧ bit m i = true := by
  rw [lanesOf, List.mem_filter, List.mem_range]

theorem lanesOf_length_le (m : Nat) : (lanesOf m).length ≤ 8 :=
  (List.length_filter_le ..).trans_eq List.length_range

/-- What putting training blocks on the lanes leaves as it is. -/
theorem each_putBlock_tt (b : Block) (p : Nat) (l : List Nat) : (b.each l (fun b i => b.putBlock p i)).tt p = b.tt p :=
  each_inv (P := fun c => c.tt p = b.tt p) (g := fun b i => b.putBlock p i) (fun _ _ _ hc => hc) rfl

@[simp] theorem sayStep_tt (b : Block) (p s : Nat) : (b.sayStep p s).tt p = { b.tt p with step := s } := by
  rw [sayStep, each_putBlock_tt, emit_tt, ttMod_tt_self]

@[simp] theorem canon_ln (b : Block) (p i : Nat) : b.canon.ln p i = b.ln p i := by
  rw [ln, canon_tt, ln]

theorem lnMod_ln (hi : i < (b.tt p).lanes.length) (g : LaneTrn → LaneTrn) : (b.lnMod p i g).ln p i = g (b.ln p i) := by
  rw [ln, lnMod, ttMod_tt_self, List.getElem?_modify_eq, ln, List.getElem?_eq_getElem hi]
  rfl

theorem sayPreset_ln (hi : i < (b.tt p).lanes.length) (n : Nat) : (b.sayPreset p i n).ln p i = { b.ln p i with preset := n } :=
  lnMod_ln hi _

/-- DETECT (R255): the receivers found, but for retired lanes, start the base step at the base rate. -/
theorem rxDetect_starts {m : Nat} (hs : b.rd .psState p = 0) (hr : b.portReady p = true) (hb : (b.tt p).backoff = false)
    (hm : without (without (m % 256) (b.rd .plRxRetired p)) (b.rd .plTxRetired p) ≠ 0) :
    (b.rxDetect p m).rd .psState p = 1 ∧ (b.rxDetect p m).rd .psRate p = 1 ∧
      ((b.rxDetect p m).tt p).found = without (without (m % 256) (b.rd .plRxRetired p)) (b.rd .plTxRetired p) := by
  unfold rxDetect
  extract_lets found b1
  rw [if_neg (by simp [hs, hr, hb, found, hm])]
  have h : KeepsFields [.psState, .psRate] ((b1.wr .psState p 0 1).wr .psRate p 0 1)
      ((((b1.wr .psState p 0 1).wr .psRate p 0 1).ttMod p (fun t => { t with
        found := found, lanes := List.replicate 8 {} })).sayStep p 0) :=
    sayStep_fr _ p 0 rfl rfl (.ttMod rfl (.refl ..))
  rw [h.rd (by decide), h.rd (by decide), sayStep_tt, ttMod_tt_self]
  refine ⟨?_, wr_rd_self .., rfl⟩
  rw [wr_rd_fld _ (by decide)]
  exact wr_rd_self ..

end lanes

/-! ### Training blocks of the base step (R256) -/

section blocks
variable {b : Block} {p i : Nat} {l : List Byte} {es : List Eye} {k : TrainBlk}

theorem fomSet_tt (b : Block) (p i : Nat) (es : List Eye) (u : Nat) : (b.fomSet p i es).tt u = b.tt u :=
  (fomSet_fr b p i es (Nat.and_self _) (Nat.and_self _) (Fr.refl ..)).part .tth rfl u

theorem fomSet_ln (b : Block) (p i : Nat) (es : List Eye) (u k : Nat) : (b.fomSet p i es).ln u k = b.ln u k := by
  rw [ln, fomSet_tt, ln]

theorem fomSet_farLoop (b : Block) (p i : Nat) (es : List Eye) : (b.fomSet p i es).farLoop p = b.farLoop p := by
  have h : KeepsFields [.pcMaxrate, .pcMaxwidth, .pcLoopback] b (b.fomSet p i es) := fomSet_fr b p i es rfl rfl (.refl ..)
  rw [farLoop, portCfg, fomSet_tt, h.rd (by decide), h.rd (by decide), h.rd (by decide), farLoop, portCfg]

/-- A block of the right size on a lane in training is judged once its eyes have been measured. -/
theorem blockIn_judged (h1 : b.rd .psState p = 1) (hf : bit (b.tt p).found i = true) (hl : l.length = 32) :
    b.blockIn p i l es = (b.fomSet p i es).trainBlk p i (blockOf l) := by
  simp [blockIn, takeBytes, h1, hf, hl]

/-- R256: a good block of the partner's role counts while the lane has not had its 64. -/
theorem trainBlk_counts (hi8 : i < 8) (hf : bit (b.tt p).found i = true) (hi : i < (b.tt p).lanes.length) (hs : (b.tt p).step = 1)
    (hfar : b.farLoop p = false) (hg : k.good = true) (hr : k.role = 1) (hk : 1 ≤ k.step) (hn : (b.ln p i).n < 63) :
    ((b.trainBlk p i k).ln p i).n = (b.ln p i).n + 1 := by
  unfold trainBlk
  rw [if_neg (by simp [hg, hr]), if_pos (by simp [hs]), if_neg (by simp [hfar])]
  extract_lets b1 b2
  have h1 : (b1.ln p i).n = (b.ln p i).n + 1 := by
    simp only [b1, lnMod_ln hi, if_pos hk]
  have ht : b1.tt p = { b.tt p with lanes := (b1.tt p).lanes } := by
    simp only [b1, lnMod, ttMod_tt_self]
  have h2 : b2 = b1 := if_neg (by rw [ht]; simp [hs])
  have hmem : i ∈ b1.trnLanes p := by
    rw [trnLanes, ht]
    exact mem_lanesOf.2 ⟨hi8, hf⟩
  have hall : (b1.trnLanes p).all (fun j => decide ((b1.ln p j).n ≥ 64)) = false :=
    List.all_eq_false.2 ⟨i, hmem, by simp only [h1, ge_iff_le, decide_eq_true_eq]; omega⟩
  rw [h2, hall, Bool.false_and, if_neg (by decide), h1]

/-- R256: a bad block starts the count again. -/
theorem trainBlk_bad (hi : i < (b.tt p).lanes.length) (hs : (b.tt p).step = 1) (hg : k.good = false) :
    ((b.trainBlk p i k).ln p i).n = 0 := by
  rw [trainBlk, if_pos (by simp [hg]), if_pos (by simp [hs]), lnMod_ln hi]

theorem blockIn_counts (h1 : b.rd .psState p = 1) (hi8 : i < 8) (hf : bit (b.tt p).found i = true) (hi : i < (b.tt p).lanes.length)
    (hs : (b.tt p).step = 1) (hfar : b.farLoop p = false) (hl : l.length = 32) (hg : (blockOf l).good = true)
    (hr : (blockOf l).role = 1) (hk : 1 ≤ (blockOf l).step) (hn : (b.ln p i).n < 63) :
    ((b.blockIn p i l es).ln p i).n = (b.ln p i).n + 1 := by
  have htt := fomSet_tt b p i es p
  have hln := fomSet_ln b p i es p i
  rw [blockIn_judged h1 hf hl, trainBlk_counts hi8 (by rwa [htt]) (by rwa [htt]) (by rwa [htt]) ((fomSet_farLoop ..).trans hfar) hg hr hk
    (by rwa [hln]), hln]

theorem blockIn_bad (h1 : b.rd .psState p = 1) (hf : bit (b.tt p).found i = true) (hi : i < (b.tt p).lanes.length)
    (hs : (b.tt p).step = 1) (hl : l.length = 32) (hg : (blockOf l).good = false) : ((b.blockIn p i l es).ln p i).n = 0 := by
  have htt := fomSet_tt b p i es p
  rw [blockIn_judged h1 hf hl, trainBlk_bad (by rwa [htt]) (by rwa [htt]) hg]

end blocks

/-! ### The preset search (R221, R258, R259) -/

section presets
variable {b : Block} {p i : Nat} {es : List Eye}

theorem foldl_min_le (l : List Nat) (n : Nat) : l.foldl min n ≤ n := by
  induction l generalizing n with
  | nil => exact le_rfl
  | cons x t ih => exact (ih _).trans (min_le_left ..)

/-- R221: a FOM saturates at 255. -/
theorem laneFom_lt (pam : Bool) (es : List Eye) : laneFom pam es < 256 := by
  unfold laneFom
  extract_lets n
  split
  · decide
  · exact Nat.lt_succ_of_le (foldl_min_le ..)

/-- R258: a lane short of the target asks for the next preset, and shows the FOM of the one it held. -/
theorem dwell_next (h1 : b.rd .psState p = 1) (hs : (b.tt p).step = 2) (hi8 : i < 8) (hf : bit (b.tt p).found i = true)
    (hi : i < (b.tt p).lanes.length) (hd : (b.ln p i).done = false)
    (hfom : laneFom (decide (3 ≤ b.rd .psRate p)) es < b.rd .teqFomTarget (p / 16))
    (hnext : (b.ln p i).preset + 1 < b.rd .teqPresets (p / 16)) :
    (b.dwell p i es).rd .tlaneFom (tl p i) = laneFom (decide (3 ≤ b.rd .psRate p)) es ∧
      ((b.dwell p i es).ln p i).preset = (b.ln p i).preset + 1 := by
  unfold dwell
  extract_lets fom better b1 goal all' next
  rw [if_neg (by simp [h1, hs, hf, hd])]
  have htt : b1.tt p = { b.tt p with lanes := (b1.tt p).lanes } := by
    simp only [b1, lnMod, wr_tt, ttMod_tt_self]
  have hlen : i < (b1.tt p).lanes.length := by
    simpa only [b1, lnMod, wr_tt, ttMod_tt_self, List.length_modify] using hi
  have hshown : b1.rd .tlaneFom (tl p i) = fom := (wr_rd_self ..).trans (Nat.mod_eq_of_lt (laneFom_lt ..))
  have hpreset : (b1.ln p i).preset = (b.ln p i).preset := by
    show ((b.lnMod p i _).ln p i).preset = _
    rw [lnMod_ln hi]
  have hgoal : goal = b.rd .teqFomTarget (p / 16) := wr_rd_fld _ (by decide) ..
  have hmore : next < b1.rd .teqPresets (p / 16) := by
    rw [show next = _ from congrArg (· + 1) hpreset, show b1.rd .teqPresets (p / 16) = _ from wr_rd_fld _ (by decide) ..]
    exact hnext
  have hmem : i ∈ b1.trnLanes p := by
    rw [trnLanes, htt]
    exact mem_lanesOf.2 ⟨hi8, hf⟩
  have hall : all' = false := List.all_eq_false.2 ⟨i, hmem, by
    rw [hshown, hgoal, decide_eq_false (Nat.not_le.2 hfom), Bool.and_false]
    decide⟩
  rw [hall, if_neg (by decide), if_pos hmore, sayPreset_ln hlen]
  refine ⟨?_, congrArg (· + 1) hpreset⟩
  exact ((sayPreset_fr b1 p i next (Nat.and_self _) (Nat.and_self _) (Fr.refl ..)).reg .tlaneFom (tl p i) 0 rfl).trans hshown

end presets

/-! ### LOCK, DESKEW and markers (R251, Table 10.5) -/

section lock
variable {b : Block} {p : Nat}

/-- LOCK ends once the partner's markers show bit 0. -/
theorem lockStep_lock (h2 : b.rd .psState p = 2) (hl : (b.tt p).lock = true) :
    ((b.lockStep p).tt p).lock = true ∧ (b.lockStep p).rd .psState p = if bit (b.tt p).pStatus 0 then 3 else 2 := by
  unfold lockStep
  by_cases h : bit (b.tt p).pStatus 0 = true
  · rw [if_pos (by simp [h2, hl, h]), if_pos h, ttMod_tt_self]
    exact ⟨hl, wr_rd_self ..⟩
  · rw [if_neg (by simp [h]), if_neg (by simp [h2]), if_neg h]
    exact ⟨hl, h2⟩

/-- R260, R261: while a lane of the mask is in service, narrowing does not lose the link. -/
theorem narrowAsk_psState (hh : b.healthy p (b.rd .plRxmask p) ≠ []) : (b.narrowAsk p).rd .psState p = b.rd .psState p := by
  unfold narrowAsk
  rw [if_neg (c := (b.healthy p (b.rd .plRxmask p)).isEmpty = true) (by simpa using hh)]
  have h : KeepsFields [.psState] b (if (!b.flitsOn p) = true then b else b.askLanes p (b.wantMask p (b.rd .plRxmask p) b.tthCap)) :=
    .ite (.refl ..) (askLanes_fr b p _ rfl rfl (.refl ..))
  exact h.rd (by decide) p 0

theorem capsEnter_psState (hh : b.healthy p (b.rd .plRxmask p) ≠ []) : (b.capsEnter p).rd .psState p = 4 := by
  unfold capsEnter
  generalize hc : (b.wr .psState p 0 4).ttMod p _ = c
  have hs : KeepsFields [.psState, .plRxmask, .plRxRetired] c (c.sendCaps p false) := sendCaps_fr c p false rfl rfl (.refl ..)
  have hm : (c.sendCaps p false).rd .plRxmask p = b.rd .plRxmask p := by
    rw [hs.rd (by decide), ← hc, ttMod_rd, wr_rd_fld b (by decide)]
  have hr : (c.sendCaps p false).rd .plRxRetired p = b.rd .plRxRetired p := by
    rw [hs.rd (by decide), ← hc, ttMod_rd, wr_rd_fld b (by decide)]
  rw [narrowAsk_psState (by rwa [hm, healthy, hr, ← healthy]), hs.rd (by decide), ← hc]
  exact wr_rd_self ..

/-- DESKEW ends once the partner's markers show bit 1. -/
theorem lockStep_deskew (h3 : b.rd .psState p = 3) (hd : (b.tt p).desk = true) (hh : b.healthy p (b.rd .plRxmask p) ≠ []) :
    (b.lockStep p).rd .psState p = if bit (b.tt p).pStatus 1 then 4 else 3 := by
  unfold lockStep
  rw [if_neg (by simp [h3])]
  by_cases h : bit (b.tt p).pStatus 1 = true
  · rw [if_pos (by simp [h3, hd, h]), if_pos h, capsEnter_psState hh]
  · rw [if_neg (by simp [h]), if_neg h, h3]

theorem lockStep_later (h4 : 4 ≤ b.rd .psState p) : b.lockStep p = b := by
  have h2 : b.rd .psState p ≠ 2 := by omega
  have h3 : b.rd .psState p ≠ 3 := by omega
  simp [lockStep, h2, h3]

/-- R251: the status of the first marker on a receive lane is the partner's. -/
theorem markIn_status {ms : List LaneMark} {m : LaneMark} (h4 : 4 ≤ b.rd .psState p)
    (hm : ms.find? (fun m => bit (b.rd .plRxmask p) m.lane.val && isMark m.bytes) = some m) :
    ((b.markIn p ms).tt p).pStatus = msgFld m.bytes 7 1 % 4 := by
  unfold markIn
  rw [if_neg (by omega)]
  extract_lets b1
  have h : KeepsFields [.psState, .plRxmask] b b1 := .each (fun c m hc => fomSet_fr c p m.lane.val m.eyes rfl rfl hc) (.refl ..)
  rw [h.rd (by decide), hm]
  dsimp only
  rw [lockStep_later (by rw [ttMod_rd, h.rd (by decide)]; exact h4), ttMod_tt_self]

end lock

end Block

section commands
variable {s : State} {p : PortIx}

theorem State.does_tetherReceiverDetect {m : BitVec 8} (hs : s.blk.rd .psState p.val = 0) (hr : s.blk.portReady p.val = true)
    (hb : (s.blk.tt p.val).backoff = false)
    (hm : without (without m.toNat (s.blk.rd .plRxRetired p.val)) (s.blk.rd .plTxRetired p.val) ≠ 0) :
    s.does (.tetherReceiverDetect p m) fun b => b.rd .psState p.val = 1 ∧ b.rd .psRate p.val = 1 ∧
      (b.tt p.val).found = without (without m.toNat (s.blk.rd .plRxRetired p.val)) (s.blk.rd .plTxRetired p.val) := by
  refine State.does_of_on (·.rxDetect p.val m.toNat) rfl ?_
  have hm8 : m.toNat % 256 = m.toNat := Nat.mod_eq_of_lt m.isLt
  have h := Block.rxDetect_starts (m := m.toNat) hs hr hb (by rwa [hm8])
  rw [hm8] at h
  simpa only [Block.canon_rd, Block.canon_tt] using h

theorem State.does_trainingBlock {i : Fin 8} {l : List Byte} {es : List Eye} {n : Nat}
    (h : ((s.blk.blockIn p.val i.val l es).ln p.val i.val).n = n) :
    s.does (.trainingBlock p i l es) fun b => (b.ln p.val i.val).n = n := by
  refine State.does_of_on (·.blockIn p.val i.val l es) rfl ?_
  rwa [Block.canon_ln]

theorem State.does_adaptPresetDwellExpiry {i : Fin 8} {es : List Eye} (h1 : s.blk.rd .psState p.val = 1)
    (hs : (s.blk.tt p.val).step = 2) (hf : bit (s.blk.tt p.val).found i.val = true) (hi : i.val < (s.blk.tt p.val).lanes.length)
    (hd : (s.blk.ln p.val i.val).done = false)
    (hfom : laneFom (decide (3 ≤ s.blk.rd .psRate p.val)) es < s.blk.rd .teqFomTarget (p.val / 16))
    (hnext : (s.blk.ln p.val i.val).preset + 1 < s.blk.rd .teqPresets (p.val / 16)) :
    s.does (.adaptPresetDwellExpiry p i es) fun b =>
      b.rd .tlaneFom (tl p.val i.val) = laneFom (decide (3 ≤ s.blk.rd .psRate p.val)) es ∧
      (b.ln p.val i.val).preset = (s.blk.ln p.val i.val).preset + 1 := by
  refine State.does_of_on (·.dwell p.val i.val es) rfl ?_
  simpa only [Block.canon_rd, Block.canon_ln] using Block.dwell_next h1 hs i.isLt hf hi hd hfom hnext

theorem State.does_tetherStateLimitExpiry (h : s.blk.rd .psState p.val = 2 ∨ s.blk.rd .psState p.val = 3) :
    s.does (.tetherStateLimitExpiry p) fun b => b.rd .psState p.val = (if s.blk.rd .pcLoopback p.val = 1 then 6 else 0) ∧
      b.rd .pcntTrainFail p.val = min (s.blk.rd .pcntTrainFail p.val + 1) (2 ^ (Fld.attr .pcntTrainFail).width - 1) := by
  refine State.does_of_on (·.stateLimit p.val) rfl ?_
  rw [Block.stateLimit_fails h, Block.canon_rd, Block.canon_rd]
  exact Block.trainFail_shows ..

theorem State.does_symbolLock (h2 : s.blk.rd .psState p.val = 2) : s.does (.symbolLock p) fun b => (b.tt p.val).lock = true ∧
    b.rd .psState p.val = if bit (s.blk.tt p.val).pStatus 0 then 3 else 2 := by
  refine State.does_of_on (fun b => if b.rd .psState p.val == 2 then (b.ttMod p.val (fun t => { t with lock := true })).lockStep p.val
    else b) rfl ?_
  rw [if_pos (beq_iff_eq.2 h2), Block.canon_tt, Block.canon_rd]
  have h := Block.lockStep_lock (b := s.blk.ttMod p.val (fun t => { t with lock := true })) h2 (by rw [Block.ttMod_tt_self])
  rwa [Block.ttMod_tt_self] at h

theorem State.does_deskewDone (h3 : s.blk.rd .psState p.val = 3) (hh : s.blk.healthy p.val (s.blk.rd .plRxmask p.val) ≠ []) :
    s.does (.deskewDone p) fun b => b.rd .psState p.val = if bit (s.blk.tt p.val).pStatus 1 then 4 else 3 := by
  refine State.does_of_on (fun b => if b.rd .psState p.val == 3 then (b.ttMod p.val (fun t => { t with desk := true })).lockStep p.val
    else b) rfl ?_
  rw [if_pos (beq_iff_eq.2 h3), Block.canon_rd]
  have h := Block.lockStep_deskew (b := s.blk.ttMod p.val (fun t => { t with desk := true })) h3 (by rw [Block.ttMod_tt_self]) hh
  rwa [Block.ttMod_tt_self] at h

end commands

/-- Settles O18, state by state of Table 10.5. -/
theorem tetherTraining : Obligations.TetherTraining := by
  unfold Obligations.TetherTraining
  refine ⟨?detect, fun s p i l es h1 hf hi hs hfar hl => ⟨fun hg hr hk hn => ?counts, fun hg => ?bad⟩, ?dwell, ?limit, ?lock, ?deskew,
    fun s p => ?backoff, fun s p ms m h4 hm => ?marker⟩
  case detect => exact fun s p m => State.does_tetherReceiverDetect
  case counts => exact State.does_trainingBlock (Block.blockIn_counts h1 i.isLt hf hi hs hfar hl hg hr hk hn)
  case bad => exact State.does_trainingBlock (Block.blockIn_bad h1 hf hi hs hl hg)
  case dwell => exact fun s p i es => State.does_adaptPresetDwellExpiry
  case limit => exact fun s p => State.does_tetherStateLimitExpiry
  case lock => exact fun s p => State.does_symbolLock
  case deskew => exact fun s p => State.does_deskewDone
  case backoff =>
    refine State.does_of_on (·.ttMod p.val (fun t => { t with backoff := false })) rfl ?_
    rw [Block.canon_tt, Block.ttMod_tt_self]
  case marker =>
    refine State.does_of_on (·.markIn p.val ms) rfl ?_
    rw [Block.canon_tt]
    exact Block.markIn_status h4 hm

end Sys2Proof.Machine
end

section
/-! PROOFS. The flits, markers and SKIP flits that a Tether port sends, and the narrowing of its directions (O19). -/
namespace Sys2Proof.Machine
namespace Block

/-! ### What sending leaves in the record of the Tether controller (R246, R251, R254) -/

section sending
variable (b : Block) (p : Nat)

@[simp] theorem putSkip_tt : (b.putSkip p).tt p = { b.tt p with sinceSkip := 0 } := by
  rw [putSkip, emit_tt, ttMod_tt_self]
  rfl

/-- Putting a marker on the lanes changes only what the lanes carry. -/
theorem each_marker_keeps (l : List Nat) (x : Nat → WireTx) :
    (b.each l (fun b i => b.putWire (x i))).tt p = b.tt p ∧ (b.each l (fun b i => b.putWire (x i))).out = b.out :=
  each_inv (P := fun c => c.tt p = b.tt p ∧ c.out = b.out) (g := fun b i => b.putWire (x i)) (fun _ _ _ hc => hc) ⟨rfl, rfl⟩

@[simp] theorem putMark_tt : (b.putMark p).tt p = { b.tt p with markCnt := (b.tt p).markCnt + 1, sinceMark := 0, scr := 0 } := by
  simp only [putMark, emit_tt, ttMod_tt_self, (each_marker_keeps b p _ _).1]

/-- R251: a marker is reported as sent. -/
theorem putMark_out : ∃ n st, (b.putMark p).out = .tth p (.marker n st) :: b.out :=
  ⟨_, _, congrArg (Out.tth p (.marker _ _) :: ·) (each_marker_keeps b p _ _).2⟩

/-- A flit moves the position on and pays what the header owed the partner; the counts of the SKIP flits and of the markers, and the
scramblers, follow. -/
theorem putFlit_tt (ty : Nat) (area : List Byte) : ∃ skip mark cnt scr, (b.putFlit p ty area).tt p = { b.tt p with
    txPos := (b.tt p).txPos + 1, rxUnack := 0, sinceSkip := skip, sinceMark := mark, markCnt := cnt, scr := scr } := by
  unfold putFlit
  extract_lets m x b1 b2
  have h1 : ∃ skip mark scr, b1.tt p = { b.tt p with
      txPos := (b.tt p).txPos + 1, rxUnack := 0, sinceSkip := skip, sinceMark := mark, scr := scr } :=
    ⟨_, _, _, ttMod_tt_self ..⟩
  have h2 : ∃ skip mark scr, b2.tt p = { b.tt p with
      txPos := (b.tt p).txPos + 1, rxUnack := 0, sinceSkip := skip, sinceMark := mark, scr := scr } := by
    obtain ⟨skip, mark, scr, h⟩ := h1
    simp only [b2]
    split
    · exact ⟨0, mark, scr, by rw [putSkip_tt, h]⟩
    · exact ⟨skip, mark, scr, h⟩
  obtain ⟨skip, mark, scr, h⟩ := h2
  split
  · exact ⟨skip, 0, (b.tt p).markCnt + 1, 0, by rw [putMark_tt, h]⟩
  · exact ⟨skip, mark, (b.tt p).markCnt, scr, h⟩

theorem putFlit_giveF (ty : Nat) (area : List Byte) : ((b.putFlit p ty area).tt p).giveF = (b.tt p).giveF := by
  obtain ⟨skip, mark, cnt, scr, h⟩ := putFlit_tt b p ty area
  rw [h]

theorem putFlit_rxUnack (ty : Nat) (area : List Byte) : ((b.putFlit p ty area).tt p).rxUnack = 0 := by
  obtain ⟨skip, mark, cnt, scr, h⟩ := putFlit_tt b p ty area
  rw [h]

end sending

/-! ### NARROW_REQ, NARROW and the switch (R261, R262) -/

section narrow
variable {b : Block} {p m : Nat}

theorem flitsOn_iff : b.flitsOn p = true ↔ b.rd .psState p = 4 ∨ b.rd .psState p = 5 := by
  simp [flitsOn]

theorem ctlIn_taken (h : (b.tt p).rxNak = false) (g : Block → Block) : b.ctlIn p g = g b := by
  rw [ctlIn, h, if_neg (by decide)]

theorem tthWake_awake (h : b.flag .psTxDoze p = false) : b.tthWake p = b := by
  rw [tthWake, h, if_neg (by decide)]

/-- R261: a request of the design for other lanes of the trained mask is answered. -/
theorem narrowReqIn_given (hs : b.rd .psState p = 4 ∨ b.rd .psState p = 5) (h0 : m ≠ 0) (ht : without m (b.tt p).trained = 0)
    (hg : (b.tt p).giveF = none) (hm : m ≠ b.rd .plTxmask p) : b.narrowReqIn p m = b.giveLanes p m := by
  simp [narrowReqIn, flitsOn_iff.2 hs, h0, ht, hg, hm]

/-- R261: an awake transmitter grants the mask with a switch 64 positions ahead. -/
theorem giveLanes_grants (hd : b.flag .psTxDoze p = false) :
    ((b.giveLanes p m).tt p).giveF = some (m, ((b.tt p).txPos + 64) % 65536) ∧
      Out.tth p (.narrow m (((b.tt p).txPos + 64) % 65536)) ∈ (b.giveLanes p m).out := by
  unfold giveLanes
  extract_lets b1 f
  have h1 : b1 = b := tthWake_awake hd
  have hf : f = ((b.tt p).txPos + 64) % 65536 := by simp only [f, h1]
  rw [h1, hd, if_neg (by decide), hf]
  refine ⟨?_, List.mem_cons_self⟩
  rw [emit_tt, putFlit_giveF, ttMod_tt_self]

theorem narrowIn_recorded {f : Nat} (h : (b.tt p).askMask = some m) : ((b.narrowIn p m f).tt p).askF = some (m, f) := by
  rw [narrowIn, h, if_pos (beq_self_eq_true _), ttMod_tt_self]

/-- The number of lanes of a mask fits the fields of the widths. -/
theorem lanesOf_length_mod (m : Nat) : (lanesOf m).length % 2 ^ 4 = (lanesOf m).length :=
  Nat.mod_eq_of_lt ((lanesOf_length_le m).trans_lt (by decide))

/-- R261: at the switch the transmitter leaves the lanes it gives up. -/
theorem narrowTake_tx {f : Nat} (hm : m < 256) (hg : (b.tt p).giveF = some (m, f)) (hn : (b.tt p).giveNext = none) :
    (b.narrowTake p true).rd .plTxmask p = m ∧ (b.narrowTake p true).rd .psWidthTx p = (lanesOf m).length ∧
      (b.narrowTake p true).rd .plTxRetired p = without (b.rd .plTxRetired p ||| b.rd .plTxmask p) m % 256 ∧
      ((b.narrowTake p true).tt p).giveF = none := by
  have hw : m % 256 = m := Nat.mod_eq_of_lt hm
  simp only [narrowTake, hg, hn, if_true, ttMod_rd, ttMod_tt_self]
  refine ⟨?_, (wr_rd_self ..).trans (lanesOf_length_mod m), ?_, trivial⟩
  · rw [wr_rd_fld _ (by decide)]
    exact (wr_rd_self ..).trans hw
  · rw [wr_rd_fld _ (by decide), wr_rd_fld _ (by decide)]
    exact wr_rd_self ..

/-- R261: at the switch the receiver takes the lanes it asked for. -/
theorem narrowTake_rx {f : Nat} (hm : m < 256) (ha : (b.tt p).askF = some (m, f)) (hn : (b.tt p).again = false) :
    (b.narrowTake p false).rd .plRxmask p = m ∧ (b.narrowTake p false).rd .psWidthRx p = (lanesOf m).length ∧
      ((b.narrowTake p false).tt p).askMask = none := by
  have hw : m % 256 = m := Nat.mod_eq_of_lt hm
  simp only [narrowTake, ha, hn, Bool.false_eq_true, if_false, ttMod_rd, ttMod_tt_self]
  refine ⟨?_, (wr_rd_self ..).trans (lanesOf_length_mod m), trivial⟩
  rw [wr_rd_fld _ (by decide)]
  exact (wr_rd_self ..).trans hw

end narrow

end Block

section commands
variable {s : State} {p : PortIx} {m : BitVec 8}

theorem State.does_narrowReq (hs : s.blk.rd .psState p.val = 4 ∨ s.blk.rd .psState p.val = 5) (h0 : m.toNat ≠ 0)
    (ht : without m.toNat (s.blk.tt p.val).trained = 0) (hg : (s.blk.tt p.val).giveF = none) (hm : m.toNat ≠ s.blk.rd .plTxmask p.val)
    (hn : (s.blk.tt p.val).rxNak = false) (hd : s.blk.flag .psTxDoze p.val = false) :
    s.does (.narrowReq p m) fun b => (b.tt p.val).giveF = some (m.toNat, ((s.blk.tt p.val).txPos + 64) % 65536) ∧
      Out.tth p.val (.narrow m.toNat (((s.blk.tt p.val).txPos + 64) % 65536)) ∈ b.out := by
  refine State.does_of_on (fun b => b.ctlIn p.val (fun b => b.narrowReqIn p.val m.toNat)) rfl ?_
  rw [Block.ctlIn_taken hn, Block.narrowReqIn_given hs h0 ht hg hm, Block.canon_tt, Block.canon_out]
  exact Block.giveLanes_grants hd

theorem State.does_narrow {f : BitVec 16} (ha : (s.blk.tt p.val).askMask = some m.toNat) (hn : (s.blk.tt p.val).rxNak = false) :
    s.does (.narrow p m f) fun b => (b.tt p.val).askF = some (m.toNat, f.toNat) := by
  refine State.does_of_on (fun b => b.ctlIn p.val (fun b => b.narrowIn p.val m.toNat f.toNat)) rfl ?_
  rw [Block.ctlIn_taken hn, Block.canon_tt]
  exact Block.narrowIn_recorded ha

theorem State.does_narrowSwitch_tx {f : Nat} (hg : (s.blk.tt p.val).giveF = some (m.toNat, f)) (hn : (s.blk.tt p.val).giveNext = none) :
    s.does (.narrowSwitch p true) fun b => b.rd .plTxmask p.val = m.toNat ∧ b.rd .psWidthTx p.val = (lanesOf m.toNat).length ∧
      b.rd .plTxRetired p.val = without (s.blk.rd .plTxRetired p.val ||| s.blk.rd .plTxmask p.val) m.toNat % 256 ∧
      (b.tt p.val).giveF = none := by
  refine State.does_of_on (·.narrowTake p.val true) rfl ?_
  simpa only [Block.canon_rd, Block.canon_tt] using Block.narrowTake_tx m.isLt hg hn

theorem State.does_narrowSwitch_rx {f : Nat} (ha : (s.blk.tt p.val).askF = some (m.toNat, f)) (hn : (s.blk.tt p.val).again = false) :
    s.does (.narrowSwitch p false) fun b => b.rd .plRxmask p.val = m.toNat ∧ b.rd .psWidthRx p.val = (lanesOf m.toNat).length ∧
      (b.tt p.val).askMask = none := by
  refine State.does_of_on (·.narrowTake p.val false) rfl ?_
  simpa only [Block.canon_rd, Block.canon_tt] using Block.narrowTake_rx m.isLt ha hn

end commands

/-- Settles O19, record by record of Table 10.4. -/
theorem tetherNarrowing : Obligations.TetherNarrowing := by
  unfold Obligations.TetherNarrowing
  exact ⟨fun s p m => State.does_narrowReq, fun s p m f => State.does_narrow, fun s p m f => State.does_narrowSwitch_tx,
    fun s p m f => State.does_narrowSwitch_rx⟩

end Sys2Proof.Machine
end

section
/-! PROOFS. DOZE, its end, and what an awake transmitter sends beside flits (O20). -/
namespace Sys2Proof.Machine
namespace Block

section doze
variable {b : Block} {p : Nat}

/-! ### The partner's transmitter (R263, R266) -/

theorem partnerDoze_rxDoze (hs : b.rd .psState p = 4 ∨ b.rd .psState p = 5) : (b.partnerDoze p).rd .psRxDoze p = 1 := by
  rw [partnerDoze, if_pos (flitsOn_iff.2 hs)]
  exact wr_rd_self ..

/-- The partner's wake. -/
def rxWake (b : Block) (p : Nat) : Block := if b.flag .psRxDoze p then b.wr .psRxDoze p 0 0 else b

theorem rxWake_rxDoze (b : Block) (p : Nat) : (b.rxWake p).rd .psRxDoze p ≠ 1 := by
  unfold rxWake
  split
  · rw [wr_rd_self]
    decide
  · next h => simpa [flag] using h

/-! ### The own transmitter (R264, R265) -/

/-- R264: an idle transmitter says twice that it dozes, and dozes; the flits carry what the header owed. -/
theorem dozeIn_dozes (h5 : b.rd .psState p = 5) (he : b.flag .dozeEn p = true) (hd : b.flag .psTxDoze p = false)
    (ha : (b.tt p).askMask = none) (hg : (b.tt p).giveF = none) (hh : (b.tt p).hold = none) (ho : (b.tt p).txOut = (b.tt p).txSeq)
    (hq : (b.x p).rspQ = []) :
    (b.dozeIn p).rd .psTxDoze p = 1 ∧ ((b.dozeIn p).tt p).rxUnack = 0 ∧ Out.tth p .doze ∈ (b.dozeIn p).out := by
  unfold dozeIn
  extract_lets t rec'
  rw [if_pos (by simp [t, h5, he, hd, ha, hg, hh, ho, hq])]
  refine ⟨wr_rd_self .., ?_, ?_⟩
  · rw [wr_tt, putMark_tt, emit_tt, putFlit_rxUnack]
  · exact (extends_putMark ..).1 List.mem_cons_self

/-- R265: the wake burst ends DOZE, whatever the first flits then carry. -/
theorem wakeGo_wakes (b : Block) (p : Nat) : (b.wakeGo p).rd .psTxDoze p = 0 ∧ Out.tth p .wake ∈ (b.wakeGo p).out := by
  unfold wakeGo
  extract_lets owed b1
  have h1 : KeepsFields [.psTxDoze] (b.wr .psTxDoze p 0 0) b1 := putMark_fr _ p rfl rfl (.emit rfl (.ttMod rfl (.refl ..)))
  have hk : KeepsFields [.psTxDoze] (b.wr .psTxDoze p 0 0) (if owed then b1.txFlit p 1 [] else b1) :=
    .ite (txFlit_fr b1 p 1 [] rfl rfl h1) h1
  have hx : Extends b1 (if owed then b1.txFlit p 1 [] else b1) := .ite (extends_txFlit ..) (.refl _)
  refine ⟨(hk.rd (by decide) p 0).trans (wr_rd_self ..), hx.1 ?_⟩
  exact (extends_putMark ..).1 List.mem_cons_self

theorem tthWake_dozing (hd : b.flag .psTxDoze p = true) (h0 : b.flag .pstDroop 0 = false) : b.tthWake p = b.wakeGo p := by
  rw [tthWake, if_pos hd, if_neg (by simp [h0])]

end doze

end Block

section commands
variable {s : State} {p : PortIx}

theorem State.does_doze (hs : s.blk.rd .psState p.val = 4 ∨ s.blk.rd .psState p.val = 5) (hn : (s.blk.tt p.val).rxNak = false) :
    s.does (.doze p) fun b => b.rd .psRxDoze p.val = 1 := by
  refine State.does_rd (fun b => b.ctlIn p.val (fun b => b.partnerDoze p.val)) rfl ?_
  rw [Block.ctlIn_taken hn]
  exact Block.partnerDoze_rxDoze hs

theorem State.does_dozeIdleExpiry (h5 : s.blk.rd .psState p.val = 5) (he : s.blk.flag .dozeEn p.val = true)
    (hd : s.blk.flag .psTxDoze p.val = false) (ha : (s.blk.tt p.val).askMask = none) (hg : (s.blk.tt p.val).giveF = none)
    (hh : (s.blk.tt p.val).hold = none) (ho : (s.blk.tt p.val).txOut = (s.blk.tt p.val).txSeq) (hq : (s.blk.x p.val).rspQ = []) :
    s.does (.dozeIdleExpiry p) fun b => b.rd .psTxDoze p.val = 1 ∧ (b.tt p.val).rxUnack = 0 ∧ Out.tth p.val .doze ∈ b.out := by
  refine State.does_of_on (·.dozeIn p.val) rfl ?_
  rw [Block.canon_rd, Block.canon_tt]
  exact Block.dozeIn_dozes h5 he hd ha hg hh ho hq

/-- A command that loses the link. -/
theorem State.does_tthLost {c : Instr} (g : Block → Block) (hc : exec c s = s.on g) (hg : g s.blk = s.blk.tthLost p.val true) :
    s.does c fun b => b.rd .psState p.val = (if s.blk.rd .pcLoopback p.val = 1 then 6 else 0) ∧
      b.rd .pcntLinkDown p.val = min (s.blk.rd .pcntLinkDown p.val + 1) (2 ^ (Fld.attr .pcntLinkDown).width - 1) ∧
      b.active p.val = false := by
  refine State.does_of_on g hc ?_
  rw [hg, Block.canon_rd, Block.canon_rd, Block.active, Block.canon_flag]
  exact Block.tthLost_shows ..

theorem State.does_ackWaitExpiry (hu : (s.blk.tt p.val).rxUnack > 0) (hd : s.blk.flag .psTxDoze p.val = true)
    (h0 : s.blk.flag .pstDroop 0 = false) :
    s.does (.ackWaitExpiry p) fun b => b.rd .psTxDoze p.val = 0 ∧ Out.tth p.val .wake ∈ b.out := by
  refine State.does_of_on (fun b => if (b.tt p.val).rxUnack > 0 then b.tthWake p.val else b) rfl ?_
  rw [if_pos hu, Block.tthWake_dozing hd h0, Block.canon_rd]
  exact Block.wakeGo_wakes ..

/-- A transmitter past PATTERN that is awake sends. -/
theorem State.does_awake {c : Instr} {g : Block → Block} {P : Block → Prop}
    (hc : exec c s = s.on (fun b => if b.rd .psState p.val ≥ 2 && !b.flag .psTxDoze p.val then g b else b))
    (h2 : 2 ≤ s.blk.rd .psState p.val) (hd : s.blk.flag .psTxDoze p.val = false) (hP : P (g s.blk).canon) : s.does c P := by
  refine State.does_of_on _ hc ?_
  rwa [if_pos (by simp [h2, hd])]

end commands

/-- Settles O20, row by row. -/
theorem tetherDoze : Obligations.TetherDoze := by
  unfold Obligations.TetherDoze
  refine ⟨fun s p hs => ⟨State.does_doze hs, ?idle⟩, ?wake, fun s p => State.does_dozeIdleExpiry, fun s p hd => ?nudge,
    fun s p h5 hr => ?nudgeLost, fun s p hs hr => ?keepalive, fun s p => State.does_ackWaitExpiry, ?nothing,
    fun s p h2 hd => ⟨?skip, ?marker⟩⟩
  case idle => exact State.does_rd (·.partnerDoze p.val) rfl (Block.partnerDoze_rxDoze hs)
  case wake =>
    intro s p
    refine State.does_of_on (·.rxWake p.val) rfl ?_
    rw [Block.canon_rd]
    exact Block.rxWake_rxDoze s.blk p.val
  case nudge =>
    refine State.does_of_on (fun b => if b.flag .psTxDoze p.val then b.emit (.tth p.val .nudge) else b) rfl ?_
    rw [if_pos hd]
    rfl
  case nudgeLost =>
    exact State.does_tthLost (fun b => if b.flitsOn p.val && b.flag .psRxDoze p.val then b.tthLost p.val true else b) rfl
      (if_pos (by rw [Block.flitsOn_iff.2 (.inr h5), hr]; rfl))
  case keepalive =>
    exact State.does_tthLost (fun b => if b.flitsOn p.val && !b.flag .psRxDoze p.val then b.tthLost p.val true else b) rfl
      (if_pos (by rw [Block.flitsOn_iff.2 hs, hr]; rfl))
  case nothing => exact fun s p => ⟨State.does_of_on (fun b => b) rfl rfl, State.does_of_on (fun b => b) rfl rfl⟩
  case skip => exact State.does_awake (g := (·.putSkip p.val)) rfl h2 hd ⟨rfl, rfl⟩
  case marker =>
    refine State.does_awake (g := (·.putMark p.val)) rfl h2 hd ?_
    obtain ⟨n, st, h⟩ := Block.putMark_out s.blk p.val
    rw [Block.canon_tt, Block.putMark_tt, Block.canon_out, h]
    exact ⟨rfl, List.cons_ne_self _ _⟩

end Sys2Proof.Machine
end

section
/-! PROOFS. The slots (O22): their status bits, the requests to the power controller, the ends of its times, and the slot inputs. -/
namespace Sys2Proof.Machine
namespace Block

/-! ### The status bits of a slot in the functions bound to it (R330) -/

/-- The status bits that a write of 1 clears. -/
def slotBits : List Fld := [.slotPresenceChg, .slotPowerFault, .slotSeqDone, .slotButton]

/-- The bits of a slot in one function: one round of Block.slotBit. -/
def slotNoted (b : Block) (fld : Fld) (f : Nat) : Block :=
  let b1 := (b.wr fld f 0 1).sample f 12
  if b.d3hot f || b.d3cold f then b1.pmeEvent f else b1

theorem slotBit_eq (b : Block) (p : Nat) (fld : Fld) : b.slotBit p fld = b.each (b.boundFns p) (fun b f => b.slotNoted fld f) := rfl

section bits
variable {b : Block} {p : Nat} {fld : Fld}

/-- The fields that the interrupt and the PME of a slot's event change. -/
def slotEventFields : Nat :=
  0x800000000000000000000000000000000000000000000000000000000000020000000000000000000000000000000000000

theorem slotNoted_fr (b : Block) (fld : Fld) (f : Nat) : Fr slotEventFields 0x40001200 (b.wr fld f 0 1) (b.slotNoted fld f) :=
  have h1 : Fr slotEventFields 0x40001200 (b.wr fld f 0 1) ((b.wr fld f 0 1).sample f 12) := sample_fr _ f 12 rfl rfl (.refl ..)
  .ite (pmeEvent_fr _ f rfl rfl h1) h1

theorem slotBits_kept (hf : fld ∈ slotBits) : slotEventFields.testBit fld.ctorIdx = false ∧ (Fld.attr fld).width = 1 := by
  simp only [slotBits, List.mem_cons, List.not_mem_nil, or_false] at hf
  rcases hf with rfl | rfl | rfl | rfl <;> exact ⟨rfl, rfl⟩

theorem slotNoted_rd (hf : fld ∈ slotBits) (b : Block) (f g : Nat) :
    (b.slotNoted fld f).rd fld g = if g = f then 1 else b.rd fld g := by
  obtain ⟨hkept, hwidth⟩ := slotBits_kept hf
  rw [(slotNoted_fr b fld f).reg fld g 0 hkept, wr_rd, hwidth]
  simp

theorem boundFns_of_img {a b : Block} (h : b.img = a.img) (p : Nat) : b.boundFns p = a.boundFns p := by
  simp only [boundFns, fnRecs, h]

/-- Every function bound to the port has the bit. -/
theorem slotBit_sets (hf : fld ∈ slotBits) {a : Block} (h : b.img = a.img) (p : Nat) :
    ∀ f ∈ a.boundFns p, (b.slotBit p fld).rd fld f = 1 := by
  intro f hmem
  rw [← boundFns_of_img h] at hmem
  rw [slotBit_eq]
  refine each_establishes (P := fun c => c.rd fld f = 1) (Q := fun _ => True) hmem (fun _ _ _ => trivial) (fun c _ => ?_)
    (fun c y hc => ?_) trivial
  · rw [slotNoted_rd hf, if_pos rfl]
  · rw [slotNoted_rd hf, hc, ite_self]

@[simp] theorem slotBit_pin (b : Block) (p : Nat) (fld : Fld) (u : Nat) : (b.slotBit p fld).pin u = b.pin u :=
  (slotBit_fr (fm := anyField) b p fld (Fr.fullBit fld) rfl (Nat.and_self _) (Fr.refl ..)).part .pins rfl u
@[simp] theorem slotBit_sl (b : Block) (p : Nat) (fld : Fld) (u : Nat) : (b.slotBit p fld).sl u = b.sl u :=
  (slotBit_fr (fm := anyField) b p fld (Fr.fullBit fld) rfl (Nat.and_self _) (Fr.refl ..)).part .slots rfl u
@[simp] theorem seqDone_pin (b : Block) (p u : Nat) : (b.seqDone p).pin u = b.pin u := slotBit_pin ..
@[simp] theorem seqDone_sl (b : Block) (p u : Nat) : (b.seqDone p).sl u = b.sl u := slotBit_sl ..

theorem slotBit_slotPwrState (hf : fld ≠ .slotPwrState) (b : Block) (p u : Nat) :
    (b.slotBit p fld).rd .slotPwrState u = b.rd .slotPwrState u :=
  each_inv (P := fun c => c.rd .slotPwrState u = b.rd .slotPwrState u) (g := fun b f => b.slotNoted fld f)
    (fun c f _ hc => (((slotNoted_fr c fld f).reg .slotPwrState u 0 rfl).trans (wr_rd_fld c hf.symm ..)).trans hc) rfl

theorem seqDone_slotPwrState (b : Block) (p u : Nat) : (b.seqDone p).rd .slotPwrState u = b.rd .slotPwrState u :=
  slotBit_slotPwrState (by decide) ..
theorem seqDone_slotPowerFault (b : Block) (p f : Nat) : (b.seqDone p).rd .slotPowerFault f = b.rd .slotPowerFault f :=
  (seqDone_fr b p (Nat.and_self _) (Nat.and_self _) (.refl ..)).reg .slotPowerFault f 0 rfl

end bits

/-! ### Requests to the power controller (R330, R331) -/

section requests
variable {b : Block} {p v : Nat}

/-- The indicators as a write of FCP_SLOT_CTRL sets them. -/
def slotShown (b : Block) (p v : Nat) : Block :=
  let b1 := if bits v 4 2 == 3 then b else b.wr .slotAtnInd p 0 (bits v 4 2)
  if bits v 6 2 == 3 then b1 else b1.wr .slotPwrInd p 0 (bits v 6 2)

/-- The fields of the two indicators. -/
def indicatorFields : Nat := 0xc000000000000000000000000000000000000000000000000000000000000000000000000000

/-- The indicators change nothing else. -/
theorem slotShown_fr (b : Block) (p v : Nat) : Fr indicatorFields 0 b (b.slotShown p v) :=
  have h1 : Fr indicatorFields 0 b (if bits v 4 2 == 3 then b else b.wr .slotAtnInd p 0 (bits v 4 2)) :=
    .ite (.refl ..) (.wr rfl (.refl ..))
  .ite h1 (.wr rfl h1)

theorem slotShown_slotSt (b : Block) (p v : Nat) : (b.slotShown p v).slotSt p = b.slotSt p :=
  (slotShown_fr b p v).reg .slotPwrState p 0 rfl
theorem slotShown_pin (b : Block) (p v : Nat) : (b.slotShown p v).pin p = b.pin p := (slotShown_fr b p v).part .pins rfl p
theorem slotShown_sl (b : Block) (p v : Nat) : (b.slotShown p v).sl p = b.sl p := (slotShown_fr b p v).part .slots rfl p

/-- SLOT_RESET of a write, behind its PWR_REQ. -/
def slotThenReset (b : Block) (p v : Nat) : Block := if bit v 2 then b.slotResetReq p else b

theorem slotCtrl_on (hv : v % 4 = 1) : b.slotCtrl p v = ((b.slotShown p v).slotOnReq p).slotThenReset p v := by
  simp only [slotCtrl, hv]
  rfl
theorem slotCtrl_off (hv : v % 4 = 2) : b.slotCtrl p v = ((b.slotShown p v).slotOffReq p).slotThenReset p v := by
  simp only [slotCtrl, hv]
  rfl
theorem slotCtrl_none (h1 : v % 4 ≠ 1) (h2 : v % 4 ≠ 2) : b.slotCtrl p v = (b.slotShown p v).slotThenReset p v := by
  unfold slotCtrl
  extract_lets b1 b2 b3
  have h3 : b3 = b2 := by simp only [b3]
  rw [h3]
  rfl

/-- R331: SLOT_RESET acts in ON only. -/
theorem slotThenReset_not_on (h : b.slotSt p ≠ 2) : b.slotThenReset p v = b := by
  simp [slotThenReset, slotResetReq, h]

/-- R331: a power-on that begins waits for the assertion of TTH_PWREN. -/
theorem powerOn_card (hc : (b.pin p).prsnt = true) :
    (b.powerOn p).rd .slotPwrState p = 1 ∧ ((b.powerOn p).sl p).onWait = true := by
  rw [powerOn, if_pos hc, xMod_rd, slMod_rd, xMod_sl, slMod_sl_self]
  exact ⟨wr_rd_self .., rfl⟩

theorem slotOnReq_off (h : b.slotSt p = 0) : b.slotOnReq p = b.powerOn p := by
  simp only [slotOnReq, h]

theorem slotOffReq_on (h : b.slotSt p = 2) : b.slotOffReq p = ((b.tthReset p).wr .slotPwrState p 0 3).slMod p (fun s => { s with
    offWait := true, held := false, lost := false, inserted := false, relDone := false }) := by
  simp only [slotOffReq, h]

/-- R331: power-on of an OFF slot with a card. -/
theorem slotCtrl_starts (hv : v % 4 = 1) (h0 : b.rd .slotPwrState p = 0) (hc : (b.pin p).prsnt = true) :
    (b.slotCtrl p v).rd .slotPwrState p = 1 ∧ ((b.slotCtrl p v).sl p).onWait = true := by
  have hst : (b.slotShown p v).slotSt p = 0 := (slotShown_slotSt b p v).trans h0
  obtain ⟨hon, hwait⟩ := powerOn_card (b := b.slotShown p v) (p := p) (by rwa [slotShown_pin])
  rw [slotCtrl_on hv, slotOnReq_off hst, slotThenReset_not_on (by rw [slotSt, hon]; decide)]
  exact ⟨hon, hwait⟩

/-- R272: a tether reset drives TTH_PRST_N low, and its 100 µs begin. -/
theorem tthReset_begins (b : Block) (p : Nat) :
    ((b.tthReset p).pin p).prstLow = true ∧ ((b.tthReset p).sl p).rstT0 = some b.time := by
  unfold tthReset
  extract_lets fs b1 b2 b3 mine b4 b5 b6
  have h : Fr _ _ b6 (b6.tthDetect p) := tthDetect_fr b6 p false (Nat.and_self _) (Nat.and_self _) (.refl ..)
  rw [show _ = b6.pin p from h.part .pins rfl p, show _ = b6.sl p from h.part .slots rfl p]
  simp only [b6, b5, xMod_pin, xMod_sl, slMod_pin, slMod_sl_self, pinMod_pin_self, and_self]

/-- R331: power-off of an ON slot, with a tether reset. -/
theorem slotCtrl_stops (hv : v % 4 = 2) (h2 : b.rd .slotPwrState p = 2) :
    (b.slotCtrl p v).rd .slotPwrState p = 3 ∧ ((b.slotCtrl p v).sl p).offWait = true ∧ ((b.slotCtrl p v).pin p).prstLow = true := by
  have hst : (b.slotShown p v).slotSt p = 2 := (slotShown_slotSt b p v).trans h2
  have hoff : ((b.slotShown p v).slotOffReq p).rd .slotPwrState p = 3 := by
    rw [slotOffReq_on hst, slMod_rd]
    exact wr_rd_self ..
  rw [slotCtrl_off hv, slotThenReset_not_on (by rw [slotSt, hoff]; decide)]
  refine ⟨hoff, ?_⟩
  rw [slotOffReq_on hst, slMod_sl_self, slMod_pin, wr_pin]
  exact ⟨rfl, (tthReset_begins ..).1⟩

/-- R331: SLOT_RESET of an ON slot that is not held. -/
theorem slotCtrl_resets (h1 : v % 4 ≠ 1) (h2 : v % 4 ≠ 2) (hb : bit v 2 = true) (hst : b.rd .slotPwrState p = 2)
    (hh : (b.sl p).held = false) :
    ((b.slotCtrl p v).pin p).prstLow = true ∧ ((b.slotCtrl p v).sl p).rstT0 = some b.time := by
  have hon : (b.slotShown p v).slotSt p = 2 := (slotShown_slotSt b p v).trans hst
  have htime : (b.slotShown p v).time = b.time := (slotShown_fr b p v).part .time rfl
  rw [slotCtrl_none h1 h2, slotThenReset, if_pos hb, slotResetReq, hon, slotShown_sl, hh, if_pos (by rfl), ← htime]
  exact tthReset_begins ..

theorem slotWrite_owner {via : SlotVia} (h : b.slotVia via = some p) : b.slotWrite via v = b.slotCtrl p v := by
  simp only [slotWrite, h]

/-- A write that sets SLOT_RESET leaves PWR_REQ. -/
theorem or_four_pwrReq_reset (v : Nat) : (v ||| 4) % 4 = v % 4 ∧ bit (v ||| 4) 2 = true := by
  refine ⟨?_, ?_⟩
  · exact (Nat.or_mod_two_pow (n := 2)).trans (Nat.or_zero _)
  · rw [bit_eq_testBit, Nat.testBit_or]
    exact Bool.or_true _

end requests

/-! ### TTH_PWREN, power good and the delays (Table 13.9) -/

section times
variable {b : Block} {p : Nat}

/-- R314, R331: the assertion of TTH_PWREN is a load step. -/
theorem slotEnable_raises (h1 : b.rd .slotPwrState p = 1) (hw : (b.sl p).onWait = true) (hd : b.flag .pstDroop 0 = false)
    (hr : b.pow.ramp = false) :
    ((b.slotEnable p).pin p).pwren = true ∧ ((b.slotEnable p).sl p).onWait = false ∧ (b.slotEnable p).pow.ramp = true := by
  rw [slotEnable, if_pos (by simp [slotSt, h1, hw]), if_neg (by simp [hd, hr])]
  refine ⟨?_, ?_, rfl⟩
  · exact congrArg PortPins.pwren (pinMod_pin_self b p (fun g => { g with pwren := true }))
  · exact congrArg SlotDyn.onWait (slMod_sl_self (b.pinMod p (fun g => { g with pwren := true })) p (fun s => { s with onWait := false }))

/-- R315: a droop window, or an increase under way, holds it back. -/
theorem slotEnable_held (h1 : b.rd .slotPwrState p = 1) (hw : (b.sl p).onWait = true)
    (h : b.flag .pstDroop 0 = true ∨ b.pow.ramp = true) : b.slotEnable p = b.holdBack (.slotOn p) := by
  rw [slotEnable, if_pos (by simp [slotSt, h1, hw]), if_pos (by simpa using h)]

theorem goodUp_on (h1 : b.rd .slotPwrState p = 1) (he : (b.pin p).pwren = true) :
    (b.goodUp p).rd .slotPwrState p = 2 ∧ ((b.goodUp p).pin p).pwrgd = true ∧ ((b.goodUp p).sl p).relDone = true := by
  unfold goodUp
  extract_lets b1
  rw [if_pos (by simp [b1, slotSt, h1, he]), slMod_rd, slMod_pin, slMod_sl_self, wr_pin]
  refine ⟨wr_rd_self .., ?_, rfl⟩
  simp only [b1, pinMod_pin_self]

/-- PWRGD_MS without power good: OFF, with POWER_FAULT. -/
theorem goodLate_faults (h1 : b.rd .slotPwrState p = 1) (he : (b.pin p).pwren = true) :
    (b.goodLate p).rd .slotPwrState p = 0 ∧ ((b.goodLate p).pin p).pwren = false ∧
      ∀ f ∈ b.boundFns p, (b.goodLate p).rd .slotPowerFault f = 1 := by
  rw [goodLate, if_pos (by simp [slotSt, h1, he])]
  generalize hc : (b.pwrenOff p).wr .slotPwrState p 0 0 = c
  refine ⟨?_, ?_, fun f hf => ?_⟩
  · rw [seqDone_slotPwrState, slotBit_slotPwrState (by decide), ← hc]
    exact wr_rd_self ..
  · rw [seqDone_pin, slotBit_pin, ← hc, wr_pin, pwrenOff, pinMod_pin_self]
  · rw [seqDone_slotPowerFault]
    exact slotBit_sets (by decide) (by rw [← hc]; rfl) p f hf

/-- PRST_DELAY ends: TTH_PRST_N is released, and the request is done. -/
theorem prstDelay_releases (h2 : b.rd .slotPwrState p = 2) (hr : (b.sl p).relDone = true) (ht : (b.sl p).rstT0 = none) :
    ((b.prstDelay p).pin p).prstLow = false ∧ ((b.prstDelay p).sl p).relDone = false ∧
      ∀ f ∈ b.boundFns p, (b.prstDelay p).rd .slotSeqDone f = 1 := by
  rw [prstDelay, if_pos (by simp [slotSt, h2, hr])]
  extract_lets b1
  rw [if_neg (by simp [ht]), seqDone_pin, seqDone_sl, pinMod_pin_self, pinMod_sl, slMod_sl_self]
  refine ⟨rfl, rfl, slotBit_sets (by decide) ?_ p⟩
  rfl

theorem offDelay_ends (h3 : b.rd .slotPwrState p = 3) (hw : (b.sl p).offWait = true) :
    ((b.offDelay p).pin p).pwren = false ∧ ((b.offDelay p).sl p).offWait = false := by
  rw [offDelay, if_pos (by simp [slotSt, h3, hw]), slMod_pin, slMod_sl_self, pwrenOff, pinMod_pin_self]
  exact ⟨rfl, rfl⟩

/-- POWERING_OFF ends without a kept request: OFF, and the request is done. -/
theorem offDone_ends (h3 : b.rd .slotPwrState p = 3) (hw : (b.sl p).offWait = false) (hk : (b.sl p).kept = false) :
    (b.offDone p).rd .slotPwrState p = 0 ∧ ∀ f ∈ b.boundFns p, (b.offDone p).rd .slotSeqDone f = 1 := by
  rw [offDone, if_pos (by simp [slotSt, h3, hw])]
  extract_lets b1
  rw [if_neg (by simp [hk])]
  refine ⟨?_, slotBit_sets (by decide) (by rfl) p⟩
  rw [seqDone_slotPwrState, slMod_rd]
  exact wr_rd_self ..

end times

/-! ### Presence, the fall of power good and the button (R271, R273, R327) -/

section inputs
variable {b : Block} {p : Nat}

/-- The end of Stand leaves the sideband and the image. -/
theorem standWake_pin (b : Block) (p : Nat) : b.standWake.pin p = b.pin p :=
  (standWake_fr b (Nat.and_self _) (Nat.and_self _) (Fr.refl ..)).part .pins rfl p
theorem standWake_img (b : Block) : b.standWake.img = b.img :=
  (standWake_fr b (Nat.and_self _) (Nat.and_self _) (Fr.refl ..)).part .img rfl

/-- R331: a card that is held for, and AUTO_ON, follow the insertion; presence and PRESENCE_CHG stay. -/
theorem insertion_shows (b : Block) (p : Nat) : ((b.insertion p).pin p).prsnt = true ∧
    ∀ f ∈ b.boundFns p, (b.insertion p).rd .slotPresenceChg f = 1 := by
  unfold insertion
  extract_lets b1 b2 b3
  have h3 : Fr 0 0x2040 b1 b3 := holdCheck_fr b2 p rfl rfl (.ite (.slMod rfl (.refl ..)) (.refl ..))
  have hon := powerOn_fr b3 p (Nat.and_self _) (Nat.and_self _) (.refl ..)
  have hp : b1.pin p = { b.pin p with prsnt := true } := by
    simp only [b1, slotBit_pin, pinMod_pin_self, standWake_pin]
  have hset : ∀ f ∈ b.boundFns p, b3.rd .slotPresenceChg f = 1 := fun f hf => by
    refine (h3.reg .slotPresenceChg f 0 rfl).trans (slotBit_sets (by decide) ?_ p f hf)
    exact standWake_img b
  split
  · rw [show _ = b3.pin p from hon.part .pins rfl p, show b3.pin p = _ from (h3.part .pins rfl p).trans hp]
    exact ⟨rfl, fun f hf => (hon.reg .slotPresenceChg f 0 rfl).trans (hset f hf)⟩
  · rw [show b3.pin p = _ from (h3.part .pins rfl p).trans hp]
    exact ⟨rfl, hset⟩

/-- R273: surprise removal drives TTH_PRST_N low and leaves the rest of the sideband. -/
theorem removal_pin (b : Block) (p : Nat) : (b.removal p).pin p = { b.pin p with prstLow := true } := by
  unfold removal
  extract_lets was b1 b2 b3
  have h3 : Fr anyField 0x7406c57c6 b b3 := by
    have h1 : Fr anyField 0x7406c57c6 b b1 := fence_fr b p 3 rfl rfl (.refl ..)
    have h2 : Fr anyField 0x7406c57c6 b b2 := .ite (.each (fun c f hc => devEvent_fr c f 3 0 3 rfl rfl hc) h1) h1
    exact .ite h2 (tthLost_fr b2 p true rfl rfl h2)
  have h4 : Fr anyField 0x7406c57c6 (b3.pinMod p (fun g => { g with prstLow := true }))
      ((b3.pinMod p (fun g => { g with prstLow := true })).each (b3.boundFns p) (fun b f => b.tdiErr f)) :=
    .each (fun c f hc => tdiErr_fr c f rfl rfl hc) (.refl ..)
  rw [show _ = _ from h4.part .pins rfl p, pinMod_pin_self, show b3.pin p = b.pin p from h3.part .pins rfl p]

/-- Table 13.9: the slot's own part in it can only take TTH_PWREN away. -/
theorem slotGone_pin (b : Block) (p : Nat) (lost : Bool) : ∃ e, (b.slotGone p lost).pin p = { b.pin p with pwren := e } := by
  unfold slotGone
  split
  · extract_lets b1
    split
    · exact ⟨false, by rw [slMod_pin, wr_pin, pwrenOff, pinMod_pin_self, wr_pin]⟩
    · exact ⟨_, rfl⟩
  · exact ⟨_, rfl⟩

/-- R273: a card that is powered is removed by surprise; presence and PRESENCE_CHG stay. -/
theorem presenceLost_shows (b : Block) (p : Nat) : ((b.presenceLost p).pin p).prsnt = false ∧
    (∀ f ∈ b.boundFns p, (b.presenceLost p).rd .slotPresenceChg f = 1) ∧
    ((b.pin p).pwren = true → ((b.presenceLost p).pin p).prstLow = true) := by
  unfold presenceLost
  extract_lets b1
  have hpin : b1.pin p = { b.pin p with prsnt := false } := by
    simp only [b1, slotBit_pin, pinMod_pin_self, standWake_pin]
  have hset : ∀ f ∈ b.boundFns p, b1.rd .slotPresenceChg f = 1 := by
    refine slotBit_sets (by decide) ?_ p
    exact standWake_img b
  rw [hpin]
  split
  · obtain ⟨e, he⟩ := slotGone_pin (b1.removal p) p true
    have hk (f : Nat) : ((b1.removal p).slotGone p true).rd .slotPresenceChg f = b1.rd .slotPresenceChg f :=
      ((slotGone_fr _ p true (Nat.and_self _) (Nat.and_self _) (.refl ..)).reg .slotPresenceChg f 0 rfl).trans
        ((removal_fr b1 p (Nat.and_self _) (Nat.and_self _) (.refl ..)).reg .slotPresenceChg f 0 rfl)
    rw [he, removal_pin, hpin]
    exact ⟨rfl, fun f hf => (hk f).trans (hset f hf), fun _ => rfl⟩
  · next h =>
    rw [hpin]
    exact ⟨rfl, hset, fun hp => absurd hp h⟩

/-- R273, R330: power good falls while the slot is powered: surprise removal with POWER_FAULT. -/
theorem goodLost_shows (he : (b.pin p).pwren = true) : ((b.goodLost p).pin p).pwrgd = false ∧ ((b.goodLost p).pin p).prstLow = true ∧
    ∀ f ∈ b.boundFns p, (b.goodLost p).rd .slotPowerFault f = 1 := by
  unfold goodLost
  extract_lets b1
  have hpin : b1.pin p = { b.pin p with pwrgd := false } := pinMod_pin_self ..
  rw [if_pos (by rw [hpin]; exact he)]
  generalize hc : (if b.slotSt p == 2 then b1.standWake else b1) = c
  have hcpin : c.pin p = b1.pin p := by
    rw [← hc]
    split
    · exact standWake_pin ..
    · rfl
  have hcimg : c.img = b.img := by
    rw [← hc]
    split
    · exact standWake_img b1
    · rfl
  obtain ⟨e, hg⟩ := slotGone_pin (c.removal p) p false
  rw [slotBit_pin, hg, removal_pin, hcpin, hpin]
  have himg : ((c.removal p).slotGone p false).img = b.img :=
    Eq.trans ((slotGone_fr (fm := anyField) (fq := 0x7406c7fc6) _ p false rfl rfl (removal_fr c p rfl rfl (.refl ..))).part .img rfl) hcimg
  exact ⟨rfl, rfl, slotBit_sets (by decide) himg p⟩

theorem button_sets (b : Block) (p : Nat) : ∀ f ∈ b.boundFns p, (b.standWake.slotBit p .slotButton).rd .slotButton f = 1 :=
  slotBit_sets (by decide) (standWake_img b) p

end inputs

end Block

section commands
variable {s : State} {v : SlotVia} {p : Nat} {w : BitVec 32}

/-- A write of FCP_SLOT_CTRL through the owner of the slot. -/
theorem State.does_slotWrite {c : Instr} {n : Nat} {P : Block → Prop} (hv : s.blk.slotVia v = some p)
    (hc : exec c s = s.on (fun b => b.slotWrite v n)) (hP : P (s.blk.slotCtrl p n).canon) : s.does c P := by
  refine State.does_of_on _ hc ?_
  rwa [Block.slotWrite_owner hv]

theorem State.does_slotPowerOnRequest (hv : s.blk.slotVia v = some p) (h0 : s.blk.rd .slotPwrState p = 0)
    (hc : (s.blk.pin p).prsnt = true) :
    s.does (.slotPowerOnRequest v w) fun b => b.rd .slotPwrState p = 1 ∧ (b.sl p).onWait = true := by
  refine State.does_slotWrite hv rfl ?_
  rw [Block.canon_rd, Block.canon_sl]
  exact Block.slotCtrl_starts (by omega) h0 hc

theorem State.does_slotPowerOffRequest (hv : s.blk.slotVia v = some p) (h2 : s.blk.rd .slotPwrState p = 2) :
    s.does (.slotPowerOffRequest v w) fun b => b.rd .slotPwrState p = 3 ∧ (b.sl p).offWait = true ∧ (b.pin p).prstLow = true := by
  refine State.does_slotWrite hv rfl ?_
  rw [Block.canon_rd, Block.canon_sl, Block.canon_pin]
  exact Block.slotCtrl_stops (by omega) h2

theorem State.does_slotReset (hv : s.blk.slotVia v = some p) (h2 : s.blk.rd .slotPwrState p = 2) (hh : (s.blk.sl p).held = false)
    (hw1 : w.toNat % 4 ≠ 1) (hw2 : w.toNat % 4 ≠ 2) :
    s.does (.slotReset v w) fun b => (b.pin p).prstLow = true ∧ (b.sl p).rstT0 = some s.blk.time := by
  refine State.does_slotWrite hv rfl ?_
  obtain ⟨hmod, hbit⟩ := Block.or_four_pwrReq_reset w.toNat
  rw [Block.canon_pin, Block.canon_sl]
  exact Block.slotCtrl_resets (by rwa [hmod]) (by rwa [hmod]) hbit h2 hh

theorem State.does_slotPowerEnable {p : PortIx} (h1 : s.blk.rd .slotPwrState p.val = 1) (hw : (s.blk.sl p.val).onWait = true) :
    (s.blk.flag .pstDroop 0 = false → s.blk.pow.ramp = false →
      s.does (.slotPowerEnable p) fun b => (b.pin p.val).pwren = true ∧ (b.sl p.val).onWait = false ∧ b.pow.ramp = true) ∧
    ((s.blk.flag .pstDroop 0 = true ∨ s.blk.pow.ramp = true) → s.does (.slotPowerEnable p) fun b =>
      HeldAct.slotOn p.val ∈ b.pow.held ∧ (b.pin p.val).pwren = (s.blk.pin p.val).pwren) := by
  refine ⟨fun hd hr => State.does_of_on (·.slotEnable p.val) rfl ?_, fun h => State.does_of_on (·.slotEnable p.val) rfl ?_⟩
  · rw [Block.canon_pin, Block.canon_sl, Block.canon_pow]
    exact Block.slotEnable_raises h1 hw hd hr
  · have hpin : (s.blk.holdBack (.slotOn p.val)).pin p.val = s.blk.pin p.val :=
      (Block.holdBack_fr s.blk _ (Nat.and_self _) (Nat.and_self _) (Fr.refl ..)).part .pins rfl p.val
    rw [Block.slotEnable_held h1 hw h, Block.canon_pow, Block.canon_pin, hpin]
    exact ⟨Block.mem_holdBack_held .., rfl⟩

end commands

/-- Settles O22: the requests, the ends of the controller's times, and the slot inputs. -/
theorem slotControl : Obligations.SlotControl := by
  unfold Obligations.SlotControl
  refine ⟨⟨?on, ?off, ?reset, ?enable, fun s p h1 he => ?rise, fun s p h1 he => ?late, fun s p h2 hr ht => ?released,
    fun s p h3 hw => ?offDelay, fun s p h3 hw hk => ?offDone⟩, fun s p => ?inserted, fun s p => ?removed, fun s p he => ?fall,
    fun s p => ?button⟩
  case on => exact fun s v p w => State.does_slotPowerOnRequest
  case off => exact fun s v p w => State.does_slotPowerOffRequest
  case reset => exact fun s v p w => State.does_slotReset
  case enable => exact fun s p => State.does_slotPowerEnable
  case rise =>
    refine State.does_of_on (·.goodUp p.val) rfl ?_
    rw [Block.canon_rd, Block.canon_pin, Block.canon_sl]
    exact Block.goodUp_on h1 he
  case late =>
    refine State.does_of_on (·.goodLate p.val) rfl ?_
    simpa only [Block.canon_rd, Block.canon_pin] using Block.goodLate_faults h1 he
  case released =>
    refine State.does_of_on (·.prstDelay p.val) rfl ?_
    simpa only [Block.canon_rd, Block.canon_pin, Block.canon_sl] using Block.prstDelay_releases h2 hr ht
  case offDelay =>
    refine State.does_of_on (·.offDelay p.val) rfl ?_
    rw [Block.canon_pin, Block.canon_sl]
    exact Block.offDelay_ends h3 hw
  case offDone =>
    refine State.does_of_on (·.offDone p.val) rfl ?_
    simpa only [Block.canon_rd] using Block.offDone_ends h3 hw hk
  case inserted =>
    refine State.does_of_on (·.insertion p.val) rfl ?_
    simpa only [Block.canon_rd, Block.canon_pin] using Block.insertion_shows s.blk p.val
  case removed =>
    refine State.does_of_on (·.presenceLost p.val) rfl ?_
    simpa only [Block.canon_rd, Block.canon_pin] using Block.presenceLost_shows s.blk p.val
  case fall =>
    refine State.does_of_on (·.goodLost p.val) rfl ?_
    simpa only [Block.canon_rd, Block.canon_pin] using Block.goodLost_shows he
  case button =>
    refine State.does_of_on (·.standWake.slotBit p.val .slotButton) rfl ?_
    simpa only [Block.canon_rd] using Block.button_sets s.blk p.val

end Sys2Proof.Machine
end

section
/-! PROOFS. Stumbles and lame units (O12): a stumble that comes alone in its cycle, then what each operation of Machine/Faults.lean
that makes a unit lame leaves of it. -/
namespace Sys2Proof.Machine

/-! ### A stumble that comes alone (R285, R301) -/

theorem flatMap_range_ite {α : Type} (x : α) (i n : Nat) :
    (List.range n).flatMap (fun k => if i = k then [x] else []) = if i < n then [x] else [] := by
  induction n with
  | zero => rfl
  | succ n ih =>
    rw [List.range_succ, List.flatMap_append, ih, List.flatMap_singleton]
    rcases lt_trichotomy i n with h | rfl | h
    · simp [h, h.ne, h.trans n.lt_succ_self]
    · simp
    · simp [h.not_gt, h.ne', (Nat.succ_le_of_lt h).not_gt]

section alone
variable {u : UnitRef}

/-- R301: a stumble of any unit but a Stall lane keeps its one place in the order; a Shuttle's is met at its own number alone. -/
theorem inOrder_singleton (hu : ∀ i, u ≠ .stallLane i) (now : Bool) : inOrder [(u, now)] = [(u, now)] := by
  cases u with
  | stallLane i => exact absurd rfl (hu i)
  | shuttle i => simp [inOrder, List.filter_cons, flatMap_range_ite]
  | tetherLane i | loomSlice i | core i | phase i => simp [inOrder]

theorem Block.stumbles_singleton (hu : ∀ i, u ≠ .stallLane i) (b : Block) (now : Bool) : b.stumbles [(u, now)] = b.stumble u now := by
  have hnoLanes : b.stumbles [(u, now)] = b.each (inOrder [(u, now)]) (fun b x => b.stumble x.1 x.2) := by
    cases u with
    | stallLane i => exact absurd rfl (hu i)
    | _ => rfl
  rw [hnoLanes, inOrder_singleton hu]
  rfl

end alone

namespace Block

/-! ### A unit that becomes lame at once (R285) -/

section atOnce
variable {b : Block}

theorem stumble_loomSlice_atOnce {i : Fin 9} (h : i.val ∉ b.loom.lame) : b.stumble (.loomSlice i) true = b.sliceLame i.val := by
  simp [stumble, h]

theorem stumble_core_atOnce {i : Fin 3} (h : bit (b.rd .coreFailed 0) i.val = false) :
    b.stumble (.core i) true = (b.setBits .coreFailed 0 0 (2 ^ i.val)).incSat .stumLame 0 4 := by
  simp [stumble, h]

theorem stumble_phase_atOnce {i : Fin 22} (h : i.val ∉ b.pow.lamePhases) : b.stumble (.phase i) true = b.phaseLame i.val := by
  simp [stumble, h]

theorem stumble_shuttle_atOnce {i : ShutIx} (h : i.val ∉ b.lameSh) : b.stumble (.shuttle i) true = b.shuttleLame i.val := by
  simp [stumble, h]

end atOnce

/-! ### Below the limit (R285) -/

/-- A counted stumble leaves a count of at least one for its unit. -/
theorem stumCount_counted (b : Block) (u : UnitRef) :
    (b.stumCount u).1.stums.any (fun x => x.u == u && decide (1 ≤ x.count)) = true := by
  unfold stumCount
  extract_lets c old fresh new
  have hu : new.u = u := by
    have hold : old.u = u := by
      cases hf : b.stums.find? (fun s => s.u == u) with
      | none => simp only [old, hf, Option.getD_none]
      | some s => simpa only [old, hf, Option.getD_some, beq_iff_eq] using List.find?_some hf
    simp only [new]
    split
    · rfl
    · exact hold
  have hcount : 1 ≤ new.count := by
    simp only [new]
    split
    · exact le_rfl
    · exact Nat.le_add_left ..
  simp [hu, hcount]

theorem stumble_loomSlice_counted {b : Block} {i : Fin 9} (hi : i.val ∉ b.loom.lame) (hc : (b.stumCount (.loomSlice i)).2 = false) :
    b.stumble (.loomSlice i) false = (b.stumCount (.loomSlice i)).1 := by
  simp [stumble, hi, hc]

/-! ### A Loom slice (R298) -/

section slice
variable {b : Block} {i : Nat}

/-- The first lame slice stops the Loom and starts its substitution. -/
theorem sliceLame_first (h : b.loom.lame = []) :
    (b.sliceLame i).loom = { b.loom with lame := [i], stopped := true, sub := some (i, b.time) } ∧
      (b.sliceLame i).rd .stumLame 0 2 = min (b.rd .stumLame 0 2 + 1) (2 ^ (Fld.attr .stumLame).width - 1) := by
  have hnew : ¬ b.loom.lame.contains i = true := by simp [h]
  have hall : b.loom.lame.isEmpty = true := by simp [h]
  rw [sliceLame, if_neg hnew, if_pos hall]
  exact ⟨by simp [h], incSat_rd_self b .stumLame 0 2⟩

end slice

/-! ### A phase (R300, R321) -/

section phase
variable {b : Block} {i : Nat}

theorem capFor_le (n : Nat) : capFor n ≤ 4 := by
  unfold capFor
  split_ifs <;> omega

/-- With 17 phases or more left the module stays on, and the gait cap follows the phases. -/
theorem phaseLame_shed (hi : i ∉ b.pow.lamePhases) (hlo : 18 ≤ b.rd .pstPhases 0) (hhi : b.rd .pstPhases 0 ≤ 22) :
    (b.phaseLame i).rd .pstPhases 0 = b.rd .pstPhases 0 - 1 ∧ (b.phaseLame i).rd .gaitCap 0 = capFor (b.rd .pstPhases 0 - 1) ∧
      (b.phaseLame i).pow.st = b.pow.st := by
  unfold phaseLame
  rw [if_neg (by simpa using hi)]
  extract_lets n b1 pow b2
  rw [if_neg (by omega)]
  have hn : n < 2 ^ (Fld.attr .pstPhases).width := by
    change n < 2 ^ 5
    omega
  have hcap : capFor n < 2 ^ (Fld.attr .gaitCap).width := (capFor_le n).trans_lt (by decide)
  have hfr := gaitDown_fr b2 (Nat.and_self _) (Nat.and_self _) (.refl ..)
  have hst : b2.gaitDown.pow.st = b2.pow.st := congrArg PowerDyn.st (hfr.part .pow rfl)
  refine ⟨?_, ?_, hst⟩
  · calc b2.gaitDown.rd .pstPhases 0 = b1.rd .pstPhases 0 := hfr.reg _ 0 0 rfl
      _ = n := (wr_rd_fld _ (by decide) ..).trans ((wr_rd_self ..).trans (Nat.mod_eq_of_lt hn))
  · calc b2.gaitDown.rd .gaitCap 0 = b1.rd .gaitCap 0 := hfr.reg _ 0 0 rfl
      _ = capFor n := (wr_rd_self ..).trans (Nat.mod_eq_of_lt hcap)

end phase

/-! ### A Shuttle (R154) -/

section shuttle
variable {b : Block} {i : Nat}

/-- The queues that start to move leave the bucket table and the list of lame Shuttles as they are. -/
theorem shuttleLame_leaves (hi : i ∉ b.lameSh) : (b.shuttleLame i).lameSh = b.lameSh ++ [i] ∧
    (b.shuttleLame i).buckets = ({ b with lameSh := b.lameSh ++ [i] } : Block).rebucket i := by
  have hmoves : ∃ c, Fr 0 0x200000700 c (b.shuttleLame i) ∧ c.lameSh = b.lameSh ++ [i] ∧
      c.buckets = ({ b with lameSh := b.lameSh ++ [i] } : Block).rebucket i := by
    unfold shuttleLame
    rw [if_neg (by simpa using hi)]
    extract_lets spare old b0 b1 b2 qs was lost rec' left b3
    split
    · exact ⟨b2, .refl .., rfl, rfl⟩
    · exact ⟨b3, .each (fun b q h => qMoveStart_fr b q rfl rfl h) (.refl ..), rfl, rfl⟩
  obtain ⟨c, hfr, hsh, hbuckets⟩ := hmoves
  exact ⟨(hfr.part .lameSh rfl).trans hsh, (hfr.part .buckets rfl).trans hbuckets⟩

/-- A Shuttle that bucket entries name is no free spare, so the spares are the same once it is lame. -/
theorem spareFor_lame (hi : i ∈ b.buckets) : ({ b with lameSh := b.lameSh ++ [i] } : Block).spareFor i = b.spareFor i := by
  have hfree : ({ b with lameSh := b.lameSh ++ [i] } : Block).freeSpares = b.freeSpares := by
    refine List.filter_congr fun s _ => ?_
    by_cases hs : s = i
    · simp [hs, hi]
    · simp [hs]
  rw [spareFor, hfree, spareFor]

/-- The bucket entries of a lame Shuttle go to its spare. -/
theorem shuttleLame_buckets {sp : Nat} (hl : i ∉ b.lameSh) (hi : i ∈ b.buckets) (hsp : b.spareFor i = some sp) :
    (b.shuttleLame i).buckets = b.buckets.map (fun x => if x == i then sp else x) := by
  rw [(shuttleLame_leaves hl).2, rebucket, spareFor_lame hi, hsp]

end shuttle

/-! ### A Tether lane (R224, R260) -/

section lane
variable {b : Block} {i : Nat}

theorem tlaneLost_lame (h : b.flag .tlaneLame i = false) : (b.tlaneLost i).rd .tlaneLame i = 1 := by
  unfold tlaneLost
  rw [if_neg (by simp [h])]
  extract_lets p
  have hfr : KeepsFields [.tlaneLame] (b.wr .tlaneLame i 0 1)
      (((((b.wr .tlaneLame i 0 1).setBits .plRxRetired p 0 (2 ^ (i % 8))).incSat .pcntRetire p).incSat .stumLame 0 1).narrowAsk p) :=
    narrowAsk_fr _ p rfl rfl (.incSat rfl (.incSat rfl (.setBits rfl (.refl ..))))
  exact (hfr.rd (by decide) i 0).trans (wr_rd_self ..)

/-- The window of one Tether lane, whose class has a limit. -/
theorem fomLow_tether {i : TLaneIx} (h : b.rd .teqFomRetire (i.val / 128) ≠ 0) : b.fomLow [.tether i] = b.tlaneLost i.val := by
  have hone : b.fomLow [.tether i] = if b.rd .teqFomRetire (i.val / 128) == 0 then b else b.tlaneLost i.val := rfl
  rw [hone, if_neg (by simpa using h)]

end lane

end Block

/-! ### What the command does -/

section commands
variable {s : State} {u : UnitRef} {now self : Bool} {p : Block → Prop}

/-- STUMBLE of one unit, other than a Stall lane, in a module that is on. -/
theorem State.does_stumble (hon : s.blk.pow.st = .on) (hu : ∀ i, u ≠ .stallLane i) (hp : p (s.blk.stumble u (now || self)).canon) :
    s.does (.stumble u now self []) p := by
  refine State.does_of_on (fun b => if b.pow.st == .on then b.stumbles [(u, now || self)] else b) rfl ?_
  rwa [if_pos (by rw [hon]; rfl), Block.stumbles_singleton hu]

end commands

/-- Settles O12, one case for each kind of unit. -/
theorem lameUnits : Obligations.LameUnits := by
  unfold Obligations.LameUnits
  refine ⟨fun s i x hon hl => ?slice, fun s i x hon hf => ?core, fun s i x hon hi hlo hhi => ?phase, fun s i x hon hi => ?shuttle,
    fun s i hon hi hc => ?counted, fun s i hr hl => ?lane⟩
  case slice =>
    refine State.does_stumble hon nofun ?_
    have hfirst : i.val ∉ s.blk.loom.lame := by simp [hl]
    obtain ⟨hloom, hcount⟩ := Block.sliceLame_first (i := i.val) hl
    rw [Bool.true_or, Block.stumble_loomSlice_atOnce hfirst, Block.canon_loom, Block.canon_rd, hloom]
    exact ⟨rfl, rfl, rfl, hcount⟩
  case core =>
    refine State.does_stumble hon nofun ?_
    rw [Bool.true_or, Block.stumble_core_atOnce hf, Block.canon_rd]
    exact (Block.wr_rd_fld _ (by decide) ..).trans (Block.wr_rd_self ..)
  case phase =>
    refine State.does_stumble hon nofun ?_
    obtain ⟨hphases, hcap, hst⟩ := Block.phaseLame_shed hi hlo hhi
    rw [Bool.true_or, Block.stumble_phase_atOnce hi, Block.canon_rd, Block.canon_rd, Block.canon_pow]
    exact ⟨hphases, hcap, hst.trans hon⟩
  case shuttle =>
    refine State.does_stumble hon nofun ?_
    rw [Bool.true_or, Block.stumble_shuttle_atOnce hi, Block.canon_lameSh, Block.canon_buckets]
    exact ⟨(Block.shuttleLame_leaves hi).1, fun sp hb hsp => Block.shuttleLame_buckets hi hb hsp⟩
  case counted =>
    refine State.does_stumble hon nofun ?_
    rw [Bool.or_self, Block.stumble_loomSlice_counted hi hc, Block.canon_stums, Block.canon_loom]
    exact ⟨Block.stumCount_counted s.blk _, rfl⟩
  case lane =>
    refine State.does_of_on (·.fomLow [.tether i]) rfl ?_
    rw [Block.canon_rd, Block.fomLow_tether hr]
    exact Block.tlaneLost_lame hl

end Sys2Proof.Machine
end

section
/-! PROOFS. The Groom (O25): the stop of its pair and the takeover, its frames and telemetry, and the requests that join its queue. -/
namespace Sys2Proof.Machine

theorem bitMap_lt (n : Nat) (p : Nat → Bool) : bitMap n p < 2 ^ n := by
  induction n with
  | zero => exact Nat.one_pos
  | succ n ih =>
    have hstep : bitMap (n + 1) p = bitMap n p + if p n then 2 ^ n else 0 := by
      rw [bitMap, List.range_succ, List.foldl_append]
      rfl
    rw [hstep, pow_succ]
    split <;> omega

namespace Block

/-! ### The record of the Groom -/

section record
variable (b : Block) (g : GroomDyn → GroomDyn)

@[simp] theorem gMod_grm : (b.gMod g).grm = g b.grm := rfl
@[simp] theorem gMod_loom : (b.gMod g).loom = b.loom := rfl
@[simp] theorem gMod_fn (f : Nat) : (b.gMod g).fn f = b.fn f := rfl
@[simp] theorem gMod_rd (f : Fld) (i j : Nat) : (b.gMod g).rd f i j = b.rd f i j := rfl
@[simp] theorem gMod_flag (f : Fld) (i j : Nat) : (b.gMod g).flag f i j = b.flag f i j := rfl

end record

/-! ### The pair stops (R299, R355) -/

/-- R299: the services go down, the event is counted, and the queue is emptied. -/
theorem pairStop_stops {b : Block} (h : b.groomRuns = true) (ok0 ok1 wdt : Bool) :
    (b.pairStop ok0 ok1 wdt).grm.stopped = true ∧ (b.pairStop ok0 ok1 wdt).rd .coreServices 0 = 0 ∧
      (b.pairStop ok0 ok1 wdt).grm.queue = [] ∧ (b.pairStop ok0 ok1 wdt).rd .coreTakeovers 0 =
        min (b.rd .coreTakeovers 0 + 1) (2 ^ (Fld.attr .coreTakeovers).width - 1) := by
  unfold pairStop
  rw [if_neg (by simp [h])]
  extract_lets pair oks b1
  generalize hx : (if wdt || oks.length == 2 then b1.stumCount (.core 0) else (b1, false)) = x
  have hkeep : ∀ f i j, x.1.rd f i j = b1.rd f i j := by
    intro f i j
    rw [← hx]
    split <;> rfl
  refine ⟨rfl, ?_, rfl, ?_⟩
  · calc x.1.rd .coreServices 0 = b1.rd .coreServices 0 := hkeep ..
      _ = 0 := (wr_rd_fld _ (by decide) ..).trans (wr_rd_self ..)
  · calc x.1.rd .coreTakeovers 0 = b1.rd .coreTakeovers 0 := hkeep ..
      _ = min ((b.wr .coreServices 0 0 0).rd .coreTakeovers 0 + 1) (2 ^ (Fld.attr .coreTakeovers).width - 1) := incSat_rd_self ..
      _ = _ := by rw [wr_rd_fld _ (by decide)]

/-- R355: the watchdog's expiry is counted, and the stop leaves its count. -/
theorem pairStop_svcCntWdt (b : Block) (ok0 ok1 wdt : Bool) : (b.pairStop ok0 ok1 wdt).rd .svcCntWdt 0 = b.rd .svcCntWdt 0 :=
  (pairStop_fr b ok0 ok1 wdt (Nat.and_self _) (Nat.and_self _) (.refl ..)).reg .svcCntWdt 0 0 rfl

/-! ### The takeover (R299) -/

section takeover
variable {b : Block}

/-- The cores of the lockstep pair. -/
def inPair (b : Block) : List Nat := (List.range 3).filter (fun i => bit (b.rd .coreInPair 0) i)

/-- The block with the failed cores of the pair marked and the lame ones counted. -/
def coresMarked (b : Block) : Block :=
  let bad := b.inPair.filter (fun i => !b.grm.okCores.contains i)
  let b1 := b.each bad (fun b i => (b.setBits .coreFailed 0 0 (2 ^ i)).incSat .stumLame 0 4)
  if bad.isEmpty && b.grm.lamePair then b1.incSat .stumLame 0 4 else b1

theorem coresMarked_loom (b : Block) : b.coresMarked.loom = b.loom := by
  have hfr : Fr anyField 0 b b.coresMarked :=
    .ite (.incSat rfl (.each (fun _ _ h => .incSat rfl (.setBits rfl h)) (.refl ..)))
      (.each (fun _ _ h => .incSat rfl (.setBits rfl h)) (.refl ..))
  exact hfr.part .loom rfl

/-- Without two good cores the Groom is dead, and the good ones stay marked in the pair. -/
theorem takeover_dead (hs : b.grm.stopped = true) (hn : nextPair b.inPair b.grm.okCores b.grm.lamePair = none) :
    b.takeover = (b.coresMarked.wr .coreInPair 0 0 (bitMap 3 (fun i => b.grm.okCores.contains i))).gMod (fun g => { g with
      stopped := false, dead := true, okCores := [], lamePair := false, cut := [] }) := by
  unfold inPair at hn
  simp only [takeover, hs, hn]
  rfl

/-- The pair `np` has resumed with a fresh tree, and the requests of before are answered busy. -/
def resumed (b : Block) (np : List Nat) : Block :=
  (((b.coresMarked.wr .coreInPair 0 0 (bitMap 3 (fun i => np.contains i))).wr .coreServices 0 0 1).gMod (fun g => { g with
    stopped := false, okCores := [], lamePair := false, cut := [] })).takeTree.each b.grm.cut (fun b tr => b.busy tr)

theorem takeTree_stopped (b : Block) : b.takeTree.grm.stopped = b.grm.stopped := by
  unfold takeTree
  split <;> rfl

theorem resumed_runs (b : Block) (np : List Nat) : (b.resumed np).grm.stopped = false ∧ (b.resumed np).rd .coreServices 0 = 1 ∧
    (b.resumed np).rd .coreInPair 0 = bitMap 3 (fun i => np.contains i) ∧ (b.resumed np).loom = b.loom := by
  unfold resumed
  generalize hc : (b.coresMarked.wr .coreInPair 0 0 _).wr .coreServices 0 0 1 = c
  generalize hd : c.gMod _ = d
  have htree := takeTree_fr d (Nat.and_self _) (Nat.and_self _) (.refl ..)
  have hbusy := Fr.each (l := b.grm.cut) (fun c tr h => busy_fr c tr (Nat.and_self _) (Nat.and_self _) h) (.refl _ _ d.takeTree)
  generalize d.takeTree.each b.grm.cut (fun b tr => b.busy tr) = e at hbusy
  refine ⟨?_, ?_, ?_, ?_⟩
  · calc e.grm.stopped = d.takeTree.grm.stopped := congrArg GroomDyn.stopped (hbusy.part .grm rfl)
      _ = d.grm.stopped := takeTree_stopped d
      _ = false := by rw [← hd]; rfl
  · rw [hbusy.reg .coreServices 0 0 rfl, htree.reg .coreServices 0 0 rfl, ← hd, gMod_rd, ← hc]
    exact wr_rd_self ..
  · rw [hbusy.reg .coreInPair 0 0 rfl, htree.reg .coreInPair 0 0 rfl, ← hd, gMod_rd, ← hc, wr_rd_fld _ (by decide), wr_rd_self]
    exact Nat.mod_eq_of_lt (bitMap_lt 3 _)
  · calc e.loom = d.takeTree.loom := hbusy.part .loom rfl
      _ = d.loom := htree.part .loom rfl
      _ = b.coresMarked.loom := by rw [← hd, gMod_loom, ← hc, wr_loom, wr_loom]
      _ = b.loom := coresMarked_loom b

/-- While the Loom passes, nothing escalates at the takeover, and the gait follows. -/
theorem takeover_resumes {np : List Nat} (hs : b.grm.stopped = true)
    (hn : nextPair b.inPair b.grm.okCores b.grm.lamePair = some np) (hl : b.loom.stopped = false) :
    b.takeover = (b.resumed np).gaitUp := by
  have hgo : ¬ ((b.resumed np).loom.stopped && decide (2 ≤ (b.resumed np).loom.lame.length)) = true := by
    simp [(resumed_runs b np).2.2.2, hl]
  unfold inPair at hn
  simp only [takeover, hs, hn]
  exact if_neg hgo

/-- R299: the pair resumes with the services up. -/
theorem takeover_runs {np : List Nat} (hs : b.grm.stopped = true)
    (hn : nextPair b.inPair b.grm.okCores b.grm.lamePair = some np) (hl : b.loom.stopped = false) :
    b.takeover.grm.stopped = false ∧ b.takeover.rd .coreServices 0 = 1 ∧
      b.takeover.rd .coreInPair 0 = bitMap 3 (fun i => np.contains i) := by
  obtain ⟨hstopped, hsvc, hpair, -⟩ := resumed_runs b np
  have hgait := gaitUp_fr (b.resumed np) (Nat.and_self _) (Nat.and_self _) (.refl ..)
  have hgrm : (b.resumed np).gaitUp.grm = (b.resumed np).grm := hgait.part .grm rfl
  rw [takeover_resumes hs hn hl, hgrm, hgait.reg .coreServices 0 0 rfl, hgait.reg .coreInPair 0 0 rfl]
  exact ⟨hstopped, hsvc, hpair⟩

end takeover

/-! ### Frames (R357, R359) -/

section frames
variable {b : Block}

theorem share_le (fs : List (Nat × Nat × Nat)) (g : Nat × Nat × Nat → Nat) : share fs g ≤ 100 := min_le_left ..

@[simp] theorem shedUp_grm (b : Block) (n : Nat) : (b.shedUp n).grm = b.grm :=
  (shedUp_fr b n (Nat.and_self _) (Nat.and_self _) (.refl ..)).part .grm rfl

@[simp] theorem shedDown_grm (b : Block) (n : Nat) : (b.shedDown n).grm = b.grm :=
  (shedDown_fr b n (Nat.and_self _) (Nat.and_self _) (.refl ..)).part .grm rfl

/-- R359: at SHED_DEPTH requests load is shed. -/
theorem shedUp_deep (hs : b.flag .loadShed 0 = false) (hq : b.grm.queue ≠ []) (hd : b.rd .svcShedDepth 0 ≤ b.grm.queue.length)
    (n : Nat) : b.shedUp n = (b.wr .loadShed 0 0 1).incSat .svcCntSheds 0 := by
  have hpos : 0 < b.grm.queue.length := List.length_pos_of_ne_nil hq
  simp [shedUp, hs, hd, hpos]

/-- R359: shedding goes on while half of SHED_DEPTH requests wait. -/
theorem shedDown_deep (hd : b.rd .svcShedDepth 0 ≤ 2 * b.grm.queue.length) (n : Nat) : b.shedDown n = b := by
  simp [shedDown, hd.not_gt]

/-- The block with a frame among the last 100 and the shares of the classes over them. -/
def framed (b : Block) (pt fh be : Nat) : Block :=
  let fs := ((pt, fh, be) :: b.grm.frames).take 100
  (((b.gMod (fun g => { g with frames := fs })).wr .loadPtPct 0 0 (share fs (·.1))).wr .loadFhPct 0 0 (share fs (·.2.1))).wr
    .loadBePct 0 0 (share fs (·.2.2))

theorem frame_runs (h : b.groomRuns = true) (pt fh be oldest : Nat) :
    b.frame pt fh be oldest = ((b.framed pt fh be).shedUp oldest).shedDown oldest := by
  rw [frame, if_neg (by simp [h])]
  rfl

theorem framed_grm (b : Block) (pt fh be : Nat) :
    (b.framed pt fh be).grm = { b.grm with frames := ((pt, fh, be) :: b.grm.frames).take 100 } := rfl

/-- A frame writes no field but the shares. -/
theorem framed_rd {f : Fld} (h : f ≠ .loadPtPct ∧ f ≠ .loadFhPct ∧ f ≠ .loadBePct) (pt fh be i j : Nat) :
    (b.framed pt fh be).rd f i j = b.rd f i j := by
  obtain ⟨hpt, hfh, hbe⟩ := h
  rw [framed, wr_rd_fld _ hbe, wr_rd_fld _ hfh, wr_rd_fld _ hpt, gMod_rd]

theorem framed_loadPtPct (b : Block) (pt fh be : Nat) :
    (b.framed pt fh be).rd .loadPtPct 0 = share (((pt, fh, be) :: b.grm.frames).take 100) (·.1) := by
  have hfits : share (((pt, fh, be) :: b.grm.frames).take 100) (·.1) < 2 ^ (Fld.attr .loadPtPct).width :=
    (share_le ..).trans_lt (by decide)
  rw [framed, wr_rd_fld _ (by decide), wr_rd_fld _ (by decide), wr_rd_self, Nat.mod_eq_of_lt hfits]

/-- R357: the frame enters the share of the last 100. -/
theorem frame_share (h : b.groomRuns = true) (pt fh be oldest : Nat) :
    (b.frame pt fh be oldest).grm.frames = ((pt, fh, be) :: b.grm.frames).take 100 ∧
      (b.frame pt fh be oldest).rd .loadPtPct 0 = share (((pt, fh, be) :: b.grm.frames).take 100) (·.1) := by
  have hup := shedUp_fr (b.framed pt fh be) oldest (Nat.and_self _) (Nat.and_self _) (.refl ..)
  have hdown := shedDown_fr ((b.framed pt fh be).shedUp oldest) oldest (Nat.and_self _) (Nat.and_self _) (.refl ..)
  rw [frame_runs h, hdown.reg .loadPtPct 0 0 rfl, hup.reg .loadPtPct 0 0 rfl, framed_loadPtPct, shedDown_grm, shedUp_grm, framed_grm]
  exact ⟨rfl, rfl⟩

/-- R359: a frame sheds load once SHED_DEPTH requests wait. -/
theorem frame_sheds (h : b.groomRuns = true) (hs : b.flag .loadShed 0 = false) (hq : b.grm.queue ≠ [])
    (hd : b.rd .svcShedDepth 0 ≤ b.grm.queue.length) (pt fh be oldest : Nat) : (b.frame pt fh be oldest).rd .loadShed 0 = 1 := by
  have hdepth : (b.framed pt fh be).rd .svcShedDepth 0 = b.rd .svcShedDepth 0 := framed_rd (by decide) ..
  have hopen : (b.framed pt fh be).flag .loadShed 0 = false := by
    rw [flag, framed_rd (by decide)]
    exact hs
  have hup : (b.framed pt fh be).shedUp oldest = ((b.framed pt fh be).wr .loadShed 0 0 1).incSat .svcCntSheds 0 :=
    shedUp_deep hopen hq (hdepth.trans_le hd) oldest
  have hstill : (((b.framed pt fh be).wr .loadShed 0 0 1).incSat .svcCntSheds 0).rd .svcShedDepth 0 ≤ 2 * b.grm.queue.length := by
    rw [incSat, wr_rd_fld _ (by decide), wr_rd_fld _ (by decide), hdepth]
    omega
  rw [frame_runs h, hup, shedDown_deep hstill, incSat, wr_rd_fld _ (by decide)]
  exact wr_rd_self ..

end frames

/-! ### Telemetry (R359, R364) -/

/-- The values of the period are recorded; while load is shed the period doubles, up to 16 times. -/
theorem telemetry_records {b : Block} (h : b.groomRuns = true) (vin iin : Nat) (ts : List Nat) :
    (b.telemetry vin iin ts).rd .telVinMv 0 = vin % 2 ^ (Fld.attr .telVinMv).width ∧
      (b.telemetry vin iin ts).rd .telIin 0 = iin % 2 ^ (Fld.attr .telIin).width ∧
      (b.telemetry vin iin ts).rd .thmTjMax 0 = ts.foldl max 0 % 2 ^ (Fld.attr .thmTjMax).width ∧
      (b.telemetry vin iin ts).grm.sensed.length = 25 ∧
      (b.telemetry vin iin ts).grm.telemMul = if b.flag .loadShed 0 then min 16 (2 * b.grm.telemMul) else 1 := by
  unfold telemetry
  rw [if_neg (by simp [h])]
  extract_lets tj b1 c vals
  have hshed : b1.flag .loadShed 0 = b.flag .loadShed 0 := by
    simp only [flag, b1, wr_rd_fld, ne_eq, reduceCtorEq, not_false_eq_true]
  simp only [gMod_rd, gMod_grm, hshed]
  refine ⟨?_, ?_, wr_rd_self .., by simp [vals], rfl⟩
  · exact (wr_rd_fld _ (by decide) ..).trans ((wr_rd_fld _ (by decide) ..).trans (wr_rd_self ..))
  · exact (wr_rd_fld _ (by decide) ..).trans (wr_rd_self ..)

/-! ### Requests that reach the Groom (R356, R358, R369) -/

section requests
variable {b : Block} {tr : Transport}

theorem standWake_on (h : b.pow.st = .on) : b.standWake = b := by
  simp [standWake, h]

/-- A request that reaches the services and that its transport accepts is handled. -/
theorem arrive_reached (h : b.reaches tr = true) (g : Block → Block) : b.arrive tr true g = g b := by
  simp only [reaches, Bool.and_eq_true, beq_iff_eq] at h
  obtain ⟨⟨⟨⟨hon, hcarries⟩, hup⟩, hvdm⟩, -⟩ := h
  unfold arrive
  rw [if_neg (by simp [hcarries])]
  extract_lets b1 vdm
  have hawake : b1 = b := by
    simp only [b1]
    split
    · exact standWake_on hon
    · rfl
  have hopen : (vdm && !b.flag .svcVdmEn 0) = false := by
    cases tr with
    | vdm l => simp [show b.flag .svcVdmEn 0 = true from hvdm]
    | smbus | halter | doe f => rfl
  rw [hawake, if_neg (by simp [hup]), if_neg (by simp [hopen])]

theorem not_shed_of_reaches (h : b.reaches tr = true) : b.flag .loadShed 0 = false := by
  simp only [reaches, Bool.and_eq_true, Bool.not_eq_true'] at h
  exact h.2

/-- R358, R369: an MCTP message of a type that its transport accepts joins the queue. -/
theorem mctpIn_queue {ty : Nat} (h : b.reaches tr = true) (hty : typeOk tr ty = true) :
    (b.mctpIn tr ty).grm.queue = b.grm.queue ++ [tr] := by
  rw [mctpIn, hty, arrive_reached h, if_neg (by simp [not_shed_of_reaches h]), shedUp_grm]
  rfl

/-- R358: a complete DOE object of SPDM, or of SPDM in a session, joins the queue and leaves the mailbox empty. -/
theorem doeIn_queue {f : FnIx} {n : Nat} (h : b.reaches (.doe f) = true) (hn : n = 1 ∨ n = 2) :
    (b.doeIn f n).grm.queue = b.grm.queue ++ [.doe f] ∧ ((b.doeIn f n).fn f.val).doe = [] := by
  have hjoin : b.doeIn f n = ((b.fnMod f.val (fun d => { d with doe := [] })).gMod (fun d => { d with
      queue := d.queue ++ [.doe f] })).shedUp 0 := by
    rw [doeIn, arrive_reached h, if_neg (by simp [not_shed_of_reaches h])]
    extract_lets ix b1
    rw [if_neg (by simp; omega), if_pos (by omega)]
  have hfn : ∀ c : Block, (c.shedUp 0).fn f.val = c.fn f.val := fun c =>
    (shedUp_fr c 0 (Nat.and_self _) (Nat.and_self _) (.refl ..)).part .fns rfl f.val
  rw [hjoin, shedUp_grm, hfn, gMod_fn, fnMod_fn_self]
  exact ⟨rfl, rfl⟩

end requests

end Block

/-- Settles O25: the stops and takeovers of the pair, then the load on the Groom. -/
theorem groomPairAndLoad : Obligations.GroomPairAndLoad := by
  unfold Obligations.GroomPairAndLoad
  refine ⟨⟨fun s c0 c1 h => ?mismatch, fun s c0 c1 h => ?watchdog, fun s pair hs hpair => ⟨fun hn => ?dead, fun np hn hl => ?pairs⟩⟩,
    fun s pt fh be oldest h => ?frame, fun s vin iin ts h => ?telemetry, fun s tr ty h hty => ?mctp, fun s f n h hn => ?doe⟩
  case mismatch =>
    refine State.does_of_on (·.pairStop c0 c1 false) rfl ?_
    simpa only [Block.canon_grm, Block.canon_rd] using Block.pairStop_stops h c0 c1 false
  case watchdog =>
    refine State.does_of_on (fun b => if b.groomRuns then (b.incSat .svcCntWdt 0).pairStop c0 c1 true else b) rfl ?_
    have hruns : (s.blk.incSat .svcCntWdt 0).groomRuns = true := h
    obtain ⟨hstopped, hsvc, -, -⟩ := Block.pairStop_stops hruns c0 c1 true
    rw [if_pos h, Block.canon_grm, Block.canon_rd, Block.canon_rd, Block.pairStop_svcCntWdt]
    exact ⟨hstopped, hsvc, Block.incSat_rd_self ..⟩
  case dead =>
    subst hpair
    refine State.does_of_on (·.takeover) rfl ?_
    rw [Block.canon_grm, Block.canon_rd, Block.takeover_dead hs hn, Block.gMod_rd, Block.wr_rd_self]
    exact ⟨rfl, rfl, Nat.mod_eq_of_lt (bitMap_lt 3 _)⟩
  case pairs =>
    subst hpair
    refine State.does_of_on (·.takeover) rfl ?_
    simpa only [Block.canon_grm, Block.canon_rd] using Block.takeover_runs hs hn hl
  case frame =>
    refine State.does_of_on (·.frame pt fh be oldest) rfl ?_
    rw [Block.canon_grm, Block.canon_rd, Block.canon_rd]
    obtain ⟨hframes, hshare⟩ := Block.frame_share h pt fh be oldest
    exact ⟨hframes, hshare, fun hs hq hd _ => Block.frame_sheds h hs hq hd pt fh be oldest⟩
  case telemetry =>
    refine State.does_of_on (·.telemetry vin iin ts) rfl ?_
    simpa only [Block.canon_grm, Block.canon_rd] using Block.telemetry_records h vin iin ts
  case mctp =>
    refine State.does_of_on (·.mctpIn tr ty) rfl ?_
    rw [Block.canon_grm, Block.mctpIn_queue h hty]
  case doe =>
    refine State.does_of_on (·.doeIn f n) rfl ?_
    rw [Block.canon_grm, Block.canon_fn]
    exact Block.doeIn_queue h hn

end Sys2Proof.Machine
end

section
/-! PROOFS. What every command and every step does: each answers a next state in canonical form, within its footprint (O1 to O5). The
recursor of the commands assembles the per-command laws of Laws/PerInstr.lean, in the order of the constructors. -/

namespace Sys2Proof.Laws.Total

/-- Every command is an effect on the block alone. -/
theorem statement (c : Instr) : Statement c :=
  Instr.rec (motive := Statement)
    vinPowerUp vstbyPowerUp vinUvloFall vinOvloRise vinReturn vstbyLoss brownoutEntry brownoutExit droopWindowOpen
    droopWindowClose droopMaxExpiry droopEarlyRelease gaitTargetWrite gaitUpshiftStep gaitOccupancyWindow thermalThrottleStep
    thermalRaise thermalTrip thermalTripEnd thermalShutdown thermalRestart standEntry pmeTurnOff slotPowerOnRequest
    slotPowerOffRequest slotReset slotPowerEnable tthPwrgdRise pwrgdMsExpiry prstDelayExpiry slotPowerOffDelayExpiry
    poweringOffDone tthPrsntInsertion tthPrsntRemoval tthPwrgdFall tthAtnbtnPress tthPrstNLow tetherResetRelease portReset retrain
    stlPerstNAssert stlPerstNDeassert stlRefclkLoss tthRefclkLoss coreRefclkLoss bootRomStart linkDlUp linkLoss hotReset
    linkDisable stumble fomRetireWindowExpiry l0pPartnerRequest l0pAcceptance l0pOccupancyInterval aspmIdleExpiry clkreqAssert
    marginingCommand ideCheckFail pairedDetectExpiry failoverSwitch configRead configWrite busMasterEnableWrite bmeClearEffect
    bmeSetEffect initiateFunctionLevelReset flrDrainEnd flrBoundExpiry vfEnableClear vfEnableSet numvfsWrite barWrite
    atsEnableClear pasidEnableClear stuWrite ltrMechanismEnableSet d3hotEntry d0Return deliveryFormChange interruptDisableWrite
    hostWindowRead hostWindowWrite hostWindowAtomic hostRomRead fcpRead registerWrite fcpErrConsWrite prefetchAgeExpiry
    prefetchHoldExpiry forget pgoWrite reinsOutWrite reinsSend interruptFenceRelease hostAck hostCompletion completionTimeout
    hostTagQuarantineExpiry translationCompletion invalidateRequest invalidateCompletion localMasterRd localMasterWr
    localMasterWrf localMasterAtm localMasterFlush localMasterNop flushAnswer rspDone rspDonePoison rspFault rspNotarget rspSidefx
    rspRetry rspSize rspSidefxDone xlbRequestTimeout retryGapExpiry xlbTagQuarantineExpiry lines reins event vendor caps credit
    pad release capsAbandon tetherReceiverDetect trainingBlock adaptPresetDwellExpiry tetherStateLimitExpiry symbolLock deskewDone
    capsResend trainBackoffExpiry flit nakHoldoffExpiry replay skipFlit skipFlitSend alignmentMarker alignmentMarkerSend narrowReq
    narrow narrowSwitch doze dozeIdleExpiry nudgeBurst nudgeCheckExpiry tetherKeepaliveExpiry loomTransfer loomSliceResume
    loomNarrow loomWiden unitPowerGate doorbell producerIndex descriptorFetchData fragmentTableData chunkReadIssue chunkReadData
    chunkWriteDone coalTimerExpiry headWritebackAccepted qcmdEnable qcmdDisable qcmdPause qcmdResume qcmdReset queueResetDone
    queuePaused queueDrainEnd shtQheadWrite queueContextWrite fetchTimeout shuttleMoveDone shuttlePark evtCtrlWrite evtConsWrite
    weaveLoad weaveClear weaveCmdDone spurSelect spurIssueCommit spurMaskSet spurMaskClr spurPendSet spurPendClr spurEoi
    spurResample spurSrcCfgWrite intxSpacingExpiry reinsPeriodExpiry lockstepMismatch groomWatchdogExpiry groomTakeoverDone
    groomFrame telemetryPeriodExpiry stallGroupsSectionArrival imageCopyCheck imageReady imageNotReadyTimeout svnCommit
    imageActivation pldmTransfer pldmUpdateIdleExpiry deferredModuleReset lmsTreeReady getVersion getCertificate challenge
    getMeasurements keyExchange endSession countersign getHssChain getHssState query keyProg kSetGo kSetStop lockInterfaceRequest
    startInterfaceRequest stopInterfaceRequest getDeviceInterfaceReport doeRequest setEndpointId registerAccessRead
    registerAccessWrite moduleReset pldmSensorRead halterFrameForward discover status mctp wake imageData imageReqTimeout bypass
    halterRejoin debugUnlock jtagBypass jtagIdcode jtagSamplePreload jtagExtest jtagClamp jtagHighz jtagExtestPulse
    jtagExtestTrain stlRefclkReturn linkRecovery linkReturnToL0 nudgeArrival partnerWake electricalIdleAfterMarker ackWaitExpiry
    vstbyRangeChange vectorControlMaskClear jtagTrstNAssert finish keyUpdate heartbeat getCapabilities negotiateAlgorithms
    getDigests chunkSend chunkGet c

end Sys2Proof.Laws.Total

namespace Sys2Proof.Laws.Frame

/-- Every command keeps to its footprint. -/
theorem statement (c : Instr) : Statement c :=
  Instr.rec (motive := Statement)
    vinPowerUp vstbyPowerUp vinUvloFall vinOvloRise vinReturn vstbyLoss brownoutEntry brownoutExit droopWindowOpen
    droopWindowClose droopMaxExpiry droopEarlyRelease gaitTargetWrite gaitUpshiftStep gaitOccupancyWindow thermalThrottleStep
    thermalRaise thermalTrip thermalTripEnd thermalShutdown thermalRestart standEntry pmeTurnOff slotPowerOnRequest
    slotPowerOffRequest slotReset slotPowerEnable tthPwrgdRise pwrgdMsExpiry prstDelayExpiry slotPowerOffDelayExpiry
    poweringOffDone tthPrsntInsertion tthPrsntRemoval tthPwrgdFall tthAtnbtnPress tthPrstNLow tetherResetRelease portReset retrain
    stlPerstNAssert stlPerstNDeassert stlRefclkLoss tthRefclkLoss coreRefclkLoss bootRomStart linkDlUp linkLoss hotReset
    linkDisable stumble fomRetireWindowExpiry l0pPartnerRequest l0pAcceptance l0pOccupancyInterval aspmIdleExpiry clkreqAssert
    marginingCommand ideCheckFail pairedDetectExpiry failoverSwitch configRead configWrite busMasterEnableWrite bmeClearEffect
    bmeSetEffect initiateFunctionLevelReset flrDrainEnd flrBoundExpiry vfEnableClear vfEnableSet numvfsWrite barWrite
    atsEnableClear pasidEnableClear stuWrite ltrMechanismEnableSet d3hotEntry d0Return deliveryFormChange interruptDisableWrite
    hostWindowRead hostWindowWrite hostWindowAtomic hostRomRead fcpRead registerWrite fcpErrConsWrite prefetchAgeExpiry
    prefetchHoldExpiry forget pgoWrite reinsOutWrite reinsSend interruptFenceRelease hostAck hostCompletion completionTimeout
    hostTagQuarantineExpiry translationCompletion invalidateRequest invalidateCompletion localMasterRd localMasterWr
    localMasterWrf localMasterAtm localMasterFlush localMasterNop flushAnswer rspDone rspDonePoison rspFault rspNotarget rspSidefx
    rspRetry rspSize rspSidefxDone xlbRequestTimeout retryGapExpiry xlbTagQuarantineExpiry lines reins event vendor caps credit
    pad release capsAbandon tetherReceiverDetect trainingBlock adaptPresetDwellExpiry tetherStateLimitExpiry symbolLock deskewDone
    capsResend trainBackoffExpiry flit nakHoldoffExpiry replay skipFlit skipFlitSend alignmentMarker alignmentMarkerSend narrowReq
    narrow narrowSwitch doze dozeIdleExpiry nudgeBurst nudgeCheckExpiry tetherKeepaliveExpiry loomTransfer loomSliceResume
    loomNarrow loomWiden unitPowerGate doorbell producerIndex descriptorFetchData fragmentTableData chunkReadIssue chunkReadData
    chunkWriteDone coalTimerExpiry headWritebackAccepted qcmdEnable qcmdDisable qcmdPause qcmdResume qcmdReset queueResetDone
    queuePaused queueDrainEnd shtQheadWrite queueContextWrite fetchTimeout shuttleMoveDone shuttlePark evtCtrlWrite evtConsWrite
    weaveLoad weaveClear weaveCmdDone spurSelect spurIssueCommit spurMaskSet spurMaskClr spurPendSet spurPendClr spurEoi
    spurResample spurSrcCfgWrite intxSpacingExpiry reinsPeriodExpiry lockstepMismatch groomWatchdogExpiry groomTakeoverDone
    groomFrame telemetryPeriodExpiry stallGroupsSectionArrival imageCopyCheck imageReady imageNotReadyTimeout svnCommit
    imageActivation pldmTransfer pldmUpdateIdleExpiry deferredModuleReset lmsTreeReady getVersion getCertificate challenge
    getMeasurements keyExchange endSession countersign getHssChain getHssState query keyProg kSetGo kSetStop lockInterfaceRequest
    startInterfaceRequest stopInterfaceRequest getDeviceInterfaceReport doeRequest setEndpointId registerAccessRead
    registerAccessWrite moduleReset pldmSensorRead halterFrameForward discover status mctp wake imageData imageReqTimeout bypass
    halterRejoin debugUnlock jtagBypass jtagIdcode jtagSamplePreload jtagExtest jtagClamp jtagHighz jtagExtestPulse
    jtagExtestTrain stlRefclkReturn linkRecovery linkReturnToL0 nudgeArrival partnerWake electricalIdleAfterMarker ackWaitExpiry
    vstbyRangeChange vectorControlMaskClear jtagTrstNAssert finish keyUpdate heartbeat getCapabilities negotiateAlgorithms
    getDigests chunkSend chunkGet c

end Sys2Proof.Laws.Frame

namespace Sys2Proof.Machine

theorem Block.tidy_canon (b : Block) : b.canon.tidy = true := decide_eq_true b.canon_canon

/-- No reset value depends on the time, so a block in canonical form stays so as time passes. -/
theorem Block.tidy_tick {b : Block} (h : b.tidy = true) (n : Nat) : ({ b with time := n } : Block).tidy = true := by
  have hb : b.canon = b := of_decide_eq_true h
  have hv : resetVal { b with time := n } = resetVal b := rfl
  refine decide_eq_true ?_
  rw [Block.canon, hv]
  exact congrArg (fun c : Block => { c with time := n }) hb

/-- A command that answers t leaves the queue as it was and the block in canonical form. -/
theorem exec_next {c : Instr} {s t : State} (h : exec c s = .next t) : t.pending = s.pending ∧ t.blk.tidy = true := by
  obtain ⟨g, hg⟩ := Laws.Total.statement c s
  obtain rfl : { s with blk := (g s.blk).canon } = t := Host.Outcome.next.inj (hg.symm.trans h)
  exact ⟨rfl, (g s.blk).tidy_canon⟩

/-- Settles O1: both parts are what the definition of a step says. -/
theorem frontFirst : Obligations.FrontFirst := by
  unfold Obligations.FrontFirst
  refine ⟨fun s c rest => rfl, fun s h => ⟨{ s with blk := { s.blk with time := s.blk.time + 1 } }, ?_, h, rfl⟩⟩
  rw [step, h]

/-- Settles O2: every command is an effect on the block alone. -/
theorem commandsAnswer : Obligations.CommandsAnswer := by
  unfold Obligations.CommandsAnswer
  intro c s
  obtain ⟨g, hg⟩ := Laws.Total.statement c s
  exact ⟨_, hg, exec_next hg⟩

/-- Settles O3, by the frame of each command. -/
theorem commandFootprints : Obligations.CommandFootprints := by
  unfold Obligations.CommandFootprints
  exact Laws.Frame.statement

/-- Settles O4: a command leaves the rest of the queue and a canonical block; an idle step moves the time alone. -/
theorem invariantKept : Obligations.InvariantKept := by
  unfold Obligations.InvariantKept
  intro s t ⟨htidy, hq⟩ hstep
  rw [step] at hstep
  split at hstep
  case h_1 hnil =>
    obtain rfl := Host.Outcome.next.inj hstep
    exact ⟨Block.tidy_tick htidy _, hq⟩
  case h_2 c rest hcons =>
    obtain ⟨hpend, ht⟩ := exec_next hstep
    rw [State.queueOk, hcons, List.all_cons, Bool.and_eq_true] at hq
    exact ⟨ht, by rw [State.queueOk, hpend]; exact hq.2⟩

/-- Settles O5: no table of the reset state has an entry, and no command waits. -/
theorem resetInvariant : Obligations.ResetInvariant := by
  unfold Obligations.ResetInvariant
  exact ⟨decide_eq_true rfl, rfl⟩

end Sys2Proof.Machine
end

section
/-! PROOFS. Power on and off (O7) and module reset (O8): what module reset and cold reset leave, then the power events. -/
namespace Sys2Proof.Machine
namespace Block

/-! ### Frames that name the fields that change -/

/-- Block b reads as a does in every field but those of the list, and is a in every part outside the mask q. -/
abbrev Changes (fs : List Fld) (q : Nat) (a b : Block) : Prop := Fr (Laws.Frame.fieldMask fs) q a b

theorem Changes.rd {fs : List Fld} {q : Nat} {a b : Block} (h : Changes fs q a b) {f : Fld} (hf : f ∉ fs) (i j : Nat) :
    b.rd f i j = a.rd f i j := h.reg f i j (Laws.Frame.fieldMask_not hf)

theorem Changes.flag {fs : List Fld} {q : Nat} {a b : Block} (h : Changes fs q a b) {f : Fld} (hf : f ∉ fs) (i j : Nat) :
    b.flag f i j = a.flag f i j := by
  rw [Block.flag, h.rd hf, Block.flag]

/-! ### Stored values that a reset drops (R11, R12) -/

/-- A field with a stated reset value reads as before where its stored value is kept, and that value where it is dropped. -/
theorem rd_of_regs_filter {a c : Block} {p : RKey → Bool} (hr : c.regs = a.regs.filter (fun e => p e.1)) {f : Fld} {n : Nat}
    (hn : (Fld.attr f).rst = .val n) (i j : Nat) : c.rd f i j = if p (key f i j) then a.rd f i j else n := by
  have hr' : c.regs = a.regs.filter (fun e => !(!p e.1)) := by simp [hr]
  rw [rd, hr', resetVal_of_val hn]
  by_cases hp : p (key f i j) = true
  · rw [lookupKey_filter_kept (p := fun k => !p k) (by simp [hp]), if_pos hp, rd, resetVal_of_val hn]
  · rw [lookupKey_filter_dropped (p := fun k => !p k) (by simp [hp]), if_neg hp]

/-! ### Module reset (R11) -/

section moduleReset
variable {b : Block}

/-- A stall group out of reset asks for its reference clock. -/
def askClock (b : Block) (g : Nat) : Block :=
  if b.flag .gstPerst g then b else (b.wr .gstClkreq g 0 1).grMod g (fun d => { d with waits := true, ourReq := true })

theorem askClock_changes (b : Block) (g : Nat) : Changes [.gstClkreq] 0x1000 b (b.askClock g) :=
  .ite (.refl ..) (.grMod rfl (.wr rfl (.refl ..)))

/-- Module reset abandons everything in progress, keeps the stored values of cold-reset fields and pins, and asks for the clocks. -/
theorem moduleReset_eq (b : Block) : ∃ c : Block, b.moduleReset = c.each (List.range 56) askClock ∧
    c.regs = b.regs.filter (fun e => (Fld.attr e.1.fld).lvl == .cold || pinField e.1.fld) ∧
    c.pow.st = .on ∧ c.time = 0 ∧ c.img = none := ⟨_, rfl, rfl, rfl, rfl, rfl⟩

theorem each_askClock_changes (b : Block) (l : List Nat) : Changes [.gstClkreq] 0x1000 b (b.each l askClock) :=
  .each (fun c g h => h.trans (askClock_changes c g)) (.refl ..)

theorem moduleReset_starts (b : Block) : b.moduleReset.pow.st = .on ∧ b.moduleReset.time = 0 ∧ b.moduleReset.img = none := by
  obtain ⟨c, hc, -, hst, ht, hi⟩ := moduleReset_eq b
  have hfr := each_askClock_changes c (List.range 56)
  rw [hc, hfr.part .pow rfl, hfr.part .time rfl, hfr.part .img rfl]
  exact ⟨hst, ht, hi⟩

theorem moduleReset_straps (b : Block) : b.moduleReset.straps = b.straps := (moduleReset_fr b rfl rfl (.refl anyField 0x2affdfff1 b)).part .straps rfl
theorem moduleReset_fuses (b : Block) : b.moduleReset.fuses = b.fuses := (moduleReset_fr b rfl rfl (.refl anyField 0x2affdfff1 b)).part .fuses rfl
theorem moduleReset_out (b : Block) : b.moduleReset.out = b.out := (moduleReset_fr b rfl rfl (.refl anyField 0x2affdfff1 b)).part .out rfl

theorem moduleReset_rd {f : Fld} {n : Nat} (hn : (Fld.attr f).rst = .val n) (hf : f ≠ .gstClkreq) (i j : Nat) :
    b.moduleReset.rd f i j = if (Fld.attr f).lvl = .cold ∨ pinField f = true then b.rd f i j else n := by
  obtain ⟨c, hc, hregs, -⟩ := moduleReset_eq b
  rw [hc, (each_askClock_changes c _).rd (by simpa using hf),
    rd_of_regs_filter (p := fun k => (Fld.attr k.fld).lvl == .cold || pinField k.fld) hregs hn]
  simp [key]

/-- R11: a field that only cold reset restores keeps its value. -/
theorem moduleReset_rd_cold {f : Fld} {n : Nat} (hn : (Fld.attr f).rst = .val n) (hl : (Fld.attr f).lvl = .cold) (i j : Nat) :
    b.moduleReset.rd f i j = b.rd f i j := by
  have hf : f ≠ .gstClkreq := by
    rintro rfl
    cases hl
  rw [moduleReset_rd hn hf, if_pos (.inl hl)]

/-- R11: STL_CLKREQ_N is driven for each group out of reset. -/
theorem moduleReset_clkreq {g : Nat} (hg : g < 56) (hp : b.flag .gstPerst g = false) : b.moduleReset.flag .gstClkreq g = true := by
  obtain ⟨c, hc, hregs, -⟩ := moduleReset_eq b
  have hpin : c.flag .gstPerst g = false := by
    rw [flag, rd_of_regs_filter (p := fun k => (Fld.attr k.fld).lvl == .cold || pinField k.fld) hregs rfl]
    exact hp
  rw [hc]
  refine each_establishes (P := fun d => d.flag .gstClkreq g = true) (Q := fun d => d.flag .gstPerst g = false)
    (List.mem_range.2 hg) (fun d k hd => ?_) (fun d hd => ?_) (fun d k hd => ?_) hpin
  · rw [(askClock_changes d k).flag (by decide)]
    exact hd
  · rw [askClock, if_neg (by simp [hd]), grMod_flag, flag, wr_rd_self]
    rfl
  · unfold askClock
    split
    · exact hd
    · rw [grMod_flag, flag, wr_rd]
      split
      · rfl
      · exact hd

end moduleReset

/-! ### Cold reset (R11, R292) -/

theorem coldReset_rd {b : Block} {f : Fld} {n : Nat} (hn : (Fld.attr f).rst = .val n) (hf : pinField f = false) (i j : Nat) :
    b.coldReset.rd f i j = n :=
  (rd_of_regs_filter (p := fun k => pinField k.fld) rfl hn i j).trans (if_neg (by simp [key, hf]))

/-! ### Power comes up (R292, R333) -/

section power
variable {b : Block}

/-- The block of a cold start on VIN, before its module reset. -/
def coldStart (b : Block) (str : Straps) (ok : Bool) : Block :=
  ({ b.coldReset with straps := str }.wr .pstVinOk 0 0 1).wr .pstVstbyOk 0 0 (b2n ok)

/-- The block c with other records of its power and its JTAG port. -/
def setPower (c : Block) (p : PowerDyn) (t : TapDyn) : Block := { c with pow := p, tap := t }

section setPower
variable (c : Block) (p : PowerDyn) (t : TapDyn)

@[simp] theorem setPower_rd (f : Fld) (i j : Nat) : (c.setPower p t).rd f i j = c.rd f i j := rfl
@[simp] theorem setPower_flag (f : Fld) (i j : Nat) : (c.setPower p t).flag f i j = c.flag f i j := rfl
@[simp] theorem setPower_pow : (c.setPower p t).pow = p := rfl
@[simp] theorem setPower_straps : (c.setPower p t).straps = c.straps := rfl
@[simp] theorem setPower_time : (c.setPower p t).time = c.time := rfl
@[simp] theorem setPower_img : (c.setPower p t).img = c.img := rfl
@[simp] theorem setPower_fuses : (c.setPower p t).fuses = c.fuses := rfl

end setPower

theorem powerUp_off (h : b.pow.st = .off) (str : Straps) (ok : Bool) : ∃ (p : PowerDyn) (t : TapDyn), p.st = .on ∧
    b.powerUp str ok = (b.coldStart str ok).moduleReset.setPower p t := by
  unfold powerUp
  rw [if_neg (by simp [h])]
  extract_lets _ _ b2 c p
  have hp : p.st = .on := (moduleReset_starts b2).1
  have hc : (b.coldStart str ok).moduleReset = c := rfl
  rw [hc]
  clear_value c p
  exact ⟨{ p with epoch := 0, bar := false }, c.tap, hp, rfl⟩

theorem coldStart_rd {f : Fld} {n : Nat} (hn : (Fld.attr f).rst = .val n) (hp : pinField f = false) (hv : f ≠ .pstVinOk)
    (hs : f ≠ .pstVstbyOk) (str : Straps) (ok : Bool) (i j : Nat) : (b.coldStart str ok).rd f i j = n := by
  rw [coldStart, wr_rd_fld _ hs, wr_rd_fld _ hv]
  exact coldReset_rd hn hp i j

theorem coldStart_rails (str : Straps) (ok : Bool) : (b.coldStart str ok).rd .pstVinOk 0 = 1 ∧
    (b.coldStart str ok).rd .pstVstbyOk 0 = b2n ok := by
  refine ⟨(wr_rd_fld _ (by decide) ..).trans (wr_rd_self ..), (wr_rd_self ..).trans ?_⟩
  cases ok <;> rfl

/-- R292, R333: at VIN_POWER_UP every stated field but the pins and the rails reads its reset value. -/
theorem powerUp_shows (h : b.pow.st = .off) (str : Straps) (ok : Bool) :
    (b.powerUp str ok).straps = str ∧ (b.powerUp str ok).pow.st = .on ∧ (b.powerUp str ok).time = 0 ∧ (b.powerUp str ok).img = none ∧
      (b.powerUp str ok).fuses = b.fuses ∧ (b.powerUp str ok).rd .pstVinOk 0 = 1 ∧ (b.powerUp str ok).rd .pstVstbyOk 0 = b2n ok ∧
      ∀ f i j n, (Fld.attr f).rst = .val n → pinField f = false → f ≠ .pstVinOk → f ≠ .pstVstbyOk → (b.powerUp str ok).rd f i j = n := by
  obtain ⟨p, t, hp, heq⟩ := powerUp_off h str ok
  obtain ⟨-, ht, hi⟩ := moduleReset_starts (b.coldStart str ok)
  obtain ⟨hvin, hvstby⟩ := coldStart_rails (b := b) str ok
  simp only [heq, setPower_straps, setPower_pow, setPower_time, setPower_img, setPower_fuses, setPower_rd, moduleReset_straps,
    moduleReset_fuses]
  refine ⟨rfl, hp, ht, hi, rfl, ?_, ?_, fun f i j n hn hpin hv hs => ?_⟩
  · rw [moduleReset_rd_cold rfl rfl, hvin]
  · rw [moduleReset_rd_cold rfl rfl, hvstby]
  · have hf : f ≠ .gstClkreq := by
      rintro rfl
      cases hpin
    rw [moduleReset_rd hn hf]
    split
    · exact coldStart_rd hn hpin hv hs str ok i j
    · rfl

theorem standbyUp_off (h : b.pow.st = .off) (str : Straps) : ∃ (p : PowerDyn) (t : TapDyn), p.st = .hold ∧
    b.standbyUp str = ({ b.coldReset with straps := str }.wr .pstVstbyOk 0 0 1).setPower p t :=
  ⟨_, _, rfl, if_neg (by simp [h])⟩

theorem vinBack_running (h : b.pow.st = .hold) (h5 : b.stage = 5) : ∃ (p : PowerDyn) (t : TapDyn) (v : Nat), p.st = .on ∧
    b.vinBack = (((b.wr .pstVinOk 0 0 1).wr .gaitCurrent 0 0 1).wr .coreServices 0 0 v).setPower p t := by
  have hstage : (b.wr .pstVinOk 0 0 1).stage = 5 := h5
  simp only [vinBack, h, hstage, BEq.rfl, if_true]
  exact ⟨_, _, _, rfl, rfl⟩

theorem vinBack_stopped (h : b.pow.st = .hold) (h5 : b.stage ≠ 5) : b.vinBack = (b.wr .pstVinOk 0 0 1).moduleReset := by
  have hstage : (b.wr .pstVinOk 0 0 1).stage ≠ 5 := h5
  simp only [vinBack, h, beq_iff_eq, hstage, if_false]

/-- R311, R345: VIN back from hold goes on at Walk; without a running image it is a module reset. -/
theorem vinBack_hold (h : b.pow.st = .hold) : b.vinBack.pow.st = .on ∧ b.vinBack.rd .pstVinOk 0 = 1 ∧ b.vinBack.rd .gaitCurrent 0 = 1 ∧
    (b.stage ≠ 5 → b.vinBack.time = 0 ∧ b.vinBack.img = none) := by
  by_cases h5 : b.stage = 5
  · obtain ⟨p, t, v, hp, heq⟩ := vinBack_running h h5
    rw [heq, setPower_rd, setPower_rd, wr_rd_fld _ (by decide), wr_rd_fld _ (by decide), wr_rd_self, wr_rd_fld _ (by decide), wr_rd_self]
    exact ⟨hp, rfl, rfl, fun hn => absurd h5 hn⟩
  · obtain ⟨hst, ht, hi⟩ := moduleReset_starts (b.wr .pstVinOk 0 0 1)
    rw [vinBack_stopped h h5, moduleReset_rd_cold rfl rfl, wr_rd_self]
    exact ⟨hst, rfl, moduleReset_rd rfl (by decide) .., fun _ => ⟨ht, hi⟩⟩

/-! ### Power goes (R310, R311) -/

/-- The dies lose their power: LAST_OFF says why, and the services are down. -/
theorem powerDown_eq (b : Block) (st : PwrSt) (why : Nat) : ∃ (c : Block) (p : PowerDyn) (t : TapDyn), p.st = st ∧
    b.powerDown st why = ((c.wr .pstLastOff 0 0 why).wr .coreServices 0 0 0).setPower p t := ⟨_, _, _, rfl, rfl⟩

theorem powerDown_shows (b : Block) (st : PwrSt) (why : Nat) : (b.powerDown st why).pow.st = st ∧
    (b.powerDown st why).rd .pstLastOff 0 = why % 16 ∧ (b.powerDown st why).rd .coreServices 0 = 0 := by
  obtain ⟨c, p, t, hp, heq⟩ := powerDown_eq b st why
  rw [heq, setPower_rd, setPower_rd, wr_rd_self, wr_rd_fld _ (by decide), wr_rd_self]
  exact ⟨hp, rfl, rfl⟩

theorem vinGone_hold (hon : b.pow.st = .on ∨ b.pow.st = .stand) (hs : b.flag .pstVstbyOk 0 = true) (why : Nat) :
    b.vinGone why = (b.powerDown .hold why).wr .pstVinOk 0 0 0 := by
  unfold vinGone
  rcases hon with h | h <;> simp only [h, hs, if_true]

theorem vinGone_cold (hon : b.pow.st = .on ∨ b.pow.st = .stand) (hs : b.flag .pstVstbyOk 0 = false) (why : Nat) :
    b.vinGone why = b.coldReset := by
  unfold vinGone
  rcases hon with h | h <;> simp only [h, hs, Bool.false_eq_true, if_false]

theorem vinGone_holds (hon : b.pow.st = .on ∨ b.pow.st = .stand) (hs : b.flag .pstVstbyOk 0 = true) (why : Nat) :
    (b.vinGone why).pow.st = .hold ∧ (b.vinGone why).rd .pstVinOk 0 = 0 ∧ (b.vinGone why).rd .pstLastOff 0 = why % 16 ∧
      (b.vinGone why).rd .coreServices 0 = 0 := by
  obtain ⟨hst, hoff, hsvc⟩ := powerDown_shows b .hold why
  rw [vinGone_hold hon hs, wr_rd_self, wr_rd_fld _ (by decide), wr_rd_fld _ (by decide)]
  exact ⟨hst, rfl, hoff, hsvc⟩

end power
end Block

/-! ### What the commands do -/

section commands
variable {s : State}

theorem State.does_vinGone_hold {c : Instr} {why : Nat} (hc : exec c s = s.on (·.vinGone why)) (hw : why < 16)
    (hon : s.blk.pow.st = .on ∨ s.blk.pow.st = .stand) (hs : s.blk.flag .pstVstbyOk 0 = true) :
    s.does c fun b => b.pow.st = .hold ∧ b.rd .pstVinOk 0 = 0 ∧ b.rd .pstLastOff 0 = why ∧ b.rd .coreServices 0 = 0 := by
  refine State.does_of_on _ hc ?_
  simpa only [Block.canon_pow, Block.canon_rd, Nat.mod_eq_of_lt hw] using Block.vinGone_holds hon hs why

theorem State.does_coldReset {c : Instr} {g : Block → Block} (hc : exec c s = s.on g) (hg : g s.blk = s.blk.coldReset) {f : Fld}
    (hf : (Fld.attr f).rst = .val 0) (hp : pinField f = false) :
    s.does c fun b => b.pow.st = .off ∧ b.rd f 0 = 0 ∧ b.fuses = s.blk.fuses := by
  refine State.does_of_on g hc ?_
  rw [hg, Block.canon_pow, Block.canon_rd, Block.canon_fuses, Block.coldReset_rd hf hp]
  exact ⟨rfl, rfl, rfl⟩

end commands

/-- Settles O7: power up by a cold start, the hold on VSTBY and the way back, and the losses. -/
theorem powerOnAndOff : Obligations.PowerOnAndOff := by
  unfold Obligations.PowerOnAndOff
  refine ⟨⟨fun s str ok h => ?up, fun s str h => ?standby, fun s h => ?back⟩,
    fun s hon hs => ⟨State.does_vinGone_hold rfl (by decide) hon hs, State.does_vinGone_hold rfl (by decide) hon hs⟩,
    fun s hon hs => ⟨State.does_coldReset (g := (·.vinGone 4)) rfl (Block.vinGone_cold hon hs 4) rfl rfl,
      State.does_coldReset (g := (·.vinGone 3)) rfl (Block.vinGone_cold hon hs 3) rfl rfl⟩,
    fun s h => State.does_coldReset (g := (·.vstbyGone)) rfl (if_pos (by simp [h])) rfl rfl, fun s ok h => ?range⟩
  case up =>
    refine State.does_of_on (·.powerUp str ok) rfl ?_
    simpa only [Block.canon_straps, Block.canon_pow, Block.canon_time, Block.canon_img, Block.canon_fuses, Block.canon_rd] using
      Block.powerUp_shows h str ok
  case standby =>
    refine State.does_of_on (·.standbyUp str) rfl ?_
    obtain ⟨p, t, hp, heq⟩ := Block.standbyUp_off h str
    rw [heq, Block.canon_rd, Block.canon_rd, Block.setPower_rd, Block.setPower_rd, Block.wr_rd_self, Block.wr_rd_fld _ (by decide)]
    exact ⟨rfl, hp, rfl, rfl, Block.coldReset_rd rfl rfl ..⟩
  case back =>
    refine State.does_of_on (·.vinBack) rfl ?_
    simpa only [Block.canon_pow, Block.canon_time, Block.canon_img, Block.canon_rd] using Block.vinBack_hold h
  case range =>
    refine State.does_of_on (·.vstbyRange ok) rfl ?_
    rw [Block.canon_rd, Block.vstbyRange, if_pos h, Block.wr_rd_self]
    cases ok <;> rfl

/-- Settles O8: the restart is module reset, and module reset keeps the stored values of cold-reset fields and pins alone. -/
theorem moduleResetRestores : Obligations.ModuleResetRestores := by
  unfold Obligations.ModuleResetRestores
  intro s hoff hvin
  have hon : s.blk.thermOn = s.blk.moduleReset := if_pos (by simp [hoff, hvin])
  obtain ⟨hst, ht, hi⟩ := Block.moduleReset_starts s.blk
  refine State.does_of_on (·.thermOn) rfl ?_
  simp only [hon, Block.canon_straps, Block.canon_pow, Block.canon_time, Block.canon_img, Block.canon_fuses, Block.canon_rd,
    Block.canon_flag]
  exact ⟨hst, ht, hi, Block.moduleReset_straps _, Block.moduleReset_fuses _, fun g hg hp => Block.moduleReset_clkreq hg hp,
    fun f i j n hn hf => Block.moduleReset_rd hn hf i j⟩

end Sys2Proof.Machine
end

section
/-! PROOFS. Brownout and droop windows (O9), gaits and Stand (O10), thermal limits and reference clocks (O11): what each operation of
Machine/Power.lean shows, then the commands. -/
namespace Sys2Proof.Machine
namespace Block

/-! ### The gait follows its limit (R319) -/

section gait
variable {b : Block}

/-- The limit does not depend on the gait in force. -/
theorem gaitLimit_of_changes {c : Block} {q : Nat} (h : Changes [.gaitCurrent] q b c) : c.gaitLimit = b.gaitLimit := by
  simp only [gaitLimit, h.rd (f := .gaitTarget) (by decide), h.rd (f := .gaitCap) (by decide),
    h.rd (f := .gaitThermLimit) (by decide), h.flag (f := .gaitForcedWalk) (by decide)]

theorem gaitDown_changes (b : Block) : Changes [.gaitCurrent] 0 b b.gaitDown := gaitDown_fr b rfl rfl (.refl ..)
theorem gaitFollow_changes (b : Block) : Changes [.gaitCurrent] 0x4000 b b.gaitFollow := gaitFollow_fr b rfl rfl (.refl ..)

theorem gaitFollow_rd {f : Fld} (hf : f ≠ .gaitCurrent) (i j : Nat) : b.gaitFollow.rd f i j = b.rd f i j :=
  (gaitFollow_changes b).rd (by simpa using hf) i j

/-- R319: the gait comes down to its limit at once. -/
theorem gaitDown_le (h : b.pow.st = .on) : b.gaitDown.rd .gaitCurrent 0 ≤ b.gaitLimit := by
  unfold gaitDown
  split
  · rw [wr_rd_self]
    exact Nat.mod_le ..
  · next hn =>
    simp only [h, BEq.rfl, Bool.true_and, decide_eq_true_eq, not_lt] at hn
    exact hn

/-- R319: an upshift does not pass the limit. -/
theorem gaitUp_le (h : b.rd .gaitCurrent 0 ≤ b.gaitLimit) : b.gaitUp.rd .gaitCurrent 0 ≤ b.gaitLimit := by
  unfold gaitUp
  split
  · exact h
  · next hgo =>
    simp only [Bool.or_eq_true, Bool.not_eq_true', Bool.and_eq_false_iff, decide_eq_false_iff_not, not_or, not_not] at hgo
    obtain ⟨⟨-, hlt⟩, -⟩ := hgo
    split
    · rw [(holdBack_fr b .upshift rfl rfl (.refl 0 0x4000 b)).reg .gaitCurrent 0 0 rfl]
      exact h
    · rw [← setPower, setPower_rd, wr_rd_self]
      exact (Nat.mod_le ..).trans hlt

theorem gaitFollow_le (h : b.pow.st = .on) : b.gaitFollow.rd .gaitCurrent 0 ≤ b.gaitLimit := by
  have hlimit := gaitLimit_of_changes (gaitDown_changes b)
  have hup : b.gaitDown.gaitUp.rd .gaitCurrent 0 ≤ b.gaitDown.gaitLimit := gaitUp_le (hlimit ▸ gaitDown_le h)
  exact hlimit ▸ hup

/-- R314: below the limit, with no droop window and no unsettled increase, the gait rises by one and the input current ramps. -/
theorem gaitUp_steps (hg : b.groomRuns = true) (hl : b.rd .gaitCurrent 0 < b.gaitLimit) (hw : b.pow.walkHold = false)
    (hd : b.flag .pstDroop 0 = false) (hr : b.pow.ramp = false) : b.gaitUp.rd .gaitCurrent 0 = (b.rd .gaitCurrent 0 + 1) % 8 ∧
      b.gaitUp.pow.ramp = true := by
  unfold gaitUp
  rw [if_neg (by simp [hg, hl, hw]), if_neg (by simp [hd, hr])]
  exact ⟨wr_rd_self b .gaitCurrent 0 0 _, rfl⟩

theorem heldGoAll_none (h : b.pow.held = []) : b.heldGoAll = b := by
  have hp : ({ b.pow with held := [] } : PowerDyn) = b.pow := by rw [← h]
  rw [heldGoAll, h, hp]
  rfl

/-- R314: the increase that waits starts once the input current has settled. -/
theorem settled_upshifts (hg : b.groomRuns = true) (hl : b.rd .gaitCurrent 0 < b.gaitLimit) (hw : b.pow.walkHold = false)
    (hd : b.flag .pstDroop 0 = false) (hh : b.pow.held = []) : b.settled.rd .gaitCurrent 0 = (b.rd .gaitCurrent 0 + 1) % 8 ∧
      b.settled.pow.ramp = true := by
  have hgo : b.settled = (b.setPower { b.pow with ramp := false } b.tap).heldGoAll.gaitUp :=
    if_neg (by rw [← setPower, setPower_flag, hd]; decide)
  have hnone : (b.setPower { b.pow with ramp := false } b.tap).pow.held = [] := hh
  rw [hgo, heldGoAll_none hnone]
  exact gaitUp_steps hg hl hw hd rfl

/-! ### The target (R319, R320) -/

theorem groomRuns_of_ready (h : b.groomReady = true) : b.groomRuns = true := (Bool.and_eq_true_iff.1 h).1

theorem on_of_groomRuns (h : b.groomRuns = true) : b.pow.st = .on := by
  simp only [groomRuns, Bool.and_eq_true, beq_iff_eq] at h
  exact h.1.1.1.1

theorem targetWrite_taken (hg : b.groomRuns = true) {t : Nat} (h1 : 1 ≤ t) (h4 : t ≤ 4) : ∃ p : PowerDyn, p.st = b.pow.st ∧
    b.targetWrite t = ((b.setPower p b.tap).wr .gaitTarget 0 0 (b.gaitClamp t)).gaitFollow :=
  ⟨{ b.pow with walkHold := b.pow.walkHold && decide (t < b.rd .gaitTarget 0) }, rfl, if_pos (by simp [hg, h1, h4])⟩

theorem targetWrite_target (hg : b.groomRuns = true) {t : Nat} (h1 : 1 ≤ t) (h4 : t ≤ 4) :
    (b.targetWrite t).rd .gaitTarget 0 = b.gaitClamp t % 8 := by
  obtain ⟨p, -, heq⟩ := targetWrite_taken hg h1 h4
  rw [heq, gaitFollow_rd (by decide)]
  exact wr_rd_self ..

/-- R319: after a target write the gait is not above the limit. -/
theorem targetWrite_le (hg : b.groomRuns = true) {t : Nat} (h1 : 1 ≤ t) (h4 : t ≤ 4) :
    (b.targetWrite t).rd .gaitCurrent 0 ≤ (b.targetWrite t).gaitLimit := by
  obtain ⟨p, hp, heq⟩ := targetWrite_taken hg h1 h4
  rw [heq, gaitLimit_of_changes (gaitFollow_changes _)]
  exact gaitFollow_le (hp.trans (on_of_groomRuns hg))

theorem targetWrite_ignored (hg : b.groomRuns = false) (t : Nat) : b.targetWrite t = b := by
  simp [targetWrite, hg]

/-- R320: a busy window raises the target by one. -/
theorem gaitWindow_busy (hr : b.groomReady = true) {g : Nat}
    (hg : 100 * g > optD b.img 70 (fun im => optD im.power 70 (·.upPct)) * b.portCap (b.rd .gaitCurrent 0)) :
    (b.gaitWindow g).rd .gaitTarget 0 = b.gaitClamp (min 4 (b.rd .gaitTarget 0 + 1)) % 8 := by
  have hgo : b.gaitWindow g = (b.targetWrite (min 4 (b.rd .gaitTarget 0 + 1))).setPower
      { (b.targetWrite (min 4 (b.rd .gaitTarget 0 + 1))).pow with lowWins := 0 } (b.targetWrite (min 4 (b.rd .gaitTarget 0 + 1))).tap :=
    (if_neg (by simp [hr])).trans (if_pos hg)
  rw [hgo, setPower_rd]
  exact targetWrite_target (groomRuns_of_ready hr) (by omega) (by omega)

/-- R326: with every function in D3cold and every port idle the module enters Stand. -/
theorem standIn_enters (hr : b.groomReady = true) (he : b.flag .gaitStandEn 0 = true)
    (hf : b.allFns.all (fun f => b.d3cold f) = true) (hp : (List.range 64).all (fun p => b.portIdle p) = true) :
    b.standIn.pow.st = .stand ∧ b.standIn.rd .gaitCurrent 0 = 0 := by
  unfold standIn
  rw [if_neg (by simp only [hr, he, hf, hp]; decide)]
  extract_lets b1
  exact ⟨rfl, (setPower_rd _ _ _ ..).trans (wr_rd_self b1 .gaitCurrent 0 0 0)⟩

end gait

/-! ### Brownout (R312, R313) -/

section brownout
variable {b : Block}

/-- The fields that narrowing the links may change. -/
def narrowMask : Nat := 0x408000490010208020400000000000000008000000000001ffe1410186d800004018008000060008000301e00d800000f0000400000080c00

theorem linksNarrow_rd {f : Fld} (hf : narrowMask.testBit f.ctorIdx = false) (i j : Nat) : b.linksNarrow.rd f i j = b.rd f i j :=
  (linksNarrow_fr b rfl rfl (.refl narrowMask anyPart b)).reg f i j hf

theorem widenBack_changes (b : Block) : Changes [.psTxDoze] 0x140004180 b b.widenBack := widenBack_fr b rfl rfl (.refl ..)

@[simp] theorem narrowBit_rd (b : Block) (k : Nat) (v : Bool) (f : Fld) (i j : Nat) : (b.narrowBit k v).rd f i j = b.rd f i j := rfl
@[simp] theorem narrowBit_flag (b : Block) (k : Nat) (v : Bool) (f : Fld) (i j : Nat) : (b.narrowBit k v).flag f i j = b.flag f i j := rfl

/-- FORCED_WALK holds while a brownout or a hardware trip does. -/
theorem forceWalk_forced (b : Block) : b.forceWalk.rd .gaitForcedWalk 0 = b2n (b.flag .pstBrownout 0 || b.flag .pstHwTrip 0) := by
  rw [forceWalk, gaitFollow_rd (by decide), wr_rd_self]
  exact b2n_mod_two _

theorem forceWalk_rd {f : Fld} (hf : f ≠ .gaitForcedWalk) (hc : f ≠ .gaitCurrent) (i j : Nat) : b.forceWalk.rd f i j = b.rd f i j := by
  rw [forceWalk, gaitFollow_rd hc, wr_rd_fld _ hf]

/-- R313: a forced Walk brings the gait to Walk or below. -/
theorem forceWalk_walks (hon : b.pow.st = .on) (hf : (b.flag .pstBrownout 0 || b.flag .pstHwTrip 0) = true) :
    b.forceWalk.rd .gaitCurrent 0 ≤ 1 := by
  have hforced : (b.wr .gaitForcedWalk 0 0 (b2n (b.flag .pstBrownout 0 || b.flag .pstHwTrip 0))).flag .gaitForcedWalk 0 = true := by
    rw [hf, flag, wr_rd_self]
    rfl
  refine (gaitFollow_le (by exact hon)).trans ?_
  rw [gaitLimit, if_pos hforced]
  exact min_le_right ..

/-- The block with its brownout counted and Walk forced. -/
def browned (b : Block) : Block := (((b.wr .pstBrownout 0 0 1).incSat .pwrCntBrownouts 0).narrowBit 0 true).forceWalk

theorem browned_brownout (b : Block) : b.browned.rd .pstBrownout 0 = 1 := by
  rw [browned, forceWalk_rd (by decide) (by decide), narrowBit_rd, incSat, wr_rd_fld _ (by decide)]
  exact wr_rd_self ..

theorem browned_counts (b : Block) : b.browned.rd .pwrCntBrownouts 0 =
    min (b.rd .pwrCntBrownouts 0 + 1) (2 ^ (Fld.attr .pwrCntBrownouts).width - 1) := by
  rw [browned, forceWalk_rd (by decide) (by decide), narrowBit_rd, incSat_rd_self, wr_rd_fld _ (by decide)]

/-- A brownout holds in the block whose Walk is forced by it. -/
theorem browned_flag (b : Block) : (((b.wr .pstBrownout 0 0 1).incSat .pwrCntBrownouts 0).narrowBit 0 true).flag .pstBrownout 0 = true := by
  rw [narrowBit_flag, flag, incSat, wr_rd_fld _ (by decide), wr_rd_self]
  rfl

theorem browned_forced (b : Block) : b.browned.rd .gaitForcedWalk 0 = 1 := by
  rw [browned, forceWalk_forced, browned_flag, Bool.true_or]
  rfl

theorem browned_walks (hon : b.pow.st = .on) : b.browned.rd .gaitCurrent 0 ≤ 1 :=
  forceWalk_walks hon (by rw [browned_flag, Bool.true_or])

theorem brownIn_eq (hs : b.inService = true) (hb : b.flag .pstBrownout 0 = false) {v i : Nat}
    (h : v < b.rd .broVinMv 0 ∨ i > 100 * b.rd .broIlimA 0) :
    b.brownIn v i = ((b.browned.wr .telVinMv 0 0 v).wr .telIin 0 0 i).linksNarrow := by
  have hgo : (decide (v < b.rd .broVinMv 0) || decide (i > 100 * b.rd .broIlimA 0)) = true := by simpa using h
  exact if_neg (by simp [hs, hb, hgo])

/-- R313: a brownout forces Walk, counts, and shows what was measured. -/
theorem brownIn_shows (hs : b.inService = true) (hb : b.flag .pstBrownout 0 = false) {v i : Nat}
    (h : v < b.rd .broVinMv 0 ∨ i > 100 * b.rd .broIlimA 0) :
    (b.brownIn v i).rd .pstBrownout 0 = 1 ∧ (b.brownIn v i).rd .gaitForcedWalk 0 = 1 ∧
      (b.brownIn v i).rd .pwrCntBrownouts 0 = min (b.rd .pwrCntBrownouts 0 + 1) (2 ^ (Fld.attr .pwrCntBrownouts).width - 1) ∧
      (b.brownIn v i).rd .telVinMv 0 = v % 2 ^ (Fld.attr .telVinMv).width ∧
      (b.brownIn v i).rd .telIin 0 = i % 2 ^ (Fld.attr .telIin).width ∧ (b.pow.st = .on → (b.brownIn v i).rd .gaitCurrent 0 ≤ 1) := by
  have htel : ∀ {f : Fld}, f ≠ .telVinMv → f ≠ .telIin → ((b.browned.wr .telVinMv 0 0 v).wr .telIin 0 0 i).rd f 0 = b.browned.rd f 0 :=
    fun hv hi => by rw [wr_rd_fld _ hi, wr_rd_fld _ hv]
  rw [brownIn_eq hs hb h]
  refine ⟨?_, ?_, ?_, ?_, ?_, fun hon => ?_⟩
  · rw [linksNarrow_rd rfl, htel (by decide) (by decide), browned_brownout]
  · rw [linksNarrow_rd rfl, htel (by decide) (by decide), browned_forced]
  · rw [linksNarrow_rd rfl, htel (by decide) (by decide), browned_counts]
  · rw [linksNarrow_rd rfl, wr_rd_fld _ (by decide), wr_rd_self]
  · rw [linksNarrow_rd rfl, wr_rd_self]
  · rw [linksNarrow_rd rfl, htel (by decide) (by decide)]
    exact browned_walks hon

/-- R313: at the end of a brownout the gait stays, and Walk is forced by a hardware trip alone. -/
theorem brownOut_ends (hb : b.flag .pstBrownout 0 = true) : b.brownOut.rd .pstBrownout 0 = 0 ∧
    b.brownOut.rd .gaitForcedWalk 0 = b2n (b.flag .pstHwTrip 0) ∧ b.brownOut.rd .gaitCurrent 0 = b.rd .gaitCurrent 0 := by
  unfold brownOut
  rw [if_neg (by simp [hb])]
  extract_lets b1 b2
  have htrip : b1.flag .pstHwTrip 0 = b.flag .pstHwTrip 0 := by
    rw [flag, narrowBit_rd, wr_rd_fld _ (by decide)]
    rfl
  rw [← setPower, (widenBack_changes _).rd (by decide), (widenBack_changes _).rd (by decide), (widenBack_changes _).rd (by decide),
    setPower_rd, setPower_rd, setPower_rd]
  simp only [b2, b1, narrowBit_rd, wr_rd_fld, wr_rd_self, ne_eq, reduceCtorEq, not_false_eq_true, htrip]
  exact ⟨rfl, b2n_mod_two _, trivial⟩

end brownout

/-! ### Droop windows (R315 to R317) -/

section droop
variable {b : Block} {p : Nat}

theorem droopOpen_opens (hs : b.inService = true) (he : b.flag .pwrDroopEn 0 = true) (hd : b.flag .pstDroop 0 = false)
    (hb : b.pow.bar = false) : b.droopOpen.rd .pstDroop 0 = 1 ∧ b.droopOpen.rd .gaitFrozen 0 = 1 ∧
      b.droopOpen.rd .pwrCntDroops 0 = min (b.rd .pwrCntDroops 0 + 1) (2 ^ (Fld.attr .pwrCntDroops).width - 1) := by
  have hgo : b.droopOpen = (((b.wr .pstDroop 0 0 1).wr .gaitFrozen 0 0 1).incSat .pwrCntDroops 0).setPower
      { b.pow with bar := false, highAt := none } b.tap :=
    (if_neg (by simp [hs, he, hd])).trans (if_neg (by simp [hb]))
  rw [hgo, setPower_rd, setPower_rd, setPower_rd]
  refine ⟨?_, ?_, ?_⟩
  · rw [incSat, wr_rd_fld _ (by decide), wr_rd_fld _ (by decide), wr_rd_self]
    rfl
  · rw [incSat, wr_rd_fld _ (by decide), wr_rd_self]
    rfl
  · rw [incSat_rd_self, wr_rd_fld _ (by decide), wr_rd_fld _ (by decide)]

/-- The fields that what a droop window held back may change. -/
def heldMask : Nat := 0x408000490010208020400000000000000008000000000801ffe1418186d800004018008000060008000301e00d800000f0000400000080c00

theorem heldGoAll_rd {f : Fld} (hf : heldMask.testBit f.ctorIdx = false) (i j : Nat) : b.heldGoAll.rd f i j = b.rd f i j :=
  (heldGoAll_fr b rfl rfl (.refl heldMask anyPart b)).reg f i j hf

/-- R316: the window that closes thaws the gait. -/
theorem droopEnd_closes (hd : b.flag .pstDroop 0 = true) : b.droopEnd.rd .pstDroop 0 = 0 ∧ b.droopEnd.rd .gaitFrozen 0 = 0 := by
  have hgo : b.droopEnd = ((b.wr .pstDroop 0 0 0).wr .gaitFrozen 0 0 0).heldGoAll := if_neg (by simp [hd])
  rw [hgo, heldGoAll_rd rfl, heldGoAll_rd rfl, wr_rd_self, wr_rd_fld _ (by decide), wr_rd_self]
  exact ⟨rfl, rfl⟩

theorem droopHigh_open (hd : b.flag .pstDroop 0 = true) : b.droopHigh = b.droopEnd := if_pos hd

theorem droopMax_open (hd : b.flag .pstDroop 0 = true) :
    b.droopMax = (b.setPower { b.pow with bar := true, highAt := none } b.tap).droopEnd := if_pos hd

/-! A DOZE exit released early (R317): the transmitter wakes, and nothing that it then sends holds the exit back again. -/

/-- From a to b port p kept sending: no exit is held back anew and no NAK comes in. -/
structure StaysAwake (p : Nat) (a b : Block) : Prop where
  held : (b.tt p).held = (a.tt p).held
  nakOn : (b.tt p).nakOn = (a.tt p).nakOn
  frame : Fr 0 0x140000080 a b

namespace StaysAwake
variable {a c : Block}

theorem refl (a : Block) : StaysAwake p a a := ⟨rfl, rfl, .refl ..⟩

theorem trans (h : StaysAwake p a b) (k : StaysAwake p b c) : StaysAwake p a c :=
  ⟨k.held.trans h.held, k.nakOn.trans h.nakOn, h.frame.trans k.frame⟩

theorem emit (o : Out) (h : StaysAwake p a b) : StaysAwake p a (b.emit o) := ⟨h.held, h.nakOn, .emit rfl h.frame⟩

theorem ttMod {g : TthDyn → TthDyn} (hh : (g (b.tt p)).held = (b.tt p).held) (hn : (g (b.tt p)).nakOn = (b.tt p).nakOn)
    (h : StaysAwake p a b) : StaysAwake p a (b.ttMod p g) :=
  ⟨by rw [ttMod_tt_self, hh, h.held], by rw [ttMod_tt_self, hn, h.nakOn], .ttMod rfl h.frame⟩

theorem putFlit (ty : Nat) (area : List Byte) (h : StaysAwake p a b) : StaysAwake p a (b.putFlit p ty area) := by
  obtain ⟨_, _, _, _, htt⟩ := putFlit_tt b p ty area
  exact ⟨by rw [htt, h.held], by rw [htt, h.nakOn], putFlit_fr b p ty area rfl rfl h.frame⟩

theorem putMark (h : StaysAwake p a b) : StaysAwake p a (b.putMark p) :=
  ⟨by rw [putMark_tt, h.held], by rw [putMark_tt, h.nakOn], putMark_fr b p rfl rfl h.frame⟩

theorem ite {P : Prop} [Decidable P] {x y : Block} (hx : StaysAwake p a x) (hy : StaysAwake p a y) :
    StaysAwake p a (if P then x else y) := by
  split <;> assumption

theorem putRepeats (h : StaysAwake p a b) : StaysAwake p a (b.putRepeats p) := by
  unfold Block.putRepeats
  extract_lets t
  split
  · refine .ite (h.putFlit ..) ?_
    split
    · exact .ite (h.putFlit ..) h
    · exact h
  · exact .ite (h.putFlit ..) h
  · exact h

theorem txFlit (ty : Nat) (area : List Byte) (h : StaysAwake p a b) : StaysAwake p a (b.txFlit p ty area) := h.putRepeats.putFlit ty area

theorem each {α : Type} {g : Block → α → Block} (hg : ∀ c x, StaysAwake p a c → StaysAwake p a (g c x)) (l : List α)
    (h : StaysAwake p a b) : StaysAwake p a (b.each l g) := each_inv (fun c x _ hc => hg c x hc) h

theorem ttPump (n : Nat) (h : StaysAwake p a b) : StaysAwake p a (b.ttPump p n) := by
  induction n generalizing b with
  | zero => exact h
  | succ n ih =>
    unfold Block.ttPump
    extract_lets t
    split
    · exact h
    · exact .ite h (ih (.each (fun c x hc => hc.txFlit 0 x) _ ((h.ttMod rfl rfl).emit _)))

theorem askSend (h : StaysAwake p a b) : StaysAwake p a (b.askSend p) := by
  unfold Block.askSend
  split
  · exact h
  · exact .ite h ((h.putFlit ..).emit _)

theorem giveLanes (hd : b.flag .psTxDoze p = false) (m : Nat) (h : StaysAwake p a b) : StaysAwake p a (b.giveLanes p m) := by
  unfold Block.giveLanes
  rw [tthWake_awake hd]
  exact .ite (h.ttMod rfl rfl) (((h.ttMod rfl rfl).putFlit ..).emit _)

theorem awake (h : StaysAwake p a b) (hd : a.rd .psTxDoze p = 0) : b.flag .psTxDoze p = false := by
  rw [flag, h.frame.reg .psTxDoze p 0 (Nat.zero_testBit _), hd]
  rfl

end StaysAwake

/-- The block whose transmitter has just begun to wake. -/
def waking (b : Block) (p : Nat) : Block := (b.wr .psTxDoze p 0 0).ttMod p (fun t => { t with held := false })

theorem wakeGo_staysAwake (b : Block) (p : Nat) : StaysAwake p (b.waking p) (b.wakeGo p) := by
  unfold wakeGo
  extract_lets owed b1
  have h1 : StaysAwake p (b.waking p) b1 := ((StaysAwake.refl _).emit _).putMark
  exact .ite (h1.txFlit ..) h1

theorem dozeRelease_staysAwake (hh : (b.tt p).held = true) (hd : b.flag .psTxDoze p = true) :
    StaysAwake p (b.waking p) (b.dozeRelease p) := by
  have hawake : (b.waking p).rd .psTxDoze p = 0 := wr_rd_self ..
  have h1 := (wakeGo_staysAwake b p).askSend
  unfold dozeRelease
  rw [if_pos (by simp [hh, hd])]
  extract_lets b1 b2
  refine .ttPump _ ?_
  simp only [b2]
  split
  · exact .giveLanes ((h1.ttMod (g := fun t => { t with giveNext := none }) rfl rfl).awake hawake) _ (h1.ttMod rfl rfl)
  · exact h1

/-- R317: a DOZE exit that goes ahead leaves the transmitter awake, with nothing held back. -/
theorem dozeFree_frees (hh : (b.tt p).held = true) (hd : b.flag .psTxDoze p = true) (hn : (b.tt p).nakOn = none) :
    (b.dozeFree p).rd .psTxDoze p = 0 ∧ ((b.dozeFree p).tt p).held = false ∧ (b.dozeFree p).pow = b.pow := by
  have h := dozeRelease_staysAwake hh hd
  have hnak : ((b.dozeRelease p).tt p).nakOn = none := by
    rw [h.nakOn, waking, ttMod_tt_self]
    exact hn
  have hgo : b.dozeFree p = b.dozeRelease p := by
    unfold dozeFree
    extract_lets b1
    split
    · next hs => exact absurd (hs.symm.trans hnak) (Option.some_ne_none _)
    · rfl
  rw [hgo, h.frame.reg .psTxDoze p 0 (Nat.zero_testBit _), h.held, h.frame.part .pow rfl, waking, ttMod_tt_self, ttMod_rd, wr_rd_self]
  exact ⟨rfl, rfl, rfl⟩

/-- R317: the early release takes the exit off the list of what is held back. -/
theorem droopEarly_frees (hh : (b.tt p).held = true) (hd : b.flag .psTxDoze p = true) (hn : (b.tt p).nakOn = none) :
    (b.droopEarly p).rd .psTxDoze p = 0 ∧ ((b.droopEarly p).tt p).held = false ∧ HeldAct.doze p ∉ (b.droopEarly p).pow.held := by
  have hgo : b.droopEarly p =
      (b.setPower { b.pow with held := b.pow.held.filter (fun h => h != HeldAct.doze p) } b.tap).dozeFree p := if_pos hh
  obtain ⟨hdoze, hheld, hpow⟩ := dozeFree_frees
    (b := b.setPower { b.pow with held := b.pow.held.filter (fun h => h != HeldAct.doze p) } b.tap) hh hd hn
  rw [hgo, hpow]
  exact ⟨hdoze, hheld, by simp⟩

end droop

/-! ### Thermal limits (R328, R329) -/

section thermal
variable {b : Block}

/-- The block with a throttle step taken, before the gait follows. -/
def throttled (b : Block) (tj : Nat) : Block :=
  ((((b.wr .thmTjMax 0 0 tj).wr .gaitThermLimit 0 0 (max 1 (b.rd .gaitCurrent 0 - 1))).throttleBit).incSat .pwrCntThrottles 0)

theorem throttleBit_rd {f : Fld} (hf : f ≠ .pstThrottle) (i j : Nat) : b.throttleBit.rd f i j = b.rd f i j := wr_rd_fld _ hf ..

theorem throttle_steps (hr : b.groomReady = true) {tj : Nat} (ht : b.rd .thmThrottleC 0 ≤ tj) (hl : b.rd .gaitThermLimit 0 ≠ 1) :
    b.throttle tj = (b.throttled tj).gaitFollow := by
  have hc : (b.wr .thmTjMax 0 0 tj).rd .thmThrottleC 0 = b.rd .thmThrottleC 0 := wr_rd_fld _ (by decide) ..
  have hlim : (b.wr .thmTjMax 0 0 tj).rd .gaitThermLimit 0 = b.rd .gaitThermLimit 0 := wr_rd_fld _ (by decide) ..
  have hcur : (b.wr .thmTjMax 0 0 tj).rd .gaitCurrent 0 = b.rd .gaitCurrent 0 := wr_rd_fld _ (by decide) ..
  unfold throttle throttled
  extract_lets b0
  rw [if_neg (by simp [hr]), if_neg (by simp [b0, hc, ht]), if_neg (by simp [b0, hlim, hl]), hcur]

/-- R328: a throttle step counts, and shows the temperature it was taken at. -/
theorem throttle_shows (hr : b.groomReady = true) {tj : Nat} (ht : b.rd .thmThrottleC 0 ≤ tj) (hl : b.rd .gaitThermLimit 0 ≠ 1) :
    (b.throttle tj).rd .gaitThermLimit 0 = max 1 (b.rd .gaitCurrent 0 - 1) % 8 ∧
      (b.throttle tj).rd .thmTjMax 0 = tj % 2 ^ (Fld.attr .thmTjMax).width ∧
      (b.throttle tj).rd .pwrCntThrottles 0 = min (b.rd .pwrCntThrottles 0 + 1) (2 ^ (Fld.attr .pwrCntThrottles).width - 1) := by
  rw [throttle_steps hr ht hl, gaitFollow_rd (by decide), gaitFollow_rd (by decide), gaitFollow_rd (by decide), throttled]
  refine ⟨?_, ?_, ?_⟩
  · rw [incSat, wr_rd_fld _ (by decide), throttleBit_rd (by decide), wr_rd_self]
    rfl
  · rw [incSat, wr_rd_fld _ (by decide), throttleBit_rd (by decide), wr_rd_fld _ (by decide), wr_rd_self]
  · rw [incSat_rd_self, throttleBit_rd (by decide), wr_rd_fld _ (by decide), wr_rd_fld _ (by decide)]

/-- The block with the thermal limit raised by one gait. -/
def thermRaised (b : Block) (tj : Nat) : Block :=
  ((b.wr .thmTjMax 0 0 tj).wr .gaitThermLimit 0 0 (b.rd .gaitThermLimit 0 + 1)).throttleBit.gaitFollow

theorem thermUp_raises (hr : b.groomReady = true) {tj : Nat} (ht : tj + b.rd .thmHystC 0 < b.rd .thmThrottleC 0)
    (hl : b.rd .gaitThermLimit 0 < 4) : b.thermUp tj =
      if bit (b.thermRaised tj).pow.narrow 2 then ((b.thermRaised tj).narrowBit 2 false).widenBack else b.thermRaised tj := by
  have hc : (b.wr .thmTjMax 0 0 tj).rd .thmThrottleC 0 = b.rd .thmThrottleC 0 := wr_rd_fld _ (by decide) ..
  have hh : (b.wr .thmTjMax 0 0 tj).rd .thmHystC 0 = b.rd .thmHystC 0 := wr_rd_fld _ (by decide) ..
  have hlim : (b.wr .thmTjMax 0 0 tj).rd .gaitThermLimit 0 = b.rd .gaitThermLimit 0 := wr_rd_fld _ (by decide) ..
  unfold thermUp
  extract_lets b0 b1
  have hb1 : b1 = b.thermRaised tj := by
    simp only [b1, b0, thermRaised, hlim]
  rw [if_neg (by simp [hr]), if_neg (by simp [b0, hc, hh, hlim, ht, hl]), hb1]

/-- R328: a raise lifts the thermal limit; the end of the Groom's narrowing changes no field but the doze of ports. -/
theorem thermUp_shows (hr : b.groomReady = true) {tj : Nat} (ht : tj + b.rd .thmHystC 0 < b.rd .thmThrottleC 0)
    (hl : b.rd .gaitThermLimit 0 < 4) : (b.thermUp tj).rd .gaitThermLimit 0 = b.rd .gaitThermLimit 0 + 1 ∧
      (b.thermUp tj).rd .thmTjMax 0 = tj % 2 ^ (Fld.attr .thmTjMax).width := by
  have hkeep : Changes [.psTxDoze] 0x140004180 (b.thermRaised tj) (b.thermUp tj) := by
    rw [thermUp_raises hr ht hl]
    exact .ite (widenBack_fr _ rfl rfl (narrowBit_fr _ _ _ rfl rfl (.refl ..))) (.refl ..)
  rw [hkeep.rd (by decide), hkeep.rd (by decide), thermRaised, gaitFollow_rd (by decide), gaitFollow_rd (by decide),
    throttleBit_rd (by decide), throttleBit_rd (by decide), wr_rd_self, wr_rd_fld _ (by decide), wr_rd_self]
  exact ⟨Nat.mod_eq_of_lt (show _ < 8 by omega), rfl⟩

/-- The block with the hardware trip recorded and counted. -/
def tripped (b : Block) : Block := (((b.wr .thmTjMax 0 0 105).wr .pstHwTrip 0 0 1).incSat .pwrCntThrottles 0).narrowBit 1 true

theorem trip_takes (hs : b.inService = true) (ht : b.flag .pstHwTrip 0 = false) : b.trip = b.tripped.forceWalk.linksNarrow :=
  if_neg (by simp [hs, ht])

theorem trip_shows (hs : b.inService = true) (ht : b.flag .pstHwTrip 0 = false) : b.trip.rd .pstHwTrip 0 = 1 ∧
    b.trip.rd .gaitForcedWalk 0 = 1 ∧ b.trip.rd .thmTjMax 0 = 105 := by
  have hflag : b.tripped.rd .pstHwTrip 0 = 1 := by
    rw [tripped, narrowBit_rd, incSat, wr_rd_fld _ (by decide), wr_rd_self]
    rfl
  rw [trip_takes hs ht, linksNarrow_rd rfl, linksNarrow_rd rfl, linksNarrow_rd rfl, forceWalk_forced, forceWalk_rd (by decide) (by decide),
    forceWalk_rd (by decide) (by decide), hflag, flag, flag, hflag]
  refine ⟨rfl, by simp [b2n], ?_⟩
  rw [tripped, narrowBit_rd, incSat, wr_rd_fld _ (by decide), wr_rd_fld _ (by decide), wr_rd_self]
  rfl

/-- The block with the hardware trip over. -/
def untripped (b : Block) : Block :=
  ((b.wr .thmTjMax 0 0 (Config.junctionTemp b.freeCtr % 100)).useFree.wr .pstHwTrip 0 0 0).narrowBit 1 false

theorem tripEnd_takes (ht : b.flag .pstHwTrip 0 = true) : b.tripEnd = b.untripped.forceWalk.widenBack :=
  if_neg (by simp [ht])

theorem tripEnd_shows (ht : b.flag .pstHwTrip 0 = true) : b.tripEnd.rd .pstHwTrip 0 = 0 ∧
    b.tripEnd.rd .gaitForcedWalk 0 = b2n (b.flag .pstBrownout 0) ∧ b.tripEnd.rd .thmTjMax 0 < 100 := by
  have hk := widenBack_changes b.untripped.forceWalk
  have htrip : b.untripped.rd .pstHwTrip 0 = 0 := by
    rw [untripped, narrowBit_rd, wr_rd_self]
    rfl
  have hbrown : b.untripped.rd .pstBrownout 0 = b.rd .pstBrownout 0 := by
    rw [untripped, narrowBit_rd, wr_rd_fld _ (by decide), useFree_rd, wr_rd_fld _ (by decide)]
  have htj : b.untripped.rd .thmTjMax 0 = Config.junctionTemp b.freeCtr % 100 % 2 ^ (Fld.attr .thmTjMax).width := by
    rw [untripped, narrowBit_rd, wr_rd_fld _ (by decide), useFree_rd, wr_rd_self]
  rw [tripEnd_takes ht, hk.rd (by decide), hk.rd (by decide), hk.rd (by decide), forceWalk_forced, forceWalk_rd (by decide) (by decide),
    forceWalk_rd (by decide) (by decide), flag, flag, hbrown, htrip, htj]
  exact ⟨rfl, by simp [flag], (Nat.mod_le ..).trans_lt (Nat.mod_lt _ (by decide))⟩

/-- The block with a shutdown recorded now. -/
def shutCounted (b : Block) : Block := b.setPower { b.pow with offs := b.offsInHour ++ [b.pow.epoch + b.time] } b.tap

/-- R329: the shutdowns of the last hour, once this one is among them. -/
theorem shutCounted_offsInHour (b : Block) : b.shutCounted.offsInHour = b.offsInHour ++ [b.pow.epoch + b.time] := by
  have hnow : b.offsInHour.filter (fun t => decide (b.pow.epoch + b.time < t + 3600000000)) = b.offsInHour := by
    simp [offsInHour]
  exact (List.filter_append ..).trans (by rw [shutCounted, setPower_pow, setPower_time, hnow]; simp)

/-- The ports of which TTH_PWREN goes away with the power. -/
def pwrenAllOff (b : Block) : Block :=
  b.each (List.range 64) (fun b p => if (b.pin p).pwren then b.pinMod p (fun g => { g with pwren := false }) else b)

theorem pwrenAllOff_fr (b : Block) : Fr 0 0x800 b b.pwrenAllOff := .each (fun _ _ h => .ite (.pinMod rfl h) h) (.refl ..)

/-- R329: a shutdown is thermal, or for good at the third within an hour. -/
theorem thermOff_shows (hs : b.inService = true) : b.thermOff.pow.st = (if b.offsInHour.length ≥ 2 then .dead else .thermOff) ∧
    b.thermOff.rd .pstLastOff 0 = 1 ∧ b.thermOff.rd .thmTjMax 0 = 115 ∧ b.thermOff.rd .coreServices 0 = 0 := by
  have hgo : b.thermOff =
      ((b.shutCounted.powerDown (if b.shutCounted.offsInHour.length ≥ 3 then .dead else .thermOff) 1).wr .thmTjMax 0 0 115).pwrenAllOff :=
    if_neg (by simp [hs])
  rw [shutCounted_offsInHour, List.length_append] at hgo
  generalize b.shutCounted = c at hgo
  obtain ⟨hst, hoff, hsvc⟩ :=
    powerDown_shows c (if b.offsInHour.length + [b.pow.epoch + b.time].length ≥ 3 then .dead else .thermOff) 1
  have hfr := pwrenAllOff_fr
    ((c.powerDown (if b.offsInHour.length + [b.pow.epoch + b.time].length ≥ 3 then .dead else .thermOff) 1).wr .thmTjMax 0 0 115)
  rw [hgo, hfr.part .pow rfl, hfr.reg _ _ _ (Nat.zero_testBit _), hfr.reg _ _ _ (Nat.zero_testBit _), hfr.reg _ _ _ (Nat.zero_testBit _),
    wr_rd_fld _ (by decide), wr_rd_self, wr_rd_fld _ (by decide)]
  refine ⟨hst.trans ?_, hoff, rfl, hsvc⟩
  congr 1
  simp

end thermal

/-! ### Reference clocks (R27, R245) -/

section refs
variable (b : Block) (t : Nat)

theorem refBad_bad : t ∈ (b.refBad t).refs.bad := by
  simp only [refBad]
  split
  · next h => exact List.contains_iff_mem.1 h
  · simp

theorem tthRef_bad : t ∈ (b.tthRef t).refs.bad := by
  unfold tthRef
  extract_lets b1
  have hbad : t ∈ b1.refs.bad := refBad_bad b t
  split <;> exact hbad

/-- R245: a die that lost its reference runs on the synthesised one. -/
theorem tthRef_synth : t ∈ (b.tthRef t).refs.synth := by
  unfold tthRef
  extract_lets b1
  split
  · next h => exact List.contains_iff_mem.1 h
  · simp

/-- R27: the core that ran on the lost input takes the lowest good one. -/
theorem coreRef_moves {b : Block} {t : Nat} (h : b.refs.core = some t) :
    (b.coreRef t).refs.core = (List.range 4).find? (fun k => !(b.coreRef t).refs.bad.contains k) := by
  simp only [coreRef, refBad, h, BEq.rfl, if_true]
  rfl

end refs

/-- The limit of the gait is read from the fields alone. -/
@[simp] theorem canon_gaitLimit (b : Block) : b.canon.gaitLimit = b.gaitLimit := by
  simp only [gaitLimit, canon_rd, canon_flag]

end Block

/-- Settles O9: each event by what its operation shows; a window that closes, or is held too long, ends in one way. -/
theorem brownoutAndDroop : Obligations.BrownoutAndDroop := by
  unfold Obligations.BrownoutAndDroop
  refine ⟨fun s v i hs hb h => State.does_of_on (·.brownIn v i) rfl ?_, fun s hb => State.does_of_on (·.brownOut) rfl ?_,
    fun s hs he hd hb => State.does_of_on (·.droopOpen) rfl ?_,
    fun s hd => ⟨State.does_of_on (·.droopHigh) rfl ?_, State.does_of_on (·.droopMax) rfl ?_⟩,
    fun s p hh hd hn => State.does_of_on (·.droopEarly p.val) rfl ?_⟩
  · simpa only [Block.canon_rd] using Block.brownIn_shows hs hb h
  · simpa only [Block.canon_rd] using Block.brownOut_ends hb
  · simpa only [Block.canon_rd] using Block.droopOpen_opens hs he hd hb
  · simpa only [Block.canon_rd, Block.droopHigh_open hd] using Block.droopEnd_closes hd
  · rw [Block.canon_rd, Block.canon_rd, Block.droopMax_open hd]
    exact Block.droopEnd_closes (by rwa [Block.setPower_flag])
  · simpa only [Block.canon_rd, Block.canon_tt, Block.canon_pow] using Block.droopEarly_frees hh hd hn

/-- Settles O10: the target clamped and the gait brought to its limit, one upshift, the busy window, Stand. -/
theorem gaitChanges : Obligations.GaitChanges := by
  unfold Obligations.GaitChanges
  refine ⟨fun s t => ⟨fun hg h1 h4 => State.does_of_on (·.targetWrite t.toNat) rfl ?_,
      fun hg => State.does_of_on (·.targetWrite t.toNat) rfl ?_⟩,
    fun s hg hl hw hd hh => State.does_of_on (·.settled) rfl ?_, fun s g hr hg => State.does_of_on (·.gaitWindow g) rfl ?_,
    fun s hr he hf hp => State.does_of_on (·.standIn) rfl ?_⟩
  · simpa only [Block.canon_rd, Block.canon_gaitLimit] using And.intro (Block.targetWrite_target hg h1 h4) (Block.targetWrite_le hg h1 h4)
  · simp only [Block.canon_rd, Block.targetWrite_ignored hg, and_self]
  · simpa only [Block.canon_rd, Block.canon_pow] using Block.settled_upshifts hg hl hw hd hh
  · simpa only [Block.canon_rd] using Block.gaitWindow_busy hr hg
  · simpa only [Block.canon_rd, Block.canon_pow] using Block.standIn_enters hr he hf hp

/-- Settles O11: the thermal events by what each shows; a lost Tether or core reference is noted bad and replaced. -/
theorem thermalLimits : Obligations.ThermalLimits := by
  unfold Obligations.ThermalLimits
  refine ⟨fun s tj hr ht hl => State.does_of_on (·.throttle tj) rfl ?_, fun s tj hr ht hl => State.does_of_on (·.thermUp tj) rfl ?_,
    fun s hs ht => State.does_of_on (·.trip) rfl ?_, fun s ht => State.does_of_on (·.tripEnd) rfl ?_,
    fun s hs => State.does_of_on (·.thermOff) rfl ?_, fun s t => State.does_of_on (·.tthRef t.val) rfl ?_,
    fun s t hc => State.does_of_on (·.coreRef t.val) rfl ?_⟩
  · simpa only [Block.canon_rd] using Block.throttle_shows hr ht hl
  · simpa only [Block.canon_rd] using Block.thermUp_shows hr ht hl
  · simpa only [Block.canon_rd] using Block.trip_shows hs ht
  · simpa only [Block.canon_rd] using Block.tripEnd_shows ht
  · simpa only [Block.canon_rd, Block.canon_pow] using Block.thermOff_shows hs
  · simpa only [Block.canon_refs] using And.intro (Block.tthRef_synth s.blk t.val) (Block.tthRef_bad s.blk t.val)
  · rw [Block.canon_refs]
    exact ⟨Block.refBad_bad s.blk t.val, Block.coreRef_moves hc⟩

end Sys2Proof.Machine
end

section
/-! PROOFS. The boot (O23): the stage, reading the next copy and recovery, the check of a copy, readiness, activation, and the fetch
over the Halter ring. -/
namespace Sys2Proof.Machine
namespace Block

section boot
variable {b : Block}

/-! ### The stage and the results of the copies -/

theorem setStage_changes (b : Block) (n : Nat) : Changes [.bootStage] 0x8000000 b (b.setStage n) := setStage_fr b n rfl rfl (.refl ..)

theorem setStage_stage (b : Block) {n : Nat} (hn : n < 16) : (b.setStage n).rd .bootStage 0 = n := by
  unfold setStage
  split
  · next h => exact beq_iff_eq.1 h
  · exact (wr_rd_self b .bootStage 0 0 n).trans (Nat.mod_eq_of_lt hn)

theorem setStage_rd {f : Fld} (hf : f ≠ .bootStage) (n i j : Nat) : (b.setStage n).rd f i j = b.rd f i j :=
  (setStage_changes b n).rd (by simpa using hf) i j

theorem setStage_boot (b : Block) (n : Nat) : (b.setStage n).boot = b.boot := (setStage_changes b n).part .boot rfl
theorem setStage_sg (b : Block) (n : Nat) : (b.setStage n).sg = b.sg := (setStage_changes b n).part .sg rfl
theorem setStage_img (b : Block) (n : Nat) : (b.setStage n).img = b.img := (setStage_changes b n).part .img rfl
theorem setStage_refs (b : Block) (n : Nat) : (b.setStage n).refs = b.refs := (setStage_changes b n).part .refs rfl

/-- R338: no check of Table 14.5 has a number above 10. -/
theorem checkCopy_lt (b : Block) (c : ImageCopy) : b.checkCopy c < 16 := by
  unfold checkCopy
  repeat' split
  all_goals decide

/-! ### The next copy and recovery (R333, R342) -/

/-- R342: recovery is stage 6 from source 3, with no request outstanding. -/
theorem recoveryIn_shows (b : Block) : b.recoveryIn.rd .bootStage 0 = 6 ∧ b.recoveryIn.rd .bootSource 0 = 3 ∧ b.recoveryIn.boot.reqs = [] := by
  unfold recoveryIn
  extract_lets b1
  refine ⟨setStage_stage _ (by decide), ?_, ?_⟩
  · rw [setStage_rd (by decide), wr_rd_self]
    rfl
  · rw [setStage_boot]
    rfl

/-- The next copy is the first of the order that has not been read. -/
theorem nextCopy_of_keeps {c : Block} (hctl : c.rd .bootCtlNext 0 = b.rd .bootCtlNext 0) (hs : c.straps = b.straps) :
    c.nextCopy = b.copyOrder.find? (fun s => !c.boot.read.contains s) := by
  rw [nextCopy, copyOrder, copyOrder, hctl, hs]

theorem readNext_spi {b : Block} {s : ImgSrc} (h : b.nextCopy = some s) (hs : s ≠ .halter) :
    b.readNext = (b.wr .bootSource 0 0 (srcCode s)).setStage 1 := by
  unfold readNext
  rw [h]
  cases s
  case halter => exact absurd rfl hs
  all_goals rfl

theorem readNext_none (h : b.nextCopy = none) : b.readNext = b.recoveryIn := by
  rw [readNext, h]

/-! ### The boot ROM (R27, R394) -/

/-- The block with the boot ROM running on the lowest good reference clock. -/
def romRunning (b : Block) (good : Nat → Bool) : Block :=
  let refs : RefDyn := { b.refs with bad := (List.range 4).filter (fun t => !good t) }
  { b with
    boot := { b.boot with run := true }, tap := { b.tap with portOn := true }
    refs := { refs with core := refs.lowest, synth := b.refs.synth ++ refs.bad.filter (fun t => !b.refs.synth.contains t) } }

/-- R27: the lowest input that is not bad is the lowest good one. -/
theorem lowest_of_good (good : Nat → Bool) (r : RefDyn) :
    { r with bad := (List.range 4).filter (fun t => !good t) : RefDyn }.lowest = (List.range 4).find? good := by
  refine List.find?_congr fun k hk => ?_
  cases h : good k <;> simp [h, List.mem_range.1 hk]

theorem bootGo_starts (hon : b.pow.st = .on) (hr : b.boot.run = false) {good : Nat → Bool} (hg : ∃ k < 4, good k = true)
    (hd : b.grm.dead = false) : b.bootGo good =
      if b.straps.test then ((b.romRunning good).setResult false 11).setResult true 11
      else ((b.romRunning good).takeTree.wr .coreServices 0 0 1).readNext := by
  obtain ⟨k, hk, hgk⟩ := hg
  have hlow : ((List.range 4).find? good).isNone = false := by
    rw [Option.isNone_eq_false_iff, List.find?_isSome]
    exact ⟨k, List.mem_range.2 hk, hgk⟩
  unfold bootGo
  extract_lets _ refs
  have hrefs : refs.lowest = (List.range 4).find? good := lowest_of_good good b.refs
  rw [if_neg (by simp [hon, hr, hd, hrefs, hlow])]
  rfl

theorem bootGo_test (hon : b.pow.st = .on) (hr : b.boot.run = false) {good : Nat → Bool} (hg : ∃ k < 4, good k = true)
    (hd : b.grm.dead = false) (ht : b.straps.test = true) :
    (b.bootGo good).boot.run = true ∧ (b.bootGo good).rd .bootResultA 0 = 11 ∧ (b.bootGo good).rd .bootResultB 0 = 11 := by
  rw [bootGo_starts hon hr hg hd, if_pos ht, setResult, setResult, if_pos rfl, if_neg (by decide), wr_rd_fld _ (by decide), wr_rd_self, wr_rd_self]
  exact ⟨rfl, rfl, rfl⟩

theorem bootGo_spi (hon : b.pow.st = .on) (hr : b.boot.run = false) {good : Nat → Bool} (hg : ∃ k < 4, good k = true)
    (hd : b.grm.dead = false) (ht : b.straps.test = false) (hn : b.nextCopy = some .spiA) :
    (b.bootGo good).boot.run = true ∧ (b.bootGo good).rd .coreServices 0 = 1 ∧ (b.bootGo good).rd .bootSource 0 = 0 ∧
      (b.bootGo good).rd .bootStage 0 = 1 ∧ (b.bootGo good).refs.core = (List.range 4).find? good := by
  have htree : Changes [.lmsReady, .lmsIndex] 0x4020000 (b.romRunning good) (b.romRunning good).takeTree := takeTree_fr _ rfl rfl (.refl ..)
  have hnext : ((b.romRunning good).takeTree.wr .coreServices 0 0 1).nextCopy = some .spiA := by
    rw [nextCopy_of_keeps (b := b) ((wr_rd_fld _ (by decide) ..).trans (htree.rd (by decide) ..)) (htree.part .straps rfl),
      show ((b.romRunning good).takeTree.wr .coreServices 0 0 1).boot = (b.romRunning good).boot from htree.part .boot rfl]
    exact hn
  rw [bootGo_starts hon hr hg hd, if_neg (by simp [ht]), readNext_spi hnext (by decide), setStage_boot, setStage_refs, setStage_rd (by decide),
    setStage_rd (by decide), setStage_stage _ (by decide), wr_rd_fld _ (by decide), wr_rd_self, wr_rd_self, wr_boot, wr_boot, wr_refs, wr_refs,
    show (b.romRunning good).takeTree.boot = _ from htree.part .boot rfl, show (b.romRunning good).takeTree.refs = _ from htree.part .refs rfl]
  exact ⟨rfl, rfl, rfl, rfl, lowest_of_good good b.refs⟩

/-! ### The STALL_GROUPS section (R344) -/

theorem groupsIn_shows (hg : b.groomRuns = true) (hs : b.straps.safe = false) (hst : b.rd .bootStage 0 = 1 ∨ b.rd .bootStage 0 = 2)
    (hno : b.sg.1 = []) (gs : List GroupRec) (ds : List SDieRec) :
    (b.groupsIn gs ds).sg = (gs, ds) ∧ (b.groupsIn gs ds).rd .bootStage 0 = 2 := by
  have hgo : ¬(!(b.groomRuns && !b.straps.safe && (b.stage == 1 || b.stage == 2) && b.sg.1.isEmpty)) = true := by
    rcases hst with h | h <;> simp [hg, hs, hno, stage, h]
  unfold groupsIn
  rw [if_neg hgo]
  extract_lets b1
  have hfr : Changes [.gstMode, .gstSynth] 0x1000 b1
      (b1.each (gs.map (·.g)) (fun b g => (b.grMod g (fun d => { d with form := b.rd .grpForm g })).clockIn g)) :=
    .each (fun c g h => clockIn_fr _ g rfl rfl (.grMod rfl h)) (.refl ..)
  exact ⟨(hfr.part .sg rfl).trans (setStage_sg ..), (hfr.rd (by decide) ..).trans (setStage_stage _ (by decide))⟩

/-! ### The check of a copy (R338, R342) -/

/-- The block with the result of copy A recorded, and the copy among those read. -/
def readA (b : Block) (c : ImageCopy) : Block :=
  let b1 := (b.flashSeen .spiA c).setResult false (b.checkCopy c)
  { b1 with boot := { b1.boot with read := b1.boot.read ++ [.spiA] } }

theorem readA_changes (b : Block) (c : ImageCopy) : Changes [.flashModeA, .flashClkA, .bootResultA] 0x2000000 b (b.readA c) := by
  have hflash : Changes [.flashModeA, .flashClkA, .bootResultA] 0x2000000 b (b.flashSeen .spiA c) :=
    .ite (.refl ..) (.wr rfl (.wr rfl (.refl ..)))
  exact .trans (.wr rfl hflash) (.upd (by simp [Nat.testBit]) (.refl ..))

theorem readA_boot (b : Block) (c : ImageCopy) : (b.readA c).boot = { b.boot with read := b.boot.read ++ [.spiA] } := by
  simp only [readA, flashSeen, setResult]
  split <;> rfl

theorem readA_result (b : Block) (c : ImageCopy) : (b.readA c).rd .bootResultA 0 = b.checkCopy c :=
  (wr_rd_self (b.flashSeen .spiA c) .bootResultA 0 0 _).trans (Nat.mod_eq_of_lt (checkCopy_lt b c))

theorem readA_nextCopy (b : Block) (c : ImageCopy) :
    (b.readA c).nextCopy = b.copyOrder.find? (fun x => !(b.boot.read ++ [ImgSrc.spiA]).contains x) := by
  have hfr := readA_changes b c
  rw [nextCopy_of_keeps (hfr.rd (by decide) ..) (hfr.part .straps rfl), readA_boot]

theorem copyDone_spiA (hg : b.groomRuns = true) (hst : b.rd .bootStage 0 = 1 ∨ b.rd .bootStage 0 = 2 ∨ b.rd .bootStage 0 = 3)
    (hn : b.nextCopy = some .spiA) (c : ImageCopy) : b.copyDone .spiA c =
      if b.checkCopy c == 1 then
        ({ b.readA c with boot := { (b.readA c).boot with passed := some (c.body, false) } }).setStage 4
      else if (b.readA c).nextCopy.isSome then ((b.readA c).wr .bootFallback 0 0 1).readNext
      else (b.readA c).readNext := by
  refine if_neg ?_
  rcases hst with h | h | h <;> simp [hg, hn, stage, h]

theorem copyDone_passes (hg : b.groomRuns = true) (hst : b.rd .bootStage 0 = 1 ∨ b.rd .bootStage 0 = 2 ∨ b.rd .bootStage 0 = 3)
    (hn : b.nextCopy = some .spiA) {c : ImageCopy} (hc : b.checkCopy c = 1) :
    (b.copyDone .spiA c).rd .bootResultA 0 = 1 ∧ (b.copyDone .spiA c).boot.passed = some (c.body, false) ∧
      (b.copyDone .spiA c).rd .bootStage 0 = 4 := by
  rw [copyDone_spiA hg hst hn, if_pos (by simp [hc]), setStage_boot, setStage_stage _ (by decide), setStage_rd (by decide)]
  exact ⟨(readA_result b c).trans hc, rfl, rfl⟩

theorem copyDone_fallsBack (hg : b.groomRuns = true) (hst : b.rd .bootStage 0 = 1 ∨ b.rd .bootStage 0 = 2 ∨ b.rd .bootStage 0 = 3)
    (hn : b.nextCopy = some .spiA) {c : ImageCopy} (hc : b.checkCopy c ≠ 1)
    (hnext : b.copyOrder.find? (fun x => !(b.boot.read ++ [ImgSrc.spiA]).contains x) = some .spiB) :
    (b.copyDone .spiA c).rd .bootResultA 0 = b.checkCopy c ∧ (b.copyDone .spiA c).boot.read = b.boot.read ++ [.spiA] ∧
      (b.copyDone .spiA c).rd .bootFallback 0 = 1 ∧ (b.copyDone .spiA c).rd .bootSource 0 = 1 ∧
      (b.copyDone .spiA c).rd .bootStage 0 = 1 := by
  have hnextA : (b.readA c).nextCopy = some .spiB := (readA_nextCopy b c).trans hnext
  have hnextB : ((b.readA c).wr .bootFallback 0 0 1).nextCopy = some .spiB := by
    rw [nextCopy_of_keeps (b := b.readA c) (wr_rd_fld _ (by decide) ..) rfl]
    exact hnextA
  rw [copyDone_spiA hg hst hn, if_neg (by simp [hc]), if_pos (by rw [hnextA]; rfl), readNext_spi hnextB (by decide), setStage_boot,
    setStage_stage _ (by decide), setStage_rd (by decide), setStage_rd (by decide), setStage_rd (by decide), wr_boot, wr_boot, readA_boot,
    wr_rd_fld _ (by decide), wr_rd_fld _ (by decide), wr_rd_fld _ (by decide), wr_rd_self, wr_rd_self, readA_result]
  exact ⟨rfl, rfl, rfl, rfl, rfl⟩

theorem copyDone_recovers (hg : b.groomRuns = true) (hst : b.rd .bootStage 0 = 1 ∨ b.rd .bootStage 0 = 2 ∨ b.rd .bootStage 0 = 3)
    (hn : b.nextCopy = some .spiA) {c : ImageCopy} (hc : b.checkCopy c ≠ 1)
    (hnext : b.copyOrder.find? (fun x => !(b.boot.read ++ [ImgSrc.spiA]).contains x) = none) :
    (b.copyDone .spiA c).rd .bootSource 0 = 3 ∧ (b.copyDone .spiA c).rd .bootStage 0 = 6 := by
  have hnextA : (b.readA c).nextCopy = none := (readA_nextCopy b c).trans hnext
  rw [copyDone_spiA hg hst hn, if_neg (by simp [hc]), if_neg (by rw [hnextA]; decide), readNext_none hnextA]
  obtain ⟨hstage, hsrc, -⟩ := recoveryIn_shows (b.readA c)
  exact ⟨hsrc, hstage⟩

/-! ### Readiness (R343) -/

/-- What readiness does to a group: the clocks of its form, a reset where its settings changed, and no bar on training. -/
def groupReady (old new : List GroupRec × List SDieRec) (b : Block) (g : Nat) : Block :=
  let b' := if old.1.isEmpty then (b.grMod g (fun d => { d with form := b.rd .grpForm g })).clockIn g
    else if groupDiffers old new g then b.groupReset g else b
  if (b'.gr g).waits || (b'.gr g).barred then b'.grMod g (fun d => { d with waits := false, barred := false }) else b'

/-- What readiness does to a port: its slot is powered on where the image asks for that. -/
def autoPower (b : Block) (p : Nat) : Block :=
  if b.slotSt p == 0 && (b.pin p).prsnt && optD (b.portRec? p) false (·.autoOn) then b.powerOn p else b

theorem groupReady_keeps (old new : List GroupRec × List SDieRec) (b : Block) (g : Nat) :
    (groupReady old new b g).img = b.img ∧ (groupReady old new b g).sg = b.sg := by
  have hfr : Fr anyField 0x7404d57c6 b (groupReady old new b g) := by
    have hb' : Fr anyField 0x7404d57c6 b
        (if old.1.isEmpty then (b.grMod g (fun d => { d with form := b.rd .grpForm g })).clockIn g
          else if groupDiffers old new g then b.groupReset g else b) :=
      .ite (clockIn_fr _ g rfl rfl (.grMod rfl (.refl ..))) (.ite (groupReset_fr _ g rfl rfl (.refl ..)) (.refl ..))
    exact .ite (.grMod rfl hb') hb'
  exact ⟨hfr.part .img rfl, hfr.part .sg rfl⟩

/-- The block with the passed image in force, before its groups are set up. -/
def imageTaken (b : Block) (im : Image) : Block :=
  ({ b with img := some im, sg := (im.groups, im.sdies), boot := { b.boot with passed := none } }).unset
    (fun (k : RKey) => k.fld.attr.rst == RstK.image)

/-- The block with the groups set up as the image has them. -/
def groupsSet (b : Block) (im : Image) : Block :=
  (b.imageTaken im).each (List.range 56) (groupReady b.sg (im.groups, im.sdies))

theorem groupsSet_image (b : Block) (im : Image) :
    (b.groupsSet im).img = some im ∧ (b.groupsSet im).sg = (im.groups, im.sdies) := by
  refine each_inv (P := fun c => c.img = some im ∧ c.sg = (im.groups, im.sdies)) (fun c g _ hc => ?_) ⟨rfl, rfl⟩
  obtain ⟨himg, hsg⟩ := groupReady_keeps b.sg (im.groups, im.sdies) c g
  rw [himg, hsg]
  exact hc

/-- The block at stage 5 with the image in force, before slots are powered on. -/
def imageSet (b : Block) (im : Image) (copyB : Bool) : Block :=
  let b2 := b.groupsSet im
  let b3 := (b2.bucketFill.wr .gaitTarget 0 0 (b2.gaitClamp (b2.rd .gaitTarget 0))).wr .bootCopy 0 0 (b2n copyB)
  { b3 with grm := { b3.grm with leafKey := b3.freeCtr } }.useFree.setStage 5

theorem ready_takes {im : Image} {copyB : Bool} (hp : b.boot.passed = some (im, copyB)) (hg : b.groomRuns = true)
    (hst : b.rd .bootStage 0 = 4) : b.ready = ((b.imageSet im copyB).each (List.range 64) autoPower).gaitFollow := by
  unfold ready
  rw [hp]
  exact if_neg (by simp [hg, stage, hst])

theorem imageSet_shows (b : Block) (im : Image) (copyB : Bool) : (b.imageSet im copyB).img = some im ∧
    (b.imageSet im copyB).sg = (im.groups, im.sdies) ∧ (b.imageSet im copyB).rd .bootStage 0 = 5 ∧
      (b.imageSet im copyB).rd .bootCopy 0 = b2n copyB := by
  have hfill : Fr 0 0x100000 (b.groupsSet im) (b.groupsSet im).bucketFill := bucketFill_fr _ rfl rfl (.refl ..)
  obtain ⟨himg, hsg⟩ := groupsSet_image b im
  unfold imageSet
  extract_lets b2 b3
  refine ⟨?_, ?_, setStage_stage _ (by decide), ?_⟩
  · rw [setStage_img]
    exact (hfill.part .img rfl).trans himg
  · rw [setStage_sg]
    exact (hfill.part .sg rfl).trans hsg
  · rw [setStage_rd (by decide), useFree_rd]
    have hcopy : b3.rd .bootCopy 0 = b2n copyB % 2 := wr_rd_self ..
    exact hcopy.trans (by cases copyB <;> rfl)

/-- R343: the image is in force at stage 5, its copy named. -/
theorem ready_shows {im : Image} {copyB : Bool} (hp : b.boot.passed = some (im, copyB)) (hg : b.groomRuns = true)
    (hst : b.rd .bootStage 0 = 4) : b.ready.img = some im ∧ b.ready.sg = (im.groups, im.sdies) ∧ b.ready.rd .bootStage 0 = 5 ∧
      b.ready.rd .bootCopy 0 = b2n copyB := by
  have hend : Changes [.srcState, .slotPwrState, .slotSeqDone, .cfgPmeSts, .gaitCurrent] 0x40007240 (b.imageSet im copyB)
      ((b.imageSet im copyB).each (List.range 64) autoPower).gaitFollow :=
    gaitFollow_fr _ rfl rfl (.each (fun c p h => .ite (powerOn_fr c p rfl rfl h) h) (.refl ..))
  rw [ready_takes hp hg hst, hend.part .img rfl, hend.part .sg rfl, hend.rd (by decide), hend.rd (by decide)]
  exact imageSet_shows b im copyB

/-! ### Activation (R346) -/

theorem groomReady_of_stage (hg : b.groomRuns = true) (hst : b.rd .bootStage 0 = 5) : b.groomReady = true := by
  simp [groomReady, hg, stage, hst]

/-- R346: activation names the copy in a field that module reset keeps; an update in progress defers the reset. -/
theorem activate_shows (hg : b.groomRuns = true) (hst : b.rd .bootStage 0 = 5) (copyB : Bool) :
    (b.activate copyB).rd .bootCtlNext 0 = (if copyB then 2 else 1) ∧ (b.grm.upd.isSome = true → (b.activate copyB).grm.deferred = true) ∧
      (b.grm.upd = none → (b.activate copyB).img = none ∧ (b.activate copyB).time = 0) := by
  have hgo : b.activate copyB = (b.wr .bootCtlNext 0 0 (if copyB then 2 else 1)).askReset := if_pos (groomReady_of_stage hg hst)
  have hctl : (b.wr .bootCtlNext 0 0 (if copyB then 2 else 1)).rd .bootCtlNext 0 = if copyB then 2 else 1 :=
    (wr_rd_self ..).trans (by cases copyB <;> rfl)
  rw [hgo, askReset, wr_grm]
  split
  · next h => exact ⟨hctl, fun _ => rfl, fun hn => by simp [hn] at h⟩
  · next h =>
    obtain ⟨-, htime, himg⟩ := moduleReset_starts (b.wr .bootCtlNext 0 0 (if copyB then 2 else 1))
    exact ⟨(moduleReset_rd_cold rfl rfl ..).trans hctl, fun hs => absurd hs h, fun _ => ⟨himg, htime⟩⟩

/-! ### The fetch over the ring (R372) -/

theorem imgReqSend_boot (b : Block) (r : ImgReq) : (b.imgReqSend r).boot = b.boot :=
  (imgReqSend_fr (fm := 0) (fq := 0x48000000) b r rfl rfl (.refl ..)).part .boot rfl

/-- What is asked for does not change the length of the image. -/
theorem imgPump_total (b : Block) (n : Nat) : (b.imgPump n).boot.total = b.boot.total := by
  induction n generalizing b with
  | zero => rfl
  | succ n ih =>
    unfold imgPump
    extract_lets k want r
    split
    · rfl
    · rw [ih, imgReqSend_boot]

/-- R372: the header that comes first gives the length of the image. -/
theorem imgData_header {r : ImgReq} {data : List Byte} (ht : b.boot.total = none)
    (hr : b.boot.reqs.find? (fun x => x.off == 0) = some r) (hl : 12 ≤ min data.length r.len) :
    (b.imgData 0 data).boot.total = some (leNat ((data.drop 8).take 4) + 5812) := by
  have htotal : (if ((0 : Nat) == 0 && decide (12 ≤ min data.length r.len)) = true then some (leNat ((data.drop 8).take 4) + 5812) else none)
      = some (leNat ((data.drop 8).take 4) + 5812) := if_pos (by simpa using hl)
  simp only [imgData, hr, ht, imgPump_total, apply_ite Block.boot, imgReqSend_boot, ite_self, htotal]

theorem imgLate_repeats {r : ImgReq} {t : List ImgReq} (h : b.boot.reqs = r :: t) (hr : r.reps < 64) :
    b.imgLate.boot.reqs = t ++ [{ r with reps := r.reps + 1 }] := by
  have hgo : b.imgLate = { b with boot := { b.boot with reqs := t ++ [{ r with reps := r.reps + 1 }] } }.imgReqSend r := by
    rw [imgLate, h]
    exact if_neg (by omega)
  rw [hgo, imgReqSend_boot]

theorem imgLate_gives_up {r : ImgReq} {t : List ImgReq} (h : b.boot.reqs = r :: t) (hr : 64 ≤ r.reps) : b.imgLate = b.recoveryIn := by
  rw [imgLate, h]
  exact if_pos hr

end boot
end Block

/-- A reference clock of a mask that is not 0 is good. -/
theorem exists_good_of_ne_zero : ∀ good : BitVec 4, good ≠ 0 → ∃ k < 4, bit good.toNat k = true := by decide

/-- Settles O23: the boot ROM to the next copy, the copies to readiness or recovery, then what a running module takes. -/
theorem bootAndImage : Obligations.BootAndImage := by
  unfold Obligations.BootAndImage
  refine ⟨fun s good hon hr hgood hd => ?rom, fun s gs ds hg hs hst hno => ?groups, fun s c hg hst hn => ?check,
    fun s im copyB hp hg hst => ?ready, fun s im him hg hst => ?svn, fun s copyB hg hst => ?activate, fun s hg ht => ?tree,
    fun s r data hg hring ht hr hl => ?header, fun s r t hg hreqs => ?late⟩
  case rom =>
    have hex := exists_good_of_ne_zero good hgood
    refine ⟨fun ht => State.does_of_on (·.bootGo fun t => bit good.toNat t) rfl ?_,
      fun ht hn => State.does_of_on (·.bootGo fun t => bit good.toNat t) rfl ?_⟩
    · simpa only [Block.canon_rd, Block.canon_boot] using Block.bootGo_test hon hr hex hd ht
    · simpa only [Block.canon_rd, Block.canon_boot, Block.canon_refs] using Block.bootGo_spi hon hr hex hd ht hn
  case groups =>
    refine State.does_of_on (·.groupsIn gs ds) rfl ?_
    simpa only [Block.canon_rd, Block.canon_sg] using Block.groupsIn_shows hg hs hst hno gs ds
  case check =>
    refine ⟨fun hc => State.does_of_on (·.copyDone .spiA c) rfl ?_, fun hc hnext => State.does_of_on (·.copyDone .spiA c) rfl ?_,
      fun hc hnext => State.does_of_on (·.copyDone .spiA c) rfl ?_⟩
    · simpa only [Block.canon_rd, Block.canon_boot] using Block.copyDone_passes hg hst hn hc
    · simpa only [Block.canon_rd, Block.canon_boot] using Block.copyDone_fallsBack hg hst hn hc hnext
    · simpa only [Block.canon_rd] using Block.copyDone_recovers hg hst hn hc hnext
  case ready =>
    refine State.does_of_on (·.ready) rfl ?_
    simpa only [Block.canon_rd, Block.canon_img, Block.canon_sg] using Block.ready_shows hp hg hst
  case svn =>
    refine State.does_of_on (·.svnAdvance) rfl ?_
    rw [Block.canon_fuses, Block.svnAdvance, him]
    simp [Block.groomReady_of_stage hg hst]
  case activate =>
    refine State.does_of_on (·.activate copyB) rfl ?_
    simpa only [Block.canon_rd, Block.canon_grm, Block.canon_img, Block.canon_time] using Block.activate_shows hg hst copyB
  case tree =>
    refine State.does_of_on (·.treeDone) rfl ?_
    rw [Block.canon_rd, Block.treeDone, if_pos (by simp [hg, ht])]
    exact Block.wr_rd_self s.blk .lmsReady 0 0 1
  case header =>
    refine State.does_of_on _ rfl ?_
    rw [if_pos (by simp [hg, Block.inRing, hring]), Block.canon_boot]
    exact Block.imgData_header ht hr hl
  case late =>
    have hgo : (if s.blk.groomRuns then s.blk.imgLate else s.blk) = s.blk.imgLate := if_pos hg
    refine ⟨fun hr => State.does_of_on _ rfl ?_, fun hr => State.does_of_on _ rfl ?_⟩
    · rw [hgo, Block.canon_boot]
      exact Block.imgLate_repeats hreqs hr
    · rw [hgo, Block.imgLate_gives_up hreqs hr, Block.canon_rd, Block.canon_rd, Block.canon_boot]
      exact Block.recoveryIn_shows s.blk

end Sys2Proof.Machine
end

section
/-! PROOFS. The services of the Groom (O26) and image update (O27): a request that is served at once, and what each answers. -/
namespace Sys2Proof.Machine
namespace Block

section services
variable {b : Block} {tr : Transport}

/-! ### A request served as it arrives (R358) -/

theorem reaches_of_serves (h : b.serves tr = true) : b.reaches tr = true := (Bool.and_eq_true_iff.1 h).1

theorem serve_served (h : b.serves tr = true) (g : Block → Block) : b.serve tr true g = g b := by
  have hreach := reaches_of_serves h
  have hfree : b.grm.queue.contains tr = false := by simpa using (Bool.and_eq_true_iff.1 h).2
  rw [serve, arrive_reached hreach, if_neg (by simp only [hfree]; decide), if_neg (by simp [not_shed_of_reaches hreach])]

theorem serve_board (hb : boardSide tr = true) (h : b.serves tr = true) (g : Block → Block) : b.serve tr (boardSide tr) g = g b := by
  rw [hb, serve_served h]

theorem serve_mctp (hm : mctpSide tr = true) (h : b.serves tr = true) (g : Block → Block) : b.serve tr (mctpSide tr) g = g b := by
  rw [hm, serve_served h]

/-- An answer over MCTP is sent; only one into a DOE mailbox can raise a vector. -/
theorem answer_mctp (hm : mctpSide tr = true) (b : Block) (a : Ans) : b.answer tr a = b.emit (.mgmt tr a) := by
  cases tr with
  | doe f => exact absurd hm Bool.false_ne_true
  | smbus | halter | vdm l => rfl

theorem mctpSide_of_boardSide (hb : boardSide tr = true) : mctpSide tr = true := by
  cases tr with
  | doe f => exact absurd hb Bool.false_ne_true
  | smbus | halter | vdm l => rfl

theorem answer_board (hb : boardSide tr = true) (b : Block) (a : Ans) : b.answer tr a = b.emit (.mgmt tr a) :=
  answer_mctp (mctpSide_of_boardSide hb) b a

/-! ### Register access (R363) -/

theorem regsRead_out (b : Block) (a n : Nat) (acc : List Nat) : (b.regsRead a n acc).1.out = b.out :=
  (regsRead_fr (fm := anyField) (fq := 0x2) b a n acc rfl rfl (.refl ..)).part .out rfl

/-- R363: a read answers one dword for each that it asks for. -/
theorem regsRead_length (b : Block) (a n : Nat) (acc : List Nat) : (b.regsRead a n acc).2.length = acc.length + n := by
  induction n generalizing b a acc with
  | zero => simp [regsRead]
  | succ n ih =>
    unfold regsRead
    split <;> rw [ih, List.length_cons] <;> omega

theorem accRead_good (hb : boardSide tr = true) (hs : b.serves tr = true) {a n : Nat} (hok : accessOk a n = true) :
    ∃ l, (b.accRead tr a n).out = .mgmt tr (.reg 0 l) :: b.out ∧ l.length = n := by
  rw [accRead, serve_board hb hs, if_neg (by simp [hok]), answer_board hb, emit_out, regsRead_out]
  exact ⟨_, rfl, by simp [regsRead_length]⟩

theorem accRead_bad (hb : boardSide tr = true) (hs : b.serves tr = true) {a n : Nat} (hbad : accessOk a n = false) :
    (b.accRead tr a n).out = .mgmt tr (.reg 2 []) :: b.out := by
  rw [accRead, serve_board hb hs, if_pos (by simp [hbad]), answer_board hb, emit_out]

theorem bypassWrite_rd (b : Block) (v : Bool) : (b.bypassWrite v).rd .haltBypass 0 = b2n v := by
  have hwr : (b.wr .haltBypass 0 0 (b2n v)).rd .haltBypass 0 = b2n v := by
    rw [wr_rd_self]
    cases v <;> rfl
  have hclose : Changes [.haltInRing, .haltCntBypasses] 0 (b.wr .haltBypass 0 0 (b2n v)) (b.wr .haltBypass 0 0 (b2n v)).bypassClose :=
    bypassClose_fr _ rfl rfl (.refl ..)
  unfold bypassWrite
  extract_lets b1
  split
  · exact (hclose.rd (by decide) ..).trans hwr
  · exact hwr

/-- R373: a closed bypass takes the module out of the ring. -/
theorem bypassClose_leaves (b : Block) : b.bypassClose.flag .haltInRing 0 = false := by
  unfold bypassClose
  split
  · rw [flag, incSat, wr_rd_fld _ (by decide), wr_rd_self]
    rfl
  · next h => exact Bool.not_eq_true _ ▸ h

theorem accWrite_bypass (hb : boardSide tr = true) (hs : b.serves tr = true) {a v : Nat} {r : RegRef} (hok : accessOk a 1 = true)
    (hst : 5 ≤ b.rd .bootStage 0) (hr : internalReg a = some r) (hreg : r.reg = .haltCtrl) :
    (b.accWrite tr a [v]).rd .haltBypass 0 = b2n (bit v 0) ∧ .mgmt tr (.reg 0 []) ∈ (b.accWrite tr a [v]).out := by
  have hgo : b.accWrite tr a [v] = (b.bypassWrite (bit v 0)).emit (.mgmt tr (.reg 0 [])) := by
    have hwrite : b.internalWrite a v = b.bypassWrite (bit v 0) := by
      simp only [internalWrite, hr, hreg]
    rw [accWrite, serve_board hb hs, if_neg (by simp [hok]), if_neg (by simp [stage]; omega), answer_board hb]
    exact congrArg (emit · _) hwrite
  rw [hgo, emit_rd, bypassWrite_rd, emit_out]
  exact ⟨rfl, List.mem_cons_self⟩

theorem accWrite_early (hb : boardSide tr = true) (hs : b.serves tr = true) {a : Nat} {ds : List Nat} (hok : accessOk a ds.length = true)
    (hst : b.rd .bootStage 0 ≤ 4) : b.accWrite tr a ds = b.emit (.mgmt tr (.reg 3 [])) := by
  rw [accWrite, serve_board hb hs, if_neg (by simp [hok]), if_pos (by simpa [stage]), answer_board hb]

theorem accReset_takes (hb : boardSide tr = true) (hs : b.serves tr = true) (hd : b.grm.deferred = false) :
    b.accReset tr = (b.emit (.mgmt tr (.reg 0 []))).askReset := by
  rw [accReset, serve_board hb hs, if_neg (by simp [hd]), answer_board hb]

theorem askReset_now (hu : b.grm.upd = none) : b.askReset.img = none ∧ b.askReset.time = 0 ∧ b.askReset.out = b.out := by
  have hgo : b.askReset = b.moduleReset := if_neg (by simp [hu])
  obtain ⟨-, htime, himg⟩ := moduleReset_starts b
  rw [hgo]
  exact ⟨himg, htime, moduleReset_out b⟩

theorem askReset_deferred (hu : b.grm.upd ≠ none) : b.askReset.grm.deferred = true := by
  rw [askReset, if_pos (Option.isSome_iff_ne_none.2 hu)]

/-- R375: the unlock object in a register access over SMBus, its signature good or not. -/
def debugUnlocked (b : Block) (ok : Bool) : Block :=
  b.serve .smbus true (fun b => (if ok then { b with tap := { b.tap with debug := true } } else b).answer .smbus (.reg 0 []))

/-! ### Image update (R365, R366) -/

theorem pldm_opens (hb : boardSide tr = true) (hs : b.serves tr = true) {copyB : Bool} {n : Nat} (h64 : 64 ≤ n) (h4k : n ≤ 4096)
    (hst : b.rd .bootStage 0 = 6 ∨ b.rd .bootStage 0 = 5 ∧ b.flag .bootCopy 0 ≠ copyB) (hd : b.grm.deferred = false)
    (hu : b.grm.upd = none) :
    b.pldm tr copyB n none = (b.gMod (fun g => { g with upd := some ⟨tr, copyB, n⟩ })).emit (.mgmt tr (.pldm true)) := by
  have hgo : ¬(!(decide (64 ≤ n) && decide (n ≤ 4096)) || decide (b.stage < 5) || (b.stage == 5 && b.flag .bootCopy 0 == copyB) ||
      b.grm.deferred) = true := by
    rcases hst with h | ⟨h, hc⟩
    · simp [h64, h4k, stage, h, hd]
    · simp [h64, h4k, stage, h, hd, hc]
  rw [pldm, serve_board hb hs, if_neg hgo, hu]
  exact answer_board hb ..

theorem pldm_missized (hb : boardSide tr = true) (hs : b.serves tr = true) {n : Nat} (hn : ¬(64 ≤ n ∧ n ≤ 4096)) (copyB : Bool)
    (last : Option ImageCopy) : b.pldm tr copyB n last = b.emit (.mgmt tr (.pldm false)) := by
  have hbad : (decide (64 ≤ n) && decide (n ≤ 4096)) = false := by simpa using hn
  rw [pldm, serve_board hb hs, if_pos (by simp only [hbad]; rfl), answer_board hb]

theorem updateIdle_abandons (hd : b.grm.deferred = false) : b.updateIdle = b.gMod (fun g => { g with upd := none }) :=
  if_neg (by simp [hd])

theorem updateIdle_resets (hd : b.grm.deferred = true) : b.updateIdle = (b.gMod (fun g => { g with upd := none })).moduleReset := by
  unfold updateIdle
  extract_lets b1
  have hb1 : b1 = b.gMod (fun g => { g with upd := none }) := rfl
  have hd1 : b1.grm.deferred = true := hd
  clear_value b1
  rw [if_pos hd1, hb1]

end services
end Block

/-- A command whose operation ends in module reset leaves no image, at time 0. -/
theorem State.does_moduleReset {s : State} {c : Instr} {g : Block → Block} {d : Block} (hc : exec c s = s.on g)
    (hg : g s.blk = d.moduleReset) : s.does c fun b => b.img = none ∧ b.time = 0 := by
  refine State.does_of_on g hc ?_
  obtain ⟨-, htime, himg⟩ := Block.moduleReset_starts d
  rw [hg, Block.canon_img, Block.canon_time]
  exact ⟨himg, htime⟩

theorem State.exec_debugUnlock (s : State) (ok : Bool) : exec (.debugUnlock ok) s = s.on (·.debugUnlocked ok) :=
  (rfl : exec (.debugUnlock ok) s = execDebugUnlock ok s)

/-- Settles O26: register access and module reset on board firmware's transports, then sensors, endpoint IDs, bypass and unlock. -/
theorem groomServices : Obligations.GroomServices := by
  unfold Obligations.GroomServices
  refine ⟨fun s tr hb hs => ⟨fun a n hok => State.does_of_on (·.accRead tr a n) rfl ?_,
      fun a n hbad => State.does_of_on (·.accRead tr a n) rfl ?_, fun a w r hok hst hr hreg => State.does_of_on (·.accWrite tr a [w.toNat]) rfl ?_,
      fun a ws hok hst => State.does_of_on (·.accWrite tr a (ws.map BitVec.toNat)) rfl ?_, fun hd hu => State.does_of_on (·.accReset tr) rfl ?_,
      fun hd hu => State.does_of_on (·.accReset tr) rfl ?_⟩,
    fun s tr hm hs => ⟨fun n h1 h25 => State.does_of_on (·.sensorRead tr n) rfl ?_, fun e h1 h254 => State.does_of_on (·.eidSet tr e) rfl ?_⟩,
    fun s v hin => State.does_of_on (fun b => if b.inService then b.bypassWrite v else b) rfl ?_,
    fun s k hs => State.does_of_on (·.debugUnlocked k) (State.exec_debugUnlock s k) ?_⟩
  · simpa only [Block.canon_out] using Block.accRead_good hb hs hok
  · simpa only [Block.canon_out] using Block.accRead_bad hb hs hbad
  · simpa only [Block.canon_rd, Block.canon_out] using Block.accWrite_bypass hb hs hok hst hr hreg
  · have hgo := Block.accWrite_early (ds := ws.map BitVec.toNat) hb hs (by simpa using hok) hst
    simp only [hgo, Block.canon_out, Block.canon_rd, Block.emit_out, Block.emit_rd, implies_true, and_self]
  · rw [Block.canon_img, Block.canon_time, Block.canon_out, Block.accReset_takes hb hs hd]
    exact Block.askReset_now hu
  · rw [Block.canon_grm, Block.accReset_takes hb hs hd]
    exact Block.askReset_deferred hu
  · rw [Block.canon_out, Block.sensorRead, Block.serve_mctp hm hs, if_pos (by simp [h1, h25]), Block.answer_mctp hm, Block.emit_out]
  · rw [Block.canon_grm, Block.canon_out, Block.eidSet, Block.serve_mctp hm hs, if_pos (by simp [h1, h254]), Block.answer_mctp hm, Block.emit_out]
    exact ⟨List.mem_cons_self, rfl⟩
  · rw [if_pos hin, Block.canon_rd, Block.canon_flag, Block.bypassWrite_rd]
    exact ⟨rfl, fun hv => by rw [hv]; exact Block.bypassClose_leaves _⟩
  · rw [Block.canon_tap, Block.debugUnlocked, Block.serve_served hs, Block.answer_board rfl]
    cases k <;> simp

/-- Settles O27: a transfer that opens the update, one of a wrong size, the end of an idle update and of a deferral. -/
theorem imageUpdate : Obligations.ImageUpdate := by
  unfold Obligations.ImageUpdate
  refine ⟨fun s tr copyB n hb hs h64 h4k hst hd hu => State.does_of_on (·.pldm tr copyB n none) rfl ?_,
    fun s tr copyB n l hb hs hn => State.does_of_on (·.pldm tr copyB n l) rfl ?_, fun s hd => State.does_of_on (·.updateIdle) rfl ?_,
    fun s hd => ⟨State.does_moduleReset (g := (·.updateIdle)) rfl (Block.updateIdle_resets hd),
      State.does_moduleReset (g := (·.deferredGo)) rfl (if_pos hd)⟩⟩
  · rw [Block.canon_grm, Block.canon_out, Block.pldm_opens hb hs h64 h4k hst hd hu]
    exact ⟨rfl, rfl⟩
  · rw [Block.canon_grm, Block.canon_out, Block.pldm_missized hb hs hn]
    exact ⟨rfl, rfl⟩
  · simp only [Block.updateIdle_abandons hd, Block.canon_grm, Block.canon_rd, Block.gMod_grm, Block.gMod_rd, implies_true, and_self]

end Sys2Proof.Machine
end

section
/-! PROOFS. SPDM requests (O28) and TDISP requests (O30): what an answer sends, the connection of a transport, then each request. -/
namespace Sys2Proof.Machine
namespace Block

/-! ### What an answer sends -/

section sends
variable (b : Block)

/-- A Memory Write that is posted goes out or waits; nothing sent before is taken back. -/
theorem postAt_out (l : Nat) (w : PWr) : b.out <:+ (b.postAt l w).out := by
  unfold postAt
  split
  · extract_lets w'
    rw [emit_out, lkMod_out]
    exact List.suffix_cons ..
  · extract_lets b1
    have hexit : (b1.l1Exit l).out = b1.out := (l1Exit_fr (fm := anyField) (fq := 0x5100) b1 l rfl rfl (.refl ..)).part .out rfl
    split
    · rw [hexit]
      exact List.suffix_rfl
    · exact List.suffix_rfl

theorem post_out (l : Nat) (w : PWr) : b.out <:+ (b.post l w).out := by
  unfold post
  split
  · exact postAt_out b l w
  · split
    · exact List.suffix_rfl
    · exact postAt_out (b.cross _ _ _ _) l w

theorem vecSend_out (f vec : Nat) : b.out <:+ (b.vecSend f vec).out := by
  unfold vecSend
  split
  · exact List.suffix_rfl
  · exact post_out ..

/-- An answer is sent; a vector for the mailbox may follow it. -/
theorem answer_out (tr : Transport) (a : Ans) : .mgmt tr a :: b.out <:+ (b.answer tr a).out := by
  unfold answer
  split
  · next f =>
    extract_lets b1
    split
    · exact vecSend_out b1 f.val 0
    · exact List.suffix_rfl
  · exact List.suffix_rfl

end sends

/-! ### SPDM: requests served, and the connection of a transport (R349) -/

section spdm
variable {b : Block} {tr : Transport}

theorem spdmServe_ready {n : Nat} (h : b.spdmReady tr n = true) (g : Block → Block) : b.spdmServe tr n g = g b := by
  simp only [spdmReady, Bool.and_eq_true, beq_iff_eq, decide_eq_true_eq] at h
  obtain ⟨⟨hserves, hstage⟩, hconn⟩ := h
  rw [spdmServe, serve_served hserves, if_neg (by simp [hstage]), if_neg (by omega)]

@[simp] theorem spdm_grm (b : Block) (tr : Transport) (r : SpdmRsp) : (b.spdm tr r).grm = b.grm :=
  (answer_fr (fm := anyField) (fq := 0x440005300) b tr (.spdm r) rfl rfl (.refl ..)).part .grm rfl

/-- The fields that an answer may change (answer_fr). -/
def answerMask : Nat := 0x40000000000000000000000000000000000000000000004018008000000000000000000000000000000000000000000

theorem spdm_rd {f : Fld} (hf : answerMask.testBit f.ctorIdx = false) (b : Block) (tr : Transport) (r : SpdmRsp) (i j : Nat) :
    (b.spdm tr r).rd f i j = b.rd f i j :=
  (answer_fr (fm := answerMask) (fq := 0x440005300) b tr (.spdm r) rfl rfl (.refl ..)).reg f i j hf

/-- A response on top of what had been sent. -/
theorem says_spdm {c : Block} (ho : c.out = b.out) (tr : Transport) (r : SpdmRsp) : b.says (c.spdm tr r) tr r := by
  obtain ⟨l, hl⟩ := answer_out c tr (.spdm r)
  exact ⟨l, by rw [← ho]; exact hl.symm⟩

@[simp] theorem canon_says {c : Block} {r : SpdmRsp} : b.says c.canon tr r ↔ b.says c tr r := Iff.rfl

@[simp] theorem canon_conn (c : Block) (tr : Transport) : c.canon.conn tr = c.conn tr := rfl

theorem conn_of_grm {c : Block} (h : c.grm = b.grm) (tr : Transport) : c.conn tr = b.conn tr := by
  rw [conn, conn, h]

@[simp] theorem spdm_conn (b : Block) (tr u : Transport) (r : SpdmRsp) : (b.spdm tr r).conn u = b.conn u := conn_of_grm (spdm_grm ..) u

theorem conn_tr (b : Block) (tr : Transport) : (b.conn tr).tr = tr := by
  unfold conn
  cases h : b.grm.conns.find? (fun c => c.tr == tr) with
  | none => rfl
  | some c => simpa using List.find?_some h

theorem connMod_conn {g : Conn → Conn} (hg : (g (b.conn tr)).tr = tr) : (b.connMod tr g).conn tr = g (b.conn tr) := by
  simp only [conn, connMod, gMod_grm]
  rw [List.find?_cons_of_pos (by simpa [conn] using hg)]
  rfl

/-- A response with the connection of its transport changed. -/
theorem connMod_spdm {g : Conn → Conn} (hg : (g (b.conn tr)).tr = tr) (r : SpdmRsp) :
    b.says ((b.connMod tr g).spdm tr r) tr r ∧ ((b.connMod tr g).spdm tr r).conn tr = g (b.conn tr) := by
  rw [spdm_conn, connMod_conn hg]
  exact ⟨says_spdm (by rfl) .., rfl⟩

/-- R351: a signed response leaves its digest to be signed once. -/
theorem signRsp_shows (b : Block) (tr : Transport) (rsp : List Byte → SpdmRsp) : (∃ sig, b.says (b.signRsp tr rsp) tr (rsp sig)) ∧
    ((b.signRsp tr rsp).conn tr).signed ≠ none ∧ ((b.signRsp tr rsp).conn tr).stored = none := by
  unfold signRsp
  extract_lets sig digest
  clear_value sig digest
  rw [spdm_conn, connMod_conn (conn_tr ..)]
  exact ⟨⟨sig, says_spdm (by rfl) ..⟩, Option.some_ne_none _, rfl⟩

/-! ### SPDM: what each request answers -/

theorem getCert_says (b : Block) (tr : Transport) (slot off n : Nat) :
    if slot ≠ 0 ∨ (Config.certChain b.grm.leafKey).length ≤ off then b.says (b.getCert tr slot off n) tr (.error 1)
    else ∃ k, b.says (b.getCert tr slot off n) tr (.certificate (((Config.certChain b.grm.leafKey).drop off).take n) k) := by
  unfold getCert
  extract_lets chain d
  split
  · next h =>
    rw [if_pos (by simpa [chain] using h)]
    exact says_spdm (by rfl) ..
  · next h =>
    rw [if_neg (by simpa [chain] using h)]
    exact ⟨_, says_spdm (by rfl) ..⟩

/-- R350: one measurement, or for index 0 their number alone. -/
theorem getMeas_signs (b : Block) (tr : Transport) {i : Nat} (hi : i ≤ 5) :
    b.getMeas tr i = b.signRsp tr (.measurements 5 ((if i = 0 then [] else [i]).map (fun n => (n, b.meas n)))) := by
  unfold getMeas
  by_cases h0 : i = 0
  · simp [h0]
  · have h255 : i ≠ 255 := by omega
    simp [h0, h255, hi]

theorem chunkNext_shortens (h : (b.conn tr).rest ≠ []) : ((b.chunkNext tr).conn tr).rest.length < (b.conn tr).rest.length := by
  unfold chunkNext
  extract_lets r n
  have hr : r.length = (b.conn tr).rest.length := rfl
  have hpos := List.length_pos_iff.2 h
  rw [if_neg (by simpa [r] using h), spdm_conn, connMod_conn (conn_tr ..), show b.useFree.conn tr = b.conn tr from rfl, List.length_drop]
  omega

theorem counterSign_unsigned (h : (b.conn tr).signed = none) : b.counterSign tr = b.spdm tr (.countersigned 1 [] 0 []) := by
  simp only [counterSign, h]

/-- R351: the first countersignature of a response takes the next index of its tree. -/
theorem counterSign_signs {d : List Byte} (hd : (b.conn tr).signed = some d) (hn : (b.conn tr).stored = none)
    (hr : b.flag .lmsReady 0 = true) (hi : b.rd .lmsIndex 0 + 1 < 2 ^ 20) :
    ((b.counterSign tr).conn tr).stored ≠ none ∧ (b.counterSign tr).rd .lmsIndex 0 = b.rd .lmsIndex 0 + 1 := by
  simp only [counterSign, hd, hn, hr, if_neg (Nat.not_le.2 hi), Bool.not_true, Bool.false_eq_true, if_false]
  refine ⟨?_, (wr_rd_self ..).trans (Nat.mod_eq_of_lt hi)⟩
  rw [conn_of_grm (wr_grm ..), spdm_conn, connMod_conn (conn_tr ..)]
  exact Option.some_ne_none _

/-! ### TDISP (R353) -/

theorem tdiServe_ready {n f : Nat} (hs : b.spdmReady tr 3 = true) (ht : b.tdiSession tr n f = true) (hm : b.mode f 8 = true)
    (g : Block → Block) : b.tdiServe tr n f g = g b := by
  rw [tdiServe, spdmServe_ready hs, if_neg (by simp [ht]), if_neg (by simp [hm])]

theorem fnExists_of_tdiSession {n f : Nat} (h : b.tdiSession tr n f = true) : b.fnExists f = true := by
  cases tr with
  | doe g =>
    simp only [tdiSession, Bool.and_eq_true] at h
    exact h.1.1.1
  | smbus | halter | vdm l => exact absurd h Bool.false_ne_true

theorem tdiLock_locks {f : Nat} (h : b.lockOk f = true) : (b.tdiLock tr f).rd .tdiState f = 1 ∧
    (b.tdiLock tr f).rd .tdiIdent f = b.rd .xlbIdent (b.portOf f) % 2 ^ (Fld.attr .tdiIdent).width ∧
      b.says (b.tdiLock tr f) tr (.tdispAck true) := by
  rw [tdiLock, if_pos h, spdm_rd rfl, spdm_rd rfl]
  refine ⟨?_, ?_, says_spdm (by rfl) ..⟩
  · rw [wr_rd_fld _ (by decide), wr_rd_fld _ (by decide), wr_rd_self]
    rfl
  · rw [wr_rd_fld _ (by decide), wr_rd_self]

theorem tdiLock_refused {f : Nat} (h : b.lockOk f = false) : b.tdiLock tr f = b.spdm tr (.tdispAck false) := if_neg (by simp [h])

theorem tdiStart_runs {f : Nat} (h : b.rd .tdiState f = 1) : (b.tdiStart tr f).rd .tdiState f = 2 ∧
    b.says (b.tdiStart tr f) tr (.tdispAck true) := by
  rw [tdiStart, if_pos (by simp [h]), spdm_rd rfl, wr_rd_self]
  exact ⟨rfl, says_spdm (by rfl) ..⟩

theorem tdiStop_unlocked {f : Nat} (h : b.rd .tdiState f = 0) : b.tdiStop tr f = b.spdm tr (.tdispAck true) := if_pos (by simp [h])

/-- R353: the stop of a locked interface is a function reset that keeps the transport to answer. -/
theorem tdiStop_resets {f : Nat} (h : b.rd .tdiState f ≠ 0) :
    ((b.tdiStop tr f).fn f).flr ≠ none ∧ ((b.tdiStop tr f).fn f).stopRsp = some tr := by
  have hrun := flrBegin_runs (b.vfsReset f) f false
  rw [tdiStop, if_neg (by simp [h])]
  generalize (b.vfsReset f).flrBegin f false = c at hrun ⊢
  rw [fnMod_fn_self]
  exact ⟨hrun, rfl⟩

theorem tdiReport_on {f : Nat} (hf : b.fnExists f = true) (h : b.tdiOn f = true) : ∃ r i, b.says (b.tdiReport tr f) tr (.report r i) := by
  obtain ⟨r, hr⟩ := Option.isSome_iff_exists.1 hf
  simp only [tdiReport, hr, h, Bool.not_true, Bool.false_eq_true, if_false]
  exact ⟨_, _, says_spdm (by rfl) ..⟩

theorem tdiReport_off {f : Nat} (hf : b.fnExists f = true) (h : b.tdiOn f = false) : b.tdiReport tr f = b.spdm tr (.tdispAck false) := by
  obtain ⟨r, hr⟩ := Option.isSome_iff_exists.1 hf
  simp only [tdiReport, hr, h, Bool.not_false, if_true]

end spdm
end Block

section commands
variable {s : State} {tr : Transport}

/-- An SPDM request that is ready to be served does what its operation g shows. -/
theorem State.does_spdm {c : Instr} {n : Nat} {p : Block → Prop} (g : Block → Block) (hc : exec c s = s.on (·.spdmServe tr n g))
    (h : s.blk.spdmReady tr n = true) (hp : p (g s.blk).canon) : s.does c p :=
  State.does_of_on _ hc (by rwa [Block.spdmServe_ready h])

/-- So for a TDISP request. -/
theorem State.does_tdi {c : Instr} {n f : Nat} {p : Block → Prop} (g : Block → Block) (hc : exec c s = s.on (·.tdiServe tr n f g))
    (hs : s.blk.spdmReady tr 3 = true) (ht : s.blk.tdiSession tr n f = true) (hm : s.blk.mode f 8 = true) (hp : p (g s.blk).canon) :
    s.does c p :=
  State.does_of_on _ hc (by rwa [Block.tdiServe_ready hs ht hm])

end commands

/-- Settles O28: the requests that advance the connection, then those of an advanced one. -/
theorem spdmRequests : Obligations.SpdmRequests := by
  unfold Obligations.SpdmRequests
  refine ⟨fun s tr h => State.does_spdm _ rfl h ?version, fun s tr h => State.does_spdm _ rfl h ?capabilities,
    fun s tr h => State.does_spdm _ rfl h ?algorithms, fun s tr h => ⟨State.does_spdm _ rfl h ?digests,
    fun slot off n => State.does_spdm _ rfl h ?certificate, State.does_spdm _ rfl h ?challenge,
    fun i hi => State.does_spdm _ rfl h ?measurements, fun last => State.does_spdm _ rfl h ?chunkSend,
    fun hr => State.does_spdm _ rfl h ?chunkGet, fun off n => State.does_spdm _ rfl h ?chain, State.does_spdm _ rfl h ?hss,
    fun hn => State.does_spdm _ rfl h ?unsigned, fun d hd hn hr hi => State.does_spdm _ rfl h ?countersign⟩⟩
  case version =>
    obtain ⟨hsays, hconn⟩ :=
      Block.connMod_spdm (b := s.blk) (tr := tr) (g := fun _ => { tr := tr, stage := 1 }) rfl (.version [0x12, 0x13])
    exact ⟨hsays, congrArg Conn.stage hconn⟩
  case capabilities =>
    obtain ⟨hsays, hconn⟩ := Block.connMod_spdm (g := fun c => { c with stage := max c.stage 2 }) (Block.conn_tr s.blk tr) .capabilities
    exact ⟨hsays, congrArg Conn.stage hconn⟩
  case algorithms =>
    obtain ⟨hsays, hconn⟩ := Block.connMod_spdm (g := fun c => { c with stage := 3 }) (Block.conn_tr s.blk tr) .algorithms
    exact ⟨hsays, congrArg Conn.stage hconn⟩
  case digests => exact ⟨_, Block.says_spdm (by rfl) ..⟩
  case certificate => exact Block.getCert_says s.blk tr slot off n
  case challenge => exact Block.signRsp_shows s.blk tr .challengeAuth
  case measurements =>
    obtain ⟨⟨sig, hsays⟩, hsigned, -⟩ := Block.signRsp_shows s.blk tr
      (.measurements 5 ((if i = 0 then [] else [i]).map (fun n => (n, s.blk.meas n))))
    rw [Block.getMeas_signs _ _ hi]
    refine ⟨⟨_, sig, hsays, ?_⟩, hsigned⟩
    split <;> rfl
  case chunkSend =>
    obtain ⟨hsays, hconn⟩ :=
      Block.connMod_spdm (g := fun c => { c with chunks := if last then 0 else c.chunks + 1 }) (Block.conn_tr s.blk tr) (.chunkSendAck last)
    exact ⟨hsays, congrArg Conn.chunks hconn⟩
  case chunkGet => exact Block.chunkNext_shortens hr
  case chain =>
    simp only [Block.canon_says, Bool.and_eq_true, decide_eq_true_eq]
    split <;> exact Block.says_spdm (by rfl) ..
  case hss => exact Block.says_spdm (by rfl) ..
  case unsigned =>
    rw [Block.counterSign_unsigned hn]
    exact Block.says_spdm (by rfl) ..
  case countersign =>
    rw [Block.canon_conn, Block.canon_rd]
    exact Block.counterSign_signs hd hn hr hi

/-- Settles O30: lock and start by the state they write, stop by the function reset it starts, the report by the state it needs. -/
theorem tdiRequests : Obligations.TdiRequests := by
  unfold Obligations.TdiRequests
  intro s tr n f hs ht hm
  have hf := Block.fnExists_of_tdiSession ht
  refine ⟨fun h => State.does_tdi _ rfl hs ht hm ?_, fun h => State.does_tdi _ rfl hs ht hm ?_, fun h => State.does_tdi _ rfl hs ht hm ?_,
    fun h => State.does_tdi _ rfl hs ht hm ?_, fun h => State.does_tdi _ rfl hs ht hm ?_, fun h => State.does_tdi _ rfl hs ht hm ?_,
    fun h => State.does_tdi _ rfl hs ht hm ?_⟩
  · rw [Block.canon_rd, Block.canon_rd, Block.canon_says]
    exact Block.tdiLock_locks h
  · rw [Block.canon_rd, Block.canon_says, Block.tdiLock_refused h, Block.spdm_rd rfl]
    exact ⟨rfl, Block.says_spdm (by rfl) ..⟩
  · rw [Block.canon_rd, Block.canon_says]
    exact Block.tdiStart_runs h
  · rw [Block.canon_rd, Block.canon_says, Block.tdiStop_unlocked h, Block.spdm_rd rfl]
    exact ⟨h, Block.says_spdm (by rfl) ..⟩
  · rw [Block.canon_fn]
    exact Block.tdiStop_resets h
  · exact Block.tdiReport_on hf h
  · rw [Block.canon_says, Block.tdiReport_off hf h]
    exact Block.says_spdm (by rfl) ..

end Sys2Proof.Machine
end
